-- ==== Sys2Proof/Word.lean ====
section
/-! DEFINITION. The word types of the part and the index types its numbering rules give (R13, R16, R83, R127). -/

namespace Sys2Proof

/-- A register word: every register is 32 bits wide (R16). -/
abbrev Word := BitVec 32

/-- A byte of a frame, a block, a record or a parcel. -/
abbrev Byte := BitVec 8

/-- A SHA-384 digest as its 48 bytes, first byte first (R128). -/
abbrev Digest := List Byte

/-- A die number d = 0 to 7 (R13). -/
abbrev DieId := Fin 8

/-- A channel number n = 0 to 63 (R13). -/
abbrev ChanId := Fin 64

/-- A forme of a die, 0 to 31 (R83). -/
abbrev FormeId := Fin 32

/-- A tree descriptor of a die, 0 to 255 (R127). -/
abbrev TreeId := Fin 256

/-- A care region of a die, 0 to 31 (R184). -/
abbrev RegionId := Fin 32

/-- A PCTL line, 0 to 31, or a proof gate, 0 to 31 (R152). -/
abbrev LineId := Fin 32

/-- A sentry core of a die, 0 to 3. -/
abbrev CoreId := Fin 4

/-- A master port: 0 HOME, 1 VLT0, 2 VLT1 (R250, R269). -/
abbrev PortId := Fin 3

/-- A PCIe function: 0 the PF, 1 to 255 the VFs (R348). -/
abbrev FnId := Fin 256

/-- A queue pair of a function (R348). -/
abbrev PairId := Fin 128

/-- A guard source, s = 0 to 88 (R403). -/
abbrev SourceId := Fin 89

end Sys2Proof
end

