-- ==== Sys2Proof/Syntax.lean ====
section
/-! DEFINITION. The commands of the part: one constructor of `Instr` for each row of the table of operations and events,
with the operands each takes from outside the part. Bytes that a flash, the host's memory, a neighbour or firmware's own
stores supply are operands, because those parties lie outside the part. -/

namespace Sys2Proof

/-- Who makes a register access (R298, R310, R343, R378, R386, R427). -/
inductive Requester where
  /-- The host, through BAR0 of the physical function. -/
  | pf
  /-- The board controller, through the mailbox port (R378). -/
  | mailbox
  /-- A sentry core of a die. -/
  | sentry (die : DieId) (core : CoreId)
  deriving DecidableEq, Repr

/-- Bits of a 20-bit flit that arrive inverted: the number of the flit in its transfer, and the bits (R198, R199). -/
structure Flip where
  flit : Nat
  bits : BitVec 20
  deriving DecidableEq, Repr

/-- What went wrong on a run of a transfer: the number of its 128-byte span, and the inverted bits of each attempt in order;
an attempt beyond the list arrives whole (R201, R203). -/
structure RunErrors where
  run : Nat
  tries : List (List Flip)
  deriving DecidableEq, Repr

/-- One host frame on a channel as the H side and the flash show it (R9, R45): what was clocked, when, and which bits were
inverted inside the part on the way. -/
structure HostFrame where
  /-- Bytes of the command phase whose last bit was clocked (one byte; two in 8D; none in a continuous read). -/
  cmd : List Byte
  /-- Bytes of the address phase whose last bit was clocked, most significant first. -/
  addr : List Byte
  /-- The first byte of the dummy phase, when it was clocked (R52). -/
  mode : Option Byte
  /-- HSCK edges from the CS# fall, in he (R9). -/
  edges : Nat
  /-- Bytes the host sent in the data phase. -/
  wdata : List Byte
  /-- Bytes the flash launches in the data phase when the frame is forwarded. -/
  flash : List Byte
  /-- Host SCK period over the last two cycles, in units of 0.1 ns. -/
  period : Nat
  /-- When lane A delivers its verdict, in 0.1 ns after the edge that completes what the verdict needs (R102). -/
  delivA : Nat
  /-- When lane B delivers its verdict. -/
  delivB : Nat
  /-- Later granules of a read, counted from 1 after the start granule, whose verdict is not there when due (R103). -/
  lateGranules : List Nat
  /-- Granules of the frame, counted from 0, that the witness engine cannot acknowledge in time (R144). -/
  noAck : List Nat
  /-- Inverted bits of the command and address flits, counted together, at their capture (detection point 1). -/
  capture : List Flip := []
  /-- Inverted bits of the write-data flits, H-side input to F-side output (detection point 2). -/
  outbound : List Flip := []
  /-- Inverted bits of the read-data flits (detection point 3; R44, R161). -/
  inbound : List Flip := []
  /-- Words of the governing forme's bank whose check failed in a lane (`false` lane A) at detection point 10 (R202). -/
  badWords : List (Bool × Nat)
  /-- HCS_N fell before the part had raised the working select of the frame before (R65). -/
  csShort : Bool
  /-- REFCLK cycles with the frame open. -/
  refclks : Nat
  /-- The frame has closed: HCS_N has risen. `false` leaves the frame open with its clock stopped (R29). -/
  closed : Bool
  deriving DecidableEq, Repr

/-- How a hash job went that a command runs by itself (R218 to R223). -/
structure LaneRun where
  /-- The lane that takes the message first. -/
  lane : Nat := 0
  /-- The wrong digest of a faulty lane. -/
  corrupt : Option Digest := none
  /-- What the second lane gives where a mismatch calls for one; `none` for the message's own digest. -/
  second : Option Digest := none
  /-- Second lanes that fail while they confirm a mismatch (Table 6.6). -/
  again : Nat := 0
  /-- Times that JOB_TIMEOUT passed before a result was accepted (R219). -/
  timeouts : Nat := 0
  deriving DecidableEq, Repr

/-- Data read by an own frame (R71): the bytes of the attempts that arrived whole, and the runs with errors at point 4 (R202,
R203). -/
structure OwnRead where
  data : List Byte
  runs : List RunErrors := []
  /-- CS# of the own frame has not risen by the event that follows this one: nothing has been read yet (R72,
  CH_STATUS.OWN_OPEN). -/
  still : Bool := false
  /-- Failed checks at point 5 of a run of the block on its way into a lane, where the block is hashed as soon as it is read; the
  third costs a further read, whose bytes `data` then holds. -/
  feeds : Nat := 0
  /-- Failed checks at point 6 of the lane's output; the third takes the lane out. -/
  outputs : Nat := 0
  /-- How the block's hash job goes. -/
  hash : LaneRun := {}
  /-- Levels of a sweep or preload leaf's path whose digest-cache line fails its check bits on reading (point 7). -/
  lines : List Nat := []
  deriving DecidableEq, Repr

/-- One attempt of a vault read (R172, R173): the bytes, or `none` where the device or the port reports an error; what
feature 0xC0 reads after each page of an SPI-NAND read; and the runs with errors on receipt (detection point 8). -/
structure VaultAttempt where
  data : Option (List Byte)
  pages : List Byte := []
  runs : List RunErrors := []
  deriving DecidableEq, Repr

/-- A vault read: its attempts in order, up to three on the device and then up to three on the mirror (R173). -/
abbrev VaultGet := List VaultAttempt

/-- What the fetches of one proof-tree group returned: first fetch, second fetch, mirror (R133, R148, R175). -/
structure GroupFetch where
  first : VaultGet := []
  second : VaultGet := []
  mirror : VaultGet := []
  /-- How the hash job of each fetch that arrived goes, in order. -/
  hash : List LaneRun := []
  /-- Times the parent's digest-cache line fails its check bits on reading (point 7; R138). -/
  parentBad : Nat := 0
  deriving DecidableEq, Repr

/-- A block of the image with the groups of its path, level 0 first, as read from home flash. -/
structure BootRead where
  data : List Byte
  path : List (List Byte)
  /-- How the hash job of the block goes, and those of the groups by level (R217, R218, R223). -/
  hash : LaneRun := {}
  pathHash : List LaneRun := []
  /-- Levels of the path whose digest-cache line fails its check bits on reading (R138). -/
  lines : List Nat := []
  deriving DecidableEq, Repr

/-- One erase, program and read-back round of a care unit (R193, steps 6 to 8). -/
structure CareRound where
  /-- What the status polls read after the erase and after each page, operation by operation; one that is not listed reads idle
  and good at its first poll. -/
  polls : List (List Byte) := []
  /-- Runs of the care buffer with errors on their way out (detection point 11; R202, R203). -/
  out : List RunErrors := []
  readBack : List OwnRead
  deriving DecidableEq, Repr

/-- What the sources of a care unit return, block by block in unit order, and the write rounds (R193). -/
structure CareRun where
  flash : List OwnRead
  golden : List VaultGet
  /-- How the hash jobs of the golden blocks go. -/
  goldenHash : List LaneRun := []
  twin : List OwnRead
  /-- The groups that each block's path lacks in the digest cache, from the lowest trusted level downward (R139). -/
  paths : List (List GroupFetch) := []
  round1 : CareRound
  round2 : CareRound
  /-- Results of the vault's programs and erases in order (R171); one that is not listed reports no failure. -/
  writes : List Bool := []
  deriving DecidableEq, Repr

/-- An INTENT without a later DONE or FAILED in a die's journal (R195): the unit's first granule, its granules, its channel, and
whether it names the twin. -/
structure Intent where
  die : DieId
  base : Nat
  count : Nat
  ch : Fin 8
  twin : Bool
  deriving DecidableEq, Repr

/-- What the start of media care finds in the vault (R170, R177, R195, MC_FAULT.SEAL). -/
structure VaultScan where
  /-- The two copies of each SPI-NAND device's bad-block map. -/
  maps : List (Fin 4 × List Byte × List Byte) := []
  /-- Sealed units that fail their tag: die, and place in its health log, or `none` for the journal. -/
  broken : List (DieId × Option Nat) := []
  deriving DecidableEq, Repr

/-- An access of the part to host memory (R360): whether the link completes it without an error, and the runs with errors inside
the part (detection point 13). -/
structure MemAccess where
  linkOk : Bool := true
  runs : List RunErrors := []
  deriving DecidableEq, Repr

/-- What the mask ROM reads of one firmware slot (R278). -/
structure SlotInput where
  /-- Header bytes 0x000 to 0x17F. -/
  header : List Byte
  colophon : Option (List Byte)
  /-- The pinned groups (level, index, bytes) and every other group the checks use. -/
  groups : List (Nat × Nat × List Byte)
  leaf0 : Option (List Byte)
  /-- The TRIAL chunk programs correctly (step 9). -/
  trialOk : Bool
  /-- A read at step 6 or later gave no data or no strobe (R279). -/
  noData : Bool
  deriving DecidableEq, Repr

/-- A Ralver parcel: the header of Table 13.2 and its payload (R390). -/
structure Parcel where
  type : Byte
  flags : Byte
  src : Nat
  dst : Nat
  hops : Nat
  session : Nat
  seq : Nat
  lseq : Byte
  payload : List Byte
  deriving DecidableEq, Repr

/-- A supply with a monitor (R456, Table 16.11). -/
inductive Supply where
  | vdd (d : DieId) | vddm (d : DieId) | vioa (d : DieId) | viob (d : DieId)
  | vddaon | vddpe | vddph | vfuse
  deriving DecidableEq, Repr

/-- A reset source as Table 7.2 lists them, for a source recognised while a reset runs (R240). -/
inductive ResetSource where
  | por | brownOut | rstN | refclk | guard | mailboxPart | ralverPart
  | hifCmd | perst | linkDown | flrPf | dieReset (d : DieId) | watchdogDie (d : DieId) | watchdogPart
  deriving DecidableEq, Repr

/-- A frame of a hardware requester's operation on a master port (R261, R262). -/
inductive HwStep where
  /-- The read frame itself; on SPI-NAND the read from cache. -/
  | read
  /-- SPI-NAND: the page read to cache. -/
  | load
  /-- A status poll. -/
  | poll
  /-- Write enable. -/
  | wren
  /-- The program frame; on SPI-NAND the program load. -/
  | program
  /-- SPI-NAND: program execute. -/
  | execute
  | erase
  deriving DecidableEq, Repr

/-- What a master port does in one frame it takes at a boundary (R260): whose frame, and what the device and the pins
showed. -/
structure MpEvent where
  /-- 0 firmware queue, 1 XIP or witness, 2 folio or media care, 3 a poll of the part itself (R261). -/
  owner : Nat
  /-- Select of a hardware frame. -/
  sel : Bool
  /-- Inbound bytes, as the device drove them. -/
  inbound : List Byte
  /-- An 8D input phase saw no DQS edge (R252). -/
  noStrobe : Bool
  /-- Failed attempts at detection point 8 (R263). -/
  badIn : Nat
  /-- An outbound flit failed its check at the pin driver (R263). -/
  badOut : Bool
  /-- What a hardware frame does: its place in the operation, the device byte address, and the bytes it programs (R262). -/
  step : HwStep := .read
  addr : Nat := 0
  out : List Byte := []
  /-- The 128-byte run of a hardware read that is read again after each failed attempt (R201, R263). -/
  badRun : Nat := 0
  /-- Microseconds that the requester has waited, and the other requesters that wait: owner and microseconds (R260). -/
  waited : Nat := 0
  rivals : List (Nat × Nat) := []
  deriving DecidableEq, Repr

/-- How a load, store or fetch trapped (R288). -/
inductive AccessKind where
  | fetch | load | store
  deriving DecidableEq, Repr

/-- What the fuse controller sees of a row at the three references after a pulse (R303, R311). -/
structure PulseResult where
  nominal : Bool
  high : Bool
  low : Bool
  deriving DecidableEq, Repr

/-- A register of a channel that R54 or R122 protects (CHANNEL_CONFIG_WRITE). -/
inductive ChanCfgReg where
  | proto | timing | fill
  | sfdp (k : Fin 192) | ident (k : Fin 4) | shadowCtrl
  | ssCtrl | ssView0 | ssView1 | ssIdle | ssTime0 | ssTime1
  deriving DecidableEq, Repr

/-- Where a staging write goes (R112, R126). -/
inductive StagingTarget where
  | opc (d : DieId) (f : FormeId) (k : Fin 64)
  | slug (d : DieId) (f : FormeId) (s : Fin 64) (w : Fin 4)
  | bind (ch : ChanId)
  deriving DecidableEq, Repr

/-- A writable register of a tree descriptor (R166). -/
inductive TdReg where
  | cfg | base | leaves | vaddr | caddr | region | floor
  deriving DecidableEq, Repr

/-- A writable register of a care region (R197). -/
inductive CrReg where
  | cfg | ops | ops2 | base | count | gaddr | scrub | refresh | endur | state
  deriving DecidableEq, Repr

/-- A release-plan register (R167). -/
inductive PlanReg where
  | gates (k : LineId) | client (ch : ChanId)
  deriving DecidableEq, Repr

/-- Bytes that sentry cores have stored in their own die's core SRAM since the command before: (die, sentry address, byte).
Stores of a core to its SRAM have no row of their own, so the commands that hand SRAM contents to the part carry them. -/
abbrev Stores := List (DieId × Nat × Byte)

/-- The commands of the part, one constructor for each row of the table of operations and events. -/
inductive Instr where
  -- Registers (R16 to R18)
  | regWrite (req : Requester) (addr : Nat) (width : Nat) (value : Word)
  -- Channels (02)
  | hostFrame (ch : ChanId) (f : HostFrame)
  | shadowBusyExpire (ch : ChanId)
  | frameTimeout (ch : ChanId)
  | hrstAssert (ch : ChanId)
  | hrstRelease (ch : ChanId)
  | deferredResetAssert (ch : ChanId)
  | deferredResetEnd (ch : ChanId)
  | chCtrlWrite (req : Requester) (ch : ChanId) (value : Word)
  | stateChange (ch : ChanId)
  | channelConfigWrite (req : Requester) (ch : ChanId) (reg : ChanCfgReg) (value : Word)
  | shapeDataAccess (req : Requester) (ch : ChanId) (write : Option Word)
  | chLastopRead (req : Requester) (ch : ChanId)
  | chResetAssert (req : Requester) (ch : ChanId) (value : Word)
  | swap (req : Requester) (ch : ChanId) (value : Word)
  | swapApply (ch : ChanId)
  | completionRead (ch : ChanId) (granule : Nat) (read : OwnRead)
  | statusPoll (ch : ChanId) (status : Byte) (still : Bool := false)
  -- Formes and policy epochs (03)
  | stagingWrite (req : Requester) (target : StagingTarget) (value : Word)
  | epochGo (req : Requester) (value : Word)
  | epochChecksComplete
  | channelTakeEpoch (ch : ChanId)
  | epochDeadline
  | epochSwitchComplete
  | stageCopyDone (d : DieId)
  | fmQuoinWrite (req : Requester) (d : DieId) (value : Word)
  | fmLsinfoRead (req : Requester) (d : DieId)
  -- Witness (04)
  | load (req : Requester) (d : DieId) (t : TreeId)
  | loadDone (d : DieId) (colophon : VaultGet) (pinned : List GroupFetch)
  | unload (req : Requester) (d : DieId) (t : TreeId)
  | sweep (req : Requester) (d : DieId) (t : TreeId) (reads : List OwnRead)
  | sweepDone (d : DieId) (reads : List OwnRead)
  | preload (req : Requester) (d : DieId) (t : TreeId) (reads : List OwnRead)
  | preloadPin (req : Requester) (d : DieId) (t : TreeId) (reads : List OwnRead)
  | unpin (req : Requester) (d : DieId) (t : TreeId)
  | descriptorWrite (req : Requester) (d : DieId) (t : TreeId) (reg : TdReg) (value : Word)
  | groupFetchDone (d : DieId) (t : TreeId) (level index : Nat) (fetch : GroupFetch)
  | hashResult (ch : ChanId) (granule : Nat) (gen : Nat) (executor : DieId) (lane : Fin 4) (corrupt : Option Digest)
      (det5 det6 : Fin 4)
  | leafVerdict (ch : ChanId) (granule : Nat) (second : Option Digest) (again : Nat) (badLines : List Nat := [])
  | verdictReport (ch : ChanId)
  | horizonExpire (ch : ChanId) (seq : Word)
  | taintReread (ch : ChanId) (granule : Nat) (read : OwnRead)
  | restartClear (ch : ChanId)
  | gateOpen (g : LineId)
  | pgCtrlWrite (req : Requester) (g : LineId) (value : Word)
  | rpLineWrite (req : Requester) (k : LineId) (value : Word)
  | releasePlanWrite (req : Requester) (reg : PlanReg) (value : Word)
  | witConsumedRead (req : Requester) (ch : ChanId)
  -- Media care (05)
  | vaultRead (d : DieId) (port dev : Bool) (addr : Nat) (attempts : VaultGet)
  | vaultRefresh (d : DieId) (port dev : Bool) (block : Nat) (writes : List Bool)
  | vaultDirectoryRead (directory : VaultGet) (scan : VaultScan) (gens : List (DieId × Nat × Nat)) (intents : List Intent)
  | tallyFlush (d : DieId) (writes : List Bool := [])
  | scrubStep (d : DieId) (r : RegionId) (read : OwnRead) (path : List GroupFetch) (golden colophon : VaultGet)
      (goldenHash : LaneRun := {}) (status : Byte := 0)
  | scrubLate (d : DieId) (r : RegionId)
  | refreshDue (d : DieId) (r : RegionId) (block : Nat)
  | careUnit (d : DieId) (run : CareRun)
  | careUnitComplete (d : DieId) (writes : List Bool := [])
  | recover (req : Requester) (d : DieId) (value : Word)
  | refresh (req : Requester) (d : DieId) (value : Word)
  | twinCheck (req : Requester) (d : DieId) (value : Word) (reads : List OwnRead) (paths : List (List GroupFetch) := [])
  | scrubRestart (req : Requester) (d : DieId) (value : Word)
  | flush (req : Requester) (d : DieId) (value : Word) (writes : List Bool := [])
  | careRegionWrite (req : Requester) (d : DieId) (r : RegionId) (reg : CrReg) (value : Word)
  -- Faults, fabric and hash pool (06)
  | faultReport (d : DieId) (dseq : Nat)
  | stormEnd (d : DieId)
  | fqHeadRead (req : Requester) (d : DieId) (checkFails : Bool)
  | fqPop (req : Requester) (d : DieId) (value : Word)
  | dieUnreachable (d : DieId)
  | dieReachable (d : DieId)
  | hopDown (d : DieId) (toward : Bool)
  | hopCheck (d : DieId) (toward : Bool) (run : Nat := 0)
  | capacityAdvert (d : DieId) (free : Nat)
  | jobTimeout (ch : ChanId) (granule : Nat) (executor : DieId)
  | fence (executor owner : DieId) (gen : Nat)
  | fenceAck (owner executor : DieId)
  | laneKat (d : DieId) (lane : Fin 4) (pass : Bool)
  -- Reset, clocks and freeze (07)
  | powerOnReset (vio33 : List Nat)
  | brownOut (s : Supply) (rc : Fin 501 := 0)
  | supplyGood (s : Supply)
  | rstNAssert
  | refclkLoss (rc : Fin 501 := 0)
  | refclkGood
  | pciePerst
  | pcieLinkReset
  | flr (f : FnId)
  | rcDieResetWrite (req : Requester) (value : Word)
  | watchdogExpire (d : DieId) (k : CoreId)
  | tapReset
  | resetTakesHold (rc : Fin 501 := 0)
  | deferralLimit
  | resetMerge (src : ResetSource) (rc : Fin 501 := 0)
  | holdEnd
  | pllRetry (unlocked : List DieId)
  | releaseFuse
  | releaseFabric
  | trainingDeadline (unreached : List DieId)
  | releaseHashCrypto (badLanes : List (DieId × Fin 4)) (badKeyUnits : List DieId)
  | releaseSentry
  | releaseDie (d : DieId)
  | releaseHif
  | releaseRlv
  | frzNAssert
  | freeze
  | frzread (op : Fin 4) (addr : Word)
  | extest (cells : List Bool)
  | idcode
  | samplePreload (cells : List Bool)
  | bypass
  -- Master ports and the XIP window (08)
  | mpQptrWrite (req : Requester) (p : PortId) (value : Word) (stores : Stores)
  | mpQueueConfigWrite (req : Requester) (p : PortId) (qctl : Bool) (value : Word)
  | mpFrame (p : PortId) (ev : MpEvent)
  | mpFrameDone (p : PortId)
  | pollRepeat (p : PortId) (ev : MpEvent)
  | pollLimit (p : PortId)
  | writePollTimeout (p : PortId) (sel : Bool)
  | xipRead (d : DieId) (k : CoreId) (addr : Nat) (kind : AccessKind)
  | xipFillDone (leaf : Nat) (first second : BootRead)
  | xipStall (leaf : Nat)
  | xipStore (d : DieId) (k : CoreId) (addr : Nat)
  | xipCtrlWrite (req : Requester) (value : Word)
  -- Boot and firmware update (09)
  | romBoot (a b : SlotInput)
  | bootBlockVerified (d : DieId) (leaf : Nat) (first second : BootRead)
  | handOver (failing : List DieId)
  | backoffExpire
  | confirm (req : Requester) (ok : Bool)
  | confirmWindowExpire
  | check (req : Requester) (slot : Bool)
  | checkDone (s : SlotInput) (leaves : List (List Byte))
  | recopy (req : Requester) (d : DieId)
  | snCoreReleaseWrite (req : Requester) (d : DieId) (value : Word)
  | wdtKick (req : Requester) (d : DieId) (k : CoreId) (value : Word)
  | busError (d : DieId) (k : CoreId) (kind : AccessKind) (addr : Word)
  | machineCheck (d : DieId) (k : CoreId) (addr : Word)
  -- Fuses (10)
  | fuRead (req : Requester) (value : Word)
  | fuReadMargin (req : Requester) (value : Word)
  | fuProgram (req : Requester) (value : Word)
  | fuFinalise (req : Requester) (value : Word)
  | fuGenUds (req : Requester) (value : Word)
  | fuAdvanceRollback (req : Requester) (value : Word)
  | fuAdvanceTamper (req : Requester) (value : Word)
  | fuRevoke (req : Requester) (value : Word)
  | fuAdvanceLc (req : Requester) (value : Word)
  | fuMarginScan (req : Requester) (value : Word)
  | fucmd (wdata cmd : Word)
  | fustat
  | fusePulseEnd (result : PulseResult)
  | vfuseExcursion
  -- Identity, keys and attestation (11)
  | kuBind (req : Requester) (stores : Stores) (erases writes : List Bool) (factoryBad : List (Fin 4 × Nat))
  | kuDeriveFw (req : Requester) (stores : Stores)
  | bindNonceRead (req : Requester)
  | keyUnitFault (d : DieId)
  | signingComplete (mem : MemAccess)
  | setEndpointId (eid : Byte)
  | getEndpointId
  | getMctpVersionSupport
  | getMessageTypeSupport
  | spdmGetVersion (eid : Byte)
  | spdmGetCapabilities (eid : Byte)
  | spdmNegotiateAlgorithms (eid : Byte)
  | spdmChallenge (eid : Byte) (summary : Byte) (nonce : List Byte)
  | spdmGetMeasurements (eid : Byte) (index : Byte) (signed : Bool) (nonce : List Byte)
  | spdmRespondIfReady (eid : Byte)
  -- Host interface, rings and mailbox (12)
  | sqTail (f : FnId) (q : PairId) (value : Word)
  | cqHead (f : FnId) (q : PairId) (value : Word)
  | commandStart (f : FnId) (q : PairId) (ctx : List Word) (ctxMem : MemAccess) (entry : List Word := []) (mem : MemAccess := {})
  | completionWrite (f : FnId) (q : PairId) (mem : MemAccess)
  | ringNop (f : FnId) (q : PairId) (n : Nat)
  | createPair (f : FnId) (q : PairId) (n : Nat)
  | deletePair (f : FnId) (q : PairId) (n : Nat)
  | identify (f : FnId) (q : PairId) (n : Nat) (mem : MemAccess)
  | resetHif (f : FnId) (q : PairId) (n : Nat)
  | getPubkeys (f : FnId) (q : PairId) (n : Nat) (mem : MemAccess)
  | leaseOpen (f : FnId) (q : PairId) (n : Nat)
  | leaseClose (f : FnId) (q : PairId) (n : Nat)
  | leaseEvidence (f : FnId) (q : PairId) (n : Nat)
  | counterRead (f : FnId) (q : PairId) (n : Nat) (mem : MemAccess)
  | firmwareCommand (f : FnId) (q : PairId) (n : Nat) (dataIn : List Byte) (mem : MemAccess := {})
  | hiFwTakeRead (req : Requester)
  | hiFwDone (req : Requester) (value : Word) (stores : Stores) (mem : MemAccess)
  | fwTimeout (slot : Fin 16)
  | hiCtxCtrlWrite (req : Requester) (value : Word)
  | fnActrlWrite (f : FnId) (value : Word)
  | mbWrite (addr : Word) (words : List Word) (cut : Bool)
  | mbReadReq (addr : Word) (count : Byte) (cut : Bool)
  | mbReadBufferReady (checkFails : Bool)
  | mbReadData (clocked : Nat)
  | mbClear
  | mbSetQuad (arg : Byte)
  | mbReset (scope : Byte) (key : Word)
  | mbMsgSend (count : Byte) (words : List Word) (cut : Bool)
  | mbMsgRecv (clocked : Nat)
  | mbRescueData (offset : Word) (chunk : List Byte) (cut : Bool)
  | rescueTimeout
  | mailboxFrameTimeout
  | mbOutlenWrite (req : Requester) (value : Word)
  | mbInlenWrite (req : Requester) (value : Word)
  -- Ralver chain link (13)
  | portUp (p : Bool)
  | portDown (p : Bool)
  | parcelReceive (p : Bool) (parcel : Parcel) (crcOk : Bool)
  | linkAck (p : Bool) (nak : Bool) (x : Byte)
  | resendTimeout (p : Bool)
  | transmitParcel (req : Requester) (value : Word) (stores : Stores)
  | rvIdent
  | rollcall (req : Requester) (value : Word)
  | rollcallParcel
  | rolldone
  | rvBreak
  | rvOpen
  | rvColophon
  | rvTree
  | rvBlock
  | rvEnd
  | resendReq
  | rvBusy
  | rvCommand
  | rvReply
  | rvMessage
  | sessionAbort (req : Requester) (value : Word)
  | sessionTimeout
  | rvCseqRead (req : Requester)
  -- Guard and folio (14)
  | squall (s : SourceId)
  | front (s : SourceId)
  | psnsChange (p : Fin 16) (level : Bool)
  | guardEvent (sources : List SourceId)
  | holdoffExpire (s : SourceId)
  | guardReset
  | gdLock (req : Requester) (value : Word)
  | gdUnlock (req : Requester) (value : Word) (stores : Stores)
  | unlockNonceRead (req : Requester)
  | gdSrcCntRead (req : Requester) (s : SourceId)
  | folioOpen (dev0 dev1 : List (List Byte))
  | folioRecordWrite (ok0 ok1 : List Bool)
  | folioTick
  | foAppend (req : Requester) (value : Word) (stores : Stores)
  | foAdopt (req : Requester) (value : Word)
  | foSeqRead (req : Requester)
  | otTick
  -- Performance observation (15)
  | obCntRead (req : Requester) (d : DieId) (e : Fin 1024)
  | obCntWrite (req : Requester) (d : DieId) (e : Fin 1024) (value : Word) (inc : Nat)
  | obChainWrite (req : Requester) (d : DieId) (m : Fin 16) (value : Word)
  | watchConfigWrite (req : Requester) (d : DieId) (slot : Fin 16) (period : Bool) (value : Word)
  | watchFire (d : DieId) (slot : Fin 16) (pc data latency extra : Word)
  | obPrecPtrWrite (req : Requester) (d : DieId) (value : Word)
  | obPrecLostRead (req : Requester) (d : DieId)
  | hpStaleRead (req : Requester) (d : DieId)
  | hpMigratedRead (req : Requester) (d : DieId)
  -- Added later by the table
  | levelSourceReleased (perst : Bool)
  | pcieLinkUp (speed width : Nat)
  | vfEnable (numVfs : Nat) (enable : Bool)
  | addedEachMicrosecond
  deriving DecidableEq, Repr

end Sys2Proof
end

