-- ==== Sys2Proof/Config.lean ====
section
/-! DEFINITION. What the spec leaves open or takes from a published standard: uninterpreted constants, so that every claim
holds whatever they are. The cryptographic functions are those R19 names by standard; their definitions are not in the spec
(notes/assumptions/1.md). The free values stand where the spec states no value (notes/assumptions/2.md). -/

namespace Sys2Proof.Config

/-- A value the spec does not state, as a word; the argument is the machine's counter of free values. -/
opaque freeWord : Nat → BitVec 32

/-- A byte the spec does not state. -/
opaque freeByte : Nat → BitVec 8

/-- SOURCE of a fault code for which the spec states none (R206, Table 6.5), by code (notes/assumptions/2.md). -/
opaque freeSource : Nat → BitVec 16

/-- What a flash returns where the command that starts the reads carries no operand for it (notes/assumptions/2.md). -/
opaque freeReads : Nat → List OwnRead

/-- The factory bad blocks of the vault devices, likewise (R170). -/
opaque freeBlocks : Nat → List (Fin 4 × Nat)

/-- The results of a vault's programs and erases, likewise (R171). -/
opaque freeWrites : Nat → List Bool

/-- Random bits the part draws (nonces, R331, R335, R413; the UDS, R316), by counter. -/
opaque random : Nat → BitVec 384

/-- A byte of core SRAM that a die reset left undefined (R285): by reset generation and address. -/
opaque sramByte : Nat → Nat → BitVec 8

/-- SHA-384 of a message (FIPS 180-4, R128). -/
opaque sha384 : List Byte → BitVec 384

/-- SHA3-384 of a message (FIPS 202, R325). -/
opaque sha3384 : List Byte → BitVec 384

/-- ECDSA P-384 verification: public key, message, signature (FIPS 186-5, R131). -/
opaque ecdsaVerify : List Byte → List Byte → List Byte → Bool

/-- ML-DSA-87 verification: public key, message, signature (FIPS 204, R131). -/
opaque mldsaVerify : List Byte → List Byte → List Byte → Bool

/-- ECDSA P-384 signature of a message under a private key; the last argument is the machine's counter of random values
(R341). -/
opaque ecdsaSign : BitVec 384 → List Byte → Nat → List Byte

/-- ML-DSA-87 signature of a message under the key of a seed, in the pure form with an empty context (R341). -/
opaque mldsaSign : List Byte → List Byte → Nat → List Byte

/-- The P-384 private key that FIPS 186-5 makes of 56 random bytes, (c mod (n − 1)) + 1 (R325). -/
opaque p384Private : List Byte → BitVec 384

/-- The 97-byte uncompressed public key of a P-384 private key (R326). -/
opaque ecdsaPublic : BitVec 384 → List Byte

/-- The ML-DSA-87 public key that ML-DSA.KeyGen_internal makes of a 32-byte seed (R325, R326). -/
opaque mldsaPublic : List Byte → List Byte

/-- The mask ROM image of the stepping (R336, measurement block 1). -/
opaque romImage : List Byte

/-- The transcript that an SPDM 1.3 signature covers, from the content of a response; the layouts of the messages are
SPDM's own (R333). -/
opaque spdmTranscript : List Byte → List Byte

/-- Physical blocks of a vault device, by port × 2 + DEV: a property of the SPI-NAND fitted (R169). -/
opaque vaultBlocks : Nat → Nat

/-- Genair's JEP106 identity code, 11 bits (R470 names it without its value). -/
opaque jep106 : BitVec 11

/-- The SHA-384 digest of the manufacturing key that the mask ROM holds (R277). -/
opaque manufacturingKey : BitVec 384

/-- AES-256-GCM opening (SP 800-38D, R176): key, IV, additional data, ciphertext, tag; the plaintext, or nothing when the tag
fails. -/
opaque gcmOpen : List Byte → List Byte → List Byte → List Byte → List Byte → Option (List Byte)

/-- AES-256-GCM sealing: key, IV, additional data, plaintext; the ciphertext and the 16-byte tag (R176). -/
opaque gcmSeal : List Byte → List Byte → List Byte → List Byte → List Byte × List Byte


end Sys2Proof.Config
end

