-- ==== Sys2Proof/Machine/Tbl.lean ====
section
/-! DEFINITION. Sparse maps as plain data: lists of key and value pairs. A key that is not listed reads as a default that the
reader names, and writing the default removes the entry, so that equal maps are equal lists. -/

namespace Sys2Proof.Machine

/-- A sparse map from numbers. -/
abbrev Tbl (α : Type) := List (Nat × α)

/-- The value at a key, `d` where none is listed. -/
def Tbl.get {α : Type} (t : List (Nat × α)) (k : Nat) (d : α) : α :=
  match t with
  | [] => d
  | (k', v) :: r => if k' = k then v else Tbl.get r k d

/-- Put a pair before the first larger key. -/
def Tbl.insert {α : Type} (t : List (Nat × α)) (k : Nat) (v : α) : List (Nat × α) :=
  match t with
  | [] => [(k, v)]
  | (k', v') :: r => if k < k' then (k, v) :: (k', v') :: r else (k', v') :: Tbl.insert r k v

/-- Drop a key. -/
def Tbl.drop {α : Type} (t : List (Nat × α)) (k : Nat) : List (Nat × α) :=
  t.filter fun p => decide (p.1 ≠ k)

/-- Set a key; the default `d` is stored as no entry. -/
def Tbl.set {α : Type} [DecidableEq α] (t : List (Nat × α)) (k : Nat) (v d : α) : List (Nat × α) :=
  if v = d then Tbl.drop t k else Tbl.insert (Tbl.drop t k) k v

/-- The canonical form: keys strictly rising, no entry equal to the default. -/
def Tbl.wf {α : Type} [DecidableEq α] (t : List (Nat × α)) (d : α) : Bool :=
  match t with
  | [] => true
  | (_, v) :: [] => decide (v ≠ d)
  | (k, v) :: (k', v') :: r => decide (v ≠ d) && decide (k < k') && Tbl.wf ((k', v') :: r) d

end Sys2Proof.Machine
end

