-- ==== Sys2Proof/Machine/Bits.lean ====
section
/-! DEFINITION. Bit fields, byte orders and small arithmetic that the meanings share. -/

namespace Sys2Proof.Machine

/-- The field of `width` bits at `lo` of a number. -/
def bitsOf (v lo width : Nat) : Nat := (v / 2 ^ lo) % 2 ^ width

/-- One bit of a number. -/
def bitOf (v n : Nat) : Bool := v.testBit n

/-- A number with a field replaced. -/
def setBits (v lo width x : Nat) : Nat :=
  v - bitsOf v lo width * 2 ^ lo + (x % 2 ^ width) * 2 ^ lo

/-- A truth value as a bit. -/
def b2n (b : Bool) : Nat := if b then 1 else 0

/-- The `n` bytes of `v`, most significant first (be32 of R128 with n = 4). -/
def beBytes : Nat → Nat → List Byte
  | 0, _ => []
  | n + 1, v => beBytes n (v / 256) ++ [BitVec.ofNat 8 v]

/-- The number that bytes spell, most significant first. -/
def ofBe (l : List Byte) : Nat := l.foldl (fun a b => a * 256 + b.toNat) 0

/-- The `n` bytes of `v`, least significant first. -/
def leBytes : Nat → Nat → List Byte
  | 0, _ => []
  | n + 1, v => BitVec.ofNat 8 v :: leBytes n (v / 256)

/-- The number that bytes spell, least significant first. -/
def ofLe : List Byte → Nat
  | [] => 0
  | b :: r => b.toNat + 256 * ofLe r

/-- The `n` bytes at offset `o`, 0x00 beyond the end. -/
def sliceB (l : List Byte) (o n : Nat) : List Byte :=
  let t := (l.drop o).take n
  t ++ List.replicate (n - t.length) 0

/-- Byte `i`, 0x00 beyond the end. -/
def byteAt (l : List Byte) (i : Nat) : Byte := l.getD i 0

/-- The 48 bytes of a 384-bit digest, first byte first. -/
def digestOf (d : BitVec 384) : Digest := beBytes 48 d.toNat

/-- One byte into a CRC-32C register (Castagnoli polynomial, reflected). -/
def crcByte (c : BitVec 32) (b : Byte) : BitVec 32 :=
  (List.range 8).foldl (fun c _ => if c.getLsbD 0 then (c >>> 1) ^^^ 0x82F63B78#32 else c >>> 1) (c ^^^ b.zeroExtend 32)

/-- CRC-32C of a byte string, with the initial value, reflection and final inversion of RFC 3720 (PRESUMED, log entry 151). -/
def crc32c (l : List Byte) : BitVec 32 := ~~~ (l.foldl crcByte 0xFFFFFFFF#32)

/-- Ceiling division. -/
def ceilDiv (a b : Nat) : Nat := (a + b - 1) / b

/-- The list of the numbers below `n` that satisfy `p`. -/
def numsBelow (n : Nat) (p : Nat → Bool) : List Nat := (List.range n).filter p

/-- Whether `x` is listed. -/
def mem (x : Nat) (l : List Nat) : Bool := l.any fun y => decide (y = x)

end Sys2Proof.Machine
end

