-- ==== Sys2Proof/Machine/RegName.lean ====
section
/-! DEFINITION. The names of the registers the spec gives the part (one for each register table of chapters 00 to 15),
and, after them, of the word arrays that the spec describes without a register of their own. -/

namespace Sys2Proof.Machine

/-- A register, or an array of registers of one form, under the name the spec gives it. -/
inductive RegName where
  -- Scope (00_scope.md)
  /-- R7, 00_scope.md. -/
  | PART_INFO
  -- Channels (02_channels.md)
  /-- R81, 02_channels.md. -/
  | CH_CTRL
  /-- R81, 02_channels.md. -/
  | CH_STATUS
  /-- R81, 02_channels.md. -/
  | CH_PROTO
  /-- R81, 02_channels.md. -/
  | CH_TIMING
  /-- R81, 02_channels.md. -/
  | CH_FILL
  /-- R81, 02_channels.md. -/
  | CH_TIMEOUT
  /-- R81, 02_channels.md. -/
  | CH_TWIN
  /-- R81, 02_channels.md. -/
  | CH_RESET
  /-- R81, 02_channels.md. -/
  | CH_OWN
  /-- R81, 02_channels.md. -/
  | CH_FAULT
  /-- R81, 02_channels.md. -/
  | CH_PERIOD
  /-- R81, 02_channels.md. -/
  | CH_LASTOP
  /-- R81, 02_channels.md. -/
  | CH_LASTADDR
  /-- R81, 02_channels.md. -/
  | SHAPE_INDEX
  /-- R81, 02_channels.md. -/
  | SHAPE_DATA
  /-- R81, 02_channels.md. -/
  | SHADOW_SFDP
  /-- R81, 02_channels.md. -/
  | SHADOW_ID
  /-- R81, 02_channels.md. -/
  | SHADOW_CTRL
  -- Formes and epochs (03_formes.md)
  /-- R126, 03_formes.md. -/
  | FM_STATUS
  /-- R126, 03_formes.md. -/
  | FM_CTRL
  /-- R126, 03_formes.md. -/
  | FM_FAULT
  /-- R126, 03_formes.md. -/
  | FM_LSINFO
  /-- R126, 03_formes.md. -/
  | FM_QUOIN
  /-- R126, 03_formes.md. -/
  | FM_QUOIN_EFF
  /-- R126, 03_formes.md. -/
  | FM_BIND
  /-- R126, 03_formes.md. -/
  | FM_BIND_EFF
  /-- R126, 03_formes.md. -/
  | SS_CTRL
  /-- R126, 03_formes.md. -/
  | SS_VIEW0
  /-- R126, 03_formes.md. -/
  | SS_VIEW1
  /-- R126, 03_formes.md. -/
  | SS_IDLE
  /-- R126, 03_formes.md. -/
  | SS_TIME0
  /-- R126, 03_formes.md. -/
  | SS_TIME1
  /-- R126, 03_formes.md. -/
  | OPC
  /-- R126, 03_formes.md. -/
  | SLUG
  /-- R126, 03_formes.md. -/
  | EPOCH_CUR
  /-- R126, 03_formes.md. -/
  | EPOCH_CTRL
  /-- R126, 03_formes.md. -/
  | EPOCH_GO
  /-- R126, 03_formes.md. -/
  | EPOCH_STATUS
  /-- R126, 03_formes.md. -/
  | EPOCH_MAP_LO
  /-- R126, 03_formes.md. -/
  | EPOCH_MAP_HI
  /-- R126, 03_formes.md. -/
  | EPOCH_LATE_LO
  /-- R126, 03_formes.md. -/
  | EPOCH_LATE_HI
  -- Witness, gates and release plans (04_witness.md)
  /-- R164, 04_witness.md. -/
  | WIT_STATUS
  /-- R164, 04_witness.md. -/
  | WIT_HORIZON
  /-- R164, 04_witness.md. -/
  | WIT_FAULT
  /-- R164, 04_witness.md. -/
  | WIT_CMD
  /-- R165, 04_witness.md. -/
  | WIT_ARG0
  /-- R165, 04_witness.md. -/
  | WIT_ARG1
  /-- R165, 04_witness.md. -/
  | WIT_CMD_STATUS
  /-- R165, 04_witness.md. -/
  | WIT_OCC
  /-- R165, 04_witness.md. -/
  | WIT_CHCFG
  /-- R165, 04_witness.md. -/
  | WIT_CONSUMED
  /-- R165, 04_witness.md. -/
  | WIT_REPORTED
  /-- R165, 04_witness.md. -/
  | WIT_CHSTAT
  /-- R166, 04_witness.md. -/
  | TD_CFG
  /-- R166, 04_witness.md. -/
  | TD_BASE
  /-- R166, 04_witness.md. -/
  | TD_LEAVES
  /-- R166, 04_witness.md. -/
  | TD_VADDR
  /-- R166, 04_witness.md. -/
  | TD_CADDR
  /-- R166, 04_witness.md. -/
  | TD_REGION
  /-- R166, 04_witness.md. -/
  | TD_FLOOR
  /-- R166, 04_witness.md. -/
  | TD_VERSION
  /-- R166, 04_witness.md. -/
  | TD_STATE
  /-- R166, 04_witness.md. -/
  | TD_SWEEP
  /-- R166, 04_witness.md. -/
  | TD_ROOT
  /-- R166, 04_witness.md. -/
  | RP_LINE
  /-- R166, 04_witness.md. -/
  | RP_GATES
  /-- R166, 04_witness.md. -/
  | RP_CLIENT
  /-- R166, 04_witness.md. -/
  | PG_CTRL
  /-- R166, 04_witness.md. -/
  | PG_STATUS
  -- Media care (05_media_care.md)
  /-- R197, 05_media_care.md. -/
  | MC_CTRL
  /-- R197, 05_media_care.md. -/
  | MC_STATUS
  /-- R197, 05_media_care.md. -/
  | MC_FAULT
  /-- R197, 05_media_care.md. -/
  | MC_CMD
  /-- R197, 05_media_care.md. -/
  | MC_ARG0
  /-- R197, 05_media_care.md. -/
  | MC_ARG1
  /-- R197, 05_media_care.md. -/
  | MC_CMD_STATUS
  /-- R197, 05_media_care.md. -/
  | MC_JOPEN
  /-- R197, 05_media_care.md. -/
  | MC_VCFG
  /-- R197, 05_media_care.md. -/
  | CR_CFG
  /-- R197, 05_media_care.md. -/
  | CR_OPS
  /-- R197, 05_media_care.md. -/
  | CR_OPS2
  /-- R197, 05_media_care.md. -/
  | CR_BASE
  /-- R197, 05_media_care.md. -/
  | CR_COUNT
  /-- R197, 05_media_care.md. -/
  | CR_GADDR
  /-- R197, 05_media_care.md. -/
  | CR_SCRUB
  /-- R197, 05_media_care.md. -/
  | CR_REFRESH
  /-- R197, 05_media_care.md. -/
  | CR_ENDUR
  /-- R197, 05_media_care.md. -/
  | CR_STATE
  -- Faults, hash pool and fabric (06_ordering_and_faults.md)
  /-- R226, 06_ordering_and_faults.md. -/
  | FAULT_US
  /-- R226, 06_ordering_and_faults.md. -/
  | FQ_STATUS
  /-- R226, 06_ordering_and_faults.md. -/
  | FQ_HEAD0
  /-- R226, 06_ordering_and_faults.md. -/
  | FQ_HEAD1
  /-- R226, 06_ordering_and_faults.md. -/
  | FQ_HEAD2
  /-- R226, 06_ordering_and_faults.md. -/
  | FQ_HEAD3
  /-- R226, 06_ordering_and_faults.md. -/
  | FQ_POP
  /-- R226, 06_ordering_and_faults.md. -/
  | FQ_CTRL
  /-- R226, 06_ordering_and_faults.md. -/
  | FQ_TOTAL
  /-- R226, 06_ordering_and_faults.md. -/
  | HP_CTRL
  /-- R226, 06_ordering_and_faults.md. -/
  | HP_STATUS
  /-- R226, 06_ordering_and_faults.md. -/
  | HP_STALE
  /-- R226, 06_ordering_and_faults.md. -/
  | HP_MIGRATED
  /-- R226, 06_ordering_and_faults.md. -/
  | FB_STATUS
  /-- R226, 06_ordering_and_faults.md. -/
  | CF_FAULT
  /-- R226, 06_ordering_and_faults.md. -/
  | IF_FAULT
  -- Reset (07_reset_clocks_freeze.md)
  /-- R249, 07_reset_clocks_freeze.md. -/
  | RC_CAUSE
  /-- R249, 07_reset_clocks_freeze.md. -/
  | RC_COUNT
  /-- R249, 07_reset_clocks_freeze.md. -/
  | RC_DEFER
  /-- R249, 07_reset_clocks_freeze.md. -/
  | RC_DIE_RESET
  /-- R249, 07_reset_clocks_freeze.md. -/
  | RC_DIE_STATE
  /-- R249, 07_reset_clocks_freeze.md. -/
  | RC_WDT_ESC
  /-- R249, 07_reset_clocks_freeze.md. -/
  | RC_CLK
  /-- R249, 07_reset_clocks_freeze.md. -/
  | RC_FAULT
  -- Master ports and XIP (08_master_port.md)
  /-- R269, 08_master_port.md. -/
  | MP_CTRL
  /-- R269, 08_master_port.md. -/
  | MP_STATUS
  /-- R269, 08_master_port.md. -/
  | MP_QBASE
  /-- R269, 08_master_port.md. -/
  | MP_QCTL
  /-- R269, 08_master_port.md. -/
  | MP_QPTR
  /-- R269, 08_master_port.md. -/
  | MP_FAULT
  /-- R269, 08_master_port.md. -/
  | MP_DEVRD
  /-- R269, 08_master_port.md. -/
  | MP_DEVWR
  /-- R269, 08_master_port.md. -/
  | XIP_CTRL
  /-- R269, 08_master_port.md. -/
  | XIP_BASE
  /-- R269, 08_master_port.md. -/
  | XIP_TADDR
  /-- R269, 08_master_port.md. -/
  | XIP_LEAVES
  /-- R269, 08_master_port.md. -/
  | XIP_STATUS
  /-- R269, 08_master_port.md. -/
  | XIP_ROOT
  -- Boot and sentries (09_boot_and_update.md)
  /-- R298, 09_boot_and_update.md. -/
  | BT_STATUS
  /-- R298, 09_boot_and_update.md. -/
  | BT_CTRL
  /-- R298, 09_boot_and_update.md. -/
  | BT_CONFIRM
  /-- R298, 09_boot_and_update.md. -/
  | BT_RETRY
  /-- R298, 09_boot_and_update.md. -/
  | BT_SLOT_A
  /-- R298, 09_boot_and_update.md. -/
  | BT_SLOT_B
  /-- R298, 09_boot_and_update.md. -/
  | BT_SLOTFLAGS
  /-- R298, 09_boot_and_update.md. -/
  | BT_CHECK
  /-- R298, 09_boot_and_update.md. -/
  | BT_FAULT
  /-- R298, 09_boot_and_update.md. -/
  | BT_LOCK
  /-- R298, 09_boot_and_update.md. -/
  | SN_CORE_RELEASE
  /-- R298, 09_boot_and_update.md. -/
  | SN_VECTOR
  /-- R298, 09_boot_and_update.md. -/
  | SN_WDT
  /-- R298, 09_boot_and_update.md. -/
  | SN_WDT_KICK
  /-- R298, 09_boot_and_update.md. -/
  | SN_TVEC
  /-- R298, 09_boot_and_update.md. -/
  | SN_TRAP
  /-- R298, 09_boot_and_update.md. -/
  | SN_TRAP_ADDR
  /-- R298, 09_boot_and_update.md. -/
  | SN_FAULT
  -- Fuses (10_fuses_lifecycle.md)
  /-- R323, 10_fuses_lifecycle.md. -/
  | FU_CMD
  /-- R323, 10_fuses_lifecycle.md. -/
  | FU_WDATA
  /-- R323, 10_fuses_lifecycle.md. -/
  | FU_RDATA
  /-- R323, 10_fuses_lifecycle.md. -/
  | FU_STATUS
  /-- R323, 10_fuses_lifecycle.md. -/
  | FU_FAULT
  /-- R323, 10_fuses_lifecycle.md. -/
  | FU_LC
  /-- R323, 10_fuses_lifecycle.md. -/
  | FU_COUNTS
  /-- R323, 10_fuses_lifecycle.md. -/
  | FU_REGIONS
  /-- R323, 10_fuses_lifecycle.md. -/
  | FU_POLICY
  -- Key unit (11_identity_attestation.md)
  /-- R343, 11_identity_attestation.md. -/
  | KU_STATUS
  /-- R343, 11_identity_attestation.md. -/
  | KU_CTRL
  /-- R343, 11_identity_attestation.md. -/
  | KU_FAULT
  /-- R343, 11_identity_attestation.md. -/
  | KU_CMD
  /-- R343, 11_identity_attestation.md. -/
  | KU_ARG
  /-- R343, 11_identity_attestation.md. -/
  | KU_CMD_STATUS
  /-- R343, 11_identity_attestation.md. -/
  | KU_BIND_NONCE
  /-- R343, 11_identity_attestation.md. -/
  | KU_DEVID
  /-- R343, 11_identity_attestation.md. -/
  | KU_DEVIDM
  /-- R343, 11_identity_attestation.md. -/
  | KU_FWMEAS
  -- Host interface and mailbox (12_host_interface.md)
  /-- R386, 12_host_interface.md. -/
  | HI_STATUS
  /-- R386, 12_host_interface.md. -/
  | HI_CTX_LO
  /-- R386, 12_host_interface.md. -/
  | HI_CTX_HI
  /-- R386, 12_host_interface.md. -/
  | HI_CTX_CTRL
  /-- R386, 12_host_interface.md. -/
  | HI_FAULT
  /-- R386, 12_host_interface.md. -/
  | HI_CTRL
  /-- R386, 12_host_interface.md. -/
  | HI_FW_BASE
  /-- R386, 12_host_interface.md. -/
  | HI_FW_TAKE
  /-- R386, 12_host_interface.md. -/
  | HI_FW_RES0
  /-- R386, 12_host_interface.md. -/
  | HI_FW_RES1
  /-- R386, 12_host_interface.md. -/
  | HI_FW_DONE
  /-- R386, 12_host_interface.md. -/
  | HI_FW_STATUS
  /-- R386, 12_host_interface.md. -/
  | HI_VF_CFG
  /-- R386, 12_host_interface.md. -/
  | MB_CTRL
  /-- R386, 12_host_interface.md. -/
  | MB_STATUS
  /-- R386, 12_host_interface.md. -/
  | MB_FAULT
  /-- R386, 12_host_interface.md. -/
  | MB_INLEN
  /-- R386, 12_host_interface.md. -/
  | MB_OUTLEN
  /-- R386, 12_host_interface.md. -/
  | MB_INBOX
  /-- R386, 12_host_interface.md. -/
  | MB_OUTBOX
  /-- R386, 12_host_interface.md. -/
  | FN_ASQ_LO
  /-- R386, 12_host_interface.md. -/
  | FN_ASQ_HI
  /-- R386, 12_host_interface.md. -/
  | FN_ACQ_LO
  /-- R386, 12_host_interface.md. -/
  | FN_ACQ_HI
  /-- R386, 12_host_interface.md. -/
  | FN_ASIZE
  /-- R386, 12_host_interface.md. -/
  | FN_ACTRL
  /-- R386, 12_host_interface.md. -/
  | SQ_TAIL
  /-- R386, 12_host_interface.md. -/
  | CQ_HEAD
  -- Ralver (13_ralver_link.md)
  /-- R402, 13_ralver_link.md. -/
  | RV_CTRL
  /-- R402, 13_ralver_link.md. -/
  | RV_STATUS
  /-- R402, 13_ralver_link.md. -/
  | RV_FAULT
  /-- R402, 13_ralver_link.md. -/
  | RV_CMD
  /-- R402, 13_ralver_link.md. -/
  | RV_TXBASE
  /-- R402, 13_ralver_link.md. -/
  | RV_TXPTR
  /-- R402, 13_ralver_link.md. -/
  | RV_RXBASE
  /-- R402, 13_ralver_link.md. -/
  | RV_RXPTR
  /-- R402, 13_ralver_link.md. -/
  | RV_CSEQ
  /-- R402, 13_ralver_link.md. -/
  | RV_NBR
  -- Guard and folio (14_guard_and_folio.md)
  /-- R427, 14_guard_and_folio.md. -/
  | GD_CTRL
  /-- R427, 14_guard_and_folio.md. -/
  | GD_STATUS
  /-- R427, 14_guard_and_folio.md. -/
  | GD_FAULT
  /-- R427, 14_guard_and_folio.md. -/
  | GD_CMD
  /-- R427, 14_guard_and_folio.md. -/
  | GD_ARG
  /-- R427, 14_guard_and_folio.md. -/
  | GD_CMD_STATUS
  /-- R427, 14_guard_and_folio.md. -/
  | GD_UNLOCK_NONCE
  /-- R427, 14_guard_and_folio.md. -/
  | GD_PSNS
  /-- R427, 14_guard_and_folio.md. -/
  | GD_SRC_CFG
  /-- R427, 14_guard_and_folio.md. -/
  | GD_SRC_CNT
  /-- R427, 14_guard_and_folio.md. -/
  | FO_BASE
  /-- R427, 14_guard_and_folio.md. -/
  | FO_SIZE
  /-- R427, 14_guard_and_folio.md. -/
  | FO_CTRL
  /-- R427, 14_guard_and_folio.md. -/
  | FO_STATUS
  /-- R427, 14_guard_and_folio.md. -/
  | FO_SEQ
  /-- R427, 14_guard_and_folio.md. -/
  | FO_SEQ_NEXT
  /-- R427, 14_guard_and_folio.md. -/
  | FO_CMD
  /-- R427, 14_guard_and_folio.md. -/
  | FO_ARG
  /-- R427, 14_guard_and_folio.md. -/
  | FO_CMD_STATUS
  -- Observation (15_observation.md)
  /-- R443, 15_observation.md. -/
  | OB_CNT
  /-- R443, 15_observation.md. -/
  | OB_CHAIN
  /-- R443, 15_observation.md. -/
  | OB_SAT
  /-- R443, 15_observation.md. -/
  | OB_SNAP
  /-- R443, 15_observation.md. -/
  | OB_STATUS
  /-- R443, 15_observation.md. -/
  | OB_WATCH_CFG
  /-- R443, 15_observation.md. -/
  | OB_WATCH_PERIOD
  /-- R443, 15_observation.md. -/
  | OB_WATCH_COUNT
  /-- R443, 15_observation.md. -/
  | OB_NS_PC
  /-- R443, 15_observation.md. -/
  | OB_NS_FRAME
  /-- R443, 15_observation.md. -/
  | OB_NS_ADDR
  /-- R443, 15_observation.md. -/
  | OB_PREC_CTRL
  /-- R443, 15_observation.md. -/
  | OB_PREC_PTR
  /-- R443, 15_observation.md. -/
  | OB_PREC_LOST
  /-- R443, 15_observation.md. -/
  | OB_PREC_REC
  -- Arrays without a register of their own
  /-- R47: the 256 shape entries of a channel, index 256 × channel + opcode. -/
  | SHAPE_ENTRY
  /-- R83, R106, R112: staging bank words of a die, index ((2d + lane) × 32 + forme) × 512 + w; w 0 to 63 opcode words, 64 + 4s + j slug words. -/
  | FM_STG
  /-- R83, R106: active bank words, indexed as FM_STG. -/
  | FM_ACT
  /-- R115: the banks of the epoch a switch is bringing in, indexed as FM_STG. -/
  | FM_NXT
  /-- R112: staging binding of a channel, index 2 × channel + lane. -/
  | BIND_STG
  /-- R112: effective binding of a channel, indexed as BIND_STG. -/
  | BIND_ACT
  /-- R115: the binding a switch is bringing in, indexed as BIND_STG. -/
  | BIND_NXT
  deriving DecidableEq, Repr

/-- One register: its name and its index among the registers of that name (a channel, a die, a die and an entry). -/
structure Reg where
  name : RegName
  i : Nat
  deriving DecidableEq, Repr

/-- The key order of the register file: by name, then by index. -/
def Reg.lt (a b : Reg) : Bool :=
  decide (a.name.ctorIdx < b.name.ctorIdx) || (decide (a.name = b.name) && decide (a.i < b.i))

end Sys2Proof.Machine
end

