-- ==== Sys2Proof/Machine/Fields.lean ====
section
/-! DEFINITION. The fields of the registers, as the tables of the spec give them: register, low bit, width. -/

namespace Sys2Proof.Machine

/-- A field of a register (the Bits column of its table). -/
structure Field where
  reg : RegName
  lo : Nat
  width : Nat
  deriving DecidableEq, Repr

namespace Fld

abbrev PART_INFO_PART_CODE : Field := ⟨.PART_INFO, 16, 16⟩
abbrev PART_INFO_CHANNELS : Field := ⟨.PART_INFO, 8, 8⟩
abbrev PART_INFO_DIES : Field := ⟨.PART_INFO, 4, 4⟩
abbrev PART_INFO_STEPPING : Field := ⟨.PART_INFO, 0, 4⟩
abbrev CH_CTRL_STATE : Field := ⟨.CH_CTRL, 0, 2⟩
abbrev CH_CTRL_MODE : Field := ⟨.CH_CTRL, 2, 1⟩
abbrev CH_CTRL_SCK_MODE : Field := ⟨.CH_CTRL, 3, 1⟩
abbrev CH_CTRL_TIMEOUT_HOLD : Field := ⟨.CH_CTRL, 4, 1⟩
abbrev CH_STATUS_FRAME_OPEN : Field := ⟨.CH_STATUS, 0, 1⟩
abbrev CH_STATUS_OWN_OPEN : Field := ⟨.CH_STATUS, 1, 1⟩
abbrev CH_STATUS_STUCK : Field := ⟨.CH_STATUS, 2, 1⟩
abbrev CH_STATUS_BUSY_SHIELD : Field := ⟨.CH_STATUS, 3, 1⟩
abbrev CH_STATUS_YIELDED : Field := ⟨.CH_STATUS, 4, 1⟩
abbrev CH_STATUS_STATE_EFF : Field := ⟨.CH_STATUS, 5, 2⟩
abbrev CH_STATUS_MODE_EFF : Field := ⟨.CH_STATUS, 7, 1⟩
abbrev CH_PROTO_CUR : Field := ⟨.CH_PROTO, 0, 2⟩
abbrev CH_PROTO_BOOT : Field := ⟨.CH_PROTO, 2, 2⟩
abbrev CH_PROTO_ADDR4 : Field := ⟨.CH_PROTO, 4, 1⟩
abbrev CH_PROTO_BOOT_ADDR4 : Field := ⟨.CH_PROTO, 5, 1⟩
abbrev CH_PROTO_EXT_INV : Field := ⟨.CH_PROTO, 6, 1⟩
abbrev CH_PROTO_CRM_ARMED : Field := ⟨.CH_PROTO, 7, 1⟩
abbrev CH_PROTO_CRM_VAL : Field := ⟨.CH_PROTO, 8, 8⟩
abbrev CH_PROTO_CRM_MASK : Field := ⟨.CH_PROTO, 16, 8⟩
abbrev CH_TIMING_SPW : Field := ⟨.CH_TIMING, 0, 4⟩
abbrev CH_TIMING_DQ2_IDLE : Field := ⟨.CH_TIMING, 4, 1⟩
abbrev CH_TIMING_DQ3_IDLE : Field := ⟨.CH_TIMING, 5, 1⟩
abbrev CH_FILL_BYTE : Field := ⟨.CH_FILL, 0, 8⟩
abbrev CH_FILL_DQS_FILL : Field := ⟨.CH_FILL, 8, 1⟩
abbrev CH_TIMEOUT_LIMIT : Field := ⟨.CH_TIMEOUT, 0, 20⟩
abbrev CH_TIMEOUT_UNIT : Field := ⟨.CH_TIMEOUT, 20, 1⟩
abbrev CH_TWIN_PRESENT : Field := ⟨.CH_TWIN, 0, 1⟩
abbrev CH_TWIN_SEL : Field := ⟨.CH_TWIN, 1, 1⟩
abbrev CH_TWIN_SWAP : Field := ⟨.CH_TWIN, 2, 1⟩
abbrev CH_TWIN_PENDING : Field := ⟨.CH_TWIN, 3, 1⟩
abbrev CH_RESET_PASS : Field := ⟨.CH_RESET, 0, 1⟩
abbrev CH_RESET_ASSERT : Field := ⟨.CH_RESET, 1, 1⟩
abbrev CH_RESET_HRST_LEVEL : Field := ⟨.CH_RESET, 2, 1⟩
abbrev CH_RESET_DEFERRED : Field := ⟨.CH_RESET, 3, 1⟩
abbrev CH_RESET_MIN_US : Field := ⟨.CH_RESET, 4, 8⟩
abbrev CH_OWN_DIV : Field := ⟨.CH_OWN, 0, 7⟩
abbrev CH_OWN_PROTO : Field := ⟨.CH_OWN, 8, 2⟩
abbrev CH_OWN_YIELD : Field := ⟨.CH_OWN, 10, 1⟩
abbrev CH_OWN_IDLE_MIN : Field := ⟨.CH_OWN, 16, 8⟩
abbrev CH_FAULT_TIMEOUT : Field := ⟨.CH_FAULT, 0, 1⟩
abbrev CH_FAULT_CS_SHORT : Field := ⟨.CH_FAULT, 1, 1⟩
abbrev CH_FAULT_UNKNOWN_OP : Field := ⟨.CH_FAULT, 2, 1⟩
abbrev CH_FAULT_EXT_MISMATCH : Field := ⟨.CH_FAULT, 3, 1⟩
abbrev CH_FAULT_CFG_REJ : Field := ⟨.CH_FAULT, 4, 1⟩
abbrev CH_FAULT_LEGACY_MISS : Field := ⟨.CH_FAULT, 5, 1⟩
abbrev CH_FAULT_RATE : Field := ⟨.CH_FAULT, 6, 1⟩
abbrev CH_FAULT_TAINT : Field := ⟨.CH_FAULT, 7, 1⟩
abbrev CH_FAULT_RESET_DEFER : Field := ⟨.CH_FAULT, 8, 1⟩
abbrev CH_PERIOD_PERIOD : Field := ⟨.CH_PERIOD, 0, 16⟩
abbrev CH_LASTOP_OPCODE : Field := ⟨.CH_LASTOP, 0, 8⟩
abbrev CH_LASTOP_VERDICT : Field := ⟨.CH_LASTOP, 8, 3⟩
abbrev CH_LASTOP_LATE : Field := ⟨.CH_LASTOP, 11, 1⟩
abbrev CH_LASTOP_EPOCH : Field := ⟨.CH_LASTOP, 16, 16⟩
abbrev CH_LASTADDR_ADDRESS : Field := ⟨.CH_LASTADDR, 0, 32⟩
abbrev SHAPE_INDEX_OPCODE : Field := ⟨.SHAPE_INDEX, 0, 8⟩
abbrev SHAPE_INDEX_AUTOINC : Field := ⟨.SHAPE_INDEX, 8, 1⟩
abbrev SHAPE_DATA_ENTRY : Field := ⟨.SHAPE_DATA, 0, 32⟩
abbrev SHADOW_SFDP_BYTES : Field := ⟨.SHADOW_SFDP, 0, 32⟩
abbrev SHADOW_ID_BYTES : Field := ⟨.SHADOW_ID, 0, 32⟩
abbrev SHADOW_CTRL_SFDP_LEN : Field := ⟨.SHADOW_CTRL, 0, 10⟩
abbrev SHADOW_CTRL_ID_LEN : Field := ⟨.SHADOW_CTRL, 16, 5⟩
abbrev FM_STATUS_STAGE_LOCK : Field := ⟨.FM_STATUS, 0, 1⟩
abbrev FM_CTRL_LOG_REJECT : Field := ⟨.FM_CTRL, 0, 1⟩
abbrev FM_CTRL_LATE_HOLD : Field := ⟨.FM_CTRL, 1, 1⟩
abbrev FM_FAULT_LATE_READ : Field := ⟨.FM_FAULT, 0, 1⟩
abbrev FM_FAULT_LATE_OTHER : Field := ⟨.FM_FAULT, 1, 1⟩
abbrev FM_FAULT_LOCKSTEP : Field := ⟨.FM_FAULT, 2, 1⟩
abbrev FM_FAULT_BAD_VERDICT : Field := ⟨.FM_FAULT, 3, 1⟩
abbrev FM_FAULT_CLASS_SHAPE : Field := ⟨.FM_FAULT, 4, 1⟩
abbrev FM_FAULT_TREE_RANGE : Field := ⟨.FM_FAULT, 5, 1⟩
abbrev FM_FAULT_STAGE_REJ : Field := ⟨.FM_FAULT, 6, 1⟩
abbrev FM_FAULT_DENY_LOG : Field := ⟨.FM_FAULT, 7, 1⟩
abbrev FM_FAULT_NAND_NOCACHE : Field := ⟨.FM_FAULT, 8, 1⟩
abbrev FM_LSINFO_CHANNEL : Field := ⟨.FM_LSINFO, 0, 3⟩
abbrev FM_LSINFO_VERDICT_A : Field := ⟨.FM_LSINFO, 3, 3⟩
abbrev FM_LSINFO_VERDICT_B : Field := ⟨.FM_LSINFO, 6, 3⟩
abbrev FM_LSINFO_VALID : Field := ⟨.FM_LSINFO, 9, 1⟩
abbrev FM_LSINFO_COUNT : Field := ⟨.FM_LSINFO, 16, 16⟩
abbrev FM_QUOIN_REQUEST : Field := ⟨.FM_QUOIN, 0, 32⟩
abbrev FM_QUOIN_EFF_QUOINED : Field := ⟨.FM_QUOIN_EFF, 0, 32⟩
abbrev FM_BIND_FORME : Field := ⟨.FM_BIND, 0, 5⟩
abbrev FM_BIND_WRAP : Field := ⟨.FM_BIND, 16, 6⟩
abbrev FM_BIND_ADDRMAP : Field := ⟨.FM_BIND, 22, 2⟩
abbrev FM_BIND_BLKPG : Field := ⟨.FM_BIND, 24, 1⟩
abbrev FM_BIND_EFF_FORME : Field := ⟨.FM_BIND_EFF, 0, 5⟩
abbrev FM_BIND_EFF_WRAP : Field := ⟨.FM_BIND_EFF, 16, 6⟩
abbrev FM_BIND_EFF_ADDRMAP : Field := ⟨.FM_BIND_EFF, 22, 2⟩
abbrev FM_BIND_EFF_BLKPG : Field := ⟨.FM_BIND_EFF, 24, 1⟩
abbrev FM_BIND_EFF_QUOINED : Field := ⟨.FM_BIND_EFF, 31, 1⟩
abbrev SS_CTRL_ENABLE : Field := ⟨.SS_CTRL, 0, 1⟩
abbrev SS_CTRL_ARMED : Field := ⟨.SS_CTRL, 1, 1⟩
abbrev SS_CTRL_PHASE : Field := ⟨.SS_CTRL, 2, 2⟩
abbrev SS_CTRL_VIEW1_OP : Field := ⟨.SS_CTRL, 4, 8⟩
abbrev SS_CTRL_NAND_FEAT : Field := ⟨.SS_CTRL, 12, 8⟩
abbrev SS_CTRL_NAND_FILTER : Field := ⟨.SS_CTRL, 20, 1⟩
abbrev SS_VIEW0_MASK : Field := ⟨.SS_VIEW0, 0, 8⟩
abbrev SS_VIEW0_BUSY : Field := ⟨.SS_VIEW0, 8, 8⟩
abbrev SS_VIEW0_DONE_OK : Field := ⟨.SS_VIEW0, 16, 8⟩
abbrev SS_VIEW0_DONE_FAIL : Field := ⟨.SS_VIEW0, 24, 8⟩
abbrev SS_VIEW1_VIEW : Field := ⟨.SS_VIEW1, 0, 32⟩
abbrev SS_IDLE_IDLE0 : Field := ⟨.SS_IDLE, 0, 8⟩
abbrev SS_IDLE_IDLE1 : Field := ⟨.SS_IDLE, 8, 8⟩
abbrev SS_TIME0_T_PROG : Field := ⟨.SS_TIME0, 0, 16⟩
abbrev SS_TIME0_T_E4K : Field := ⟨.SS_TIME0, 16, 16⟩
abbrev SS_TIME1_T_ELARGE : Field := ⟨.SS_TIME1, 0, 16⟩
abbrev SS_TIME1_T_CHIP : Field := ⟨.SS_TIME1, 16, 16⟩
abbrev OPC_ENTRIES : Field := ⟨.OPC, 0, 32⟩
abbrev SLUG_WORD : Field := ⟨.SLUG, 0, 32⟩
abbrev EPOCH_CUR_CURRENT : Field := ⟨.EPOCH_CUR, 0, 16⟩
abbrev EPOCH_CUR_TARGET : Field := ⟨.EPOCH_CUR, 16, 16⟩
abbrev EPOCH_CTRL_DEADLINE : Field := ⟨.EPOCH_CTRL, 0, 20⟩
abbrev EPOCH_CTRL_OVERRUN : Field := ⟨.EPOCH_CTRL, 20, 1⟩
abbrev EPOCH_GO_TARGET : Field := ⟨.EPOCH_GO, 0, 16⟩
abbrev EPOCH_STATUS_SWITCHING : Field := ⟨.EPOCH_STATUS, 0, 1⟩
abbrev EPOCH_STATUS_DONE : Field := ⟨.EPOCH_STATUS, 1, 1⟩
abbrev EPOCH_STATUS_REFUSED : Field := ⟨.EPOCH_STATUS, 2, 1⟩
abbrev EPOCH_STATUS_OVERRAN : Field := ⟨.EPOCH_STATUS, 3, 1⟩
abbrev EPOCH_STATUS_REFUSE_CODE : Field := ⟨.EPOCH_STATUS, 4, 4⟩
abbrev EPOCH_STATUS_REFUSE_DIE : Field := ⟨.EPOCH_STATUS, 8, 3⟩
abbrev EPOCH_STATUS_REFUSE_FORME : Field := ⟨.EPOCH_STATUS, 11, 5⟩
abbrev EPOCH_STATUS_REFUSE_ITEM : Field := ⟨.EPOCH_STATUS, 16, 6⟩
abbrev EPOCH_STATUS_REFUSE_OPCODE : Field := ⟨.EPOCH_STATUS, 24, 8⟩
abbrev EPOCH_MAP_LO_TAKEN : Field := ⟨.EPOCH_MAP_LO, 0, 32⟩
abbrev EPOCH_MAP_HI_TAKEN : Field := ⟨.EPOCH_MAP_HI, 0, 32⟩
abbrev EPOCH_LATE_LO_LATE : Field := ⟨.EPOCH_LATE_LO, 0, 32⟩
abbrev EPOCH_LATE_HI_LATE : Field := ⟨.EPOCH_LATE_HI, 0, 32⟩
abbrev WIT_STATUS_RESIDENT : Field := ⟨.WIT_STATUS, 0, 12⟩
abbrev WIT_STATUS_PINNED : Field := ⟨.WIT_STATUS, 12, 12⟩
abbrev WIT_HORIZON_HORIZON : Field := ⟨.WIT_HORIZON, 0, 20⟩
abbrev WIT_FAULT_BLOCK_FAIL : Field := ⟨.WIT_FAULT, 0, 1⟩
abbrev WIT_FAULT_NODE_FAIL : Field := ⟨.WIT_FAULT, 1, 1⟩
abbrev WIT_FAULT_OVERDUE : Field := ⟨.WIT_FAULT, 2, 1⟩
abbrev WIT_FAULT_NO_CAPTURE : Field := ⟨.WIT_FAULT, 3, 1⟩
abbrev WIT_FAULT_COMPARE_FAIL : Field := ⟨.WIT_FAULT, 4, 1⟩
abbrev WIT_FAULT_VOID : Field := ⟨.WIT_FAULT, 5, 1⟩
abbrev WIT_FAULT_COLOPHON : Field := ⟨.WIT_FAULT, 6, 1⟩
abbrev WIT_FAULT_TAINT : Field := ⟨.WIT_FAULT, 7, 1⟩
abbrev WIT_FAULT_CMD_REJ : Field := ⟨.WIT_FAULT, 8, 1⟩
abbrev WIT_FAULT_GATE_FAIL : Field := ⟨.WIT_FAULT, 9, 1⟩
abbrev WIT_FAULT_CACHE_CHECK : Field := ⟨.WIT_FAULT, 10, 1⟩
abbrev WIT_CMD_OP : Field := ⟨.WIT_CMD, 0, 4⟩
abbrev WIT_CMD_TREE : Field := ⟨.WIT_CMD, 8, 8⟩
abbrev WIT_ARG0_FIRST : Field := ⟨.WIT_ARG0, 0, 20⟩
abbrev WIT_ARG1_COUNT : Field := ⟨.WIT_ARG1, 0, 21⟩
abbrev WIT_CMD_STATUS_BUSY : Field := ⟨.WIT_CMD_STATUS, 0, 1⟩
abbrev WIT_CMD_STATUS_DONE : Field := ⟨.WIT_CMD_STATUS, 1, 1⟩
abbrev WIT_CMD_STATUS_RESULT : Field := ⟨.WIT_CMD_STATUS, 4, 4⟩
abbrev WIT_CMD_STATUS_TREE : Field := ⟨.WIT_CMD_STATUS, 8, 8⟩
abbrev WIT_OCC_CAPTURE : Field := ⟨.WIT_OCC, 0, 10⟩
abbrev WIT_OCC_DC_PINNED : Field := ⟨.WIT_OCC, 12, 11⟩
abbrev WIT_CHCFG_RD_OP : Field := ⟨.WIT_CHCFG, 0, 8⟩
abbrev WIT_CHCFG_TAINT_RESP : Field := ⟨.WIT_CHCFG, 8, 2⟩
abbrev WIT_CHCFG_RESTART_MS : Field := ⟨.WIT_CHCFG, 16, 8⟩
abbrev WIT_CONSUMED_SEQ : Field := ⟨.WIT_CONSUMED, 0, 32⟩
abbrev WIT_REPORTED_SEQ : Field := ⟨.WIT_REPORTED, 0, 32⟩
abbrev WIT_CHSTAT_CAPTURES : Field := ⟨.WIT_CHSTAT, 0, 10⟩
abbrev WIT_CHSTAT_RESTARTING : Field := ⟨.WIT_CHSTAT, 10, 1⟩
abbrev WIT_CHSTAT_TAINT_OPEN : Field := ⟨.WIT_CHSTAT, 11, 1⟩
abbrev TD_CFG_CHANNEL : Field := ⟨.TD_CFG, 0, 3⟩
abbrev TD_CFG_PORT : Field := ⟨.TD_CFG, 3, 1⟩
abbrev TD_CFG_DEV : Field := ⟨.TD_CFG, 4, 1⟩
abbrev TD_CFG_GATE : Field := ⟨.TD_CFG, 6, 5⟩
abbrev TD_CFG_GATE_EN : Field := ⟨.TD_CFG, 11, 1⟩
abbrev TD_CFG_FAIL_RESP : Field := ⟨.TD_CFG, 12, 2⟩
abbrev TD_CFG_OVER_RESP : Field := ⟨.TD_CFG, 14, 2⟩
abbrev TD_CFG_TAINT_RESP : Field := ⟨.TD_CFG, 16, 2⟩
abbrev TD_CFG_PIN_LEVELS : Field := ⟨.TD_CFG, 18, 3⟩
abbrev TD_BASE_BASE : Field := ⟨.TD_BASE, 0, 20⟩
abbrev TD_LEAVES_LEAF_COUNT : Field := ⟨.TD_LEAVES, 0, 21⟩
abbrev TD_VADDR_VADDR : Field := ⟨.TD_VADDR, 0, 32⟩
abbrev TD_CADDR_CADDR : Field := ⟨.TD_CADDR, 0, 32⟩
abbrev TD_REGION_REGION_ID : Field := ⟨.TD_REGION, 0, 32⟩
abbrev TD_FLOOR_FLOOR : Field := ⟨.TD_FLOOR, 0, 32⟩
abbrev TD_VERSION_VERSION : Field := ⟨.TD_VERSION, 0, 32⟩
abbrev TD_STATE_STATE : Field := ⟨.TD_STATE, 0, 3⟩
abbrev TD_STATE_LOCKED : Field := ⟨.TD_STATE, 3, 1⟩
abbrev TD_STATE_DEPTH : Field := ⟨.TD_STATE, 4, 3⟩
abbrev TD_STATE_SWEEP_BUSY : Field := ⟨.TD_STATE, 7, 1⟩
abbrev TD_STATE_SWEEP_DONE : Field := ⟨.TD_STATE, 8, 1⟩
abbrev TD_STATE_SWEEP_FAIL : Field := ⟨.TD_STATE, 9, 1⟩
abbrev TD_STATE_FIRST_FAIL : Field := ⟨.TD_STATE, 12, 20⟩
abbrev TD_SWEEP_PASSED : Field := ⟨.TD_SWEEP, 0, 21⟩
abbrev TD_ROOT_BYTES : Field := ⟨.TD_ROOT, 0, 32⟩
abbrev RP_LINE_REQUEST : Field := ⟨.RP_LINE, 0, 1⟩
abbrev RP_LINE_RELEASED : Field := ⟨.RP_LINE, 1, 1⟩
abbrev RP_LINE_HOLD : Field := ⟨.RP_LINE, 2, 1⟩
abbrev RP_LINE_RESTART : Field := ⟨.RP_LINE, 3, 1⟩
abbrev RP_GATES_GATES : Field := ⟨.RP_GATES, 0, 32⟩
abbrev RP_CLIENT_LINES : Field := ⟨.RP_CLIENT, 0, 32⟩
abbrev PG_CTRL_MODE : Field := ⟨.PG_CTRL, 0, 2⟩
abbrev PG_CTRL_ARM_SRC : Field := ⟨.PG_CTRL, 2, 2⟩
abbrev PG_CTRL_ARM : Field := ⟨.PG_CTRL, 4, 1⟩
abbrev PG_CTRL_PSNS_SEL : Field := ⟨.PG_CTRL, 5, 4⟩
abbrev PG_CTRL_PSNS_LVL : Field := ⟨.PG_CTRL, 9, 1⟩
abbrev PG_CTRL_QUIET : Field := ⟨.PG_CTRL, 16, 16⟩
abbrev PG_STATUS_STATE : Field := ⟨.PG_STATUS, 0, 2⟩
abbrev PG_STATUS_ARMED : Field := ⟨.PG_STATUS, 2, 1⟩
abbrev PG_STATUS_ROOTED : Field := ⟨.PG_STATUS, 3, 1⟩
abbrev PG_STATUS_PENDING : Field := ⟨.PG_STATUS, 4, 1⟩
abbrev MC_CTRL_SCRUB_EN : Field := ⟨.MC_CTRL, 0, 1⟩
abbrev MC_CTRL_REFRESH_EN : Field := ⟨.MC_CTRL, 1, 1⟩
abbrev MC_CTRL_AUTO : Field := ⟨.MC_CTRL, 2, 1⟩
abbrev MC_CTRL_FLUSH_S : Field := ⟨.MC_CTRL, 16, 16⟩
abbrev MC_STATUS_VAULT : Field := ⟨.MC_STATUS, 0, 2⟩
abbrev MC_STATUS_JOURNAL_OPEN : Field := ⟨.MC_STATUS, 2, 1⟩
abbrev MC_STATUS_BUSY : Field := ⟨.MC_STATUS, 3, 1⟩
abbrev MC_STATUS_TALLY_LOST : Field := ⟨.MC_STATUS, 4, 1⟩
abbrev MC_STATUS_BUSY_REGION : Field := ⟨.MC_STATUS, 5, 5⟩
abbrev MC_STATUS_TALLY : Field := ⟨.MC_STATUS, 16, 13⟩
abbrev MC_FAULT_UNIT_FAIL : Field := ⟨.MC_FAULT, 0, 1⟩
abbrev MC_FAULT_NO_SOURCE : Field := ⟨.MC_FAULT, 1, 1⟩
abbrev MC_FAULT_NO_COVER : Field := ⟨.MC_FAULT, 2, 1⟩
abbrev MC_FAULT_VAULT_READ : Field := ⟨.MC_FAULT, 3, 1⟩
abbrev MC_FAULT_VAULT_REPAIR : Field := ⟨.MC_FAULT, 4, 1⟩
abbrev MC_FAULT_BAD_BLOCK : Field := ⟨.MC_FAULT, 5, 1⟩
abbrev MC_FAULT_SPARES_LOW : Field := ⟨.MC_FAULT, 6, 1⟩
abbrev MC_FAULT_SCRUB_LATE : Field := ⟨.MC_FAULT, 7, 1⟩
abbrev MC_FAULT_ENDURANCE : Field := ⟨.MC_FAULT, 8, 1⟩
abbrev MC_FAULT_JOURNAL : Field := ⟨.MC_FAULT, 9, 1⟩
abbrev MC_FAULT_SEAL : Field := ⟨.MC_FAULT, 10, 1⟩
abbrev MC_FAULT_CMD_REJ : Field := ⟨.MC_FAULT, 11, 1⟩
abbrev MC_FAULT_CAPACITY : Field := ⟨.MC_FAULT, 12, 1⟩
abbrev MC_CMD_OP : Field := ⟨.MC_CMD, 0, 4⟩
abbrev MC_CMD_TARGET : Field := ⟨.MC_CMD, 4, 1⟩
abbrev MC_CMD_REGION : Field := ⟨.MC_CMD, 8, 5⟩
abbrev MC_ARG0_FIRST : Field := ⟨.MC_ARG0, 0, 20⟩
abbrev MC_ARG1_COUNT : Field := ⟨.MC_ARG1, 0, 21⟩
abbrev MC_CMD_STATUS_BUSY : Field := ⟨.MC_CMD_STATUS, 0, 1⟩
abbrev MC_CMD_STATUS_DONE : Field := ⟨.MC_CMD_STATUS, 1, 1⟩
abbrev MC_CMD_STATUS_RESULT : Field := ⟨.MC_CMD_STATUS, 4, 4⟩
abbrev MC_CMD_STATUS_REGION : Field := ⟨.MC_CMD_STATUS, 8, 5⟩
abbrev MC_JOPEN_GRANULE : Field := ⟨.MC_JOPEN, 0, 20⟩
abbrev MC_JOPEN_CHANNEL : Field := ⟨.MC_JOPEN, 20, 3⟩
abbrev MC_JOPEN_TARGET : Field := ⟨.MC_JOPEN, 23, 1⟩
abbrev MC_JOPEN_VALID : Field := ⟨.MC_JOPEN, 31, 1⟩
abbrev MC_VCFG_TYPE : Field := ⟨.MC_VCFG, 0, 2⟩
abbrev MC_VCFG_MIRROR : Field := ⟨.MC_VCFG, 2, 1⟩
abbrev MC_VCFG_ECC_LSB : Field := ⟨.MC_VCFG, 3, 3⟩
abbrev MC_VCFG_ECC_UNC : Field := ⟨.MC_VCFG, 6, 2⟩
abbrev MC_VCFG_ECC_REF : Field := ⟨.MC_VCFG, 8, 2⟩
abbrev MC_VCFG_BLK128 : Field := ⟨.MC_VCFG, 10, 1⟩
abbrev CR_CFG_CHANNEL : Field := ⟨.CR_CFG, 0, 3⟩
abbrev CR_CFG_VALID : Field := ⟨.CR_CFG, 3, 1⟩
abbrev CR_CFG_TREE_EN : Field := ⟨.CR_CFG, 4, 1⟩
abbrev CR_CFG_TREE : Field := ⟨.CR_CFG, 5, 8⟩
abbrev CR_CFG_SOURCE : Field := ⟨.CR_CFG, 13, 2⟩
abbrev CR_CFG_GPORT : Field := ⟨.CR_CFG, 15, 1⟩
abbrev CR_CFG_GDEV : Field := ⟨.CR_CFG, 16, 1⟩
abbrev CR_CFG_UNIT : Field := ⟨.CR_CFG, 17, 2⟩
abbrev CR_CFG_WRITE_WHEN : Field := ⟨.CR_CFG, 19, 1⟩
abbrev CR_CFG_UNW_OK : Field := ⟨.CR_CFG, 20, 1⟩
abbrev CR_CFG_NAND_ECC : Field := ⟨.CR_CFG, 21, 1⟩
abbrev CR_CFG_PAGE : Field := ⟨.CR_CFG, 22, 2⟩
abbrev CR_OPS_WREN_OP : Field := ⟨.CR_OPS, 0, 8⟩
abbrev CR_OPS_PROG_OP : Field := ⟨.CR_OPS, 8, 8⟩
abbrev CR_OPS_ERASE_OP : Field := ⟨.CR_OPS, 16, 8⟩
abbrev CR_OPS_STAT_OP : Field := ⟨.CR_OPS, 24, 8⟩
abbrev CR_OPS2_EXEC_OP : Field := ⟨.CR_OPS2, 0, 8⟩
abbrev CR_OPS2_FEAT : Field := ⟨.CR_OPS2, 8, 8⟩
abbrev CR_OPS2_BUSY_BIT : Field := ⟨.CR_OPS2, 16, 3⟩
abbrev CR_OPS2_PFAIL_BIT : Field := ⟨.CR_OPS2, 19, 3⟩
abbrev CR_OPS2_PFAIL_EN : Field := ⟨.CR_OPS2, 22, 1⟩
abbrev CR_OPS2_ECC_LSB : Field := ⟨.CR_OPS2, 23, 3⟩
abbrev CR_OPS2_ECC_UNC : Field := ⟨.CR_OPS2, 26, 2⟩
abbrev CR_OPS2_ECC_REF : Field := ⟨.CR_OPS2, 28, 2⟩
abbrev CR_BASE_BASE : Field := ⟨.CR_BASE, 0, 20⟩
abbrev CR_COUNT_COUNT : Field := ⟨.CR_COUNT, 0, 21⟩
abbrev CR_GADDR_GADDR : Field := ⟨.CR_GADDR, 0, 32⟩
abbrev CR_SCRUB_PERIOD_H : Field := ⟨.CR_SCRUB, 0, 16⟩
abbrev CR_REFRESH_AGE_D : Field := ⟨.CR_REFRESH, 0, 16⟩
abbrev CR_REFRESH_READ_K : Field := ⟨.CR_REFRESH, 16, 16⟩
abbrev CR_ENDUR_ERASE_WARN : Field := ⟨.CR_ENDUR, 0, 24⟩
abbrev CR_STATE_CURSOR : Field := ⟨.CR_STATE, 0, 20⟩
abbrev CR_STATE_LATE : Field := ⟨.CR_STATE, 20, 1⟩
abbrev CR_STATE_OVERFLOW : Field := ⟨.CR_STATE, 21, 1⟩
abbrev CR_STATE_FAILED_OPEN : Field := ⟨.CR_STATE, 22, 1⟩
abbrev CR_STATE_TWIN_OK : Field := ⟨.CR_STATE, 23, 1⟩
abbrev FAULT_US_US : Field := ⟨.FAULT_US, 0, 32⟩
abbrev FQ_STATUS_DEPTH : Field := ⟨.FQ_STATUS, 0, 6⟩
abbrev FQ_STATUS_STORM : Field := ⟨.FQ_STATUS, 6, 1⟩
abbrev FQ_STATUS_OVERFLOW : Field := ⟨.FQ_STATUS, 7, 1⟩
abbrev FQ_STATUS_POP_STALE : Field := ⟨.FQ_STATUS, 8, 1⟩
abbrev FQ_STATUS_UNREACH : Field := ⟨.FQ_STATUS, 9, 1⟩
abbrev FQ_STATUS_DSEQ_NEXT : Field := ⟨.FQ_STATUS, 16, 16⟩
abbrev FQ_HEAD0_WORD0 : Field := ⟨.FQ_HEAD0, 0, 32⟩
abbrev FQ_HEAD1_WORD1 : Field := ⟨.FQ_HEAD1, 0, 32⟩
abbrev FQ_HEAD2_WORD2 : Field := ⟨.FQ_HEAD2, 0, 32⟩
abbrev FQ_HEAD3_WORD3 : Field := ⟨.FQ_HEAD3, 0, 32⟩
abbrev FQ_POP_POP : Field := ⟨.FQ_POP, 0, 1⟩
abbrev FQ_CTRL_STORM_RESP : Field := ⟨.FQ_CTRL, 0, 1⟩
abbrev FQ_TOTAL_TOTAL : Field := ⟨.FQ_TOTAL, 0, 32⟩
abbrev HP_CTRL_SPILL_EN : Field := ⟨.HP_CTRL, 0, 1⟩
abbrev HP_CTRL_ACCEPT_EN : Field := ⟨.HP_CTRL, 1, 1⟩
abbrev HP_CTRL_SPILL_DEPTH : Field := ⟨.HP_CTRL, 2, 6⟩
abbrev HP_CTRL_JOB_TIMEOUT : Field := ⟨.HP_CTRL, 16, 8⟩
abbrev HP_STATUS_LANES_OK : Field := ⟨.HP_STATUS, 0, 4⟩
abbrev HP_STATUS_QUEUED : Field := ⟨.HP_STATUS, 4, 8⟩
abbrev HP_STATUS_FENCE_STALL : Field := ⟨.HP_STATUS, 12, 1⟩
abbrev HP_STATUS_PLACEGEN : Field := ⟨.HP_STATUS, 16, 16⟩
abbrev HP_STALE_STALE : Field := ⟨.HP_STALE, 0, 32⟩
abbrev HP_MIGRATED_MIGRATED : Field := ⟨.HP_MIGRATED, 0, 32⟩
abbrev FB_STATUS_UP_OK : Field := ⟨.FB_STATUS, 0, 1⟩
abbrev FB_STATUS_DN_OK : Field := ⟨.FB_STATUS, 1, 1⟩
abbrev CF_FAULT_HOP_CHECK : Field := ⟨.CF_FAULT, 0, 1⟩
abbrev CF_FAULT_HOP_DOWN : Field := ⟨.CF_FAULT, 1, 1⟩
abbrev CF_FAULT_UNREACH : Field := ⟨.CF_FAULT, 2, 1⟩
abbrev CF_FAULT_LANE_OUT : Field := ⟨.CF_FAULT, 3, 1⟩
abbrev CF_FAULT_JOB_TIMEOUT : Field := ⟨.CF_FAULT, 4, 1⟩
abbrev CF_FAULT_POOL_LOST : Field := ⟨.CF_FAULT, 5, 1⟩
abbrev CF_FAULT_FENCE_STALL : Field := ⟨.CF_FAULT, 6, 1⟩
abbrev IF_FAULT_DETECT : Field := ⟨.IF_FAULT, 0, 16⟩
abbrev IF_FAULT_PERSIST : Field := ⟨.IF_FAULT, 16, 16⟩
abbrev RC_CAUSE_POR : Field := ⟨.RC_CAUSE, 0, 1⟩
abbrev RC_CAUSE_BROWNOUT : Field := ⟨.RC_CAUSE, 1, 1⟩
abbrev RC_CAUSE_PIN : Field := ⟨.RC_CAUSE, 2, 1⟩
abbrev RC_CAUSE_WATCHDOG : Field := ⟨.RC_CAUSE, 3, 1⟩
abbrev RC_CAUSE_MAILBOX : Field := ⟨.RC_CAUSE, 4, 1⟩
abbrev RC_CAUSE_RALVER : Field := ⟨.RC_CAUSE, 5, 1⟩
abbrev RC_CAUSE_GUARD : Field := ⟨.RC_CAUSE, 6, 1⟩
abbrev RC_CAUSE_CLKLOSS : Field := ⟨.RC_CAUSE, 7, 1⟩
abbrev RC_CAUSE_FROZEN : Field := ⟨.RC_CAUSE, 8, 1⟩
abbrev RC_CAUSE_PLL_RETRY : Field := ⟨.RC_CAUSE, 9, 1⟩
abbrev RC_CAUSE_DIE : Field := ⟨.RC_CAUSE, 10, 1⟩
abbrev RC_CAUSE_HIF : Field := ⟨.RC_CAUSE, 11, 1⟩
abbrev RC_COUNT_PART : Field := ⟨.RC_COUNT, 0, 16⟩
abbrev RC_COUNT_HIF : Field := ⟨.RC_COUNT, 16, 16⟩
abbrev RC_DEFER_LENGTH : Field := ⟨.RC_DEFER, 0, 10⟩
abbrev RC_DEFER_CUT : Field := ⟨.RC_DEFER, 10, 1⟩
abbrev RC_DEFER_FUSE : Field := ⟨.RC_DEFER, 11, 1⟩
abbrev RC_DEFER_FLASH : Field := ⟨.RC_DEFER, 12, 1⟩
abbrev RC_DIE_RESET_DIE : Field := ⟨.RC_DIE_RESET, 0, 8⟩
abbrev RC_DIE_STATE_STATE0 : Field := ⟨.RC_DIE_STATE, 0, 2⟩
abbrev RC_DIE_STATE_STATE1 : Field := ⟨.RC_DIE_STATE, 2, 2⟩
abbrev RC_DIE_STATE_STATE2 : Field := ⟨.RC_DIE_STATE, 4, 2⟩
abbrev RC_DIE_STATE_STATE3 : Field := ⟨.RC_DIE_STATE, 6, 2⟩
abbrev RC_DIE_STATE_STATE4 : Field := ⟨.RC_DIE_STATE, 8, 2⟩
abbrev RC_DIE_STATE_STATE5 : Field := ⟨.RC_DIE_STATE, 10, 2⟩
abbrev RC_DIE_STATE_STATE6 : Field := ⟨.RC_DIE_STATE, 12, 2⟩
abbrev RC_DIE_STATE_STATE7 : Field := ⟨.RC_DIE_STATE, 14, 2⟩
abbrev RC_WDT_ESC_ESC0 : Field := ⟨.RC_WDT_ESC, 0, 2⟩
abbrev RC_WDT_ESC_ESC1 : Field := ⟨.RC_WDT_ESC, 2, 2⟩
abbrev RC_WDT_ESC_ESC2 : Field := ⟨.RC_WDT_ESC, 4, 2⟩
abbrev RC_WDT_ESC_ESC3 : Field := ⟨.RC_WDT_ESC, 6, 2⟩
abbrev RC_WDT_ESC_ESC4 : Field := ⟨.RC_WDT_ESC, 8, 2⟩
abbrev RC_WDT_ESC_ESC5 : Field := ⟨.RC_WDT_ESC, 10, 2⟩
abbrev RC_WDT_ESC_ESC6 : Field := ⟨.RC_WDT_ESC, 12, 2⟩
abbrev RC_WDT_ESC_ESC7 : Field := ⟨.RC_WDT_ESC, 14, 2⟩
abbrev RC_CLK_LOCK : Field := ⟨.RC_CLK, 0, 8⟩
abbrev RC_CLK_REFCLK_OK : Field := ⟨.RC_CLK, 8, 1⟩
abbrev RC_FAULT_ISOERR : Field := ⟨.RC_FAULT, 0, 1⟩
abbrev RC_FAULT_DEFER_CUT : Field := ⟨.RC_FAULT, 1, 1⟩
abbrev RC_FAULT_PLL_RETRY : Field := ⟨.RC_FAULT, 2, 1⟩
abbrev RC_FAULT_CLKLOSS : Field := ⟨.RC_FAULT, 3, 1⟩
abbrev RC_FAULT_WATCHDOG : Field := ⟨.RC_FAULT, 4, 1⟩
abbrev MP_CTRL_DIV : Field := ⟨.MP_CTRL, 0, 8⟩
abbrev MP_CTRL_SCK_MODE : Field := ⟨.MP_CTRL, 8, 1⟩
abbrev MP_CTRL_LAT : Field := ⟨.MP_CTRL, 9, 4⟩
abbrev MP_CTRL_POLL_US : Field := ⟨.MP_CTRL, 16, 8⟩
abbrev MP_STATUS_FRAME_OPEN : Field := ⟨.MP_STATUS, 0, 1⟩
abbrev MP_STATUS_OWNER : Field := ⟨.MP_STATUS, 1, 2⟩
abbrev MP_STATUS_POLLING : Field := ⟨.MP_STATUS, 3, 1⟩
abbrev MP_STATUS_WAIT_WR : Field := ⟨.MP_STATUS, 4, 2⟩
abbrev MP_STATUS_DONE : Field := ⟨.MP_STATUS, 6, 1⟩
abbrev MP_QBASE_BASE : Field := ⟨.MP_QBASE, 0, 32⟩
abbrev MP_QCTL_SIZE : Field := ⟨.MP_QCTL, 0, 4⟩
abbrev MP_QCTL_RUN : Field := ⟨.MP_QCTL, 4, 1⟩
abbrev MP_QCTL_POLL_LIMIT : Field := ⟨.MP_QCTL, 16, 16⟩
abbrev MP_QPTR_TAIL : Field := ⟨.MP_QPTR, 0, 10⟩
abbrev MP_QPTR_HEAD : Field := ⟨.MP_QPTR, 16, 10⟩
abbrev MP_FAULT_REFUSED : Field := ⟨.MP_FAULT, 0, 1⟩
abbrev MP_FAULT_POLL_LIMIT : Field := ⟨.MP_FAULT, 1, 1⟩
abbrev MP_FAULT_NO_STROBE : Field := ⟨.MP_FAULT, 2, 1⟩
abbrev MP_FAULT_XIP_FAIL : Field := ⟨.MP_FAULT, 3, 1⟩
abbrev MP_FAULT_XIP_STALL : Field := ⟨.MP_FAULT, 4, 1⟩
abbrev MP_FAULT_XIP_STORE : Field := ⟨.MP_FAULT, 5, 1⟩
abbrev MP_FAULT_OUT_CHECK : Field := ⟨.MP_FAULT, 6, 1⟩
abbrev MP_DEVRD_RD_OP : Field := ⟨.MP_DEVRD, 0, 8⟩
abbrev MP_DEVRD_PROTO : Field := ⟨.MP_DEVRD, 8, 3⟩
abbrev MP_DEVRD_ADDR4 : Field := ⟨.MP_DEVRD, 11, 1⟩
abbrev MP_DEVRD_DUMMY : Field := ⟨.MP_DEVRD, 12, 5⟩
abbrev MP_DEVRD_EXT_INV : Field := ⟨.MP_DEVRD, 17, 1⟩
abbrev MP_DEVRD_LOAD_OP : Field := ⟨.MP_DEVRD, 24, 8⟩
abbrev MP_DEVWR_WREN_OP : Field := ⟨.MP_DEVWR, 0, 8⟩
abbrev MP_DEVWR_PROG_OP : Field := ⟨.MP_DEVWR, 8, 8⟩
abbrev MP_DEVWR_ERASE_OP : Field := ⟨.MP_DEVWR, 16, 8⟩
abbrev MP_DEVWR_STAT_OP : Field := ⟨.MP_DEVWR, 24, 8⟩
abbrev XIP_CTRL_ENABLE : Field := ⟨.XIP_CTRL, 0, 1⟩
abbrev XIP_CTRL_SEL : Field := ⟨.XIP_CTRL, 1, 1⟩
abbrev XIP_CTRL_STALL_US : Field := ⟨.XIP_CTRL, 16, 16⟩
abbrev XIP_BASE_BASE : Field := ⟨.XIP_BASE, 0, 32⟩
abbrev XIP_TADDR_TADDR : Field := ⟨.XIP_TADDR, 0, 32⟩
abbrev XIP_LEAVES_LEAF_COUNT : Field := ⟨.XIP_LEAVES, 0, 21⟩
abbrev XIP_STATUS_ROOTED : Field := ⟨.XIP_STATUS, 0, 1⟩
abbrev XIP_STATUS_FAILED : Field := ⟨.XIP_STATUS, 1, 1⟩
abbrev XIP_STATUS_LINES : Field := ⟨.XIP_STATUS, 2, 6⟩
abbrev XIP_STATUS_FULL : Field := ⟨.XIP_STATUS, 8, 1⟩
abbrev XIP_STATUS_FAIL_LEAF : Field := ⟨.XIP_STATUS, 12, 20⟩
abbrev XIP_ROOT_BYTES : Field := ⟨.XIP_ROOT, 0, 32⟩
abbrev BT_STATUS_SLOT : Field := ⟨.BT_STATUS, 0, 2⟩
abbrev BT_STATUS_PENDING : Field := ⟨.BT_STATUS, 2, 1⟩
abbrev BT_STATUS_CONFIRMED : Field := ⟨.BT_STATUS, 3, 1⟩
abbrev BT_STATUS_STAGE : Field := ⟨.BT_STATUS, 4, 2⟩
abbrev BT_STATUS_DIE_DONE : Field := ⟨.BT_STATUS, 8, 8⟩
abbrev BT_CTRL_CONFIRM : Field := ⟨.BT_CTRL, 0, 1⟩
abbrev BT_CTRL_CHECK : Field := ⟨.BT_CTRL, 1, 1⟩
abbrev BT_CTRL_CHECK_SLOT : Field := ⟨.BT_CTRL, 2, 1⟩
abbrev BT_CTRL_RECOPY : Field := ⟨.BT_CTRL, 3, 1⟩
abbrev BT_CTRL_RECOPY_DIE : Field := ⟨.BT_CTRL, 4, 3⟩
abbrev BT_CONFIRM_WINDOW_S : Field := ⟨.BT_CONFIRM, 0, 16⟩
abbrev BT_CONFIRM_LEFT_S : Field := ⟨.BT_CONFIRM, 16, 16⟩
abbrev BT_RETRY_EXP : Field := ⟨.BT_RETRY, 0, 3⟩
abbrev BT_RETRY_BADMASK : Field := ⟨.BT_RETRY, 4, 2⟩
abbrev BT_RETRY_LAST : Field := ⟨.BT_RETRY, 8, 4⟩
abbrev BT_RETRY_ATTEMPTS : Field := ⟨.BT_RETRY, 16, 16⟩
abbrev BT_SLOT_A_VERSION : Field := ⟨.BT_SLOT_A, 0, 32⟩
abbrev BT_SLOT_B_VERSION : Field := ⟨.BT_SLOT_B, 0, 32⟩
abbrev BT_SLOTFLAGS_SLOT_A : Field := ⟨.BT_SLOTFLAGS, 0, 8⟩
abbrev BT_SLOTFLAGS_SLOT_B : Field := ⟨.BT_SLOTFLAGS, 8, 8⟩
abbrev BT_CHECK_BUSY : Field := ⟨.BT_CHECK, 0, 1⟩
abbrev BT_CHECK_DONE : Field := ⟨.BT_CHECK, 1, 1⟩
abbrev BT_CHECK_RESULT : Field := ⟨.BT_CHECK, 2, 4⟩
abbrev BT_CHECK_FIRST_FAIL : Field := ⟨.BT_CHECK, 12, 20⟩
abbrev BT_FAULT_HEADER : Field := ⟨.BT_FAULT, 0, 1⟩
abbrev BT_FAULT_COLOPHON : Field := ⟨.BT_FAULT, 1, 1⟩
abbrev BT_FAULT_BLOCK : Field := ⟨.BT_FAULT, 2, 1⟩
abbrev BT_FAULT_BOTH_BAD : Field := ⟨.BT_FAULT, 3, 1⟩
abbrev BT_FAULT_RETIRED : Field := ⟨.BT_FAULT, 4, 1⟩
abbrev BT_FAULT_WINDOW : Field := ⟨.BT_FAULT, 5, 1⟩
abbrev BT_FAULT_ROLLBACK : Field := ⟨.BT_FAULT, 6, 1⟩
abbrev BT_FAULT_RELAY : Field := ⟨.BT_FAULT, 7, 1⟩
abbrev BT_FAULT_RESCUE : Field := ⟨.BT_FAULT, 8, 1⟩
abbrev BT_FAULT_REG_REJ : Field := ⟨.BT_FAULT, 9, 1⟩
abbrev BT_FAULT_FLAG_PROG : Field := ⟨.BT_FAULT, 10, 1⟩
abbrev BT_LOCK_ROM_LOCKED : Field := ⟨.BT_LOCK, 0, 1⟩
abbrev SN_CORE_RELEASE_RELEASE : Field := ⟨.SN_CORE_RELEASE, 0, 4⟩
abbrev SN_CORE_RELEASE_PENDING : Field := ⟨.SN_CORE_RELEASE, 4, 4⟩
abbrev SN_VECTOR_VECTOR : Field := ⟨.SN_VECTOR, 0, 32⟩
abbrev SN_WDT_PERIOD_MS : Field := ⟨.SN_WDT, 0, 16⟩
abbrev SN_WDT_RUNNING : Field := ⟨.SN_WDT, 16, 1⟩
abbrev SN_WDT_KICK_KICK : Field := ⟨.SN_WDT_KICK, 0, 8⟩
abbrev SN_TVEC_BASE : Field := ⟨.SN_TVEC, 0, 32⟩
abbrev SN_TRAP_CAUSE : Field := ⟨.SN_TRAP, 0, 4⟩
abbrev SN_TRAP_MCK_ACTIVE : Field := ⟨.SN_TRAP, 4, 1⟩
abbrev SN_TRAP_ADDR_ADDRESS : Field := ⟨.SN_TRAP_ADDR, 0, 32⟩
abbrev SN_FAULT_BUS_ERROR : Field := ⟨.SN_FAULT, 0, 1⟩
abbrev SN_FAULT_MACHINE_CHECK : Field := ⟨.SN_FAULT, 1, 1⟩
abbrev SN_FAULT_NESTED : Field := ⟨.SN_FAULT, 2, 1⟩
abbrev FU_CMD_OP : Field := ⟨.FU_CMD, 0, 4⟩
abbrev FU_CMD_DIE : Field := ⟨.FU_CMD, 4, 3⟩
abbrev FU_CMD_REGION : Field := ⟨.FU_CMD, 7, 3⟩
abbrev FU_CMD_ROW : Field := ⟨.FU_CMD, 10, 10⟩
abbrev FU_WDATA_VALUE : Field := ⟨.FU_WDATA, 0, 32⟩
abbrev FU_RDATA_VALUE : Field := ⟨.FU_RDATA, 0, 32⟩
abbrev FU_STATUS_BUSY : Field := ⟨.FU_STATUS, 0, 1⟩
abbrev FU_STATUS_DONE : Field := ⟨.FU_STATUS, 1, 1⟩
abbrev FU_STATUS_RESULT : Field := ⟨.FU_STATUS, 2, 4⟩
abbrev FU_STATUS_MARGINAL : Field := ⟨.FU_STATUS, 6, 1⟩
abbrev FU_STATUS_REDIRECTED : Field := ⟨.FU_STATUS, 7, 1⟩
abbrev FU_STATUS_SPARES_FREE : Field := ⟨.FU_STATUS, 8, 6⟩
abbrev FU_STATUS_TABLE_FAIL : Field := ⟨.FU_STATUS, 14, 1⟩
abbrev FU_STATUS_SCAN_MARGINAL : Field := ⟨.FU_STATUS, 15, 1⟩
abbrev FU_STATUS_VFUSE_OK : Field := ⟨.FU_STATUS, 16, 1⟩
abbrev FU_FAULT_REGION : Field := ⟨.FU_FAULT, 0, 1⟩
abbrev FU_FAULT_MARGINAL : Field := ⟨.FU_FAULT, 1, 1⟩
abbrev FU_FAULT_TABLE : Field := ⟨.FU_FAULT, 2, 1⟩
abbrev FU_FAULT_PROG_FAIL : Field := ⟨.FU_FAULT, 3, 1⟩
abbrev FU_FAULT_VFUSE : Field := ⟨.FU_FAULT, 4, 1⟩
abbrev FU_FAULT_CMD_REJ : Field := ⟨.FU_FAULT, 5, 1⟩
abbrev FU_FAULT_COPIES : Field := ⟨.FU_FAULT, 6, 1⟩
abbrev FU_FAULT_SPARE_USED : Field := ⟨.FU_FAULT, 7, 1⟩
abbrev FU_FAULT_SATURATED : Field := ⟨.FU_FAULT, 8, 1⟩
abbrev FU_LC_CURRENT : Field := ⟨.FU_LC, 0, 3⟩
abbrev FU_LC_NEXT : Field := ⟨.FU_LC, 4, 3⟩
abbrev FU_COUNTS_ROLLBACK : Field := ⟨.FU_COUNTS, 0, 9⟩
abbrev FU_COUNTS_TAMPER : Field := ⟨.FU_COUNTS, 16, 10⟩
abbrev FU_REGIONS_STATE0 : Field := ⟨.FU_REGIONS, 0, 2⟩
abbrev FU_REGIONS_STATE1 : Field := ⟨.FU_REGIONS, 2, 2⟩
abbrev FU_REGIONS_STATE2 : Field := ⟨.FU_REGIONS, 4, 2⟩
abbrev FU_REGIONS_STATE3 : Field := ⟨.FU_REGIONS, 6, 2⟩
abbrev FU_REGIONS_STATE4 : Field := ⟨.FU_REGIONS, 8, 2⟩
abbrev FU_REGIONS_STATE5 : Field := ⟨.FU_REGIONS, 10, 2⟩
abbrev FU_REGIONS_STATE6 : Field := ⟨.FU_REGIONS, 12, 2⟩
abbrev FU_REGIONS_STATE7 : Field := ⟨.FU_REGIONS, 14, 2⟩
abbrev FU_REGIONS_TRIM_FAIL : Field := ⟨.FU_REGIONS, 24, 8⟩
abbrev FU_POLICY_ECDSA_REQ : Field := ⟨.FU_POLICY, 0, 1⟩
abbrev FU_POLICY_MLDSA_REQ : Field := ⟨.FU_POLICY, 1, 1⟩
abbrev FU_POLICY_REVOKED : Field := ⟨.FU_POLICY, 4, 4⟩
abbrev KU_STATUS_IDENTITY : Field := ⟨.KU_STATUS, 0, 1⟩
abbrev KU_STATUS_ACTIVE_DIE : Field := ⟨.KU_STATUS, 1, 1⟩
abbrev KU_STATUS_STANDBY_OK : Field := ⟨.KU_STATUS, 2, 1⟩
abbrev KU_STATUS_CDI1 : Field := ⟨.KU_STATUS, 3, 1⟩
abbrev KU_STATUS_LEASES : Field := ⟨.KU_STATUS, 8, 9⟩
abbrev KU_CTRL_EVID_MIN : Field := ⟨.KU_CTRL, 0, 2⟩
abbrev KU_CTRL_SPDM_EN : Field := ⟨.KU_CTRL, 2, 1⟩
abbrev KU_FAULT_FAILOVER : Field := ⟨.KU_FAULT, 0, 1⟩
abbrev KU_FAULT_SELF_TEST : Field := ⟨.KU_FAULT, 1, 1⟩
abbrev KU_FAULT_BIND_REJ : Field := ⟨.KU_FAULT, 2, 1⟩
abbrev KU_FAULT_EVID_REJ : Field := ⟨.KU_FAULT, 3, 1⟩
abbrev KU_FAULT_SPDM_ERR : Field := ⟨.KU_FAULT, 4, 1⟩
abbrev KU_FAULT_CMD_REJ : Field := ⟨.KU_FAULT, 5, 1⟩
abbrev KU_CMD_OP : Field := ⟨.KU_CMD, 0, 4⟩
abbrev KU_ARG_ADDRESS : Field := ⟨.KU_ARG, 0, 32⟩
abbrev KU_CMD_STATUS_BUSY : Field := ⟨.KU_CMD_STATUS, 0, 1⟩
abbrev KU_CMD_STATUS_DONE : Field := ⟨.KU_CMD_STATUS, 1, 1⟩
abbrev KU_CMD_STATUS_RESULT : Field := ⟨.KU_CMD_STATUS, 4, 4⟩
abbrev KU_BIND_NONCE_BYTES : Field := ⟨.KU_BIND_NONCE, 0, 32⟩
abbrev KU_DEVID_BYTES : Field := ⟨.KU_DEVID, 0, 32⟩
abbrev KU_DEVIDM_BYTES : Field := ⟨.KU_DEVIDM, 0, 32⟩
abbrev KU_FWMEAS_BYTES : Field := ⟨.KU_FWMEAS, 0, 32⟩
abbrev HI_STATUS_LINK_UP : Field := ⟨.HI_STATUS, 0, 1⟩
abbrev HI_STATUS_SPEED : Field := ⟨.HI_STATUS, 1, 3⟩
abbrev HI_STATUS_WIDTH : Field := ⟨.HI_STATUS, 4, 3⟩
abbrev HI_STATUS_PAIRS : Field := ⟨.HI_STATUS, 8, 16⟩
abbrev HI_CTX_LO_ADDR_LO : Field := ⟨.HI_CTX_LO, 0, 32⟩
abbrev HI_CTX_HI_ADDR_HI : Field := ⟨.HI_CTX_HI, 0, 32⟩
abbrev HI_CTX_CTRL_EN : Field := ⟨.HI_CTX_CTRL, 0, 1⟩
abbrev HI_FAULT_DOORBELL : Field := ⟨.HI_FAULT, 0, 1⟩
abbrev HI_FAULT_CONTEXT : Field := ⟨.HI_FAULT, 1, 1⟩
abbrev HI_FAULT_DMA : Field := ⟨.HI_FAULT, 2, 1⟩
abbrev HI_FAULT_FW_TIMEOUT : Field := ⟨.HI_FAULT, 3, 1⟩
abbrev HI_CTRL_FW_TIMEOUT_MS : Field := ⟨.HI_CTRL, 0, 16⟩
abbrev HI_FW_BASE_BASE : Field := ⟨.HI_FW_BASE, 0, 32⟩
abbrev HI_FW_TAKE_SLOT : Field := ⟨.HI_FW_TAKE, 0, 4⟩
abbrev HI_FW_TAKE_TAG : Field := ⟨.HI_FW_TAKE, 8, 8⟩
abbrev HI_FW_TAKE_VALID : Field := ⟨.HI_FW_TAKE, 31, 1⟩
abbrev HI_FW_RES0_RESULT0 : Field := ⟨.HI_FW_RES0, 0, 32⟩
abbrev HI_FW_RES1_RESULT1 : Field := ⟨.HI_FW_RES1, 0, 32⟩
abbrev HI_FW_DONE_SLOT : Field := ⟨.HI_FW_DONE, 0, 4⟩
abbrev HI_FW_DONE_TAG : Field := ⟨.HI_FW_DONE, 4, 8⟩
abbrev HI_FW_DONE_STATUS : Field := ⟨.HI_FW_DONE, 12, 8⟩
abbrev HI_FW_DONE_RESLEN : Field := ⟨.HI_FW_DONE, 21, 11⟩
abbrev HI_FW_STATUS_FLUSHED : Field := ⟨.HI_FW_STATUS, 0, 1⟩
abbrev HI_FW_STATUS_QUEUED : Field := ⟨.HI_FW_STATUS, 1, 5⟩
abbrev HI_VF_CFG_QPMAX : Field := ⟨.HI_VF_CFG, 0, 8⟩
abbrev HI_VF_CFG_CTR_GRANT : Field := ⟨.HI_VF_CFG, 8, 1⟩
abbrev HI_VF_CFG_FW_GRANT : Field := ⟨.HI_VF_CFG, 9, 1⟩
abbrev MB_CTRL_WR_EN : Field := ⟨.MB_CTRL, 0, 1⟩
abbrev MB_CTRL_RESET_EN : Field := ⟨.MB_CTRL, 1, 1⟩
abbrev MB_STATUS_STATUS : Field := ⟨.MB_STATUS, 0, 8⟩
abbrev MB_STATUS_QUAD : Field := ⟨.MB_STATUS, 8, 1⟩
abbrev MB_FAULT_OVERRUN : Field := ⟨.MB_FAULT, 0, 1⟩
abbrev MB_FAULT_REFUSED : Field := ⟨.MB_FAULT, 1, 1⟩
abbrev MB_FAULT_FRAME : Field := ⟨.MB_FAULT, 2, 1⟩
abbrev MB_INLEN_WORDS : Field := ⟨.MB_INLEN, 0, 7⟩
abbrev MB_INLEN_FULL : Field := ⟨.MB_INLEN, 7, 1⟩
abbrev MB_OUTLEN_WORDS : Field := ⟨.MB_OUTLEN, 0, 7⟩
abbrev MB_OUTLEN_FULL : Field := ⟨.MB_OUTLEN, 7, 1⟩
abbrev MB_INBOX_WORD : Field := ⟨.MB_INBOX, 0, 32⟩
abbrev MB_OUTBOX_WORD : Field := ⟨.MB_OUTBOX, 0, 32⟩
abbrev FN_ASQ_LO_ADDR_LO : Field := ⟨.FN_ASQ_LO, 0, 32⟩
abbrev FN_ASQ_HI_ADDR_HI : Field := ⟨.FN_ASQ_HI, 0, 32⟩
abbrev FN_ACQ_LO_ADDR_LO : Field := ⟨.FN_ACQ_LO, 0, 32⟩
abbrev FN_ACQ_HI_ADDR_HI : Field := ⟨.FN_ACQ_HI, 0, 32⟩
abbrev FN_ASIZE_SQ_SIZE : Field := ⟨.FN_ASIZE, 0, 16⟩
abbrev FN_ASIZE_CQ_SIZE : Field := ⟨.FN_ASIZE, 16, 16⟩
abbrev FN_ACTRL_EN : Field := ⟨.FN_ACTRL, 0, 1⟩
abbrev FN_ACTRL_VECTOR : Field := ⟨.FN_ACTRL, 1, 5⟩
abbrev FN_ACTRL_IRQ_EN : Field := ⟨.FN_ACTRL, 6, 1⟩
abbrev FN_ACTRL_ERROR : Field := ⟨.FN_ACTRL, 7, 1⟩
abbrev FN_ACTRL_REFUSED : Field := ⟨.FN_ACTRL, 8, 1⟩
abbrev SQ_TAIL_TAIL : Field := ⟨.SQ_TAIL, 0, 16⟩
abbrev CQ_HEAD_HEAD : Field := ⟨.CQ_HEAD, 0, 16⟩
abbrev RV_CTRL_CMD_EN : Field := ⟨.RV_CTRL, 3, 1⟩
abbrev RV_CTRL_RESET_EN : Field := ⟨.RV_CTRL, 4, 1⟩
abbrev RV_CTRL_DLV_EN : Field := ⟨.RV_CTRL, 5, 1⟩
abbrev RV_CTRL_HEAD : Field := ⟨.RV_CTRL, 6, 1⟩
abbrev RV_CTRL_SESSION_S : Field := ⟨.RV_CTRL, 8, 8⟩
abbrev RV_STATUS_UP_LINK : Field := ⟨.RV_STATUS, 0, 1⟩
abbrev RV_STATUS_DN_LINK : Field := ⟨.RV_STATUS, 1, 1⟩
abbrev RV_STATUS_POS_VALID : Field := ⟨.RV_STATUS, 2, 1⟩
abbrev RV_STATUS_LOOP : Field := ⟨.RV_STATUS, 3, 1⟩
abbrev RV_STATUS_BROKEN : Field := ⟨.RV_STATUS, 4, 1⟩
abbrev RV_STATUS_SESSION : Field := ⟨.RV_STATUS, 5, 1⟩
abbrev RV_STATUS_NBR_CHG : Field := ⟨.RV_STATUS, 6, 2⟩
abbrev RV_STATUS_POSITION : Field := ⟨.RV_STATUS, 8, 10⟩
abbrev RV_STATUS_COUNT : Field := ⟨.RV_STATUS, 18, 11⟩
abbrev RV_FAULT_LINK_DOWN : Field := ⟨.RV_FAULT, 0, 1⟩
abbrev RV_FAULT_RESEND : Field := ⟨.RV_FAULT, 1, 1⟩
abbrev RV_FAULT_NEIGHBOUR : Field := ⟨.RV_FAULT, 2, 1⟩
abbrev RV_FAULT_POSITION : Field := ⟨.RV_FAULT, 3, 1⟩
abbrev RV_FAULT_SESSION : Field := ⟨.RV_FAULT, 5, 1⟩
abbrev RV_FAULT_REFUSED : Field := ⟨.RV_FAULT, 6, 1⟩
abbrev RV_FAULT_RING_FULL : Field := ⟨.RV_FAULT, 7, 1⟩
abbrev RV_CMD_OP : Field := ⟨.RV_CMD, 0, 4⟩
abbrev RV_TXBASE_BASE : Field := ⟨.RV_TXBASE, 0, 32⟩
abbrev RV_TXPTR_TAIL : Field := ⟨.RV_TXPTR, 0, 5⟩
abbrev RV_TXPTR_HEAD : Field := ⟨.RV_TXPTR, 16, 5⟩
abbrev RV_RXBASE_BASE : Field := ⟨.RV_RXBASE, 0, 32⟩
abbrev RV_RXPTR_HEAD : Field := ⟨.RV_RXPTR, 0, 9⟩
abbrev RV_RXPTR_SIZE : Field := ⟨.RV_RXPTR, 16, 4⟩
abbrev RV_RXPTR_TAIL : Field := ⟨.RV_RXPTR, 21, 9⟩
abbrev RV_CSEQ_CSEQ : Field := ⟨.RV_CSEQ, 0, 32⟩
abbrev RV_NBR_BYTES : Field := ⟨.RV_NBR, 0, 32⟩
abbrev GD_CTRL_LOCKDOWN : Field := ⟨.GD_CTRL, 0, 1⟩
abbrev GD_CTRL_CROSS_RESP : Field := ⟨.GD_CTRL, 1, 2⟩
abbrev GD_CTRL_HOLDOFF_MS : Field := ⟨.GD_CTRL, 8, 8⟩
abbrev GD_STATUS_LOCKED : Field := ⟨.GD_STATUS, 0, 1⟩
abbrev GD_STATUS_EPOCH_DONE : Field := ⟨.GD_STATUS, 1, 1⟩
abbrev GD_STATUS_CROSS_DONE : Field := ⟨.GD_STATUS, 2, 1⟩
abbrev GD_STATUS_CROSS_FAIL : Field := ⟨.GD_STATUS, 3, 1⟩
abbrev GD_STATUS_LAST_SOURCE : Field := ⟨.GD_STATUS, 8, 7⟩
abbrev GD_FAULT_EVENT : Field := ⟨.GD_FAULT, 0, 1⟩
abbrev GD_FAULT_BURN : Field := ⟨.GD_FAULT, 1, 1⟩
abbrev GD_FAULT_CROSS : Field := ⟨.GD_FAULT, 2, 1⟩
abbrev GD_FAULT_LOCKDOWN : Field := ⟨.GD_FAULT, 3, 1⟩
abbrev GD_FAULT_REFUSED : Field := ⟨.GD_FAULT, 4, 1⟩
abbrev GD_FAULT_WRITE : Field := ⟨.GD_FAULT, 5, 1⟩
abbrev GD_FAULT_CHAIN : Field := ⟨.GD_FAULT, 6, 1⟩
abbrev GD_FAULT_LOST : Field := ⟨.GD_FAULT, 7, 1⟩
abbrev GD_FAULT_FOREIGN : Field := ⟨.GD_FAULT, 8, 1⟩
abbrev GD_CMD_OP : Field := ⟨.GD_CMD, 0, 4⟩
abbrev GD_ARG_ADDRESS : Field := ⟨.GD_ARG, 0, 32⟩
abbrev GD_CMD_STATUS_BUSY : Field := ⟨.GD_CMD_STATUS, 0, 1⟩
abbrev GD_CMD_STATUS_DONE : Field := ⟨.GD_CMD_STATUS, 1, 1⟩
abbrev GD_CMD_STATUS_RESULT : Field := ⟨.GD_CMD_STATUS, 4, 4⟩
abbrev GD_UNLOCK_NONCE_BYTES : Field := ⟨.GD_UNLOCK_NONCE, 0, 32⟩
abbrev GD_PSNS_FILTERED : Field := ⟨.GD_PSNS, 0, 16⟩
abbrev GD_PSNS_RAW : Field := ⟨.GD_PSNS, 16, 16⟩
abbrev GD_SRC_CFG_ENABLE : Field := ⟨.GD_SRC_CFG, 0, 1⟩
abbrev GD_SRC_CFG_TAMPER : Field := ⟨.GD_SRC_CFG, 1, 1⟩
abbrev GD_SRC_CFG_RESP : Field := ⟨.GD_SRC_CFG, 2, 3⟩
abbrev GD_SRC_CFG_FILT : Field := ⟨.GD_SRC_CFG, 8, 8⟩
abbrev GD_SRC_CFG_ACT_LVL : Field := ⟨.GD_SRC_CFG, 16, 1⟩
abbrev GD_SRC_CNT_COUNT : Field := ⟨.GD_SRC_CNT, 0, 16⟩
abbrev FO_BASE_BASE : Field := ⟨.FO_BASE, 0, 32⟩
abbrev FO_SIZE_SIZE : Field := ⟨.FO_SIZE, 0, 32⟩
abbrev FO_CTRL_TICK_S : Field := ⟨.FO_CTRL, 0, 16⟩
abbrev FO_STATUS_STATE : Field := ⟨.FO_STATUS, 0, 3⟩
abbrev FO_STATUS_BROKEN : Field := ⟨.FO_STATUS, 3, 1⟩
abbrev FO_STATUS_DEV_LOST : Field := ⟨.FO_STATUS, 4, 2⟩
abbrev FO_STATUS_FULL : Field := ⟨.FO_STATUS, 6, 1⟩
abbrev FO_STATUS_TIME_VALID : Field := ⟨.FO_STATUS, 7, 1⟩
abbrev FO_STATUS_STAGED : Field := ⟨.FO_STATUS, 8, 12⟩
abbrev FO_SEQ_DURABLE : Field := ⟨.FO_SEQ, 0, 32⟩
abbrev FO_SEQ_NEXT_NEXT : Field := ⟨.FO_SEQ_NEXT, 0, 32⟩
abbrev FO_CMD_OP : Field := ⟨.FO_CMD, 0, 4⟩
abbrev FO_CMD_TYPE : Field := ⟨.FO_CMD, 8, 8⟩
abbrev FO_CMD_LEN : Field := ⟨.FO_CMD, 16, 12⟩
abbrev FO_ARG_ADDRESS : Field := ⟨.FO_ARG, 0, 32⟩
abbrev FO_CMD_STATUS_BUSY : Field := ⟨.FO_CMD_STATUS, 0, 1⟩
abbrev FO_CMD_STATUS_DONE : Field := ⟨.FO_CMD_STATUS, 1, 1⟩
abbrev FO_CMD_STATUS_RESULT : Field := ⟨.FO_CMD_STATUS, 4, 4⟩
abbrev OB_CNT_COUNT : Field := ⟨.OB_CNT, 0, 20⟩
abbrev OB_CHAIN_PAIR : Field := ⟨.OB_CHAIN, 0, 32⟩
abbrev OB_SAT_SAT : Field := ⟨.OB_SAT, 0, 32⟩
abbrev OB_SNAP_HIGH : Field := ⟨.OB_SNAP, 0, 20⟩
abbrev OB_STATUS_WATCH : Field := ⟨.OB_STATUS, 0, 16⟩
abbrev OB_STATUS_MISSED : Field := ⟨.OB_STATUS, 16, 16⟩
abbrev OB_WATCH_CFG_EVENT : Field := ⟨.OB_WATCH_CFG, 0, 10⟩
abbrev OB_WATCH_CFG_ACTION : Field := ⟨.OB_WATCH_CFG, 10, 2⟩
abbrev OB_WATCH_CFG_CORE : Field := ⟨.OB_WATCH_CFG, 12, 2⟩
abbrev OB_WATCH_PERIOD_PERIOD : Field := ⟨.OB_WATCH_PERIOD, 0, 20⟩
abbrev OB_WATCH_COUNT_COUNT : Field := ⟨.OB_WATCH_COUNT, 0, 20⟩
abbrev OB_NS_PC_PC : Field := ⟨.OB_NS_PC, 0, 32⟩
abbrev OB_NS_FRAME_LASTOP : Field := ⟨.OB_NS_FRAME, 0, 32⟩
abbrev OB_NS_ADDR_ADDRESS : Field := ⟨.OB_NS_ADDR, 0, 32⟩
abbrev OB_PREC_CTRL_WRAP : Field := ⟨.OB_PREC_CTRL, 0, 1⟩
abbrev OB_PREC_CTRL_CORE : Field := ⟨.OB_PREC_CTRL, 1, 2⟩
abbrev OB_PREC_CTRL_THRESH : Field := ⟨.OB_PREC_CTRL, 3, 8⟩
abbrev OB_PREC_PTR_WRITE : Field := ⟨.OB_PREC_PTR, 0, 8⟩
abbrev OB_PREC_PTR_READ : Field := ⟨.OB_PREC_PTR, 8, 8⟩
abbrev OB_PREC_PTR_FULL : Field := ⟨.OB_PREC_PTR, 16, 1⟩
abbrev OB_PREC_LOST_LOST : Field := ⟨.OB_PREC_LOST, 0, 32⟩
abbrev OB_PREC_REC_WORD : Field := ⟨.OB_PREC_REC, 0, 32⟩

end Fld

end Sys2Proof.Machine
end

