-- ==== Sys2Proof/Machine/Regs.lean ====
section
/-! DEFINITION. What the register tables of the spec say of each register: its reset value, which of its bits a write
replaces, sets or clears, which a read clears, and the domain that holds it (R15, R17, R18, R227). -/

namespace Sys2Proof.Machine

/-- The Reset column: the value of the whole word after a reset that clears its domain, on the SPG-6408 (R15). -/
def RegName.reset : RegName → Nat
  | .PART_INFO => 0x64084080
  | .CH_PROTO => 0xf0a040
  | .CH_TIMING => 0x32
  | .CH_FILL | .RC_CLK => 0x1ff
  | .CH_TIMEOUT => 0x1003e8
  | .CH_RESET => 0xa1
  | .CH_OWN => 0x20019
  | .SHAPE_DATA | .BT_STATUS | .FU_POLICY | .MB_CTRL | .GD_SRC_CFG | .SHAPE_ENTRY => 0x3
  | .FM_BIND | .FM_BIND_EFF | .BIND_STG | .BIND_ACT | .BIND_NXT => 0x200000
  | .OPC => 0x6f6f6f6f
  | .EPOCH_CTRL => 0x2710
  | .EPOCH_MAP_LO | .EPOCH_MAP_HI => 0xffffffff
  | .WIT_HORIZON => 0xfa0
  | .WIT_CHCFG => 0xa0200
  | .TD_CFG => 0xaa000
  | .PG_CTRL => 0x7d00000
  | .MC_CTRL => 0xe100004
  | .CR_OPS => 0x5dc0206
  | .CR_SCRUB => 0xa8
  | .CR_ENDUR => 0x186a0
  | .HP_CTRL => 0x140023
  | .RC_CAUSE | .HI_VF_CFG => 0x1
  | .RC_DIE_STATE => 0xaaaa
  | .MP_CTRL => 0x10120
  | .MP_QCTL => 0xfa00004
  | .MP_DEVRD => 0x13000003
  | .MP_DEVWR => 0x5200206
  | .XIP_CTRL => 0x640000
  | .SN_WDT => 0x7d0
  | .KU_CTRL => 0x7
  | .HI_CTRL => 0x3e8
  | .RV_CTRL => 0xa18
  | .RV_RXPTR => 0x40000
  | .GD_CTRL => 0xa04
  | .FO_CTRL => 0xe10
  | _ => 0x0

/-- Bits with access code RW or RWS: a write replaces them. -/
def RegName.rwMask : RegName → Nat
  | .CH_CTRL | .RV_TXPTR => 0x1f
  | .CH_PROTO => 0xffff7f
  | .CH_TIMING => 0x3f
  | .CH_FILL | .SHAPE_INDEX => 0x1ff
  | .CH_TIMEOUT | .EPOCH_CTRL | .WIT_ARG1 | .TD_LEAVES | .MC_ARG1 | .CR_COUNT => 0x1fffff
  | .CH_TWIN | .RP_LINE | .FQ_CTRL | .HI_CTX_CTRL => 0x1
  | .CH_RESET => 0xff3
  | .CH_OWN => 0xff077f
  | .SHAPE_DATA | .SHADOW_SFDP | .SHADOW_ID | .SS_VIEW0 | .SS_VIEW1 | .SS_TIME0 | .SS_TIME1 | .OPC | .SLUG
  | .TD_VADDR | .TD_CADDR | .TD_REGION | .TD_FLOOR | .RP_GATES | .RP_CLIENT | .CR_OPS | .CR_GADDR
  | .CR_REFRESH | .MP_QBASE | .MP_DEVWR | .XIP_BASE | .XIP_TADDR | .SN_VECTOR | .SN_TVEC | .FU_WDATA
  | .KU_ARG | .HI_CTX_LO | .HI_CTX_HI | .HI_FW_BASE | .HI_FW_RES0 | .HI_FW_RES1 | .MB_OUTBOX | .FN_ASQ_LO
  | .FN_ASQ_HI | .FN_ACQ_LO | .FN_ACQ_HI | .FN_ASIZE | .RV_TXBASE | .RV_RXBASE | .GD_ARG | .FO_BASE
  | .FO_SIZE | .FO_ARG | .OB_CHAIN => 0xffffffff
  | .SHADOW_CTRL => 0x1f03ff
  | .FM_CTRL | .MB_CTRL => 0x3
  | .FM_BIND => 0x1ff001f
  | .SS_CTRL => 0x1ffff1
  | .SS_IDLE | .CR_SCRUB | .RC_WDT_ESC | .SN_WDT | .HI_CTRL | .FO_CTRL => 0xffff
  | .WIT_HORIZON | .WIT_ARG0 | .TD_BASE | .MC_ARG0 | .CR_BASE | .OB_CNT | .OB_WATCH_PERIOD => 0xfffff
  | .WIT_CHCFG => 0xff03ff
  | .TD_CFG => 0x1fffdf
  | .PG_CTRL => 0xffff03ef
  | .MC_CTRL => 0xffff0007
  | .MC_VCFG | .OB_PREC_CTRL => 0x7ff
  | .CR_CFG | .CR_ENDUR => 0xffffff
  | .CR_OPS2 => 0x3fffffff
  | .HP_CTRL => 0xff00ff
  | .MP_CTRL => 0xff1fff
  | .MP_QCTL => 0xffff001f
  | .MP_QPTR | .HI_VF_CFG => 0x3ff
  | .MP_DEVRD => 0xff03ffff
  | .XIP_CTRL => 0xffff0003
  | .BT_RETRY => 0xffff0f37
  | .KU_CTRL => 0x7
  | .MB_OUTLEN | .FN_ACTRL => 0x7f
  | .RV_CTRL => 0xff78
  | .RV_RXPTR => 0xf01ff
  | .GD_CTRL => 0xff07
  | .GD_SRC_CFG => 0x1ff1f
  | .OB_WATCH_CFG => 0x3fff
  | .OB_PREC_PTR => 0xff00
  | _ => 0x0

/-- Bits with access code W1C: a 1 clears them. -/
def RegName.w1cMask : RegName → Nat
  | .CH_FAULT | .FM_FAULT | .FU_FAULT | .GD_FAULT => 0x1ff
  | .EPOCH_STATUS => 0xe
  | .WIT_FAULT | .BT_FAULT => 0x7ff
  | .WIT_CMD_STATUS | .MC_CMD_STATUS | .BT_CHECK | .FU_STATUS | .KU_CMD_STATUS | .GD_CMD_STATUS
  | .FO_CMD_STATUS => 0x2
  | .RP_LINE => 0x4
  | .MC_STATUS | .SN_TRAP => 0x10
  | .MC_FAULT => 0x1fff
  | .CR_STATE => 0x300000
  | .FQ_STATUS => 0x100
  | .CF_FAULT | .MP_FAULT => 0x7f
  | .IF_FAULT | .OB_SAT | .OB_STATUS => 0xffffffff
  | .RC_CAUSE => 0xfff
  | .RC_DEFER => 0x400
  | .RC_FAULT => 0x1f
  | .MP_STATUS => 0x40
  | .SN_FAULT | .MB_FAULT => 0x7
  | .KU_FAULT => 0x3f
  | .HI_FAULT => 0xf
  | .HI_FW_STATUS => 0x1
  | .MB_INLEN => 0x80
  | .RV_STATUS => 0xc0
  | .RV_FAULT => 0xef
  | _ => 0x0

/-- Bits with access code W1S: a 1 sets them. -/
def RegName.w1sMask : RegName → Nat
  | .FM_QUOIN => 0xffffffff
  | .PG_CTRL => 0x10
  | .SN_CORE_RELEASE => 0xf
  | .MB_OUTLEN => 0x80
  | _ => 0x0

/-- Bits with access code RC: a read returns and clears them. -/
def RegName.rcMask : RegName → Nat
  | .FM_LSINFO => 0xffff03ff
  | .HP_STALE | .HP_MIGRATED | .OB_PREC_LOST => 0xffffffff
  | .GD_SRC_CNT => 0xffff
  | _ => 0x0

/-- A reset domain as far as it holds registers (Table 7.1). -/
inductive Dom where
  | const | aon | plat | hif | rlv
  /-- A register of a die, with the number of registers of the name on each die. -/
  | die (per : Nat)
  /-- A register of a master port: HOME and VLT0 lie on die 0 with PLAT, VLT1 on die 1 (R21, R238). -/
  | port
  deriving DecidableEq, Repr

/-- The domain that holds a register (R227, R249, R298, R386, R402, R427). -/
def RegName.dom : RegName → Dom
  | .PART_INFO => .const
  | .CH_CTRL | .CH_STATUS | .CH_PROTO | .CH_TIMING | .CH_FILL | .CH_TIMEOUT | .CH_TWIN | .CH_RESET | .CH_OWN
  | .CH_FAULT | .CH_PERIOD | .CH_LASTOP | .CH_LASTADDR | .SHAPE_INDEX | .SHAPE_DATA | .SHADOW_CTRL | .FM_BIND
  | .FM_BIND_EFF | .SS_CTRL | .SS_VIEW0 | .SS_VIEW1 | .SS_IDLE | .SS_TIME0 | .SS_TIME1 | .WIT_CHCFG
  | .WIT_CONSUMED | .WIT_REPORTED | .WIT_CHSTAT => .die 8
  | .SHADOW_SFDP => .die 1536
  | .SHADOW_ID | .CR_CFG | .CR_OPS | .CR_OPS2 | .CR_BASE | .CR_COUNT | .CR_GADDR | .CR_SCRUB | .CR_REFRESH
  | .CR_ENDUR | .CR_STATE | .OB_SAT => .die 32
  | .FM_STATUS | .FM_CTRL | .FM_FAULT | .FM_LSINFO | .FM_QUOIN | .FM_QUOIN_EFF | .WIT_STATUS | .WIT_HORIZON
  | .WIT_FAULT | .WIT_CMD | .WIT_ARG0 | .WIT_ARG1 | .WIT_CMD_STATUS | .WIT_OCC | .MC_CTRL | .MC_STATUS
  | .MC_FAULT | .MC_CMD | .MC_ARG0 | .MC_ARG1 | .MC_CMD_STATUS | .MC_JOPEN | .HP_CTRL | .HP_STATUS
  | .HP_STALE | .HP_MIGRATED | .FB_STATUS | .CF_FAULT | .IF_FAULT | .SN_CORE_RELEASE | .SN_FAULT | .OB_SNAP
  | .OB_STATUS | .OB_PREC_CTRL | .OB_PREC_PTR | .OB_PREC_LOST => .die 1
  | .OPC | .OB_PREC_REC | .SHAPE_ENTRY => .die 2048
  | .SLUG => .die 8192
  | .TD_CFG | .TD_BASE | .TD_LEAVES | .TD_VADDR | .TD_CADDR | .TD_REGION | .TD_FLOOR | .TD_VERSION
  | .TD_STATE | .TD_SWEEP => .die 256
  | .TD_ROOT => .die 3072
  | .MC_VCFG => .die 2
  | .GD_PSNS | .FAULT_US | .RC_CAUSE | .RC_COUNT | .RC_DEFER | .BT_RETRY | .RV_CSEQ => .aon
  | .MP_CTRL | .MP_STATUS | .MP_QBASE | .MP_QCTL | .MP_QPTR | .MP_FAULT | .MP_DEVRD | .MP_DEVWR | .XIP_CTRL
  | .XIP_BASE | .XIP_TADDR | .XIP_LEAVES | .XIP_STATUS | .XIP_ROOT => .port
  | .SN_VECTOR | .SN_WDT | .SN_WDT_KICK | .SN_TVEC | .SN_TRAP | .SN_TRAP_ADDR => .die 4
  | .HI_STATUS | .HI_CTX_LO | .HI_CTX_HI | .HI_CTX_CTRL | .HI_FAULT | .HI_CTRL | .HI_VF_CFG | .FN_ASQ_LO
  | .FN_ASQ_HI | .FN_ACQ_LO | .FN_ACQ_HI | .FN_ASIZE | .FN_ACTRL | .SQ_TAIL | .CQ_HEAD => .hif
  | .RV_CTRL | .RV_STATUS | .RV_FAULT | .RV_CMD | .RV_TXBASE | .RV_TXPTR | .RV_RXBASE | .RV_RXPTR | .RV_NBR => .rlv
  | .OB_CNT => .die 1024
  | .OB_CHAIN | .OB_WATCH_CFG | .OB_WATCH_PERIOD | .OB_WATCH_COUNT | .OB_NS_PC | .OB_NS_FRAME | .OB_NS_ADDR
  | .BIND_STG | .BIND_ACT | .BIND_NXT => .die 16
  | .FM_STG | .FM_ACT | .FM_NXT => .die 32768
  | _ => .plat

/-- A row of an address map: the registers `name` at `base + stride × k`, k < count, numbered from `first`. -/
structure MapRow where
  name : RegName
  base : Nat
  stride : Nat
  count : Nat
  first : Nat := 0
  deriving DecidableEq, Repr

/-- Package registers, by BAR0 offset. -/
def globalMap0 : List MapRow := [
  ⟨.PART_INFO, 0x0, 0x4, 1, 0⟩,
  ⟨.EPOCH_CUR, 0x3000, 0x4, 1, 0⟩,
  ⟨.EPOCH_CTRL, 0x3004, 0x4, 1, 0⟩,
  ⟨.EPOCH_GO, 0x3008, 0x4, 1, 0⟩,
  ⟨.EPOCH_STATUS, 0x300c, 0x4, 1, 0⟩,
  ⟨.EPOCH_MAP_LO, 0x3010, 0x4, 1, 0⟩,
  ⟨.EPOCH_MAP_HI, 0x3014, 0x4, 1, 0⟩,
  ⟨.EPOCH_LATE_LO, 0x3018, 0x4, 1, 0⟩,
  ⟨.EPOCH_LATE_HI, 0x301c, 0x4, 1, 0⟩,
  ⟨.RP_LINE, 0x3400, 0x4, 32, 0⟩,
  ⟨.RP_GATES, 0x3480, 0x4, 32, 0⟩,
  ⟨.RP_CLIENT, 0x3500, 0x4, 64, 0⟩,
  ⟨.PG_CTRL, 0x3600, 0x8, 32, 0⟩,
  ⟨.PG_STATUS, 0x3604, 0x8, 32, 0⟩,
  ⟨.FAULT_US, 0x4200, 0x4, 1, 0⟩,
  ⟨.FQ_STATUS, 0x4000, 0x40, 8, 0⟩,
  ⟨.FQ_HEAD0, 0x4004, 0x40, 8, 0⟩,
  ⟨.FQ_HEAD1, 0x4008, 0x40, 8, 0⟩,
  ⟨.FQ_HEAD2, 0x400c, 0x40, 8, 0⟩,
  ⟨.FQ_HEAD3, 0x4010, 0x40, 8, 0⟩,
  ⟨.FQ_POP, 0x4014, 0x40, 8, 0⟩,
  ⟨.FQ_CTRL, 0x4018, 0x40, 8, 0⟩,
  ⟨.FQ_TOTAL, 0x401c, 0x40, 8, 0⟩,
  ⟨.RC_CAUSE, 0x2000, 0x4, 1, 0⟩]

/-- Package registers, by BAR0 offset. -/
def globalMap1 : List MapRow := [
  ⟨.RC_COUNT, 0x2004, 0x4, 1, 0⟩,
  ⟨.RC_DEFER, 0x2008, 0x4, 1, 0⟩,
  ⟨.RC_DIE_RESET, 0x200c, 0x4, 1, 0⟩,
  ⟨.RC_DIE_STATE, 0x2010, 0x4, 1, 0⟩,
  ⟨.RC_WDT_ESC, 0x2014, 0x4, 1, 0⟩,
  ⟨.RC_CLK, 0x2018, 0x4, 1, 0⟩,
  ⟨.RC_FAULT, 0x201c, 0x4, 1, 0⟩,
  ⟨.MP_CTRL, 0x5000, 0x400, 3, 0⟩,
  ⟨.MP_STATUS, 0x5004, 0x400, 3, 0⟩,
  ⟨.MP_QBASE, 0x5008, 0x400, 3, 0⟩,
  ⟨.MP_QCTL, 0x500c, 0x400, 3, 0⟩,
  ⟨.MP_QPTR, 0x5010, 0x400, 3, 0⟩,
  ⟨.MP_FAULT, 0x5014, 0x400, 3, 0⟩,
  ⟨.MP_DEVRD, 0x5020, 0x10, 2, 0⟩,
  ⟨.MP_DEVRD, 0x5420, 0x10, 2, 2⟩,
  ⟨.MP_DEVRD, 0x5820, 0x10, 2, 4⟩,
  ⟨.MP_DEVWR, 0x5024, 0x10, 2, 0⟩,
  ⟨.MP_DEVWR, 0x5424, 0x10, 2, 2⟩,
  ⟨.MP_DEVWR, 0x5824, 0x10, 2, 4⟩,
  ⟨.XIP_CTRL, 0x5100, 0x4, 1, 0⟩,
  ⟨.XIP_BASE, 0x5104, 0x4, 1, 0⟩,
  ⟨.XIP_TADDR, 0x5108, 0x4, 1, 0⟩,
  ⟨.XIP_LEAVES, 0x510c, 0x4, 1, 0⟩,
  ⟨.XIP_STATUS, 0x5110, 0x4, 1, 0⟩]

/-- Package registers, by BAR0 offset. -/
def globalMap2 : List MapRow := [
  ⟨.XIP_ROOT, 0x5130, 0x4, 12, 0⟩,
  ⟨.BT_STATUS, 0x6000, 0x4, 1, 0⟩,
  ⟨.BT_CTRL, 0x6004, 0x4, 1, 0⟩,
  ⟨.BT_CONFIRM, 0x6008, 0x4, 1, 0⟩,
  ⟨.BT_RETRY, 0x600c, 0x4, 1, 0⟩,
  ⟨.BT_SLOT_A, 0x6010, 0x4, 1, 0⟩,
  ⟨.BT_SLOT_B, 0x6014, 0x4, 1, 0⟩,
  ⟨.BT_SLOTFLAGS, 0x6018, 0x4, 1, 0⟩,
  ⟨.BT_CHECK, 0x601c, 0x4, 1, 0⟩,
  ⟨.BT_FAULT, 0x6020, 0x4, 1, 0⟩,
  ⟨.BT_LOCK, 0x6024, 0x4, 1, 0⟩,
  ⟨.FU_CMD, 0x7000, 0x4, 1, 0⟩,
  ⟨.FU_WDATA, 0x7004, 0x4, 1, 0⟩,
  ⟨.FU_RDATA, 0x7008, 0x4, 1, 0⟩,
  ⟨.FU_STATUS, 0x700c, 0x4, 1, 0⟩,
  ⟨.FU_FAULT, 0x7010, 0x4, 1, 0⟩,
  ⟨.FU_LC, 0x7014, 0x4, 1, 0⟩,
  ⟨.FU_COUNTS, 0x7018, 0x4, 1, 0⟩,
  ⟨.FU_REGIONS, 0x701c, 0x4, 1, 0⟩,
  ⟨.FU_POLICY, 0x7020, 0x4, 1, 0⟩,
  ⟨.KU_STATUS, 0x8000, 0x4, 1, 0⟩,
  ⟨.KU_CTRL, 0x8004, 0x4, 1, 0⟩,
  ⟨.KU_FAULT, 0x8008, 0x4, 1, 0⟩,
  ⟨.KU_CMD, 0x800c, 0x4, 1, 0⟩]

/-- Package registers, by BAR0 offset. -/
def globalMap3 : List MapRow := [
  ⟨.KU_ARG, 0x8010, 0x4, 1, 0⟩,
  ⟨.KU_CMD_STATUS, 0x8014, 0x4, 1, 0⟩,
  ⟨.KU_BIND_NONCE, 0x8020, 0x4, 8, 0⟩,
  ⟨.KU_DEVID, 0x8040, 0x4, 12, 0⟩,
  ⟨.KU_DEVIDM, 0x8070, 0x4, 12, 0⟩,
  ⟨.KU_FWMEAS, 0x80a0, 0x4, 12, 0⟩,
  ⟨.HI_STATUS, 0x9000, 0x4, 1, 0⟩,
  ⟨.HI_CTX_LO, 0x9004, 0x4, 1, 0⟩,
  ⟨.HI_CTX_HI, 0x9008, 0x4, 1, 0⟩,
  ⟨.HI_CTX_CTRL, 0x900c, 0x4, 1, 0⟩,
  ⟨.HI_FAULT, 0x9010, 0x4, 1, 0⟩,
  ⟨.HI_CTRL, 0x9014, 0x4, 1, 0⟩,
  ⟨.HI_FW_BASE, 0x9020, 0x4, 1, 0⟩,
  ⟨.HI_FW_TAKE, 0x9024, 0x4, 1, 0⟩,
  ⟨.HI_FW_RES0, 0x9028, 0x4, 1, 0⟩,
  ⟨.HI_FW_RES1, 0x902c, 0x4, 1, 0⟩,
  ⟨.HI_FW_DONE, 0x9030, 0x4, 1, 0⟩,
  ⟨.HI_FW_STATUS, 0x9034, 0x4, 1, 0⟩,
  ⟨.HI_VF_CFG, 0x9404, 0x4, 255, 1⟩,
  ⟨.MB_CTRL, 0xa000, 0x4, 1, 0⟩,
  ⟨.MB_STATUS, 0xa004, 0x4, 1, 0⟩,
  ⟨.MB_FAULT, 0xa008, 0x4, 1, 0⟩,
  ⟨.MB_INLEN, 0xa00c, 0x4, 1, 0⟩,
  ⟨.MB_OUTLEN, 0xa010, 0x4, 1, 0⟩]

/-- Package registers, by BAR0 offset. -/
def globalMap4 : List MapRow := [
  ⟨.MB_INBOX, 0xa100, 0x4, 64, 0⟩,
  ⟨.MB_OUTBOX, 0xa200, 0x4, 64, 0⟩,
  ⟨.RV_CTRL, 0xb000, 0x4, 1, 0⟩,
  ⟨.RV_STATUS, 0xb004, 0x4, 1, 0⟩,
  ⟨.RV_FAULT, 0xb008, 0x4, 1, 0⟩,
  ⟨.RV_CMD, 0xb00c, 0x4, 1, 0⟩,
  ⟨.RV_TXBASE, 0xb010, 0x4, 1, 0⟩,
  ⟨.RV_TXPTR, 0xb014, 0x4, 1, 0⟩,
  ⟨.RV_RXBASE, 0xb018, 0x4, 1, 0⟩,
  ⟨.RV_RXPTR, 0xb01c, 0x4, 1, 0⟩,
  ⟨.RV_CSEQ, 0xb020, 0x4, 2, 0⟩,
  ⟨.RV_NBR, 0xb040, 0x4, 24, 0⟩,
  ⟨.GD_CTRL, 0xc000, 0x4, 1, 0⟩,
  ⟨.GD_STATUS, 0xc004, 0x4, 1, 0⟩,
  ⟨.GD_FAULT, 0xc008, 0x4, 1, 0⟩,
  ⟨.GD_CMD, 0xc00c, 0x4, 1, 0⟩,
  ⟨.GD_ARG, 0xc010, 0x4, 1, 0⟩,
  ⟨.GD_CMD_STATUS, 0xc014, 0x4, 1, 0⟩,
  ⟨.GD_UNLOCK_NONCE, 0xc020, 0x4, 8, 0⟩,
  ⟨.GD_PSNS, 0xc040, 0x4, 1, 0⟩,
  ⟨.GD_SRC_CFG, 0xc100, 0x4, 89, 0⟩,
  ⟨.GD_SRC_CNT, 0xc300, 0x4, 89, 0⟩,
  ⟨.FO_BASE, 0xc800, 0x4, 1, 0⟩,
  ⟨.FO_SIZE, 0xc804, 0x4, 1, 0⟩]

/-- Package registers, by BAR0 offset. -/
def globalMap5 : List MapRow := [
  ⟨.FO_CTRL, 0xc808, 0x4, 1, 0⟩,
  ⟨.FO_STATUS, 0xc80c, 0x4, 1, 0⟩,
  ⟨.FO_SEQ, 0xc810, 0x4, 1, 0⟩,
  ⟨.FO_SEQ_NEXT, 0xc814, 0x4, 1, 0⟩,
  ⟨.FO_CMD, 0xc818, 0x4, 1, 0⟩,
  ⟨.FO_ARG, 0xc81c, 0x4, 1, 0⟩,
  ⟨.FO_CMD_STATUS, 0xc820, 0x4, 1, 0⟩]

/-- Package registers, by BAR0 offset. -/
def globalMap : List MapRow := globalMap0 ++ globalMap1 ++ globalMap2 ++ globalMap3 ++ globalMap4 ++ globalMap5

/-- Registers of a channel block, by offset in the block (R81). -/
def channelMap0 : List MapRow := [
  ⟨.CH_CTRL, 0x0, 0x4, 1, 0⟩,
  ⟨.CH_STATUS, 0x4, 0x4, 1, 0⟩,
  ⟨.CH_PROTO, 0x8, 0x4, 1, 0⟩,
  ⟨.CH_TIMING, 0xc, 0x4, 1, 0⟩,
  ⟨.CH_FILL, 0x10, 0x4, 1, 0⟩,
  ⟨.CH_TIMEOUT, 0x14, 0x4, 1, 0⟩,
  ⟨.CH_TWIN, 0x18, 0x4, 1, 0⟩,
  ⟨.CH_RESET, 0x1c, 0x4, 1, 0⟩,
  ⟨.CH_OWN, 0x20, 0x4, 1, 0⟩,
  ⟨.CH_FAULT, 0x24, 0x4, 1, 0⟩,
  ⟨.CH_PERIOD, 0x28, 0x4, 1, 0⟩,
  ⟨.CH_LASTOP, 0x2c, 0x4, 1, 0⟩,
  ⟨.CH_LASTADDR, 0x30, 0x4, 1, 0⟩,
  ⟨.SHAPE_INDEX, 0x40, 0x4, 1, 0⟩,
  ⟨.SHAPE_DATA, 0x44, 0x4, 1, 0⟩,
  ⟨.SHADOW_SFDP, 0x400, 0x4, 192, 0⟩,
  ⟨.SHADOW_ID, 0x700, 0x4, 4, 0⟩,
  ⟨.SHADOW_CTRL, 0x710, 0x4, 1, 0⟩]

/-- Registers of a channel block, by offset in the block (R81). -/
def channelMap : List MapRow := channelMap0

/-- Registers of a die window, by die offset. -/
def dieMap0 : List MapRow := [
  ⟨.FM_STATUS, 0x40000, 0x4, 1, 0⟩,
  ⟨.FM_CTRL, 0x40004, 0x4, 1, 0⟩,
  ⟨.FM_FAULT, 0x40008, 0x4, 1, 0⟩,
  ⟨.FM_LSINFO, 0x4000c, 0x4, 1, 0⟩,
  ⟨.FM_QUOIN, 0x40010, 0x4, 1, 0⟩,
  ⟨.FM_QUOIN_EFF, 0x40014, 0x4, 1, 0⟩,
  ⟨.FM_BIND, 0x40100, 0x4, 8, 0⟩,
  ⟨.FM_BIND_EFF, 0x40120, 0x4, 8, 0⟩,
  ⟨.SS_CTRL, 0x40200, 0x20, 8, 0⟩,
  ⟨.SS_VIEW0, 0x40204, 0x20, 8, 0⟩,
  ⟨.SS_VIEW1, 0x40208, 0x20, 8, 0⟩,
  ⟨.SS_IDLE, 0x4020c, 0x20, 8, 0⟩,
  ⟨.SS_TIME0, 0x40210, 0x20, 8, 0⟩,
  ⟨.SS_TIME1, 0x40214, 0x20, 8, 0⟩,
  ⟨.WIT_STATUS, 0x80000, 0x4, 1, 0⟩,
  ⟨.WIT_HORIZON, 0x80004, 0x4, 1, 0⟩,
  ⟨.WIT_FAULT, 0x80008, 0x4, 1, 0⟩,
  ⟨.WIT_CMD, 0x8000c, 0x4, 1, 0⟩,
  ⟨.WIT_ARG0, 0x80010, 0x4, 1, 0⟩,
  ⟨.WIT_ARG1, 0x80014, 0x4, 1, 0⟩,
  ⟨.WIT_CMD_STATUS, 0x80018, 0x4, 1, 0⟩,
  ⟨.WIT_OCC, 0x8001c, 0x4, 1, 0⟩,
  ⟨.WIT_CHCFG, 0x80100, 0x10, 8, 0⟩,
  ⟨.WIT_CONSUMED, 0x80104, 0x10, 8, 0⟩]

/-- Registers of a die window, by die offset. -/
def dieMap1 : List MapRow := [
  ⟨.WIT_REPORTED, 0x80108, 0x10, 8, 0⟩,
  ⟨.WIT_CHSTAT, 0x8010c, 0x10, 8, 0⟩,
  ⟨.MC_CTRL, 0xa0000, 0x4, 1, 0⟩,
  ⟨.MC_STATUS, 0xa0004, 0x4, 1, 0⟩,
  ⟨.MC_FAULT, 0xa0008, 0x4, 1, 0⟩,
  ⟨.MC_CMD, 0xa000c, 0x4, 1, 0⟩,
  ⟨.MC_ARG0, 0xa0010, 0x4, 1, 0⟩,
  ⟨.MC_ARG1, 0xa0014, 0x4, 1, 0⟩,
  ⟨.MC_CMD_STATUS, 0xa0018, 0x4, 1, 0⟩,
  ⟨.MC_JOPEN, 0xa001c, 0x4, 1, 0⟩,
  ⟨.MC_VCFG, 0xa0040, 0x4, 2, 0⟩,
  ⟨.HP_CTRL, 0x10000, 0x4, 1, 0⟩,
  ⟨.HP_STATUS, 0x10004, 0x4, 1, 0⟩,
  ⟨.HP_STALE, 0x10008, 0x4, 1, 0⟩,
  ⟨.HP_MIGRATED, 0x1000c, 0x4, 1, 0⟩,
  ⟨.FB_STATUS, 0x10010, 0x4, 1, 0⟩,
  ⟨.CF_FAULT, 0x10014, 0x4, 1, 0⟩,
  ⟨.IF_FAULT, 0x10018, 0x4, 1, 0⟩,
  ⟨.SN_CORE_RELEASE, 0xc0000, 0x4, 1, 0⟩,
  ⟨.SN_VECTOR, 0xc0010, 0x4, 4, 0⟩,
  ⟨.SN_WDT, 0xc0020, 0x4, 4, 0⟩,
  ⟨.SN_WDT_KICK, 0xc0030, 0x4, 4, 0⟩,
  ⟨.SN_TVEC, 0xc0040, 0x4, 4, 0⟩,
  ⟨.SN_TRAP, 0xc0050, 0x4, 4, 0⟩]

/-- Registers of a die window, by die offset. -/
def dieMap2 : List MapRow := [
  ⟨.SN_TRAP_ADDR, 0xc0060, 0x4, 4, 0⟩,
  ⟨.SN_FAULT, 0xc0070, 0x4, 1, 0⟩,
  ⟨.OB_CNT, 0xe0000, 0x4, 1024, 0⟩,
  ⟨.OB_CHAIN, 0xe1000, 0x4, 16, 0⟩,
  ⟨.OB_SAT, 0xe1040, 0x4, 32, 0⟩,
  ⟨.OB_SNAP, 0xe1100, 0x4, 1, 0⟩,
  ⟨.OB_STATUS, 0xe1104, 0x4, 1, 0⟩,
  ⟨.OB_WATCH_CFG, 0xe1200, 0x20, 16, 0⟩,
  ⟨.OB_WATCH_PERIOD, 0xe1204, 0x20, 16, 0⟩,
  ⟨.OB_WATCH_COUNT, 0xe1208, 0x20, 16, 0⟩,
  ⟨.OB_NS_PC, 0xe120c, 0x20, 16, 0⟩,
  ⟨.OB_NS_FRAME, 0xe1210, 0x20, 16, 0⟩,
  ⟨.OB_NS_ADDR, 0xe1214, 0x20, 16, 0⟩,
  ⟨.OB_PREC_CTRL, 0xe1400, 0x4, 1, 0⟩,
  ⟨.OB_PREC_PTR, 0xe1404, 0x4, 1, 0⟩,
  ⟨.OB_PREC_LOST, 0xe1408, 0x4, 1, 0⟩,
  ⟨.OB_PREC_REC, 0xe4000, 0x4, 2048, 0⟩]

/-- Registers of a die window, by die offset. -/
def dieMap : List MapRow := dieMap0 ++ dieMap1 ++ dieMap2

end Sys2Proof.Machine
end

