-- ==== Sys2Proof/Machine/State.lean ====
section
/-! DEFINITION. The state of the part: every register of the spec (in one register file, by name and index) and, beside it,
the state the spec gives the part without a register: open frames, galley slots, digest-cache lines, queues, fuse rows, ring
contexts, sessions, the folio. All of it is plain data. -/

namespace Sys2Proof.Machine

/-- Why the machine stops. No meaning of this model raises one (NOTES.md, Stops); the type is closed. -/
inductive Fault where
  /-- The part has no state to go on from; raised by no meaning. Safe: the model stops where the part goes on. -/
  | stuck
  deriving DecidableEq, Repr

/-- Why a command has no meaning here. -/
inductive Refusal where
  /-- A command of the table that has no meaning yet, by its mnemonic; raised by the dispatcher. Safe. -/
  | notModelled (mnemonic : String)
  deriving DecidableEq, Repr

/-- The three variants (R4). -/
inductive Variant where
  | spg1602 | spg3204 | spg6408
  deriving DecidableEq, Repr

/-- The register file: the registers whose value differs from the Reset column, in rising order of key. -/
abbrev RegFile := List (Reg × Word)

/-! ## What the part sends out -/

/-- How the F side of a host frame ended (R62, R63, R74, Table 2.5). -/
inductive FEnd where
  /-- The flash was never opened. -/
  | notOpened
  /-- The select rose with no spoil pulse: the frame completed at the flash. -/
  | passed
  /-- The select rose early on a read (R59, R74). -/
  | cut
  /-- A spoil pulse on 1, 2 or 4 SDR lanes, then the select rise. -/
  | spoilBits
  /-- A spoil pulse on 8 SDR lanes: SCK high past the select rise. -/
  | spoilSckHigh
  /-- A spoil pulse in 8D: one byte past the boundary. -/
  | spoilByte
  deriving DecidableEq, Repr

/-- What drove the bytes the host received (R59, Table 3.2). -/
inductive Source where
  | flash | fill | shadow | galley | board
  deriving DecidableEq, Repr

/-- What the part does with one pin of a channel (Table 2.1, R43, R55). -/
inductive Pin where
  /-- Undriven; the board's resistor decides (R2). -/
  | floats
  /-- An input, undriven. -/
  | input
  | low | high
  /-- It follows the corresponding H-side pin, at once or 4 edges later (R55, R56). -/
  | copies
  /-- It carries bits of the part's own frame. -/
  | drives
  deriving DecidableEq, Repr

/-- The pins of a channel between frames (Table 2.1). -/
structure ChanPins where
  hdq : Pin
  hdqs : Pin
  fsck : Pin
  fcs0 : Pin
  fcs1 : Pin
  /-- FDQ0 to FDQ7. -/
  fdq : List Pin
  frst : Pin
  deriving DecidableEq, Repr

/-- The phases of a frame (R45, R46). -/
inductive PhaseKind where
  | command | address
  /-- The first byte of the dummy phase, where the shape has a continuous-read mode byte (R52). -/
  | mode
  | dummy | write | read
  /-- The rest of an UNKNOWN frame, in which nothing is driven (R49). -/
  | undriven
  deriving DecidableEq, Repr

/-- A phase of a frame on the F side: its lanes and clocking, what FDQ0 to FDQ7 do in it (R43), and the bytes outbound. -/
structure FPhase where
  kind : PhaseKind
  lanes : Nat
  ddr : Bool
  fdq : List Pin
  bytes : List Byte
  deriving DecidableEq, Repr

/-- The ERROR codes of the SPDM responder (R329, R335, R337). -/
inductive SpdmError where
  | busy | unsupportedRequest | unexpectedRequest | unspecified | invalidRequest
  /-- With its RDTExponent. -/
  | responseNotReady (rdt : Nat)
  deriving DecidableEq, Repr

/-- An SPDM response, by content; its byte layout is SPDM 1.3's own. -/
inductive SpdmAnswer where
  | version
  | capabilities
  | algorithms
  /-- CHALLENGE_AUTH: measurement summary, part nonce, signature. -/
  | challengeAuth (summary : Option Digest) (nonce sig : List Byte)
  /-- MEASUREMENTS: number of blocks of the part, the blocks asked for, and nonce and signature of a signed response. -/
  | measurements (total : Nat) (blocks : List (Nat × Digest)) (signed : Option (List Byte × List Byte))
  | error (code : SpdmError)
  deriving DecidableEq, Repr

/-- A phase of a frame on a master port (R254, R262): DIR (0 out, 1 in, 2 dummy cycles), lanes, clocking, the bits it moves, and the
bytes outbound. -/
structure MpPhase where
  dir : Nat
  lanes : Nat
  dtr : Bool
  bits : Nat
  bytes : List Byte
  deriving DecidableEq, Repr

/-- An event or a value that leaves the part during a step: what software, a client, a flash, the host, the board controller
or a neighbour observes of it. -/
inductive Output where
  /-- The value a register read returns. -/
  | readData (v : Word)
  /-- The mailbox's bytes on its port. -/
  | mailbox (bytes : List Byte)
  /-- Read data of a host frame: the position (in he) at which the first byte is launched (R67), the HDQ lanes from the most
  significant bit down (R60), and span by span what drove the bytes, and whether HDQS toggles with them (R57, R60). -/
  | hostData (ch : Nat) (launch : Nat) (lanes : List Nat) (spans : List (Source × List Byte)) (strobes : List Bool)
  /-- What of a host frame the F side carried (R43, R55, R56): the select, and the phases in order. -/
  | forwarded (ch : Nat) (sel : Bool) (retimed : Bool) (phases : List FPhase)
  /-- How the F side of a host frame ended, and the write data forwarded. -/
  | frameEnd (ch : Nat) (sel : Bool) (e : FEnd) (data : List Byte)
  /-- An own frame on a channel: opcode, select, byte address, outbound data bytes, and the phases that carry them (R473). -/
  | ownFrame (ch : Nat) (sel : Bool) (op : Nat) (addr : Nat) (data : List Byte) (phases : List FPhase)
  /-- The part ends an open own frame because CHn_HCS_N falls: its select, and a spoil pulse for a write (R72, R73). -/
  | ownCut (ch : Nat) (sel : Bool) (e : FEnd)
  /-- The pins of a channel between frames from now on (Table 2.1). -/
  | chanPins (ch : Nat) (pins : ChanPins)
  /-- The level of CHn_FRST_N: `true` asserted. -/
  | frst (ch : Nat) (asserted : Bool)
  /-- The observation interrupt of a sentry core (R437, R440): the watch slot, or 16 for the precise buffer. -/
  | irq (die core : Nat) (cause : Nat)
  /-- The fault interrupt, for the queue of a die (R215, Table 14.2). -/
  | faultIrq (die : Nat)
  /-- The bytes a core receives from the XIP window (R266). -/
  | xipData (die core : Nat) (bytes : List Byte)
  /-- An MSI-X message of a function (R358). -/
  | msix (fn vec : Nat)
  /-- A write to host memory: address, bytes. -/
  | hostWrite (addr : Nat) (bytes : List Byte)
  /-- A completion entry written for a pair (R353). -/
  | completion (fn pair : Nat) (words : List Word)
  /-- An SPDM response to a requester endpoint (R335). -/
  | spdm (eid : Byte) (r : SpdmAnswer)
  /-- An MCTP control response: command code, completion data (R333). -/
  | mctp (cmd : Nat) (data : List Byte)
  /-- A parcel on a Ralver port (`false` UP, `true` DN). -/
  | parcel (port : Bool) (p : Parcel)
  /-- An acknowledge or negative acknowledge character pair on a Ralver port (R389). -/
  | linkAck (port : Bool) (nak : Bool) (x : Byte)
  /-- A frame on a master port: port, select, and its phases in order (R254, R262). -/
  | mpFrame (port : Nat) (sel : Bool) (phases : List MpPhase)
  /-- A program or erase of the folio or the firmware slots on a home device. -/
  | homeProgram (dev : Bool) (addr : Nat) (bytes : List Byte)
  /-- A write of a vault device (port × 2 + DEV) at a logical address: the directory (R178, R332). -/
  | vaultWrite (dev addr : Nat) (bytes : List Byte)
  /-- An erase of a span of a vault device (R332). -/
  | vaultErase (dev addr length : Nat)
  /-- A copy (0 or 1) of a bad-block map (R170). -/
  | vaultMap (dev copy : Nat) (bytes : List Byte)
  /-- An erase of a physical block of a vault device, which goes back to the pool of spares (R174). -/
  | vaultBlockErase (dev block : Nat)
  /-- A vault refresh moved or rewrote a block: physical source and target (R174). -/
  | vaultCopy (dev source target : Nat)
  /-- A health page committed to the health log of a die: its GEN and plaintext (R176, R183). -/
  | healthPage (die gen : Nat) (plain : List Byte)
  /-- A journal entry of a die: its GEN, 0 INTENT, 1 DONE, 2 FAILED, and the unit (R193). -/
  | journal (die gen kind ch base : Nat) (twin : Bool)
  /-- The PCIe transmitters hold electrical idle (R2, Table 7.7). -/
  | pcieIdle
  /-- The part ends the open frame of a master port: its select, and a spoil pulse unless it reads (R236, R239). -/
  | portEnd (port : Nat) (sel : Bool) (e : FEnd)
  /-- Every output the domain drives floats (R2, Table 7.7). -/
  | floated (dom : Dom) (die : Nat)
  /-- The bits shifted out on TDO. -/
  | tdo (bits : List Bool)
  /-- The boundary cells drive the pins (EXTEST). -/
  | pins (cells : List Bool)
  /-- The refusal or acceptance of a mailbox command, as its status byte. -/
  | status (code : Nat)
  deriving DecidableEq, Repr

/-! ## Channels and formes (02, 03) -/

/-- What the close of a host frame records of it (CH_LASTOP, CH_LASTADDR, CH_PERIOD, Tables 15.2 and 15.3). -/
structure Closing where
  op : Nat
  /-- Op class; none for a frame that closed before its opcode was complete. -/
  cls : Option Nat
  verdict : Nat
  late : Bool
  addr : Word
  /-- Verdict margin in he of a read whose sampling point was reached (Table 15.3). -/
  margin : Option Nat
  /-- Verdict margin of a precise record in he, negative when late; none where no verdict arrived before the close (Table
  15.4), and the bytes of the data phase. -/
  precise : Option Int := none
  bytes : Nat := 0
  /-- What the mode byte does to continuous read at the close: arm, or disarm (R52). -/
  arm : Option Bool := none
  /-- The frame ran in DTR (R53). -/
  ddr : Bool := false
  /-- TAG of the first granule that received REJECT, where REJECT was applied (R125). -/
  rejTag : Option Nat := none
  /-- A check of its read data failed (R161), and the witnessed granules it touched: granule, tree, by the moment of detection. -/
  taintSeen : Bool := false
  taint : List (Nat × Nat × Bool) := []
  deriving DecidableEq, Repr

/-- A host frame that is open, with what it latched at its CS# fall (R45). -/
structure OpenFrame where
  frame : HostFrame
  /-- Effective state latched: 0 DISABLED, 1 ISOLATE, 2 ACTIVE. -/
  st : Nat
  /-- Retimed mode latched. -/
  retimed : Bool
  /-- Policy epoch latched. -/
  epoch : Nat
  /-- CS# fell before the previous select had risen, or the busy shield stood: the flash is not opened (R65, R73). -/
  shielded : Bool
  /-- The part has ended the F side (R74, R77, R117) and ignores HSCK until CS# rises, when this is recorded. -/
  ended : Option Closing
  /-- The granules on whose taint the part has acted while the frame was open (R161). -/
  acted : Option (List Nat) := none
  /-- FAULT_US at its CS# fall (R74). -/
  since : Word := 0
  deriving DecidableEq, Repr

/-- The verdict of a consumption (R142, R148, R149). -/
inductive WVerdict where
  | pass | fail | nodefail | void | withdrawn
  deriving DecidableEq, Repr

/-- An open consumption of a channel (R143, R149). -/
structure Consumption where
  seq : Word
  granule : Nat
  tree : Nat
  /-- The verdict, once it is computed. -/
  verdict : Option WVerdict
  /-- FAULT_US at the delivery of its first byte (R150). -/
  firstUs : Word
  /-- 0x3003 has been reported for it (R150). -/
  overdue : Bool
  /-- It awaits the re-read of a tainted block (R161). -/
  reread : Bool
  deriving DecidableEq, Repr

/-- A verdict that a RESTART awaits (R160, step 3): that of a consumption, by its sequence number, or the re-verification of a
block that media care recovers. -/
inductive Await where
  | verdict (seq : Word) (granule : Nat)
  | recovery (granule : Nat)
  deriving DecidableEq, Repr

/-- The block of an awaited verdict. -/
def Await.granule (a : Await) : Nat :=
  match a with
  | .verdict _ g => g
  | .recovery g => g

/-- A RESTART response in progress on a channel (R160). -/
structure Restart where
  /-- FAULT_US at the moment the count of RESTART_MS began. -/
  sinceUs : Word
  /-- The lines whose RESTART bits it set. -/
  lines : Nat
  /-- The verdicts it awaits. -/
  awaits : List Await
  /-- Granules whose awaited verdict failed and for which only a later pass clears the bits (R160, step 5), with WIT_CONSUMED at
  that moment. -/
  stuck : List (Nat × Word)
  deriving DecidableEq, Repr

/-- An own frame that is open: its opcode, select and byte address, whether it writes, and whether it is a status poll of the
busy shield (R71 to R73). -/
structure OwnOpen where
  op : Nat
  sel : Bool
  addr : Nat
  write : Bool
  poll : Bool
  deriving DecidableEq, Repr

/-- The state of a channel that no register holds. -/
structure Chan where
  /-- The own frame that is open (CH_STATUS.OWN_OPEN). -/
  own : Option OwnOpen := none
  /-- FAULT_US at the last rise of CHn_HCS_N (R71, CH_OWN.IDLE_MIN). -/
  idleUs : Word := 0
  /-- FAULT_US when the shadow status entered BUSY, and its time there in µs (R107). -/
  shadowUs : Word := 0
  shadowFor : Nat := 0
  /-- FAULT_US when the deferred host reset asserted CHn_FRST_N (R77). -/
  frstUs : Word := 0
  /-- The care region whose program or erase keeps the working flash busy (R73). -/
  shieldRegion : Nat := 0
  /-- The open host frame. -/
  frame : Option OpenFrame
  /-- The opcode that armed continuous read (R52). -/
  crmOp : Nat
  /-- CHn_HRST_N is taken as asserted (R76). -/
  hrst : Bool
  /-- The part asserts CHn_FRST_N for a passed-on host reset (R77, step 3). -/
  frstPass : Bool
  /-- The part asserts CHn_FRST_N for a deferred reset (R77). -/
  frstDefer : Bool
  /-- A write that sets CH_RESET.ASSERT waits for a frame boundary (R78). -/
  assertPend : Bool
  /-- The part asserts CHn_FRST_N under CH_RESET.ASSERT (R78). -/
  frstAssert : Bool
  /-- Byte address of the SPI-NAND row in the flash's cache, r × P (R97). -/
  cacheRow : Option Nat
  /-- Address of the last closed host frame (CH_LASTADDR captures it). -/
  lastAddr : Word
  /-- The shadow status ends in DONE_FAIL rather than DONE_OK (R107). -/
  shadowFail : Bool
  /-- Last verdict reported (R149); WIT_REPORTED captures it. -/
  reported : Word
  /-- Open consumptions, oldest first. -/
  cons : List Consumption
  restart : Option Restart
  /-- The channel has taken the switch in progress or the last one, so the banks of FM_NXT govern it (R115). -/
  took : Bool
  /-- The policy epoch of the tables that govern the channel: 0x0000 after a reset of its die, until it takes a switch
  (R113, R118). -/
  epoch : Nat
  deriving DecidableEq, Repr

/-- A channel after a reset of its die (R84, R227). -/
def Chan.reset : Chan :=
  { frame := none, crmOp := 0, hrst := false, frstPass := false, frstDefer := false, assertPend := false,
    frstAssert := false, cacheRow := none, lastAddr := 0, shadowFail := false, reported := 0, cons := [],
    restart := none, took := false, epoch := 0 }

/-! ## Witness engine (04) -/

/-- The state of a galley slot; a FREE slot is not listed (Table 4.4). -/
inductive SlotSt where
  | capture | fetch | hash | verified
  deriving DecidableEq, Repr

/-- A galley slot that is not FREE (R140). -/
structure Slot where
  ch : Nat
  granule : Nat
  tree : Nat
  leaf : Nat
  st : SlotSt
  pinned : Bool
  /-- It began with a capture and counts against the 512 capture entries. -/
  entry : Bool
  /-- Bytes that host frames delivered, by offset (R140). -/
  host : Tbl Byte
  /-- The block as the part's own reads and hashing hold it; empty until it is read. -/
  own : List Byte
  /-- The consumption the entry answers; none for a sweep or preload leaf. -/
  seq : Option Word
  /-- A sweep or preload reads the leaf (R140, R143), a pinning preload where `some true`. -/
  sweep : Option Bool
  deriving DecidableEq, Repr

/-- A digest-cache line (R137). -/
structure Line where
  tree : Nat
  level : Nat
  index : Nat
  data : List Byte
  trusted : Bool
  deriving DecidableEq, Repr

/-- A hash job of an owner die for a leaf message (R218, R219). -/
structure Job where
  ch : Nat
  granule : Nat
  /-- Placement generation recorded for it. -/
  gen : Nat
  executor : Nat
  /-- The lane of the executor that holds it; none while it is queued. -/
  inLane : Option Nat := none
  /-- The lane the first accepted result came from. -/
  lane : Option (Fin 4)
  /-- The accepted digest. -/
  result : Option Digest
  /-- The block of a tainted granule's re-read (R161), which no galley slot holds; none for the block of a slot. -/
  reread : Option Slot
  /-- FAULT_US at its last dispatch (R219). -/
  since : Word := 0
  deriving DecidableEq, Repr

/-- The witness command that is running on a die (R165). -/
structure WitCmd where
  /-- 1 LOAD, 3 SWEEP, 4 PRELOAD, 5 PRELOAD_PIN. -/
  op : Nat
  tree : Nat
  /-- Leaves first to last + 1 of the command. -/
  first : Nat
  stop : Nat
  /-- The next leaf to read. -/
  next : Nat
  /-- Leaves passed so far. -/
  passed : Nat
  /-- First failed leaf. -/
  fail : Option Nat
  deriving DecidableEq, Repr

/-- The state of a tree that its descriptor does not show. -/
structure Tree where
  /-- One SWEEP over every leaf has passed since the load or since its gate last left OPEN (R153, PRE). -/
  preOk : Bool
  /-- FAULT_US at the tree's last change of state (R154). -/
  changedUs : Word
  /-- FAULT_US at the first delivery of its newest consumption (R154). -/
  deliveredUs : Word
  deriving DecidableEq, Repr

def Tree.reset : Tree := { preOk := false, changedUs := 0, deliveredUs := 0 }

/-- A tree report that die 0 holds (R154). -/
structure TreeReport where
  rooted : Bool
  /-- A consumption of the tree is open. -/
  isOpen : Bool
  /-- A response awaits a verdict on the tree's channel. -/
  awaiting : Bool
  /-- The later of the first delivery of the newest consumption and the last change of the tree's state. -/
  lastUs : Word
  deriving DecidableEq, Repr

def TreeReport.none : TreeReport := { rooted := false, isOpen := false, awaiting := false, lastUs := 0 }

/-! ## Faults, fabric and hash pool (06) -/

/-- A fault report on its way to die 0 (R206). -/
structure Report where
  code : Nat
  source : Nat
  dseq : Nat
  us : Word
  deriving DecidableEq, Repr

/-- An entry of a fault queue (Table 6.4). -/
structure FaultEntry where
  code : Nat
  source : Nat
  dseq : Nat
  count : Nat
  first : Word
  last : Word
  deriving DecidableEq, Repr

/-- The fault queue die 0 holds for a die (R207 to R215). -/
structure FaultQueue where
  entries : List FaultEntry
  /-- Reports held because a smaller DSEQ has not been placed. -/
  held : List Report
  /-- DSEQ expected next. -/
  next : Nat
  /-- Entries, by code and SOURCE, into which a report has merged since the last capture (R209). -/
  merged : List (Nat × Nat)
  tokens : Nat
  storm : Bool
  /-- The storm already held the die's clients (R215). -/
  stormHeld : Bool
  unreach : Bool
  /-- FAULT_US when the fault interrupt was last raised in a storm; none before. -/
  irqUs : Option Word
  deriving DecidableEq, Repr

/-- A fault queue after a reset that clears PLAT (R214). -/
def FaultQueue.reset : FaultQueue :=
  { entries := [], held := [], next := 0, merged := [], tokens := 1000, storm := false, stormHeld := false,
    unreach := false, irqUs := Option.none }

/-- A fence sent to a die and not yet acknowledged (R221). -/
structure Fence where
  executor : Nat
  gen : Nat
  /-- It has reached the executor. -/
  got : Bool := false
  deriving DecidableEq, Repr

/-- A job of another owner that a die holds as executor (R218, R221). -/
structure Guest where
  owner : Nat
  gen : Nat
  /-- The block it hashes: channel and granule. -/
  ch : Nat := 0
  granule : Nat := 0
  /-- The lane that holds it, where it has started. -/
  started : Option Nat
  deriving DecidableEq, Repr

/-! ## Policy epochs (03) -/

/-- Where the epoch machinery stands (R114 to R119). -/
inductive EpochPhase where
  | idle
  /-- EPOCH_GO was written; the checks run. -/
  | checking (target : Nat)
  /-- The checks passed; channels take the switch. -/
  | switching (target : Nat)
  deriving DecidableEq, Repr

/-- The epoch machinery of die 0. -/
structure Epoch where
  phase : EpochPhase
  /-- DEADLINE as read when the checks passed, and the overrun choice (R117). -/
  deadline : Nat
  /-- FAULT_US when the checks passed (R117). -/
  since : Word := 0
  /-- The deadline has passed in this switch. -/
  overran : Bool
  /-- FM_QUOIN of each die when the checks started (R121). -/
  quoinReq : Tbl Nat
  /-- Dies that the switch in progress has left behind: out of reach when its checks passed, or reset since (R118). -/
  lost : List Nat := []
  deriving DecidableEq, Repr

def Epoch.reset : Epoch := { phase := .idle, deadline := 0, overran := false, quoinReq := [] }

/-! ## Media care (05) -/

/-- A health record (Table 5.2). -/
structure Health where
  writtenOt : Nat
  erases : Nat
  reads : Nat
  scrubD : Nat
  eccLast : Nat
  assumed : Bool
  failed : Bool
  due : Bool
  recoveries : Nat
  /-- The change has not been written to the health log: the record is in the tally (R182). -/
  dirty : Bool
  deriving DecidableEq, Repr

/-- A queued or running unit operation (R190, R193). -/
structure CareUnit where
  region : Nat
  ch : Nat
  /-- First granule of the unit. -/
  base : Nat
  /-- A recovery rather than a refresh. -/
  recovery : Bool
  /-- It writes the twin (R196). -/
  twin : Bool
  /-- Queued by RECOVER or REFRESH, whose status it ends. -/
  command : Bool
  deriving DecidableEq, Repr

/-- Where the running unit operation stands (R193). -/
inductive UnitPhase where
  /-- Step 2: waiting for cover or for a moment to write; `true` once 0x4003 has been reported. -/
  | waiting (reported : Bool)
  /-- Steps 5 to 9 have run: the journal holds INTENT and the outcome waits for CARE_UNIT_COMPLETE. -/
  | written (blocks : List (List Byte)) (ok : Bool)
  deriving DecidableEq, Repr

/-- Granules that a valid region has covered: their records exist from then on (R180). -/
structure HealthSpan where
  ch : Nat
  first : Nat
  count : Nat
  /-- OT when the records were made (R181). -/
  ot : Nat
  deriving DecidableEq, Repr

/-- The unit that an open journal entry names (R193, R195). -/
structure OpenUnit where
  ch : Nat
  base : Nat
  count : Nat
  twin : Bool
  deriving DecidableEq, Repr

/-- Media care of a die, beside its registers. -/
structure Care where
  /-- Health records by 2^20 × channel + granule (R180). -/
  health : Tbl Health
  queue : List CareUnit
  running : Option (CareUnit × UnitPhase)
  /-- Regions to scrub whole as soon as the queue is empty (R190). -/
  rescrub : List Nat
  /-- Regions that are being scrubbed whole, whatever their PERIOD_H (R190). -/
  scrubAll : List Nat
  /-- Write generations by KIND (R177). -/
  gens : Tbl Nat
  /-- OT when the scrub pass of a region began. -/
  passOt : Tbl Nat
  /-- OT of the last tally flush. -/
  flushOt : Nat
  /-- Vault blocks that need repair by vault refresh: device (port × 2 + DEV) and block (R173 to R175). -/
  weak : List (Nat × Nat)
  /-- Regions whose pass has been reported late (R187). -/
  lates : List Nat
  /-- The vault has been read since the die's last reset (R178). -/
  started : Bool
  /-- Spans of granules whose records were made when a region came to cover them, oldest first (R180). -/
  spans : List HealthSpan
  /-- The open entry of the die's journal: from the INTENT to the DONE or FAILED (R193, R195). -/
  journal : Option OpenUnit
  /-- TWIN_CHECK waits until own frames may run: region, first block, blocks (R71, R196). -/
  twinWait : Option (Nat × Nat × Nat)
  deriving DecidableEq, Repr

def Care.reset : Care :=
  { health := [], queue := [], running := none, rescrub := [], scrubAll := [], gens := [], passOt := [], flushOt := 0,
    weak := [], lates := [], started := false, spans := [], journal := none, twinWait := none }

/-! ## Sentry cores (09) -/

/-- A sentry core, as far as the part's own actions reach it. -/
structure SentryCore where
  /-- Released from reset: it runs (R286). -/
  running : Bool
  /-- Its program counter was set to the vector, to the ROM or to the trap base at the last event that set it. -/
  pc : Word
  /-- The core took a trap and has not returned: a second machine check is nested (R288). -/
  inTrap : Bool
  /-- Loads or fetches of the core that wait for an XIP line (R266). -/
  xipWait : Option Nat
  /-- FAULT_US when its watchdog count last restarted, and the period in force (R287). -/
  kickUs : Word
  period : Nat
  deriving DecidableEq, Repr

def SentryCore.held : SentryCore := { running := false, pc := 0, inTrap := false, xipWait := none, kickUs := 0, period := 2000 }

/-! ## Dies -/

/-- What a precise record takes from the close of the frame that completed a period (Table 15.4). -/
structure FrameInfo where
  us : Word
  addr : Word
  /-- The CH_LASTOP word. -/
  lastop : Word
  /-- Op class; none for a frame that closed before its opcode was complete. -/
  cls : Option Nat
  edges : Nat
  margin : Option Int
  bytes : Nat
  deriving DecidableEq, Repr

/-- A firing of a watch slot that has not acted yet (R436). -/
structure Due where
  slot : Nat
  /-- OB_WATCH_CFG of the slot when it fired. -/
  cfg : Word
  /-- FAULT_US, and the event's counter after the increment. -/
  us : Word
  counter : Nat
  /-- The close of the frame that completed the period, once it has closed. -/
  frame : Option FrameInfo
  deriving DecidableEq, Repr

/-- The state of a die that no register holds. -/
structure Die where
  /-- DIE d is in reset (R227). -/
  inReset : Bool
  /-- The fabric reaches the die (R23). -/
  reachable : Bool
  /-- A fabric fault for the die has been reported since it was last reachable (R23), or its first ISOERR (R237). -/
  lossSeen : Bool
  isoSeen : Bool
  /-- The die stopped or could not be reached, and no reset has restored it since (R24): the gates that had a tree on it then. -/
  lostGates : Option Nat
  /-- The run of each hop, UP and DN, on which a check last failed, and its failed attempts (R203). -/
  hopRuns : Tbl (Nat × Nat)
  /-- Galley slots that are not FREE, most recently used first (R140, R141). -/
  slots : List Slot
  /-- Digest-cache lines, most recently used first (R137). -/
  cache : List Line
  trees : Tbl Tree
  wit : Option WitCmd
  jobs : List Job
  /-- Next DSEQ of the die (R206). -/
  dseq : Nat
  /-- Reports on their way to die 0, in DSEQ order. -/
  inflight : List Report
  /-- Active-bank words whose check failed in both lanes, as 512 × forme + word (Table 6.3, point 10). -/
  deadWords : List (Bool × Nat)
  /-- Lanes taken out since the last reset of the die (R222). -/
  lanesOut : List Nat
  fences : List Fence
  guests : List Guest
  /-- Free lane capacity the die advertises (R218). -/
  advert : Nat
  /-- Resets of the die so far: names the undefined contents of its core SRAM (R285). -/
  generation : Nat
  /-- Watch slots that are due to fire, in order (R436). -/
  due : List Due
  /-- Snapshots of OB_SNAP (R435): of BAR0 and the mailbox (0) and of sentry core k (k + 1 + 4 × its die). -/
  snaps : Tbl Nat
  /-- Unread records of the precise buffer, 0 to 256 (R441). -/
  unread : Nat
  care : Care
  cores : Tbl SentryCore
  deriving DecidableEq, Repr

/-- A die after a reset of its domain, released. -/
def Die.reset : Die :=
  { inReset := false, reachable := true, lossSeen := false, isoSeen := false, lostGates := none, hopRuns := [], slots := [], cache := [], trees := [],
    wit := none, jobs := [], dseq := 0, inflight := [], deadWords := [], lanesOut := [], fences := [], guests := [], advert := 0,
    generation := 0, due := [], snaps := [], unread := 0, care := Care.reset, cores := [] }

/-! ## Reset, clocks and freeze (07) -/

/-- Where a reset sequence stands (R231, R232): `rel` holds the count of the last row of Table 7.3 that has run. -/
inductive SeqPhase where
  | run
  | deferred
  | hold
  | rel (count : Nat)
  deriving DecidableEq, Repr

/-- What recognised sources call for (R230, R240): the scope, the level sources among them, whether RC_COUNT counts a part reset,
and the faults to report at count 3,000. -/
structure SeqScope where
  part : Bool
  dies : List Nat
  hif : Bool
  levels : List ResetSource
  counted : Bool
  clk : Bool
  wdt : List Nat
  deriving DecidableEq, Repr

/-- The reset controller (R227 to R244), beside its registers. -/
structure Seq where
  phase : SeqPhase
  /-- Scope: PLAT, every DIE, HIF and RLV. -/
  part : Bool
  /-- Scope: single dies. -/
  dies : List Nat
  /-- Scope: HIF. -/
  hif : Bool
  /-- Level sources that asserted the reset and still read asserted (R231). -/
  levels : List ResetSource
  /-- The sequence began with a power-on reset (R458); a part reset has been recognised in it, which RC_COUNT counts (R240). -/
  por : Bool
  counted : Bool
  /-- What a reset that is deferred will add to the sequence that runs on meanwhile (R238, R240). -/
  next : Option SeqScope
  /-- A deferral runs (R238), and the fuse pulse that was in progress at recognition has not ended. -/
  wait : Bool
  pulse : Bool
  /-- Faults to report at count 3,000: bits 0xA002, 0xA003, 0xA004, and the watchdog sources of 0xA005. -/
  cut : Bool
  pll : Bool
  clk : Bool
  wdt : List Nat
  /-- RC_CAUSE bits of the sources recognised and not yet at count 0. -/
  causes : Nat
  /-- The domains that are in reset. -/
  platReset : Bool
  /-- AON and JTAG are held until VDDAON and REFCLK are good (R232). -/
  aonHeld : Bool
  hifReset : Bool
  rlvReset : Bool
  /-- The first ISOERR of HIF, and of RLV, in this reset has been reported (R237). -/
  isoSeen : Bool
  rlvIso : Bool
  /-- Dies that no hop reached at the training deadline (R232). -/
  untrained : List Nat
  frozen : Bool
  /-- REFCLK is lost (R242). -/
  refclkLost : Bool
  /-- RST_N, PCIE_PERST_N, FRZ_N are taken as asserted (R230). -/
  rstN : Bool
  perstN : Bool
  frzN : Bool
  /-- Supplies in brown-out (R456). -/
  badSupplies : List Supply
  /-- VFUSE lies outside its programming window (R311, FU_STATUS.VFUSE_OK). -/
  vfuseOut : Bool
  /-- I/O banks at 3.3 V, bank VIOA of die d as 2d and VIOB as 2d + 1 (R42). -/
  vio33 : List Nat
  deriving DecidableEq, Repr

/-- The test access port (R246, R322). -/
structure Jtag where
  /-- The instruction in force; an instruction not allowed acts as BYPASS. -/
  ir : Nat
  /-- Boundary cells as preloaded (SAMPLE/PRELOAD). -/
  cells : List Bool
  /-- The value of the last FRZREAD, for the next capture (R245). -/
  frz : Word
  deriving DecidableEq, Repr

/-! ## Guard and folio (14) -/

/-- A folio record as accepted (Table 14.5): its header's fields and its body. -/
structure FoRec where
  typ : Nat
  seq : Nat
  ot : Nat
  pcc : Nat
  body : List Byte
  deriving DecidableEq, Repr

/-- An accepted record that is not yet visible, and where in the folio it goes: sector and offset. -/
structure StagedRec where
  sector : Nat
  off : Nat
  entry : FoRec
  deriving DecidableEq, Repr

/-- The folio writer of die 0 (R415 to R425), beside its registers. -/
structure Folio where
  /-- FO_SEQ.NEXT, in AON (R420). -/
  next : Nat
  staged : List StagedRec
  /-- Records dropped because staging was full, and the SEQ the first of them would have taken (R420). -/
  dropped : Nat
  firstDrop : Nat
  /-- FO_BASE and FO_SIZE have been written since the reset of PLAT (R415). -/
  baseSet : Bool
  sizeSet : Bool
  /-- The folio is open: records have their places in flash. -/
  opened : Bool
  /-- The chain value H (R419). -/
  chain : Digest
  /-- Records accepted since the last SEAL (R419). -/
  sinceSeal : Nat
  /-- Where the next accepted record goes. -/
  sector : Nat
  off : Nat
  /-- Visible records, oldest first, by sector. -/
  log : List (Nat × FoRec)
  /-- OT when a record last became visible (R424). -/
  visibleOt : Nat
  /-- BASE of the newest GENESIS (R426). -/
  base : Nat
  /-- SEQ of the LOCKDOWN record the current lockdown began with (R413). -/
  lockSeq : Nat
  deriving DecidableEq, Repr

def Folio.reset : Folio :=
  { next := 0, staged := [], dropped := 0, firstDrop := 0, baseSet := false, sizeSet := false, opened := false,
    chain := [], sinceSeal := 0, sector := 0, off := 0, log := [], visibleOt := 0, base := 0, lockSeq := 0 }

/-- The guard of die 0, beside its registers (R403 to R414). -/
structure Guard where
  /-- Events latched in AON that die 0 has not taken yet: once for each source that fired while PLAT was in reset or its die could
  not be reached, and once for each other firing (R405, R407, R409). -/
  latched : List Nat
  /-- Open holdoff windows by source: merged firings plus 1 (R407). -/
  windows : Tbl Nat
  /-- FAULT_US at the firing that opened each window (R407). -/
  windowUs : Tbl Word := []
  /-- The unlock nonce last captured (R413). -/
  nonce : Option (List Byte)
  /-- Tamper burn in progress or waiting: the source and T (R410). -/
  burn : Option (Nat × Nat)
  /-- A RESET or ZEROISE response waits for its reset, and FAULT_US at its firing (R411). -/
  resetDue : Bool
  resetUs : Word := 0
  deriving DecidableEq, Repr

def Guard.reset : Guard := { latched := [], windows := [], nonce := none, burn := none, resetDue := false }

/-! ## Fuses (10) -/

/-- A fuse row as it reads at the three references (R303). Fuses keep it through every reset. -/
structure FuseRow where
  nominal : Nat
  high : Nat
  low : Nat
  deriving DecidableEq, Repr

def FuseRow.blank : FuseRow := { nominal := 0, high := 0, low := 0 }

/-- A row that a command programs: array, place in the array, value. -/
structure FuseTask where
  die : Nat
  /-- Logical row. -/
  row : Nat
  /-- A physical place (a spare or a table row) instead of the logical row's place. -/
  place : Option Nat
  value : Nat
  /-- Burning it completes the redirection of the row, which 0x9008 reports (R312). -/
  redirects : Bool := false
  deriving DecidableEq, Repr

/-- A fuse command in progress (R310 to R319). -/
structure FuseRun where
  /-- Its OP. -/
  op : Nat
  die : Nat
  region : Nat
  wdata : Nat
  todo : List FuseTask
  /-- Pulses the current bit has had (R311). -/
  tries : Nat
  /-- The guard's own tamper burn rather than an FU_CMD (R317, R410). -/
  tamper : Bool
  deriving DecidableEq, Repr

/-- The fuse controllers. -/
structure Fuses where
  /-- Rows with a burned bit, by 2048 × die + place; anchor spare s at 1024 + s. -/
  rows : Tbl FuseRow
  run : Option FuseRun
  /-- A tamper burn that waits for the running command, with its T (R317). -/
  waiting : Option Nat
  /-- A command that waits for a tamper burn to end: FU_CMD, FU_WDATA, and whether a sentry core wrote it (R317). -/
  queued : Option (Word × Nat × Bool) := none
  deriving DecidableEq, Repr

def Fuses.reset : Fuses := { rows := [], run := none, waiting := none }
/-! ## Vault contents the part keeps (05) -/

/-- A health page in a health log: its place, its GEN, the channel and first granule of its header, and its records by granule
(R183). -/
structure HealthPage where
  slot : Nat
  gen : Nat
  ch : Nat
  first : Nat
  records : List (Nat × Health)
  deriving DecidableEq, Repr

/-- The vault as the part has written it: the bad-block maps and the flushed health records lie in flash, so they outlast
every reset. Devices are numbered port × 2 + DEV. -/
structure Vault where
  /-- Bad-block map entries of each device: logical block to physical block (R170). -/
  maps : Tbl (List (Nat × Nat))
  /-- Map generation of each device. -/
  mapGen : Tbl Nat
  /-- Blocks of the spare pool that are taken or retired, and blocks that a refresh returned to the pool (R171, R174). -/
  taken : Tbl (List Nat)
  freed : Tbl (List Nat)
  /-- Devices for which 0x4007 has been reported in this power cycle (R171). -/
  low : List Nat
  /-- Plaintext of the directory (R178). -/
  directory : List Byte
  /-- The pages of each die's health log, oldest first (R183), and the place the next one takes. -/
  pages : Tbl (List HealthPage)
  nextPage : Tbl Nat
  /-- The place of the next entry of each die's journal. -/
  nextEntry : Tbl Nat
  /-- 0x4009 has been reported for these blocks (R189), as keys of `Care.health`. -/
  warned : List Nat
  deriving DecidableEq, Repr

def Vault.reset : Vault :=
  { maps := [], mapGen := [], taken := [], freed := [], low := [], directory := [],
    pages := [], nextPage := [], nextEntry := [], warned := [] }

/-! ## Key units, SPDM and leases (11) -/

/-- An open lease (R338, R339). -/
structure Lease where
  fn : Nat
  id : Nat
  mask : Nat
  otOpen : Nat
  otMark : Nat
  marks : Nat
  deriving DecidableEq, Repr

/-- A request that needs a signature (R329, R337, R340). -/
inductive SignKind where
  | challenge (eid : Byte) (summary : Nat) (nonce : List Byte)
  /-- GET_MEASUREMENTS; index 0xFF asks for every block, 0x00 for their number. -/
  | measure (eid : Byte) (index : Nat) (nonce : List Byte)
  /-- LEASE_EVIDENCE of function `fn`, asked on pair (`ring`, `pair`) by command `cmd`. -/
  | evidence (ring pair cmd fn : Nat) (nonce : List Byte) (sigs : Nat)
  deriving DecidableEq, Repr

/-- A queued signing request; the snapshot is the message the key unit assembled, once it has taken the request. -/
structure SignReq where
  kind : SignKind
  snap : Option (List Byte)
  deriving DecidableEq, Repr

/-- An SPDM connection (R334, R335). -/
structure SpdmConn where
  eid : Byte
  /-- 1 after VERSION, 2 after CAPABILITIES, 3 after ALGORITHMS. -/
  stage : Nat
  /-- The request that was answered ResponseNotReady (R337). -/
  later : Option SignKind
  deriving DecidableEq, Repr

/-- The key units of dies 0 and 1, the transport keys, SPDM and the signing queue. -/
structure Keys where
  /-- CDI_0, and CDI_1 of the running image; none before step 1 of R280 or without an identity (R324, R325). -/
  cdi0 : Option Digest
  cdi1 : Option Digest
  /-- Die 0's and die 1's unit hold the identity keys (R324, R328). -/
  holds0 : Bool
  holds1 : Bool
  /-- Units that failed a check, by die (R328). -/
  bad : List Nat
  /-- Transport key of each other die (R324). -/
  transport : Tbl (List Byte)
  /-- Dies whose unit holds the vault sealing key. -/
  sealing : List Nat
  /-- The bind nonce last captured (R331). -/
  nonce : Option (List Byte)
  conns : List SpdmConn
  /-- MCTP endpoint ID of the part (R333). -/
  eid : Byte
  queue : List SignReq
  /-- LEASE_ID of the next lease (R338). -/
  nextLease : Nat
  leases : List Lease
  deriving DecidableEq, Repr

def Keys.reset : Keys :=
  { cdi0 := none, cdi1 := none, holds0 := false, holds1 := false, bad := [], transport := [], sealing := [],
    nonce := none, conns := [], eid := 0, queue := [], nextLease := 1, leases := [] }

/-! ## Master ports and XIP (08) -/

/-- The frame that is open on a master port. -/
structure PortRun where
  /-- 0 firmware queue, 1 XIP or witness, 2 folio or media care, 3 a poll of the part itself (R261). -/
  owner : Nat
  sel : Bool
  wr : Bool
  /-- A firmware frame whose last entry polls (R258). -/
  poll : Bool
  /-- Entries of a firmware frame, from HEAD on. -/
  count : Nat
  ev : MpEvent
  /-- How the part ends the frame where it must (R236, R263). -/
  spoil : FEnd := .cut
  /-- The select rises between the frame's units, so that a reset may take hold there (R256, R264). -/
  gaps : Bool := false
  /-- FAULT_US when it opened. -/
  openUs : Word := 0
  deriving DecidableEq, Repr

/-- A master port, beside its registers. -/
structure Port where
  run : Option PortRun
  /-- A firmware POLL frame that has not matched: frames issued, and FAULT_US at the first (R258). -/
  polling : Option (Nat × Word)
  /-- Selects that the part polls itself (R261), as bits. -/
  selfPoll : Nat
  /-- FAULT_US when a POLL frame last closed without a match (R258), and at the close of each select's write frame that awaits its
  poll (R261). -/
  pollUs : Word := 0
  waitUs : Tbl Word := []
  deriving DecidableEq, Repr

def Port.reset : Port := { run := none, polling := none, selfPoll := 0 }

/-- A core that waits for an XIP line: die, core, sentry address, kind of access (R266). -/
structure XipWaiter where
  die : Nat
  core : Nat
  addr : Nat
  kind : AccessKind
  deriving DecidableEq, Repr

/-- A fill of an XIP line. -/
structure XipFill where
  leaf : Nat
  waiters : List XipWaiter
  /-- FAULT_US when it started; none for a miss that waits for a fill (R266, R267). -/
  since : Option Word := none
  deriving DecidableEq, Repr

/-- The XIP window of die 0, beside its registers (R265 to R268). -/
structure Xip where
  /-- Installed lines, most recently used first. -/
  lines : List (Nat × List Byte)
  /-- Fills in progress, at most four, and misses that wait for one. -/
  fills : List XipFill
  queued : List XipFill
  /-- Leaves that failed twice since ENABLE was last set (R267). -/
  failed : List Nat
  deriving DecidableEq, Repr

def Xip.reset : Xip := { lines := [], fills := [], queued := [], failed := [] }

/-! ## Boot (09) -/

/-- A section of an image (Table 9.4). -/
structure Section where
  first : Nat
  length : Nat
  dest : Nat
  dies : Nat
  xip : Bool
  stage1 : Bool
  deriving DecidableEq, Repr

/-- The image that the ROM has chosen or that runs. -/
structure Image where
  /-- 0 slot A, 1 slot B, 2 rescue. -/
  slot : Nat
  /-- Bytes 0x000 to 0x07F of its colophon (R280). -/
  message : List Byte
  version : Nat
  leaves : Nat
  pending : Bool
  /-- Confirmation window in seconds. -/
  confirmS : Nat
  entryPc : Nat
  sections : List Section
  deriving DecidableEq, Repr

/-- A rescue transfer in progress (R292, R385). -/
structure Rescue where
  /-- Next stream offset. -/
  next : Nat
  /-- Bytes of the unit (colophon, group slot, block) that is arriving. -/
  buf : List Byte
  /-- The colophon, once it has passed. -/
  colophon : List Byte
  /-- Tree groups that have passed: level, index, bytes. -/
  groups : List (Nat × Nat × List Byte)
  image : Option Image
  /-- It arrives as a Ralver session rather than through the mailbox. -/
  ralver : Bool
  /-- FAULT_US when a chunk was last accepted (R385). -/
  since : Word := 0
  deriving DecidableEq, Repr

/-- Boot state of die 0, beside its registers. -/
structure Boot where
  image : Option Image
  /-- Copies that have not verified: die and leaf (R284). -/
  left : List (Nat × Nat)
  /-- Dies whose sections are copied again (R285). -/
  recopy : List Nat
  /-- The both-slots-bad wait runs (R291). -/
  inWait : Bool
  /-- The part forces expiry of the first sentry's watchdog (R276). -/
  force : Bool
  /-- Slot under CHECK (R296). -/
  checking : Option Nat
  rescue : Option Rescue
  /-- The ROM has run since the part was released (R278). -/
  ran : Bool
  /-- Seconds of OT that the both-slots-bad wait has left (R291, R292). -/
  waitLeft : Nat := 0
  /-- Recopied blocks that failed twice (R285): die and leaf. -/
  failed : List (Nat × Nat) := []
  /-- Stores of sentry cores into copies that have not verified, in order (R284): die, sentry address, byte. -/
  stalled : List (Nat × Nat × Byte) := []
  deriving DecidableEq, Repr

def Boot.reset : Boot :=
  { image := none, left := [], recopy := [], inWait := false, force := false, checking := none, rescue := none, ran := false }

/-! ## Host interface and mailbox (12) -/

/-- A ring command that has been started and not yet completed (R359). -/
structure RingCmd where
  serial : Nat
  /-- The sixteen words of its submission entry. -/
  words : List Word
  /-- Its executor has taken it. -/
  begun : Bool
  /-- RESULT0, RESULT1 and STATUS once it has ended. -/
  done : Option (Word × Word × Nat)
  deriving DecidableEq, Repr

/-- A queue pair whose context is cached (Table 12.4). -/
structure Pair where
  sqBase : Nat
  cqBase : Nat
  /-- Sizes as stored; 0 means 65,536. -/
  sqSize : Nat
  cqSize : Nat
  sqHead : Nat
  sqTail : Nat
  cqTail : Nat
  cqHead : Nat
  error : Bool
  phase : Bool
  irqEn : Bool
  irqArmed : Bool
  vector : Nat
  started : List RingCmd
  /-- An entry that was fetched and waits for its FENCE. -/
  fetched : Option (List Word)
  /-- The DELETE_PAIR of pair 0 that waits for this pair. -/
  deleting : Option Nat
  deriving DecidableEq, Repr

/-- The host interface, beside its registers. -/
structure Hif where
  /-- ENABLED pairs by global number (R350). -/
  enabled : List Nat
  /-- Cached contexts, most recently used first. -/
  cache : List (Nat × Pair)
  /-- Doorbells that wait for a context: SQ tail and CQ head by global pair. -/
  bells : Tbl (Option Nat × Option Nat)
  nextSerial : Nat
  /-- NumVFs and VF Enable of the SR-IOV capability. -/
  numVfs : Nat
  vfEnable : Bool
  /-- Words of the MSI-X tables by 128 × function + word; unlisted words read 0, vector control words 1. -/
  msix : Tbl Nat
  /-- MSI-X pending bits by function. -/
  pba : Tbl Nat
  deriving DecidableEq, Repr

def Hif.reset : Hif :=
  { enabled := [], cache := [], bells := [], nextSerial := 0, numVfs := 0, vfEnable := false, msix := [], pba := [] }

/-- A firmware inbox slot in use (R370). -/
structure InSlot where
  tag : Nat
  /-- Global pair and serial of the command. -/
  pair : Nat
  serial : Nat
  words : List Word
  us : Word
  deriving DecidableEq, Repr

/-- The firmware inbox, in PLAT. -/
structure Inbox where
  /-- Slots in use. -/
  slots : List (Nat × InSlot)
  /-- Next TAG of each slot. -/
  tags : Tbl Nat
  /-- Slots delivered and not yet taken, oldest first. -/
  queue : List Nat
  deriving DecidableEq, Repr

def Inbox.reset : Inbox := { slots := [], tags := [], queue := [] }

/-- The mailbox port, beside its registers. -/
structure Mbx where
  quad : Bool
  ready : Bool
  busy : Bool
  overrun : Bool
  err : Bool
  /-- The read request that is being fetched: address and count. -/
  req : Option (Nat × Nat)
  /-- The read buffer. -/
  words : List Word
  deriving DecidableEq, Repr

def Mbx.reset : Mbx :=
  { quad := false, ready := false, busy := false, overrun := false, err := false, req := none, words := [] }

/-! ## Ralver (13) -/

/-- A Ralver port (R388, R389). -/
structure RvPort where
  up : Bool
  /-- LSEQ of the next parcel to send, and of the next to accept. -/
  tx : Nat
  rx : Nat
  /-- Unacknowledged parcels, oldest first. -/
  kept : List Parcel
  /-- LSEQ of each resend of a parcel that is still kept (R389). -/
  resends : List Byte
  /-- Discarding until the expected LSEQ arrives. -/
  discard : Bool
  /-- FAULT_US when the port last sent to an empty store of unacknowledged parcels, was acknowledged, or resent (R389). -/
  since : Word := 0
  deriving DecidableEq, Repr

def RvPort.reset : RvPort := { up := false, tx := 0, rx := 0, kept := [], resends := [], discard := false }

/-- An open image session (R395 to R398). -/
structure RvSession where
  number : Nat
  origin : Nat
  /-- The mask ROM takes it as a rescue image (R292). -/
  rescue : Bool
  low : Nat
  high : Nat
  leaves : Nat
  depth : Nat
  /-- Next SEQ. -/
  next : Nat
  colophon : List Byte
  /-- The COLOPHON parcels, which wait for the check, with the port each came in on; none for the origin's own. -/
  held : List (Option Bool × Parcel)
  /-- Groups that have passed: level, index, bytes. -/
  groups : List (Nat × Nat × List Byte)
  /-- Parcels of the relay block that is arriving; they wait for its last leaf. -/
  block : List (Option Bool × Parcel)
  /-- Parcels of a relay block that is sent again (R398). -/
  again : List (Option Bool × Parcel)
  /-- FAULT_US at the last parcel of the session (R397). -/
  since : Word := 0
  deriving DecidableEq, Repr

/-- The Ralver engine. -/
structure Rv where
  portUp : RvPort
  portDn : RvPort
  /-- Parcels accepted by a port and not yet handled, oldest first; `false` came in on UP. -/
  inq : List (Bool × Parcel)
  session : Option RvSession
  /-- First halves of signed commands, at most one of each sender (R399). -/
  halves : List Parcel
  /-- IDENTs that arrived before the folio opened (R425): port and DeviceID. -/
  early : List (Bool × List Byte)
  deriving DecidableEq, Repr

def Rv.reset : Rv :=
  { portUp := RvPort.reset, portDn := RvPort.reset, inq := [], session := none, halves := [], early := [] }


/-! ## The whole part -/

/-- The state of the part. -/
structure State where
  variant : Variant
  /-- Every register whose value differs from its reset value. -/
  regs : RegFile
  /-- Core SRAM of every die: byte address of die d at 2^22 × d + offset (R285). -/
  sram : List Host.Cell
  chans : Tbl Chan
  dies : Tbl Die
  epoch : Epoch
  queues : Tbl FaultQueue
  /-- Tree reports that die 0 holds, by 256 × die + tree (R154). -/
  reports : Tbl TreeReport
  seq : Seq
  jtag : Jtag
  /-- Operating time in seconds and power cycles (R11). -/
  ot : Nat
  pcc : Nat
  /-- OT and PCC start from a power-on reset and have not been restored from the folio (R421). -/
  timeDue : Bool
  /-- The last accepted command sequence of the Ralver link, in AON (R401). -/
  cseq : Nat
  vault : Vault
  keys : Keys
  /-- Master ports 0 HOME, 1 VLT0, 2 VLT1. -/
  ports : Tbl Port
  xip : Xip
  boot : Boot
  hif : Hif
  inbox : Inbox
  mbx : Mbx
  rv : Rv
  fuses : Fuses
  folio : Folio
  guard : Guard
  /-- The model's own field: everything the part has sent out so far, in order; nothing in the part reads it. -/
  outputs : List Output
  /-- The model's own field: free values drawn so far (notes/assumptions/2.md). -/
  free : Nat
  /-- Commands that wait, first in, first out. -/
  pending : List Instr
  deriving DecidableEq, Repr

/-- The reset controller with every domain released and every pin inactive. -/
def Seq.reset : Seq :=
  { phase := .run, part := false, dies := [], hif := false, levels := [], por := false, counted := false, next := none, wait := false,
    pulse := false, cut := false, pll := false, clk := false, wdt := [], causes := 0, platReset := false, aonHeld := false, hifReset := false,
    rlvReset := false, isoSeen := false, rlvIso := false, untrained := [], frozen := false, refclkLost := false, rstN := false,
    perstN := false, frzN := false, badSupplies := [], vfuseOut := true, vio33 := [] }

/-- The TAP after its reset: IDCODE selected (IEEE 1149.1, R246). -/
def Jtag.reset : Jtag := { ir := 1, cells := [], frz := 0 }

/-- The part right after a power-on reset: every register at its Reset value, every domain released, nothing in memory. -/
def State.reset : State :=
  { variant := .spg6408, regs := [], sram := [], chans := [], dies := [], epoch := Epoch.reset, queues := [],
    reports := [], seq := Seq.reset, jtag := Jtag.reset, ot := 0, pcc := 1, timeDue := true, cseq := 0, vault := Vault.reset, keys := Keys.reset, ports := [], xip := Xip.reset, boot := Boot.reset, hif := Hif.reset,
    inbox := Inbox.reset, mbx := Mbx.reset, rv := Rv.reset,
    fuses := Fuses.reset, folio := Folio.reset, guard := Guard.reset, outputs := [], free := 0,
    pending := [] }

end Sys2Proof.Machine
end

