-- ==== Sys2Proof/Machine/Ops.lean ====
section
/-! DEFINITION. The named operations over the state: registers and their fields, channels, dies, core SRAM, outputs and free
values. Every meaning reads and writes the state through them. -/

namespace Sys2Proof.Machine

/-! ## Register file -/

/-- The entry of a register, where one is listed. -/
def RegFile.find (f : RegFile) (r : Reg) : Option Word :=
  match f with
  | [] => none
  | (r', v) :: t => if r' = r then some v else RegFile.find t r

/-- Put a pair before the first larger key. -/
def RegFile.insert (f : RegFile) (r : Reg) (v : Word) : RegFile :=
  match f with
  | [] => [(r, v)]
  | (r', v') :: t => if Reg.lt r r' then (r, v) :: (r', v') :: t else (r', v') :: RegFile.insert t r v

/-- Drop the registers that `p` selects: they read their reset values again. -/
def RegFile.drop (f : RegFile) (p : Reg → Bool) : RegFile := f.filter fun e => !p e.1

/-- The number of dies of a variant (Table 0.1). -/
def Variant.dies : Variant → Nat
  | .spg1602 => 2
  | .spg3204 => 4
  | .spg6408 => 8

/-- The reset value of a register on a variant (R7, R8, R84, R126, R249, R427). -/
def Reg.resetOn (v : Variant) (r : Reg) : Word :=
  match r.name with
  | .PART_INFO => match v with
    | .spg1602 => 0x16021020
    | .spg3204 => 0x32042040
    | .spg6408 => 0x64084080
  | .EPOCH_MAP_LO => match v with
    | .spg1602 => 0xFFFF
    | _ => 0xFFFFFFFF
  | .EPOCH_MAP_HI => match v with
    | .spg6408 => 0xFFFFFFFF
    | _ => 0
  | .RC_DIE_STATE => match v with
    | .spg1602 => 0xA
    | .spg3204 => 0xAA
    | .spg6408 => 0xAAAA
  | .RC_CLK => BitVec.ofNat 32 (0x100 + (2 ^ v.dies - 1))
  | .FM_STG | .FM_ACT | .FM_NXT => if r.i % 512 < 64 then 0x6F6F6F6F else 0
  | .GD_SRC_CFG => if 72 ≤ r.i ∧ r.i ≤ 87 then 0xA00 else 3
  | n => BitVec.ofNat 32 n.reset

/-- The word a register holds. -/
def State.rd (s : State) (n : RegName) (i : Nat) : Word :=
  (s.regs.find ⟨n, i⟩).getD (Reg.resetOn s.variant ⟨n, i⟩)

/-- Put a word into a register; its reset value is stored as no entry. -/
def RegFile.put (f : RegFile) (v : Variant) (r : Reg) (w : Word) : RegFile :=
  let g := RegFile.drop f fun x => decide (x = r)
  if w = Reg.resetOn v r then g else RegFile.insert g r w

/-- Set the word of a register. -/
def State.wr (s : State) (n : RegName) (i : Nat) (v : Word) : State :=
  { s with regs := RegFile.put s.regs s.variant ⟨n, i⟩ v }

/-- A field of a word. -/
def Field.of (f : Field) (w : Word) : Nat := bitsOf w.toNat f.lo f.width

/-- A word with a field replaced. -/
def Field.put (f : Field) (w : Word) (x : Nat) : Word := BitVec.ofNat 32 (setBits w.toNat f.lo f.width x)

/-- A field of a register. -/
def State.getF (s : State) (f : Field) (i : Nat) : Nat := f.of (s.rd f.reg i)

/-- Set a field of a register. -/
def State.setF (s : State) (f : Field) (i : Nat) (x : Nat) : State := s.wr f.reg i (f.put (s.rd f.reg i) x)

/-- A one-bit field as a truth value. -/
def State.flag (s : State) (f : Field) (i : Nat) : Bool := decide (s.getF f i ≠ 0)

/-- Set a one-bit field. -/
def State.setFlag (s : State) (f : Field) (i : Nat) (b : Bool) : State := s.setF f i (b2n b)

/-- Set the bits of a mask in a register. -/
def State.orR (s : State) (n : RegName) (i : Nat) (m : Nat) : State :=
  s.wr n i (s.rd n i ||| BitVec.ofNat 32 m)

/-- Clear the bits of a mask in a register. -/
def State.clrR (s : State) (n : RegName) (i : Nat) (m : Nat) : State :=
  s.wr n i (s.rd n i &&& ~~~ BitVec.ofNat 32 m)

/-- A software write by the access codes of the register's fields (R17, R18). -/
def RegName.written (n : RegName) (old v : Word) : Word :=
  let rw := BitVec.ofNat 32 n.rwMask
  let c := BitVec.ofNat 32 n.w1cMask
  let t := BitVec.ofNat 32 n.w1sMask
  (((old &&& ~~~ rw) ||| (v &&& rw)) &&& ~~~ (v &&& c)) ||| (v &&& t)

/-- The software write of a register that has no rule of its own. -/
def State.swWrite (s : State) (n : RegName) (i : Nat) (v : Word) : State := s.wr n i (n.written (s.rd n i) v)

/-- The software write of the bits of a mask only. -/
def State.swWriteMasked (s : State) (n : RegName) (i : Nat) (v : Word) (m : Nat) : State :=
  let old := s.rd n i
  let mm := BitVec.ofNat 32 m
  s.wr n i ((n.written old v &&& mm) ||| (old &&& ~~~ mm))

/-! ## Channels, dies, outputs -/

/-- A channel's state beside its registers. -/
def State.ch (s : State) (n : Nat) : Chan := Tbl.get s.chans n Chan.reset

/-- Replace a channel's state. -/
def State.setCh (s : State) (n : Nat) (c : Chan) : State := { s with chans := Tbl.set s.chans n c Chan.reset }

/-- Change a channel's state. -/
def State.modCh (s : State) (n : Nat) (f : Chan → Chan) : State := s.setCh n (f (s.ch n))

/-- A die's state beside its registers. -/
def State.die (s : State) (d : Nat) : Die := Tbl.get s.dies d Die.reset

/-- Replace a die's state. -/
def State.setDie (s : State) (d : Nat) (x : Die) : State := { s with dies := Tbl.set s.dies d x Die.reset }

/-- Change a die's state. -/
def State.modDie (s : State) (d : Nat) (f : Die → Die) : State := s.setDie d (f (s.die d))

/-- Send something out. -/
def State.emit (s : State) (o : Output) : State := { s with outputs := s.outputs ++ [o] }

/-- Send the value of a register read to the reader. -/
def State.answer (r : Word × State) : State := r.2.emit (.readData r.1)

/-- The fault queue of a die. -/
def State.queue (s : State) (d : Nat) : FaultQueue := Tbl.get s.queues d FaultQueue.reset

/-- Replace the fault queue of a die. -/
def State.setQueue (s : State) (d : Nat) (q : FaultQueue) : State :=
  { s with queues := Tbl.set s.queues d q FaultQueue.reset }

/-- FAULT_US (R207). -/
def State.us (s : State) : Word := s.rd .FAULT_US 0

/-- Microseconds of FAULT_US since a stamp; the counter wraps. -/
def State.usSince (s : State) (t : Word) : Nat := (s.us - t).toNat

/-- Draw a free value (notes/assumptions/2.md). -/
def State.fresh (s : State) : Word × State := (Config.freeWord s.free, { s with free := s.free + 1 })

/-- Draw a free truth value. -/
def State.freshBit (s : State) : Bool × State := (decide (s.fresh.1.toNat % 2 = 1), s.fresh.2)

/-- Draw random bits (R331, R335, R413). -/
def State.draw (s : State) : BitVec 384 × State := (Config.random s.free, { s with free := s.free + 1 })

/-- The number of dies present. -/
def State.nDies (s : State) : Nat := s.variant.dies

/-- Die d is present (R6). -/
def State.present (s : State) (d : Nat) : Bool := decide (d < s.nDies)

/-- The part is frozen, or REFCLK is lost: nothing in its clocked domains moves (R242, R243). -/
def State.stopped (s : State) : Bool := s.seq.frozen || s.seq.refclkLost

/-- A reset of PLAT, or one that waits for a pulse or a frame, has been recognised and has not taken hold: the part starts no
fuse pulse and opens no home or vault frame (R238). -/
def State.deferring (s : State) : Bool := s.seq.wait || (decide (s.seq.phase = .deferred) && s.seq.part)

/-- Die d runs: present, out of reset, clocks going. -/
def State.live (s : State) (d : Nat) : Bool := s.present d && !(s.die d).inReset && !s.stopped

/-- Channel n lies on a die that runs. -/
def State.chLive (s : State) (n : Nat) : Bool := s.live (n / 8)

/-- PLAT runs (R227). -/
def State.platLive (s : State) : Bool := !s.seq.platReset && !s.stopped

/-- HIF runs (R227, R472). -/
def State.hifLive (s : State) : Bool := !s.seq.hifReset && !s.stopped

/-- RLV runs. -/
def State.rlvLive (s : State) : Bool := !s.seq.rlvReset && !s.stopped

/-- A die that runs and that the fabric reaches. -/
def State.reached (s : State) (d : Nat) : Bool := s.live d && (s.die d).reachable

/-- An effect that takes place only where a condition holds; otherwise nothing changes (notes/assumptions/4.md). -/
def State.when (s : State) (c : Bool) (f : State → State) : State := if c then f s else s

/-- Apply an effect for each number of a list. -/
def State.forEach (s : State) (l : List Nat) (f : State → Nat → State) : State := l.foldl f s

/-! ## Core SRAM (R285) -/

/-- The key of byte `a` of die d's core SRAM, which holds 4 MiB. -/
def sramKey (d a : Nat) : Nat := d * 2 ^ 22 + a % 2 ^ 22

/-- An unlisted byte `a` of die d's core SRAM reads zero: no reset of the die has left it undefined, or the ROM has cleared
its working area of die 0 and set the lock (R280, R285). -/
def State.sramZero (s : State) (d a : Nat) : Bool :=
  decide ((s.die d).generation = 0) ||
  (decide (d = 0) && decide (0x380000 ≤ a % 2 ^ 22) && decide (a % 2 ^ 22 < 0x3C0000) && s.flag Fld.BT_LOCK_ROM_LOCKED 0)

/-- What a byte that nothing has written reads as (R285). -/
def State.sramUnlisted (s : State) (d a : Nat) : Byte :=
  if s.sramZero d a then 0 else Config.sramByte ((s.die d).generation * 8 + d) (a % 2 ^ 22)

/-- Find a byte. -/
def Memory.find (m : List Host.Cell) (k : Nat) : Option Byte :=
  match m with
  | [] => none
  | (k', v) :: t => if k' = k then some v else Memory.find t k

/-- Store a byte: the key's entry is replaced, and a zero where unlisted bytes read zero is stored as no entry. -/
def Memory.put (m : List Host.Cell) (k : Nat) (v : Byte) (listed : Bool) : List Host.Cell :=
  let g := Tbl.drop m k
  if v = 0 ∧ !listed then g else Tbl.insert g k v

/-- The canonical form: keys strictly rising. -/
def Memory.wf (m : List Host.Cell) : Bool :=
  match m with
  | [] => true
  | [_] => true
  | (k, _) :: (k', v') :: t => decide (k < k') && Memory.wf ((k', v') :: t)

/-- Read a byte of core SRAM. -/
def State.sramRead (s : State) (d a : Nat) : Byte :=
  (Memory.find s.sram (sramKey d a)).getD (s.sramUnlisted d a)

/-- Write a byte of core SRAM. -/
def State.sramWrite (s : State) (d a : Nat) (b : Byte) : State :=
  { s with sram := Memory.put s.sram (sramKey d a) b (!s.sramZero d a) }

/-- Read `n` bytes of core SRAM. -/
def State.sramBytes (s : State) (d a n : Nat) : List Byte := (List.range n).map fun k => s.sramRead d (a + k)

/-- Write bytes to core SRAM. -/
def State.sramStore (s : State) (d a : Nat) (l : List Byte) : State :=
  (l.zipIdx).foldl (fun t p => t.sramWrite d (a + p.2) p.1) s

/-- Leaves that a section spans. -/
def Section.span (x : Section) : Nat := ceilDiv x.length 4096

/-- Present dies that a section is copied to. -/
def Section.copies (x : Section) (dies : Nat) : List Nat := if x.xip then [] else numsBelow dies fun d => bitOf x.dies d

/-- Sentry address of the copy of a leaf on a die. -/
def copyAddr (dies : Nat) (l : List Section) (d leaf : Nat) : Option Nat :=
  (l.find? fun x => decide (x.first ≤ leaf) && decide (leaf < x.first + x.span) && mem d (x.copies dies)).map fun x =>
    x.dest + 4096 * (leaf - x.first)

/-- A sentry address of die d lies in the copy of a block that has not verified there (R284). -/
def State.unverified (s : State) (d a : Nat) : Bool :=
  s.boot.image.any fun im => s.boot.left.any fun p =>
    decide (p.1 = d) && (copyAddr s.nDies im.sections d p.2).any fun c => decide (c ≤ a) && decide (a < c + 4096)

/-- A store of a sentry core to core SRAM: it stalls while the block's copy there has not verified (R284). -/
def State.sentryStore (s : State) (p : Nat × Nat × Byte) : State :=
  if s.unverified p.1 p.2.1 then { s with boot := { s.boot with stalled := s.boot.stalled ++ [p] } }
  else s.sramWrite p.1 p.2.1 p.2.2

/-- The stores that sentry cores made since the command before (R285): firmware's own writes. -/
def State.stores (s : State) (l : Stores) : State :=
  l.foldl (fun t p => t.sentryStore (p.1.val, p.2)) s

/-- Stalled stores complete where their block has verified (R284). -/
def State.storesResume (s : State) : State :=
  let l := s.boot.stalled
  l.foldl (fun t p => t.sentryStore p) { s with boot := { s.boot with stalled := [] } }

/-- Drop the contents of a die's core SRAM: a reset leaves them undefined (R285). -/
def State.sramForget (s : State) (d : Nat) : State :=
  let m := s.sram.filter fun c => decide (c.1 / 2 ^ 22 ≠ d)
  { s with sram := m }.modDie d fun x => { x with generation := x.generation + 1 }

end Sys2Proof.Machine
end

