-- ==== Sys2Proof/Machine/Flags.lean ====
section
/-! DEFINITION. Fault flags, fault reports and the counts they drive (R14, R206, R225, R429 to R436), and the marks that
events put on leases (R339). -/

namespace Sys2Proof.Machine

/-! ## Observation counters -/

/-- An event number that names an event on die d (Table 15.1). -/
def obAssigned (d e : Nat) : Bool :=
  decide (e < 0x30B) || (decide (0x30C ≤ e) && decide (e ≤ 0x31A)) || (decide (0x320 ≤ e) && decide (e ≤ 0x327)) ||
  (decide (0x330 ≤ e) && decide (e ≤ 0x34C)) || (decide (0x350 ≤ e) && decide (e ≤ 0x355)) ||
  (decide (0x360 ≤ e) && decide (e ≤ 0x36E)) || (decide (0x370 ≤ e) && decide (e ≤ 0x38F)) ||
  (decide (0x3A0 ≤ e) && decide (e < 0x3E0) && decide (e % 16 < 12)) ||
  (decide (d = 0) && decide (0x3E0 ≤ e) && decide (e ≤ 0x3F6))

/-- Events e and e + 1 (e even) form a 40-bit pair (R434). -/
def State.obPaired (s : State) (d e : Nat) : Bool :=
  bitOf (s.rd .OB_CHAIN (d * 16 + e / 64)).toNat (e % 64 / 2)

/-- Set the OB_SAT bit of an event (R432). -/
def State.obSat (s : State) (d e : Nat) : State := s.orR .OB_SAT (d * 32 + e / 32) (2 ^ (e % 32))

/-- Add to the counter of an event (R432, R434). -/
def State.obCounter (s : State) (d e n : Nat) : State :=
  let base := d * 1024
  let e0 := e - e % 2
  if s.obPaired d e0 then
    if e % 2 = 1 then s
    else
      let v := s.getF Fld.OB_CNT_COUNT (base + e + 1) * 2 ^ 20 + s.getF Fld.OB_CNT_COUNT (base + e) + n
      if 2 ^ 40 - 1 ≤ v then
        ((s.setF Fld.OB_CNT_COUNT (base + e) 0xFFFFF).setF Fld.OB_CNT_COUNT (base + e + 1) 0xFFFFF).obSat d e
      else (s.setF Fld.OB_CNT_COUNT (base + e) v).setF Fld.OB_CNT_COUNT (base + e + 1) (v / 2 ^ 20)
  else
    let v := s.getF Fld.OB_CNT_COUNT (base + e) + n
    if 0xFFFFF ≤ v then (s.setF Fld.OB_CNT_COUNT (base + e) 0xFFFFF).obSat d e
    else s.setF Fld.OB_CNT_COUNT (base + e) v

/-- Add to the watch slots that select an event; a slot that reaches its period becomes due (R436). -/
def State.obWatch (s : State) (d e n : Nat) : State :=
  let us := s.us
  let counter := s.getF Fld.OB_CNT_COUNT (d * 1024 + e)
  s.forEach (List.range 16) fun s i =>
    let w := d * 16 + i
    if s.getF Fld.OB_WATCH_CFG_ACTION w = 0 ∨ s.getF Fld.OB_WATCH_CFG_EVENT w ≠ e then s
    else
      let p := max 1 (s.getF Fld.OB_WATCH_PERIOD_PERIOD w)
      let c := s.getF Fld.OB_WATCH_COUNT_COUNT w + n
      let s := s.setF Fld.OB_WATCH_COUNT_COUNT w (c % p)
      let x : Due := { slot := i, cfg := s.rd .OB_WATCH_CFG w, us := us, counter := counter, frame := none }
      if p ≤ c then s.modDie d fun y => { y with due := y.due ++ [x] } else s

/-- Event e occurs n times on die d. -/
def State.count (s : State) (d e n : Nat) : State :=
  if n = 0 ∨ !obAssigned d e then s else (s.obCounter d e n).obWatch d e n

/-- The local channel of a channel event or histogram (Table 15.1). -/
def eventCh (e : Nat) : Option Nat :=
  if e < 0x200 then some (e / 0x40) else if e < 0x300 then some ((e - 0x200) / 0x20) else none

/-- The frame that completed the periods of due slots of channel n has closed (R439, R440). -/
def State.obClosed (s : State) (n : Nat) (i : FrameInfo) : State :=
  if (s.die (n / 8)).due = [] then s
  else
    let mine (x : Due) : Bool := x.frame.isNone && decide (eventCh (Fld.OB_WATCH_CFG_EVENT.of x.cfg) = some (n % 8))
    s.modDie (n / 8) fun y => { y with due := y.due.map fun x => if mine x then { x with frame := some i } else x }

/-- Channel event k occurs n times on channel c (Table 15.2). -/
def State.countCh (s : State) (c k n : Nat) : State := s.count (c / 8) (0x40 * (c % 8) + k) n

/-! ## Reports -/

/-- The register bit of a fault code and the register's index, for a report of die d with a source (R225, Table 6.7). -/
def faultBit (d code source : Nat) : Option (RegName × Nat × Nat) :=
  let low := code % 0x1000
  match code / 0x1000 with
  | 0x1 => some (.CH_FAULT, 8 * d + source % 8, low - 1)
  | 0x2 => if low ≤ 6 then some (.FM_FAULT, d, low - 1) else if low ≤ 8 then none else some (.FM_FAULT, d, low - 3)
  | 0x3 => some (.WIT_FAULT, d, low - 1)
  | 0x4 => some (.MC_FAULT, d, low - 1)
  | 0x5 => match low / 0x100 with
    | 0 => some (.CF_FAULT, d, low - 1)
    | 1 => some (.IF_FAULT, d, low % 0x100)
    | 2 => some (.IF_FAULT, d, 16 + low % 0x100)
    | _ => none
  | 0x6 => match low / 0x100 with
    | 1 => some (.MP_FAULT, source % 4, low % 0x100 - 1)
    | 2 => some (.SN_FAULT, d, low % 0x100 - 1)
    | 3 => some (.BT_FAULT, 0, low % 0x100 - 1)
    | _ => none
  | 0x7 => some (.KU_FAULT, 0, low - 1)
  | 0x8 => if low ≤ 4 then some (.HI_FAULT, 0, low - 1) else some (.MB_FAULT, 0, low - 5)
  | 0x9 => some (.FU_FAULT, 0, low - 1)
  | 0xA => some (.RC_FAULT, 0, low - 1)
  | 0xB => some (.GD_FAULT, 0, low - 1)
  | 0xC => some (.RV_FAULT, 0, low - 1)
  | _ => none

/-- The observation event that counts reports of a code on a die (Tables 15.1 and 15.2). -/
def faultEvent (code source : Nat) : Option Nat :=
  let low := code % 0x1000
  match code / 0x1000 with
  | 0x1 => some (0x40 * (source % 8) + 0x18 + (low - 1))
  | 0x2 => some (0x300 + (low - 1))
  | 0x3 => some (0x310 + (low - 1))
  | 0x4 => some (0x340 + (low - 1))
  | 0x5 => match low / 0x100 with
    | 0 => some (0x368 + (low - 1))
    | 1 => some (0x370 + low % 0x100)
    | 2 => some (0x380 + low % 0x100)
    | _ => none
  | _ => none

/-- The register bit of a fault sets (R225, Table 6.7). -/
def State.faultMark (s : State) (d code source : Nat) : State :=
  match faultBit d code source with
  | some (n, i, b) => s.orR n i (2 ^ b)
  | none => s

/-- The event that counts reports of the code occurs (R429). -/
def State.faultCount (s : State) (d code source : Nat) : State :=
  match faultEvent code source with
  | some e => s.count d e 1
  | none => s

/-- One more report waits on die d, under the die's DSEQ and at FAULT_US (R206). -/
def State.enqueue (s : State) (d code source : Nat) : State :=
  let us := s.us
  s.modDie d fun x =>
    { x with
      inflight := x.inflight ++ [{ code := code, source := source, dseq := x.dseq, us := us }]
      dseq := (x.dseq + 1) % 2 ^ 16 }

/-- Die d makes a fault report: the register bit sets at the same moment (R206, R225, R429). -/
def State.report (s : State) (d code source : Nat) : State :=
  ((s.faultMark d code source).faultCount d code source).enqueue d code source

/-- SOURCE of a code for which the spec states none. -/
def openSource (code : Nat) : Nat := (Config.freeSource code).toNat

/-- A channel fault: SOURCE names the local channel (Table 6.5). -/
def State.chFault (s : State) (c code : Nat) : State := s.report (c / 8) code (c % 8)

/-- A forme fault: SOURCE names the local channel and the forme (Table 6.5). -/
def State.fmFault (s : State) (c forme code : Nat) : State := s.report (c / 8) code (c % 8 + 8 * forme)

/-- A witness fault of tree t on channel c (Table 6.5). -/
def State.witFault (s : State) (d t c code : Nat) : State := s.report d code (t + 0x100 * (c % 8) + 0x800)

/-- A media-care fault of region r, channel c (Table 6.5). -/
def State.mcFault (s : State) (d r c code : Nat) : State := s.report d code (r + 0x20 + 0x40 * (c % 8))

/-! ## Who reaches what (R6, R22, R23, R237, R472) -/

/-- A requester runs: the host's accesses need the PCIe endpoint, the mailbox's PLAT, a core's its die. -/
def State.reqOk (s : State) (req : Requester) : Bool :=
  match req with
  | .pf => s.hifLive
  | .mailbox => s.platLive
  | .sentry d _ => s.live d.val

/-- The die on which a requester sits. -/
def reqDie (req : Requester) : Nat :=
  match req with
  | .sentry d _ => d.val
  | _ => 0

/-- The requester's accesses reach the package registers and other dies. -/
def State.reqFar (s : State) (req : Requester) : Bool := s.reqOk req && (s.die (reqDie req)).reachable

/-- An access meets the isolation wrapper of die d: 0xA001 at the first of each reset of the domain (R237). -/
def State.isoErr (s : State) (d : Nat) : State :=
  if (s.die d).isoSeen then s else (s.modDie d fun x => { x with isoSeen := true }).report 0 0xA001 d

/-- An access to a die that cannot be reached: a fabric fault at the first one (R23). Where the requester's own die is the one that
cannot be reached, the access says nothing of die d. -/
def State.lossFault (s : State) (d : Nat) : State :=
  if (s.die d).reachable || (s.die d).lossSeen then s
  else (s.modDie d fun x => { x with lossSeen := true }).report 0 0x5003 d

/-- The requester reaches die d's window. -/
def State.reaches (s : State) (req : Requester) (d : Nat) : Bool :=
  decide (reqDie req = d) || ((s.die (reqDie req)).reachable && (s.die d).reachable)

/-- A write to a register of die d (R6, R22, R23, R237). -/
def State.dieAccess (s : State) (req : Requester) (d : Nat) (f : State → State) : State :=
  if !s.reqOk req ∨ !s.present d then s
  else if (s.die d).inReset then s.isoErr d
  else if !s.reaches req d then s.lossFault d
  else f s

/-- What a read delivers: the word, or nothing where the requester gets no answer. -/
def State.reply (r : Option Word × State) : State :=
  match r.1 with
  | some v => r.2.emit (.readData v)
  | none => r.2

/-- The word of a read that reaches its register. -/
def fetched (r : Word × State) : Option Word × State := (some r.1, r.2)

/-- A read of a register of die d: an absent die reads 0x0000_0000, one that is in reset or out of reach 0xFFFF_FFFF. A core
whose load meets a block in reset takes a bus error, the command BUS_ERROR, and receives nothing (Table 7.4). -/
def State.dieFetch (s : State) (req : Requester) (d : Nat) (f : State → Word × State) : Option Word × State :=
  if !s.reqOk req then (none, s)
  else if !s.present d then (some 0, s)
  else if (s.die d).inReset then
    match req with
    | .sentry _ _ => (none, s.isoErr d)
    | _ => (some 0xFFFFFFFF, s.isoErr d)
  else if !s.reaches req d then (some 0xFFFFFFFF, s.lossFault d)
  else fetched (f s)

/-- The same, with the answer sent out. -/
def State.dieRead (s : State) (req : Requester) (d : Nat) (f : State → Word × State) : State := State.reply (s.dieFetch req d f)

/-- An access to a package register in PLAT. -/
def State.platAccess (s : State) (req : Requester) (f : State → State) : State := s.when (s.reqFar req && s.platLive) f

/-- A read of a package register in PLAT. -/
def State.platFetch (s : State) (req : Requester) (f : State → Word × State) : Option Word × State :=
  if s.reqFar req && s.platLive then fetched (f s) else (none, s)

/-- An access to a register of a master port: VLT1's travels to die 1 (R269). -/
def State.portAccess (s : State) (req : Requester) (p : Nat) (f : State → State) : State :=
  if p = 2 then s.dieAccess req 1 f else s.platAccess req f

/-- A read of a register of a master port. -/
def State.portFetch (s : State) (req : Requester) (p : Nat) (f : State → Word × State) : Option Word × State :=
  if p = 2 then s.dieFetch req 1 f else s.platFetch req f

/-- An access meets the isolation wrapper of HIF, whose SOURCE is die 0: 0xA001 at the first of each reset of HIF (R237). -/
def State.isoHif (s : State) : State :=
  if s.seq.isoSeen then s else { s with seq := { s.seq with isoSeen := true } }.report 0 0xA001 0

/-- An access meets the isolation wrapper of RLV (R237). -/
def State.isoRlv (s : State) : State :=
  if s.seq.rlvIso then s else { s with seq := { s.seq with rlvIso := true } }.report 0 0xA001 0

/-- A write to a register in HIF (R472). -/
def State.hifAccess (s : State) (req : Requester) (f : State → State) : State :=
  if !s.reqFar req ∨ !s.platLive then s else if s.seq.hifReset then s.isoHif else f s

/-- A read of a register in HIF: the mailbox and a core read 0xFFFF_FFFF while HIF is in reset (Table 7.4, R472). -/
def State.hifFetch (s : State) (req : Requester) (f : State → Word × State) : Option Word × State :=
  if !s.reqFar req ∨ !s.platLive then (none, s)
  else if s.seq.hifReset then (some 0xFFFFFFFF, s.isoHif)
  else fetched (f s)

/-- An access to a register in RLV. -/
def State.rlvAccess (s : State) (req : Requester) (f : State → State) : State :=
  if !s.reqFar req ∨ !s.platLive then s else if s.seq.rlvReset then s.isoRlv else f s

/-- A read of a register in RLV; the spec states no value for BAR0 or the mailbox while RLV is in reset: a free value
(notes/assumptions/2.md). -/
def State.rlvFetch (s : State) (req : Requester) (f : State → Word × State) : Option Word × State :=
  if !s.reqFar req ∨ !s.platLive then (none, s)
  else if s.seq.rlvReset then
    match req with
    | .sentry _ _ => (none, s.isoRlv)
    | _ => fetched s.isoRlv.fresh
  else fetched (f s)

/-- An access to a register in AON. -/
def State.aonAccess (s : State) (req : Requester) (f : State → State) : State := s.when (s.reqFar req) f

/-- A read of a register in AON. -/
def State.aonFetch (s : State) (req : Requester) (f : State → Word × State) : Option Word × State :=
  if s.reqFar req then fetched (f s) else (none, s)

/-! ## Lease marks -/

/-- Add one mark to every lease whose channel mask meets `mask` (R339). -/
def State.mark (s : State) (mask : Nat) : State :=
  { s with keys := { s.keys with leases := s.keys.leases.map fun l =>
      if l.mask &&& mask = 0 then l
      else { l with marks := min (l.marks + 1) 0xFFFFFFFF, otMark := s.ot } } }

/-- An event in the scope of one channel (Table 11.6). -/
def State.markCh (s : State) (c : Nat) : State := s.mark (2 ^ c)

/-- An event in the scope of every lease (Table 11.6). -/
def State.markAll (s : State) : State :=
  { s with keys := { s.keys with
      leases := s.keys.leases.map fun l => { l with marks := min (l.marks + 1) 0xFFFFFFFF, otMark := s.ot } } }

end Sys2Proof.Machine
end

