-- ==== Sys2Proof/Machine/Folio.lean ====
section
/-! DEFINITION. The folio writer's acceptance of records: sequence numbers, places in flash, seals and carried records
(R33, R417 to R420, R424). -/

namespace Sys2Proof.Machine

/-! ## Records (Tables 14.5 and 14.6) -/

/-- Total length of a record in bytes: header and body. -/
def FoRec.length (r : FoRec) : Nat := 16 + r.body.length

/-- The bytes of a record after a chain value (Table 14.5): TYPE, UNITS, LINK, SEQ, OT, PCC, body. -/
def FoRec.bytes (r : FoRec) (chain : Digest) : List Byte :=
  BitVec.ofNat 8 r.typ :: BitVec.ofNat 8 (r.length / 16 - 1) :: byteAt chain 46 :: byteAt chain 47 ::
    (beBytes 4 r.seq ++ beBytes 5 r.ot ++ beBytes 3 r.pcc ++ r.body)

/-- The record that bytes spell; `none` where they are too short or erased. -/
def foParse (b : List Byte) : Option FoRec :=
  let len := ((byteAt b 1).toNat + 1) * 16
  if b.length < 16 ∨ b.length < len ∨ byteAt b 0 = 0xFF then none
  else some { typ := (byteAt b 0).toNat, seq := ofBe (sliceB b 4 4), ot := ofBe (sliceB b 8 5),
              pcc := ofBe (sliceB b 0xD 3), body := sliceB b 16 (len - 16) }

/-- The record itself, or the original a CARRY holds. -/
def FoRec.original (r : FoRec) : FoRec := if r.typ = 0x0F then (foParse r.body).getD r else r

/-- Bytes waiting in staging. -/
def Folio.stagedBytes (f : Folio) : Nat := (f.staged.map fun x => x.entry.length).foldl (· + ·) 0

/-- Records that a wrap must keep (R424): the newest GENESIS, LOCKDOWN, UNLOCK, BIND, the newest NEIGHBOUR of each port, and
every TAMPER; `all` is every record of the folio. -/
def mustCarry (all : List FoRec) (r : FoRec) : Bool :=
  let newest (p : FoRec → Bool) : Bool := all.all fun x => !p x || decide (x.seq ≤ r.seq)
  match r.typ with
  | 0x06 => true
  | 0x0A => newest fun x => decide (x.typ = 0x0A) && decide (byteAt x.body 0 = byteAt r.body 0)
  | 0x01 | 0x07 | 0x08 | 0x0B => newest fun x => decide (x.typ = r.typ)
  | _ => false

/-- Every record of the folio, visible or staged, as originals. -/
def Folio.all (f : Folio) : List FoRec := (f.log.map fun p => p.2.original) ++ (f.staged.map fun x => x.entry.original)

/-- The records of a sector that a wrap must keep. -/
def Folio.carried (f : Folio) (sector : Nat) : List FoRec :=
  let here : List (Nat × FoRec) := f.log.filter fun p => decide (p.1 = sector)
  let orig : List FoRec := here.map fun p => p.2.original
  orig.filter (mustCarry f.all)

/-! ## Acceptance -/

/-- The folio's sectors of 4 KiB. -/
def State.foSectors (s : State) : Nat := max 1 ((s.rd .FO_SIZE 0).toNat / 4096)

/-- Show the number of staged records (FO_STATUS.STAGED). -/
def State.showStaged (s : State) : State := s.setF Fld.FO_STATUS_STAGED 0 (min s.folio.staged.length 0xFFF)

/-- Change the folio writer's state. -/
def State.modFolio (s : State) (f : Folio → Folio) : State := { s with folio := f s.folio }

/-- Accept a record at the writer's place: it takes the next SEQ, with its OT and PCC (R418). What follows SEQ 0xFFFF_FFFF the spec
does not say (R33); the model wraps to 0 (DESIGN CHOICE, log entry 150). -/
def State.take (s : State) (typ : Nat) (body : List Byte) (ot pcc : Nat) : State :=
  (s.modFolio fun f =>
    let r : FoRec := { typ := typ, seq := f.next, ot := ot, pcc := pcc, body := body }
    { f with
      next := (f.next + 1) % 2 ^ 32
      staged := f.staged ++ [{ sector := f.sector, off := f.off, entry := r }]
      sinceSeal := if typ = 0x04 then 0 else f.sinceSeal + 1
      off := f.off + r.length }).showStaged

/-- A SEAL; the writer fills in the chain value when it programs it (R419). -/
def State.seal (s : State) : State := s.take 0x04 (List.replicate 48 0) s.ot s.pcc

/-- Accept a record. Where the folio is open, a record that does not fit before the sector's SEAL goes to the next sector: a
SEAL first, then, because the sector after it will be erased next, its records that must survive as CARRY records; where all the
records that must survive would fill more than half of the folio, FULL instead (R417, R419, R424). A SEAL follows every 64th
record. -/
def State.accept (fuel : Nat) (typ : Nat) (body : List Byte) (ot pcc : Nat) (s : State) : State :=
  if !s.folio.opened then s.take typ body ot pcc
  else
    let s :=
      if s.folio.off + 16 + body.length + 64 ≤ 4096 then s
      else
        let s := s.seal
        let n := s.foSectors
        let next := (s.folio.sector + 1) % n
        let s := s.modFolio fun f => { f with sector := next, off := 0 }
        match fuel with
        | 0 => s
        | k + 1 =>
          let keep := s.folio.carried ((next + 1) % n)
          let every := s.folio.all.filter (mustCarry s.folio.all)
          let bytes := (every.map fun r => 16 + r.length).foldl (· + ·) 0
          if s.flag Fld.FO_STATUS_FULL 0 then s
          else if (s.rd .FO_SIZE 0).toNat < 2 * bytes then
            (s.setFlag Fld.FO_STATUS_FULL 0 true).report 0 0xB006 0
          else keep.foldl (fun t r => t.accept k 0x0F (r.bytes []) t.ot t.pcc) s
    let s := s.take typ body ot pcc
    if 64 ≤ s.folio.sinceSeal then s.seal else s

/-- The writer appends a record of the part's or of firmware's making (R418, R420): a record that finds the 64 KiB staging
buffer full is dropped and counted. -/
def State.append (s : State) (typ : Nat) (body : List Byte) : State :=
  if 65536 < s.folio.stagedBytes + 16 + body.length then
    s.modFolio fun f => { f with dropped := f.dropped + 1, firstDrop := if f.dropped = 0 then f.next else f.firstDrop }
  else s.accept 4 typ body s.ot s.pcc

/-- A body padded with zero bytes to `n`. -/
def padTo (n : Nat) (l : List Byte) : List Byte := l ++ List.replicate (n - l.length) 0

/-- The four words of a fault-queue entry (Table 6.4). -/
def FaultEntry.words (e : FaultEntry) : List Nat :=
  [e.code + e.source * 2 ^ 16, e.dseq + e.count * 2 ^ 16, e.first.toNat, e.last.toNat]

/-- A FAULT record (R211, R215): kind 0 created, 1 removed, 2 storm begins, 3 storm ends. -/
def State.faultRecord (s : State) (d kind : Nat) (e : FaultEntry) : State :=
  s.append 0x09 (padTo 16 [BitVec.ofNat 8 d, BitVec.ofNat 8 kind] ++ e.words.flatMap fun w => beBytes 4 w)

end Sys2Proof.Machine
end

