-- ==== Sys2Proof/Machine/Flits.lean ====
section
/-! DEFINITION. Flits: their format, their check bits, the transfers they carry, the runs a transfer is cut into, and what a
receiver finds when bits arrive inverted (R198 to R203, Tables 6.1 and 6.2). -/

namespace Sys2Proof.Machine

/-- A flit: CK1, CK0, PH, D from bit 19 down (Table 6.1). -/
abbrev Flit := BitVec 20

/-- The bits of a half of a flit hold an odd number of ones: D[7:0], PH0 and CK0, or for `hi` D[15:8], PH1 and CK1 (R199). -/
def halfOdd (w : Flit) (hi : Bool) : Bool :=
  (List.range 8).foldl (fun p k => p ^^ w.getLsbD (8 * b2n hi + k)) (w.getLsbD (16 + b2n hi) ^^ w.getLsbD (18 + b2n hi))

/-- A receiver finds no error in a flit (R199). -/
def flitOk (w : Flit) : Bool := !halfOdd w false && !halfOdd w true

/-- The flit of two bytes, the earlier first, in a phase (R198, R199). -/
def flitOf (ph : Nat) (first second : Byte) : Flit :=
  let w : Flit := BitVec.ofNat 20 (2 ^ 16 * (ph % 4) + 256 * first.toNat + second.toNat)
  w ||| BitVec.ofNat 20 (2 ^ 18 * b2n (halfOdd w false) + 2 ^ 19 * b2n (halfOdd w true))

/-- The flits of a phase: two bytes each, a last single byte in D[15:8] (R200). -/
def flitsOf (ph : Nat) : List Byte → List Flit
  | [] => []
  | [a] => [flitOf ph a 0]
  | a :: b :: t => flitOf ph a b :: flitsOf ph t

/-- The bytes a flit carries, the earlier first. -/
def flitPair (w : Flit) : List Byte := [w.extractLsb' 8 8, w.extractLsb' 0 8]

/-- The first `n` bytes of a transfer: its length gives the count (R200). -/
def flitBytes (n : Nat) (l : List Flit) : List Byte := (l.flatMap flitPair).take n

/-- The bits that arrive inverted in flit `k`. -/
def flipOf (fl : List Flip) (k : Nat) : Flit :=
  fl.foldl (fun w x => if x.flit = k then w ^^^ x.bits else w) 0

/-- A transfer as it arrives, numbered from flit `k`. -/
def arriveFrom (fl : List Flip) : Nat → List Flit → List Flit
  | _, [] => []
  | k, w :: t => (w ^^^ flipOf fl k) :: arriveFrom fl (k + 1) t

/-- A transfer as it arrives. -/
def arrive (fl : List Flip) (l : List Flit) : List Flit := arriveFrom fl 0 l

/-- The first flit of a transfer that fails its check, numbered from `k`. -/
def firstBadFrom : Nat → List Flit → Option Nat
  | _, [] => none
  | k, w :: t => if flitOk w then firstBadFrom (k + 1) t else some k

/-- The first flit of an arrived transfer that fails its check. -/
def firstBad (l : List Flit) : Option Nat := firstBadFrom 0 l

/-- The bytes of a transfer in which no check failed, as they arrive; a change that no check bit sees goes through. -/
def arriveBytes (fl : List Flip) (ph : Nat) (l : List Byte) : List Byte :=
  flitBytes l.length (arrive fl (flitsOf ph l))

/-! ## Runs (R201, R203) -/

/-- The runs of a transfer of `len` bytes from address `a`: first address and length of each aligned 128-byte span. -/
def runsFrom : Nat → Nat → Nat → List (Nat × Nat)
  | 0, _, _ => []
  | fuel + 1, a, len =>
    if len = 0 then []
    else
      let k := min len (128 - a % 128)
      (a, k) :: runsFrom fuel (a + k) (len - k)

/-- The runs of a transfer. -/
def runsOf (a len : Nat) : List (Nat × Nat) := runsFrom (len / 128 + 2) a len

/-- An attempt of a run fails: some flit of its at most 64 arrives with an odd half. The check bits are linear in the flit, so
the inverted bits alone decide. -/
def attemptBad (fl : List Flip) : Bool := (firstBad (arrive fl (List.replicate 64 0))).isSome

end Sys2Proof.Machine

namespace Sys2Proof

open Sys2Proof.Machine

/-! ## What a frame and an own read meet -/

/-- The failed attempts of a run: each that fails is followed by another, up to the third (R203). -/
def RunErrors.fails (r : RunErrors) : Nat := min 3 (r.tries.takeWhile attemptBad).length

/-- Failed attempts on the runs of a transfer. -/
def runFails (l : List RunErrors) : Nat := (l.map RunErrors.fails).foldl (· + ·) 0

/-- A run failed its third attempt. -/
def runLost (l : List RunErrors) : Bool := l.any fun r => decide (r.fails = 3)

/-- The command and address flits of a frame as they are captured. -/
def HostFrame.captured (f : HostFrame) : List Flit := arrive f.capture (flitsOf 0 f.cmd ++ flitsOf 1 f.addr)

/-- Detection point 1: `some true` where a command flit failed its check, `some false` where only address flits did (R202,
R204). -/
def HostFrame.point1 (f : HostFrame) : Option Bool :=
  (firstBad f.captured).map fun k => decide (k < (flitsOf 0 f.cmd).length)

/-- Detection point 2: a write-data flit failed its check (R202). -/
def HostFrame.point2 (f : HostFrame) : Bool := (firstBad (arrive f.outbound (flitsOf 3 f.wdata))).isSome

/-- Detection point 3: the data byte at whose flit a check first failed (R44, R161). -/
def HostFrame.taintAt (f : HostFrame) : Option Nat :=
  (firstBad (arrive f.inbound (List.replicate (1 + (f.inbound.map Flip.flit).foldl max 0) 0))).map fun k => 2 * k

/-- The frame as the part takes it: what no check bit sees goes through (R199). -/
def HostFrame.received (f : HostFrame) : HostFrame :=
  let c := (flitsOf 0 f.cmd).length
  { f with
    cmd := if f.point1.isSome then f.cmd else flitBytes f.cmd.length (f.captured.take c)
    addr := if f.point1.isSome then f.addr else flitBytes f.addr.length (f.captured.drop c)
    wdata := if f.point2 then f.wdata else arriveBytes f.outbound 3 f.wdata
    flash := arriveBytes f.inbound 3 f.flash }

/-- Failed checks of an own read at detection point 4 (R202, R203). -/
def OwnRead.detections (r : OwnRead) : Nat := runFails r.runs

/-- An own read fails: a run failed its third attempt (R202). -/
def OwnRead.failed (r : OwnRead) : Bool := runLost r.runs

/-- Failed checks of a write round at detection point 11. -/
def CareRound.outDetections (r : CareRound) : Nat := runFails r.out

/-- A run of the care buffer failed its third attempt at point 11. -/
def CareRound.outFail (r : CareRound) : Bool := runLost r.out

end Sys2Proof
end

