-- ==== Sys2Proof/Machine/Operands.lean ====
section
/-! DEFINITION. The operand forms of the commands: a BAR0 address and its register (R16, R81, R126, R164, R197, R226, R269,
R298, R386, R443), and a host frame and its phases (R45 to R52, Tables 2.2 and 2.3). -/

namespace Sys2Proof.Machine

/-! ## Addresses -/

/-- The register of a map row at an offset. -/
def MapRow.hit (r : MapRow) (o : Nat) : Option Nat :=
  if r.base ≤ o ∧ (o - r.base) % r.stride = 0 ∧ (o - r.base) / r.stride < r.count then
    some (r.first + (o - r.base) / r.stride)
  else none

/-- Look an offset up in a map. -/
def lookupMap (l : List MapRow) (o : Nat) : Option (RegName × Nat × Nat) :=
  match l with
  | [] => none
  | r :: t => match r.hit o with
    | some i => some (r.name, i, r.count)
    | none => lookupMap t o

/-- The tree-descriptor register at an offset of the descriptor (R166). -/
def tdReg (q : Nat) : Option RegName :=
  match q with
  | 0x00 => some .TD_CFG
  | 0x04 => some .TD_BASE
  | 0x08 => some .TD_LEAVES
  | 0x0C => some .TD_VADDR
  | 0x10 => some .TD_CADDR
  | 0x14 => some .TD_REGION
  | 0x18 => some .TD_FLOOR
  | 0x1C => some .TD_VERSION
  | 0x20 => some .TD_STATE
  | 0x24 => some .TD_SWEEP
  | _ => none

/-- The care-region register at an offset of the region (R197). -/
def crReg (q : Nat) : Option RegName :=
  match q with
  | 0x00 => some .CR_CFG
  | 0x04 => some .CR_OPS
  | 0x08 => some .CR_OPS2
  | 0x0C => some .CR_BASE
  | 0x10 => some .CR_COUNT
  | 0x14 => some .CR_GADDR
  | 0x18 => some .CR_SCRUB
  | 0x1C => some .CR_REFRESH
  | 0x20 => some .CR_ENDUR
  | 0x24 => some .CR_STATE
  | _ => none

/-- A word of a forme window, staging or active mirror (R126): `OPC` and `SLUG` at index ((2d + mirror) × 32 + f) × 512 + w,
where w is 0 to 63 for opcode words and 64 + 4s + j for slug words. -/
def formeReg (d : Nat) (mirror : Bool) (o : Nat) : Option Reg :=
  let f := o / 0x800
  let w := o % 0x800 / 4
  let i := ((2 * d + b2n mirror) * 32 + f) * 512 + w
  if f < 32 ∧ o % 0x800 < 0x100 then some ⟨.OPC, i⟩
  else if f < 32 ∧ o % 0x800 < 0x500 then some ⟨.SLUG, i⟩
  else none

/-- The register at an offset of a die window. -/
def dieReg (d o : Nat) : Option Reg :=
  if o < 0x8000 then
    match lookupMap channelMap (o % 0x1000) with
    | some (n, k, c) => some ⟨n, (d * 8 + o / 0x1000) * c + k⟩
    | none => none
  else if 0x41000 ≤ o ∧ o < 0x51000 then formeReg d false (o - 0x41000)
  else if 0x51000 ≤ o ∧ o < 0x61000 then formeReg d true (o - 0x51000)
  else if 0x90000 ≤ o ∧ o < 0x98000 then
    let t := (o - 0x90000) / 0x80
    let q := (o - 0x90000) % 0x80
    if 0x30 ≤ q ∧ q < 0x60 then some ⟨.TD_ROOT, (d * 256 + t) * 12 + (q - 0x30) / 4⟩
    else (tdReg q).map fun n => ⟨n, d * 256 + t⟩
  else if 0xB0000 ≤ o ∧ o < 0xB0800 then
    (crReg ((o - 0xB0000) % 0x40)).map fun n => ⟨n, d * 32 + (o - 0xB0000) / 0x40⟩
  else match lookupMap dieMap o with
    | some (n, k, c) => some ⟨n, d * c + k⟩
    | none => none

/-- Where BAR2 begins in the model's one address space: function page f lies at this base + 0x1000 × f
(notes/assumptions/8.md). -/
def bar2Base : Nat := 2 ^ 32

/-- The register of a function page at an offset (Table 12.3). -/
def pageReg (f o : Nat) : Option Reg :=
  match o with
  | 0x800 => some ⟨.FN_ASQ_LO, f⟩
  | 0x804 => some ⟨.FN_ASQ_HI, f⟩
  | 0x808 => some ⟨.FN_ACQ_LO, f⟩
  | 0x80C => some ⟨.FN_ACQ_HI, f⟩
  | 0x810 => some ⟨.FN_ASIZE, f⟩
  | 0x814 => some ⟨.FN_ACTRL, f⟩
  | _ =>
    if o < 0x800 ∧ o % 16 = 0 then some ⟨.SQ_TAIL, f * 128 + o / 16⟩
    else if o < 0x800 ∧ o % 16 = 8 then some ⟨.CQ_HEAD, f * 128 + o / 16⟩
    else none

/-- The register at an aligned BAR0 (or BAR2) address; none where nothing is listed. -/
def decodeAddr (a : Nat) : Option Reg :=
  if a < 0x100000 then
    match lookupMap globalMap a with
    | some (n, k, _) => some ⟨n, k⟩
    | none => none
  else if a < 0x900000 then dieReg (a / 0x100000 - 1) (a % 0x100000)
  else if bar2Base ≤ a ∧ a < bar2Base + 0x100000 then pageReg ((a - bar2Base) / 0x1000) ((a - bar2Base) % 0x1000)
  else none

/-- The die whose window holds an address; none for the package registers. -/
def windowDie (a : Nat) : Option Nat :=
  if 0x100000 ≤ a ∧ a < 0x900000 then some (a / 0x100000 - 1) else none

/-! ## Shapes (R46 to R48) -/

/-- The shape entry of an opcode on a channel (R47). -/
def State.shape (s : State) (ch op : Nat) : Nat := (s.rd .SHAPE_ENTRY (ch * 256 + op)).toNat

def shDir (e : Nat) : Nat := bitsOf e 0 2
def shAddr (e : Nat) : Nat := bitsOf e 2 3
def shAw (e : Nat) : Nat := bitsOf e 5 2
def shDw (e : Nat) : Nat := bitsOf e 7 2
def shDummy (e : Nat) : Nat := bitsOf e 9 5
def shCrm (e : Nat) : Bool := bitOf e 14
def shModesw (e : Nat) : Nat := bitsOf e 15 2
def shNext (e : Nat) : Nat := bitsOf e 17 2
def shStatus (e : Nat) : Bool := bitOf e 19
def shReset (e : Nat) : Bool := bitOf e 20
def shLagc (e : Nat) : Bool := bitOf e 21

/-- A frame of the shape is DIR = READ. -/
def shRead (e : Nat) : Bool := decide (shDir e = 1)

/-- The lanes of the shape match a protocol of Table 2.2 in command protocol 1S; in the others every entry does (R46). -/
def shapeLanesOk (proto e : Nat) : Bool :=
  decide (proto ≠ 0) || decide (shAddr e = 0) || decide (shDir e = 0) ||
  decide (shAw e = 0) || decide (shAw e = shDw e)

/-- An UNKNOWN shape: DIR = UNKNOWN, an ADDR value of no meaning, or unsupported lanes (R46, R47). -/
def shapeUnknown (proto e : Nat) : Bool :=
  decide (shDir e = 3) || decide (4 ≤ shAddr e) || !shapeLanesOk proto e

/-- Bytes of the command phase (R46). -/
def cmdBytes (proto : Nat) : Nat := if proto = 3 then 2 else 1

/-- Bytes of the address phase (R46, Table 2.3). -/
def addrBytes (proto e : Nat) (addr4 : Bool) : Nat :=
  if shAddr e = 0 then 0
  else if proto = 3 then 4
  else match shAddr e with
    | 1 => 3
    | 2 => 4
    | _ => if addr4 then 4 else 3

/-- Length of the command phase in he (Table 2.2). -/
def cmdHe (proto : Nat) : Nat :=
  match proto with
  | 0 => 16
  | 1 => 4
  | _ => 2

/-- Length of a byte of a phase with lane code `lanes`, in he (Table 2.2). -/
def byteHe (proto lanes : Nat) : Nat :=
  match proto with
  | 0 => 16 / 2 ^ lanes
  | 1 => 4
  | 2 => 2
  | _ => 1

/-- Length of the address phase in he. -/
def addrHe (proto e : Nat) (addr4 : Bool) : Nat := addrBytes proto e addr4 * byteHe proto (shAw e)

/-- The F-side position D of the first read data in SCK mode 0 (R48). -/
def dataPos (proto e : Nat) (addr4 crm : Bool) : Nat :=
  (if crm then 0 else cmdHe proto) + addrHe proto e addr4 + 2 * shDummy e + b2n (decide (proto = 3))

/-- In SCK mode 3 every edge position is one greater; it applies in command protocol 1S (R46). -/
def State.sckShift (s : State) (n : Nat) : Nat :=
  b2n (decide (s.getF Fld.CH_PROTO_CUR n = 0) && s.flag Fld.CH_CTRL_SCK_MODE n)

/-- The F-side position D of a frame with this shape entry on a channel (R46, R48). -/
def State.readPos (s : State) (n e : Nat) : Nat :=
  dataPos (s.getF Fld.CH_PROTO_CUR n) e (s.flag Fld.CH_PROTO_ADDR4 n) (s.flag Fld.CH_PROTO_CRM_ARMED n) + s.sckShift n

/-- The H-side position at which the host expects its first data (R67). -/
def State.launchPos (s : State) (n e : Nat) (retimed : Bool) : Nat :=
  s.readPos n e + (if retimed && shLagc e then 6 else 0)

/-- The spoil pulse form of a frame by the lanes of its last phase (Table 2.5). The last phase is the last the shape has: of a
WRITE frame the data phase, whether or not a byte of it was clocked (notes/assumptions/125.md). -/
def spoilForm (proto e : Nat) : FEnd :=
  if proto = 3 then .spoilByte
  else if proto = 2 then .spoilSckHigh
  else if proto = 1 then .spoilBits
  else
    let lanes := if shDir e ≠ 0 then shDw e else if shAddr e ≠ 0 then shAw e else 0
    if lanes = 3 then .spoilSckHigh else .spoilBits

/-! ## Lanes and pins (R41, R43, R55, R60, Table 2.1) -/

/-- Lanes of a phase with lane code `code` (Table 2.2). -/
def laneCount (proto code : Nat) : Nat :=
  match proto with
  | 0 => 2 ^ code
  | 1 => 4
  | _ => 8

/-- The HDQ lanes that carry read data, from the most significant bit down (R60). -/
def hdqLanes (lanes : Nat) : List Nat := if lanes = 1 then [1] else (List.range lanes).reverse

/-- The level of an idle FDQ2 or FDQ3. -/
def Pin.level (b : Bool) : Pin := if b then .high else .low

/-- FDQ0 to FDQ7 in a phase with these lanes: `p` on the lanes that carry it; FDQ2 and FDQ3 at their idle levels outside a phase
of four or more lanes, and FDQ[7:4] undriven outside a phase of eight (R43). On one lane the flash answers on FDQ1. -/
def fdqLines (p : Pin) (lanes : Nat) (idle2 idle3 : Bool) : List Pin :=
  (if p = .input then [.input, .input] else if lanes ≤ 1 then [p, .input] else [p, p]) ++
  (if 4 ≤ lanes then [p, p] else [Pin.level idle2, Pin.level idle3]) ++
  List.replicate 4 (if 8 ≤ lanes then p else .floats)

/-- What the phases of a frame on the F side are made of: how outbound lanes are driven, the idle levels, the protocol and the
shape entry. -/
structure Framing where
  pin : Pin
  idle2 : Bool
  idle3 : Bool
  proto : Nat
  e : Nat
  deriving DecidableEq, Repr

/-- One phase. -/
def Framing.phase (w : Framing) (k : PhaseKind) (code : Nat) (bytes : List Byte) : FPhase :=
  let lanes := match k with
    | .dummy | .undriven => 0
    | _ => laneCount w.proto code
  { kind := k, lanes := lanes, ddr := decide (w.proto = 3), bytes := bytes,
    fdq := match k with
      | .undriven => List.replicate 8 .floats
      | .dummy | .read => fdqLines .input lanes w.idle2 w.idle3
      | _ => fdqLines w.pin lanes w.idle2 w.idle3 }

/-- The phases of a frame up to its data phase. -/
def Framing.head (w : Framing) (cmd addr : List Byte) (mode : Option Byte) : List FPhase :=
  (if cmd = [] then [] else [w.phase .command 0 cmd]) ++
  (if shAddr w.e = 0 then [] else [w.phase .address (shAw w.e) addr]) ++
  (match mode with
    | some b => if shCrm w.e then [w.phase .mode (shAw w.e) [b]] else []
    | none => []) ++
  (if shDummy w.e = 0 then [] else [w.phase .dummy 0 []])

/-- The phases of a whole frame: with the data phase its shape has (R46). -/
def Framing.all (w : Framing) (cmd addr : List Byte) (mode : Option Byte) (data : List Byte) : List FPhase :=
  w.head cmd addr mode ++
  (match shDir w.e with
    | 1 => [w.phase .read (shDw w.e) []]
    | 2 => [w.phase .write (shDw w.e) data]
    | _ => [])

/-- The framing of host frames on a channel: the F side follows the H side (R43, R55). -/
def State.hostFraming (s : State) (n e : Nat) : Framing :=
  { pin := .copies, idle2 := s.flag Fld.CH_TIMING_DQ2_IDLE n, idle3 := s.flag Fld.CH_TIMING_DQ3_IDLE n,
    proto := s.getF Fld.CH_PROTO_CUR n, e := e }

/-- The framing of own frames of an opcode: from its shape entry, in CH_OWN.PROTO (R473). -/
def State.ownFraming (s : State) (n op : Nat) : Framing :=
  { pin := .drives, idle2 := s.flag Fld.CH_TIMING_DQ2_IDLE n, idle3 := s.flag Fld.CH_TIMING_DQ3_IDLE n,
    proto := s.getF Fld.CH_OWN_PROTO n, e := s.shape n op }

/-- The phases of an own frame (R50, R473): in 8D the command has its extension byte, and an ADDR of 0b011 gives the width that
CH_PROTO.ADDR4 holds. -/
def State.ownPhases (s : State) (n op addr : Nat) (data : List Byte) : List FPhase :=
  let w := s.ownFraming n op
  let b := BitVec.ofNat 8 op
  let ext := if s.flag Fld.CH_PROTO_EXT_INV n then ~~~ b else b
  w.all (if w.proto = 3 then [b, ext] else [b]) (beBytes (addrBytes w.proto w.e (s.flag Fld.CH_PROTO_ADDR4 n)) addr) none data

/-- The pins of a channel between frames, by its effective state (Table 2.1, R43, R79). `frst` is set where CHn_FRST_N is
asserted; an idle clock is low in SCK mode 0 and high in mode 3. -/
def State.pinsOf (s : State) (n : Nat) (frst : Bool) : ChanPins :=
  match s.getF Fld.CH_STATUS_STATE_EFF n with
  | 0 => { hdq := .floats, hdqs := .floats, fsck := .floats, fcs0 := .floats, fcs1 := .floats,
           fdq := List.replicate 8 .floats, frst := .floats }
  | st =>
    { hdq := .input, hdqs := .floats
      fsck := if st = 1 then Pin.level (decide (s.sckShift n = 1)) else .copies
      fcs0 := .high, fcs1 := .high
      fdq := fdqLines .input 1 (s.flag Fld.CH_TIMING_DQ2_IDLE n) (s.flag Fld.CH_TIMING_DQ3_IDLE n)
      frst := Pin.level (!frst) }

/-! ## Op classes (Table 3.3) -/

/-- The class's granules are evaluated: 0 none, 1 the start granule or its own extent. -/
def classGranules (c : Nat) : Bool :=
  decide (c = 1) || (decide (5 ≤ c) && decide (c ≤ 0xB))

/-- The DIR values a class allows. -/
def classDirOk (c dir : Nat) : Bool :=
  match c with
  | 0x0 | 0x6 | 0x7 | 0x8 | 0x9 | 0xA | 0xB | 0xE => decide (dir = 0)
  | 0x1 | 0x2 | 0x3 => decide (dir = 1)
  | 0x4 => decide (dir = 0) || decide (dir = 2)
  | 0x5 | 0xC => decide (dir = 2)
  | _ => true

/-- The class arms shadow status when a frame of it is spoiled (Table 3.3); `read` is DIR = READ. -/
def classArms (c : Nat) (read : Bool) : Bool :=
  match c with
  | 0x4 | 0x5 | 0x6 | 0x7 | 0x8 | 0x9 | 0xB => true
  | 0xD => !read
  | _ => false

end Sys2Proof.Machine
end

