-- ==== Sys2Proof/Machine/Formes.lean ====
section
/-! DEFINITION. The forme engine: opcode tables, slugs, granules and verdicts in two lanes (R83 to R106), and the bindings
and banks that govern a channel through a policy epoch switch (R112, R115). -/

namespace Sys2Proof.Machine

/-! ## Banks and bindings -/

/-- Index of a bank word: die, lane, forme, word. -/
def bankIx (d lane f w : Nat) : Nat := ((2 * d + lane) * 32 + f) * 512 + w

/-- The bank that governs a channel now: of the new epoch once the channel has taken the switch (R115). -/
def State.govBank (s : State) (ch : Nat) : RegName := if (s.ch ch).took then .FM_NXT else .FM_ACT

/-- The binding that governs a channel now, in a lane. -/
def State.govBind (s : State) (ch lane : Nat) : Nat :=
  (s.rd (if (s.ch ch).took then .BIND_NXT else .BIND_ACT) (2 * ch + lane)).toNat

def bindForme (b : Nat) : Nat := bitsOf b 0 5
def bindWrap (b : Nat) : Nat := bitsOf b 16 6
def bindMap (b : Nat) : Nat := bitsOf b 22 2
def bindBlkpg (b : Nat) : Bool := bitOf b 24

/-- The binding selects an SPI-NAND map (R97). -/
def bindNand (b : Nat) : Bool := decide (bindMap b = 1) || decide (bindMap b = 2)

/-- The page size P of the map (R97). -/
def bindPage (b : Nat) : Nat := if bindMap b = 2 then 4096 else 2048

/-- The granules below 2^WRAP. -/
def wrapGranules (b : Nat) : Nat := 2 ^ (bindWrap b - 12)

/-- The channel's binding is quoined: its effective forme is quoined (R121). -/
def State.quoined (s : State) (ch : Nat) : Bool :=
  bitOf (s.rd .FM_QUOIN_EFF (ch / 8)).toNat (bindForme (s.rd .BIND_ACT (2 * ch)).toNat)

/-! ## Slugs and granule verdicts -/

/-- A slug as its four words spell it (Table 3.4). -/
structure Slug where
  start : Nat
  stop : Nat
  verdict : Nat
  wit : Bool
  tree : Nat
  valid : Bool
  mask : Nat
  tag : Nat
  deriving DecidableEq, Repr

/-- The slug that four words spell. -/
def slugOf (w0 w1 w2 w3 : Nat) : Slug :=
  { start := bitsOf w0 0 20, stop := bitsOf w1 0 20, verdict := bitsOf w0 20 3, wit := bitOf w0 23,
    tree := bitsOf w0 24 8, valid := bitOf w1 31, mask := bitsOf w2 0 16, tag := bitsOf w3 0 16 }

/-- The slug a lane takes when the check of one of its words fails (Table 6.3, point 10). -/
def slugBad : Slug :=
  { start := 0, stop := 0xFFFFF, verdict := 6, wit := false, tree := 0, valid := true, mask := 0xFFFF, tag := 0 }

/-- One forme in one lane, as the frame sees it. -/
structure LaneView where
  bank : RegName
  die : Nat
  lane : Nat
  forme : Nat
  /-- Words of the forme whose check fails in this lane. -/
  bad : List Nat
  deriving DecidableEq, Repr

/-- A word of the lane's bank. -/
def State.laneWord (s : State) (v : LaneView) (w : Nat) : Nat := (s.rd v.bank (bankIx v.die v.lane v.forme w)).toNat

/-- Slug k in the lane. -/
def State.laneSlug (s : State) (v : LaneView) (k : Nat) : Slug :=
  let b := 64 + 4 * k
  if mem b v.bad || mem (b + 1) v.bad || mem (b + 2) v.bad || mem (b + 3) v.bad then slugBad
  else slugOf (s.laneWord v b) (s.laneWord v (b + 1)) (s.laneWord v (b + 2)) (s.laneWord v (b + 3))

/-- The valid slugs of the lane, in index order, with their indexes. -/
def State.laneSlugs (s : State) (v : LaneView) : List (Nat × Slug) :=
  ((List.range 64).map fun k => (k, s.laneSlug v k)).filter fun p => p.2.valid

/-- The opcode-table entry of an opcode in the lane (R90). -/
def State.laneEntry (s : State) (v : LaneView) (op : Nat) : Nat :=
  if mem (op / 4) v.bad then 0x6F else bitsOf (s.laneWord v (op / 4)) (8 * (op % 4)) 8

/-- Op class of an entry. -/
def entryClass (e : Nat) : Nat := bitsOf e 0 4

/-- Default verdict of an entry. -/
def entryDefault (e : Nat) : Nat := bitsOf e 4 3

/-- What decided a frame, or one granule of it: the verdict code as read, the slug where one matched, and the granule it was
decided for; whether the code 0b111 was read for some granule (R86), and whether R100 gave some granule FILL. -/
structure Decision where
  code : Nat
  slug : Option Slug
  granule : Nat := 0
  seven : Bool := false
  outside : Bool := false
  deriving DecidableEq, Repr

/-- The code applied: 0b111 acts as REJECT (R86). -/
def Decision.verdict (d : Decision) : Nat := min d.code 6

/-- The TAG that decided (R125). -/
def Decision.tag (d : Decision) : Nat := match d.slug with
  | some k => k.tag
  | none => 0

/-- A slug matches a granule for a class (R93). -/
def Slug.covers (k : Slug) (c g : Nat) : Bool := decide (k.start ≤ g) && decide (g ≤ k.stop) && bitOf k.mask c

/-- The decision for a granule: the matching slug with the lowest index, else the default (R93). -/
def decideGranule (slugs : List (Nat × Slug)) (dflt c g : Nat) : Decision :=
  match slugs with
  | [] => { code := dflt, slug := none, granule := g, seven := decide (dflt = 7) }
  | (_, k) :: t =>
    if k.covers c g then { code := k.verdict, slug := some k, granule := g, seven := decide (k.verdict = 7) }
    else decideGranule t dflt c g

/-- The more restrictive of two decisions; the first where they are equal (R85, R93). What either of them read is kept. -/
def Decision.worse (a b : Decision) : Decision :=
  let d := if a.verdict < b.verdict then b else a
  { d with seven := a.seven || b.seven, outside := a.outside || b.outside }

/-- The most restrictive decision over a list of granules; of equal ones the first granule's (R93, R125). -/
def decideAll (f : Nat → Decision) (dflt : Nat) (gs : List Nat) : Decision :=
  match gs with
  | [] => { code := dflt, slug := none, seven := decide (dflt = 7) }
  | g :: t => t.foldl (fun a g => a.worse (f g)) (f g)

/-- Put a number into a rising list. -/
def insertNat (n : Nat) : List Nat → List Nat
  | [] => [n]
  | a :: t => if n < a then n :: a :: t else if n = a then a :: t else a :: insertNat n t

/-- Granules at which the decision over all granules below `n` can change, rising: the verdict is constant between them (R95).
`spans` are the first and the end granules of the proof trees that the slugs name (R100). -/
def breakpoints (slugs : List (Nat × Slug)) (spans : List Nat) (n : Nat) : List Nat :=
  (((slugs.flatMap fun p => [p.2.start, p.2.stop + 1]) ++ spans).filter fun g => decide (g < n)).foldr insertNat [0]

/-- An opcode is address-free in a lane (R102). -/
def State.laneAddrFree (s : State) (v : LaneView) (op : Nat) : Bool :=
  let e := s.laneEntry v op
  let c := entryClass e
  !classGranules c || decide (c = 9) ||
  (s.laneSlugs v).all fun p => !bitOf p.2.mask c || decide (p.2.verdict = entryDefault e)

/-! ## Granules of a frame (R94 to R97) -/

/-- The granules an operation of class c at reduced byte address a evaluates; `none` for ERASE_CHIP, which evaluates all. -/
def granulesOf (c b a : Nat) : Option (List Nat) :=
  match c with
  | 0x6 => some [a / 4096]
  | 0x7 => some ((List.range 8).map fun k => a / 32768 * 8 + k)
  | 0x8 =>
    if bindNand b then
      let blk := bindPage b * (if bindBlkpg b then 128 else 64)
      some ((List.range (blk / 4096)).map fun k => a / blk * (blk / 4096) + k)
    else some ((List.range 16).map fun k => a / 65536 * 16 + k)
  | 0x9 => none
  | _ => some [a / 4096]

/-- The byte address of a frame, before the reduction of R94 (R97 on SPI-NAND maps). `row` is the channel's cache row. -/
def frameByteAddr (c b : Nat) (addr : List Byte) (row : Option Nat) : Nat :=
  if bindNand b then
    if c = 1 then row.getD 0 + ofBe (addr.take 2)
    else if c = 0xA ∨ c = 0xB ∨ c = 8 then ofBe addr * bindPage b
    else ofBe addr
  else ofBe addr

/-- The reduction modulo 2^WRAP (R94). -/
def reduceAddr (b a : Nat) : Nat := a % 2 ^ bindWrap b

/-- The tree and leaf of a granule under a decision, or `none` where FILL and 0x2006 apply (R100). -/
def State.witnessLeaf (s : State) (ch : Nat) (dec : Decision) (g : Nat) : Option (Nat × Nat) :=
  match dec.slug with
  | none => none
  | some k =>
    let i := ch / 8 * 256 + k.tree
    let base := s.getF Fld.TD_BASE_BASE i
    if k.wit ∧ base ≤ g ∧ g < base + s.getF Fld.TD_LEAVES_LEAF_COUNT i then some (k.tree, g - base) else none

/-- FILL for a granule whose verdict is WITNESS or GALLEY where no leaf of a tree witnesses it (R100). -/
def State.leafed (s : State) (ch : Nat) (d : Decision) : Decision :=
  if (d.code = 1 ∨ d.code = 2) ∧ (s.witnessLeaf ch d d.granule).isNone then { d with code := 4, outside := true } else d

/-- A lane's decision for one granule. -/
def State.laneGranule (s : State) (ch : Nat) (v : LaneView) (op g : Nat) : Decision :=
  let e := s.laneEntry v op
  s.leafed ch (decideGranule (s.laneSlugs v) (entryDefault e) (entryClass e) g)

/-- The first and the end granules of the trees that witnessing slugs name. -/
def State.treeSpans (s : State) (d : Nat) (slugs : List (Nat × Slug)) : List Nat :=
  (slugs.filter fun p => decide (p.2.verdict = 1) || decide (p.2.verdict = 2)).flatMap fun p =>
    let i := d * 256 + p.2.tree
    let base := s.getF Fld.TD_BASE_BASE i
    [base, base + s.getF Fld.TD_LEAVES_LEAF_COUNT i]

/-- A lane's decision for a frame of an opcode at a reduced address; for a read, of its start granule. The verdict of ERASE_CHIP
is the one computed at the epoch switch, so a slug word that fails its check later does not change it (R95); only an
opcode-table word that fails takes the opcode out of the class. -/
def State.laneDecide (s : State) (ch : Nat) (v : LaneView) (b op a : Nat) : Decision :=
  let e := s.laneEntry v op
  let c := entryClass e
  let dflt := entryDefault e
  if !classGranules c then
    let d : Decision := { code := dflt, slug := none, seven := decide (dflt = 7) }
    if dflt = 2 then s.leafed ch d else d
  else match granulesOf c b a with
    | some gs =>
      let slugs := s.laneSlugs v
      decideAll (fun g => s.leafed ch (decideGranule slugs dflt c g)) dflt gs
    | none =>
      let slugs := s.laneSlugs { v with bad := [] }
      decideAll (fun g => s.leafed ch (decideGranule slugs dflt c g)) dflt
        (breakpoints slugs (s.treeSpans (ch / 8) slugs) (wrapGranules b))

/-- The lane's view of the forme that governs a channel. -/
def State.laneView (s : State) (ch lane : Nat) (bad : List Nat) : LaneView :=
  { bank := s.govBank ch, die := ch / 8, lane := lane, forme := bindForme (s.govBind ch lane), bad := bad }

/-- Both lanes' outcome for a frame (R106). -/
structure Verdict where
  /-- The verdict applied: the more restrictive of the two. -/
  code : Nat
  a : Nat
  b : Nat
  /-- Op class, and what decided, in the lane whose verdict is applied. -/
  cls : Nat
  dec : Decision
  /-- Some lane read the code 0b111 (R86). -/
  seven : Bool
  /-- Some lane gave a granule FILL under R100. -/
  outside : Bool
  deriving DecidableEq, Repr

/-- Put the two lanes together (R86, R106). -/
def joinLanes (ca cb : Nat) (da db : Decision) : Verdict :=
  let pickB := decide (da.verdict < db.verdict)
  { code := max da.verdict db.verdict, a := da.verdict, b := db.verdict, cls := if pickB then cb else ca,
    dec := if pickB then db else da, seven := da.seven || db.seven, outside := da.outside || db.outside }

/-- Words of a forme whose check fails in a lane: those of this frame, and those that stay failed (Table 6.3, point 10). -/
def State.badIn (s : State) (ch : Nat) (lane : Bool) (bad : List (Bool × Nat)) : List Nat :=
  let f := bindForme (s.govBind ch (b2n lane))
  ((bad.filter fun p => decide (p.1 = lane)).map fun p => p.2) ++
  (((s.die (ch / 8)).deadWords.filter fun w => decide (w.1 = (s.ch ch).took) && decide (w.2 / 512 = f)).map fun w => w.2 % 512)

/-- The verdict of a frame on a channel: opcode, address-phase bytes, failed words (R93, R106). -/
def State.verdictOf (s : State) (ch op : Nat) (addr : List Byte) (bad : List (Bool × Nat)) : Verdict :=
  let va := s.laneView ch 0 (s.badIn ch false bad)
  let vb := s.laneView ch 1 (s.badIn ch true bad)
  let ba := s.govBind ch 0
  let bb := s.govBind ch 1
  let ca := entryClass (s.laneEntry va op)
  let cb := entryClass (s.laneEntry vb op)
  let row := (s.ch ch).cacheRow
  joinLanes ca cb (s.laneDecide ch va ba op (reduceAddr ba (frameByteAddr ca ba addr row)))
    (s.laneDecide ch vb bb op (reduceAddr bb (frameByteAddr cb bb addr row)))

/-- The verdict of one granule of a read frame (R99). -/
def State.granuleVerdict (s : State) (ch op g : Nat) (bad : List (Bool × Nat)) : Verdict :=
  let va := s.laneView ch 0 (s.badIn ch false bad)
  let vb := s.laneView ch 1 (s.badIn ch true bad)
  joinLanes (entryClass (s.laneEntry va op)) (entryClass (s.laneEntry vb op)) (s.laneGranule ch va op g)
    (s.laneGranule ch vb op g)

/-- Both lanes find the opcode address-free (R102). -/
def State.addrFree (s : State) (ch op : Nat) (bad : List (Bool × Nat)) : Bool :=
  s.laneAddrFree (s.laneView ch 0 (s.badIn ch false bad)) op &&
  s.laneAddrFree (s.laneView ch 1 (s.badIn ch true bad)) op

/-- Record a lockstep disagreement (R106, FM_LSINFO). -/
def State.lockstep (s : State) (ch forme : Nat) (v : Verdict) : State :=
  if v.a = v.b then s
  else
    let d := ch / 8
    let s := s.fmFault ch forme 0x2003
    let s := if s.flag Fld.FM_LSINFO_VALID d then s
      else (((s.setF Fld.FM_LSINFO_CHANNEL d (ch % 8)).setF Fld.FM_LSINFO_VERDICT_A d v.a).setF
        Fld.FM_LSINFO_VERDICT_B d v.b).setF Fld.FM_LSINFO_VALID d 1
    s.setF Fld.FM_LSINFO_COUNT d (min (s.getF Fld.FM_LSINFO_COUNT d + 1) 0xFFFF)

/-- The detections of point 10: a report for each, the word rewritten from the other lane, or left failed (Table 6.3). -/
def State.point10 (s : State) (ch : Nat) (bad : List (Bool × Nat)) : State :=
  let d := ch / 8
  let f := bindForme (s.govBind ch 0)
  let s := bad.foldl (fun t _ => t.report d 0x510A d) s
  let both := bad.filter fun p => !p.1 && bad.any fun q => q.1 && decide (q.2 = p.2)
  let s := both.foldl (fun t _ => t.report d 0x520A d) s
  s.modDie d fun x => { x with deadWords := x.deadWords ++ (both.map fun p => ((s.ch ch).took, f * 512 + p.2)) }

end Sys2Proof.Machine
end

