-- ==== Sys2Proof/Machine/Responses.lean ====
section
/-! DEFINITION. Release plans, proof gates and the responses: which PCTL lines are released, what HOLD and RESTART do, how a
RESTART ends (R24, R152 to R162, R412, R423). -/

namespace Sys2Proof.Machine

/-! ## Lines -/

/-- Lockdown, or no crossed check since PLAT was released: HOLD reads 1 on every line (R412, R423). -/
def State.forcedHold (s : State) : Bool := s.flag Fld.GD_STATUS_LOCKED 0 || !s.flag Fld.GD_STATUS_CROSS_DONE 0

/-- Gate g reads OPEN. -/
def State.gateIsOpen (s : State) (g : Nat) : Bool := decide (s.getF Fld.PG_STATUS_STATE g = 1)

/-- Die d has stopped or cannot be reached, or has not been restored by a reset since it was lost (R24). -/
def State.lost (s : State) (d : Nat) : Bool :=
  (s.die d).inReset || !(s.die d).reachable || (s.die d).lostGates.isSome

/-- The lines that RP_CLIENT names for channel n. -/
def State.clientLines (s : State) (n : Nat) : List Nat :=
  numsBelow 32 fun k => bitOf (s.rd .RP_CLIENT n).toNat k

/-- Line k is held because its release plan depends on a channel of a lost die: RP_CLIENT names the line for such a channel, or
the line waits on a gate that had a tree there (R24). -/
def State.lostHold (s : State) (k : Nat) : Bool :=
  (List.range s.nDies).any fun d => s.lost d &&
    (((List.range 8).any fun c => bitOf (s.rd .RP_CLIENT (8 * d + c)).toNat k) ||
      decide ((s.rd .RP_GATES k).toNat &&& ((s.die d).lostGates.getD 0) ≠ 0))

/-- PCTL line k is released (R26, R152). -/
def State.released (s : State) (k : Nat) : Bool :=
  s.flag Fld.RP_LINE_REQUEST k && !s.flag Fld.RP_LINE_HOLD k && !s.flag Fld.RP_LINE_RESTART k &&
  !s.forcedHold && !s.lostHold k && s.platLive &&
  (List.range 32).all fun g => !bitOf (s.rd .RP_GATES k).toNat g || s.gateIsOpen g

/-- The client of channel n is held through PCTL: RP_CLIENT names lines and none is released (R71, R192). -/
def State.clientHeld (s : State) (n : Nat) : Bool :=
  decide (s.rd .RP_CLIENT n ≠ 0) && (s.clientLines n).all fun k => !s.released k

/-- The channels whose release plan names one of the lines of a mask, as a mask (Table 11.6). -/
def State.lineChannels (s : State) (lines : Nat) : Nat :=
  ((List.range 64).map fun n => if (s.rd .RP_CLIENT n).toNat &&& lines ≠ 0 then 2 ^ n else 0).foldl (· ||| ·) 0

/-- Set HOLD on every line of RP_CLIENT_n (R157, R159, R194, R215). -/
def State.holdLines (s : State) (n : Nat) : State :=
  let s' := s.forEach (s.clientLines n) fun s k => s.setFlag Fld.RP_LINE_HOLD k true
  s'.mark (s'.lineChannels (s.rd .RP_CLIENT n).toNat)

/-! ## Gates -/

/-- The trees (as 256 × die + tree) that belong to gate g (R152). A descriptor at its reset value belongs to none. -/
def State.gateTrees (s : State) (g : Nat) : List Nat :=
  (s.regs.filter fun e => decide (e.1.name = .TD_CFG) && decide (Fld.TD_CFG_GATE_EN.of e.2 = 1) &&
    decide (Fld.TD_CFG_GATE.of e.2 = g)).map fun e => e.1.i

/-- The channel of a tree (as 256 × die + tree). -/
def State.treeCh (s : State) (t : Nat) : Nat := 8 * (t / 256) + s.getF Fld.TD_CFG_CHANNEL t

/-- Gates with a tree on channel n. -/
def State.chGates (s : State) (n : Nat) : List Nat :=
  numsBelow 32 fun g => (s.gateTrees g).any fun t => decide (s.treeCh t = n)

/-- The PSNS level that arms gate g stands (R155). -/
def State.gateLevel (s : State) (g : Nat) : Bool :=
  decide (bitOf (s.getF Fld.GD_PSNS_FILTERED 0) (s.getF Fld.PG_CTRL_PSNS_SEL g) = s.flag Fld.PG_CTRL_PSNS_LVL g)

/-- A gate armed by level arms at any moment at which the level stands (R155). -/
def State.gateArm (s : State) (g : Nat) : State :=
  if s.getF Fld.PG_CTRL_ARM_SRC g = 1 ∧ s.gateLevel g then s.setFlag Fld.PG_STATUS_ARMED g true else s

/-- Change what a die keeps of a tree. -/
def Die.modTree (x : Die) (t : Nat) (f : Tree → Tree) : Die :=
  { x with trees := Tbl.set x.trees t (f (Tbl.get x.trees t Tree.reset)) Tree.reset }

/-- Gate g leaves OPEN: its trees need a new whole sweep (R153, TD_STATE.SWEEP_DONE). -/
def State.gateLeaves (s : State) (g : Nat) : State :=
  if s.gateIsOpen g then
    s.forEach (s.gateTrees g) fun s t =>
      (s.modDie (t / 256) fun x => x.modTree (t % 256) fun y => { y with preOk := false }).setFlag
        Fld.TD_STATE_SWEEP_DONE t false
  else s

/-- Move gate g to FAILED because a die that holds one of its trees is lost, unless MODE is 0b00; it stays ARMED, which only a
HOLD response ends (R155, R156). -/
def State.gateLost (s : State) (g : Nat) : State :=
  if s.getF Fld.PG_CTRL_MODE g = 0 then s else (s.gateLeaves g).setF Fld.PG_STATUS_STATE g 2

/-- A HOLD response moves gate g to FAILED and disarms it, unless MODE is 0b00 (R155, R159). -/
def State.gateFail (s : State) (g : Nat) : State :=
  if s.getF Fld.PG_CTRL_MODE g = 0 then s
  else (((s.gateLeaves g).setF Fld.PG_STATUS_STATE g 2).setFlag Fld.PG_STATUS_ARMED g false).gateArm g

/-- Move an OPEN gate to CLOSED; it stays ARMED (R160, step 2). -/
def State.gateClose (s : State) (g : Nat) : State :=
  if s.gateIsOpen g then (s.gateLeaves g).setF Fld.PG_STATUS_STATE g 0 else s

/-! ## Tree reports (R154) -/

/-- The open consumptions of tree t of die d. -/
def State.treeCons (s : State) (d t : Nat) : List Consumption :=
  (s.ch (s.treeCh (d * 256 + t))).cons.filter fun c => decide (c.tree = t)

/-- The later of two stamps, both not later than now. -/
def State.later (s : State) (a b : Word) : Word := if s.usSince a ≤ s.usSince b then a else b

/-- A response awaits a verdict on a channel (R153, R160). -/
def State.awaitsVerdict (s : State) (n : Nat) : Bool :=
  match (s.ch n).restart with
  | none => false
  | some r => decide (r.awaits ≠ []) || decide (r.stuck ≠ [])

/-- Die d reports the state of tree t to die 0 (R154). -/
def State.treeReport (s : State) (d t : Nat) : State :=
  if !s.reached d then s
  else
    let i := d * 256 + t
    let cons := s.treeCons d t
    let tr := Tbl.get (s.die d).trees t Tree.reset
    let rep : TreeReport :=
        { rooted := decide (s.getF Fld.TD_STATE_STATE i = 2), isOpen := decide (cons ≠ []),
          awaiting := s.awaitsVerdict (s.treeCh i), lastUs := s.later tr.deliveredUs tr.changedUs }
    { s with reports := Tbl.set s.reports i rep TreeReport.none }

/-- Every tree on a channel reports (R154). -/
def State.chReports (s : State) (n : Nat) : State :=
  let ts := (s.regs.filter fun e => decide (e.1.name = .TD_STATE) && decide (s.treeCh e.1.i = n)).map fun e => e.1.i
  s.forEach ts fun s t => s.treeReport (t / 256) (t % 256)

/-- A tree changes its state (R154). -/
def State.treeState (s : State) (d t st : Nat) : State :=
  let us := s.us
  let s := s.setF Fld.TD_STATE_STATE (d * 256 + t) st
  (s.modDie d fun x => x.modTree t fun y => { y with changedUs := us }).treeReport d t

/-! ## Responses (R159, R160) -/

/-- The more restrictive of two response codes, in the order RECORD, RESTART, HOLD (R159). -/
def respMax (a b : Nat) : Nat :=
  let rank (x : Nat) : Nat := match x with
    | 0 => 0
    | 1 => 2
    | _ => 1
  if rank a < rank b then b else a

/-- HOLD on channel n (R159). -/
def State.respHold (s : State) (n : Nat) : State :=
  (s.holdLines n).forEach (s.chGates n) fun s g => s.gateFail g

/-- RESTART on channel n, which awaits the verdicts named (R160, steps 1 to 3). -/
def State.respRestart (s : State) (n : Nat) (awaits : List Await) : State :=
  let lines := s.clientLines n
  let us := s.us
  let c := s.ch n
  let old := c.restart.getD { sinceUs := us, lines := 0, awaits := [], stuck := [] }
  let r : Restart :=
    { old with
      sinceUs := us
      lines := old.lines ||| (s.rd .RP_CLIENT n).toNat
      awaits := old.awaits ++ (awaits.filter fun a => !old.awaits.any fun b => decide (a = b)) }
  let s := s.setCh n { c with restart := some r }
  let s := s.forEach lines fun s k => s.setFlag Fld.RP_LINE_RESTART k true
  let s := s.setFlag Fld.WIT_CHSTAT_RESTARTING n true
  let s := s.mark (s.lineChannels (s.rd .RP_CLIENT n).toNat)
  ((s.forEach (s.chGates n) fun s g => s.gateClose g).countCh n 0x35 1).chReports n

/-- Apply a response code to channel n (R159). -/
def State.respond (s : State) (n code : Nat) (awaits : List Await) : State :=
  match code with
  | 0 => s
  | 1 => s.respHold n
  | _ => s.respRestart n awaits

/-- End the RESTART of channel n: clear the RESTART bits it set that no other RESTART still needs (R160, steps 4 and 5). -/
def State.restartEnd (s : State) (n : Nat) : State :=
  match (s.ch n).restart with
  | none => s
  | some r =>
    let s := (s.modCh n fun c => { c with restart := none }).setFlag Fld.WIT_CHSTAT_RESTARTING n false
    let others := (s.chans.filterMap fun p => p.2.restart).foldl (fun a x => a ||| x.lines) 0
    (s.forEach (numsBelow 32 fun k => bitOf r.lines k && !bitOf others k) fun s k =>
      s.setFlag Fld.RP_LINE_RESTART k false).chReports n

/-- Change the RESTART in progress on a channel. -/
def State.modRestart (s : State) (n : Nat) (f : Restart → Restart) : State :=
  s.modCh n fun c => { c with restart := c.restart.map f }

/-- A RESTART awaits the verdict of a consumption no more: it has been reported (R142, R160, step 3). -/
def State.awaitDone (s : State) (n : Nat) (seq : Word) : State :=
  s.modRestart n fun r => { r with awaits := r.awaits.filter fun a => match a with
    | .verdict q _ => decide (q ≠ seq)
    | .recovery _ => true }

/-- Media care's re-verification of a recovered block passes (R160, R193, step 10): it is awaited no more. -/
def State.recovered (s : State) (n g : Nat) : State :=
  s.modRestart n fun r =>
    { r with awaits := r.awaits.filter (fun a => decide (a ≠ .recovery g)), stuck := r.stuck.filter fun x => decide (x.1 ≠ g) }

/-- A sweep or a scrub step passes a block: a later verdict, which ends the wait on a block for which only such a one does
(R160, step 5). An awaited re-read, completion or recovery is waited for all the same. -/
def State.laterPass (s : State) (n g : Nat) : State :=
  s.modRestart n fun r => { r with stuck := r.stuck.filter fun x => decide (x.1 ≠ g) }

/-- Sequence number q follows w. -/
def seqAfter (w q : Word) : Bool := decide (0 < (q - w).toNat) && decide ((q - w).toNat < 2 ^ 31)

/-- A consumption of a block passes: a later verdict for a wait that began before it (R160, step 5). -/
def State.laterSeq (s : State) (n g : Nat) (seq : Word) : State :=
  s.modRestart n fun r => { r with stuck := r.stuck.filter fun x => decide (x.1 ≠ g) || !seqAfter x.2 seq }

/-- A recovery that the wait names moves among the blocks that only a later pass clears; `w` is WIT_CONSUMED. -/
def Restart.stick (g : Nat) (w : Word) (r : Restart) : Restart :=
  if r.awaits.any fun a => decide (a = .recovery g) then
    { r with awaits := r.awaits.filter (fun a => decide (a ≠ .recovery g)), stuck := r.stuck ++ [(g, w)] }
  else r

/-- No recovery will bring an awaited re-verification: only a later pass clears the bits (R160, step 5). -/
def State.awaitStuck (s : State) (n g : Nat) : State :=
  let w := s.rd .WIT_CONSUMED n
  s.modRestart n (Restart.stick g w)

/-- A hold request of a channel: TIMEOUT_HOLD or LATE_HOLD (R157). -/
def State.holdRequest (s : State) (n : Nat) : State := s.holdLines n

end Sys2Proof.Machine
end

