-- ==== Sys2Proof/Machine/Galley.lean ====
section
/-! DEFINITION. The galley, the digest cache, consumptions and hash jobs: the operations the witness commands share (R128 to
R150, R158, R161, R218 to R224). -/

namespace Sys2Proof.Machine

/-! ## Digests (R128) -/

/-- L(i): the leaf digest. -/
def leafMessage (rid i : Nat) (block : List Byte) : List Byte := 0x00 :: (beBytes 4 rid ++ beBytes 4 i ++ block)

/-- The message of node (l, j) over its group of eight child digests, 384 bytes. -/
def nodeMessage (rid l j : Nat) (group : List Byte) : List Byte :=
  0x01 :: (beBytes 4 rid ++ [BitVec.ofNat 8 l] ++ beBytes 4 j ++ group)

/-- SHA-384 as 48 bytes. -/
def hashOf (m : List Byte) : Digest := digestOf (Config.sha384 m)

/-- N(l): level sizes. -/
def levelSize (leaves : Nat) : Nat → Nat
  | 0 => leaves
  | l + 1 => ceilDiv (levelSize leaves l) 8

/-- DEPTH: the least D ≥ 1 with LEAF_COUNT ≤ 8^D. -/
def depthOf (leaves : Nat) : Nat :=
  if leaves ≤ 8 then 1 else if leaves ≤ 64 then 2 else if leaves ≤ 512 then 3 else if leaves ≤ 4096 then 4
  else if leaves ≤ 32768 then 5 else if leaves ≤ 262144 then 6 else 7

/-- Zero digests beyond N(l) in group k of level l (R128, R129): the 384 bytes the part uses. -/
def groupBytes (leaves l k : Nat) (raw : List Byte) : List Byte :=
  let have_ := min 8 (levelSize leaves l - 8 * k)
  sliceB raw 0 (48 * have_) ++ List.replicate (384 - 48 * have_) 0

/-- The root held in a descriptor. -/
def State.treeRoot (s : State) (i : Nat) : Digest :=
  (List.range 12).flatMap fun k => leBytes 4 (s.rd .TD_ROOT (i * 12 + k)).toNat

/-! ## Digest cache (R137) -/

/-- Key of a line. -/
def Line.isAt (x : Line) (t l k : Nat) : Bool := decide (x.tree = t) && decide (x.level = l) && decide (x.index = k)

/-- A trusted line. -/
def State.trusted (s : State) (d t l k : Nat) : Option Line :=
  (s.die d).cache.find? fun x => x.isAt t l k && x.trusted

/-- Entry e of a trusted group. -/
def Line.entry (x : Line) (e : Nat) : Digest := sliceB x.data (48 * (e % 8)) 48

/-- The digest that vouches for group k of level l: an entry of its trusted parent, or the root (R130). -/
def State.vouches (s : State) (d t l k : Nat) : Option Digest :=
  let i := d * 256 + t
  if l + 1 = s.getF Fld.TD_STATE_DEPTH i then some (s.treeRoot i)
  else (s.trusted d t (l + 1) (k / 8)).map fun p => p.entry k

/-- A group's bytes hash to the digest that vouches for it (R130). -/
def State.groupOk (s : State) (d t l k : Nat) (g : List Byte) : Bool :=
  match s.vouches d t l k with
  | none => false
  | some v => decide (hashOf (nodeMessage (s.rd .TD_REGION (d * 256 + t)).toNat (l + 1) k g) = v)

/-- Put a line into the cache, most recently used first; the least recently used line that `stays` does not keep makes room
(R137). -/
def cachePut (c : List Line) (stays : Line → Bool) (x : Line) : List Line :=
  let c := c.filter fun y => !y.isAt x.tree x.level x.index
  let c := if c.length < 2048 then c
    else match (c.zipIdx.reverse).find? fun p => !stays p.1 with
      | some p => c.eraseIdx p.2
      | none => c
  x :: c

/-- Levels pinned by a tree: the top PIN_LEVELS (R133, TD_CFG.PIN_LEVELS). -/
def State.pinnedLevel (s : State) (i l : Nat) : Bool :=
  decide (s.getF Fld.TD_STATE_DEPTH i ≤ l + s.getF Fld.TD_CFG_PIN_LEVELS i)

/-- A line is pinned: in the top PIN_LEVELS levels of a tree that is being loaded or ROOTED, as PIN_LEVELS stands, or in the top two of
the part's own image, which stands beside the 256 descriptors (R133, R137, R265). -/
def State.linePinned (s : State) (d : Nat) (x : Line) : Bool :=
  if 256 ≤ x.tree then decide (depthOf (s.getF Fld.XIP_LEAVES_LEAF_COUNT 0) ≤ x.level + 2)
  else
    let i := d * 256 + x.tree
    mem (s.getF Fld.TD_STATE_STATE i) [1, 2] && s.pinnedLevel i x.level

/-- The path of a leaf goes through a group (R130). -/
def onPath (leaf l k : Nat) : Bool := decide (leaf / 8 ^ (l + 1) = k)

/-- The leaves of a die whose verification is in progress, as tree and leaf: blocks in CAPTURE, FETCH or HASH, blocks that are
being read again, and the next leaf of a sweep or preload (R137, R139). -/
def State.verifying (s : State) (d : Nat) : List (Nat × Nat) :=
  let x := s.die d
  ((x.slots.filter fun y => decide (y.st ≠ .verified)).map fun y => (y.tree, y.leaf)) ++
  ((List.range 8).flatMap fun c => ((s.ch (8 * d + c)).cons.filter fun y => y.reread && y.verdict.isNone).map fun y =>
    (y.tree, y.granule - s.getF Fld.TD_BASE_BASE (d * 256 + y.tree))) ++
  (match x.wit with
    | some w => if w.op ≠ 1 ∧ w.next < w.stop then [(w.tree, w.next)] else []
    | none => [])

/-- A verification in progress holds a line: it lies on the path of its leaf (R137). -/
def State.lineHeld (s : State) (d : Nat) (x : Line) : Bool :=
  (s.verifying d).any fun p => decide (p.1 = x.tree) && onPath p.2 x.level x.index

/-- Cache a group that R130 trusts. -/
def State.cacheGroup (s : State) (d t l k : Nat) (g : List Byte) : State :=
  let line : Line := { tree := t, level := l, index := k, data := g, trusted := true }
  s.modDie d fun x => { x with cache := cachePut x.cache (fun y => s.linePinned d y || s.lineHeld d y) line }

/-- A verification uses a line: it is now the most recently used (R137). -/
def State.useLine (s : State) (d t l k : Nat) : State :=
  s.modDie d fun x => { x with cache := (x.cache.filter fun y => y.isAt t l k) ++ x.cache.filter fun y => !y.isAt t l k }

/-- Drop the lines that a test selects. -/
def State.cacheDrop (s : State) (d : Nat) (p : Line → Bool) : State :=
  s.modDie d fun x => { x with cache := x.cache.filter fun y => !p y }

/-- The group that vouches for a leaf is trusted in the cache (R130, R139). -/
def State.leafTrusted (s : State) (d t leaf : Nat) : Bool := (s.trusted d t 0 (leaf / 8)).isSome

/-- The groups that group k of level l lacks in the cache, from below its lowest trusted ancestor down to itself (R139). -/
def State.gaps (s : State) (d t l k : Nat) : List (Nat × Nat) :=
  let up := (List.range (s.getF Fld.TD_STATE_DEPTH (d * 256 + t) - l)).map fun m => (l + m, k / 8 ^ m)
  (up.takeWhile fun p => (s.trusted d t p.1 p.2).isNone).reverse

/-- The groups that a leaf's path lacks. -/
def State.pathGaps (s : State) (d t leaf : Nat) : List (Nat × Nat) := s.gaps d t 0 (leaf / 8)

/-- The entry a leaf's digest must equal (R130). -/
def State.leafEntry (s : State) (d t leaf : Nat) : Option Digest :=
  (s.trusted d t 0 (leaf / 8)).map fun g => g.entry leaf

/-- The leaf message of a block (R128). -/
def State.leafBytes (s : State) (d t leaf : Nat) (block : List Byte) : List Byte :=
  leafMessage (s.rd .TD_REGION (d * 256 + t)).toNat leaf block

/-- A block verifies as leaf i of tree t (R130). -/
def State.leafOk (s : State) (d t leaf : Nat) (block : List Byte) : Bool :=
  decide (s.getF Fld.TD_STATE_STATE (d * 256 + t) = 2) &&
  decide (s.leafEntry d t leaf = some (hashOf (s.leafBytes d t leaf block)))

/-! ## Galley slots (R140 to R142) -/

/-- The slot of a granule of a channel. -/
def State.slot (s : State) (n g : Nat) : Option Slot :=
  (s.die (n / 8)).slots.find? fun x => decide (x.ch = n) && decide (x.granule = g)

/-- Replace the slots of a die. -/
def State.setSlots (s : State) (d : Nat) (l : List Slot) : State := s.modDie d fun x => { x with slots := l }

/-- Put a slot at the front of its die's list: it is the most recently used. -/
def State.putSlot (s : State) (x : Slot) : State :=
  let d := x.ch / 8
  s.setSlots d (x :: ((s.die d).slots.filter fun y => decide (y.ch ≠ x.ch) || decide (y.granule ≠ x.granule)))

/-- Free the slot of a granule. -/
def State.freeSlot (s : State) (n g : Nat) : State :=
  s.setSlots (n / 8) ((s.die (n / 8)).slots.filter fun y => decide (y.ch ≠ n) || decide (y.granule ≠ g))

/-- Capture entries open on a die (R140). -/
def State.entries (s : State) (d : Nat) : Nat :=
  ((s.die d).slots.filter fun x => x.entry && decide (x.st ≠ .verified)).length

/-- Pinned slots of a die. -/
def State.pinnedSlots (s : State) (d : Nat) : Nat := ((s.die d).slots.filter fun x => x.pinned).length

/-- Make room for a slot: from FREE, else the least recently used VERIFIED slot that is not pinned (R141); none otherwise. -/
def State.takeSlot (s : State) (d : Nat) : Option State :=
  if (s.die d).slots.length < 2048 then some (s.count d 0x324 1)
  else match ((s.die d).slots.zipIdx.reverse).find? fun p => decide (p.1.st = .verified) && !p.1.pinned with
    | some p => some (((s.setSlots d ((s.die d).slots.eraseIdx p.2)).count d 0x324 1).count d 0x325 1)
    | none => none

/-- The block a capture entry or a read slot holds: host bytes where a host frame delivered them, read bytes elsewhere
(R146). -/
def Slot.block (x : Slot) : List Byte := (List.range 4096).map fun k => Tbl.get x.host k (byteAt x.own k)

/-- Runs of offsets below `stop` that no listed offset fills, as first offset and length; `at_` is the next offset. -/
def gapRuns (stop : Nat) : List Nat → Nat → List (Nat × Nat)
  | [], at_ => if at_ < stop then [(at_, stop - at_)] else []
  | k :: t, at_ => if at_ < k then (at_, k - at_) :: gapRuns stop t (k + 1) else gapRuns stop t (k + 1)

/-- Merge runs that fewer than 256 offsets separate (R146). -/
def mergeRuns : List (Nat × Nat) → List (Nat × Nat)
  | [] => []
  | (a, n) :: t =>
    match mergeRuns t with
    | [] => [(a, n)]
    | (b, m) :: rest => if b < a + n + 256 then (a, b + m - a) :: rest else (a, n) :: (b, m) :: rest

/-- The completion reads of an entry: its missing runs, merged (R146). -/
def Slot.missing (x : Slot) : List (Nat × Nat) := mergeRuns (gapRuns 4096 (x.host.map fun p => p.1) 0)

/-- Every byte of the entry is there. -/
def Slot.full (x : Slot) : Bool := decide (x.own ≠ []) || decide (4096 ≤ x.host.length)

/-! ## Consumptions (R143, R149) -/

/-- Open a consumption on a channel, with the next sequence number. -/
def State.openCons (s : State) (n g t : Nat) (v : Option WVerdict) : State × Word :=
  let seq := s.rd .WIT_CONSUMED n + 1
  let us := s.us
  let s := (s.wr .WIT_CONSUMED n seq).countCh n 0x3A 1
  let s := s.modDie (n / 8) fun x => x.modTree t fun y => { y with deliveredUs := us }
  (s.modCh n fun c => { c with cons := c.cons ++
    [{ seq := seq, granule := g, tree := t, verdict := v, firstUs := us, overdue := false, reread := false }] }, seq)

/-- Set the verdict of every open consumption of a granule that has none: those that await a tainted block's re-read, or those
of the capture entry. -/
def State.setVerdicts (s : State) (n g : Nat) (reread : Bool) (v : WVerdict) : State :=
  s.modCh n fun c => { c with cons := c.cons.map fun x =>
    if x.granule = g ∧ x.verdict = none ∧ x.reread = reread then { x with verdict := some v } else x }

/-- A consumption awaits the re-read verdict of a tainted granule (R161). -/
def State.rereadOpen (s : State) (n g : Nat) : Option Consumption :=
  (s.ch n).cons.find? fun c => decide (c.granule = g) && c.reread && c.verdict.isNone

/-- Whether a job is for a granule of a channel. -/
def Job.isFor (j : Job) (n g : Nat) : Bool := decide (j.ch = n) && decide (j.granule = g)

/-- Drop the job of a granule's slot. -/
def State.dropJob (s : State) (n g : Nat) : State :=
  s.modDie (n / 8) fun x => { x with jobs := x.jobs.filter fun k => !k.isFor n g || k.reread.isSome }

/-- Drop the job of a granule's re-read; the block is then to be read again. -/
def State.dropReread (s : State) (n g : Nat) : State :=
  s.modDie (n / 8) fun x => { x with jobs := x.jobs.filter fun k => !k.isFor n g || k.reread.isNone }

/-! ## Voids (R142) -/

/-- Drop the VERIFIED slot and void the capture entry of a granule (R142). A voided entry with delivered bytes ends VOID, and
the answer is then the response it calls for; one without ends WITHDRAWN. -/
def State.voidGranule (s : State) (n g : Nat) : Nat × State :=
  match s.slot n g with
  | none => (0, s)
  | some x =>
    let d := n / 8
    let s := s.freeSlot n g
    let s := s.dropJob n g
    if x.st = .verified ∨ !x.entry then (0, s)
    else if x.host = [] then (0, s.setVerdicts n g false .withdrawn)
    else
      let s := s.setVerdicts n g false .void
      (s.getF Fld.TD_CFG_FAIL_RESP (d * 256 + x.tree), (s.witFault d x.tree n 0x3006).markCh n)

/-- Void granules of a channel at one event: the most restrictive response applies once, with no awaited verdict (R142, R159). -/
def State.voidGranules (s : State) (n : Nat) (gs : List Nat) : State :=
  let r := gs.foldl (fun (a : Nat × State) g =>
    let x := a.2.voidGranule n g
    (respMax a.1 x.1, x.2)) (0, s)
  r.2.respond n r.1 []

/-- Void every slot of a channel whose granule a test selects. -/
def State.voidWhere (s : State) (n : Nat) (p : Nat → Bool) : State :=
  s.voidGranules n (((s.die (n / 8)).slots.filter fun x => decide (x.ch = n) && p x.granule).map fun x => x.granule)

/-! ## Hash jobs (R218 to R224) -/

/-- Jobs placed at a die that have no result yet: its own and those of other owners (HP_STATUS.QUEUED). -/
def State.jobsQueued (s : State) (d : Nat) : Nat :=
  ((s.die d).jobs.filter fun j => decide (j.executor = d) && j.result.isNone).length + (s.die d).guests.length

/-- A lane of a die is in service. -/
def State.laneOk (s : State) (d k : Nat) : Bool := bitOf (s.getF Fld.HP_STATUS_LANES_OK d) k

/-- A die with a lane in service. -/
def State.hasLanes (s : State) (d : Nat) : Bool := decide (s.getF Fld.HP_STATUS_LANES_OK d ≠ 0)

/-- A job holds lane k of a die. -/
def State.laneBusy (s : State) (d k : Nat) : Bool :=
  ((s.die d).jobs.any fun j => decide (j.executor = d) && j.result.isNone && decide (j.inLane = some k)) ||
  (s.die d).guests.any fun g => decide (g.started = some k)

/-- The lowest free lane of a die. -/
def State.freeLane (s : State) (d : Nat) : Option Nat := (List.range 4).find? fun k => s.laneOk d k && !s.laneBusy d k

/-- Hops round the ring between two dies. -/
def State.hops (s : State) (a b : Nat) : Nat :=
  let n := s.nDies
  min ((a + n - b) % n) ((b + n - a) % n)

/-- The die to spill to: the most free capacity, then the fewer hops, then the lower number (R218); never one whose lanes are
all out (R222), nor one whose fence is unacknowledged (R219). -/
def State.spillTarget (s : State) (d : Nat) : Option Nat :=
  let ok := numsBelow s.nDies fun e => decide (e ≠ d) && s.reached e && s.hasLanes e && decide (0 < (s.die e).advert) &&
    s.flag Fld.HP_CTRL_ACCEPT_EN e && !(s.die d).fences.any fun f => decide (f.executor = e)
  match ok with
  | [] => none
  | e :: t => some (t.foldl (fun a b =>
      if (s.die a).advert < (s.die b).advert ∨
        ((s.die a).advert = (s.die b).advert ∧ s.hops d b < s.hops d a) then b else a) e)

/-- The die a job of die d goes to: its own while a lane is free there; another where R218 calls for a spill, or where d has no
lane left (R222); otherwise its own queue. In a fence stall it stays (R221). -/
def State.jobPlace (s : State) (d : Nat) : Nat :=
  let depth := max 1 (s.getF Fld.HP_CTRL_SPILL_DEPTH d)
  let spill := !s.flag Fld.HP_STATUS_FENCE_STALL d && (s.freeLane d).isNone &&
    ((s.flag Fld.HP_CTRL_SPILL_EN d && decide (depth ≤ s.jobsQueued d)) || !s.hasLanes d)
  if spill then (s.spillTarget d).getD d else d

/-- Dispatch a job of die d for a block: its executor, the lane that takes it at once, and the guest's entry there. -/
def State.placeJob (s : State) (d n g gen : Nat) : Nat × Option Nat × State :=
  let e := s.jobPlace d
  let lane := s.freeLane e
  if e = d then (d, lane, s)
  else
    let guest : Guest := { owner := d, gen := gen, ch := n, granule := g, started := lane }
    let s := (s.count d 0x364 1).count e 0x365 1
    (e, lane, s.modDie e fun x => { x with guests := x.guests ++ [guest], advert := x.advert - 1 })

/-- Change the first member of a list that passes a test. -/
def modFirst {α : Type} (p : α → Bool) (f : α → α) : List α → List α
  | [] => []
  | x :: t => if p x then f x :: t else x :: modFirst p f t

/-- A lane of die e has come free: the oldest queued job of its own takes it, else the oldest queued guest. -/
def State.laneNext (s : State) (e : Nat) : State :=
  match s.freeLane e with
  | none => s
  | some k =>
    let mine (j : Job) : Bool := decide (j.executor = e) && j.result.isNone && j.inLane.isNone
    if (s.die e).jobs.any mine then
      s.modDie e fun x => { x with jobs := modFirst mine (fun j => { j with inLane := some k }) x.jobs }
    else match (s.die e).guests.find? fun g => g.started.isNone with
      | none => s
      | some g =>
        let it (j : Job) : Bool := j.isFor g.ch g.granule && decide (j.executor = e) && decide (j.gen = g.gen) && j.result.isNone
        let s := s.modDie e fun x =>
          { x with guests := modFirst (fun y => y.started.isNone) (fun y => { y with started := some k }) x.guests }
        s.modDie g.owner fun x => { x with jobs := modFirst it (fun j => { j with inLane := some k }) x.jobs }

/-- Place a job for a granule under PLACEGEN (R218, R219): for the block of its slot, or for a re-read. -/
def State.addJob (s : State) (n g : Nat) (reread : Option Slot) : State :=
  let d := n / 8
  let gen := s.getF Fld.HP_STATUS_PLACEGEN d
  let us := s.us
  let (e, lane, s) := s.placeJob d n g gen
  s.modDie d fun y => { y with jobs := y.jobs ++
    [{ ch := n, granule := g, gen := gen, executor := e, inLane := lane, lane := none, result := none, reread := reread, since := us }] }

/-- Send a complete block to hashing (R146): the slot enters HASH and a job is placed. -/
def State.toHash (s : State) (n g : Nat) : State :=
  match s.slot n g with
  | none => s
  | some x =>
    let s := (s.dropJob n g).putSlot { x with st := .hash, own := x.block }
    s.addJob n g none

/-! ## Failures of a leaf (R148, R158, R159) -/

/-- A leaf fails as FAIL or NODEFAIL: its fault, lease mark and FAIL_RESP (R148, R159). The fault 0x3002 of a NODEFAIL was
reported when its group failed. The recovery is the caller's. -/
def State.leafFails (s : State) (n g t : Nat) (node : Bool) : State :=
  let d := n / 8
  let s := if node then s else s.witFault d t n 0x3001
  let s := s.markCh n
  let s := s.respond n (s.getF Fld.TD_CFG_FAIL_RESP (d * 256 + t)) [.recovery g]
  if node then s.awaitStuck n g else s

end Sys2Proof.Machine
end

