-- ==== Sys2Proof/Machine/CareOps.lean ====
section
/-! DEFINITION. What media care and the other engines share: care regions and units, health records and the tally, the queue
of unit operations, cover, and the vault state (R178 to R194). -/

namespace Sys2Proof.Machine

/-! ## Regions and units (R184) -/

/-- Channel of a region (as 32 × die + region). -/
def State.regionCh (s : State) (r : Nat) : Nat :=
  let d := r / 32
  if s.flag Fld.CR_CFG_TREE_EN r then s.treeCh (d * 256 + s.getF Fld.CR_CFG_TREE r)
  else 8 * d + s.getF Fld.CR_CFG_CHANNEL r

/-- First granule of a region. -/
def State.regionBase (s : State) (r : Nat) : Nat :=
  if s.flag Fld.CR_CFG_TREE_EN r then s.getF Fld.TD_BASE_BASE (r / 32 * 256 + s.getF Fld.CR_CFG_TREE r)
  else s.getF Fld.CR_BASE_BASE r

/-- Blocks of a region. -/
def State.regionCount (s : State) (r : Nat) : Nat :=
  if s.flag Fld.CR_CFG_TREE_EN r then s.getF Fld.TD_LEAVES_LEAF_COUNT (r / 32 * 256 + s.getF Fld.CR_CFG_TREE r)
  else s.getF Fld.CR_COUNT_COUNT r

/-- A granule lies in a valid region. -/
def State.inRegion (s : State) (r n g : Nat) : Bool :=
  s.flag Fld.CR_CFG_VALID r && decide (s.regionCh r = n) && decide (s.regionBase r ≤ g) &&
  decide (g < s.regionBase r + s.regionCount r)

/-- The valid regions of a die that hold a granule of channel n, in number order. -/
def State.regionsAt (s : State) (n g : Nat) : List Nat :=
  ((List.range 32).map fun k => n / 8 * 32 + k).filter fun r => s.inRegion r n g

/-- Granules of the care unit of a region (CR_CFG.UNIT). -/
def State.unitSize (s : State) (r : Nat) : Nat :=
  match s.getF Fld.CR_CFG_UNIT r with
  | 0 => 1
  | 1 => 8
  | 2 => 16
  | _ =>
    let b := s.govBind (s.regionCh r) 0
    bindPage b * (if bindBlkpg b then 128 else 64) / 4096

/-- First granule of the unit that holds g. -/
def State.unitBase (s : State) (r g : Nat) : Nat := g - g % max 1 (s.unitSize r)

/-- The granules of a unit. -/
def State.unitGranules (s : State) (u : CareUnit) : List Nat :=
  (List.range (max 1 (s.unitSize u.region))).map fun k => u.base + k

/-- The tree and leaf that witness a granule of a region, where one does. -/
def State.witnessed (s : State) (r g : Nat) : Option (Nat × Nat) :=
  if s.flag Fld.CR_CFG_TREE_EN r ∧ s.regionBase r ≤ g ∧ g < s.regionBase r + s.regionCount r then
    some (s.getF Fld.CR_CFG_TREE r, g - s.regionBase r)
  else none

/-- The vault is BOUND, as the die sees it (R178, R179). -/
def State.bound (s : State) (d : Nat) : Bool := decide (s.getF Fld.MC_STATUS_VAULT d = 3)

/-! ## Vault devices (R168 to R175) -/

/-- A vault device, by port × 2 + DEV. -/
def vaultDev (port dev : Bool) : Nat := 2 * b2n port + b2n dev

/-- SOURCE bits [12] and [13] of a vault device (Table 6.5). -/
def vaultSource (v : Nat) : Nat := 0x1000 * (v / 2) + 0x2000 * (v % 2)

/-- The device is SPI-NAND (MC_VCFG.TYPE). -/
def State.vaultNand (s : State) (v : Nat) : Bool := decide (2 ≤ s.getF Fld.MC_VCFG_TYPE v)

/-- Bytes of a block of a vault device: an SPI-NAND block, or a 4 KiB NOR sector. -/
def State.vaultBlockBytes (s : State) (v : Nat) : Nat :=
  if s.vaultNand v then
    (if s.getF Fld.MC_VCFG_TYPE v = 3 then 4096 else 2048) * (if s.flag Fld.MC_VCFG_BLK128 v then 128 else 64)
  else 4096

/-- A weak copy of a vault block is to be repaired by vault refresh, while the vault is BOUND (R173, R175, R188). -/
def State.vaultWeak (s : State) (d v addr : Nat) : State :=
  let k := (v, addr / s.vaultBlockBytes v)
  if s.bound d ∧ !(s.die d).care.weak.any (fun x => decide (x = k)) then
    s.modDie d fun x => { x with care := { x.care with weak := x.care.weak ++ [k] } }
  else s

/-- The result of an attempt on a vault device: 0 failed, 1 good, 2 corrected at refresh level (R172, R173; Table 6.3, point 8).
An attempt on VLT1 fails while die 1 is in reset or out of reach (Table 7.4). -/
def State.attemptLevel (s : State) (v : Nat) (a : VaultAttempt) : Nat :=
  let field (b : Byte) : Nat := bitsOf b.toNat (s.getF Fld.MC_VCFG_ECC_LSB v) 2
  if a.data.isNone ∨ runLost a.runs ∨ (2 ≤ v ∧ !s.reached 1) then 0
  else if !s.vaultNand v then 1
  else if a.pages.any fun b => decide (field b ≠ 0) && decide (field b = s.getF Fld.MC_VCFG_ECC_UNC v) then 0
  else if a.pages.any fun b => decide (field b ≠ 0) && decide (s.getF Fld.MC_VCFG_ECC_REF v ≤ field b) then 2
  else 1

/-- The attempts that a vault read makes on a device: up to three, to the first that does not fail. -/
def State.attempts (s : State) (v : Nat) (l : VaultGet) : List VaultAttempt :=
  let none_ : VaultAttempt := { data := none }
  let l := (l ++ List.replicate 3 none_).take 3
  l.take (1 + (l.takeWhile fun a => decide (s.attemptLevel v a = 0)).length)

/-- The failed checks of an attempt on receipt, at the die of the port (R202, point 8). -/
def State.attemptChecks (s : State) (v : Nat) (a : VaultAttempt) : State :=
  let e := v / 2
  let s := s.forEach (List.range (runFails a.runs)) fun s _ => s.report e 0x5108 e
  if runLost a.runs then s.report e 0x5208 e else s

/-- The weak copy of a vault read is repaired by vault refresh, with 0x4005, while the vault is BOUND (R173). -/
def State.vaultRepair (s : State) (d v addr : Nat) : State :=
  if s.bound d then (s.vaultWeak d v addr).report d 0x4005 (vaultSource v) else s

/-- Attempts on one device alone: the bytes of the first that does not fail, and whether it was corrected at refresh level. -/
def State.vaultTry (s : State) (v : Nat) (l : VaultGet) : Option (List Byte × Bool) × State :=
  let l := s.attempts v l
  let good := l.find? fun a => decide (s.attemptLevel v a ≠ 0)
  (good.bind fun a => a.data.map fun b => (b, decide (s.attemptLevel v a = 2)), l.foldl (fun s a => s.attemptChecks v a) s)

/-- A vault read (R173): up to three attempts on the device and, where it is mirrored, three on the mirror; the bytes, and every
effect of the read. -/
def State.vaultGet (s : State) (d v addr : Nat) (l : VaultGet) : Option (List Byte) × State :=
  let used := (s.attempts v l).length
  let s := s.count d 0x353 1
  match s.vaultTry v l with
  | (some (b, weak), s) =>
    let s := s.count d 0x354 (used - 1)
    (some b, if weak then s.vaultRepair d v addr else s)
  | (none, s) =>
    if !s.flag Fld.MC_VCFG_MIRROR v then (none, (s.count d 0x354 (used - 1)).report d 0x4004 (vaultSource v))
    else
      let w := v ^^^ 2
      let used := used + (s.attempts w (l.drop 3)).length
      match s.vaultTry w (l.drop 3) with
      | (some (b, weak), s) =>
        let s := (s.count d 0x354 (used - 1)).vaultRepair d v addr
        (some b, if weak then s.vaultRepair d w addr else s)
      | (none, s) => (none, (s.count d 0x354 (used - 1)).report d 0x4004 (vaultSource v))

/-- One read of a vault device without its mirror: the mirror's copy of a group (R175). -/
def State.vaultMirror (s : State) (d w addr : Nat) (l : VaultGet) : Option (List Byte) × State :=
  let used := (s.attempts w l).length
  match (s.count d 0x353 1).vaultTry w l with
  | (some (b, weak), s) =>
    let s := s.count d 0x354 (used - 1)
    (some b, if weak then s.vaultRepair d w addr else s)
  | (none, s) => (none, (s.count d 0x354 (used - 1)).report d 0x4004 (vaultSource w))

/-- Logical address of group k of level l of a tree area (R129). -/
def groupAddr (vaddr leaves l k : Nat) : Nat :=
  vaddr + 512 * ((List.range l).map fun j => ceilDiv (levelSize leaves j) 8).foldl (· + ·) 0 + 512 * k

/-! ## Health records (R180 to R183) -/

/-- Key of a record. -/
def healthKey (n g : Nat) : Nat := n * 2 ^ 20 + g

/-- What a block that has no record reads as. -/
def Health.absent : Health :=
  { writtenOt := 0, erases := 0, reads := 0, scrubD := 0, eccLast := 0, assumed := false, failed := false, due := false,
    recoveries := 0, dirty := false }

/-- The record of a block, where it has one: as kept, else as made when a valid region first came to cover the block (R180,
R181). -/
def State.recordAt (s : State) (n g : Nat) : Option Health :=
  let c := (s.die (n / 8)).care
  let h := Tbl.get c.health (healthKey n g) Health.absent
  if h ≠ Health.absent then some h
  else (c.spans.find? fun x => decide (x.ch = n) && decide (x.first ≤ g) && decide (g < x.first + x.count)).map fun x =>
    { Health.absent with writtenOt := x.ot, assumed := true }

/-- The record of a block; a new one is made with WRITTEN_OT = OT and ASSUMED (R181). -/
def State.health (s : State) (n g : Nat) : Health :=
  (s.recordAt n g).getD { Health.absent with writtenOt := s.ot, assumed := true }

/-- Change media care's state of a die. -/
def State.modCare (s : State) (d : Nat) (f : Care → Care) : State := s.modDie d fun x => { x with care := f x.care }

/-- The span of a valid region, where it is new to the die (R180). -/
def State.spanOf (s : State) (r : Nat) : Option HealthSpan :=
  let x : HealthSpan := { ch := s.regionCh r, first := s.regionBase r, count := s.regionCount r, ot := s.ot }
  let known := (s.die (r / 32)).care.spans.any fun y =>
    decide (y.ch = x.ch) && decide (y.first ≤ x.first) && decide (x.first + x.count ≤ y.first + y.count)
  if s.flag Fld.CR_CFG_VALID r && !known && decide (0 < x.count) then some x else none

/-- Every granule of a valid region has a record: those of a region that has come to cover new ones are made (R180). -/
def State.makeRecords (s : State) (d : Nat) : State :=
  s.forEach ((List.range 32).map fun k => 32 * d + k) fun s r =>
    match s.spanOf r with
    | some x => s.modCare d fun c => { c with spans := c.spans ++ [x] }
    | none => s

/-- Dirty records of a die's tally. -/
def State.dirty (s : State) (d : Nat) : Nat := ((s.die d).care.health.filter fun p => p.2.dirty).length

/-- FAILED_OPEN of the regions of a die that hold a granule (CR_STATE). -/
def State.failedOpen (s : State) (n g : Nat) : State :=
  s.forEach (s.regionsAt n g) fun s r =>
    let any := (s.die (n / 8)).care.health.any fun p =>
      p.2.failed && decide (p.1 / 2 ^ 20 = n) && s.inRegion r n (p.1 % 2 ^ 20)
    s.setFlag Fld.CR_STATE_FAILED_OPEN r any

/-- Store a changed record; a change that finds the tally full is lost (R182). -/
def State.putHealth (s : State) (n g : Nat) (h : Health) : State :=
  let d := n / 8
  let k := healthKey n g
  let old := Tbl.get (s.die d).care.health k Health.absent
  if !old.dirty && decide (4096 ≤ s.dirty d) then
    (s.setFlag Fld.MC_STATUS_TALLY_LOST d true).report d 0x400D 0
  else
    let s := s.modCare d fun c => { c with health := Tbl.set c.health k { h with dirty := true } Health.absent }
    (s.setF Fld.MC_STATUS_TALLY d (s.dirty d)).failedOpen n g

/-- Queue a unit operation (R190): a queued unit merges, a recovery replaces a refresh, a full queue overflows. -/
def State.queueUnit (s : State) (d : Nat) (u : CareUnit) : State :=
  let q := (s.die d).care.queue
  let same (x : CareUnit) : Bool := decide (x.ch = u.ch) && decide (x.base = u.base) && decide (x.twin = u.twin) &&
    decide (s.unitSize x.region = s.unitSize u.region)
  if q.any same then
    let merge (x : CareUnit) : CareUnit :=
      if same x then { x with recovery := x.recovery || u.recovery, command := x.command || u.command } else x
    s.modCare d fun c => { c with queue := c.queue.map merge }
  else if 64 ≤ q.length then
    ((s.setFlag Fld.CR_STATE_OVERFLOW u.region true).mcFault d (u.region % 32) u.ch 0x400D).modCare d fun c =>
      { c with rescrub := if mem u.region c.rescrub then c.rescrub else c.rescrub ++ [u.region] }
  else s.modCare d fun c => { c with queue := c.queue ++ [u] }

/-- A block falls due for refresh: its unit is queued where REFRESH_EN is set (R189). -/
def State.makeDue (s : State) (r n g : Nat) : State :=
  let d := n / 8
  let s := s.putHealth n g { s.health n g with due := true }
  if s.flag Fld.MC_CTRL_REFRESH_EN d && s.bound d then
    s.queueUnit d { region := r, ch := n, base := s.unitBase r g, recovery := false, twin := false, command := false }
  else s

/-- Change the records of a granule of a valid region, then test the limits that its regions set (R189). -/
def State.touch (s : State) (n g : Nat) (f : Health → Health) : State :=
  let d := n / 8
  let rs := s.regionsAt n g
  if rs = [] then s
  else
    let h := f (s.health n g)
    let s := s.putHealth n g h
    let s := match rs.find? fun r => decide (s.getF Fld.CR_ENDUR_ERASE_WARN r ≤ h.erases) with
      | some r =>
        if mem (healthKey n g) s.vault.warned then s
        else { s.mcFault d (r % 32) n 0x4009 with vault := { s.vault with warned := s.vault.warned ++ [healthKey n g] } }
      | none => s
    let worn (r : Nat) : Bool :=
      let k := s.getF Fld.CR_REFRESH_READ_K r
      decide (k ≠ 0) && decide (k * 1000 ≤ h.reads) && !h.due
    match rs.find? worn with
    | some r => s.makeDue r n g
    | none => s

/-- A host erase completed at the flash (Table 5.3). -/
def State.healthErase (s : State) (n : Nat) (gs : List Nat) : State :=
  s.forEach gs fun s g => s.touch n g fun h => { h with erases := min (h.erases + 1) 0xFFFFFF, reads := 0 }

/-- The granules of a channel below `stop` that have records, in order. -/
def State.recorded (s : State) (n stop : Nat) : List Nat :=
  let rs := ((List.range 32).map fun k => n / 8 * 32 + k).filter fun r =>
    s.flag Fld.CR_CFG_VALID r && decide (s.regionCh r = n)
  if rs = [] then [] else numsBelow stop fun g => rs.any fun r => s.inRegion r n g

/-- A host program completed at the flash (Table 5.3). -/
def State.healthProgram (s : State) (n g : Nat) : State :=
  s.touch n g fun h => { h with writtenOt := s.ot, reads := 0, due := false, assumed := false }

/-- A host read that forwarded flash data reached its close: READS counts once for each granule it touched (Table 5.3). -/
def State.healthReads (s : State) (n : Nat) (gs : List Nat) : State :=
  s.forEach gs.eraseDups fun s g => s.touch n g fun h => { h with reads := min (h.reads + 1) 0xFFFFFFFF }

/-- The region under which a failed block is recovered, and whether R190 calls for that: first a region whose tree has
FAIL_RESP = RESTART, else any while AUTO = 1; of several, the one of the failing tree `t` before the lower number. -/
def State.recoveryRegion (s : State) (n g t : Nat) : Option (Nat × Bool) :=
  let d := n / 8
  let ofTree (r : Nat) : Bool := s.flag Fld.CR_CFG_TREE_EN r && decide (s.getF Fld.CR_CFG_TREE r = t)
  let restarts (r : Nat) : Bool :=
    s.flag Fld.CR_CFG_TREE_EN r && decide (s.getF Fld.TD_CFG_FAIL_RESP (d * 256 + s.getF Fld.CR_CFG_TREE r) = 2)
  let rs := (s.regionsAt n g).filter fun r => decide (s.getF Fld.CR_CFG_SOURCE r ≠ 0)
  let rs := rs.filter ofTree ++ rs.filter fun r => !ofTree r
  match rs.find? restarts with
  | some r => some (r, true)
  | none => rs.head?.map fun r => (r, s.flag Fld.MC_CTRL_AUTO d)

/-- A convicting failure falls on a block (R190): FAILED is set, and a recovery of its unit is queued where R190 calls for
one. A block in no region with a source reports 0x4002, and a RESTART that awaits it then waits for a later pass. -/
def State.convict (s : State) (n g t : Nat) : State :=
  let d := n / 8
  let s := s.touch n g fun h => { h with failed := true }
  match s.recoveryRegion n g t with
  | none => (s.report d 0x4002 (0x40 * (n % 8))).awaitStuck n g
  | some (r, call) =>
    if call && s.bound d then
      s.queueUnit d { region := r, ch := n, base := s.unitBase r g, recovery := true, twin := false, command := false }
    else s.awaitStuck n g

/-- A leaf ends FAIL (R148, R158): the failure, then its conviction. -/
def State.leafFail (s : State) (n g t : Nat) : State := (s.leafFails n g t false).convict n g t

/-- A leaf ends NODEFAIL (R148). -/
def State.leafNodeFail (s : State) (n g t : Nat) : State := s.leafFails n g t true

/-! ## Cover (R191, R194) -/

/-- EPOCH_MAP bit of a channel. -/
def State.epochBit (s : State) (n : Nat) : Bool :=
  if n < 32 then bitOf (s.rd .EPOCH_MAP_LO 0).toNat n else bitOf (s.rd .EPOCH_MAP_HI 0).toNat (n - 32)

/-- Every opcode of the channel's forme whose class arms shadow status gives REJECT on the granules, in one lane (R191). -/
def State.laneCovers (s : State) (n lane : Nat) (gs : List Nat) : Bool :=
  let v := s.laneView n lane (s.badIn n (decide (lane = 1)) [])
  let slugs := s.laneSlugs v
  (List.range 256).all fun op =>
    let e := s.laneEntry v op
    let c := entryClass e
    if !classArms c false || (decide (c = 0xD) && decide (shDir (s.shape n op) = 1)) then true
    else if !classGranules c then decide (6 ≤ entryDefault e)
    else gs.all fun g => decide (6 ≤ (decideGranule slugs (entryDefault e) c g).code)

/-- The unit is covered (R191). -/
def State.covered (s : State) (n : Nat) (gs : List Nat) : Bool :=
  s.epochBit n && s.laneCovers n 0 gs && s.laneCovers n 1 gs

/-- Units of a command that are still queued or running on a die. -/
def State.commandUnits (s : State) (d : Nat) : Bool :=
  (s.die d).care.queue.any (fun u => u.command) ||
  (match (s.die d).care.running with
    | some (u, _) => u.command
    | none => false)

/-- The pass of a region begins again at block 0. -/
def State.newPass (s : State) (r : Nat) : State :=
  (s.setF Fld.CR_STATE_CURSOR r 0).modCare (r / 32) fun c =>
    { c with passOt := Tbl.set c.passOt r s.ot 0, lates := c.lates.filter fun x => decide (x ≠ r) }

/-- A region to scrub whole is scrubbed once the queue is empty: from block 0, whatever its PERIOD_H (R190). -/
def State.rescrub (s : State) (d : Nat) : State :=
  let c := (s.die d).care
  if c.queue = [] ∧ c.rescrub ≠ [] then
    (s.forEach c.rescrub fun s r => s.newPass r).modCare d fun x =>
      { x with rescrub := [], scrubAll := (x.scrubAll.filter fun r => !mem r c.rescrub) ++ c.rescrub }
  else s

/-- The running unit operation ends with a RESULT; a command's status ends with its last unit, and shows its first RESULT
other than 0x0. -/
def State.unitEnds (s : State) (d result : Nat) : State :=
  match (s.die d).care.running with
  | none => s
  | some (u, _) =>
    let s := s.modCare d fun c => { c with running := none }
    let s := (s.setFlag Fld.MC_STATUS_BUSY d false).setF Fld.MC_STATUS_BUSY_REGION d 0
    let s := if u.command ∧ s.getF Fld.MC_CMD_STATUS_RESULT d = 0 then s.setF Fld.MC_CMD_STATUS_RESULT d result else s
    let s := if u.command ∧ !s.commandUnits d then
        (s.setFlag Fld.MC_CMD_STATUS_BUSY d false).setFlag Fld.MC_CMD_STATUS_DONE d true
      else s
    let s := if result = 0 then s else s.forEach (s.unitGranules u) fun s g => s.awaitStuck u.ch g
    s.rescrub d

/-- The channel took an epoch or entered ACTIVE while a unit is open: cover is tested again (R191, R194). -/
def State.coverCheck (s : State) (n : Nat) : State :=
  let d := n / 8
  match (s.die d).care.running with
  | some (u, .written _ _) =>
    if u.ch = n ∧ !s.covered n (s.unitGranules u) then
      let s := s.holdLines n
      ((s.mcFault d (u.region % 32) n 0x4003).mcFault d (u.region % 32) n 0x4001).unitEnds d 1
    else s
  | _ => s

/-- A granule of the unit whose journal entry is open: host reads of it receive fill (R192). -/
def State.unitFill (s : State) (n g : Nat) : Bool :=
  match (s.die (n / 8)).care.journal with
  | some u => decide (u.ch = n) && decide (u.base ≤ g) && decide (g < u.base + u.count)
  | none => false

/-- An own frame to a select is refused: the package has no flash on select 1 (R79). -/
def State.selRefused (s : State) (n : Nat) (sel : Bool) : Bool := sel && !s.flag Fld.CH_TWIN_PRESENT n

/-- A gap between host frames in which a yielding own frame may run (R71, R98): CHn_HCS_N has been high for IDLE_MIN. -/
def State.ownGap (s : State) (n : Nat) : Bool :=
  s.flag Fld.CH_OWN_YIELD n && s.flag Fld.CH_STATUS_MODE_EFF n && !bindNand (s.govBind n 0) &&
  decide (s.getF Fld.CH_OWN_IDLE_MIN n ≤ s.usSince (s.ch n).idleUs)

/-- Own frames may run on a select of a channel now (R23, R71, R79, R98): in ISOLATE at any time; in ACTIVE between host frames,
with the client held or in a yielding gap. -/
def State.ownMay (s : State) (n : Nat) (sel : Bool) : Bool :=
  let st := s.getF Fld.CH_STATUS_STATE_EFF n
  s.reached (n / 8) && !s.selRefused n sel &&
  (decide (st = 1) || (decide (st = 2) && !s.flag Fld.CH_STATUS_FRAME_OPEN n && (s.clientHeld n || s.ownGap n)))

/-- An own frame to the working select may open now: none is open. -/
def State.ownAllowed (s : State) (n : Nat) : Bool := (s.ch n).own.isNone && s.ownMay n (s.flag Fld.CH_TWIN_SEL n)

/-- The own frame may open now, or is the one that is open. -/
def State.ownTurn (s : State) (n : Nat) (o : OwnOpen) : Bool :=
  ((s.ch n).own.isNone || decide ((s.ch n).own = some o)) && s.ownMay n o.sel

/-- The read opcode of the channel's own reads (R473). -/
def State.ownReadOp (s : State) (n : Nat) : Nat :=
  let op := s.getF Fld.WIT_CHCFG_RD_OP n
  if op = 0 then 3 else op

/-- An own frame's opcode has an UNKNOWN shape in the own protocol (R473). -/
def State.ownUnknown (s : State) (n op : Nat) : Bool := shapeUnknown (s.getF Fld.CH_OWN_PROTO n) (s.shape n op)

/-- An own frame needed an UNKNOWN shape (R473). -/
def State.ownUnknownFault (s : State) (n : Nat) : State := s.chFault n 0x1003

/-- An own frame opens on the F side (R71, R473, Table 15.2). One that the part cut before is thereby reissued (R72); a status
poll reissues nothing. -/
def State.ownEmit (s : State) (n : Nat) (o : OwnOpen) (data : List Byte) : State :=
  let s := if o.poll then s else s.setFlag Fld.CH_STATUS_YIELDED n false
  (s.countCh n 0x36 1).emit (.ownFrame n o.sel o.op o.addr data (s.ownPhases n o.op o.addr data))

/-! ## Flash reset output (R76 to R78) -/

/-- Disarm it (R111). -/
def State.shadowDisarm (s : State) (n : Nat) : State :=
  (s.setFlag Fld.SS_CTRL_ARMED n false).setF Fld.SS_CTRL_PHASE n 0

/-- The part asserts CHn_FRST_N. -/
def Chan.frst (c : Chan) : Bool := c.frstPass || c.frstDefer || c.frstAssert

/-- Change what asserts CHn_FRST_N; at a rise of the assertion the shadow status disarms and the SPI-NAND cache row is
forgotten (R97, R111). In DISABLED the pin floats whatever asserts it (Table 2.1). -/
def State.setFrst (s : State) (n : Nat) (f : Chan → Chan) : State :=
  let old := (s.ch n).frst
  let s := s.modCh n f
  let new := (s.ch n).frst
  if old = new then s
  else
    let s := if s.getF Fld.CH_STATUS_STATE_EFF n = 0 then s else s.emit (.frst n new)
    if new then ((s.shadowDisarm n).modCh n fun c => { c with cacheRow := none }).countCh n 0x2B 1 else s

/-- A boundary: no host frame and no own frame is open (R78, R80, R81). -/
def State.idleCh (s : State) (n : Nat) : Bool :=
  !s.flag Fld.CH_STATUS_FRAME_OPEN n && !s.flag Fld.CH_STATUS_OWN_OPEN n

/-- A pending write of CH_RESET.ASSERT takes effect at a boundary (R78). -/
def State.assertApply (s : State) (n : Nat) : State :=
  if (s.ch n).assertPend ∧ s.live (n / 8) ∧ s.idleCh n then
    (s.setFrst n fun c => { c with assertPend := false, frstAssert := true }).setFlag Fld.CH_RESET_ASSERT n true
  else s

/-! ## Own frames -/

/-- An own frame runs to its end: the one that is open, or a new one. At the close a pending write of CH_RESET.ASSERT takes effect
(R78). -/
def State.ownFrame (s : State) (n : Nat) (o : OwnOpen) (data : List Byte) : State :=
  if (s.ch n).own = some o then
    ((s.modCh n fun c => { c with own := none }).setFlag Fld.CH_STATUS_OWN_OPEN n false).assertApply n
  else s.ownEmit n o data

/-- An own frame opens and stays open past this event (CH_STATUS.OWN_OPEN). -/
def State.ownHold (s : State) (n : Nat) (o : OwnOpen) (data : List Byte) : State :=
  if (s.ch n).own = some o then s
  else ((s.ownEmit n o data).modCh n fun c => { c with own := some o }).setFlag Fld.CH_STATUS_OWN_OPEN n true

/-- The part ends the own frame that is open, spoiling a write (R72, R236). -/
def State.ownStop (s : State) (n : Nat) : State :=
  match (s.ch n).own with
  | none => s
  | some o =>
    let fe := if o.write then spoilForm (s.getF Fld.CH_OWN_PROTO n) (s.shape n o.op) else .cut
    ((s.modCh n fun c => { c with own := none }).setFlag Fld.CH_STATUS_OWN_OPEN n false).emit (.ownCut n o.sel fe)

/-- CHn_HCS_N falls while an own frame is open: the part ends it at once; a frame other than a poll awaits its reissue (R72, R73).
In ISOLATE only a poll ends, for no host frame reaches the flash. -/
def State.ownCut (s : State) (n : Nat) : State :=
  match (s.ch n).own with
  | none => s
  | some o =>
    if s.getF Fld.CH_STATUS_STATE_EFF n = 1 ∧ !o.poll then s
    else if o.poll then s.ownStop n
    else ((s.ownStop n).setFlag Fld.CH_STATUS_YIELDED n true).countCh n 0x37 1

/-- The own read of an address on a select (R473). -/
def State.ownReadOf (s : State) (n : Nat) (sel : Bool) (addr : Nat) : OwnOpen :=
  { op := s.ownReadOp n, sel := sel, addr := addr, write := false, poll := false }

/-- A poll of the flash's status for a care region: its status opcode; the feature address of an SPI-NAND block (R73, R193). -/
def State.pollFrame (s : State) (r : Nat) (sel : Bool) : OwnOpen :=
  { op := s.getF Fld.CR_OPS_STAT_OP r, sel := sel
    addr := if s.getF Fld.CR_CFG_UNIT r = 3 then s.getF Fld.CR_OPS2_FEAT r else 0
    write := false, poll := true }

/-- One failed attempt of a run at point 4: its report, and the own frame that reads the run again unless it was the third
(R202, R203, R205). -/
def State.reread (s : State) (n : Nat) (sel : Bool) (addr k : Nat) : State :=
  let s := s.report (n / 8) 0x5104 (n / 8)
  if 2 ≤ k then s.report (n / 8) 0x5204 (n / 8)
  else (s.ownEmit n (s.ownReadOf n sel addr) []).countCh n 0x30 128

/-- What own reads of the block at `base` met at detection point 4, run by run (R202, R203). -/
def State.ownErrors (s : State) (n : Nat) (sel : Bool) (base : Nat) (r : OwnRead) : State :=
  r.runs.foldl (fun s x => s.forEach (List.range x.fails) fun s k => s.reread n sel (base + 128 * x.run) k) s

/-- Own reads of runs of a block: one frame for each run, given as offset and length, then what they met (R146, R202). -/
def State.ownReads (s : State) (n : Nat) (sel : Bool) (base : Nat) (runs : List (Nat × Nat)) (r : OwnRead) : State :=
  (runs.foldl (fun s p => (s.ownFrame n (s.ownReadOf n sel (base + p.1)) []).countCh n 0x30 p.2) s).ownErrors n sel base r

/-- The own read of a whole block of the working flash or the twin. -/
def State.ownBlock (s : State) (n : Nat) (sel : Bool) (g : Nat) (r : OwnRead) : State :=
  s.ownReads n sel (g * 4096) [(0, 4096)] r

end Sys2Proof.Machine
end

