-- ==== Sys2Proof/Machine/HashPool.lean ====
section
/-! DEFINITION. Hash work across dies: re-placement, fences, lanes (R218 to R224, R226). -/

namespace Sys2Proof.Machine

/-- What a job hashes: the block of its re-read, or the slot of its granule. -/
def State.jobSlot (s : State) (j : Job) : Option Slot := if j.reread.isSome then j.reread else s.slot j.ch j.granule

/-- The message of a job: the leaf message of its block (R128). -/
def State.jobMessage (s : State) (j : Job) : List Byte :=
  match s.jobSlot j with
  | some x => s.leafBytes (j.ch / 8) x.tree x.leaf x.own
  | none => []

/-- The job of a granule that awaits a result of generation `gen` from executor `e` (R220). -/
def State.awaitedJob (s : State) (n g gen e : Nat) : Option Job :=
  (s.die (n / 8)).jobs.find? fun j => j.isFor n g && decide (j.gen = gen) && decide (j.executor = e) && j.result.isNone

/-- The first job of a granule that awaits a result from executor `e`. -/
def State.jobAt (s : State) (n g e : Nat) : Option Job :=
  (s.die (n / 8)).jobs.find? fun j => j.isFor n g && decide (j.executor = e) && j.result.isNone

/-- The first job of a granule whose result has been accepted. -/
def State.hashedJob (s : State) (n g : Nat) : Option Job :=
  (s.die (n / 8)).jobs.find? fun j => j.isFor n g && j.result.isSome

/-- Replace a job by another for the same block. -/
def State.setJob (s : State) (j k : Job) : State :=
  let same (y : Job) : Bool := y.isFor j.ch j.granule && (y.reread.isSome == j.reread.isSome)
  s.modDie (j.ch / 8) fun x => { x with jobs := x.jobs.map fun y => if same y then k else y }

/-- Drop a job. -/
def State.endJob (s : State) (j : Job) : State :=
  if j.reread.isSome then s.dropReread j.ch j.granule else s.dropJob j.ch j.granule

/-- Another placement would let PLACEGEN run 0x7FFF ahead of the oldest unacknowledged fence (R221). -/
def State.fenceLimit (s : State) (d : Nat) : Bool :=
  let next := s.getF Fld.HP_STATUS_PLACEGEN d + 1
  (s.die d).fences.any fun f => decide (0x7FFF ≤ (next + 2 ^ 16 - f.gen) % 2 ^ 16)

/-- Add one to a counter register, saturating. -/
def State.bump (s : State) (n : RegName) (i : Nat) : State :=
  let v := (s.rd n i).toNat
  if v = 2 ^ 32 - 1 then s else s.wr n i (BitVec.ofNat 32 (v + 1))

/-- The owner takes a new placement generation and counts a re-placement (R219, R223). Where that would break the limit of R221, a
fence stall begins instead, with 0x5007, and nothing is re-placed. -/
def State.newGen (s : State) (d : Nat) : State :=
  if s.fenceLimit d then
    if s.flag Fld.HP_STATUS_FENCE_STALL d then s else (s.setFlag Fld.HP_STATUS_FENCE_STALL d true).report d 0x5007 d
  else
    let s := (s.bump .HP_MIGRATED d).count d 0x367 1
    s.setF Fld.HP_STATUS_PLACEGEN d ((s.getF Fld.HP_STATUS_PLACEGEN d + 1) % 2 ^ 16)

/-- The owner sends die e a fence that carries the current PLACEGEN (R221); one sent to itself or out of reach is taken as
acknowledged. -/
def State.sendFence (s : State) (d e : Nat) : State :=
  if e = d ∨ !s.reached e then s
  else
    let f : Fence := { executor := e, gen := s.getF Fld.HP_STATUS_PLACEGEN d }
    s.modDie d fun x => { x with fences := x.fences ++ [f] }

/-- Re-place a job (R219, R221): a new generation, a fence to the executor it leaves, a new executor. In a fence stall the job
runs on the owner's own lanes. -/
def State.replaceJob (s : State) (j : Job) : State :=
  let d := j.ch / 8
  let stall := s.fenceLimit d
  let us := s.us
  let s := s.newGen d
  if stall then s.setJob j { j with executor := d, inLane := s.freeLane d, lane := none, result := none, since := us }
  else
    let gen := s.getF Fld.HP_STATUS_PLACEGEN d
    let s := s.sendFence d j.executor
    let s := s.setJob j { j with executor := d, inLane := none, lane := none, result := none }
    let (e, lane, s) := s.placeJob d j.ch j.granule gen
    s.setJob j { j with executor := e, gen := gen, inLane := lane, lane := none, result := none, since := us }

/-- Every job of every owner that a die executes. -/
def State.jobsAt (s : State) (e : Nat) : List Job :=
  (List.range s.nDies).flatMap fun d =>
    (s.die d).jobs.filter fun j => decide (j.executor = e) && j.result.isNone

/-- Re-place the jobs named. -/
def State.replaceAll (s : State) (l : List Job) : State := l.foldl (fun t j => t.replaceJob j) s

/-- A lane leaves service until the next reset of its die (R222): 0x5004, and 0x5006 with the last of a die, which then
advertises nothing. The job it held is re-placed, and with the last lane every job of the die (R219). -/
def State.laneOut (s : State) (d lane : Nat) : State :=
  if mem lane (s.die d).lanesOut then s
  else
    let ok := s.getF Fld.HP_STATUS_LANES_OK d
    let s := s.modDie d fun x => { x with lanesOut := x.lanesOut ++ [lane] }
    let s := (if bitOf ok lane then s.setF Fld.HP_STATUS_LANES_OK d (ok - 2 ^ lane) else s).report d 0x5004 d
    if (s.die d).lanesOut.length = 4 then
      ((s.report d 0x5006 d).modDie d fun x => { x with advert := 0 }).replaceAll (s.jobsAt d)
    else s.replaceAll ((s.jobsAt d).filter fun j => decide (j.inLane = some lane))

/-! ## Checks and their confirmation (R130, R217, R223) -/

/-- The lane that confirms a mismatch that lane k of die e found for owner d: another lane of the owner's, else one of a die that
takes its jobs. Where no other lane is in service, the same lane runs the message again (notes/assumptions/141.md). -/
def State.confirmLane (s : State) (d e k : Nat) : Nat × Nat :=
  match (List.range 4).find? fun l => s.laneOk d l && (decide (d ≠ e) || decide (l ≠ k)) with
  | some l => (d, l)
  | none => match s.spillTarget d with
    | some x => match (List.range 4).find? fun l => s.laneOk x l && (decide (x ≠ e) || decide (l ≠ k)) with
      | some l => (x, l)
      | none => (e, k)
    | none => (e, k)

/-- The confirmation runs under a new generation; each second lane that fails at point 6 is taken out, and the confirmation is
placed again (R217, R223). -/
def State.confirmRun (s : State) (d e k : Nat) : Nat → State
  | 0 => s.newGen d
  | again + 1 =>
    let s := s.newGen d
    let x := s.confirmLane d e k
    if x = (e, k) then s
    else ((s.report x.1 0x5206 x.1).laneOut x.1 x.2).confirmRun d e k again

/-- A message is hashed and compared with the digest that vouches for it, as part of the command at hand (R130): a mismatch is
confirmed on a second lane before the check fails, and a second result that matches takes the first lane out (R223). Each timeout
costs 0x5005 and a re-placement (R219). -/
def State.hashCheck (s : State) (d : Nat) (m : List Byte) (want : Digest) (r : LaneRun) : Bool × State :=
  let s := s.forEach (List.range r.timeouts) fun s _ => (s.report d 0x5005 d).newGen d
  if r.corrupt.getD (hashOf m) = want then (true, s)
  else
    let s := s.confirmRun d d (r.lane % 4) r.again
    if r.second.getD (hashOf m) = want then (true, s.laneOut d (r.lane % 4)) else (false, s)

/-- The part has a lane for a die's jobs (R218, R222). -/
def State.canHash (s : State) (d : Nat) : Bool := s.hasLanes d || (s.spillTarget d).isSome

/-- A block is verified as leaf i of a tree by the command at hand, its level-0 group being trusted (R130, R137). -/
def State.leafCheck (s : State) (d t leaf : Nat) (b : List Byte) (r : LaneRun) : Bool × State :=
  match s.leafEntry d t leaf with
  | none => (false, s)
  | some want =>
    if s.getF Fld.TD_STATE_STATE (d * 256 + t) ≠ 2 then (false, s)
    else (s.useLine d t 0 (leaf / 8)).hashCheck d (s.leafBytes d t leaf b) want r

end Sys2Proof.Machine
end

