-- ==== Sys2Proof/Machine/FaultsFabric.lean ====
section
/-! DEFINITION. Faults, the fabric and hash work across dies (06): the fault queues, storms, hops, fences and lanes (R24, R156,
R202, R206 to R222). -/

namespace Sys2Proof.Machine

/-! ## The fault queue (R207 to R215) -/

/-- Change the fault queue of a die. -/
def State.modQueue (s : State) (d : Nat) (f : FaultQueue → FaultQueue) : State := s.setQueue d (f (s.queue d))

/-- An entry holds reports of a code and a SOURCE. -/
def FaultEntry.is (e : FaultEntry) (code source : Nat) : Bool := decide (e.code = code) && decide (e.source = source)

/-- A report merges into an entry (R208). -/
def FaultEntry.merge (e : FaultEntry) (us : Word) : FaultEntry := { e with count := min (e.count + 1) 0xFFFF, last := us }

/-- Merge a report into the entry of a code and SOURCE. -/
def State.mergeInto (s : State) (d code source : Nat) (us : Word) : State :=
  let upd (e : FaultEntry) : FaultEntry := if e.is code source then e.merge us else e
  let key : Nat × Nat := (code, source)
  s.modQueue d fun q => { q with entries := q.entries.map upd, merged := q.merged ++ [key] }

/-- Create an entry at the end of the queue, with its folio record of kind `kind` (R211, R215). -/
def State.createEntry (s : State) (d kind : Nat) (e : FaultEntry) : State :=
  (s.modQueue d fun q => { q with entries := q.entries ++ [e] }).faultRecord d kind e

/-- Add one to the STORM entry, which is created where none is held (R215); the moment of a creation is `us`. -/
def State.bumpStorm (s : State) (d kind dseq : Nat) (us : Word) : State :=
  if (s.queue d).entries.any fun e => e.is 0x5302 0 then
    let upd (e : FaultEntry) : FaultEntry := if e.is 0x5302 0 then { e with count := min (e.count + 1) 0xFFFF } else e
    let key : Nat × Nat := (0x5302, 0)
    s.modQueue d fun q => { q with entries := q.entries.map upd, merged := q.merged ++ [key] }
  else s.createEntry d kind { code := 0x5302, source := 0, dseq := dseq, count := 1, first := us, last := us }

/-- A report that cannot merge, outside a storm (R210). -/
def State.newEntry (s : State) (d : Nat) (r : Report) : State :=
  let normal := ((s.queue d).entries.filter fun e => decide (e.code ≠ 0x5301) && decide (e.code ≠ 0x5302)).length
  if normal < 30 then
    s.createEntry d 0 { code := r.code, source := r.source, dseq := r.dseq, count := 1, first := r.us, last := r.us }
  else if (s.queue d).entries.any fun e => e.is 0x5301 0 then s.mergeInto d 0x5301 0 r.us
  else s.createEntry d 0 { code := 0x5301, source := 0, dseq := r.dseq, count := 1, first := r.us, last := r.us }

/-- A storm begins with a report (R214, R215). -/
def State.stormBegins (s : State) (d : Nat) (r : Report) : State :=
  let us := s.us
  let s := s.modQueue d fun q => { q with storm := true, stormHeld := true, irqUs := none }
  let had := (s.queue d).entries.any fun e => e.is 0x5302 0
  let s := s.bumpStorm d 2 r.dseq us
  let s := if had then
      match (s.queue d).entries.find? fun e => e.is 0x5302 0 with
      | some e => s.faultRecord d 2 e
      | none => s
    else s
  if s.flag Fld.FQ_CTRL_STORM_RESP d then s.forEach ((List.range 8).map fun c => 8 * d + c) fun s n => s.holdLines n
  else s

/-- The fault interrupt: in a storm at most once per 10 ms for the die (R215). -/
def State.raiseFault (s : State) (d : Nat) : State :=
  let q := s.queue d
  if !q.storm then s.emit (.faultIrq d)
  else
    let due : Bool := match q.irqUs with
      | none => true
      | some t => decide (10000 ≤ s.usSince t)
    if due then
      let us := s.us
      (s.modQueue d fun q => { q with irqUs := some us }).emit (.faultIrq d)
    else s

/-- Die 0 places a report in the queue of its die (R208 to R215). -/
def State.placeReport (s : State) (d : Nat) (r : Report) : State :=
  let q := s.queue d
  let s := s.bump .FQ_TOTAL d
  let s := if q.tokens = 0 ∧ !q.storm then s.stormBegins d r else s
  let s := s.modQueue d fun q => { q with tokens := q.tokens - 1, next := (r.dseq + 1) % 2 ^ 16 }
  let s :=
    if (s.queue d).entries.any fun e => e.is r.code r.source then s.mergeInto d r.code r.source r.us
    else if (s.queue d).storm then s.bumpStorm d 0 r.dseq r.us
    else s.newEntry d r
  s.raiseFault d

/-- Place the held reports that are next in DSEQ order (R207). -/
def State.placeHeld (s : State) (d : Nat) : Nat → State
  | 0 => s
  | k + 1 =>
    match (s.queue d).held.find? fun r => decide (r.dseq = (s.queue d).next) with
    | none => s
    | some r =>
      ((s.modQueue d fun q => { q with held := q.held.filter fun x => decide (x.dseq ≠ r.dseq) }).placeReport d r).placeHeld
        d k

/-- The held report that comes next in DSEQ order, however many before it were lost. -/
def FaultQueue.soonest (q : FaultQueue) : Option Report :=
  let ahead (r : Report) : Nat := (r.dseq + 2 ^ 16 - q.next) % 2 ^ 16
  match q.held with
  | [] => none
  | r :: t => some (t.foldl (fun a b => if ahead b < ahead a then b else a) r)

/-- No smaller DSEQ of the die can arrive any more: the held reports, which have reached die 0, are placed in order (R207,
R210). -/
def State.placeRest (s : State) (d : Nat) : Nat → State
  | 0 => s
  | k + 1 =>
    match (s.queue d).soonest with
    | none => s
    | some r =>
      ((s.modQueue d fun q => { q with held := q.held.filter fun x => decide (x.dseq ≠ r.dseq) }).placeReport d r).placeRest
        d k

/-- A report of a die reaches die 0 (R207). -/
def State.deliverReport (s : State) (d : Nat) (r : Report) : State :=
  let s := s.modDie d fun x => { x with inflight := x.inflight.filter fun y => decide (y.dseq ≠ r.dseq) }
  if r.dseq ≠ (s.queue d).next then s.modQueue d fun q => { q with held := q.held ++ [r] }
  else (s.placeReport d r).placeHeld d (s.queue d).held.length

/-- FAULT_REPORT (R207). -/
def execFaultReport (d : DieId) (dseq : Nat) (s : State) : Host.Outcome State Fault Refusal :=
  .next (s.when (s.platLive && s.reached d.val && !(s.queue d.val).unreach) fun s =>
    match (s.die d.val).inflight.find? fun r => decide (r.dseq = dseq) with
    | some r => s.deliverReport d.val r
    | none => s)

/-- STORM_END (R215): the bucket is full again. -/
def execStormEnd (d : DieId) (s : State) : Host.Outcome State Fault Refusal :=
  let q := s.queue d.val
  .next (s.when (s.platLive && q.storm && decide (1000 ≤ q.tokens)) fun s =>
    let us := s.us
    let upd (e : FaultEntry) : FaultEntry := if e.is 0x5302 0 then { e with last := us } else e
    let s := s.modQueue d.val fun q =>
      { q with storm := false, stormHeld := false, irqUs := none, entries := q.entries.map upd }
    let total := ((s.queue d.val).entries.find? fun e => e.is 0x5302 0).getD
      { code := 0x5302, source := 0, dseq := 0, count := 0, first := us, last := us }
    s.faultRecord d.val 3 total)

/-- A read of FQ_HEAD0: the head entry is captured (R209); an entry whose check fails reads as 0x5303 (R213). -/
def State.readHead0 (s : State) (d : Nat) (checkFails : Bool) : Word × State :=
  let words : List Nat := match (s.queue d).entries with
    | [] => [0, 0, 0, 0]
    | e :: _ => if checkFails then [0x5303, 0, 0, 0] else e.words
  let s := (((s.wr .FQ_HEAD0 d (BitVec.ofNat 32 (words.getD 0 0))).wr .FQ_HEAD1 d (BitVec.ofNat 32 (words.getD 1 0))).wr
    .FQ_HEAD2 d (BitVec.ofNat 32 (words.getD 2 0))).wr .FQ_HEAD3 d (BitVec.ofNat 32 (words.getD 3 0))
  (s.rd .FQ_HEAD0 d, s.modQueue d fun q => { q with merged := [] })

/-- FQ_HEAD_READ (R209). -/
def execFqHeadRead (req : Requester) (d : DieId) (checkFails : Bool) (s : State) : Host.Outcome State Fault Refusal :=
  .next (s.platAccess req fun s =>
    State.answer (if s.present d.val then s.readHead0 d.val checkFails else (0, s)))

/-- A write of FQ_POP (R209): the head entry goes unless a report has merged into it since the last capture. -/
def State.writePop (s : State) (d : Nat) (v : Word) : State :=
  if Fld.FQ_POP_POP.of v = 0 then s
  else match (s.queue d).entries with
    | [] => s
    | e :: rest =>
      let key : Nat × Nat := (e.code, e.source)
      if (s.queue d).merged.any fun k => decide (k = key) then s.setFlag Fld.FQ_STATUS_POP_STALE d true
      else
        let s := s.modQueue d fun q => { q with entries := rest }
        if 1 < e.count then s.faultRecord d 1 e else s

/-- FQ_POP (R209). -/
def execFqPop (req : Requester) (d : DieId) (value : Word) (s : State) : Host.Outcome State Fault Refusal :=
  .next (s.platAccess req fun s => s.when (s.present d.val) fun s => s.writePop d.val value)

/-- What FQ_STATUS reads. -/
def State.readFqStatus (s : State) (d : Nat) : Word :=
  let q := s.queue d
  let ovf := q.entries.any fun e => decide (e.code = 0x5301)
  BitVec.ofNat 32 (q.entries.length + 2 ^ 6 * b2n q.storm + 2 ^ 7 * b2n ovf +
    2 ^ 8 * s.getF Fld.FQ_STATUS_POP_STALE d + 2 ^ 9 * b2n q.unreach + 2 ^ 16 * q.next)

/-! ## Losing a die (R24, R156, R212, R219) -/

/-- The gates with a tree on die d, as a mask. -/
def State.dieGates (s : State) (d : Nat) : Nat :=
  ((List.range 32).map fun g => if (s.gateTrees g).any (fun t => decide (t / 256 = d)) then 2 ^ g else 0).foldl (· ||| ·) 0

/-- Die d stops or cannot be reached: its gates move to FAILED with 0x300A, its lines are held until a reset restores it, the
reports that had reached die 0 are placed, owners re-place the jobs it executes, and fences to it count as acknowledged (R24, R156,
R210, R219, R221). -/
def State.loseDie (s : State) (d : Nat) : State :=
  let mask := ((s.die d).lostGates.getD 0) ||| s.dieGates d
  let s := (s.modDie d fun x => { x with lostGates := some mask }).placeRest d (s.queue d).held.length
  let lines := (((List.range 8).map fun c => (s.rd .RP_CLIENT (8 * d + c)).toNat)).foldl (· ||| ·) 0
  let s := s.mark (s.lineChannels lines)
  let gates := numsBelow 32 fun g => (s.gateTrees g).any fun t => decide (t / 256 = d)
  let s := s.forEach gates fun s g => (s.gateLost g).report 0 0x300A g
  let s := s.forEach (List.range s.nDies) fun s o =>
    let s := s.modDie o fun x => { x with fences := x.fences.filter fun f => decide (f.executor ≠ d) }
    if s.flag Fld.HP_STATUS_FENCE_STALL o ∧ !s.fenceLimit o then s.setFlag Fld.HP_STATUS_FENCE_STALL o false else s
  s.replaceAll ((s.jobsAt d).filter fun j => decide (j.ch / 8 ≠ d))

/-- DIE_UNREACHABLE (R212, R156, R24): no path round the ring reaches die d. Die 0 reports that it finds this, and once more at the
first access to the die (R23). -/
def execDieUnreachable (d : DieId) (s : State) : Host.Outcome State Fault Refusal :=
  .next (s.when (s.platLive && decide (d.val ≠ 0) && s.reached d.val) fun s =>
    let s := s.modDie d.val fun x => { x with reachable := false, lossSeen := false, inflight := [] }
    let s := (s.report 0 0x5003 d.val).setF { reg := .RC_DIE_STATE, lo := 2 * d.val, width := 2 } 0 3
    let s := (s.mark (0xFF * 2 ^ (8 * d.val))).loseDie d.val
    (s.modQueue d.val fun q => { q with unreach := true }).emit (.floated (.die 1) d.val))

/-! ## Hops (R202, R207) -/

/-- The die at the other end of a hop. -/
def State.hopPeer (s : State) (d : Nat) (down : Bool) : Nat :=
  if down then (d + s.nDies - 1) % s.nDies else (d + 1) % s.nDies

/-- HOP_DOWN (R207, Table 6.3, point 9): the hop toward d + 1 (`false`) or d − 1 (`true`) goes down after the third attempt of a
run failed. -/
def execHopDown (d : DieId) (toward : Bool) (s : State) : Host.Outcome State Fault Refusal :=
  let mine := if toward then Fld.FB_STATUS_DN_OK else Fld.FB_STATUS_UP_OK
  let other := if toward then Fld.FB_STATUS_UP_OK else Fld.FB_STATUS_DN_OK
  let k := b2n toward
  .next (s.when (s.live d.val && s.flag mine d.val && decide (3 ≤ (Tbl.get (s.die d.val).hopRuns k (0, 0)).2)) fun s =>
    let s := s.modDie d.val fun x => { x with hopRuns := Tbl.set x.hopRuns k (0, 0) (0, 0) }
    let s := (s.setFlag mine d.val false).setFlag other (s.hopPeer d.val toward) false
    (s.report d.val 0x5209 d.val).report d.val 0x5002 k)

/-- HOP_CHECK (R202, R203): a flit of a run fails its check on a hop that is up, and the run is resent; a run gets three attempts, and
another run starts a count of its own. -/
def execHopCheck (d : DieId) (toward : Bool) (s : State) (run : Nat := 0) : Host.Outcome State Fault Refusal :=
  let mine := if toward then Fld.FB_STATUS_DN_OK else Fld.FB_STATUS_UP_OK
  let k := b2n toward
  let last := Tbl.get (s.die d.val).hopRuns k (0, 0)
  let tries := if last.1 = run then last.2 + 1 else 1
  .next (s.when (s.live d.val && s.flag mine d.val && decide (tries ≤ 3)) fun s =>
    (s.modDie d.val fun x => { x with hopRuns := Tbl.set x.hopRuns k (run, tries) (0, 0) }).report d.val 0x5001 k)

/-! ## Hash work (R218 to R222) -/

/-- CAPACITY_ADVERT (R218): a die advertises its free lanes, at most those in service. -/
def execCapacityAdvert (d : DieId) (free : Nat) (s : State) : Host.Outcome State Fault Refusal :=
  let ok := s.getF Fld.HP_STATUS_LANES_OK d.val
  .next (s.when (s.reached d.val) fun s =>
    s.modDie d.val fun x => { x with advert := min free ((List.range 4).filter fun k => bitOf ok k).length })

/-- JOB_TIMEOUT (R219): no accepted result in time, so 0x5005 and a re-placement. -/
def execJobTimeout (ch : ChanId) (granule : Nat) (executor : DieId) (s : State) : Host.Outcome State Fault Refusal :=
  let n := ch.val
  .next (s.when (s.chLive n) fun s =>
    match s.jobAt n granule executor.val with
    | some j =>
      if s.getF Fld.HP_CTRL_JOB_TIMEOUT (n / 8) ≤ s.usSince j.since then (s.report (n / 8) 0x5005 executor.val).replaceJob j else s
    | none => s)

/-- Generation a is older than b, by serial-number comparison of 16-bit values (R221). -/
def genOlder (a b : Nat) : Bool :=
  let x := (b + 2 ^ 16 - a % 2 ^ 16) % 2 ^ 16
  decide (0 < x) && decide (x < 2 ^ 15)

/-- FENCE (R221): the executor receives an owner's fence and discards that owner's queued, unstarted jobs of older generations. -/
def execFence (executor owner : DieId) (gen : Nat) (s : State) : Host.Outcome State Fault Refusal :=
  let it (f : Fence) : Bool := decide (f.executor = executor.val) && decide (f.gen = gen) && !f.got
  .next (s.when (s.reached executor.val && (s.die owner.val).fences.any it) fun s =>
    let s := s.modDie owner.val fun x => { x with fences := modFirst it (fun f => { f with got := true }) x.fences }
    s.modDie executor.val fun x =>
      { x with guests := x.guests.filter fun g => decide (g.owner ≠ owner.val) || g.started.isSome || !genOlder g.gen gen })

/-- FENCE_ACK (R221): once the executor has sent every result of the owner that had started before the fence arrived, the owner's
oldest fence there is acknowledged, and a stall ends where the limit holds again. -/
def execFenceAck (owner executor : DieId) (s : State) : Host.Outcome State Fault Refusal :=
  let it (f : Fence) : Bool := decide (f.executor = executor.val) && f.got
  let open_ (f : Fence) : Bool := (s.die executor.val).guests.any fun g =>
    decide (g.owner = owner.val) && g.started.isSome && genOlder g.gen f.gen
  let due : Bool := match (s.die owner.val).fences.find? it with
    | some f => !open_ f
    | none => false
  .next (s.when (s.reached owner.val && due) fun s =>
    let s := s.modDie owner.val fun x => { x with fences := x.fences.eraseP it }
    if s.flag Fld.HP_STATUS_FENCE_STALL owner.val ∧ !s.fenceLimit owner.val then
      s.setFlag Fld.HP_STATUS_FENCE_STALL owner.val false
    else s)

/-- LANE_KAT (R222): a pass puts a lane into service for the first time since the die's reset; a failure takes it out. -/
def State.laneKat (s : State) (d lane : Nat) (pass : Bool) : State :=
  if !pass then s.laneOut d lane
  else if mem lane (s.die d).lanesOut then s
  else
    let ok := s.getF Fld.HP_STATUS_LANES_OK d
    if bitOf ok lane then s else s.setF Fld.HP_STATUS_LANES_OK d (ok + 2 ^ lane)

/-- LANE_KAT (R222). -/
def execLaneKat (d : DieId) (lane : Fin 4) (pass : Bool) (s : State) : Host.Outcome State Fault Refusal :=
  .next (s.when (s.live d.val) fun s => s.laneKat d.val lane.val pass)

end Sys2Proof.Machine
end

