-- ==== Sys2Proof/Machine/Fuses.lean ====
section
/-! DEFINITION. The fuse arrays and their controllers: rows, redirection, votes, region checks, and the fuse commands
(R299 to R323). -/

namespace Sys2Proof.Machine

/-! ## Rows (R299, R300, R303, R306) -/

/-- Change the fuse controllers' state. -/
def State.modFuses (s : State) (f : Fuses → Fuses) : State := { s with fuses := f s.fuses }

/-- The row at a place of an array. -/
def State.fusePlace (s : State) (d p : Nat) : FuseRow := Tbl.get s.fuses.rows (d * 2048 + p) FuseRow.blank

/-- Region code of a row (Table 10.1); 0 outside every region. -/
def fuseRegion (d row : Nat) : Nat :=
  if row ≤ 0x015 then 1
  else if d ≠ 0 then 0
  else if 0x020 ≤ row ∧ row ≤ 0x032 then 2
  else if 0x040 ≤ row ∧ row ≤ 0x07B then 3
  else if 0x080 ≤ row ∧ row ≤ 0x08B then 4
  else if (0x090 ≤ row ∧ row ≤ 0x098) ∨ (0x0A0 ≤ row ∧ row ≤ 0x0B7) then 5
  else if (0x0C0 ≤ row ∧ row ≤ 0x0C8) ∨ (0x0D0 ≤ row ∧ row ≤ 0x0FF) then 6
  else if (0x100 ≤ row ∧ row ≤ 0x108) ∨ (0x110 ≤ row ∧ row ≤ 0x112) then 7
  else 0

/-- The fill marker's row of a region. -/
def fillRow (r : Nat) : Nat :=
  match r with
  | 1 => 0x00D
  | 2 => 0x02A
  | 3 => 0x070
  | 4 => 0x083
  | 5 => 0x090
  | 6 => 0x0C0
  | _ => 0x100

/-- The first data row of a region. -/
def firstRow (r : Nat) : Nat :=
  match r with
  | 1 => 0x000
  | 2 => 0x020
  | 3 => 0x040
  | 4 => 0x080
  | _ => fillRow r

/-- The data rows of a region, in increasing order: up to the fill marker (R300). -/
def dataRows (r : Nat) : List Nat := (List.range (fillRow r + 1 - firstRow r)).map fun k => firstRow r + k

/-- The digest rows of a region: the eight after the fill marker. -/
def digestRows (r : Nat) : List Nat := (List.range 8).map fun j => fillRow r + 1 + j

/-- A data row of a region. -/
def isDataRow (d row : Nat) : Bool :=
  let r := fuseRegion d row
  decide (r ≠ 0) && decide (firstRow r ≤ row) && decide (row ≤ fillRow r)

/-- SOURCE of 0x9xxx faults (R323). -/
def fuseSource (d row : Nat) : Nat := row % 1024 + 2 ^ 10 * d + 2 ^ 13 * fuseRegion d row

/-- A fault of the fuse controller. -/
def State.fuseFault (s : State) (code d row : Nat) : State := s.report 0 code (fuseSource d row)

/-- First row of the redirection table, and number of spares. -/
def tableBase (d : Nat) : Nat := if d = 0 then 0x3E0 else 0xF0
def spareCount (d : Nat) : Nat := if d = 0 then 32 else 16

/-- Place of spare s. -/
def sparePlace (d k : Nat) : Nat := if d = 0 then 1024 + k else 0xE0 + k

/-- The redirection entry of spare s. -/
def State.fuseEntry (s : State) (d k : Nat) : Nat := (s.fusePlace d (tableBase d + k)).nominal

/-- The redirection table of an array passes its own check (R306). -/
def State.fuseTableOk (s : State) (d : Nat) : Bool :=
  (List.range (spareCount d)).all fun k =>
    let e := s.fuseEntry d k
    !bitOf e 15 || (decide (bitsOf e 16 16 = 0xFFFF - bitsOf e 0 16) && decide (bitsOf e 0 15 < tableBase d))

/-- The place that a logical row resolves to, and whether it is a spare (R306). -/
def State.fuseResolve (s : State) (d row : Nat) : Nat × Bool :=
  if !s.fuseTableOk d then (row, false)
  else
    match (numsBelow (spareCount d) fun k =>
      let e := s.fuseEntry d k
      bitOf e 15 && decide (bitsOf e 0 15 = row)).getLast? with
    | some k => (sparePlace d k, true)
    | none => (row, false)

/-- The row a logical row reads. -/
def State.fuseRow (s : State) (d row : Nat) : FuseRow := s.fusePlace d (s.fuseResolve d row).1

/-- Rows the table assigns; other rows read zero and refuse every program. -/
def fuseAssigned (d row : Nat) : Bool :=
  decide (fuseRegion d row ≠ 0) ||
  (if d = 0 then decide (0x3E0 ≤ row) && decide (row < 0x400) else decide (0xE0 ≤ row) && decide (row < 0x100))

/-- A MARGINAL row: the high and the low read differ (R303). -/
def FuseRow.marginal (r : FuseRow) : Bool := decide (r.high ≠ r.low)

/-- The free spares of an array: entries with no bit set (R306). -/
def State.freeSpares (s : State) (d : Nat) : List Nat :=
  numsBelow (spareCount d) fun k => decide (s.fuseEntry d k = 0)

/-- Show the anchor's free spares and the table's check. -/
def State.showSpares (s : State) : State :=
  (s.setF Fld.FU_STATUS_SPARES_FREE 0 (s.freeSpares 0).length).setFlag Fld.FU_STATUS_TABLE_FAIL 0 (!s.fuseTableOk 0)

/-- VFUSE lies inside its window. -/
def State.vfuseOk (s : State) : Bool := !s.seq.vfuseOut

/-! ## Votes, counters, regions (R301, R307 to R309) -/

/-- The outcome of a vote over three copies: the value, and whether the copies disagreed or a copy was marginal. -/
structure Vote where
  value : Nat
  disagree : Bool
  marginal : Bool
  deriving DecidableEq, Repr

/-- Majority of three words, bit by bit. -/
def majority (a b c : Nat) : Nat := (a &&& b) ||| (a &&& c) ||| (b &&& c)

/-- A copy as a margin read votes it: a marginal bit votes its safe value, 1. -/
def FuseRow.votes (r : FuseRow) : Nat := r.nominal ||| (r.high ^^^ r.low)

/-- The vote over three anchor rows (R307): normal reads, and margin reads where they disagree in any bit. -/
def State.voteRows (s : State) (a b c : Nat) : Vote :=
  let x := s.fuseRow 0 a
  let y := s.fuseRow 0 b
  let z := s.fuseRow 0 c
  if x.nominal = y.nominal ∧ y.nominal = z.nominal then ⟨x.nominal, false, false⟩
  else ⟨majority x.votes y.votes z.votes, true, x.marginal || y.marginal || z.marginal⟩

/-- The vote over a counter of `rows` rows at three bases. -/
def State.voteCounter (s : State) (a b c rows : Nat) : Vote :=
  (List.range rows).foldl (fun (v : Vote) k =>
      let w := s.voteRows (a + k) (b + k) (c + k)
      ⟨v.value + w.value * 2 ^ (32 * k), v.disagree || w.disagree, v.marginal || w.marginal⟩) ⟨0, false, false⟩

/-- A counter's value: one more than the highest bit set (R308). -/
def counterValue (v : Nat) : Nat := if v = 0 then 0 else Nat.log2 v + 1

/-- Report what a vote found (R307, R304). -/
def State.voteFaults (s : State) (v : Vote) (row : Nat) : State :=
  let s := if v.disagree then s.fuseFault 0x9007 0 row else s
  if v.marginal then s.fuseFault 0x9002 0 row else s

/-- State of a region in FU_REGIONS: 0 OPEN, 1 FINALISED, 2 FAILED, 3 DEGRADED. -/
def State.regionState (s : State) (r : Nat) : Nat := bitsOf (s.rd .FU_REGIONS 0).toNat (2 * r) 2

/-- Set a region's state. -/
def State.setRegion (s : State) (r v : Nat) : State :=
  s.wr .FU_REGIONS 0 (BitVec.ofNat 32 (setBits (s.rd .FU_REGIONS 0).toNat (2 * r) 2 v))

/-- The digest of a region on a die (R301): eight words. -/
def State.regionDigest (s : State) (d r : Nat) : List Nat :=
  let m := BitVec.ofNat 8 r :: BitVec.ofNat 8 d :: (dataRows r).flatMap fun x => beBytes 4 (s.fuseRow d x).nominal
  let h := digestOf (Config.sha384 m)
  (List.range 8).map fun j => ofBe (sliceB h (4 * j) 4)

/-- What the rows of a region show (R301): 0 OPEN, 1 FINALISED, 2 FAILED. -/
def State.regionRead (s : State) (d r : Nat) : Nat :=
  let rows := (digestRows r).map fun x => (s.fuseRow d x).nominal
  if rows.all fun x => decide (x = 0) then 0
  else if rows = s.regionDigest d r then 1 else 2

/-- A region is required to be FINALISED in a life-cycle state (Table 10.5). -/
def regionRequired (lc r : Nat) : Bool := decide (3 ≤ lc) || (decide (lc = 2) && decide (r = 1))

/-- Life-cycle state in force. -/
def State.lc (s : State) : Nat := s.getF Fld.FU_LC_CURRENT 0

/-- Check a region at start (R302, R309): its state, and 0x9001 where it must be FINALISED and is not. A region whose copies have
already fallen back stays DEGRADED. -/
def State.checkRegion (s : State) (r : Nat) : State :=
  let v := s.regionRead 0 r
  if regionRequired s.lc r ∧ v ≠ 1 then (s.setRegion r 2).fuseFault 0x9001 0 (fillRow r)
  else if s.regionState r = 3 then s else s.setRegion r v

/-- A field of a region fell back for a reason of R304 or R307: DEGRADED. -/
def State.degrade (s : State) (r : Nat) (c : Bool) : State :=
  if c ∧ s.regionState r ≠ 2 then s.setRegion r 3 else s

/-- Decode the life-cycle state from its copies (R308). -/
def State.decodeLc (s : State) : Nat × Vote :=
  let v := s.voteRows 0x110 0x111 0x112
  (min (counterValue (v.value % 32)) 5, v)

/-- LIFECYCLE at count 1,300 (R302, R319). -/
def State.loadLc (s : State) : State :=
  let (lc, v) := s.decodeLc
  let s := s.voteFaults v 0x110
  ((s.setF Fld.FU_LC_CURRENT 0 lc).setF Fld.FU_LC_NEXT 0 lc).degrade 7 v.disagree

/-- The TRIM check of a die at count 1,300 (R302, R309). -/
def State.checkTrim (s : State) (d : Nat) : State :=
  let v := s.regionRead d 1
  let bad := regionRequired s.lc 1 && decide (v ≠ 1)
  let s := if d = 0 then s.setRegion 1 (if bad then 2 else v) else s
  if bad then
    (s.fuseFault 0x9001 d (fillRow 1)).setF Fld.FU_REGIONS_TRIM_FAIL 0 (s.getF Fld.FU_REGIONS_TRIM_FAIL 0 ||| 2 ^ d)
  else s

/-- Decode the revocation copies into FU_POLICY.REVOKED (R307). -/
def State.loadRevoked (s : State) : State :=
  let v := s.voteRows 0x079 0x07A 0x07B
  ((s.voteFaults v 0x079).setF Fld.FU_POLICY_REVOKED 0 (v.value % 16)).degrade 3 v.disagree

/-- Decode POLICY (R300, R307, R309): copy 0, or a vote; both signatures where both bits read 0. -/
def State.loadPolicy (s : State) : State :=
  let rows := [0x080, 0x081, 0x082].map fun x => s.fuseRow 0 x
  let vote := !s.fuseTableOk 0 || decide (s.regionState 4 = 2) || rows.any fun r => r.marginal
  let v : Vote := if vote then s.voteRows 0x080 0x081 0x082 else ⟨(s.fuseRow 0 0x080).nominal, false, false⟩
  let w := v.value % 4
  let s := (s.voteFaults v 0x080).degrade 4 v.disagree
  let w := if w = 0 then 3 else w
  (s.setFlag Fld.FU_POLICY_ECDSA_REQ 0 (bitOf w 0)).setFlag Fld.FU_POLICY_MLDSA_REQ 0 (bitOf w 1)

/-- Decode the rollback counter into FU_COUNTS (R308). -/
def State.loadRollback (s : State) : State :=
  let v := s.voteCounter 0x0A0 0x0A8 0x0B0 8
  ((s.voteFaults v 0x0A0).setF Fld.FU_COUNTS_ROLLBACK 0 (counterValue v.value)).degrade 5 v.disagree

/-- Decode the tamper-epoch counter into FU_COUNTS (R302, R308). -/
def State.loadTamper (s : State) : State :=
  let v := s.voteCounter 0x0D0 0x0E0 0x0F0 16
  ((s.voteFaults v 0x0D0).setF Fld.FU_COUNTS_TAMPER 0 (counterValue v.value)).degrade 6 v.disagree

/-- The redirection table fails its check at start (R306): 0x9003. -/
def State.tableCheck (s : State) (d : Nat) : State :=
  if s.fuseTableOk d then s else s.fuseFault 0x9003 d (tableBase d)

/-- Fuse checks at count 1,300 (R302): every table, LIFECYCLE, and each die's TRIM. -/
def State.fuseStart (s : State) : State :=
  let ds := List.range s.nDies
  let s := s.forEach ds fun s d => s.tableCheck d
  s.showSpares.loadLc.forEach ds fun s d => s.checkTrim d

/-- Fuse checks at step 2 of R278 (R302). -/
def State.fuseRom (s : State) : State :=
  let s := s.forEach [2, 3, 4, 5, 7] fun s r => s.checkRegion r
  (s.loadRevoked.loadPolicy.loadRollback).count 0 0x3F4 139

/-- TAMPER after hand-over (R302). -/
def State.fuseTamper (s : State) : State := (s.checkRegion 6).loadTamper

/-! ## Keys on demand (R304, Table 10.2) -/

/-- A key slot of ROOTKEYS as a digest; `none` where it is unprogrammed, its region FAILED, or a row of it reads MARGINAL
(R304, R309). -/
def State.keySlot (s : State) (k : Nat) : Option Digest :=
  let rows := (List.range 12).map fun j => s.fuseRow 0 (0x040 + 12 * k + j)
  if 4 ≤ k ∨ s.regionState 3 = 2 ∨ (rows.any fun r => r.marginal) ∨ (rows.all fun r => decide (r.nominal = 0)) then none
  else some (rows.flatMap fun r => beBytes 4 r.nominal)

/-- The fault of a marginal key slot, which leaves its region DEGRADED (R304, R309). -/
def State.keySlotRead (s : State) (k : Nat) : State :=
  let rows := (List.range 12).map fun j => s.fuseRow 0 (0x040 + 12 * k + j)
  let s := s.count 0 0x3F4 12
  if k < 4 ∧ rows.any fun r => r.marginal then (s.fuseFault 0x9002 0 (0x040 + 12 * k)).degrade 3 true else s

/-- The fault of a marginal row among some of a region that hardware reads on demand (R304, R309). -/
def State.demandRead (s : State) (r : Nat) (rows : List Nat) : State :=
  let s := s.count 0 0x3F4 rows.length
  match rows.find? fun x => (s.fuseRow 0 x).marginal with
  | some x => (s.fuseFault 0x9002 0 x).degrade r true
  | none => s

/-- The key unit reads the revocation copies at each colophon check (R304). -/
def State.revokedRead (s : State) : State := s.demandRead 3 [0x079, 0x07A, 0x07B]

/-- The key unit reads UDS at each derivation (R304). -/
def State.udsRead (s : State) : State := s.demandRead 2 ((List.range 8).map fun j => 0x020 + j)

/-- Slot k is revoked (R304, R307): the copies as margin reads. -/
def State.revoked (s : State) (k : Nat) : Bool :=
  let x := s.fuseRow 0 0x079
  let y := s.fuseRow 0 0x07A
  let z := s.fuseRow 0 0x07B
  bitOf (majority x.votes y.votes z.votes) k

/-- The unique device secret: SHA-384 of the eight UDS rows (R316); none where IDENTITY is FAILED, a row reads MARGINAL, or
no bit is burned (R309). -/
def State.uds (s : State) : Option (BitVec 384) :=
  let rows := (List.range 8).map fun j => s.fuseRow 0 (0x020 + j)
  if s.regionState 2 = 2 ∨ (rows.any fun r => r.marginal) ∨ (rows.all fun r => decide (r.nominal = 0)) then none
  else some (Config.sha384 (rows.flatMap fun r => beBytes 4 r.nominal))

/-- SERIAL, most significant word first; all ones where IDENTITY is FAILED or a row reads MARGINAL (R304, Table 10.2). -/
def State.serial (s : State) : Nat :=
  if s.regionState 2 = 2 ∨ [0x028, 0x029].any fun x => (s.fuseRow 0 x).marginal then 2 ^ 64 - 1
  else (s.fuseRow 0 0x028).nominal * 2 ^ 32 + (s.fuseRow 0 0x029).nominal

/-! ## The running command (R310 to R314) -/

/-- The place a task programs. -/
def State.taskPlace (s : State) (t : FuseTask) : Nat :=
  match t.place with
  | some p => p
  | none => (s.fuseResolve t.die t.row).1

/-- The bits of a task that do not read 1 at the high reference, in increasing order (R312). -/
def State.taskBits (s : State) (t : FuseTask) : List Nat :=
  let h := (s.fusePlace t.die (s.taskPlace t)).high
  numsBelow 32 fun b => bitOf t.value b && !bitOf h b

/-- The guard's tamper burn ends (R410): BURNED, or NOT_ALLOWED, SATURATED or FAILED. -/
def State.burnEnds (s : State) (kind : Nat) : State :=
  match s.guard.burn with
  | none => s
  | some (src, t) =>
    let s := { s with guard := { s.guard with burn := none } }
    let body := padTo 16 (beBytes 2 t ++ [BitVec.ofNat 8 kind, BitVec.ofNat 8 src])
    if kind = 0 then (s.setFlag Fld.GD_STATUS_EPOCH_DONE 0 true).append 0x06 body
    else (s.append 0x06 body).report 0 0xB002 0

/-- A command ends with a RESULT. -/
def State.fuseEnds (s : State) (result : Nat) : State :=
  match s.fuses.run with
  | none => s
  | some r =>
    let s := s.modFuses fun f => { f with run := none }
    if r.tamper then s.burnEnds (if result = 0 then 0 else if result = 1 then 1 else 3)
    else ((s.setFlag Fld.FU_STATUS_BUSY 0 false).setFlag Fld.FU_STATUS_DONE 0 true).setF Fld.FU_STATUS_RESULT 0 result

/-- What a command does when all its bits are burned. -/
def State.fuseFinish (s : State) (r : FuseRun) : State :=
  match r.op with
  | 0x4 => if r.die = 0 then s.setRegion r.region 1 else s
  | 0x6 => s.loadRollback
  | 0x7 => s.loadTamper
  | 0x8 => s.loadRevoked
  | 0x9 =>
    let (lc, _) := s.decodeLc
    s.setF Fld.FU_LC_NEXT 0 lc
  | _ => s

/-- Go on with the running command: drop the tasks that are burned, end when none is left, and end with RESULT 0x5 when VFUSE
is out of its window before the next pulse (R311). -/
def State.fuseGo (s : State) : State :=
  match s.fuses.run with
  | none => s
  | some r =>
    let todo := r.todo.filter fun t => decide (s.taskBits t ≠ [])
    let done := r.todo.filter fun t => t.redirects && decide (s.taskBits t = [])
    let s := done.foldl (fun (s : State) t => s.fuseFault 0x9008 t.die t.row) s
    if todo = [] then ((s.fuseFinish r).fuseEnds 0).showSpares
    else if !s.vfuseOk then
      ((s.fuseFault 0x9005 r.die ((todo.map fun t => t.row).headD 0)).fuseEnds 5)
    else s.modFuses fun f => { f with run := some { r with todo := todo } }

/-- Start a command with its tasks. -/
def State.fuseStartRun (s : State) (r : FuseRun) : State :=
  let s := s.modFuses fun f => { f with run := some r }
  let s := if r.tamper then s else s.setFlag Fld.FU_STATUS_BUSY 0 true
  s.fuseGo

/-- The waiting tamper burn starts once the controller is free (R317): it is refused by life-cycle state, at 512, or by a
count that R317 does not allow. -/
def State.tamperGo (s : State) : State :=
  match s.fuses.run, s.fuses.waiting with
  | none, some t =>
    let s := s.modFuses fun f => { f with waiting := none }
    let cur := s.getF Fld.FU_COUNTS_TAMPER 0
    if s.lc < 2 ∨ 4 < s.lc then s.burnEnds 1
    else if cur = 512 then (s.fuseFault 0x9009 0 0x0D0).burnEnds 2
    else if t ≤ cur ∨ 512 < t then s.burnEnds 3
    else
      let rows := [0x0D0, 0x0E0, 0x0F0].flatMap fun b => (List.range 16).map fun k =>
        ({ die := 0, row := b + k, place := none, value := bitsOf (2 ^ t - 1) (32 * k) 32 } : FuseTask)
      s.fuseStartRun { op := 7, die := 0, region := 6, wdata := t, todo := rows, tries := 0, tamper := true }
  | _, _ => s

/-- Redirect a row whose bit failed its third pulse (R312): the lowest free spare, then its entry, VALID last, and 0x9008. -/
def State.fuseRedirect (s : State) (r : FuseRun) (t : FuseTask) (rest : List FuseTask) : State :=
  let d := t.die
  let keep := (s.fusePlace d (s.taskPlace t)).nominal ||| t.value
  match t.place.isNone && s.fuseTableOk d, s.freeSpares d with
  | true, k :: _ =>
    let low := t.row
    let entry := low + (0xFFFF - (low + 2 ^ 15)) * 2 ^ 16
    let te := tableBase d + k
    let tasks : List FuseTask :=
      [{ die := d, row := t.row, place := some (sparePlace d k), value := keep },
       { die := d, row := te, place := some te, value := entry },
       { die := d, row := t.row, place := some te, value := entry ||| 2 ^ 15, redirects := true }]
    (s.modFuses fun f => { f with run := some { r with todo := tasks ++ rest, tries := 0 } }).fuseGo
  | _, _ => (s.fuseFault 0x9004 d t.row).fuseEnds 6

/-- A pulse and its verify end (R311): the bit reads as `res` says. -/
def State.pulseEnd (s : State) (res : PulseResult) : State :=
  match s.fuses.run with
  | none => s
  | some r =>
    match r.todo with
    | [] => s.fuseGo
    | t :: rest =>
      match s.taskBits t with
      | [] => s.fuseGo
      | b :: _ =>
        let key := t.die * 2048 + s.taskPlace t
        let old := Tbl.get s.fuses.rows key FuseRow.blank
        let m := 2 ^ b
        let row : FuseRow :=
          { nominal := if res.nominal then old.nominal ||| m else old.nominal
            high := if res.high then old.high ||| m else old.high
            low := if res.low then old.low ||| m else old.low }
        let s := s.modFuses fun f => { f with rows := Tbl.set f.rows key row FuseRow.blank }
        if res.high then (s.modFuses fun f => { f with run := some { r with tries := 0 } }).fuseGo
        else if 3 ≤ r.tries + 1 then s.fuseRedirect r t rest
        else (s.modFuses fun f => { f with run := some { r with tries := r.tries + 1 } }).fuseGo

/-! ## Commands (R310 to R321) -/

/-- A requester that the controller accepts (R310): a sentry core of die 0. -/
def fromDie0 (req : Requester) : Bool :=
  match req with
  | .sentry d _ => decide (d.val = 0)
  | _ => false

/-- A command that ends at once. -/
def State.fuseDone (s : State) (result : Nat) : State :=
  (s.setFlag Fld.FU_STATUS_DONE 0 true).setF Fld.FU_STATUS_RESULT 0 result

/-- The number of rows an array has. -/
def fuseRows (d : Nat) : Nat := if d = 0 then 1024 else 256

/-- A row of the UDS (R304). -/
def isUds (d row : Nat) : Bool := decide (d = 0) && decide (0x020 ≤ row) && decide (row ≤ 0x027)

/-- READ and READ_MARGIN (R303, R304). -/
def State.fuseRead (s : State) (d row : Nat) (margin : Bool) : State :=
  if fuseRows d ≤ row then s.fuseDone 9
  else
    let (_, red) := s.fuseResolve d row
    let r := if fuseAssigned d row then s.fuseRow d row else FuseRow.blank
    let v := if isUds d row then 0 else r.nominal
    let s := (s.wr .FU_RDATA 0 (BitVec.ofNat 32 v)).setFlag Fld.FU_STATUS_REDIRECTED 0 red
    let s := if margin then s.setFlag Fld.FU_STATUS_MARGINAL 0 r.marginal else s
    (s.count 0 0x3F4 1).fuseDone 0

/-- Programming a region's data rows is allowed in the life-cycle state (Table 10.5). -/
def State.programState (s : State) (r : Nat) : Bool :=
  if r = 1 then decide (s.lc ≤ 1) else decide (s.lc = 2)

/-- The region of a die is FINALISED, as its rows read. -/
def State.finalised (s : State) (d r : Nat) : Bool := decide (s.regionRead d r = 1)

/-- PROGRAM (R312, R314). -/
def State.fuseProgram (s : State) (d row v : Nat) : State :=
  let r := fuseRegion d row
  if fuseRows d ≤ row ∨ !fuseAssigned d row then s.fuseDone 9
  else if !isDataRow d row then s.fuseDone 2
  else if !s.programState r then s.fuseDone 1
  else if s.finalised d r then s.fuseDone 2
  else if (s.fuseRow d row).nominal &&& v ≠ (s.fuseRow d row).nominal then s.fuseDone 4
  else s.fuseStartRun { op := 3, die := d, region := r, wdata := v, tries := 0, tamper := false,
                        todo := [{ die := d, row := row, place := none, value := v }] }

/-- FINALISE (R314). -/
def State.fuseFinalise (s : State) (d r : Nat) : State :=
  if r = 0 ∨ (d ≠ 0 ∧ r ≠ 1) then s.fuseDone 9
  else if !s.programState r then s.fuseDone 1
  else if (s.fuseRow d (fillRow r)).nominal ≠ 0x5EA10000 + r ∨ (dataRows r).any fun x => (s.fuseRow d x).marginal then
    s.fuseDone 3
  else
    let dig := s.regionDigest d r
    let rows := (digestRows r).zip dig
    if rows.any fun p => decide ((s.fuseRow d p.1).nominal &&& p.2 ≠ (s.fuseRow d p.1).nominal) then s.fuseDone 2
    else s.fuseStartRun { op := 4, die := d, region := r, wdata := 0, tries := 0, tamper := false,
                          todo := rows.map fun p => { die := d, row := p.1, place := none, value := p.2 } }

/-- GEN_UDS (R316): the draw, united with bits already burned. -/
def State.fuseGenUds (s : State) : State :=
  if s.lc ≠ 2 then s.fuseDone 1
  else if s.finalised 0 2 then s.fuseDone 2
  else
    let (x, s) := s.draw
    s.fuseStartRun { op := 5, die := 0, region := 2, wdata := 0, tries := 0, tamper := false,
                     todo := (List.range 8).map fun j =>
                       { die := 0, row := 0x020 + j, place := none,
                         value := bitsOf x.toNat (32 * j) 32 ||| (s.fuseRow 0 (0x020 + j)).nominal } }

/-- Tasks that burn a counter up to T in its three copies (R317). -/
def counterTasks (bases : List Nat) (rows t : Nat) : List FuseTask :=
  bases.flatMap fun b => (List.range rows).map fun k =>
    { die := 0, row := b + k, place := none, value := bitsOf (2 ^ t - 1) (32 * k) 32 }

/-- The running slot's security version number, and whether R294 bars ADVANCE_ROLLBACK to T. -/
def State.rollbackBarred (s : State) (t : Nat) : Bool :=
  let slot := s.getF Fld.BT_STATUS_SLOT 0
  let version := if slot = 0 then (s.rd .BT_SLOT_A 0).toNat else (s.rd .BT_SLOT_B 0).toNat
  s.flag Fld.BT_STATUS_PENDING 0 || decide (slot = 2) || (decide (slot < 2) && decide (version / 2 ^ 24 < t))

/-- ADVANCE_ROLLBACK (R317, R294). -/
def State.fuseAdvRollback (s : State) (t : Nat) : State :=
  let cur := s.getF Fld.FU_COUNTS_ROLLBACK 0
  if s.lc ≠ 2 ∧ s.lc ≠ 3 then s.fuseDone 1
  else if cur = 256 then (s.fuseFault 0x9009 0 0x0A0).fuseDone 7
  else if t ≤ cur ∨ 256 < t then s.fuseDone 7
  else if s.rollbackBarred t then (s.report 0 0x6307 (s.getF Fld.BT_STATUS_SLOT 0)).fuseDone 7
  else s.fuseStartRun { op := 6, die := 0, region := 5, wdata := t, tries := 0, tamper := false,
                        todo := counterTasks [0x0A0, 0x0A8, 0x0B0] 8 t }

/-- ADVANCE_TAMPER (R317). -/
def State.fuseAdvTamper (s : State) (t : Nat) : State :=
  let cur := s.getF Fld.FU_COUNTS_TAMPER 0
  if s.lc < 2 ∨ 4 < s.lc then s.fuseDone 1
  else if cur = 512 then (s.fuseFault 0x9009 0 0x0D0).fuseDone 7
  else if t ≤ cur ∨ 512 < t then s.fuseDone 7
  else s.fuseStartRun { op := 7, die := 0, region := 6, wdata := t, tries := 0, tamper := false,
                        todo := counterTasks [0x0D0, 0x0E0, 0x0F0] 16 t }

/-- REVOKE (R318). -/
def State.fuseRevoke (s : State) (v : Nat) : State :=
  if 16 ≤ v then s.fuseDone 9
  else if s.lc ≠ 2 ∧ s.lc ≠ 3 then s.fuseDone 1
  else s.fuseStartRun { op := 8, die := 0, region := 3, wdata := v, tries := 0, tamper := false,
                        todo := [0x079, 0x07A, 0x07B].map fun x => { die := 0, row := x, place := none, value := v } }

/-- The life-cycle path is allowed (R319); `core` is set for a sentry core of die 0. -/
def lcPath (cur nxt : Nat) (core : Bool) : Bool :=
  match nxt with
  | 0 => decide (cur = 0)
  | 1 => decide (cur = 1)
  | 2 => decide (cur = 2)
  | 3 => decide (cur = 3) && core
  | _ => decide (nxt = 4)

/-- The precondition of a transition (R319). -/
def State.lcReady (s : State) (nxt : Nat) : Bool :=
  match nxt with
  | 1 => (List.range s.nDies).all fun d => s.finalised d 1
  | 2 => ([1, 2, 3, 4, 5, 6, 7].all fun r => s.finalised 0 r) &&
      ([0, 1, 2, 3].any fun k => (s.keySlot k).isSome && !s.revoked k)
  | _ => true

/-- ADVANCE_LC (R319): bit `nxt` of the three copies. -/
def State.fuseAdvLc (s : State) (nxt : Nat) (core : Bool) : State :=
  if !lcPath s.lc nxt core then s.fuseDone 1
  else if !s.lcReady nxt then s.fuseDone 8
  else s.fuseStartRun { op := 9, die := 0, region := 7, wdata := nxt, tries := 0, tamper := false,
                        todo := [0x110, 0x111, 0x112].map fun x => { die := 0, row := x, place := none, value := 2 ^ nxt } }

/-- MARGIN_SCAN (R321): 0x9002 for each MARGINAL row of every present array. -/
def State.fuseScan (s : State) : State :=
  let rows : List (Nat × FuseRow) := s.fuses.rows
  let found := rows.filter fun p => decide (p.1 / 2048 < s.nDies) && p.2.marginal
  let s := found.foldl (fun t p => t.fuseFault 0x9002 (p.1 / 2048) (p.1 % 2048)) s
  ((s.count 0 0x3F4 rows.length).setFlag Fld.FU_STATUS_SCAN_MARGINAL 0 (decide (found ≠ []))).fuseDone 0

/-- Run the command that a word spells (FU_CMD) with FU_WDATA; `core` is set for a sentry core of die 0. -/
def State.fuseCommand (s : State) (v : Word) (data : Nat) (core : Bool) : State :=
  let w := v.toNat
  let d := Fld.FU_CMD_DIE.of v
  let row := Fld.FU_CMD_ROW.of v
  if !s.present d then s.fuseDone 9
  else match bitsOf w 0 4 with
    | 0x1 => s.fuseRead d row false
    | 0x2 => s.fuseRead d row true
    | 0x3 => s.fuseProgram d row data
    | 0x4 => s.fuseFinalise d (Fld.FU_CMD_REGION.of v)
    | 0x5 => s.fuseGenUds
    | 0x6 => s.fuseAdvRollback data
    | 0x7 => s.fuseAdvTamper data
    | 0x8 => s.fuseRevoke data
    | 0x9 => s.fuseAdvLc data core
    | 0xA => s.fuseScan
    | _ => s.fuseDone 9

/-- A command word arrives (R305, R310, R317): discarded with 0x9006 while a command runs; behind a tamper burn a read runs between
its pulses, and any other command waits for its end. -/
def State.fuseTake (s : State) (v : Word) (core : Bool) : State :=
  let data := (s.rd .FU_WDATA 0).toNat
  let op := Fld.FU_CMD_OP.of v
  if s.flag Fld.FU_STATUS_BUSY 0 then s.report 0 0x9006 (openSource 0x9006)
  else if s.fuses.run.isNone || decide (op = 1) || decide (op = 2) || decide (op = 10) then s.fuseCommand v data core
  else (s.modFuses fun f => { f with queued := some (v, data, core) }).setFlag Fld.FU_STATUS_BUSY 0 true

/-- A command that waited for a tamper burn runs. -/
def State.fuseQueued (s : State) : State :=
  match s.fuses.run, s.fuses.queued with
  | none, some (v, data, core) =>
    ((s.modFuses fun f => { f with queued := none }).setFlag Fld.FU_STATUS_BUSY 0 false).fuseCommand v data core
  | _, _ => s

/-- A write of FU_CMD (R310). -/
def State.writeFuCmd (s : State) (req : Requester) (v : Word) : State :=
  if !fromDie0 req then s.report 0 0x9006 (openSource 0x9006) else s.fuseTake v true

/-- A write of FU_WDATA (R310). -/
def State.writeFuWdata (s : State) (req : Requester) (v : Word) : State :=
  if fromDie0 req then s.wr .FU_WDATA 0 v else s.report 0 0x9006 (openSource 0x9006)

/-- FUSE_PULSE_END (R311). During a deferral only the pulse that was in progress ends; no other begins (R238). -/
def execFusePulseEnd (result : PulseResult) (s : State) : Host.Outcome State Fault Refusal :=
  .next (s.when (s.platLive && (!s.deferring || s.seq.pulse)) fun s =>
    let s := (s.pulseEnd result).tamperGo.fuseQueued
    if s.seq.wait then { s with seq := { s.seq with pulse := false } } else s)

/-- VFUSE_EXCURSION (R311): the pulse ends at once, and the command with RESULT 0x5. -/
def execVfuseExcursion (s : State) : Host.Outcome State Fault Refusal :=
  let out (s : State) : State :=
    { s with seq := { s.seq with vfuseOut := true } }
  .next (s.when s.platLive fun s =>
    match s.fuses.run with
    | none => out s
    | some r => (((out s).fuseFault 0x9005 r.die ((r.todo.map fun t => t.row).headD 0)).fuseEnds 5).tamperGo.fuseQueued)

/-- A command word with its OP. -/
def fuseWord (op : Nat) (v : Word) : Word := Fld.FU_CMD_OP.put v op

/-- READ (R303). -/
def execFuRead (req : Requester) (value : Word) (s : State) : Host.Outcome State Fault Refusal :=
  .next (s.platAccess req fun s => s.writeFuCmd req (fuseWord 1 value))

/-- READ_MARGIN (R303). -/
def execFuReadMargin (req : Requester) (value : Word) (s : State) : Host.Outcome State Fault Refusal :=
  .next (s.platAccess req fun s => s.writeFuCmd req (fuseWord 2 value))

/-- PROGRAM (R312). -/
def execFuProgram (req : Requester) (value : Word) (s : State) : Host.Outcome State Fault Refusal :=
  .next (s.platAccess req fun s => s.writeFuCmd req (fuseWord 3 value))

/-- FINALISE (R314). -/
def execFuFinalise (req : Requester) (value : Word) (s : State) : Host.Outcome State Fault Refusal :=
  .next (s.platAccess req fun s => s.writeFuCmd req (fuseWord 4 value))

/-- GEN_UDS (R316). -/
def execFuGenUds (req : Requester) (value : Word) (s : State) : Host.Outcome State Fault Refusal :=
  .next (s.platAccess req fun s => s.writeFuCmd req (fuseWord 5 value))

/-- ADVANCE_ROLLBACK (R317). -/
def execFuAdvanceRollback (req : Requester) (value : Word) (s : State) : Host.Outcome State Fault Refusal :=
  .next (s.platAccess req fun s => s.writeFuCmd req (fuseWord 6 value))

/-- ADVANCE_TAMPER (R317). -/
def execFuAdvanceTamper (req : Requester) (value : Word) (s : State) : Host.Outcome State Fault Refusal :=
  .next (s.platAccess req fun s => s.writeFuCmd req (fuseWord 7 value))

/-- REVOKE (R318). -/
def execFuRevoke (req : Requester) (value : Word) (s : State) : Host.Outcome State Fault Refusal :=
  .next (s.platAccess req fun s => s.writeFuCmd req (fuseWord 8 value))

/-- ADVANCE_LC (R319). -/
def execFuAdvanceLc (req : Requester) (value : Word) (s : State) : Host.Outcome State Fault Refusal :=
  .next (s.platAccess req fun s => s.writeFuCmd req (fuseWord 9 value))

/-- MARGIN_SCAN (R321). -/
def execFuMarginScan (req : Requester) (value : Word) (s : State) : Host.Outcome State Fault Refusal :=
  .next (s.platAccess req fun s => s.writeFuCmd req (fuseWord 10 value))

/-- JTAG fuse instructions are offered (Table 10.5, R322). -/
def State.jtagFuses (s : State) : Bool := decide (s.lc ≤ 2)

/-- FUCMD (R322): Update-DR writes FU_WDATA and FU_CMD under R310. -/
def execFucmd (wdata cmd : Word) (s : State) : Host.Outcome State Fault Refusal :=
  .next (s.when s.platLive fun s =>
    if !s.jtagFuses then { s with jtag := { s.jtag with ir := 0xFF } }
    else
      let s := ({ s with jtag := { s.jtag with ir := 0x40 } }).wr .FU_WDATA 0 wdata
      s.fuseTake cmd false)

/-- FU_STATUS as it reads: VFUSE_OK shows the supply now. -/
def State.readFuStatus (s : State) : Word := Fld.FU_STATUS_VFUSE_OK.put (s.rd .FU_STATUS 0) (b2n s.vfuseOk)

/-- The bits of a word, least significant first. -/
def wordBits (w : Word) : List Bool := (List.range 32).map fun k => bitOf w.toNat k

/-- FUSTAT (R322): captures FU_STATUS in [31:0] and FU_RDATA in [63:32]. -/
def execFustat (s : State) : Host.Outcome State Fault Refusal :=
  .next (s.when s.platLive fun s =>
    if !s.jtagFuses then ({ s with jtag := { s.jtag with ir := 0xFF } }).emit (.tdo [false])
    else ({ s with jtag := { s.jtag with ir := 0x41 } }).emit (.tdo (wordBits s.readFuStatus ++ wordBits (s.rd .FU_RDATA 0))))

end Sys2Proof.Machine
end

