-- ==== Sys2Proof/Machine/Colophon.lean ====
section
/-! DEFINITION. Colophons and the tokens that share their form: layout, signatures, refusal codes (R131, R132, Tables 4.2
and 4.3), for trees, firmware slots, image sessions, bind and unlock tokens. -/

namespace Sys2Proof.Machine

/-- Bytes of a span all read zero. -/
def zerosAt (c : List Byte) (o n : Nat) : Bool := (sliceB c o n).all fun b => decide (b = 0)

/-- SIGS of a colophon or token. -/
def coSigs (c : List Byte) : Nat := ofBe (sliceB c 6 2)
def coEcdsa (c : List Byte) : Bool := bitOf (coSigs c) 0
def coMldsa (c : List Byte) : Bool := bitOf (coSigs c) 1
def coKeyE (c : List Byte) : Nat := (byteAt c 8).toNat
def coKeyM (c : List Byte) : Nat := (byteAt c 9).toNat
def coPubE (c : List Byte) : List Byte := sliceB c 0x80 97
def coSigE (c : List Byte) : List Byte := sliceB c 0x100 96
def coPubM (c : List Byte) : List Byte := sliceB c 0x180 2592
def coSigM (c : List Byte) : List Byte := sliceB c 0xBA0 4627
/-- The signed message: bytes 0x000 to 0x07F. -/
def coMessage (c : List Byte) : List Byte := sliceB c 0 0x80
def coDepth (c : List Byte) : Nat := (byteAt c 0xB).toNat
def coRegion (c : List Byte) : Nat := ofBe (sliceB c 0xC 4)
def coLeaves (c : List Byte) : Nat := ofBe (sliceB c 0x10 4)
def coVersion (c : List Byte) : Nat := ofBe (sliceB c 0x14 4)
def coRoot (c : List Byte) : Digest := sliceB c 0x30 48

/-- The zero fields from the keys on, those of an absent signature included (R131). -/
def coKeyZeros (c : List Byte) : Bool :=
  zerosAt c 0xE1 31 && zerosAt c 0x160 32 && zerosAt c 0x1DB3 589 && decide (coSigs c < 4) &&
  (coEcdsa c || (decide (byteAt c 8 = 0) && zerosAt c 0x80 97 && zerosAt c 0x100 96)) &&
  (coMldsa c || (decide (byteAt c 9 = 0) && zerosAt c 0x180 2592 && zerosAt c 0xBA0 4627))

/-- The form of a colophon holds (RESULT 0x3 otherwise). -/
def coForm (c : List Byte) : Bool :=
  decide (ofBe (sliceB c 0 4) = 0x43504C4E) && decide (ofBe (sliceB c 4 2) = 1) && decide (byteAt c 0xA = 3) &&
  decide (1 ≤ coLeaves c) && decide (coLeaves c ≤ 0x100000) && zerosAt c 0x1C 20 && zerosAt c 0x60 32 && coKeyZeros c

/-- A key of a colophon matches its slot, which is programmed and not revoked, or the manufacturing key (R132, R277). -/
def State.keyOk (s : State) (pub : List Byte) (slot : Nat) (mfg : Bool) : Bool :=
  if mfg then decide (hashOf pub = digestOf Config.manufacturingKey)
  else decide (s.keySlot slot = some (hashOf pub)) && !s.revoked slot

/-- The refusal of the signatures of a colophon or token of good form: 0x4, 0x5, 0x6 (Table 4.3). `mfg` checks under the
manufacturing key, which needs the ECDSA signature alone (R277). -/
def State.sigRefusal (s : State) (c : List Byte) (mfg : Bool) : Option Nat :=
  let needE := mfg || s.flag Fld.FU_POLICY_ECDSA_REQ 0
  let needM := !mfg && s.flag Fld.FU_POLICY_MLDSA_REQ 0
  if (needE && !coEcdsa c) || (needM && !coMldsa c) then some 4
  else if (coEcdsa c && !s.keyOk (coPubE c) (coKeyE c) mfg) || (coMldsa c && !s.keyOk (coPubM c) (coKeyM c) false) then
    some 5
  else if (coEcdsa c && !Config.ecdsaVerify (coPubE c) (coMessage c) (coSigE c)) ||
      (coMldsa c && !Config.mldsaVerify (coPubM c) (coMessage c) (coSigM c)) then some 6
  else none

/-- What the check reads on the way: the key slots it names, and the verifications it counts (R304, Table 15.1). -/
def State.sigReads (s : State) (c : List Byte) (mfg : Bool) : State :=
  match s.sigRefusal c mfg with
  | some 4 => s
  | r =>
    let s := if coEcdsa c && !mfg then s.keySlotRead (coKeyE c) else s
    let s := if coMldsa c then s.keySlotRead (coKeyM c) else s
    let s := if (coEcdsa c && !mfg) || coMldsa c then s.revokedRead else s
    if r = some 5 then s else s.count 0 0x3E8 (b2n (coEcdsa c) + b2n (coMldsa c))

/-- The refusal of a colophon by the conditions 0x3 to 0x6 of Table 4.3, in table order. -/
def State.coRefusal (s : State) (c : List Byte) (mfg : Bool) : Option Nat :=
  if !coForm c then some 3 else s.sigRefusal c mfg

/-- The state after a colophon's keys have been read. -/
def State.coReads (s : State) (c : List Byte) (mfg : Bool) : State := if !coForm c then s else s.sigReads c mfg

/-- Write a digest into twelve registers, least significant byte first (TD_ROOT, XIP_ROOT, KU_DEVID). -/
def State.putDigest (s : State) (n : RegName) (i : Nat) (dg : Digest) : State :=
  s.forEach (List.range 12) fun s k => s.wr n (i + k) (BitVec.ofNat 32 (ofLe (sliceB dg (4 * k) 4)))

end Sys2Proof.Machine
end

