-- ==== Sys2Proof/Machine/Keys.lean ====
section
/-! DEFINITION. The key unit's derivations and the sealed unit (R176, R177, R324 to R326). -/

namespace Sys2Proof.Machine

/-- The bytes of a quoted label, in ASCII and without a terminator (R325). -/
def ascii (l : String) : List Byte := l.toList.map fun c => BitVec.ofNat 8 c.toNat

/-! ## Derivations (Table 11.1) -/

/-- CDI_0. -/
def cdi0Of (u : Digest) : Digest := hashOf (0x00 :: (ascii "SPG-CDI0" ++ u))

/-- The DeviceID P-384 private key. -/
def didE (cdi0 : Digest) : BitVec 384 :=
  Config.p384Private ((hashOf (cdi0 ++ ascii "DID-E" ++ [0x01]) ++ hashOf (cdi0 ++ ascii "DID-E" ++ [0x02])).take 56)

/-- The seed ξ of the DeviceID ML-DSA-87 key. -/
def didM (cdi0 : Digest) : List Byte := (hashOf (cdi0 ++ ascii "DID-M")).take 32

/-- The vault sealing key. -/
def sealKeyOf (cdi0 : Digest) : List Byte := (hashOf (cdi0 ++ ascii "VAULT")).take 32

/-- CDI_1 of an image. -/
def cdi1Of (u mfw : Digest) : Digest := hashOf (0x01 :: (ascii "SPG-CDI1" ++ u ++ mfw))

/-- Change the key units' state. -/
def State.modKeys (s : State) (f : Keys → Keys) : State := { s with keys := f s.keys }

/-- A unit holds identity keys. -/
def State.identity (s : State) : Bool := s.keys.holds0 || s.keys.holds1

/-- Write bytes into word registers, least significant byte first (KU_DEVID, KU_BIND_NONCE). -/
def State.putBytes (s : State) (n : RegName) (i words : Nat) (b : List Byte) : State :=
  s.forEach (List.range words) fun s k => s.wr n (i + k) (BitVec.ofNat 32 (ofLe (sliceB b (4 * k) 4)))

/-- Show IDENTITY, STANDBY_OK, ACTIVE_DIE and the key digests (R326, R343). -/
def State.showKeys (s : State) : State :=
  let id := s.identity
  let s := (s.setFlag Fld.KU_STATUS_IDENTITY 0 id).setFlag Fld.KU_STATUS_STANDBY_OK 0 s.keys.holds1
  match s.keys.cdi0 with
  | some c =>
    if id then
      (s.putBytes .KU_DEVID 0 12 (hashOf (Config.ecdsaPublic (didE c)))).putBytes .KU_DEVIDM 0 12
        (hashOf (Config.mldsaPublic (didM c)))
    else (s.putBytes .KU_DEVID 0 12 []).putBytes .KU_DEVIDM 0 12 []
  | none => (s.putBytes .KU_DEVID 0 12 []).putBytes .KU_DEVIDM 0 12 []

/-- The bytes that KU_DEVID holds. -/
def State.deviceId (s : State) : Digest := (List.range 12).flatMap fun k => leBytes 4 (s.rd .KU_DEVID k).toNat

/-- The bytes that KU_FWMEAS holds: M_fw. -/
def State.fwMeas (s : State) : Digest := (List.range 12).flatMap fun k => leBytes 4 (s.rd .KU_FWMEAS k).toNat

/-- The conditions of R324 on the state and the fuses. -/
def State.identityAllowed (s : State) : Bool :=
  (decide (s.lc = 2) || decide (s.lc = 3)) && decide (s.regionState 2 ≠ 2)

/-- The sealing key as die d's key unit holds it (R324). -/
def State.sealKey (s : State) (d : Nat) : Option (List Byte) :=
  match s.keys.cdi0 with
  | some c => if mem d s.keys.sealing then some (sealKeyOf c) else none
  | none => none

/-- Die 0's unit agrees a transport key with die d's unit (R324): an elliptic-curve secret of two fresh key pairs. -/
def State.agreeTransport (s : State) (d : Nat) : State :=
  let r := s.draw
  let k := (hashOf (ascii "SPG-XPORT" ++ beBytes 48 r.1.toNat ++ [BitVec.ofNat 8 d])).take 32
  r.2.modKeys fun x => { x with transport := Tbl.set x.transport d k [] }

/-! ## Sealed units (Table 5.1) -/

/-- The IV of a unit: 0x00 ‖ die ‖ KIND ‖ GEN. -/
def sealIv (d kind gen : Nat) : List Byte := 0x00 :: BitVec.ofNat 8 d :: (beBytes 2 kind ++ beBytes 8 gen)

/-- Bytes 0x00 to 0x1F of a unit. -/
def sealHead (d kind length gen : Nat) : List Byte :=
  beBytes 4 0x5345414C ++ beBytes 2 kind ++ beBytes 2 length ++ beBytes 8 gen ++ sealIv d kind gen ++
    List.replicate 4 0

/-- The additional authenticated data of a unit at a logical address of a device (port × 2 + DEV). -/
def sealAad (head : List Byte) (addr dev : Nat) : List Byte := head ++ beBytes 8 addr ++ [BitVec.ofNat 8 dev]

/-- Seal a plaintext. -/
def sealUnit (key : List Byte) (d kind gen addr dev : Nat) (plain : List Byte) : List Byte :=
  let head := sealHead d kind plain.length gen
  let r := Config.gcmSeal key (sealIv d kind gen) (sealAad head addr dev) plain
  head ++ sliceB r.2 0 16 ++ List.replicate 16 0 ++ r.1

/-- Open a unit: none when MAGIC, KIND, the IV, the length or the tag fails. -/
def openUnit (key : List Byte) (d kind addr dev : Nat) (b : List Byte) : Option (List Byte) :=
  let length := ofBe (sliceB b 6 2)
  let gen := ofBe (sliceB b 8 8)
  if ofBe (sliceB b 0 4) ≠ 0x5345414C ∨ ofBe (sliceB b 4 2) ≠ kind ∨ length = 0 ∨ 4032 < length ∨
      sliceB b 0x10 12 ≠ sealIv d kind gen then none
  else
    Config.gcmOpen key (sealIv d kind gen) (sealAad (sliceB b 0 0x20) addr dev) (sliceB b 0x40 length) (sliceB b 0x20 16)

/-- The GEN for the next sealed unit of a die and KIND (R177). -/
def State.nextGen (s : State) (d kind : Nat) : Nat × State :=
  let g := Tbl.get (s.die d).care.gens kind 0
  (g, s.modDie d fun x => { x with care := { x.care with gens := Tbl.set x.care.gens kind (g + 1) 0 } })

end Sys2Proof.Machine
end

