-- ==== Sys2Proof/Machine/MasterPort.lean ====
section
/-! DEFINITION. The master ports and the XIP window (08): queue entries, frames, polls, and verified fills (R250 to R269,
R288, R293). -/

namespace Sys2Proof

/-- Place of a requester in the order of R260. -/
def Machine.ownerRank (owner : Nat) : Nat :=
  match owner with
  | 1 => 0
  | 2 => 1
  | _ => 2

/-- A requester that waits goes ahead of another (R260): over 200 µs the one that has waited longest, else by the order of the
requesters. -/
def MpEvent.yields (ev : MpEvent) (x : Nat × Nat) : Bool :=
  if 200 < x.2 then decide (ev.waited < x.2) else decide (ev.waited ≤ 200) && decide (Machine.ownerRank x.1 < Machine.ownerRank ev.owner)

/-- The frame that reads a hardware read's failed run again (R263). -/
def MpEvent.rerun (ev : MpEvent) : MpEvent :=
  { ev with addr := ev.addr + 128 * ev.badRun, inbound := Machine.sliceB ev.inbound (128 * ev.badRun) (min 128 (ev.inbound.length - 128 * ev.badRun)) }

end Sys2Proof

namespace Sys2Proof.Machine

/-! ## Ports -/

/-- A master port. -/
def State.port (s : State) (p : Nat) : Port := Tbl.get s.ports p Port.reset

/-- Change a master port. -/
def State.modPort (s : State) (p : Nat) (f : Port → Port) : State :=
  { s with ports := Tbl.set s.ports p (f (s.port p)) Port.reset }

/-- The die that holds a port, and whose core SRAM holds its ring (R21, R253). -/
def portDie (p : Nat) : Nat := if p = 2 then 1 else 0

/-- The port's domain runs (Table 8.1). -/
def State.portLive (s : State) (p : Nat) : Bool := s.platLive && s.reached (portDie p)

/-- A 0x61xx fault: SOURCE gives the port and the select (R269). -/
def State.mpFault (s : State) (p : Nat) (sel : Bool) (code : Nat) : State := s.report (portDie p) code (p + 4 * b2n sel)

/-- A word of core SRAM, least significant byte first (notes/assumptions/9.md). -/
def State.sramWord (s : State) (d a : Nat) : Nat := ofLe (s.sramBytes d a 4)

/-- Write a word of core SRAM. -/
def State.sramPutWord (s : State) (d a v : Nat) : State := s.sramStore d a (leBytes 4 v)

/-! ## Queue entries (Table 8.3) -/

/-- A queue entry as its four words. -/
structure QEntry where
  w0 : Nat
  w1 : Nat
  w2 : Nat
  deriving DecidableEq, Repr

def QEntry.dir (e : QEntry) : Nat := bitsOf e.w0 0 2
def QEntry.imm (e : QEntry) : Bool := bitOf e.w0 2
def QEntry.lanes (e : QEntry) : Nat := 2 ^ bitsOf e.w0 3 2
def QEntry.dtr (e : QEntry) : Bool := bitOf e.w0 5
def QEntry.size (e : QEntry) : Nat := (bitsOf e.w0 6 3 + 1) * 4
def QEntry.sel (e : QEntry) : Bool := bitOf e.w0 9
def QEntry.cont (e : QEntry) : Bool := bitOf e.w0 10
def QEntry.selw (e : QEntry) : Bool := bitOf e.w0 11
def QEntry.wr (e : QEntry) : Bool := bitOf e.w0 12
def QEntry.poll (e : QEntry) : Bool := bitOf e.w0 13
def QEntry.irq (e : QEntry) : Bool := bitOf e.w0 14
def QEntry.trim (e : QEntry) : Nat := bitsOf e.w0 18 5
def QEntry.count (e : QEntry) : Nat := if e.w2 % 2 ^ 16 = 0 then 65536 else e.w2 % 2 ^ 16

/-- Bits of the entry's stream, the last unit trimmed (R254, R257). -/
def QEntry.bits (e : QEntry) : Nat :=
  if e.trim = 0 then e.count * e.size else (e.count - 1) * e.size + e.trim

/-- Bytes that hold the stream. -/
def QEntry.bytes (e : QEntry) : Nat := (e.bits + 7) / 8

/-- Ring slots of a port. -/
def State.ringSize (s : State) (p : Nat) : Nat := 2 ^ s.getF Fld.MP_QCTL_SIZE p

/-- Sentry address of ring slot i. -/
def State.ringAddr (s : State) (p i : Nat) : Nat := (s.rd .MP_QBASE p).toNat + 16 * (i % s.ringSize p)

/-- The entry in ring slot i. -/
def State.entryAt (s : State) (p i : Nat) : QEntry :=
  let d := portDie p
  let a := s.ringAddr p i
  { w0 := s.sramWord d a, w1 := s.sramWord d (a + 4), w2 := s.sramWord d (a + 8) }

/-- Entries between HEAD and TAIL. -/
def State.ringReady (s : State) (p : Nat) : Nat :=
  let n := s.ringSize p
  (s.getF Fld.MP_QPTR_TAIL p + n - s.getF Fld.MP_QPTR_HEAD p) % n

/-- The entries of a frame: chained by CONT, whole before TAIL (R253). -/
def State.chain (s : State) (p i : Nat) : Nat → Option (List QEntry)
  | 0 => none
  | k + 1 =>
    let e := s.entryAt p i
    if e.cont then (s.chain p (i + 1) k).map fun l => e :: l else some [e]

/-- The refusals of R255 for one entry. -/
def QEntry.refused (e : QEntry) (last : Bool) : Bool :=
  decide (e.dir = 3) || (e.dtr && decide (e.lanes ≠ 8)) ||
  (if e.dtr then decide (e.size % 8 ≠ 0) else decide (e.size % e.lanes ≠ 0)) ||
  (e.imm && decide (32 < e.count * e.size)) ||
  (e.selw && (e.cont || e.poll || decide (e.trim ≠ 0))) ||
  (decide (e.trim ≠ 0) && ((if e.dtr then decide (e.trim % 8 ≠ 0) else decide (e.trim % e.lanes ≠ 0)) ||
    decide (e.size ≤ e.trim) || e.cont)) ||
  (e.poll && (!last || decide (e.dir ≠ 1) || !e.imm))

/-- Flit phase of the entry's data (R198): 1 is the address phase. -/
def QEntry.ph (e : QEntry) : Nat := bitsOf e.w0 16 2

/-- Bytes an outbound entry sends, zero below the last bit (R254). -/
def State.outbound (s : State) (p : Nat) (e : QEntry) : List Byte :=
  if e.imm then (beBytes 4 e.w1).take e.bytes else s.sramBytes (portDie p) e.w1 e.bytes

/-- The address that an address entry names lies in the folio (R416). -/
def State.namesFolio (s : State) (p : Nat) (e : QEntry) : Bool :=
  let a := ofBe (s.outbound p e) / 2 ^ (8 * e.bytes - e.bits)
  let base := (s.rd .FO_BASE 0).toNat
  decide (base ≤ a) && decide (a < base + (s.rd .FO_SIZE 0).toNat)

/-- A write frame on HOME that R416 bars once FO_SIZE is written. -/
def State.folioBars (s : State) (p : Nat) (es : List QEntry) : Bool :=
  let addrs := es.filter fun e => decide (e.ph = 1)
  decide (p = 0) && (es.any fun e => e.wr) && s.folio.sizeSet && (decide (addrs = []) || addrs.any fun e => s.namesFolio p e)

/-- A frame is refused before it starts (R255, R293, R416). -/
def State.frameRefused (s : State) (p : Nat) (es : List QEntry) : Bool :=
  let first := es.headD { w0 := 0, w1 := 0, w2 := 0 }
  decide (64 < es.length) || (es.any fun e => e.sel != first.sel) ||
  ((es.zipIdx).any fun x => x.1.refused (decide (x.2 + 1 = es.length))) ||
  (decide (p = 0) && first.wr && decide (s.getF Fld.BT_STATUS_SLOT 0 = b2n first.sel)) ||
  (first.wr && s.folioBars p es)

/-- Keep the first `k` bits of bytes, zeros below them. -/
def keepBits (k : Nat) (l : List Byte) : List Byte :=
  let r := k % 8
  if r = 0 then sliceB l 0 (k / 8)
  else sliceB l 0 (k / 8) ++ [BitVec.ofNat 8 ((byteAt l (k / 8)).toNat / 2 ^ (8 - r) * 2 ^ (8 - r))]

/-- Store what an inbound entry captured: into its buffer, or left-aligned into word 1 (R254, R257). -/
def State.inboundStore (s : State) (p i : Nat) (e : QEntry) (b : List Byte) : State :=
  let v := keepBits e.bits b
  if e.imm then s.sramPutWord (portDie p) (s.ringAddr p i + 4) (ofBe (sliceB v 0 4))
  else s.sramStore (portDie p) e.w1 v

/-- Store what every inbound entry of a frame captured. -/
def State.storeAll (s : State) (p i : Nat) : List QEntry → List Byte → State
  | [], _ => s
  | e :: es, b =>
    if e.dir = 1 then (s.inboundStore p i e (b.take e.bytes)).storeAll p (i + 1) es (b.drop e.bytes)
    else s.storeAll p (i + 1) es b

/-- The part writes word 3 of the first k entries from HEAD and moves HEAD past them (R259). -/
def State.finishEntries (s : State) (p k result tries : Nat) : State :=
  let h := s.getF Fld.MP_QPTR_HEAD p
  let s := s.forEach (List.range k) fun s j =>
    s.sramPutWord (portDie p) (s.ringAddr p (h + j) + 12) (result + 2 ^ 16 * min tries 0xFFFF)
  s.setF Fld.MP_QPTR_HEAD p ((h + k) % s.ringSize p)

/-- The entries of the firmware frame at HEAD. -/
def State.headFrame (s : State) (p : Nat) : Option (List QEntry) :=
  s.chain p (s.getF Fld.MP_QPTR_HEAD p) (s.ringReady p)

/-! ## Register writes (R253, R269) -/

/-- A write of MP_QPTR: TAIL modulo the ring size. -/
def State.writeQptr (s : State) (p : Nat) (v : Word) : State :=
  s.setF Fld.MP_QPTR_TAIL p (Fld.MP_QPTR_TAIL.of v % s.ringSize p)

/-- MP_QPTR_WRITE (R253). -/
def execMpQptrWrite (req : Requester) (p : PortId) (value : Word) (stores : Stores) (s : State) :
    Host.Outcome State Fault Refusal :=
  .next (s.portAccess req p.val fun s => (s.stores stores).writeQptr p.val value)

/-- A write of MP_QBASE: discarded with 0x6101 while RUN = 1. -/
def State.writeQbase (s : State) (p : Nat) (v : Word) : State :=
  if s.flag Fld.MP_QCTL_RUN p then s.mpFault p false 0x6101 else s.wr .MP_QBASE p (v &&& ~~~ 0x3F#32)

/-- A write of MP_QCTL: a change of SIZE is discarded with 0x6101 while RUN = 1; SIZE is held to 4 to 10. -/
def State.writeQctl (s : State) (p : Nat) (v : Word) : State :=
  let size := max 4 (min 10 (Fld.MP_QCTL_SIZE.of v))
  let old := s.getF Fld.MP_QCTL_SIZE p
  let run := s.flag Fld.MP_QCTL_RUN p
  let s := s.swWrite .MP_QCTL p v
  if run ∧ size ≠ old then (s.setF Fld.MP_QCTL_SIZE p old).mpFault p false 0x6101
  else s.setF Fld.MP_QCTL_SIZE p size

/-- MP_QUEUE_CONFIG_WRITE (R253). -/
def execMpQueueConfigWrite (req : Requester) (p : PortId) (qctl : Bool) (value : Word) (s : State) :
    Host.Outcome State Fault Refusal :=
  .next (s.portAccess req p.val fun s =>
    if qctl then s.writeQctl p.val value else s.writeQbase p.val value)

/-- A write of MP_CTRL: DIV below 4 stores 4 (R251). -/
def State.writeMpCtrl (s : State) (p : Nat) (v : Word) : State :=
  let s := s.swWrite .MP_CTRL p v
  s.setF Fld.MP_CTRL_DIV p (max 4 (s.getF Fld.MP_CTRL_DIV p))

/-! ## XIP (R265 to R268) -/

/-- The number under which die 0's digest cache holds the groups of the image's tree, beside the 256 descriptors. -/
def imageTree : Nat := 256

/-- REGION_ID of the firmware region (R270). -/
def fwRegion : Nat := 0x53504657

/-- The root of the image's tree. -/
def State.xipRoot (s : State) : Digest := (List.range 12).flatMap fun k => leBytes 4 (s.rd .XIP_ROOT k).toNat

/-- The digest that vouches for group k of level l of an image tree with `leaves` leaves and a root (R130). -/
def State.imageVouches (s : State) (leaves : Nat) (root : Digest) (t l k : Nat) : Option Digest :=
  if l + 1 = depthOf leaves then some root else (s.trusted 0 t (l + 1) (k / 8)).map fun p => p.entry k

/-- Check a group of an image tree against its trusted parent and cache it; the top two levels are pinned (R265). A mismatch is
confirmed on a second lane (R223). -/
def State.imageGroup (s : State) (leaves : Nat) (root : Digest) (t l k : Nat) (raw : List Byte) (r : LaneRun) : Bool × State :=
  let g := groupBytes leaves l k raw
  match s.imageVouches leaves root t l k with
  | none => (false, s)
  | some v =>
    let x := (s.useLine 0 t (l + 1) (k / 8)).hashCheck 0 (nodeMessage fwRegion (l + 1) k g) v r
    if x.1 then (true, x.2.cacheGroup 0 t l k g) else x

/-- A line of the image's tree whose check bits fail on reading is dropped, with 0x300B, and its group is fetched again (R138). -/
def State.imageDrop (s : State) (t leaf : Nat) (levels : List Nat) : State :=
  s.forEach levels.eraseDups fun s l =>
    let k := leaf / 8 ^ (l + 1)
    if (s.trusted 0 t l k).isNone then s else (s.cacheDrop 0 fun y => y.isAt t l k).report 0 0x300B 0

/-- Check the groups of a leaf's path, top level first, using the cache where it holds them; `path` is level 0 first. -/
def State.imagePath (s : State) (leaves : Nat) (root : Digest) (t leaf : Nat) (r : BootRead) : List Nat → Bool × State
  | [] => (true, s)
  | l :: rest =>
    let k := leaf / 8 ^ (l + 1)
    if (s.trusted 0 t l k).isSome then s.imagePath leaves root t leaf r rest
    else
      let x := s.imageGroup leaves root t l k (r.path.getD l []) (r.pathHash.getD l {})
      if x.1 then x.2.imagePath leaves root t leaf r rest else x

/-- A block of an image verifies as a leaf, with the groups of its path (R130); a lane of die e hashes it (R266, R283). -/
def State.imageLeaf (s : State) (leaves : Nat) (root : Digest) (t leaf e : Nat) (r : BootRead) : Bool × State :=
  let x := (s.imageDrop t leaf r.lines).imagePath leaves root t leaf r (List.range (depthOf leaves)).reverse
  if !x.1 then x
  else match (x.2.trusted 0 t 0 (leaf / 8)).map fun g => g.entry leaf with
    | some v => (x.2.useLine 0 t 0 (leaf / 8)).hashCheck e (leafMessage fwRegion leaf (sliceB r.data 0 4096)) v r.hash
    | none => (false, x.2)

/-- Change the XIP window's state and show LINES and FULL. -/
def State.modXip (s : State) (f : Xip → Xip) : State :=
  let x := f s.xip
  let n := x.lines.length
  let s := { s with xip := x }
  (s.setF Fld.XIP_STATUS_LINES 0 (n % 64)).setFlag Fld.XIP_STATUS_FULL 0 (decide (64 ≤ n))

/-- A core of a die. -/
def State.core (s : State) (d k : Nat) : SentryCore := Tbl.get (s.die d).cores k SentryCore.held

/-- Change a core of a die. -/
def State.modCore (s : State) (d k : Nat) (f : SentryCore → SentryCore) : State :=
  s.modDie d fun x => { x with cores := Tbl.set x.cores k (f (Tbl.get x.cores k SentryCore.held)) SentryCore.held }

/-- The part forces expiry (R276): the first sentry's watchdog expires 1 ms from now, and kicks are ignored. -/
def State.forceExpiry (s : State) : State :=
  let us := s.us
  ({ s with boot := { s.boot with force := true } } : State).modCore 0 0 fun c => { c with kickUs := us, period := 1 }

/-- The first sentry still runs the mask ROM. -/
def State.inRom (s : State) : Bool := decide (s.getF Fld.BT_STATUS_SLOT 0 = 3) && !s.flag Fld.BT_LOCK_ROM_LOCKED 0

/-- SN_TRAP.CAUSE of a bus error. -/
def trapCause (k : AccessKind) : Nat :=
  match k with
  | .fetch => 1
  | .load => 2
  | .store => 3

/-- A bus error traps a core (R288); a trap taken while the ROM runs forces expiry (R279). -/
def State.busErrorTrap (s : State) (d k : Nat) (kind : AccessKind) (addr : Nat) : State :=
  let i := 4 * d + k
  let s := (s.setF Fld.SN_TRAP_CAUSE i (trapCause kind)).wr .SN_TRAP_ADDR i (BitVec.ofNat 32 addr)
  let base := s.rd .SN_TVEC i
  let s := s.modCore d k fun c => { c with pc := base, inTrap := true, xipWait := none }
  let s := (s.count d (0x3A0 + 0x10 * k + 9) 1).report d 0x6201 (d + 8 * k)
  if d = 0 ∧ k = 0 ∧ s.inRom then s.forceExpiry else s

/-- A select's bit. -/
def selBit (sel : Bool) : Nat := 2 ^ b2n sel

/-- No fill runs on the XIP select: a write frame is open there, or one awaits its poll (R261, R268). -/
def State.xipBarred (s : State) : Bool :=
  let sel := s.flag Fld.XIP_CTRL_SEL 0
  bitOf (s.getF Fld.MP_STATUS_WAIT_WR 0) (b2n sel) || (s.port 0).run.any fun r => r.wr && decide (r.sel = sel)

/-- Start fills for waiting misses while fewer than four are in progress (R266) and frames may run (R261). A fill that is reissued
keeps the time it started (R267). -/
def State.xipStart (s : State) : Nat → State
  | 0 => s
  | k + 1 =>
    match s.xip.queued with
    | [] => s
    | f :: rest =>
      if 4 ≤ s.xip.fills.length ∨ s.xipBarred then s
      else
        let us := s.us
        let g := { f with since := some (f.since.getD us) }
        (s.modXip fun x =>
          { x with queued := rest, fills := x.fills ++ [g],
                   lines := x.lines.take (63 - x.fills.length) }).xipStart k

/-- A write frame lowers the XIP select (R268): every line goes, and the fills in progress are discarded and wait to be issued again. -/
def State.xipWritten (s : State) : State :=
  s.modXip fun x => { x with lines := [], fills := [], queued := x.fills ++ x.queued }

/-- Add a waiter to a fill of a leaf. -/
def joinFill (l : List XipFill) (leaf : Nat) (w : XipWaiter) : List XipFill :=
  l.map fun f => if f.leaf = leaf then { f with waiters := f.waiters ++ [w] } else f

/-- The window serves a load or fetch (R265 to R267). -/
def State.xipRead (s : State) (d k addr : Nat) (kind : AccessKind) : State :=
  let a := addr - 0x60000000
  let leaf := a / 4096
  let w : XipWaiter := { die := d, core := k, addr := addr, kind := kind }
  if !s.flag Fld.XIP_CTRL_ENABLE 0 ∨ s.getF Fld.XIP_LEAVES_LEAF_COUNT 0 ≤ leaf ∨ mem leaf s.xip.failed then
    s.busErrorTrap d k kind addr
  else match s.xip.lines.find? fun p => decide (p.1 = leaf) with
    | some p =>
      (s.modXip fun x => { x with lines := p :: x.lines.filter fun q => decide (q.1 ≠ leaf) }).emit
        (.xipData d k (sliceB p.2 (a % 4096) 4))
    | none =>
      let s := (s.modCore d k fun c => { c with xipWait := some addr }).count 0 0x3F3 1
      if s.xip.fills.any fun f => decide (f.leaf = leaf) then s.modXip fun x => { x with fills := joinFill x.fills leaf w }
      else if s.xip.queued.any fun f => decide (f.leaf = leaf) then
        s.modXip fun x => { x with queued := joinFill x.queued leaf w }
      else (s.modXip fun x => { x with queued := x.queued ++ [{ leaf := leaf, waiters := [w] }] }).xipStart 4

/-- A store to the window: a bus error and 0x6106 (R268). -/
def State.xipStore (s : State) (d k addr : Nat) : State :=
  (s.mpFault 0 (s.flag Fld.XIP_CTRL_SEL 0) 0x6106).busErrorTrap d k .store addr

/-- XIP_READ (R265, R266). -/
def execXipRead (d : DieId) (k : CoreId) (addr : Nat) (kind : AccessKind) (s : State) : Host.Outcome State Fault Refusal :=
  .next (s.when (s.platLive && s.reached d.val && decide (0x60000000 ≤ addr) && decide (addr < 0x64000000)) fun s =>
    match kind with
    | .store => s.xipStore d.val k.val addr
    | _ => s.xipRead d.val k.val addr kind)

/-- XIP_FILL_DONE (R266, R267): the fill's path and block pass at the first or the second reading, or the fill fails. -/
def State.xipFillDone (s : State) (leaf : Nat) (first second : BootRead) : State :=
  match s.xip.fills.find? fun f => decide (f.leaf = leaf) with
  | none => s
  | some f =>
    let leaves := s.getF Fld.XIP_LEAVES_LEAF_COUNT 0
    let s := s.modXip fun x => { x with fills := x.fills.filter fun g => decide (g.leaf ≠ leaf) }
    let install (s : State) (b : List Byte) : State :=
      let blk := sliceB b 0 4096
      let on := s.flag Fld.XIP_CTRL_ENABLE 0
      let s := if on then s.modXip fun x => { x with lines := (leaf, blk) :: x.lines.take 63 } else s
      f.waiters.foldl (fun (s : State) (w : XipWaiter) => (s.modCore w.die w.core fun c => { c with xipWait := none }).emit
        (.xipData w.die w.core (sliceB blk ((w.addr - 0x60000000) % 4096) 4))) s
    let a := s.imageLeaf leaves s.xipRoot imageTree leaf 0 first
    let s := if a.1 then install a.2 first.data
      else
        let b := a.2.imageLeaf leaves s.xipRoot imageTree leaf 0 second
        if b.1 then install b.2 second.data
        else
          let s := b.2.mpFault 0 (s.flag Fld.XIP_CTRL_SEL 0) 0x6104
          let s := if s.flag Fld.XIP_STATUS_FAILED 0 then s
            else (s.setFlag Fld.XIP_STATUS_FAILED 0 true).setF Fld.XIP_STATUS_FAIL_LEAF 0 leaf
          let s := s.modXip fun x => { x with failed := x.failed ++ [leaf] }
          f.waiters.foldl (fun (s : State) (w : XipWaiter) => s.busErrorTrap w.die w.core w.kind w.addr) s
    s.xipStart 4

/-- XIP_FILL_DONE (R266). -/
def execXipFillDone (leaf : Nat) (first second : BootRead) (s : State) : Host.Outcome State Fault Refusal :=
  .next (s.when s.platLive fun s => s.xipFillDone leaf first second)

/-- A fill has run longer than STALL_US; 0 acts as 1 (R267). -/
def State.xipSlow (s : State) (f : XipFill) : Bool :=
  f.since.any fun t => decide (max 1 (s.getF Fld.XIP_CTRL_STALL_US 0) ≤ s.usSince t)

/-- XIP_STALL (R267): the waiting cores take a bus error; the fill continues. -/
def execXipStall (leaf : Nat) (s : State) : Host.Outcome State Fault Refusal :=
  .next (s.when s.platLive fun s =>
    match (s.xip.fills ++ s.xip.queued).find? fun f => decide (f.leaf = leaf) && s.xipSlow f with
    | none => s
    | some f =>
      if f.waiters = [] then s
      else
        let s := s.mpFault 0 (s.flag Fld.XIP_CTRL_SEL 0) 0x6105
        let clear (l : List XipFill) : List XipFill := l.map fun g => if g.leaf = leaf then { g with waiters := [] } else g
        let s := s.modXip fun x => { x with fills := clear x.fills, queued := clear x.queued }
        f.waiters.foldl (fun (s : State) (w : XipWaiter) => s.busErrorTrap w.die w.core w.kind w.addr) s)

/-- XIP_STORE (R268). -/
def execXipStore (d : DieId) (k : CoreId) (addr : Nat) (s : State) : Host.Outcome State Fault Refusal :=
  .next (s.when (s.platLive && s.reached d.val) fun s => s.xipStore d.val k.val addr)

/-- A write of XIP_CTRL (R265, R269): ENABLE needs ROOTED; clearing it drops every line and clears FAILED; SEL holds while
ENABLE = 1. -/
def State.writeXipCtrl (s : State) (v : Word) : State :=
  let was := s.flag Fld.XIP_CTRL_ENABLE 0
  let sel := s.getF Fld.XIP_CTRL_SEL 0
  let on := decide (Fld.XIP_CTRL_ENABLE.of v = 1) && (was || s.flag Fld.XIP_STATUS_ROOTED 0)
  let s := (s.swWrite .XIP_CTRL 0 v).setFlag Fld.XIP_CTRL_ENABLE 0 on
  let s := if was then s.setF Fld.XIP_CTRL_SEL 0 sel else s
  if was ∧ !on then
    ((s.modXip fun x => { x with lines := [], failed := [] }).setFlag Fld.XIP_STATUS_FAILED 0 false).setF
      Fld.XIP_STATUS_FAIL_LEAF 0 0
  else s

/-- XIP_CTRL_WRITE (R265). -/
def execXipCtrlWrite (req : Requester) (value : Word) (s : State) : Host.Outcome State Fault Refusal :=
  .next (s.platAccess req fun s => s.writeXipCtrl value)

/-- A write of XIP_BASE or XIP_TADDR: discarded while ENABLE = 1; low address bits read zero. -/
def State.writeXipAddr (s : State) (n : RegName) (low : Word) (v : Word) : State :=
  if s.flag Fld.XIP_CTRL_ENABLE 0 then s else s.wr n 0 (v &&& ~~~ low)

/-! ## Frames (R253 to R263) -/

/-- Frames go out on a port, each its phases in order (R254, R256); HOME and VLT0 count theirs (Table 15.1). -/
def State.mpEmit (s : State) (p : Nat) (sel : Bool) (frames : List (List MpPhase)) : State :=
  frames.foldl (fun (s : State) l => (s.emit (.mpFrame p sel l)).count 0 (0x3F1 + p) (if p < 2 then 1 else 0)) s

/-- A frame opens on a port: FRAME_OPEN and OWNER, and a write frame on the XIP select drops the lines and the fills (R268). -/
def State.frameOpens (s : State) (p : Nat) (r : PortRun) (frames : List (List MpPhase)) : State :=
  let s := (s.modPort p fun x => { x with run := some r }).setFlag Fld.MP_STATUS_FRAME_OPEN p true
  let s := (s.setF Fld.MP_STATUS_OWNER p (min r.owner 2)).mpEmit p r.sel frames
  if p = 0 ∧ r.wr ∧ r.sel = s.flag Fld.XIP_CTRL_SEL 0 then s.xipWritten else s

/-- How the part ends a frame early: a write with the pulse of Table 2.5 on the lanes of its last phase, any other by the select alone
(R236, R263). -/
def mpSpoil (wr : Bool) (l : List MpPhase) : FEnd :=
  match wr, l.getLast? with
  | false, _ | _, none => .cut
  | true, some x => if x.dtr then .spoilByte else if x.lanes = 8 then .spoilSckHigh else .spoilBits

/-- The phase of a queue entry (R254). -/
def State.entryPhase (s : State) (p : Nat) (e : QEntry) : MpPhase :=
  { dir := e.dir, lanes := e.lanes, dtr := e.dtr, bits := e.bits, bytes := if e.dir = 0 then s.outbound p e else [] }

/-- `n` bits of a stream from bit `o` on, left-aligned in whole bytes (R254). -/
def bitSlice (l : List Byte) (o n : Nat) : List Byte :=
  let k := (n + 7) / 8
  let v := ofBe (sliceB l (o / 8) (k + 1))
  beBytes k (v / 2 ^ (8 * (k + 1) - o % 8 - n) % 2 ^ n * 2 ^ (8 * k - n))

/-- The units of a phase, each with its own bits (R256). -/
def MpPhase.units (x : MpPhase) (size : Nat) : List MpPhase :=
  (List.range (x.bits / size)).map fun k =>
    { x with bits := size, bytes := if x.bytes = [] then [] else bitSlice x.bytes (k * size) size }

/-- The frames of chained entries: one, or with SELW = 1 one for each unit of the last entry, the first of which goes on with the
entries chained before it (R256, notes/assumptions/149.md). -/
def State.entryFrames (s : State) (p : Nat) (es : List QEntry) : List (List MpPhase) :=
  let l := es.map (s.entryPhase p)
  match es.getLast?, l.getLast? with
  | some e, some x =>
    if !e.selw then [l]
    else match x.units e.size with
      | u :: us => (l.dropLast ++ [u]) :: us.map fun v => [v]
      | [] => [l]
  | _, _ => [l]

/-! ### Hardware frames (R260 to R262) -/

/-- The device of a port's select is SPI-NAND; the home flash is NOR (R168, R262, notes/assumptions/146.md). -/
def State.hwNand (s : State) (p : Nat) (sel : Bool) : Bool := decide (0 < p) && s.vaultNand (vaultDev (decide (p = 2)) sel)

/-- A hardware frame that programs or erases (Table 8.3, WR): on SPI-NAND the program load only fills the device's cache. -/
def hwWr (nand : Bool) (step : HwStep) : Bool :=
  match step with
  | .program => !nand
  | .execute | .erase => true
  | .read | .load | .poll | .wren => false

/-- Address and data lanes of MP_DEVRD.PROTO. -/
def devLanes (proto : Nat) : Nat × Nat :=
  match proto with
  | 0 => (1, 1)
  | 1 => (1, 2)
  | 2 => (2, 2)
  | 3 => (1, 4)
  | 4 => (4, 4)
  | 5 => (1, 8)
  | _ => (8, 8)

/-- The phases of a hardware frame, from MP_DEVRD and MP_DEVWR of the select (R262): the opcode, the address that the step takes, the
dummy cycles of a read, and the data, of which a read takes `len` bytes. The frames that do not read run in 1S-1S-1S, or in 8D (notes/assumptions/146.md). -/
def State.hwPhases (s : State) (p : Nat) (ev : MpEvent) (len : Nat := ev.inbound.length) : List MpPhase :=
  let i := 2 * p + b2n ev.sel
  let nand := s.hwNand p ev.sel
  let page := if s.getF Fld.MC_VCFG_TYPE (vaultDev (decide (p = 2)) ev.sel) = 3 then 4096 else 2048
  let proto := s.getF Fld.MP_DEVRD_PROTO i
  let ddr := decide (proto = 7)
  let read := decide (ev.step = .read)
  let (aw, dw) := if read || ddr then devLanes proto else (1, 1)
  let op : Nat := match ev.step with
    | .read => s.getF Fld.MP_DEVRD_RD_OP i
    | .load => s.getF Fld.MP_DEVRD_LOAD_OP i
    | .poll => s.getF Fld.MP_DEVWR_STAT_OP i
    | .wren => s.getF Fld.MP_DEVWR_WREN_OP i
    | .program => s.getF Fld.MP_DEVWR_PROG_OP i
    | .execute => 0x10
    | .erase => s.getF Fld.MP_DEVWR_ERASE_OP i
  let b := BitVec.ofNat 8 op
  let cmd : List Byte := if ddr then [b, if s.flag Fld.MP_DEVRD_EXT_INV i then ~~~ b else b] else [b]
  let row := beBytes 3 (ev.addr / page)
  let column := beBytes 2 (ev.addr % page)
  let near := beBytes (if s.flag Fld.MP_DEVRD_ADDR4 i || ddr then 4 else 3) ev.addr
  let addr : List Byte := match ev.step with
    | .wren => []
    | .poll => if nand then [0xC0] else []
    | .load | .execute => row
    | .erase => if nand then row else near
    | .read | .program => if nand then column else near
  let out (lanes : Nat) (l : List Byte) : List MpPhase :=
    if l = [] then [] else [{ dir := 0, lanes := lanes, dtr := ddr, bits := 8 * l.length, bytes := l }]
  let dummy := s.getF Fld.MP_DEVRD_DUMMY i
  out (if ddr then 8 else 1) cmd ++ out aw addr ++
    (if read && decide (dummy ≠ 0) then [{ dir := 2, lanes := dw, dtr := ddr, bits := dummy * dw, bytes := [] }] else []) ++
    (match ev.step with
      | .program => out dw ev.out
      | .read => [{ dir := 1, lanes := dw, dtr := ddr, bits := 8 * len, bytes := [] }]
      | .poll => [{ dir := 1, lanes := dw, dtr := ddr, bits := 8, bytes := [] }]
      | _ => [])

/-- A hardware requester's frame opens, or the part's own poll (R260 to R262). -/
def State.hwFrame (s : State) (p : Nat) (ev : MpEvent) : State :=
  let wr := hwWr (s.hwNand p ev.sel) ev.step
  let phases := s.hwPhases p ev
  s.frameOpens p { owner := ev.owner, sel := ev.sel, wr := wr, poll := false, count := 0, ev := ev,
                   spoil := mpSpoil wr phases } [phases]

/-- The firmware frame at HEAD runs, or is refused (R253, R255). -/
def State.firmwareFrame (s : State) (p : Nat) (ev : MpEvent) : State :=
  match s.headFrame p with
  | none => s
  | some es =>
    let first := es.headD { w0 := 0, w1 := 0, w2 := 0 }
    if s.frameRefused p es then (s.finishEntries p es.length 1 0).mpFault p first.sel 0x6101
    else
      let last := es.getLastD first
      let frames := s.entryFrames p es
      let us := s.us
      s.frameOpens p { owner := 0, sel := first.sel, wr := first.wr, poll := last.poll, count := es.length, ev := ev,
                       spoil := mpSpoil first.wr (es.map (s.entryPhase p)), gaps := decide (1 < frames.length), openUs := us } frames

/-- MP_FRAME (R260, R261, R262): the port takes the next frame of the requester named, which no other that waits goes ahead of. A
hardware frame other than a poll waits while its select awaits a poll, and while a firmware poll repeats only the other select
serves other requesters. -/
def execMpFrame (p : PortId) (ev : MpEvent) (s : State) : Host.Outcome State Fault Refusal :=
  let q := s.port p.val
  .next (s.when (s.portLive p.val && q.run.isNone && !s.deferring && !ev.rivals.any ev.yields) fun s =>
    let waits := bitOf (s.getF Fld.MP_STATUS_WAIT_WR p.val) (b2n ev.sel)
    let pollSel : Option Bool := if q.polling.isSome then (s.headFrame p.val).map fun es =>
      (es.headD { w0 := 0, w1 := 0, w2 := 0 }).sel else none
    match ev.owner with
    | 0 => if s.flag Fld.MP_QCTL_RUN p.val ∧ q.polling = none then s.firmwareFrame p.val ev else s
    | 3 => if (bitOf q.selfPoll (b2n ev.sel) || waits) && decide (pollSel ≠ some ev.sel) then
        s.hwFrame p.val { ev with step := .poll } else s
    | _ => if (waits && decide (ev.step ≠ .poll)) || decide (pollSel = some ev.sel) then s else s.hwFrame p.val ev)

/-- Report what the frame's checks found (R252, R263). -/
def State.frameChecks (s : State) (p : Nat) (r : PortRun) : State :=
  let d := portDie p
  let s := s.forEach (List.range (min r.ev.badIn 3)) fun s _ => s.report d 0x5108 d
  let s := if r.ev.noStrobe then s.mpFault p r.sel 0x6103 else s
  let s := if 3 ≤ r.ev.badIn + b2n r.ev.noStrobe ∧ !r.wr then s.report d 0x5208 d else s
  if r.ev.badOut then (s.mpFault p r.sel 0x6107).emit (.portEnd p r.sel r.spoil) else s

/-- RESULT of a firmware frame that does not poll. -/
def PortRun.result (r : PortRun) : Nat :=
  let bad := r.ev.badIn + b2n r.ev.noStrobe
  if r.ev.badOut then 4
  else if (r.wr && decide (1 ≤ bad)) || decide (3 ≤ bad) then (if r.ev.noStrobe then 5 else 3)
  else 0

/-- Frames issued for a firmware frame that does not poll. -/
def PortRun.tries (r : PortRun) : Nat := if r.wr then 1 else min 3 (r.ev.badIn + b2n r.ev.noStrobe + 1)

/-- The first byte that a poll frame's last entry captures, after those of the entries before it, matches (R258,
notes/assumptions/148.md). -/
def pollMatch (es : List QEntry) (ev : MpEvent) : Bool :=
  let e := es.getLastD { w0 := 0, w1 := 0, w2 := 0 }
  let o := (es.dropLast.map fun x => if x.dir = 1 then x.bytes else 0).foldl (· + ·) 0
  let mask := bitsOf e.w2 16 8
  decide (ev.badIn = 0) && !ev.noStrobe && decide ((byteAt ev.inbound o).toNat &&& mask = bitsOf e.w2 24 8)

/-- A select no longer awaits a poll (R261); fills that waited for it start (R268). -/
def State.writeSettled (s : State) (p : Nat) (sel : Bool) : State :=
  let w := s.getF Fld.MP_STATUS_WAIT_WR p
  let s := if bitOf w (b2n sel) then s.setF Fld.MP_STATUS_WAIT_WR p (w - selBit sel) else s
  let s := s.modPort p fun x => if bitOf x.selfPoll (b2n sel) then { x with selfPoll := x.selfPoll - selBit sel } else x
  if p = 0 then s.xipStart 4 else s

/-- A firmware frame ends (R258, R259): its entries take RESULT, or a poll that did not match repeats. -/
def State.firmwareDone (s : State) (p : Nat) (r : PortRun) : State :=
  let h := s.getF Fld.MP_QPTR_HEAD p
  let es := (List.range r.count).map fun j => s.entryAt p (h + j)
  let irq := es.any fun e => e.irq
  let done (s : State) (result tries : Nat) : State :=
    let s := if result = 0 then s.storeAll p h es r.ev.inbound else s
    let s := s.finishEntries p r.count result tries
    if irq then s.setFlag Fld.MP_STATUS_DONE p true else s
  if !r.poll then
    let again := (List.range (r.tries - 1)).flatMap fun _ => s.entryFrames p es
    done (s.mpEmit p r.sel again) r.result r.tries
  else
    let us := s.us
    let q := (s.port p).polling.getD (0, r.openUs)
    if r.ev.badOut then
      (done (s.modPort p fun x => { x with polling := none }) 4 (q.1 + 1)).setFlag Fld.MP_STATUS_POLLING p false
    else if pollMatch es r.ev then
      let s := (s.modPort p fun x => { x with polling := none }).setFlag Fld.MP_STATUS_POLLING p false
      (done s 0 (q.1 + 1)).writeSettled p r.sel
    else (s.modPort p fun x => { x with polling := some (q.1 + 1, q.2), pollUs := us }).setFlag Fld.MP_STATUS_POLLING p true

/-- The open frame of a port ends (R259, R261, R263). -/
def State.portFrameEnds (s : State) (p : Nat) (r : PortRun) : State :=
  let s := (s.modPort p fun x => { x with run := none }).setFlag Fld.MP_STATUS_FRAME_OPEN p false
  let s := s.frameChecks p r
  let us := s.us
  let s := if r.wr then (s.setF Fld.MP_STATUS_WAIT_WR p (s.getF Fld.MP_STATUS_WAIT_WR p ||| selBit r.sel)).modPort p fun x =>
      { x with waitUs := Tbl.set x.waitUs (b2n r.sel) us 0 } else s
  match r.owner with
  | 0 => s.firmwareDone p r
  | _ =>
    let again := (List.range (min r.ev.badIn 2)).map fun _ => s.hwPhases p r.ev.rerun
    let s := if r.ev.step = .read then s.mpEmit p r.sel again else s
    let poll := decide (r.owner = 3) || decide (r.ev.step = .poll)
    if poll ∧ !bitOf (byteAt r.ev.inbound 0).toNat 0 ∧ r.ev.badIn = 0 ∧ r.ev.inbound ≠ [] then s.writeSettled p r.sel else s

/-- MP_FRAME_DONE (R259). -/
def execMpFrameDone (p : PortId) (s : State) : Host.Outcome State Fault Refusal :=
  .next (s.when (s.portLive p.val) fun s =>
    match (s.port p.val).run with
    | some r => s.portFrameEnds p.val r
    | none => s)

/-- POLL_LIMIT in µs; 0 acts as 1 ms. -/
def State.pollLimitUs (s : State) (p : Nat) : Nat := 1000 * max 1 (s.getF Fld.MP_QCTL_POLL_LIMIT p)

/-- POLL_LIMIT has passed since the first issue of the poll frame that repeats (R258). -/
def State.pollOver (s : State) (p : Nat) : Bool :=
  (s.port p).polling.any fun x => decide (s.pollLimitUs p ≤ s.usSince x.2)

/-- POLL_REPEAT (R258): POLL_US after a mismatch the poll frame is issued again, until the limit has passed. -/
def execPollRepeat (p : PortId) (ev : MpEvent) (s : State) : Host.Outcome State Fault Refusal :=
  let q := s.port p.val
  .next (s.when (s.portLive p.val && q.run.isNone && !s.deferring && !s.pollOver p.val && q.polling.isSome &&
      decide (max 1 (s.getF Fld.MP_CTRL_POLL_US p.val) ≤ s.usSince q.pollUs)) fun s => s.firmwareFrame p.val ev)

/-- POLL_LIMIT (R258): RESULT 0x2 and fault 0x6102. -/
def execPollLimit (p : PortId) (s : State) : Host.Outcome State Fault Refusal :=
  let q := s.port p.val
  .next (s.when (s.portLive p.val && q.run.isNone && s.pollOver p.val) fun s =>
    match q.polling, s.headFrame p.val with
    | some (tries, _), some es =>
      let first := es.headD { w0 := 0, w1 := 0, w2 := 0 }
      let irq := es.any fun e => e.irq
      let s := (s.modPort p.val fun x => { x with polling := none }).setFlag Fld.MP_STATUS_POLLING p.val false
      let s := (s.finishEntries p.val es.length 2 tries).mpFault p.val first.sel 0x6102
      if irq then s.setFlag Fld.MP_STATUS_DONE p.val true else s
    | _, _ => s)

/-- WRITE_POLL_TIMEOUT (R261): the part polls the select itself from now on. -/
def execWritePollTimeout (p : PortId) (sel : Bool) (s : State) : Host.Outcome State Fault Refusal :=
  .next (s.when (s.portLive p.val && bitOf (s.getF Fld.MP_STATUS_WAIT_WR p.val) (b2n sel) &&
      decide (s.pollLimitUs p.val ≤ s.usSince (Tbl.get (s.port p.val).waitUs (b2n sel) 0))) fun s =>
    s.modPort p.val fun x => { x with selfPoll := x.selfPoll ||| selBit sel })

end Sys2Proof.Machine
end

