-- ==== Sys2Proof/Machine/Boot.lean ====
section
/-! DEFINITION. Boot (09): slot headers and selection, the mask ROM, the boot copy, hand-over, trial and confirmation, CHECK,
RECOPY, and the sentry cores' release, watchdog and traps (R270 to R296, R298). -/

namespace Sys2Proof.Machine

/-! ## Slot headers (Table 9.1) -/

def hdVersion (h : List Byte) : Nat := ofBe (sliceB h 0x008 4)
def hdSeq (h : List Byte) : Nat := ofBe (sliceB h 0x00C 4)
def hdCaddr (h : List Byte) : Nat := ofBe (sliceB h 0x010 4)
def hdTaddr (h : List Byte) : Nat := ofBe (sliceB h 0x014 4)
def hdImage (h : List Byte) : Nat := ofBe (sliceB h 0x018 4)
def hdLeaves (h : List Byte) : Nat := ofBe (sliceB h 0x01C 4)
def hdReadCfg (h : List Byte) : Nat := ofBe (sliceB h 0x020 4)
def hdReadDiv (h : List Byte) : Nat := (byteAt h 0x024).toNat
def hdReadLat (h : List Byte) : Nat := (byteAt h 0x025).toNat
def hdConfirm (h : List Byte) : Nat := ofBe (sliceB h 0x030 2)

/-- SVN: bits [31:24] of a VERSION. -/
def svn (version : Nat) : Nat := version / 2 ^ 24

/-- Two spans of bytes do not meet. -/
def apart (a n b m : Nat) : Bool := decide (a + n ≤ b) || decide (b + m ≤ a)

/-- Bytes of a tree area (R129). -/
def treeBytes (leaves : Nat) : Nat := groupAddr 0 leaves (depthOf leaves) 0

/-- A header is sound (R271). -/
def hdSound (h : List Byte) : Bool :=
  let leaves := hdLeaves h
  let zeros := zerosAt h 0x006 2 && zerosAt h 0x027 1 && zerosAt h 0x032 158 && decide (hdReadCfg h < 2 ^ 18) &&
    decide (hdReadLat h < 16)
  let aligned := decide (hdCaddr h % 0x1000 = 0) && decide (hdTaddr h % 0x200 = 0) && decide (hdImage h % 0x1000 = 0)
  let above := decide (0x1000 ≤ hdCaddr h) && decide (0x1000 ≤ hdTaddr h) && decide (0x1000 ≤ hdImage h)
  let disjoint := apart (hdCaddr h) 8192 (hdTaddr h) (treeBytes leaves) &&
    apart (hdCaddr h) 8192 (hdImage h) (4096 * leaves) && apart (hdTaddr h) (treeBytes leaves) (hdImage h) (4096 * leaves)
  decide (ofBe (sliceB h 0 4) = 0x534C4F54) && decide (ofBe (sliceB h 4 2) = 1) && zeros &&
  decide (sliceB h 0x0D0 48 = hashOf (sliceB h 0 0x0D0)) && aligned && decide (2 ≤ leaves) && decide (leaves ≤ 8192) &&
  above && disjoint

/-- A flag chunk is set: every byte reads 0x00 (VALID, ACTIVE, CONFIRMED, R272). -/
def flagAll (h : List Byte) (o : Nat) : Bool := decide (o + 16 ≤ h.length) && zerosAt h o 16

/-- A flag chunk is set: any bit reads 0 (RETIRED, TRIAL, R272). -/
def flagAny (h : List Byte) (o : Nat) : Bool := (sliceB h o 16).any fun b => decide (b ≠ 0xFF)

def hdValid (h : List Byte) : Bool := flagAll h 0x100
def hdActive (h : List Byte) : Bool := flagAll h 0x110
def hdConfirmed (h : List Byte) : Bool := flagAll h 0x120
def hdRetired (h : List Byte) : Bool := flagAny h 0x130
/-- The TRIAL chunks that are clear. -/
def hdFree (h : List Byte) : List Nat := numsBelow 4 fun k => !flagAny h (0x140 + 16 * k)

/-- What BT_SLOTFLAGS shows of a slot. -/
def hdFlags (h : List Byte) : Nat :=
  b2n (hdSound h) + 2 * b2n (hdValid h) + 4 * b2n (hdActive h) + 8 * b2n (hdConfirmed h) + 16 * b2n (hdRetired h) +
    32 * (4 - (hdFree h).length)

/-- The rollback counter C. -/
def State.rollback (s : State) : Nat := s.getF Fld.FU_COUNTS_ROLLBACK 0

/-- A slot is eligible (R273). -/
def State.slotEligible (s : State) (slot : Bool) (h : List Byte) : Bool :=
  hdSound h && hdValid h && hdActive h && !hdRetired h && !bitOf (s.getF Fld.BT_RETRY_BADMASK 0) (b2n slot) &&
  decide (s.rollback ≤ svn (hdVersion h)) && (hdConfirmed h || decide (hdFree h ≠ []))

/-- The slot that the ROM selects among the eligible ones (R275). -/
def State.slotSelect (s : State) (a b : List Byte) : Option Bool :=
  let x := hdVersion a * 2 ^ 32 + hdSeq a
  let y := hdVersion b * 2 ^ 32 + hdSeq b
  match s.slotEligible false a, s.slotEligible true b with
  | false, false => none
  | true, false => some false
  | false, true => some true
  | true, true => if y < x then some false else if x < y then some true else some (!hdConfirmed a && hdConfirmed b)

/-! ## Section tables (Table 9.4) -/

/-- Entry i. -/
def sectionAt (b : List Byte) (i : Nat) : Section :=
  let o := 0x040 + 32 * i
  { first := ofBe (sliceB b o 4), length := ofBe (sliceB b (o + 4) 4), dest := ofBe (sliceB b (o + 8) 4),
    dies := (byteAt b (o + 12)).toNat, xip := bitOf (byteAt b (o + 13)).toNat 0, stage1 := bitOf (byteAt b (o + 13)).toNat 1 }

/-- The entries of a table. -/
def sectionsOf (b : List Byte) : List Section := (List.range (ofBe (sliceB b 4 2))).map (sectionAt b)

/-- Bytes of a leaf that must read zero. -/
def sectionZeros (b : List Byte) : Bool :=
  let n := ofBe (sliceB b 4 2)
  zerosAt b 6 2 && zerosAt b 0xC 0x34 && zerosAt b (0x040 + 32 * n) (4096 - (0x040 + 32 * n)) &&
  (List.range n).all fun i => zerosAt b (0x04E + 32 * i) 18 && decide ((byteAt b (0x04D + 32 * i)).toNat < 4)

/-- Sections in increasing order that do not overlap and do not pass LEAVES. -/
def sectionsRise (leaves : Nat) : List Section → Bool
  | [] => true
  | [x] => decide (x.first + x.span ≤ leaves)
  | x :: y :: r => decide (x.first < y.first) && decide (x.first + x.span ≤ y.first) && sectionsRise leaves (y :: r)

/-- No two copies on one die overlap. -/
def copiesApart (dies : Nat) : List Section → Bool
  | [] => true
  | x :: r => (r.all fun y => !((x.copies dies).any fun d => mem d (y.copies dies)) ||
      apart x.dest (4096 * x.span) y.dest (4096 * y.span)) && copiesApart dies r

/-- A copy stays in core SRAM, and on die 0 below the ROM's working area. -/
def copyFits (dies : Nat) (x : Section) : Bool :=
  (x.copies dies).all fun d => decide (x.dest + 4096 * x.span ≤ if d = 0 then 0x380000 else 0x400000)

/-- The section table of leaf 0 passes (R282), and the further conditions of a rescue image (R292). -/
def sectionsOk (dies leaves : Nat) (rescue : Bool) (b : List Byte) : Bool :=
  let l := sectionsOf b
  let pc := ofBe (sliceB b 8 4)
  let x := sectionAt b 0
  decide (ofBe (sliceB b 0 4) = 0x53454354) && decide (1 ≤ l.length) && decide (l.length ≤ 64) && sectionZeros b &&
  sectionsRise leaves l && decide ((l.filter fun y => y.stage1).length = 1) && x.stage1 && decide (1 ≤ x.span) &&
  decide (x.span ≤ 64) && decide (x.dies = 1) && decide (x.dest ≤ pc) && decide (pc < x.dest + 4096 * x.span) &&
  (l.all fun y => copyFits dies y) && copiesApart dies l && (!rescue || l.all fun y => decide (y.dies = 1) && !y.xip)

/-- Copies of an image in increasing leaf order: die and leaf (R283). -/
def copyList (dies : Nat) (l : List Section) : List (Nat × Nat) :=
  l.flatMap fun x => (List.range x.span).flatMap fun k => (x.copies dies).map fun d => (d, x.first + k)

/-! ## Image trees as given (R130) -/

/-- Group k of the level that lies `n` below the root, as the list gives it, where its check and those of the groups above
it pass. -/
def treeGroup (leaves : Nat) (root : Digest) (groups : List (Nat × Nat × List Byte)) : Nat → Nat → Option (List Byte)
  | 0, _ => none
  | n + 1, k =>
    let l := depthOf leaves - (n + 1)
    let want := if n = 0 then some root else (treeGroup leaves root groups n (k / 8)).map fun g => sliceB g (48 * (k % 8)) 48
    match groups.find? fun x => decide (x.1 = l) && decide (x.2.1 = k), want with
    | some x, some w =>
      let g := groupBytes leaves l k x.2.2
      if hashOf (nodeMessage fwRegion (l + 1) k g) = w then some g else none
    | _, _ => none

/-- A block verifies as a leaf under the groups given. -/
def blockOk (leaves : Nat) (root : Digest) (groups : List (Nat × Nat × List Byte)) (leaf : Nat) (b : List Byte) : Bool :=
  match treeGroup leaves root groups (depthOf leaves) (leaf / 8) with
  | some g => decide (sliceB g (48 * (leaf % 8)) 48 = hashOf (leafMessage fwRegion leaf (sliceB b 0 4096)))
  | none => false

/-- The groups of the top two levels: level and index (R278, step 8). -/
def topGroups (leaves : Nat) : List (Nat × Nat) :=
  let d := depthOf leaves
  ((List.range d).filter fun l => decide (d ≤ l + 2)).flatMap fun l =>
    (List.range (ceilDiv (levelSize leaves l) 8)).map fun k => (l, k)

/-! ## Checks of a slot (R278, steps 4, 7 and 8) -/

/-- Why a slot fails: its LAST code and the fault reported, if any (R279). -/
abbrev BootFail := Nat × Option Nat

/-- The colophon of a firmware image, by step 7 of R278: `leaves` and `version` are the header's, where there is one. -/
def State.imageRefusal (s : State) (c : List Byte) (leaves version : Option Nat) (mfg : Bool) : Option Nat :=
  match s.coRefusal c mfg with
  | some r => some r
  | none =>
    if coRegion c ≠ fwRegion ∨ leaves.getD (coLeaves c) ≠ coLeaves c ∨ coDepth c ≠ depthOf (coLeaves c) then some 7
    else if version.getD (coVersion c) ≠ coVersion c ∨ (!mfg ∧ svn (coVersion c) < s.rollback) then some 8
    else none

/-- The first check of steps 4, 7 and 8 that a slot fails. -/
def State.slotFailure (s : State) (x : SlotInput) : Option BootFail :=
  let h := x.header
  if !hdSound h then some (1, some 0x6301)
  else match x.colophon, x.leaf0 with
    | some c, some b =>
      if x.noData then some (0xC, none)
      else match s.imageRefusal c (some (hdLeaves h)) (some (hdVersion h)) false with
        | some r => some (r, some 0x6302)
        | none =>
          let n := coLeaves c
          let tops := (topGroups n).all fun p => (treeGroup n (coRoot c) x.groups (depthOf n - p.1) p.2).isSome
          if !tops || !blockOk n (coRoot c) x.groups 0 b then some (0xA, some 0x6303)
          else if !sectionsOk s.nDies n false (sliceB b 0 4096) then some (2, some 0x6301)
          else none
    | _, _ => some (0xC, none)

/-! ## The mask ROM (R276 to R279) -/

/-- A firmware fault: SOURCE gives the slot (R298). -/
def State.bootFault (s : State) (slot code : Nat) : State := s.report 0 code slot

/-- Change the boot state. -/
def State.modBoot (s : State) (f : Boot → Boot) : State := { s with boot := f s.boot }

/-- Program a flag chunk of a slot's header. -/
def State.chunk (s : State) (slot : Bool) (o : Nat) : State := s.emit (.homeProgram slot o (List.replicate 16 0))

/-- Bytes that a port sends in 1S. -/
def sent1S (l : List Byte) : MpPhase := { dir := 0, lanes := 1, dtr := false, bits := 8 * l.length, bytes := l }

/-- Step 3 on a select: the software reset 0x66, 0x99 in 8D with an inverted extension, and then in 1S. -/
def State.romResets (s : State) (slot : Bool) : State :=
  let ddr (b : Byte) : MpPhase := { dir := 0, lanes := 8, dtr := true, bits := 16, bytes := [b, ~~~ b] }
  s.mpEmit 0 slot [[ddr 0x66], [ddr 0x99], [sent1S [0x66]], [sent1S [0x99]]]

/-- Step 4 on a select: bytes 0x000 to 0x17F with 0x03 and a 3-byte address. -/
def State.romHeader (s : State) (slot : Bool) : State :=
  s.mpEmit 0 slot [[sent1S [0x03], sent1S [0, 0, 0], { dir := 1, lanes := 1, dtr := false, bits := 8 * 0x180, bytes := [] }]]

/-- A read of the ROM with MP_DEVRD of the select: first byte and length. -/
def State.romRead (s : State) (slot : Bool) (x : Nat × Nat) : State :=
  s.mpEmit 0 slot [s.hwPhases 0 { owner := 1, sel := slot, inbound := [], noStrobe := false, badIn := 0, badOut := false, addr := x.1 } x.2]

/-- Step 6 for the selected slot: ENTER behind a write enable, and the read protocol of its header. -/
def State.romProtocol (s : State) (slot : Bool) (h : List Byte) : State :=
  let i := b2n slot
  let n := (byteAt h 0x026).toNat
  let s := if n = 0 then s else s.mpEmit 0 slot
    [[sent1S [BitVec.ofNat 8 (s.getF Fld.MP_DEVWR_WREN_OP i)]], [sent1S (sliceB h 0x028 (min n 8))]]
  let s := s.wr .MP_DEVRD i (BitVec.ofNat 32 (setBits (s.rd .MP_DEVRD i).toNat 0 18 (hdReadCfg h)))
  (s.setF Fld.MP_CTRL_DIV 0 (max 4 (hdReadDiv h))).setF Fld.MP_CTRL_LAT 0 (hdReadLat h)

/-- Step 7 on success: the key unit writes XIP_ROOT and XIP_LEAVES, and the ROM the addresses. -/
def State.romRoot (s : State) (slot : Bool) (h c : List Byte) : State :=
  let s := (s.putDigest .XIP_ROOT 0 (coRoot c)).setF Fld.XIP_LEAVES_LEAF_COUNT 0 (coLeaves c)
  let s := (s.setFlag Fld.XIP_STATUS_ROOTED 0 true).setFlag Fld.XIP_CTRL_ENABLE 0 false
  let s := s.setFlag Fld.XIP_CTRL_SEL 0 slot
  let s := (s.wr .XIP_BASE 0 (BitVec.ofNat 32 (hdImage h))).wr .XIP_TADDR 0 (BitVec.ofNat 32 (hdTaddr h))
  s.cacheDrop 0 fun l => decide (l.tree = imageTree)

/-- Step 8: the groups of the top two levels are pinned in die 0's digest cache. -/
def State.romPin (s : State) (x : SlotInput) (c : List Byte) : State :=
  let n := coLeaves c
  ((topGroups n).reverse).foldl (fun (s : State) (p : Nat × Nat) =>
    match x.groups.find? fun g => decide (g.1 = p.1) && decide (g.2.1 = p.2) with
    | some g => (s.imageGroup n (coRoot c) imageTree p.1 p.2 g.2.2 {}).2
    | none => s) s

/-- Start the copy of an image: what is left, DIE_DONE of dies that receive nothing, and STAGE (R283, R285). -/
def State.copyStart (s : State) (im : Image) : State :=
  let l := copyList s.nDies im.sections
  let done := numsBelow s.nDies fun d => !(l.any fun p => decide (p.1 = d))
  let s := s.modBoot fun b => { b with image := some im, left := l, recopy := [], failed := [] }
  let s := s.setF Fld.BT_STATUS_DIE_DONE 0 ((done.map fun d => 2 ^ d).foldl (· + ·) 0)
  s.setF Fld.BT_STATUS_STAGE 0 1

/-- The image of a slot. -/
def imageOf (slot : Nat) (c b : List Byte) (pending : Bool) (confirmS : Nat) : Image :=
  { slot := slot, message := coMessage c, version := coVersion c, leaves := coLeaves c, pending := pending,
    confirmS := if confirmS = 0 then 600 else confirmS, entryPc := ofBe (sliceB b 8 4), sections := sectionsOf b }

/-- What steps 7 and 8 read of a slot, as far as the checks get: the colophon, then the pinned groups and leaf 0 with its path. -/
def slotReads (h c : List Byte) (tree : Bool) : List (Nat × Nat) :=
  let n := hdLeaves h
  let tops := (topGroups n).reverse
  let path := ((List.range (depthOf n)).reverse.map fun l => (l, 0)).filter fun p => !tops.any fun q => decide (q = p)
  (hdCaddr h, 8192) :: (if !tree || decide (c = []) then [] else
    ((tops ++ path).map fun p => (groupAddr (hdTaddr h) n p.1 p.2, 512)) ++ [(hdImage h, 4096)])

/-- Steps 6 to 10 for the selected slot: the state, and why the slot fails. -/
def State.romSlot (s : State) (slot : Bool) (x : SlotInput) : State × Option BootFail :=
  let h := x.header
  let c := x.colophon.getD []
  let b := sliceB (x.leaf0.getD []) 0 4096
  let s := s.romProtocol slot h
  let tree := (s.imageRefusal c (some (hdLeaves h)) (some (hdVersion h)) false).isNone
  let s := (slotReads h c tree).foldl (fun (s : State) r => s.romRead slot r) s
  let s := if x.colophon.isSome ∧ !x.noData then s.coReads c false else s
  match s.slotFailure x with
  | some f => (s, some f)
  | none =>
    let s := (s.romRoot slot h c).romPin x c
    let pending := !hdConfirmed h
    let s := if pending then s.chunk slot (0x140 + 16 * (hdFree h).headD 0) else s
    if pending ∧ !x.trialOk then (s, some (0xB, some 0x630B))
    else (s.copyStart (imageOf (b2n slot) c b pending (hdConfirm h)), none)

/-- A slot fails (R279). -/
def State.romFail (s : State) (slot : Bool) (f : BootFail) : State :=
  let s := s.setF Fld.BT_RETRY_BADMASK 0 (s.getF Fld.BT_RETRY_BADMASK 0 ||| 2 ^ b2n slot)
  let s := s.setF Fld.BT_RETRY_LAST 0 f.1
  match f.2 with
  | some c => s.bootFault (b2n slot) c
  | none => s

/-- No slot is eligible: the both-slots-bad wait starts (R291, steps 1 and 2). -/
def State.bothBad (s : State) : State :=
  let w := 2 ^ s.getF Fld.BT_RETRY_EXP 0
  ((s.bootFault 3 0x6304).setF Fld.BT_RETRY_LAST 0 0xD).modBoot fun b => { b with inWait := true, waitLeft := w }

/-- Steps 5 to 10, until a slot's copy starts or no slot is eligible. -/
def State.romTry (s : State) (a b : SlotInput) : Nat → State
  | 0 => s.bothBad
  | k + 1 =>
    match s.slotSelect a.header b.header with
    | none => s.bothBad
    | some slot =>
      let r := s.romSlot slot (if slot then b else a)
      match r.2 with
      | none => r.1
      | some f => (r.1.romFail slot f).romTry a b k

/-- R274: a slot whose trials are used up is retired. -/
def State.retire (s : State) (slot : Bool) (h : List Byte) : State :=
  if hdSound h ∧ hdValid h ∧ !hdConfirmed h ∧ !hdRetired h ∧ hdFree h = [] then
    (s.chunk slot 0x130).bootFault (b2n slot) 0x6305
  else s

/-- Steps 2 to 5. -/
def State.romBoot (s : State) (a b : SlotInput) : State :=
  let s := s.fuseRom
  let s := (s.setF Fld.MP_CTRL_DIV 0 16).setFlag Fld.MP_CTRL_SCK_MODE 0 false
  let s := (((s.romResets false).romResets true).romHeader false).romHeader true
  let ver (h : List Byte) : Nat := if hdSound h then hdVersion h else 0
  let s := (s.wr .BT_SLOT_A 0 (BitVec.ofNat 32 (ver a.header))).wr .BT_SLOT_B 0 (BitVec.ofNat 32 (ver b.header))
  let s := (s.setF Fld.BT_SLOTFLAGS_SLOT_A 0 (hdFlags a.header)).setF Fld.BT_SLOTFLAGS_SLOT_B 0 (hdFlags b.header)
  ((s.retire false a.header).retire true b.header).romTry a b 3

/-- The ROM kicks its watchdog: in the both-slots-bad wait (R291), and without end in END (R277). -/
def State.romKicks (s : State) : Bool := s.inRom && !s.boot.force && (s.boot.inWait || decide (s.lc = 5))

/-- The first sentry runs the ROM: PLAT and die 0 run, nothing has been handed over, no expiry is forced. -/
def State.romRuns (s : State) : Bool :=
  s.platLive && s.live 0 && decide (s.getF Fld.BT_STATUS_SLOT 0 = 3) && !s.flag Fld.BT_LOCK_ROM_LOCKED 0 && !s.boot.force

/-- ROM_BOOT (R277, R278): in PROVISION, FIELD and RETURN the ROM boots a slot; in the other states it boots none. -/
def execRomBoot (a b : SlotInput) (s : State) : Host.Outcome State Fault Refusal :=
  .next (s.when (s.romRuns && !s.boot.ran) fun s =>
    let s := s.modBoot fun x => { x with ran := true }
    let s := s.setF Fld.BT_RETRY_ATTEMPTS 0 (min (s.getF Fld.BT_RETRY_ATTEMPTS 0 + 1) 0xFFFF)
    if 2 ≤ s.lc ∧ s.lc ≤ 4 then s.romBoot a b else s)

/-! ## The sentry cores (R286 to R288) -/

/-- Release core k of die d: it starts at its vector and its watchdog starts (R286, R287). -/
def State.coreRelease (s : State) (d k : Nat) : State :=
  let i := 4 * d + k
  let pc := s.rd .SN_VECTOR i
  let us := s.us
  let p := s.getF Fld.SN_WDT_PERIOD_MS i
  let m := s.getF Fld.SN_CORE_RELEASE_PENDING d
  let s := (s.orR .SN_CORE_RELEASE d (2 ^ k)).setFlag Fld.SN_WDT_RUNNING i true
  let s := if bitOf m k then s.setF Fld.SN_CORE_RELEASE_PENDING d (m - 2 ^ k) else s
  s.modCore d k fun c => { c with running := true, pc := pc, inTrap := false, xipWait := none, kickUs := us, period := p }

/-- DIE_DONE bit d sets: waiting releases take effect, and STAGE reads 0b10 when every present die is done (R285, R286). -/
def State.dieDone (s : State) (d : Nat) : State :=
  let v := s.getF Fld.BT_STATUS_DIE_DONE 0 ||| 2 ^ d
  let s := s.setF Fld.BT_STATUS_DIE_DONE 0 v
  let all := (List.range s.nDies).all fun x => bitOf v x
  let s := if all ∧ s.getF Fld.BT_STATUS_STAGE 0 = 1 then s.setF Fld.BT_STATUS_STAGE 0 2 else s
  s.forEach (numsBelow 4 fun k => bitOf (s.getF Fld.SN_CORE_RELEASE_PENDING d) k) fun s k => s.coreRelease d k

/-- A register of this chapter written by another requester than R298 names: discarded with 0x630A. -/
def State.bootReject (s : State) : State := s.bootFault (s.getF Fld.BT_STATUS_SLOT 0) 0x630A

/-- A sentry core makes the access. -/
def fromCore (req : Requester) : Bool :=
  match req with
  | .sentry _ _ => true
  | _ => false

/-- A write of SN_CORE_RELEASE (R286, R298). -/
def State.writeCoreRelease (s : State) (req : Requester) (d : Nat) (v : Word) : State :=
  if !fromDie0 req then s.bootReject
  else
    let want := numsBelow 4 fun k => bitOf v.toNat k && !bitOf (s.getF Fld.SN_CORE_RELEASE_RELEASE d) k
    s.forEach want fun s k =>
      if bitOf (s.getF Fld.BT_STATUS_DIE_DONE 0) d then s.coreRelease d k
      else s.setF Fld.SN_CORE_RELEASE_PENDING d (s.getF Fld.SN_CORE_RELEASE_PENDING d ||| 2 ^ k)

/-- SN_CORE_RELEASE_WRITE (R286). -/
def execSnCoreReleaseWrite (req : Requester) (d : DieId) (value : Word) (s : State) : Host.Outcome State Fault Refusal :=
  .next (s.dieAccess req d.val fun s => s.writeCoreRelease req d.val value)

/-- A write of SN_WDT_KICK (R276, R287). -/
def State.writeKick (s : State) (req : Requester) (d k : Nat) (v : Word) : State :=
  if !fromCore req then s.bootReject
  else if Fld.SN_WDT_KICK_KICK.of v ≠ 0xA5 ∨ (d = 0 ∧ k = 0 ∧ s.boot.force) ∨ !s.flag Fld.SN_WDT_RUNNING (4 * d + k) then s
  else
    let us := s.us
    let p := s.getF Fld.SN_WDT_PERIOD_MS (4 * d + k)
    (s.modCore d k fun c => { c with kickUs := us, period := p }).count d (0x3A0 + 0x10 * k + 11) 1

/-- WDT_KICK (R287). -/
def execWdtKick (req : Requester) (d : DieId) (k : CoreId) (value : Word) (s : State) : Host.Outcome State Fault Refusal :=
  .next (s.dieAccess req d.val fun s => s.writeKick req d.val k.val value)

/-- BUS_ERROR (R288). -/
def execBusError (d : DieId) (k : CoreId) (kind : AccessKind) (addr : Word) (s : State) : Host.Outcome State Fault Refusal :=
  .next (s.when (s.live d.val) fun s => s.busErrorTrap d.val k.val kind addr.toNat)

/-- CORE d.k is reset: it stays held until it is released again; its watchdog is no part of the domain (R227, R286). -/
def State.coreReset (s : State) (d k : Nat) : State :=
  let i := 4 * d + k
  let c := s.core d k
  let v := s.getF Fld.SN_CORE_RELEASE_RELEASE d
  let p := s.getF Fld.SN_CORE_RELEASE_PENDING d
  let s := if bitOf v k then s.setF Fld.SN_CORE_RELEASE_RELEASE d (v - 2 ^ k) else s
  let s := if bitOf p k then s.setF Fld.SN_CORE_RELEASE_PENDING d (p - 2 ^ k) else s
  let s := ((((s.setFlag Fld.SN_TRAP_MCK_ACTIVE i false).setF Fld.SN_TRAP_CAUSE i 0).wr .SN_TRAP_ADDR i 0).wr .SN_TVEC i 0).modXip fun x =>
    let drop (l : List XipFill) : List XipFill := l.map fun f =>
      { f with waiters := f.waiters.filter fun w => !(decide (w.die = d) && decide (w.core = k)) }
    { x with fills := drop x.fills, queued := drop x.queued }
  let s := { s.modKeys fun k => { k with nonce := none } with guard := { s.guard with nonce := none } }
  s.modCore d k fun _ => { SentryCore.held with kickUs := c.kickUs, period := c.period }

/-- MACHINE_CHECK (R202, R288): three detections at point 12; nested, the core is reset. -/
def execMachineCheck (d : DieId) (k : CoreId) (addr : Word) (s : State) : Host.Outcome State Fault Refusal :=
  .next (s.when (s.live d.val) fun s =>
    let i := 4 * d.val + k.val
    let src := d.val + 8 * k.val
    let s := (s.forEach (List.range 3) fun s _ => s.report d.val 0x510C d.val).report d.val 0x520C d.val
    if s.flag Fld.SN_TRAP_MCK_ACTIVE i then
      let s := s.report d.val 0x6203 src
      if d.val = 0 ∧ k.val = 0 then s.forceExpiry else s.coreReset d.val k.val
    else
      let s := ((s.setFlag Fld.SN_TRAP_MCK_ACTIVE i true).setF Fld.SN_TRAP_CAUSE i 4).wr .SN_TRAP_ADDR i addr
      let base := s.rd .SN_TVEC i
      let s := s.modCore d.val k.val fun c => { c with pc := base + 0x40, inTrap := true, xipWait := none }
      let s := (s.count d.val (0x3A0 + 0x10 * k.val + 10) 1).report d.val 0x6202 src
      if d.val = 0 ∧ k.val = 0 ∧ s.inRom then s.forceExpiry else s)

/-! ## The copy (R283 to R285) -/

/-- A copy of a leaf on die d has verified. -/
def State.copyVerified (s : State) (im : Image) (d leaf : Nat) (b : List Byte) : State :=
  let key : Nat × Nat := (d, leaf)
  let s := match copyAddr s.nDies im.sections d leaf with
    | some a => s.sramStore d a (sliceB b 0 4096)
    | none => s
  let s := s.modBoot fun x => { x with left := x.left.filter fun p => decide (p ≠ key) }
  let s := s.storesResume
  if s.boot.left.any fun p => decide (p.1 = d) then s
  else (s.modBoot fun x => { x with recopy := x.recopy.filter fun e => decide (e ≠ d) }).dieDone d

/-- A copy failed twice (R284, R285): a recopied block stays unverified, and its die's DIE_DONE bit clear. -/
def State.copyFailed (s : State) (im : Image) (d leaf : Nat) (b : List Byte) : State :=
  let s := match copyAddr s.nDies im.sections d leaf with
    | some a => s.sramStore d a (sliceB b 0 4096)
    | none => s
  if mem d s.boot.recopy then
    (s.modBoot fun x => { x with failed := x.failed ++ [(d, leaf)] }).bootFault im.slot 0x6303
  else
    let s := (s.bootFault im.slot 0x6303).setF Fld.BT_RETRY_LAST 0 0xA
    (s.setF Fld.BT_RETRY_BADMASK 0 (s.getF Fld.BT_RETRY_BADMASK 0 ||| 2 ^ im.slot)).forceExpiry

/-- BOOT_BLOCK_VERIFIED (R283, R284). -/
def execBootBlockVerified (d : DieId) (leaf : Nat) (first second : BootRead) (s : State) : Host.Outcome State Fault Refusal :=
  let key : Nat × Nat := (d.val, leaf)
  .next (s.when (s.platLive && s.reached d.val && !s.boot.force && (s.boot.left.any fun p => decide (p = key)) &&
      !s.boot.failed.any fun p => decide (p = key)) fun s =>
    match s.boot.image with
    | none => s
    | some im =>
      let a := s.imageLeaf im.leaves s.xipRoot imageTree leaf d.val first
      if a.1 then a.2.copyVerified im d.val leaf first.data
      else
        let b := a.2.imageLeaf im.leaves s.xipRoot imageTree leaf d.val second
        if b.1 then b.2.copyVerified im d.val leaf second.data else b.2.copyFailed im d.val leaf second.data)

/-- A write of 1 to BT_CTRL.RECOPY (R285). -/
def State.recopy (s : State) (d : Nat) : State :=
  match s.boot.image with
  | none => s.bootReject
  | some im =>
    if s.getF Fld.BT_STATUS_SLOT 0 = 2 then s.bootReject
    else if !s.reached d then s
    else
      let l := (copyList s.nDies im.sections).filter fun p => decide (p.1 = d)
      let v := s.getF Fld.BT_STATUS_DIE_DONE 0
      let s := if bitOf v d then s.setF Fld.BT_STATUS_DIE_DONE 0 (v - 2 ^ d) else s
      let s := s.setF Fld.BT_STATUS_STAGE 0 1
      let s := s.modBoot fun x =>
        { x with left := (x.left.filter fun p => decide (p.1 ≠ d)) ++ l, recopy := (x.recopy.filter fun e => decide (e ≠ d)) ++ [d],
                 failed := x.failed.filter fun p => decide (p.1 ≠ d) }
      if l = [] then (s.modBoot fun x => { x with recopy := x.recopy.filter fun e => decide (e ≠ d) }).dieDone d else s

/-- RECOPY (R285). -/
def execRecopy (req : Requester) (d : DieId) (s : State) : Host.Outcome State Fault Refusal :=
  .next (s.platAccess req fun s => if fromDie0 req then s.recopy d.val else s.bootReject)

/-! ## Hand-over (R280, R324 to R328) -/

/-- Every block of the stage-1 section has verified on die 0. -/
def State.stage1Done (s : State) (im : Image) : Bool :=
  im.sections.all fun x => !x.stage1 || s.boot.left.all fun p =>
    !(decide (p.1 = 0) && decide (x.first ≤ p.2) && decide (p.2 < x.first + x.span))

/-- Die 1 signs from now on (R328): ACTIVE_DIE, 0x7001, a KEYS_MOVED record and a mark on every lease. -/
def State.keysMoved (s : State) : State :=
  (((s.setFlag Fld.KU_STATUS_ACTIVE_DIE 0 true).report 0 0x7001 0).append 0x0C (padTo 16 [1])).markAll

/-- The key units' step of hand-over: derive, place, check (R280 step 1, R324, R325, R328). `failing` names the units whose
check fails after the derivation. -/
def State.deriveKeys (s : State) (im : Image) (failing : List DieId) : State :=
  if s.lc = 4 then s
  else
    let s := (s.putDigest .KU_FWMEAS 0 (hashOf im.message)).udsRead
    match s.uds, s.identityAllowed with
    | some u, true =>
      let u := digestOf u
      let cdi := cdi0Of u
      let seen := s.keys.bad
      let fails := (failing.map fun d => d.val).filter fun d => decide (d < 2) && !mem d seen
      let bad := seen ++ fails
      let reach1 := s.reached 1 && decide (Tbl.get s.keys.transport 1 [] ≠ [])
      let holds0 := !mem 0 bad
      let holds1 := reach1 && !mem 1 bad
      let others := numsBelow s.nDies fun d => decide (d ≠ 0) && s.reached d && !mem d bad &&
        decide (Tbl.get s.keys.transport d [] ≠ [])
      let s := s.modKeys fun k =>
        { k with cdi0 := some cdi, cdi1 := some (cdi1Of u (hashOf im.message)), bad := bad, holds0 := holds0, holds1 := holds1,
                 sealing := (if holds0 then [0] else []) ++ others }
      let s := s.forEach fails fun s d => s.report d 0x7002 d
      let s := if !holds0 ∧ holds1 then s.keysMoved else s
      s.showKeys
    | _, _ => s.showKeys

/-- Clear the ROM's working area (R280, step 2). -/
def State.clearWork (s : State) : State :=
  let m := s.sram.filter fun c => !(decide (0x380000 ≤ c.1) && decide (c.1 < 0x3C0000))
  { s with sram := m }

/-- Hand over to an image (R280, R285, R289, R291). -/
def State.handOver (s : State) (im : Image) (failing : List DieId) : State :=
  let s := (s.deriveKeys im failing).clearWork.setFlag Fld.BT_LOCK_ROM_LOCKED 0 true
  let pc := BitVec.ofNat 32 im.entryPc
  let s := s.modCore 0 0 fun c => { c with running := true, pc := pc, inTrap := false }
  let s := (s.setF Fld.BT_STATUS_SLOT 0 im.slot).modBoot fun b => { b with inWait := false, rescue := none }
  let s :=
    if im.slot = 2 then s.setF Fld.BT_STATUS_STAGE 0 3
    else
      let s := (s.setF Fld.BT_RETRY_EXP 0 0).setFlag Fld.BT_STATUS_PENDING 0 im.pending
      let s := s.setFlag Fld.BT_STATUS_CONFIRMED 0 (!im.pending)
      if im.pending then
        (s.setF Fld.BT_CONFIRM_WINDOW_S 0 im.confirmS).setF Fld.BT_CONFIRM_LEFT_S 0 im.confirmS
      else s
  s.fuseTamper

/-- HAND_OVER (R280): stage 1, or every block of a rescue image, has verified. -/
def execHandOver (failing : List DieId) (s : State) : Host.Outcome State Fault Refusal :=
  .next (s.when s.romRuns fun s =>
    match s.boot.image with
    | some im => if s.stage1Done im ∧ (im.slot ≠ 2 ∨ s.boot.left = []) then s.handOver im failing else s
    | none => s)

/-- BACKOFF_EXPIRE (R291, R292): the wait has run out; it does not run while a rescue transfer does. -/
def execBackoffExpire (s : State) : Host.Outcome State Fault Refusal :=
  .next (s.when (s.romRuns && s.boot.inWait && s.boot.rescue.isNone && decide (s.boot.waitLeft = 0)) fun s =>
    let s := s.setF Fld.BT_RETRY_EXP 0 (min (s.getF Fld.BT_RETRY_EXP 0 + 1) 6)
    ((s.setF Fld.BT_RETRY_BADMASK 0 0).modBoot fun b => { b with inWait := false }).forceExpiry)

/-! ## Trial and confirmation (R289) -/

/-- The part's own write sequence on HOME, its polls included: where it ran on the XIP select, the lines and the fills in progress
go, and the fills are issued again (R261, R268). -/
def State.homeWrites (s : State) (slot : Bool) : State :=
  if slot = s.flag Fld.XIP_CTRL_SEL 0 then s.xipWritten.xipStart 4 else s

/-- A write of 1 to BT_CTRL.CONFIRM, with the outcome of the program. -/
def State.confirm (s : State) (ok : Bool) : State :=
  if !s.flag Fld.BT_STATUS_PENDING 0 then s
  else
    let slot := decide (s.getF Fld.BT_STATUS_SLOT 0 = 1)
    let s := (s.chunk slot 0x120).homeWrites slot
    if ok then ((s.setFlag Fld.BT_STATUS_CONFIRMED 0 true).setFlag Fld.BT_STATUS_PENDING 0 false).wr .BT_CONFIRM 0 0
    else (s.setF Fld.BT_RETRY_LAST 0 0xB).bootFault (b2n slot) 0x630B

/-- CONFIRM (R289). -/
def execConfirm (req : Requester) (ok : Bool) (s : State) : Host.Outcome State Fault Refusal :=
  .next (s.platAccess req fun s => if fromDie0 req then s.confirm ok else s.bootReject)

/-- CONFIRM_WINDOW_EXPIRE (R289). -/
def execConfirmWindowExpire (s : State) : Host.Outcome State Fault Refusal :=
  .next (s.when (s.platLive && s.flag Fld.BT_STATUS_PENDING 0 && decide (s.getF Fld.BT_CONFIRM_LEFT_S 0 = 0) &&
      !s.boot.force) fun s =>
    ((s.setF Fld.BT_RETRY_LAST 0 0xE).bootFault (s.getF Fld.BT_STATUS_SLOT 0) 0x6306).forceExpiry)

/-! ## CHECK (R296) -/

/-- A write of 1 to BT_CTRL.CHECK. -/
def State.checkStart (s : State) (slot : Bool) : State :=
  if s.getF Fld.BT_STATUS_SLOT 0 = b2n slot ∨ s.flag Fld.BT_CHECK_BUSY 0 then s.bootFault (b2n slot) 0x630A
  else (s.setFlag Fld.BT_CHECK_BUSY 0 true).modBoot fun b => { b with checking := some (b2n slot) }

/-- CHECK (R296). -/
def execCheck (req : Requester) (slot : Bool) (s : State) : Host.Outcome State Fault Refusal :=
  .next (s.platAccess req fun s => if fromDie0 req then s.checkStart slot else s.bootReject)

/-- RESULT and FIRST_FAIL of a CHECK. -/
def State.checkResult (s : State) (x : SlotInput) (leaves : List (List Byte)) : Nat × Nat :=
  match s.slotFailure x with
  | some f => (f.1, 0)
  | none =>
    let c := x.colophon.getD []
    match (List.range (coLeaves c)).find? fun i => !blockOk (coLeaves c) (coRoot c) x.groups i (leaves.getD i []) with
    | some i => (0xA, i)
    | none => (0, 0)

/-- CHECK_DONE (R296). -/
def execCheckDone (x : SlotInput) (leaves : List (List Byte)) (s : State) : Host.Outcome State Fault Refusal :=
  .next (s.when (s.platLive && s.flag Fld.BT_CHECK_BUSY 0) fun s =>
    let s := if x.colophon.isSome then s.coReads (x.colophon.getD []) false else s
    let r := s.checkResult x leaves
    let s := s.modBoot fun b => { b with checking := none }
    let s := (s.setFlag Fld.BT_CHECK_BUSY 0 false).setFlag Fld.BT_CHECK_DONE 0 true
    (s.setF Fld.BT_CHECK_RESULT 0 r.1).setF Fld.BT_CHECK_FIRST_FAIL 0 r.2)

end Sys2Proof.Machine
end

