-- ==== Sys2Proof/Machine/Guard.lean ====
section
/-! DEFINITION. The guard (14): sources, responses, tamper epochs, lockdown and unlock; and dies that become reachable again
(R403 to R414, R409). -/

namespace Sys2Proof.Machine

/-- Change the guard's state. -/
def State.modGuard (s : State) (f : Guard → Guard) : State := { s with guard := f s.guard }

/-- A write that R427 bars, or a refused command: 0xB005. -/
def State.gdReject (s : State) : State := s.report 0 0xB005 0

/-! ## Sources (R403 to R406) -/

/-- The die whose supply a source watches; none for the package's. -/
def sourceDie (k : Nat) : Option Nat := if k < 64 then some (k / 8) else none

/-- A source of a present die, or of the package. -/
def State.sourcePresent (s : State) (k : Nat) : Bool :=
  match sourceDie k with
  | some d => s.present d
  | none => decide (k ≤ 88)

/-- A latched event that die 0 can take now: PLAT runs, and the source's die can be reached. -/
def State.takable (s : State) (k : Nat) : Bool :=
  s.platLive && match sourceDie k with
  | some d => s.reached d
  | none => true

/-- A source fires: its latch in AON holds the event until die 0 takes it, once for each source while it cannot (R405, R409). -/
def State.fire (s : State) (k : Nat) : State :=
  if s.sourcePresent k ∧ !s.seq.aonHeld ∧ (s.takable k ∨ !mem k s.guard.latched) then
    s.modGuard fun g => { g with latched := g.latched ++ [k] }
  else s

/-- SQUALL (R404): the even sources of Table 14.1 below 72. -/
def execSquall (k : SourceId) (s : State) : Host.Outcome State Fault Refusal :=
  .next (s.when (decide (k.val < 72) && decide (k.val % 2 = 0)) fun s => s.fire k.val)

/-- FRONT (R404): the odd sources of Table 14.1 below 72. -/
def execFront (k : SourceId) (s : State) : Host.Outcome State Fault Refusal :=
  .next (s.when (decide (k.val < 72) && decide (k.val % 2 = 1)) fun s => s.fire k.val)

/-- PSNS_CHANGE (R155, R406): the filtered level of a line changes; its source fires at ACT_LVL, and gates that watch the
level arm. -/
def execPsnsChange (p : Fin 16) (level : Bool) (s : State) : Host.Outcome State Fault Refusal :=
  let old := s.getF Fld.GD_PSNS_FILTERED 0
  .next (s.when (bitOf old p.val != level) fun s =>
    let v := setBits old p.val 1 (b2n level)
    let s := (s.setF Fld.GD_PSNS_FILTERED 0 v).setF Fld.GD_PSNS_RAW 0 (setBits (s.getF Fld.GD_PSNS_RAW 0) p.val 1 (b2n level))
    let s := if level = s.flag Fld.GD_SRC_CFG_ACT_LVL (72 + p.val) ∧ s.flag Fld.GD_SRC_CFG_ENABLE (72 + p.val) then
        s.fire (72 + p.val)
      else s
    s.when s.platLive fun s => s.forEach (List.range 32) fun s g => s.gateArm g)

/-! ## Lockdown (R412) -/

/-- HOLD sets on every PCTL line (Table 14.3), which marks the leases whose channels' plans name a line. -/
def State.holdAll (s : State) : State :=
  let s := s.forEach (List.range 32) fun s k => s.setFlag Fld.RP_LINE_HOLD k true
  s.mark (s.lineChannels 0xFFFFFFFF)

/-- Enter lockdown: cause is the source, 0x80 LOCK, 0x81 the crossed check. -/
def State.lockdown (s : State) (cause : Nat) : State :=
  if s.flag Fld.GD_STATUS_LOCKED 0 then s
  else
    let n := s.folio.next
    let s := (s.setFlag Fld.GD_STATUS_LOCKED 0 true).append 0x07 (padTo 16 [BitVec.ofNat 8 cause])
    (s.modFolio fun f => { f with lockSeq := n }).report 0 0xB004 0

/-! ## Responses (R407 to R411) -/

/-- A GUARD record. -/
def State.guardRecord (s : State) (k merged : Nat) : State :=
  s.append 0x05 ([BitVec.ofNat 8 k, BitVec.ofNat 8 (s.getF Fld.GD_SRC_CFG_RESP k)] ++ beBytes 2 merged ++
    beBytes 4 s.us.toNat ++ List.replicate 8 0)

/-- The tamper epoch's burn begins (R410): ADVANCE_TAMPER ahead of any waiting command. -/
def State.tamperStart (s : State) (k : Nat) : State :=
  if s.flag Fld.GD_STATUS_EPOCH_DONE 0 ∨ s.guard.burn.isSome then s
  else
    let t := s.getF Fld.FU_COUNTS_TAMPER 0 + 1
    let s := s.modGuard fun g => { g with burn := some (k, t) }
    (s.modFuses fun f => { f with waiting := some t }).tamperGo

/-- One source's firing reaches the guard: its count, its window, its records. It answers the response to apply, if any. -/
def State.sourceTake (s : State) (k : Nat) : State × Nat :=
  if !s.flag Fld.GD_SRC_CFG_ENABLE k then (s, 0)
  else
    let r := s.getF Fld.GD_SRC_CFG_RESP k
    let s := s.setF Fld.GD_SRC_CNT_COUNT k (min (s.getF Fld.GD_SRC_CNT_COUNT k + 1) 0xFFFF)
    let s := (s.setF Fld.GD_STATUS_LAST_SOURCE 0 k).count 0 0x3F5 1
    let w := Tbl.get s.guard.windows k 0
    if w ≠ 0 then (s.modGuard fun g => { g with windows := Tbl.set g.windows k (w + 1) 0 }, 0)
    else if r = 0 then (s, 0)
    else
      let us := s.us
      let s := s.modGuard fun g => { g with windows := Tbl.set g.windows k 1 0, windowUs := Tbl.set g.windowUs k us 0 }
      let s := (s.guardRecord k 0).report 0 0xB001 k
      let s := if s.flag Fld.GD_SRC_CFG_TAMPER k then s.tamperStart k else s
      (s, r)

/-- ZEROISE: the key units clear every identity key, every sealing key and CDI_1 (Table 14.3). -/
def State.zeroise (s : State) : State :=
  (s.modKeys fun k => { k with cdi0 := none, cdi1 := none, holds0 := false, holds1 := false, sealing := [] }).showKeys

/-- Apply a response once, with every response listed above it (R408); `k` is the source named in a LOCKDOWN record. -/
def State.guardRespond (s : State) (k r : Nat) : State :=
  let s := if 2 ≤ r then (s.emit (.faultIrq 0)).markAll else s
  let s := if 3 ≤ r then s.holdAll else s
  let s := if 3 ≤ r ∧ s.flag Fld.GD_CTRL_LOCKDOWN 0 then s.lockdown k else s
  let s := if 5 ≤ r then s.zeroise else s
  let us := s.us
  if 4 ≤ r ∧ !s.guard.resetDue then s.modGuard fun g => { g with resetDue := true, resetUs := us } else s

/-- Sources that fired together, in increasing order: records for each, and the most restrictive response once (R408). -/
def State.guardTake (s : State) (l : List Nat) : State :=
  let r := l.foldl (fun (a : State × Nat × Nat) k =>
    let (s, r) := a.1.sourceTake k
    (s, if a.2.2 < r then (k, r) else a.2)) (s, (0, 0))
  r.1.guardRespond r.2.1 r.2.2

/-- Take the latched events of the sources of a list, in increasing source order. -/
def State.takeLatched (s : State) (l : List Nat) : State :=
  let now := (numsBelow 89 fun k => mem k l).flatMap fun k => s.guard.latched.filter fun j => decide (j = k)
  (s.modGuard fun g => { g with latched := g.latched.filter fun k => !mem k now }).guardTake now

/-- GUARD_EVENT (R407, R408). -/
def execGuardEvent (sources : List SourceId) (s : State) : Host.Outcome State Fault Refusal :=
  .next (s.when s.platLive fun s => s.takeLatched ((sources.map fun k => k.val).filter s.takable))

/-- HOLDOFF_EXPIRE (R407): one GUARD record carries the number of merged firings. -/
def execHoldoffExpire (k : SourceId) (s : State) : Host.Outcome State Fault Refusal :=
  let w := Tbl.get s.guard.windows k.val 0
  .next (s.when (s.platLive && decide (w ≠ 0) &&
      decide (1000 * max 1 (s.getF Fld.GD_CTRL_HOLDOFF_MS 0) ≤ s.usSince (Tbl.get s.guard.windowUs k.val 0))) fun s =>
    let s := s.modGuard fun g => { g with windows := Tbl.set g.windows k.val 0 0, windowUs := Tbl.set g.windowUs k.val 0 0 }
    if 1 < w then s.guardRecord k.val (min (w - 1) 0xFFFF) else s)

/-! ## GD_CMD (R412 to R414) -/

/-- A guard command ends. -/
def State.gdDone (s : State) (result : Nat) : State :=
  (s.setFlag Fld.GD_CMD_STATUS_DONE 0 true).setF Fld.GD_CMD_STATUS_RESULT 0 result

/-- LOCK. -/
def State.gdLock (s : State) : State :=
  if s.flag Fld.GD_STATUS_LOCKED 0 then s.gdDone 0
  else ((s.mark (s.lineChannels 0xFFFFFFFF)).lockdown 0x80).gdDone 0

/-- The refusal of an unlock token (R413, Table 14.4). -/
def State.unlockRefusal (s : State) (c : List Byte) : Option Nat :=
  let form := decide (ofBe (sliceB c 0 4) = 0x554E4C4B) && decide (ofBe (sliceB c 4 2) = 1) && zerosAt c 0xA 6 &&
    zerosAt c 0x64 28 && coKeyZeros c && decide (sliceB c 0x10 48 = s.deviceId) &&
    decide (s.guard.nonce = some (sliceB c 0x40 32)) && decide (ofBe (sliceB c 0x60 4) = s.folio.lockSeq)
  if !s.identity then some 1
  else if !s.flag Fld.GD_STATUS_LOCKED 0 then some 2
  else if !form then some 3
  else s.sigRefusal c false

/-- UNLOCK: the nonce is void from now on. The HOLD bits, which read 1 in lockdown, stay set (R414). -/
def State.gdUnlock (s : State) : State :=
  let c := s.sramBytes 0 (s.rd .GD_ARG 0).toNat 8192
  let r := s.unlockRefusal c
  let s := if s.identity ∧ s.flag Fld.GD_STATUS_LOCKED 0 ∧ r ≠ some 3 then s.sigReads c false else s
  let s := s.modGuard fun g => { g with nonce := none }
  match r with
  | some x => s.gdReject.gdDone x
  | none =>
    let n := s.folio.lockSeq
    let s := s.forEach (List.range 32) fun s k => s.setFlag Fld.RP_LINE_HOLD k true
    ((s.setFlag Fld.GD_STATUS_LOCKED 0 false).append 0x08 (hashOf c ++ beBytes 4 n ++ List.replicate 12 0)).gdDone 0

/-- A write of GD_CMD (R427). -/
def State.writeGdCmd (s : State) (req : Requester) (v : Word) : State :=
  if !fromDie0 req then s.gdReject
  else match Fld.GD_CMD_OP.of v with
    | 1 => s.gdUnlock
    | 2 => s.gdLock
    | _ => s.gdDone 7

/-- LOCK (R412). -/
def execGdLock (req : Requester) (value : Word) (s : State) : Host.Outcome State Fault Refusal :=
  .next (s.platAccess req fun s => s.writeGdCmd req (Fld.GD_CMD_OP.put value 2))

/-- UNLOCK (R413, R414). -/
def execGdUnlock (req : Requester) (value : Word) (stores : Stores) (s : State) : Host.Outcome State Fault Refusal :=
  .next (s.platAccess req fun s => (s.stores stores).writeGdCmd req (Fld.GD_CMD_OP.put value 1))

/-- A read of GD_UNLOCK_NONCE at 0xC020 captures a fresh nonce (R413). -/
def State.readUnlockNonce (s : State) : Word × State :=
  let r := s.draw
  let n := sliceB (digestOf r.1) 0 32
  let s := (r.2.modGuard fun g => { g with nonce := some n }).putBytes .GD_UNLOCK_NONCE 0 8 n
  (s.rd .GD_UNLOCK_NONCE 0, s)

/-- UNLOCK_NONCE_READ (R413). -/
def execUnlockNonceRead (req : Requester) (s : State) : Host.Outcome State Fault Refusal :=
  .next (s.platAccess req fun s => State.answer s.readUnlockNonce)

/-- A read of GD_SRC_CNT returns and clears it (R407). -/
def State.readSrcCnt (s : State) (k : Nat) : Word × State := (s.rd .GD_SRC_CNT k, s.wr .GD_SRC_CNT k 0)

/-- GD_SRC_CNT_READ (R407). -/
def execGdSrcCntRead (req : Requester) (k : SourceId) (s : State) : Host.Outcome State Fault Refusal :=
  .next (s.platAccess req fun s => State.answer (s.readSrcCnt k.val))

/-- A write of GD_CTRL: CROSS_RESP 0b11 stores 0b10. -/
def State.writeGdCtrl (s : State) (v : Word) : State :=
  let s := s.swWrite .GD_CTRL 0 v
  if s.getF Fld.GD_CTRL_CROSS_RESP 0 = 3 then s.setF Fld.GD_CTRL_CROSS_RESP 0 2 else s

/-- A write of GD_SRC_CFG: RESP 0b110 and 0b111 store 0b101 (R408). Sources of absent dies take nothing (R8, R403). -/
def State.writeSrcCfg (s : State) (k : Nat) (v : Word) : State :=
  if !s.sourcePresent k then s
  else
    let s := s.swWrite .GD_SRC_CFG k v
    if 5 < s.getF Fld.GD_SRC_CFG_RESP k then s.setF Fld.GD_SRC_CFG_RESP k 5 else s

/-! ## Dies that come back (R23, R409) -/

/-- DIE_REACHABLE (R409): the die can be reached again, and its latched events reach die 0. -/
def execDieReachable (d : DieId) (s : State) : Host.Outcome State Fault Refusal :=
  .next (s.when (s.platLive && s.present d.val && !(s.die d.val).reachable && !(s.die d.val).inReset) fun s =>
    let s := s.modDie d.val fun x => { x with reachable := true, lossSeen := false }
    let s := s.setF { reg := .RC_DIE_STATE, lo := 2 * d.val, width := 2 } 0 2
    s.takeLatched ((List.range 8).map fun j => 8 * d.val + j))

end Sys2Proof.Machine
end

