-- ==== Sys2Proof/Machine/FolioRows.lean ====
section
/-! DEFINITION. The folio (14): reading it back at opening, the hash chain, the programming of records, TICK, APPEND, ADOPT,
the crossed check and operating time (R11, R33, R415 to R427). -/

namespace Sys2Proof.Machine

/-! ## The folio in flash -/

/-- A record as it lies in flash: sector, end offset in the sector, raw bytes, and what they spell. -/
structure RawRec where
  sector : Nat
  stop : Nat
  raw : List Byte
  entry : FoRec
  deriving DecidableEq, Repr

/-- Walk a sector from an offset (R417, R419): units of zeros are skipped, erased space ends the walk. It answers the records
and the physical end. -/
def walkSector (fuel sector : Nat) (b : List Byte) (o : Nat) : List RawRec × Nat :=
  match fuel with
  | 0 => ([], o)
  | k + 1 =>
    if b.length < o + 16 then ([], o)
    else if zerosAt b o 16 then walkSector k sector b (o + 16)
    else match foParse (b.drop o) with
      | none => ([], o)
      | some r =>
        let x := walkSector k sector b (o + r.length)
        ({ sector := sector, stop := o + r.length, raw := sliceB b o r.length, entry := r } :: x.1, x.2)

/-- The records of every sector of a device, by sector. -/
def walkDevice (dev : List (List Byte)) : List (List RawRec) :=
  (dev.zipIdx).map fun p => (walkSector 257 p.2 p.1 0).1

/-- The sector whose first record has the largest SEQ. -/
def newestSector (l : List (List RawRec)) : Option Nat :=
  let heads := (l.zipIdx).filterMap fun p => (p.1.head?).map fun r => (r.entry.seq, p.2)
  (heads.foldl (fun (a : Option (Nat × Nat)) x => match a with
    | none => some x
    | some y => if y.1 < x.1 then some x else some y) none).map fun x => x.2

/-- Every record of a device, oldest first: the ring of sectors read from the one after the newest. -/
def deviceRecords (dev : List (List Byte)) : List RawRec :=
  let l := walkDevice dev
  match newestSector l with
  | none => []
  | some n => (l.drop (n + 1)).flatten ++ (l.take (n + 1)).flatten

/-- Every byte of a device reads erased. -/
def deviceErased (dev : List (List Byte)) : Bool := dev.all fun b => b.all fun x => decide (x = 0xFF)

/-- The SEQ of the newest record; none before any. -/
def lastSeq (l : List RawRec) : Option Nat := (l.getLast?).map fun r => r.entry.seq

/-- The device that the writer goes by: the one with the newer newest record, device 0 where they agree (Table 14.7). -/
def pickDevice (a b : List (List Byte)) : Bool :=
  match lastSeq (deviceRecords a), lastSeq (deviceRecords b) with
  | some x, some y => decide (x < y)
  | none, some _ => true
  | _, _ => false

/-! ## The chain (R419) -/

/-- K_f. -/
def State.folioKey (s : State) : List Byte :=
  match s.identity, s.keys.cdi0 with
  | true, some c => (hashOf (c ++ ascii "FOLIO")).take 32
  | _, _ => List.replicate 32 0

/-- The chain value at the beginning, and before a GENESIS (notes/assumptions/52.md). -/
def chainZero : Digest := List.replicate 48 0

/-- The chain value after a record. -/
def chainNext (key h raw : List Byte) : Digest := hashOf (key ++ h ++ raw)

/-- How far a walk along the chain has come. -/
structure ChainWalk where
  chain : Digest
  /-- SEQ of the last SEAL that verified. -/
  good : Option Nat
  /-- A record's LINK or a SEAL's value failed. -/
  failed : Bool
  deriving DecidableEq, Repr

/-- One record along the chain. -/
def chainStep (key : List Byte) (w : ChainWalk) (r : RawRec) : ChainWalk :=
  let h := if r.entry.typ = 0x01 then chainZero else w.chain
  let link := decide (sliceB r.raw 2 2 = sliceB h 46 2)
  let sealOk := decide (r.entry.typ ≠ 0x04) || decide (r.entry.body.take 48 = h)
  { chain := chainNext key h r.raw
    good := if w.failed ∨ !(link && sealOk) ∨ r.entry.typ ≠ 0x04 then w.good else some r.entry.seq
    failed := w.failed || !(link && sealOk) }

/-- Verify a folio (R421, step 2): from the newest GENESIS; without one, from the oldest SEAL, whose value anchors the chain;
without either, from the first record. -/
def chainWalk (key : List Byte) (l : List RawRec) : ChainWalk :=
  let fromGenesis := (l.reverse.takeWhile fun r => decide (r.entry.typ ≠ 0x01)).length
  let start : ChainWalk := { chain := chainZero, good := none, failed := false }
  if fromGenesis < l.length then (l.drop (l.length - fromGenesis - 1)).foldl (chainStep key) start
  else match l.dropWhile fun r => decide (r.entry.typ ≠ 0x04) with
    | [] => l.foldl (chainStep key) start
    | r :: t => t.foldl (chainStep key) { start with chain := chainNext key (r.entry.body.take 48) r.raw }

/-! ## Places of staged records -/

/-- Give records places from a sector and offset on; a record that does not fit goes to the next sector (R417). -/
def placeRecords (sectors : Nat) : Nat → Nat → List StagedRec → List StagedRec × Nat × Nat
  | sector, off, [] => ([], sector, off)
  | sector, off, x :: t =>
    let fits := decide (off + x.entry.length ≤ 4096)
    let sec := if fits then sector else (sector + 1) % sectors
    let o := if fits then off else 0
    let r := placeRecords sectors sec (o + x.entry.length) t
    ({ x with sector := sec, off := o } :: r.1, r.2)

/-! ## GENESIS, TIME and the crossed check -/

/-- GENESIS (Table 14.6). -/
def State.genesisBody (s : State) (adopted : Bool) : List Byte :=
  (if s.identity then s.deviceId else List.replicate 48 0) ++ beBytes 2 (s.getF Fld.FU_COUNTS_TAMPER 0) ++
    [BitVec.ofNat 8 (b2n s.identity + 2 * b2n adopted)] ++ List.replicate 13 0

/-- The record of a list with the largest SEQ that `p` selects. -/
def newestRec (p : FoRec → Bool) (l : List FoRec) : Option FoRec :=
  (l.filter p).foldl (fun (a : Option FoRec) x => match a with
    | none => some x
    | some y => if y.seq ≤ x.seq then some x else some y) none

/-- BASE of the newest GENESIS (R426). -/
def genesisBase (l : List FoRec) : Nat :=
  match newestRec (fun r => decide (r.typ = 0x01)) l with
  | some r => ofBe (sliceB r.body 48 2)
  | none => 0

/-- EPOCHs of TAMPER records with RESULT BURNED. -/
def burnedEpochs (l : List FoRec) : List Nat :=
  (l.filter fun r => decide (r.typ = 0x06) && decide (byteAt r.body 2 = 0)).map fun r => ofBe (sliceB r.body 0 2)

/-- The lowest missing or excess EPOCH, for B and N; none where the check passes. -/
def crossedEpoch (b n : Nat) (epochs : List Nat) : Option Nat :=
  let missing := (List.range (n - b)).map (fun k => b + 1 + k) |>.filter fun e => !mem e epochs
  let excess := epochs.filter fun e => decide (n < e)
  (missing ++ excess).foldl (fun (a : Option Nat) x => match a with
    | none => some x
    | some y => some (min x y)) none

/-- The crossed check fails (R426). -/
def State.crossFail (s : State) (epoch : Nat) : State :=
  let s := (s.setFlag Fld.GD_STATUS_CROSS_FAIL 0 true).report 0 0xB003 (epoch % 1024)
  match s.getF Fld.GD_CTRL_CROSS_RESP 0 with
  | 1 => s.holdAll
  | 2 => (s.mark (s.lineChannels 0xFFFFFFFF)).lockdown 0x81
  | _ => s

/-- The crossed check, once at each opening (R426). A FOREIGN folio fails it; where no EPOCH of it is missing or in excess,
the SOURCE is a free value. -/
def State.crossCheck (s : State) (foreign : Bool) : State :=
  let all := s.folio.all
  let s := match crossedEpoch s.folio.base (s.getF Fld.FU_COUNTS_TAMPER 0) (burnedEpochs all) with
    | some e => s.crossFail e
    | none =>
      if foreign then
        let r := s.fresh
        r.2.crossFail r.1.toNat
      else s
  s.setFlag Fld.GD_STATUS_CROSS_DONE 0 true

/-- LOCKED comes back from the folio: the newest LOCKDOWN has no later UNLOCK (R423). -/
def State.restoreLock (s : State) : State :=
  match newestRec (fun r => decide (r.typ = 0x07)) s.folio.all with
  | none => s
  | some r =>
    let later := s.folio.all.any fun x => decide (x.typ = 0x08) && decide (r.seq < x.seq)
    if later ∨ s.flag Fld.GD_STATUS_LOCKED 0 then s
    else (s.setFlag Fld.GD_STATUS_LOCKED 0 true).modFolio fun f => { f with lockSeq := r.seq }

/-- OT and PCC after a power-on reset (R421, step 4). -/
def State.restoreTime (s : State) (newest : Option FoRec) : State :=
  if !s.timeDue then s.setFlag Fld.FO_STATUS_TIME_VALID 0 true
  else
    let s := match newest with
      | some r =>
        { s with ot := min (r.ot + s.getF Fld.FO_CTRL_TICK_S 0 + s.ot) (2 ^ 40 - 1), pcc := min (r.pcc + 1) (2 ^ 24 - 1) }
      | none => s
    ({ s with timeDue := false }).setFlag Fld.FO_STATUS_TIME_VALID 0 true

/-! ## Neighbours (R392, R425) -/

/-- Compare a received DeviceID with the last one recorded for the port; `true` is DN. -/
def State.neighbour (s : State) (port : Bool) (id : List Byte) : State :=
  let p := BitVec.ofNat 8 (b2n port)
  let last := newestRec (fun r => decide (r.typ = 0x0A) && decide (byteAt r.body 0 = p)) s.folio.all
  let body (old : List Byte) : List Byte := padTo 16 [p] ++ padTo 48 old ++ padTo 48 id
  match last with
  | none => s.append 0x0A (body [])
  | some r =>
    if sliceB r.body 64 48 = padTo 48 id then s
    else
      let s := s.append 0x0A (body (sliceB r.body 64 48))
      let s := s.setF Fld.RV_STATUS_NBR_CHG 0 (s.getF Fld.RV_STATUS_NBR_CHG 0 ||| (if port then 2 else 1))
      s.report 0 0xC003 (b2n port)

/-- IDENTs that came before the folio opened are compared now (R425). -/
def State.earlyNeighbours (s : State) : State :=
  let l := s.rv.early
  let s := { s with rv := { s.rv with early := [] } }
  l.foldl (fun (s : State) p => s.neighbour p.1 p.2) s

/-! ## Opening (R421) -/

/-- START (Table 14.6). -/
def State.startBody (s : State) : List Byte :=
  beBytes 4 (s.rd .RC_CAUSE 0).toNat ++ beBytes 4 (s.rd .RC_COUNT 0).toNat ++ beBytes 4 (s.rd .FU_LC 0).toNat ++
    beBytes 4 (s.rd .FU_COUNTS 0).toNat

/-- LOST: how many records, and the SEQ of the first. -/
def lostBody (n first : Nat) : List Byte := beBytes 4 n ++ beBytes 4 first ++ List.replicate 8 0

/-- The records accepted before the opening get their places: after a power-on reset their SEQs count on from the folio's
last one (notes/assumptions/53.md), after a part reset they keep them. -/
def State.placeStaged (s : State) (last : Option Nat) : State :=
  let first := match s.folio.staged with
    | x :: _ => x.entry.seq
    | [] => s.folio.next
  let base := match s.timeDue, last with
    | true, some n => n + 1
    | _, _ => first
  let delta (q : Nat) : Nat := base + (q - first)
  let l := s.folio.staged
  let s := s.modFolio fun f =>
    { f with staged := [], next := base, firstDrop := if f.dropped = 0 then f.firstDrop else delta f.firstDrop }
  l.foldl (fun (s : State) x => s.accept 4 x.entry.typ x.entry.body x.entry.ot x.entry.pcc) s

/-- Copy the sectors that differ to the other device, before the first append (Table 14.7). -/
def State.mirrorCopy (s : State) (src : Bool) (good other : List (List Byte)) : State :=
  let base := (s.rd .FO_BASE 0).toNat
  ((good.zip other).zipIdx).foldl (fun (s : State) p =>
    if p.1.1 = p.1.2 then s
    else (s.emit (.homeProgram (!src) (base + 4096 * p.2) p.1.1)).homeWrites (!src)) s

/-- FOLIO_OPEN (R421, R423, R425, R426): `dev0` and `dev1` are the sectors of the folio on the two HOME devices. -/
def State.openFolio (s : State) (dev0 dev1 : List (List Byte)) : State :=
  let src := pickDevice dev0 dev1
  let good := if src then dev1 else dev0
  let other := if src then dev0 else dev1
  let recs := deviceRecords good
  let w := chainWalk s.folioKey recs
  let blank := deviceErased dev0 && deviceErased dev1
  let foreign := !blank && (recs.isEmpty || (w.failed && w.good.isNone))
  let last := lastSeq recs
  let newest : Option FoRec := (recs.getLast?).map fun r => r.entry
  let spot : Nat × Nat := match recs.getLast? with
    | some r => (r.sector, (walkSector 257 r.sector (good.getD r.sector []) 0).2)
    | none => (0, 0)
  let log : List (Nat × FoRec) := recs.map fun r => (r.sector, r.entry)
  let since := (recs.reverse.takeWhile fun r => decide (r.entry.typ ≠ 0x04)).length
  let lost := match s.timeDue, last with
    | false, some n =>
      let first := match s.folio.staged with
        | x :: _ => x.entry.seq
        | [] => s.folio.next
      (first - (n + 1), n + 1)
    | _, _ => (0, 0)
  let s := s.modFolio fun f =>
    { f with chain := w.chain, sinceSeal := since, sector := spot.1, off := spot.2, log := log, opened := !foreign }
  let s := match last with
    | some n => s.wr .FO_SEQ 0 (BitVec.ofNat 32 n)
    | none => s
  let s := s.setF Fld.FO_STATUS_STATE 0 (if blank then 2 else if foreign then 4 else 3)
  let s := if foreign then s else s.mirrorCopy src good other
  let s := s.placeStaged last
  let s := if foreign then s.report 0 0xB009 0 else s
  let s := if blank then s.accept 4 0x01 (s.genesisBody false) 0 1 else s
  let broken := !foreign && w.failed
  let s := if broken then
      let g := w.good.getD 0
      ((s.setFlag Fld.FO_STATUS_BROKEN 0 true).append 0x0E (beBytes 4 g ++ beBytes 4 (g + 1) ++ List.replicate 8 0)).report
        0 0xB007 0
    else s
  let s := s.restoreTime newest
  let ot := s.ot
  let s := s.modFolio fun f => { f with visibleOt := ot }
  let s := s.append 0x02 s.startBody
  let s := if lost.1 ≠ 0 ∧ !foreign then s.append 0x0D (lostBody lost.1 lost.2) else s
  let s := s.modFolio fun f => { f with base := genesisBase f.all }
  let s := s.restoreLock
  let s := if foreign then s else s.earlyNeighbours
  s.crossCheck foreign

/-- FOLIO_OPEN (R421). -/
def execFolioOpen (dev0 dev1 : List (List Byte)) (s : State) : Host.Outcome State Fault Refusal :=
  .next (s.when (s.platLive && s.folio.sizeSet && decide (s.getF Fld.FO_STATUS_STATE 0 = 1) &&
    s.flag Fld.BT_LOCK_ROM_LOCKED 0) fun s => s.openFolio dev0 dev1)

/-! ## Writing records (R418) -/

/-- The outcome of the attempts on one device: how many failed before it read back (three stop the device). An exhausted
list reads back. -/
def failures : List Bool → Nat
  | [] => 0
  | true :: _ => 0
  | false :: t => min 3 (1 + failures t)

/-- A device is in use (R418). -/
def State.devUsed (s : State) (dev : Bool) : Bool := !bitOf (s.getF Fld.FO_STATUS_DEV_LOST 0) (b2n dev)

/-- Program bytes of a folio sector on a device in use; an erase of the sector shows as a program of no bytes. -/
def State.foProgram (s : State) (dev : Bool) (sector off : Nat) (raw : List Byte) : State :=
  if s.devUsed dev then
    (s.emit (.homeProgram dev ((s.rd .FO_BASE 0).toNat + 4096 * sector + off) raw)).homeWrites dev
  else s

/-- The writer erases a sector on both devices, which forgets its records (R424). -/
def State.foErase (s : State) (sector : Nat) : State :=
  let s := s.modFolio fun f => { f with log := f.log.filter fun p => decide (p.1 ≠ sector) }
  (s.foProgram false sector 0 []).foProgram true sector 0 []

/-- Program a record on one device: a copy that reads back wrong is voided to zeros and written again after the void, at the start
of the next sector where it no longer fits; after the third failure the device is used no more (R417, R418). It answers the place
of the last copy. -/
def State.programRecord (s : State) (dev : Bool) (raw : List Byte) : Nat → Nat → Nat → State × Nat × Nat
  | 0, sector, off => (s.foProgram dev sector off raw, sector, off)
  | bad + 1, sector, off =>
    let n := raw.length
    let s := (s.foProgram dev sector off raw).foProgram dev sector off (List.replicate n 0)
    let fits := decide (off + 2 * n ≤ 4096)
    let next := if fits then sector else (sector + 1) % s.foSectors
    let s := if fits then s else s.foErase next
    s.programRecord dev raw bad next (if fits then off + n else 0)

/-- The record on one device, with `bad` attempts that read back wrong. -/
def State.programCopy (s : State) (dev : Bool) (raw : List Byte) (bad sector off : Nat) : State × Nat × Nat :=
  if !s.devUsed dev then (s, sector, off)
  else if bad < 3 then s.programRecord dev raw bad sector off
  else
    let r := s.programRecord dev raw 2 sector off
    let t := r.1.foProgram dev r.2.1 r.2.2 (List.replicate raw.length 0)
    let lost := t.getF Fld.FO_STATUS_DEV_LOST 0 ||| 2 ^ b2n dev
    ((t.setF Fld.FO_STATUS_DEV_LOST 0 lost).report 0 0xB006 0, sector, off)

/-- The bytes between two places of a sector read as void on a device, so that both devices keep the same offsets. -/
def State.voidGap (s : State) (dev : Bool) (sector off sector' off' : Nat) : State :=
  if sector = sector' ∧ off < off' then s.foProgram dev sector off (List.replicate (off' - off) 0) else s

/-- Both copies of a record: device 1 takes the offset at which device 0 has it (R418). It answers the last place. -/
def State.programBoth (s : State) (raw : List Byte) (bad0 bad1 sector off : Nat) : State × Nat × Nat :=
  let a := s.programCopy false raw bad0 sector off
  let b := (a.1.voidGap true sector off a.2.1 a.2.2).programCopy true raw bad1 a.2.1 a.2.2
  (b.1.voidGap false a.2.1 (a.2.2 + raw.length) b.2.1 (b.2.2 + raw.length), b.2.1, b.2.2)

/-- The oldest staged record goes to flash and becomes visible, where a device read it back (R33, R418). -/
def State.writeRecord (s : State) (x : StagedRec) (rest : List StagedRec) (bad0 bad1 : Nat) : State :=
  let h := if x.entry.typ = 0x01 then chainZero else s.folio.chain
  let entry : FoRec := if x.entry.typ = 0x04 then { x.entry with body := h } else x.entry
  let raw := entry.bytes h
  let s := if x.off = 0 then s.foErase x.sector else s
  let r := s.programBoth raw bad0 bad1 x.sector x.off
  let s := r.1
  if !s.devUsed false ∧ !s.devUsed true then s
  else
    let place :=
      if r.2 = (x.sector, x.off) then (rest, s.folio.sector, s.folio.off)
      else placeRecords s.foSectors r.2.1 (r.2.2 + raw.length) rest
    let ot := s.ot
    let key := s.folioKey
    let s := s.modFolio fun f =>
      { f with staged := place.1, sector := place.2.1, off := place.2.2, chain := chainNext key h raw,
               log := f.log ++ [(r.2.1, entry)], visibleOt := ot }
    let s := (s.showStaged.wr .FO_SEQ 0 (BitVec.ofNat 32 entry.seq)).count 0 0x3F6 1
    let s := if entry.typ = 0x01 then s.setF Fld.FO_STATUS_STATE 0 3 else s
    if s.folio.dropped ≠ 0 ∧ s.folio.stagedBytes + 32 ≤ 65536 then
      let n := s.folio.dropped
      let first := s.folio.firstDrop
      let s := s.modFolio fun f => { f with dropped := 0, firstDrop := 0 }
      (s.append 0x0D (lostBody n first)).report 0 0xB008 0
    else s

/-- FOLIO_RECORD_WRITE (R418): `ok0` and `ok1` are the read-backs of the attempts on the two devices. With FULL the writer
begins no new sector (R424), and with both devices out of use no record becomes visible (R418). -/
def execFolioRecordWrite (ok0 ok1 : List Bool) (s : State) : Host.Outcome State Fault Refusal :=
  .next (s.when (s.platLive && s.folio.opened && !s.deferring && (s.devUsed false || s.devUsed true)) fun s =>
    match s.folio.staged with
    | [] => s
    | x :: rest =>
      if s.flag Fld.FO_STATUS_FULL 0 ∧ x.off = 0 then s
      else s.writeRecord x rest (failures ok0) (failures ok1))

/-- TICK (R424). -/
def execFolioTick (s : State) : Host.Outcome State Fault Refusal :=
  .next (s.when (s.platLive && s.folio.opened && decide (s.getF Fld.FO_CTRL_TICK_S 0 ≤ s.ot - s.folio.visibleOt)) fun s =>
    s.append 0x03 [])

/-! ## FO registers -/

/-- A folio command ends. -/
def State.foDone (s : State) (result : Nat) : State :=
  (s.setFlag Fld.FO_CMD_STATUS_DONE 0 true).setF Fld.FO_CMD_STATUS_RESULT 0 result

/-- APPEND (R425). -/
def State.foAppend (s : State) (typ len : Nat) : State :=
  if typ < 0x40 ∨ 0xEF < typ ∨ 4080 < len ∨ len % 16 ≠ 0 then (s.report 0 0xB005 0).foDone 2
  else (s.append typ (s.sramBytes 0 (s.rd .FO_ARG 0).toNat len)).foDone 0

/-- ADOPT (R422): GENESIS after the physical end, and the folio opens. -/
def State.foAdopt (s : State) : State :=
  if s.getF Fld.FO_STATUS_STATE 0 ≠ 4 then s.foDone 1
  else
    let l := s.folio.staged
    let n := s.foSectors
    let spot := match l with
      | x :: _ => (x.sector, x.off)
      | [] => (s.folio.sector, s.folio.off)
    let place := placeRecords n spot.1 spot.2 l
    let s := s.modFolio fun f =>
      { f with staged := place.1, sector := place.2.1, off := place.2.2, opened := true }
    let s := s.accept 4 0x01 (s.genesisBody true) s.ot s.pcc
    let s := s.modFolio fun f => { f with base := genesisBase f.all }
    ((s.setF Fld.FO_STATUS_STATE 0 3).earlyNeighbours).foDone 0

/-- A write of FO_CMD (R427). -/
def State.writeFoCmd (s : State) (req : Requester) (v : Word) : State :=
  if !fromDie0 req then s.gdReject
  else match Fld.FO_CMD_OP.of v with
    | 1 => s.foAppend (Fld.FO_CMD_TYPE.of v) (Fld.FO_CMD_LEN.of v)
    | 2 => s.foAdopt
    | _ => s.foDone 2

/-- A write of FO_BASE: once after each reset that clears PLAT (R415). -/
def State.writeFoBase (s : State) (v : Word) : State :=
  if s.folio.baseSet then s
  else (s.wr .FO_BASE 0 (v &&& 0xFFFF0000#32)).modFolio fun f => { f with baseSet := true }

/-- A write of FO_SIZE: once, and it starts the opening (R415). -/
def State.writeFoSize (s : State) (v : Word) : State :=
  if s.folio.sizeSet then s
  else ((s.wr .FO_SIZE 0 (v &&& 0xFFFF0000#32)).modFolio fun f => { f with sizeSet := true }).setF Fld.FO_STATUS_STATE 0 1

/-- A write of FO_CTRL: a TICK_S below 60 stores 60. -/
def State.writeFoCtrl (s : State) (v : Word) : State :=
  let s := s.swWrite .FO_CTRL 0 v
  if s.getF Fld.FO_CTRL_TICK_S 0 < 60 then s.setF Fld.FO_CTRL_TICK_S 0 60 else s

/-- APPEND (R425). -/
def execFoAppend (req : Requester) (value : Word) (stores : Stores) (s : State) : Host.Outcome State Fault Refusal :=
  .next (s.platAccess req fun s => (s.stores stores).writeFoCmd req (Fld.FO_CMD_OP.put value 1))

/-- ADOPT (R422). -/
def execFoAdopt (req : Requester) (value : Word) (s : State) : Host.Outcome State Fault Refusal :=
  .next (s.platAccess req fun s => s.writeFoCmd req (Fld.FO_CMD_OP.put value 2))

/-- A read of FO_SEQ answers DURABLE and captures NEXT. -/
def State.readFoSeq (s : State) : Word × State :=
  (s.rd .FO_SEQ 0, s.wr .FO_SEQ_NEXT 0 (BitVec.ofNat 32 s.folio.next))

/-- FO_SEQ_READ (R427). -/
def execFoSeqRead (req : Requester) (s : State) : Host.Outcome State Fault Refusal :=
  .next (s.platAccess req fun s => State.answer s.readFoSeq)

/-! ## Operating time (R11, R289) -/

/-- OT_TICK: a second with VDDAON in its window; the confirmation window counts down with it. -/
def execOtTick (s : State) : Host.Outcome State Fault Refusal :=
  .next (s.when (!s.seq.aonHeld) fun s =>
    let s := { s with ot := min (s.ot + 1) (2 ^ 40 - 1) }
    let s := if s.platLive && s.boot.inWait && s.boot.rescue.isNone then s.modBoot fun b => { b with waitLeft := b.waitLeft - 1 } else s
    if s.platLive && s.flag Fld.BT_STATUS_PENDING 0 then
      s.setF Fld.BT_CONFIRM_LEFT_S 0 (s.getF Fld.BT_CONFIRM_LEFT_S 0 - 1)
    else s)

end Sys2Proof.Machine
end

