-- ==== Sys2Proof/Machine/Frames.lean ====
section
/-! DEFINITION. What a host frame does, phase by phase: its verdict and when it is due, the data the host receives, granule by
granule, the flash's side, the shadow status, and what its close records (R45 to R75, R86 to R111, R125, R141 to R145, R161,
R202, R204). -/

namespace Sys2Proof.Machine

/-! ## Shadow status (R107 to R111) -/

/-- BUSY time of a class in µs (Table 3.3, SS_TIME0, SS_TIME1). -/
def State.shadowTime (s : State) (n c : Nat) : Nat :=
  match c with
  | 0x6 => 10 * s.getF Fld.SS_TIME0_T_E4K n
  | 0x7 | 0x8 => 100 * s.getF Fld.SS_TIME1_T_ELARGE n
  | 0x9 => 10000 * s.getF Fld.SS_TIME1_T_CHIP n
  | _ => s.getF Fld.SS_TIME0_T_PROG n

/-- Arm the shadow status for a spoiled frame of a class (R107). -/
def State.shadowArm (s : State) (n c : Nat) (fail : Bool) : State :=
  if !s.flag Fld.SS_CTRL_ENABLE n || !classArms c false then s
  else
    let busy := s.shadowTime n c
    let phase := if busy ≠ 0 then 1 else if fail then 3 else 2
    let us := s.us
    (((s.setFlag Fld.SS_CTRL_ARMED n true).setF Fld.SS_CTRL_PHASE n phase).modCh n fun x =>
      { x with shadowFail := fail, shadowUs := us, shadowFor := busy }).countCh n 0x23 1

/-- The view that answers an opcode, as MASK, BUSY, DONE_OK, DONE_FAIL from the low byte up. -/
def State.shadowView (s : State) (n op : Nat) : Nat :=
  if op = s.getF Fld.SS_CTRL_VIEW1_OP n then (s.rd .SS_VIEW1 n).toNat else (s.rd .SS_VIEW0 n).toNat

/-- The phase value of the view. -/
def State.phaseValue (s : State) (n op : Nat) : Nat :=
  let v := s.shadowView n op
  match s.getF Fld.SS_CTRL_PHASE n with
  | 1 => bitsOf v 8 8
  | 2 => bitsOf v 16 8
  | _ => bitsOf v 24 8

/-- The synthesised status byte (R109). -/
def State.synthStatus (s : State) (n op : Nat) : Byte :=
  if s.flag Fld.SS_CTRL_ARMED n then BitVec.ofNat 8 (s.phaseValue n op)
  else if op = s.getF Fld.SS_CTRL_VIEW1_OP n then BitVec.ofNat 8 (s.getF Fld.SS_IDLE_IDLE1 n)
  else BitVec.ofNat 8 (s.getF Fld.SS_IDLE_IDLE0 n)

/-- The merge of a flash byte with the view (R108). -/
def State.mergeStatus (s : State) (n op : Nat) (b : Byte) : Byte :=
  let mask := BitVec.ofNat 8 (bitsOf (s.shadowView n op) 0 8)
  (b &&& ~~~ mask) ||| (BitVec.ofNat 8 (s.phaseValue n op) &&& mask)

/-- The shadow status answers a status read of this feature address (R110). -/
def State.shadowAnswers (s : State) (n : Nat) (addr : List Byte) : Bool :=
  !(bindNand (s.govBind n 0) && s.flag Fld.SS_CTRL_NAND_FILTER n) ||
  decide ((byteAt addr 0).toNat = s.getF Fld.SS_CTRL_NAND_FEAT n)

/-- Byte `a` of the shadow window for an opcode of class READ_META (R66). -/
def State.shadowByte (s : State) (n op a : Nat) : Byte :=
  if op = 0x5A then
    if a < s.getF Fld.SHADOW_CTRL_SFDP_LEN n then byteAt (leBytes 4 (s.rd .SHADOW_SFDP (n * 192 + a / 4)).toNat) (a % 4)
    else 0xFF
  else if a < s.getF Fld.SHADOW_CTRL_ID_LEN n then byteAt (leBytes 4 (s.rd .SHADOW_ID (n * 4 + a / 4)).toNat) (a % 4)
  else 0xFF

/-! ## Serving the granules of a read -/

/-- A span of the data phase that lies in one granule. -/
structure Span where
  granule : Nat
  /-- Offset of its first byte in the block. -/
  off : Nat
  /-- Index of its first byte in the data phase. -/
  first : Nat
  len : Nat
  deriving DecidableEq, Repr

/-- The spans of a data phase of `n` bytes from reduced address `a`; the granule after the last is granule 0 (R99). -/
def spansOf (wrap : Nat) : Nat → Nat → Nat → Nat → List Span
  | 0, _, _, _ => []
  | fuel + 1, a, first, n =>
    if n = 0 then []
    else
      let len := min n (4096 - a % 4096)
      { granule := a / 4096 % wrap, off := a % 4096, first := first, len := len } ::
        spansOf wrap fuel (a - a % 4096 + 4096) (first + len) (n - len)

/-- What serving a frame has built up. -/
structure Serve where
  s : State
  /-- Flash data is still forwarded. -/
  fwd : Bool
  spans : List (Source × List Byte)
  /-- TAG of the first granule that received REJECT (R125). -/
  rej : Option Nat
  /-- The witnessed granules of a tainted frame (R161): granule, tree, and whether the frame touched it by the moment of
  detection. -/
  taint : List (Nat × Nat × Bool)
  /-- The verdict applied to the start granule (R81): FILL under R100 or R144, whatever the forme gave. -/
  code : Nat

/-- What a frame needs while it is served. -/
structure Ctx where
  n : Nat
  op : Nat
  f : HostFrame
  /-- The flash can serve the host on time (R68, R101). -/
  onTime : Bool
  /-- The part answers the frame itself under the busy shield (R73). -/
  shield : Bool
  /-- The delivered byte at which a check failed (R161). -/
  taint : Option Nat
  deriving DecidableEq, Repr

/-- Fill bytes (R60). -/
def State.fillBytes (s : State) (n len : Nat) : List Byte :=
  List.replicate len (BitVec.ofNat 8 (s.getF Fld.CH_FILL_BYTE n))

/-- Serve a span with the fill pattern. -/
def Serve.fill (v : Serve) (c : Ctx) (p : Span) : Serve :=
  { v with s := v.s.countCh c.n 0x2C p.len, fwd := false, spans := v.spans ++ [(.fill, v.s.fillBytes c.n p.len)] }

/-- A tainted frame touches a witnessed granule. -/
def Serve.touch (v : Serve) (c : Ctx) (p : Span) (t : Nat) : Serve :=
  { v with taint := v.taint ++ [(p.granule, t, decide (p.first ≤ c.taint.getD 0))] }

/-- Serve a span from the galley; under WITNESS or GALLEY it is a consumption that passes at once (R143), unless the frame is
tainted. -/
def Serve.galley (v : Serve) (c : Ctx) (p : Span) (x : Slot) (wit : Bool) : Serve :=
  let s := (v.s.putSlot x).countCh c.n 0x28 p.len
  let v := { v with s := s, fwd := false, spans := v.spans ++ [(.galley, sliceB x.own p.off p.len)] }
  if !wit then v
  else if c.taint.isSome then v.touch c p x.tree
  else { v with s := (s.openCons c.n p.granule x.tree (some .pass)).1 }

/-- The flash's bytes of a span. -/
def Ctx.bytes (c : Ctx) (p : Span) : List Byte := (c.f.flash.drop p.first).take p.len

/-- Forward a span. -/
def Serve.forward (v : Serve) (c : Ctx) (p : Span) : Serve :=
  let b := c.bytes p
  { v with s := v.s.countCh c.n 0x26 b.length, spans := v.spans ++ [(.flash, b)] }

/-- Put delivered bytes into an entry. -/
def Slot.capture (x : Slot) (off : Nat) (b : List Byte) : Slot :=
  { x with host := b.zipIdx.foldl (fun t q => Tbl.insert (Tbl.drop t (off + q.2)) (off + q.2) q.1) x.host }

/-- A consumption awaits the re-read of its block, with fault 0x3008 (R161, step 3). -/
def State.awaitReread (s : State) (n g t : Nat) (seq : Word) : Await × State :=
  let s := s.modCh n fun c => { c with cons := c.cons.map fun x => if x.seq = seq then { x with reread := true } else x }
  (.verdict seq g, ((s.setFlag Fld.WIT_CHSTAT_TAINT_OPEN n true).witFault (n / 8) t n 0x3008).markCh n)

/-- A granule is tainted: the bytes the frame delivered of it enter no capture entry, and the block counts as an open
consumption, with the frame's own sequence number, until it has been re-read (R161, steps 1 to 3). An entry that frames before it
filled goes on to its own verdict, on their bytes (R163), and a VERIFIED galley copy stays, for it is proven
(notes/assumptions/126.md). -/
def State.taintMark (s : State) (n g t : Nat) : Await × State :=
  let (s, seq) := s.openCons n g t none
  s.awaitReread n g t seq

/-- Granules tainted at one moment: the most restrictive TAINT_RESP of their trees applies, once, and awaits the re-reads
(R159, R161, step 4). -/
def State.taintGranules (s : State) (n : Nat) (gs : List (Nat × Nat)) : State :=
  let resp := gs.foldl (fun a p => respMax a (s.getF Fld.TD_CFG_TAINT_RESP (n / 8 * 256 + p.2))) 0
  let r := gs.foldl (fun (a : List Await × State) p =>
    let x := a.2.taintMark n p.1 p.2
    (a.1 ++ [x.1], x.2)) ([], s)
  r.2.respond n resp r.1

/-- The witness engine acknowledges a granule of a tree that needs no slot (R144): in time, the tree ROOTED and its CHANNEL this
one. -/
def State.acks (s : State) (n t : Nat) (noAck : Bool) : Bool :=
  let i := n / 8 * 256 + t
  !noAck && decide (s.getF Fld.TD_STATE_STATE i = 2) && decide (s.getF Fld.TD_CFG_CHANNEL i = n % 8)

/-- The witness engine can take a granule of a tree (R143, R144). -/
def State.canTake (s : State) (n g t : Nat) (noAck : Bool) : Bool :=
  let d := n / 8
  let room := match s.slot n g with
    | some x => decide (x.st ≠ .fetch) || decide (s.entries d < 512)
    | none => decide (s.entries d < 512) && (s.takeSlot d).isSome
  s.acks n t noAck && room

/-- Forward a witnessed span: compare it with the galley copy, or capture it (R143, R145). Bytes delivered while the block is in
HASH belong to the block that is hashed: where they change it, its job runs again (R163). -/
def Serve.witness (v : Serve) (c : Ctx) (p : Span) (t leaf : Nat) : Serve :=
  let v := v.forward c p
  let n := c.n
  let g := p.granule
  if c.taint.isSome then v.touch c p t
  else
    let b := c.bytes p
    let s := v.s
    let d := n / 8
    match s.slot n g with
    | some x =>
      if x.st = .verified then
        let s := (s.putSlot x).countCh n 0x3E 1
        if sliceB x.own p.off b.length = b then { v with s := (s.openCons n g t (some .pass)).1 }
        else
          let (s, _) := s.openCons n g t (some .fail)
          let s := (s.witFault d t n 0x3005).markCh n
          let resp := s.getF Fld.TD_CFG_FAIL_RESP (d * 256 + t)
          { v with s := (s.respond n resp [.recovery g]).convict n g t }
      else if x.st = .fetch then
        let (s, seq) := s.openCons n g t none
        let y := { x with st := .capture, entry := true, seq := some seq }.capture p.off b
        let s := s.putSlot y
        { v with s := if y.full then s.toHash n g else s }
      else
        let y := x.capture p.off b
        let s := s.putSlot y
        let hash := if y.st = .capture then y.full else decide (y.block ≠ x.own)
        { v with s := if hash then s.toHash n g else s }
    | none =>
      let s := (s.takeSlot d).getD s
      let (s, seq) := s.openCons n g t none
      let s := if s.pathGaps d t leaf = [] then s.count d 0x322 1 else s.count d 0x323 1
      let x : Slot := { ch := n, granule := g, tree := t, leaf := leaf, st := .capture, pinned := false, entry := true,
                        host := [], own := [], seq := some seq, sweep := none }
      let y := x.capture p.off b
      let s := s.putSlot y
      { v with s := if y.full then s.toHash n g else s }

/-- Ask the witness engine to bring a block into the galley (R68, R101). -/
def State.requestBlock (s : State) (n g t leaf : Nat) : State :=
  if (s.slot n g).isSome ∨ s.getF Fld.TD_STATE_STATE (n / 8 * 256 + t) ≠ 2 then s
  else match s.takeSlot (n / 8) with
    | none => s
    | some s => s.putSlot { ch := n, granule := g, tree := t, leaf := leaf, st := .fetch, pinned := false, entry := false,
                            host := [], own := [], seq := none, sweep := none }

/-- A VERIFIED slot of a granule. -/
def State.resident (s : State) (n g : Nat) : Option Slot :=
  match s.slot n g with
  | some x => if x.st = .verified then some x else none
  | none => none

/-- A ROOTED tree of a channel that covers a granule, with the leaf: of several the lowest-numbered (R68). -/
def State.treeCover (s : State) (n g : Nat) : Option (Nat × Nat) :=
  let d := n / 8
  (s.regs.filter fun e => decide (e.1.name = .TD_STATE) && decide (e.1.i / 256 = d)).findSome? fun e =>
    let i := e.1.i
    let base := s.getF Fld.TD_BASE_BASE i
    if s.acks n (i % 256) false ∧ base ≤ g ∧ g < base + s.getF Fld.TD_LEAVES_LEAF_COUNT i then some (i % 256, g - base)
    else none

/-- R144 applies FILL to a granule and reports 0x3004; `idx` counts granules of the frame from 0. -/
def Serve.refuse (v : Serve) (c : Ctx) (p : Span) (t idx : Nat) : Serve :=
  let v := v.fill c p
  { v with s := v.s.witFault (c.n / 8) t c.n 0x3004, code := if idx = 0 then 4 else v.code }

/-- A granule that a tree witnesses is served from the galley once the witness engine acknowledges it (R143, R144). -/
def Serve.proven (v : Serve) (c : Ctx) (p : Span) (x : Slot) (t idx : Nat) : Serve :=
  if v.s.acks c.n t (mem idx c.f.noAck) then v.galley c p x true else v.refuse c p t idx

/-- The witness engine takes the granule, or R144 applies. -/
def Serve.take (v : Serve) (c : Ctx) (p : Span) (t leaf idx : Nat) : Serve :=
  if v.s.canTake c.n p.granule t (mem idx c.f.noAck) then v.witness c p t leaf else v.refuse c p t idx

/-- A start granule that the flash cannot serve on time (R68): from the galley, else fill, LEGACY_MISS and a request for the
block. `leaf` is set under WITNESS or GALLEY; `cover` names the tree that covers the granule. -/
def Serve.legacy (v : Serve) (c : Ctx) (p : Span) (leaf cover : Option (Nat × Nat)) : Serve :=
  let acked := match leaf with
    | some (t, _) => v.s.acks c.n t (mem 0 c.f.noAck)
    | none => true
  if !acked then v.refuse c p ((leaf.map fun q => q.1).getD 0) 0
  else match v.s.resident c.n p.granule with
  | some x => v.galley c p x leaf.isSome
  | none =>
    let v := v.fill c p
    let s := v.s.chFault c.n 0x1006
    { v with s := match cover with
        | some (t, l) => s.requestBlock c.n p.granule t l
        | none => s }

/-- A granule of a frame whose working select is up, or was never opened (Table 3.5): from the galley where the block is resident
and the verdict allows, else fill. Under the busy shield only the verdict GALLEY does (R73). -/
def Serve.substitute (v : Serve) (c : Ctx) (p : Span) (code : Nat) (leaf : Option (Nat × Nat)) (idx : Nat) : Serve :=
  if 2 < code ∨ (c.shield ∧ code ≠ 2) then v.fill c p
  else match leaf, v.s.resident c.n p.granule with
    | some (t, _), some x => v.proven c p x t idx
    | some (t, _), none => if v.s.acks c.n t (mem idx c.f.noAck) then v.fill c p else v.refuse c p t idx
    | none, some x => v.galley c p x false
    | none, none => v.fill c p

/-- The verdict of a granule after the faults that computing it raises (R86, R100, R106): the code, and tree and leaf under
WITNESS or GALLEY. -/
def Serve.judge (v : Serve) (c : Ctx) (w : Verdict) : Serve × Nat × Option (Nat × Nat) :=
  let forme := bindForme (v.s.govBind c.n 0)
  let s := if w.seven then v.s.fmFault c.n forme 0x2004 else v.s
  let s := s.lockstep c.n forme w
  let s := if w.outside then s.fmFault c.n forme 0x2006 else s
  let rej := if w.code = 6 ∧ v.rej = none then some w.dec.tag else v.rej
  ({ v with s := s, rej := rej }, w.code,
    if w.code = 1 ∨ w.code = 2 then s.witnessLeaf c.n w.dec w.dec.granule else none)

/-- The start granule of a read (R59, R68, R73, R101, R143). A GALLEY start granule that is treated as WITNESS keeps its code
GALLEY, so it counts as no passed frame (notes/assumptions/127.md). -/
def Serve.start (v : Serve) (c : Ctx) (p : Span) (w : Verdict) : Serve :=
  let (v, code, leaf) := v.judge c w
  let v := { v with code := code }
  if v.s.unitFill c.n p.granule then v.fill c p
  else if c.shield then v.substitute c p code leaf 0
  else match code, leaf with
    | 0, _ =>
      if c.onTime then v.forward c p
      else v.legacy c p none ((v.s.witnessLeaf c.n w.dec p.granule).orElse fun _ => v.s.treeCover c.n p.granule)
    | 1, some (t, l) => if c.onTime then v.take c p t l 0 else v.legacy c p leaf leaf
    | 2, some (t, l) =>
      match v.s.resident c.n p.granule with
      | some x => v.proven c p x t 0
      | none => if c.onTime then v.take c p t l 0 else v.legacy c p leaf leaf
    | _, _ => v.fill c p

/-- A later granule of a read (Table 3.5); `idx` counts granules of the frame from 0. -/
def Serve.next (v : Serve) (c : Ctx) (p : Span) (idx : Nat) : Serve :=
  let forme := bindForme (v.s.govBind c.n 0)
  let v := { v with s := v.s.countCh c.n 0x3F 1 }
  if mem idx c.f.lateGranules then
    let v := v.fill c p
    { v with s := v.s.fmFault c.n forme 0x2001 }
  else
    let (v, code, leaf) := v.judge c (v.s.granuleVerdict c.n c.op p.granule c.f.badWords)
    if v.s.unitFill c.n p.granule then v.fill c p
    else if v.fwd then
      match code, leaf with
      | 0, _ => v.forward c p
      | 1, some (t, l) => v.take c p t l idx
      | 2, some (t, l) => v.take c p t l idx
      | _, _ => v.fill c p
    else v.substitute c p code leaf idx

/-- Serve the granules after the first, in order. -/
def serveRest (c : Ctx) : List Span → Nat → Serve → Serve
  | [], _, v => v
  | p :: t, idx, v => serveRest c t (idx + 1) (v.next c p idx)

/-- Serve the data phase of a frame of class READ from reduced address `a`. A frame that ends before its first data byte has
its start granule acknowledged all the same (R143). -/
def serveRead (c : Ctx) (sp : List Span) (a : Nat) (v : Serve) (w : Verdict) : Serve :=
  match sp with
  | [] => v.start c { granule := a / 4096, off := a % 4096, first := 0, len := 0 } w
  | p :: t => serveRest c t 1 (v.start c p w)

/-- Serve a frame of class READ whose start verdict was late: fill, and the later granules by Table 3.5 (R99, R105). -/
def serveLate (c : Ctx) (sp : List Span) (v : Serve) : Serve :=
  match sp with
  | [] => { v with fwd := false }
  | p :: t => serveRest c t 1 (v.fill c p)

end Sys2Proof.Machine
end

