-- ==== Sys2Proof/Machine/FrameRun.lean ====
section
/-! DEFINITION. A host frame from its CS# fall to its close: what makes it UNKNOWN, lateness, denial and spoil, the changes a
passed frame makes, and the frame boundary at which a channel takes a policy epoch (R45 to R75, R102 to R107, R115). -/

namespace Sys2Proof.Machine

/-- Why a frame is treated as UNKNOWN, or that it is not (R46, R49, R50, R89). -/
inductive FrameKind where
  /-- It closed before its command phase was complete. -/
  | shortCommand
  /-- It closed before its address phase was complete. -/
  | shortAddress
  /-- The 8D extension failed its check. -/
  | extension
  /-- Its shape is UNKNOWN. -/
  | shape
  /-- Its class does not allow its shape's DIR. -/
  | classShape
  | known
  deriving DecidableEq, Repr

/-- The opcode of a frame: the arming frame's in continuous read (R52). -/
def State.frameOp (s : State) (n : Nat) (f : HostFrame) : Nat :=
  if s.flag Fld.CH_PROTO_CRM_ARMED n then (s.ch n).crmOp else (byteAt f.cmd 0).toNat

/-- The 8D extension byte is as EXT_INV expects (R50). -/
def State.extOk (s : State) (n : Nat) (f : HostFrame) : Bool :=
  let a := byteAt f.cmd 0
  let b := byteAt f.cmd 1
  if s.flag Fld.CH_PROTO_EXT_INV n then decide (b = ~~~a) else decide (b = a)

/-- Which kind a frame is. -/
def State.frameKind (s : State) (n : Nat) (f : HostFrame) (cls : Nat) : FrameKind :=
  let proto := s.getF Fld.CH_PROTO_CUR n
  let crm := s.flag Fld.CH_PROTO_CRM_ARMED n
  let e := s.shape n (s.frameOp n f)
  if !crm && decide (f.cmd.length < cmdBytes proto) then .shortCommand
  else if !crm && decide (proto = 3) && !s.extOk n f then .extension
  else if shapeUnknown proto e then .shape
  else if !classDirOk cls (shDir e) then .classShape
  else if f.addr.length < addrBytes proto e (s.flag Fld.CH_PROTO_ADDR4 n) then .shortAddress
  else .known

/-- Data bytes the host clocked by the CS# rise: from the H-side position of the first data byte to the last edge (R9, R67). -/
def clockedBytes (edges pos per : Nat) (ddr : Bool) : Nat :=
  if edges < pos then 0 else (edges - pos + b2n ddr) / max 1 per

/-- tSPW in units of 0.1 ns (R58). -/
def State.tSpw (s : State) (n : Nat) : Nat := 80 + 40 * s.getF Fld.CH_TIMING_SPW n

/-- The moment both lanes have delivered, in 0.1 ns after the completing edge, at most tFV (R102, R106). -/
def delivered (f : HostFrame) : Nat := max (min f.delivA 160) (min f.delivB 160)

/-- Half-periods between the completing edge and the sampling point of a read (R58, R103). -/
def readBudgetHe (e addrHe' : Nat) (retimed free : Bool) : Nat :=
  2 * shDummy e + 1 + (if retimed then 4 else 0) + (if free then addrHe' else 0)

/-- The host clock limit in MHz of Table 2.4. -/
def rateLimit (retimed ddr v33 : Bool) : Nat :=
  match v33, ddr, retimed with
  | true, false, _ => 104
  | true, true, _ => 52
  | false, false, false => 133
  | false, true, false => 100
  | false, false, true => 166
  | false, true, true => 200

/-- The I/O bank of a channel runs at 3.3 V (R42). -/
def State.bank33 (s : State) (n : Nat) : Bool := mem (2 * (n / 8) + n % 8 / 4) s.seq.vio33

/-- A measured period is too short by more than 5 % for the protocol the frame ran in (R53). -/
def State.rateCheck (s : State) (n : Nat) (o : OpenFrame) (ddr : Bool) : State :=
  let lim := rateLimit o.retimed ddr (s.bank33 n)
  if o.frame.period ≠ 0 ∧ o.frame.period * lim < 9500 then s.chFault n 0x1007 else s

/-- The channel takes the switch at its frame boundary (R115, R116). One of a die that the switch has left behind does not
(R118). -/
def State.takeEpoch (s : State) (n : Nat) : State :=
  match s.epoch.phase with
  | .switching _ =>
    if (s.ch n).took ∨ !s.reached (n / 8) ∨ mem (n / 8) s.epoch.lost then s
    else
      let t := s.getF Fld.EPOCH_CUR_TARGET 0
      let s := s.modCh n fun c => { c with took := true, epoch := t }
      let s := if n < 32 then s.orR .EPOCH_MAP_LO 0 (2 ^ n) else s.orR .EPOCH_MAP_HI 0 (2 ^ (n - 32))
      (s.countCh n 0x2F 1).coverCheck n
  | _ => s

/-- The policy epoch a channel's frames latch (R45, R118). -/
def State.chEpoch (s : State) (n : Nat) : Nat := (s.ch n).epoch

/-- What a frame's mode byte does to continuous read at its close (R52): nothing where the shape has none or the frame ended
before it. -/
def State.crmArm (s : State) (n e : Nat) (mode : Option Byte) : Option Bool :=
  if !shCrm e then none
  else mode.map fun b =>
    let m := BitVec.ofNat 8 (s.getF Fld.CH_PROTO_CRM_MASK n)
    decide (b &&& m = BitVec.ofNat 8 (s.getF Fld.CH_PROTO_CRM_VAL n) &&& m)

/-- Continuous read arms or disarms at the close (R52). -/
def State.crmClose (s : State) (n op : Nat) (arm : Option Bool) : State :=
  match arm with
  | none => s
  | some true => (s.setFlag Fld.CH_PROTO_CRM_ARMED n true).modCh n fun c => { c with crmOp := op }
  | some false => s.setFlag Fld.CH_PROTO_CRM_ARMED n false

/-- MODESW and RESETCMD changes of a passed frame (R51). -/
def State.protoChanges (s : State) (n e : Nat) : State :=
  let s := match shModesw e with
    | 1 => (s.setF Fld.CH_PROTO_CUR n (shNext e)).countCh n 0x2D 1
    | 2 => (s.setFlag Fld.CH_PROTO_ADDR4 n true).countCh n 0x2D 1
    | 3 => (s.setFlag Fld.CH_PROTO_ADDR4 n false).countCh n 0x2D 1
    | _ => s
  if shReset e then
    ((((s.setF Fld.CH_PROTO_CUR n (s.getF Fld.CH_PROTO_BOOT n)).setF Fld.CH_PROTO_ADDR4 n
      (s.getF Fld.CH_PROTO_BOOT_ADDR4 n)).setFlag Fld.CH_PROTO_CRM_ARMED n false).countCh n 0x2D 1)
  else s

/-- A granule that a slug with WIT = 1 covers for a class in the governing bank (R100). -/
def State.witCovers (s : State) (n c g : Nat) : Bool :=
  (s.laneSlugs (s.laneView n 0 [])).any fun p => p.2.wit && p.2.covers c g

/-- What a frame that passed and reached its close at the flash changes beyond the flash: galley blocks it touches, health
records, the SPI-NAND cache row, the command protocol (R51, R97, R100, R142, R181). -/
def State.passedEffects (s : State) (n e cls byteAddr : Nat) : State :=
  let b := s.govBind n 0
  let a := reduceAddr b byteAddr
  let gs := granulesOf cls b a
  let hit (g : Nat) : Bool := match gs with
    | some l => mem g l
    | none => true
  let s := if classArms cls (shRead e) ∧ classGranules cls then s.voidWhere n fun g => hit g && s.witCovers n cls g
    else s
  let s := match cls with
    | 0x5 => s.healthProgram n (a / 4096)
    | 0xB => s.healthProgram n (a / 4096)
    | 0x6 | 0x7 | 0x8 => s.healthErase n (gs.getD [])
    | 0x9 => s.healthErase n (s.recorded n (wrapGranules b))
    | 0xA => s.modCh n fun c => { c with cacheRow := some byteAddr }
    | _ => s
  s.protoChanges n e

/-- The shadow status disarms at the close of a frame whose verdict is PASS or WITNESS and whose class is neither CTRL nor
STATUS_READ (R111). -/
def State.disarmClose (s : State) (n : Nat) (c : Closing) : State :=
  match c.cls with
  | some k => if s.flag Fld.SS_CTRL_ARMED n ∧ c.verdict ≤ 1 ∧ k ≠ 0 ∧ k ≠ 3 then s.shadowDisarm n else s
  | none => s

/-- Whether HDQS toggles with each span of read data (R57, R60): with fill only where DQS_FILL is set. -/
def State.strobes (s : State) (n : Nat) (ddr : Bool) (spans : List (Source × List Byte)) : List Bool :=
  spans.map fun p => ddr && (decide (p.1 ≠ .fill) || s.flag Fld.CH_FILL_DQS_FILL n)

/-- Read data goes out on the H side (R57, R59, R60, R67). -/
def State.hostOut (s : State) (n e launch : Nat) (spans : List (Source × List Byte)) : State :=
  let proto := s.getF Fld.CH_PROTO_CUR n
  s.emit (.hostData n launch (hdqLanes (laneCount proto (shDw e))) spans (s.strobes n (decide (proto = 3)) spans))

/-- What of a host frame followed to the F side (R43, R55, R56), and how its F side ended. Under the busy shield, and where the
working select is select 1 of a package without it (R79), nothing opened. -/
def State.flashSide (s : State) (n : Nat) (o : OpenFrame) (opened : Bool) (phases : List FPhase) (fe : FEnd)
    (data : List Byte) : State :=
  let sel := s.flag Fld.CH_TWIN_SEL n
  if opened then (s.emit (.forwarded n sel o.retimed phases)).emit (.frameEnd n sel fe data)
  else s.emit (.frameEnd n sel .notOpened [])

/-- The part opens host frames of a channel at the flash: no busy shield, and a flash on the working select (R73, R79). -/
def State.flashOpens (s : State) (n : Nat) : Bool :=
  !s.flag Fld.CH_STATUS_BUSY_SHIELD n && !s.selRefused n (s.flag Fld.CH_TWIN_SEL n)

/-- The frame as the part answers it in ISOLATE, or when the flash was never opened (R41, R65): fill in a read data phase. No
verdict is applied, so CH_LASTOP.VERDICT reads FILL for a read the part tracked and a free value otherwise, and an UNKNOWN
shape is no fault there (notes/assumptions/128.md). -/
def State.runIsolated (s : State) (n : Nat) (o : OpenFrame) : State × Closing :=
  let f := o.frame
  let proto := s.getF Fld.CH_PROTO_CUR n
  let op := s.frameOp n f
  let e := s.shape n op
  let known := decide (s.frameKind n f 0xF = .known)
  let launch := s.launchPos n e o.retimed
  let len := clockedBytes f.edges launch (byteHe proto (shDw e)) (decide (proto = 3))
  let (v, s) := s.fresh
  let verdict := if known && shRead e then 4 else v.toNat % 8
  let s := if known && shRead e then (s.countCh n 0x2C len).hostOut n e launch [(.fill, s.fillBytes n len)] else s
  (s.flashSide n o false [] .notOpened [],
    { op := op, cls := none, verdict := verdict, late := false,
      addr := if known then BitVec.ofNat 32 (ofBe f.addr) else 0, margin := none,
      arm := if known then s.crmArm n e f.mode else none, ddr := decide (proto = 3) })

/-- A frame treated as UNKNOWN (R49): after the command phase nothing is driven, and it is spoiled at its close, by the lanes of
the command phase, the last the part drove (notes/assumptions/125.md); a DIR = READ frame that the part ends in its address
phase has its select raised at once (R74, R236). A failed check of the capture is reported, and a command that failed it sets
no UNKNOWN_OP (R202). An 8D extension mismatch is judged before the shape: an opcode whose shape is UNKNOWN as well reports
0x1004 alone (notes/assumptions/129.md). -/
def State.runUnknown (s : State) (n : Nat) (o : OpenFrame) (k : FrameKind) (cls : Nat) (cut : Bool) : State × Closing :=
  let f := o.frame
  let op := s.frameOp n f
  let proto := s.getF Fld.CH_PROTO_CUR n
  let forme := bindForme (s.govBind n 0)
  let s := if f.point1.isSome then s.report (n / 8) 0x5101 (n / 8) else s
  let s := if f.point1 = some true then s
    else match k with
    | .shape => s.chFault n 0x1003
    | .classShape => (s.chFault n 0x1003).fmFault n forme 0x2005
    | .extension => s.chFault n 0x1004
    | _ => s
  let opened := s.flashOpens n
  let rises := cut && decide (k = .shortAddress) && shRead (s.shape n op)
  let s := if s.flag Fld.CH_STATUS_BUSY_SHIELD n then s.countCh n 0x33 1
    else if opened && !rises then s.countCh n 0x21 1 else s
  let w := s.hostFraming n 0
  (s.flashSide n o opened (w.head f.cmd [] none ++ [w.phase .undriven 0 []])
      (if rises then .cut else spoilForm proto 0) [],
    { op := if k = .shortCommand then s.fresh.1.toNat % 256 else op, cls := if k = .shortCommand then none else some cls,
      verdict := 6, late := false, addr := 0, margin := none, ddr := decide (proto = 3) })

/-- A frame is tainted (R44, R161): 0x1008; the witnessed granules it had touched by then in one, each that it touched later
on its own; with none, fault 0x3008 and the channel's TAINT_RESP. `acted` holds what was acted upon while the frame was still
open. -/
def State.taintFrame (s : State) (n : Nat) (acted : Option (List Nat)) (gs : List (Nat × Nat × Bool)) : State :=
  let s := if acted.isSome then s else (s.chFault n 0x1008).countCh n 0x27 1
  let new := gs.filter fun p => !mem p.1 (acted.getD [])
  if gs = [] then
    if acted.isSome then s
    else
      let s := (s.report (n / 8) 0x3008 (0x100 * (n % 8))).markCh n
      s.respond n (s.getF Fld.WIT_CHCFG_TAINT_RESP n) []
  else
    let s := s.taintGranules n ((new.filter fun p => p.2.2).map fun p => (p.1, p.2.1))
    (new.filter fun p => !p.2.2).foldl (fun s p => s.taintGranules n [(p.1, p.2.1)]) s

/-- A late verdict's faults (R105). -/
def State.lateFault (s : State) (n code : Nat) : State :=
  let s := s.fmFault n (bindForme (s.govBind n 0)) code
  if s.flag Fld.FM_CTRL_LATE_HOLD (n / 8) then s.holdRequest n else s

/-- The data phase of a read that is of class READ or of no class with granules: what the verdict gives the host (R59, R66,
R68, R73, R108, R109, R110). A status read that passes while the shadow status is armed merges; a retimed one that the flash
cannot serve on time has no flash data to merge, and fills under R68 (notes/assumptions/130.md). -/
def Serve.whole (v : Serve) (c : Ctx) (p : Span) (w : Verdict) (status answers : Bool) : Serve :=
  let (v, code, _) := v.judge c w
  let v := { v with code := code }
  let s := v.s
  let synth : Serve := { v with s := s.countCh c.n 0x2A p.len, fwd := false,
                                spans := [(.shadow, List.replicate p.len (s.synthStatus c.n c.op))] }
  if c.shield then (if status && answers then synth else v.fill c p)
  else if w.cls = 3 ∧ code = 3 ∧ answers then synth
  else if w.cls = 2 ∧ code = 3 then
    let from_ := if c.op = 0x5A then ofBe c.f.addr else 0
    { v with s := s.countCh c.n 0x2A p.len, fwd := false,
             spans := [(.shadow, (List.range p.len).map fun k => s.shadowByte c.n c.op (from_ + k))] }
  else if code ≤ 1 ∨ (w.cls = 3 ∧ code = 3) then
    if !c.onTime then
      let v := v.fill c p
      { v with s := v.s.chFault c.n 0x1006 }
    else
      let merge := decide (w.cls = 3) && status && answers && s.flag Fld.SS_CTRL_ARMED c.n
      let bs := if merge then (c.bytes p).map (s.mergeStatus c.n c.op) else c.bytes p
      let s := if merge then s.countCh c.n 0x25 1 else s
      { v with s := s.countCh c.n 0x26 bs.length, spans := [(.flash, bs)] }
  else v.fill c p

/-- A read frame on an ACTIVE channel (R59, R66 to R68, R73, R99 to R101, R105, R108, R109, R202). `cut` is set when the part
ends it before its close (R74, R77, R117); `present` when both verdict and acknowledgement arrived before the close. -/
def State.runRead (s : State) (n : Nat) (o : OpenFrame) (w : Verdict) (late cut present : Bool) : State × Closing :=
  let f := o.frame
  let d := n / 8
  let proto := s.getF Fld.CH_PROTO_CUR n
  let op := s.frameOp n f
  let e := s.shape n op
  let ddr := decide (proto = 3)
  let reached := decide (s.readPos n e + (if o.retimed then 4 else 0) ≤ f.edges)
  let late := late && reached
  let launch := s.launchPos n e o.retimed
  let len := clockedBytes f.edges launch (byteHe proto (shDw e)) ddr
  let b := s.govBind n 0
  let byteAddr := frameByteAddr w.cls b f.addr (s.ch n).cacheRow
  let a := reduceAddr b byteAddr
  let bad1 := f.point1.isSome
  let noCache := decide (w.cls = 1) && bindNand b && (s.ch n).cacheRow.isNone
  let shield := s.flag Fld.CH_STATUS_BUSY_SHIELD n
  let opened := s.flashOpens n
  let taint := f.taintAt.filter fun k => decide (k < len)
  let c : Ctx := { n := n, op := op, f := f, onTime := !o.retimed || shLagc e, shield := shield, taint := taint }
  let whole : Span := { granule := 0, off := 0, first := 0, len := len }
  let sp := spansOf (wrapGranules b) (len / 4096 + 2) a 0 len
  let v0 : Serve := { s := if shield then s.countCh n 0x33 1 else s, fwd := !shield, spans := [], rej := none, taint := [],
                      code := w.code }
  let answers := s.shadowAnswers n f.addr
  let v : Serve :=
    if bad1 then
      let v := v0.fill c whole
      { v with s := v.s.report d 0x5101 d, code := 4 }
    else if late then
      let v := if w.cls = 1 ∧ !noCache then serveLate c sp v0 else v0.fill c whole
      { v with s := v.s.lateFault n 0x2001, code := 4 }
    else if !reached && !present then
      let (v, code, _) := v0.judge c w
      { v with code := code }
    else if w.cls = 1 ∧ !(shield && shStatus e && answers) then
      if noCache then
        let v := v0.fill c whole
        { v with s := v.s.fmFault n (bindForme b) 0x200B, code := 4 }
      else serveRead c sp a v0 w
    else v0.whole c whole w (shStatus e) answers
  let s := v.s
  let s := if taint.isSome then s.taintFrame n o.acted v.taint else s
  let passed := decide (v.code ≤ 1) && !cut && v.fwd && opened && !bad1 && !late
  let s := if passed then s.passedEffects n e w.cls byteAddr else s
  let flash := v.fwd && !cut && opened && reached && !bad1 && !late && decide (w.cls = 1)
  let s := if flash then s.healthReads n (sp.map fun p => p.granule) else s
  let s := s.hostOut n e launch v.spans
  let fw := s.hostFraming n e
  let s := s.flashSide n o opened (fw.head f.cmd f.addr f.mode ++ (if v.fwd && reached then [fw.phase .read (shDw e) []] else []))
    (if v.fwd && !cut then .passed else .cut) []
  let budget := readBudgetHe e (addrHe proto e (s.flag Fld.CH_PROTO_ADDR4 n))
    o.retimed (s.addrFree n op f.badWords && !s.flag Fld.CH_PROTO_CRM_ARMED n)
  let half := max 1 f.period
  (s, { op := op, cls := some w.cls, verdict := v.code, late := late, addr := BitVec.ofNat 32 (ofBe f.addr)
        margin := if reached && !late && !bad1 then some (budget - ceilDiv (2 * delivered f) half) else none
        ddr := ddr, rejTag := if bad1 then none else v.rej, taint := v.taint,
        taintSeen := taint.isSome })

/-- What the decision time of a frame that is not DIR = READ applies: its verdict, whether the shadow status arms and ends in
DONE_FAIL, and whether the verdict was late (R62, R105, R107, R202, R204). -/
structure Applied where
  s : State
  code : Nat
  arm : Option Bool
  late : Bool

/-- The verdict applied to a frame that is not DIR = READ, after its faults. -/
def State.applyOther (s : State) (n : Nat) (f : HostFrame) (w : Verdict) (late : Bool) : Applied :=
  let d := n / 8
  let forme := bindForme (s.govBind n 0)
  match f.point1 with
  | some cmdFailed => { s := s.report d 0x5101 d, code := 6, arm := if cmdFailed then none else some true, late := false }
  | none =>
    if f.point2 then { s := s.report d 0x5102 d, code := 6, arm := some true, late := false }
    else if late then { s := s.lateFault n 0x2002, code := 5, arm := some false, late := true }
    else
      let s := if w.seven then s.fmFault n forme 0x2004 else s
      let s := s.lockstep n forme w
      let s := if w.outside then s.fmFault n forme 0x2006 else s
      { s := s, code := w.code, late := false,
        arm := if w.code = 5 then some false else if w.code = 6 then some true else none }

/-- A frame that is not DIR = READ on an ACTIVE channel (R62, R73, R87, R105, R107, R202, R204). A frame that the part ends
before its close has no decision time, so it arms no shadow status (notes/assumptions/131.md). -/
def State.runOther (s : State) (n : Nat) (o : OpenFrame) (w : Verdict) (late cut : Bool) : State × Closing :=
  let f := o.frame
  let proto := s.getF Fld.CH_PROTO_CUR n
  let op := s.frameOp n f
  let e := s.shape n op
  let byteAddr := frameByteAddr w.cls (s.govBind n 0) f.addr (s.ch n).cacheRow
  let opened := s.flashOpens n
  let s := if s.flag Fld.CH_STATUS_BUSY_SHIELD n then s.countCh n 0x33 1 else s
  let fw := s.hostFraming n e
  let x := s.applyOther n f w (late && !cut)
  let passes := decide (x.code ≤ 1) && !cut
  let s := if opened then x.s.countCh n 0x2E f.wdata.length else x.s
  let s := if opened && !passes then s.countCh n 0x21 1 else s
  let s := match x.arm with
    | some fail => if classArms w.cls false && !cut then s.shadowArm n w.cls fail else s
    | none => s
  let s := if passes && opened then s.passedEffects n e w.cls byteAddr else s
  (s.flashSide n o opened (fw.all f.cmd f.addr f.mode f.wdata) (if passes then .passed else spoilForm proto e) f.wdata,
    { op := op, cls := some w.cls, verdict := x.code, late := x.late, addr := BitVec.ofNat 32 (ofBe f.addr), margin := none,
      ddr := decide (proto = 3), rejTag := if x.code = 6 ∧ f.point1.isNone ∧ !f.point2 then some w.dec.tag else none })

/-- The edges that complete what a frame's verdict needs (R102). -/
def State.verdictFrom (s : State) (n : Nat) (f : HostFrame) : Nat :=
  let proto := s.getF Fld.CH_PROTO_CUR n
  let op := s.frameOp n f
  let e := s.shape n op
  let crm := s.flag Fld.CH_PROTO_CRM_ARMED n
  let free := s.addrFree n op f.badWords && !crm
  (if crm then 0 else cmdHe proto) + (if free then 0 else addrHe proto e (s.flag Fld.CH_PROTO_ADDR4 n)) +
    b2n (decide (proto = 3)) + s.sckShift n - 1

/-- The verdict is late at the sampling point (R58, R102, R105), in units of half 0.1 ns. -/
def State.isLate (s : State) (n : Nat) (o : OpenFrame) : Bool :=
  let f := o.frame
  let proto := s.getF Fld.CH_PROTO_CUR n
  let op := s.frameOp n f
  let e := s.shape n op
  let free := s.addrFree n op f.badWords && !s.flag Fld.CH_PROTO_CRM_ARMED n
  if shRead e then
    decide (readBudgetHe e (addrHe proto e (s.flag Fld.CH_PROTO_ADDR4 n)) o.retimed free * f.period < 2 * delivered f)
  else decide ((f.edges - s.verdictFrom n f) * f.period + 2 * s.tSpw n < 2 * delivered f)

/-- The verdict margin of a precise record, in he, rounded down: against the sampling point of a read (R58), against the
decision time of any other frame (R62); none where no verdict arrived before the close (Table 15.4). -/
def State.preciseMargin (s : State) (n : Nat) (o : OpenFrame) : Option Int :=
  let f := o.frame
  let proto := s.getF Fld.CH_PROTO_CUR n
  let op := s.frameOp n f
  let e := s.shape n op
  let free := s.addrFree n op f.badWords && !s.flag Fld.CH_PROTO_CRM_ARMED n
  let half := max 1 f.period
  let close := (f.edges - s.verdictFrom n f) * f.period
  if close < 2 * delivered f then none
  else
    let limit := if shRead e then readBudgetHe e (addrHe proto e (s.flag Fld.CH_PROTO_ADDR4 n)) o.retimed free * f.period
      else close + 2 * s.tSpw n
    some (((limit : Int) - (2 * delivered f : Nat)).fdiv half)

/-- Bytes of a frame's data phase. -/
def State.preciseBytes (s : State) (n : Nat) (o : OpenFrame) : Nat :=
  let f := o.frame
  let proto := s.getF Fld.CH_PROTO_CUR n
  let e := s.shape n (s.frameOp n f)
  if shRead e then clockedBytes f.edges (s.launchPos n e o.retimed) (byteHe proto (shDw e)) (decide (proto = 3))
  else f.wdata.length

/-- The F side of a frame runs to its end, or to the moment the part cuts it. -/
def State.runFrame (s : State) (n : Nat) (o : OpenFrame) (cut : Bool) : State × Closing :=
  let f := o.frame
  if o.st = 1 ∨ o.shielded then s.runIsolated n o
  else
    let op := s.frameOp n f
    let w := s.verdictOf n op f.addr f.badWords
    let s := if s.flag Fld.CH_PROTO_CRM_ARMED n then s.countCh n 0x39 1 else s
    let k := s.frameKind n f w.cls
    if k ≠ .known then s.runUnknown n o k w.cls cut
    else
      let e := s.shape n op
      let arm := s.crmArm n e f.mode
      let s := s.count (n / 8) 0x30C 1
      let late := s.isLate n o
      let precise := s.preciseMargin n o
      let bytes := s.preciseBytes n o
      let s := s.point10 n f.badWords
      let (s, c) := if shRead e then s.runRead n o w late cut precise.isSome else s.runOther n o w late cut
      (s, { c with precise := precise, bytes := bytes, arm := arm })

/-- The i of a length bucket (Table 15.3). -/
def lengthBucket (l : Nat) : Nat := if l < 32 then 0 else min 15 (Nat.log2 l - 4)

/-- The close of a host frame: what the registers and the counters record (R81, R429, R430), then the boundary (R82, R115). -/
def State.closeFrame (s : State) (n : Nat) (o : OpenFrame) (c : Closing) : State :=
  let f := o.frame
  let d := n / 8
  let us := s.us
  let s := s.modCh n fun x => { x with frame := none, lastAddr := c.addr, idleUs := us }
  let s := (s.disarmClose n c).crmClose n c.op c.arm
  let s := match (if s.flag Fld.FM_CTRL_LOG_REJECT d then c.rejTag else none) with
    | some tag => s.report d 0x200A tag
    | none => s
  let s := (s.setFlag Fld.CH_STATUS_FRAME_OPEN n false).setFlag Fld.CH_STATUS_STUCK n false
  let s := s.setF Fld.CH_PERIOD_PERIOD n (min f.period 0xFFFF)
  let s := (((s.setF Fld.CH_LASTOP_OPCODE n c.op).setF Fld.CH_LASTOP_VERDICT n c.verdict).setFlag
    Fld.CH_LASTOP_LATE n c.late).setF Fld.CH_LASTOP_EPOCH n o.epoch
  let s := match c.cls with
    | some k => s.countCh n k 1
    | none => s
  let s := s.countCh n (0x10 + c.verdict) 1
  let s := if c.late then s.countCh n 0x17 1 else s
  let s := (s.countCh n 0x22 f.edges).countCh n 0x24 f.refclks
  let s := match c.margin with
    | some m => s.count d (0x200 + 0x20 * (n % 8) + min m 15) 1
    | none => s
  let s := s.count d (0x200 + 0x20 * (n % 8) + 16 + lengthBucket f.edges) 1
  let s := s.rateCheck n o c.ddr
  let info : FrameInfo :=
    { us := s.us, addr := c.addr, lastop := s.rd .CH_LASTOP n, cls := c.cls, edges := f.edges, margin := c.precise,
      bytes := c.bytes }
  (s.obClosed n info).takeEpoch n

/-- The part ends the F side of an open frame (R74, R77, R117, R236). HSCK is ignored until CS# rises. -/
def State.endFrame (s : State) (n : Nat) : State :=
  match (s.ch n).frame with
  | none => s
  | some o =>
    if o.ended.isSome then s
    else
      let (s, c) := s.runFrame n o true
      s.modCh n fun x => { x with frame := some { o with ended := some c } }

/-- Continuous read is to stay as a host reset leaves it, whatever the mode byte of the frame it ended (R52, R77). -/
def State.dropArm (s : State) (n : Nat) : State :=
  s.modCh n fun x => { x with frame := x.frame.map fun o => { o with ended := o.ended.map fun c => { c with arm := none } } }

/-- CS# falls (R45, R65, R72): the part latches state, mode and epoch. An own frame that is open ends at once. -/
def State.openFrame (s : State) (n : Nat) (f : HostFrame) : OpenFrame × State :=
  let st := s.getF Fld.CH_STATUS_STATE_EFF n
  let s := s.ownCut n
  let short := f.csShort && decide (st = 2)
  let s := if short then s.chFault n 0x1002 else s
  ({ frame := f.received, st := st, retimed := s.flag Fld.CH_STATUS_MODE_EFF n, epoch := s.chEpoch n, shielded := short,
     ended := none, since := s.us }, s)

/-- A frame that is still open acts on its taint as soon as the check fails (R161). -/
def State.taintOpen (s : State) (n : Nat) (o : OpenFrame) : State × OpenFrame :=
  if o.ended.isSome ∨ o.st ≠ 2 ∨ o.shielded then (s, o)
  else
    let r := s.runFrame n o false
    if r.2.taintSeen then
      (s.taintFrame n o.acted r.2.taint, { o with acted := some ((o.acted.getD []) ++ r.2.taint.map fun p => p.1) })
    else (s, o)

/-- A host frame, or the rest of one that is open (R45): it closes when CS# rises, and stays open with its clock stopped
otherwise (R29). On a die that the fabric cannot reach the part drives nothing (R23). -/
def State.hostFrame (s : State) (n : Nat) (f : HostFrame) : State :=
  if !s.reached (n / 8) || decide (s.getF Fld.CH_STATUS_STATE_EFF n = 0) then s
  else
    let (o, s) := match (s.ch n).frame with
      | some o => (if o.ended.isSome then o else { o with frame := f.received }, s)
      | none => s.openFrame n f
    if !f.closed then
      let (s, o) := s.taintOpen n o
      (s.modCh n fun x => { x with frame := some o }).setFlag Fld.CH_STATUS_FRAME_OPEN n true
    else match o.ended with
      | some c => s.closeFrame n o c
      | none =>
        let (s, c) := s.runFrame n o false
        s.closeFrame n o c

end Sys2Proof.Machine
end

