-- ==== Sys2Proof/Machine/Channels.lean ====
section
/-! DEFINITION. The channel commands (02): host frames, shadow and frame timers, host resets, channel configuration, twin
swaps, completion reads and status polls. -/

namespace Sys2Proof.Machine

/-! ## HOST_FRAME, SHADOW_BUSY_EXPIRE, FRAME_TIMEOUT -/

/-- HOST_FRAME (R45). -/
def execHostFrame (ch : ChanId) (f : HostFrame) (s : State) : Host.Outcome State Fault Refusal :=
  .next ((s.hostFrame ch.val f).assertApply ch.val)

/-- SHADOW_BUSY_EXPIRE (R107): the BUSY time has passed; the DONE phase follows. -/
def execShadowBusyExpire (ch : ChanId) (s : State) : Host.Outcome State Fault Refusal :=
  .next (s.when (s.chLive ch.val && decide (s.getF Fld.SS_CTRL_PHASE ch.val = 1) &&
      decide ((s.ch ch.val).shadowFor ≤ s.usSince (s.ch ch.val).shadowUs)) fun s =>
    s.setF Fld.SS_CTRL_PHASE ch.val (if (s.ch ch.val).shadowFail then 3 else 2))

/-- The limit of CH_TIMEOUT in µs; a LIMIT of 0 acts as 1 (R74). -/
def State.frameLimit (s : State) (n : Nat) : Nat :=
  max 1 (s.getF Fld.CH_TIMEOUT_LIMIT n) * if s.flag Fld.CH_TIMEOUT_UNIT n then 1000 else 1

/-- FRAME_TIMEOUT (R74, R157): the part ends the F side of the open frame; STUCK stands until CS# rises. -/
def execFrameTimeout (ch : ChanId) (s : State) : Host.Outcome State Fault Refusal :=
  .next (s.when (s.chLive ch.val && (s.ch ch.val).frame.any fun o =>
      o.ended.isNone && decide (s.frameLimit ch.val ≤ s.usSince o.since)) fun s =>
    let n := ch.val
    let s := s.endFrame n
    let s := (s.setFlag Fld.CH_STATUS_STUCK n true).chFault n 0x1001
    let s := if s.flag Fld.CH_CTRL_TIMEOUT_HOLD n then s.holdRequest n else s
    s.takeEpoch n)

/-! ## Host resets (R76, R77) -/

/-- Steps 1 and 2 of a host reset (R77): the open frame ends, the boot protocol returns, continuous read disarms. -/
def State.hostReset (s : State) (n : Nat) : State :=
  let s := (s.endFrame n).dropArm n
  ((s.setF Fld.CH_PROTO_CUR n (s.getF Fld.CH_PROTO_BOOT n)).setF Fld.CH_PROTO_ADDR4 n
    (s.getF Fld.CH_PROTO_BOOT_ADDR4 n)).setFlag Fld.CH_PROTO_CRM_ARMED n false

/-- HRST_ASSERT (R76, R77): on an ACTIVE channel with PASS = 1 the open frame ends, the boot protocol returns, and CHn_FRST_N
follows; the busy shield defers CHn_FRST_N alone. In ISOLATE the pin is only sampled (Table 2.1). -/
def execHrstAssert (ch : ChanId) (s : State) : Host.Outcome State Fault Refusal :=
  let n := ch.val
  .next (s.when (s.chLive n && !(s.ch n).hrst && decide (s.getF Fld.CH_STATUS_STATE_EFF n ≠ 0)) fun s =>
    let s := (s.modCh n fun c => { c with hrst := true }).setFlag Fld.CH_RESET_HRST_LEVEL n false
    if !s.flag Fld.CH_RESET_PASS n || decide (s.getF Fld.CH_STATUS_STATE_EFF n ≠ 2) then s
    else
      let s := s.hostReset n
      if s.flag Fld.CH_STATUS_BUSY_SHIELD n then (s.setFlag Fld.CH_RESET_DEFERRED n true).chFault n 0x1009
      else s.setFrst n fun c => { c with frstPass := true })

/-- HRST_RELEASE (R76, R77). -/
def execHrstRelease (ch : ChanId) (s : State) : Host.Outcome State Fault Refusal :=
  let n := ch.val
  .next (s.when (s.chLive n && (s.ch n).hrst && decide (s.getF Fld.CH_STATUS_STATE_EFF n ≠ 0)) fun s =>
    (s.setFlag Fld.CH_RESET_HRST_LEVEL n true).setFrst n fun c => { c with hrst := false, frstPass := false })

/-- The deferred host reset asserts CHn_FRST_N once the shield has ended (R77, step 3), for the longer of the host's remaining
assertion and MIN_US. -/
def State.deferredReset (s : State) (n : Nat) : State :=
  let us := s.us
  (s.setFlag Fld.CH_RESET_DEFERRED n false).setFrst n fun c => { c with frstDefer := true, frstPass := c.hrst, frstUs := us }

/-- DEFERRED_RESET_ASSERT (R77). -/
def execDeferredResetAssert (ch : ChanId) (s : State) : Host.Outcome State Fault Refusal :=
  .next (s.when (s.chLive ch.val && s.flag Fld.CH_RESET_DEFERRED ch.val &&
      !s.flag Fld.CH_STATUS_BUSY_SHIELD ch.val) fun s => s.deferredReset ch.val)

/-- DEFERRED_RESET_END (R77): MIN_US has passed; CHn_FRST_N stays asserted only while CHn_HRST_N does. -/
def execDeferredResetEnd (ch : ChanId) (s : State) : Host.Outcome State Fault Refusal :=
  .next (s.when (s.chLive ch.val && (s.ch ch.val).frstDefer &&
      decide (max 1 (s.getF Fld.CH_RESET_MIN_US ch.val) ≤ s.usSince (s.ch ch.val).frstUs)) fun s =>
    s.setFrst ch.val fun c => { c with frstDefer := false })

/-! ## Configuration (R54, R81, R122) -/

/-- The channel's effective state is ACTIVE. -/
def State.active (s : State) (n : Nat) : Bool := decide (s.getF Fld.CH_STATUS_STATE_EFF n = 2)

/-- The requested state takes effect at a boundary (R81, R82), and with it what the pins do between frames (Table 2.1). Leaving ACTIVE disarms the shadow status (R111); entering it
forgets the SPI-NAND cache row (R97) and tests the cover of an open unit again (R194). -/
def State.stateChange (s : State) (n : Nat) : State :=
  let req := s.getF Fld.CH_CTRL_STATE n
  let eff := s.getF Fld.CH_STATUS_STATE_EFF n
  if req = eff ∨ !s.idleCh n then s
  else
    let s := s.setF Fld.CH_STATUS_STATE_EFF n req
    let s := s.emit (.chanPins n (s.pinsOf n (s.ch n).frst))
    let s := if eff = 2 then s.shadowDisarm n else s
    if req = 2 then (s.modCh n fun c => { c with cacheRow := none }).coverCheck n else s

/-- A write of CH_CTRL (R54, R81, R122): a STATE of 0b11 is ignored; MODE and SCK_MODE are discarded on an ACTIVE channel and
on a quoined one, with CFG_REJ where a discarded field would have changed. -/
def State.writeChCtrl (s : State) (n : Nat) (v : Word) : State :=
  let w := v.toNat
  let st := bitsOf w 0 2
  let s := if st = 3 then s else s.setF Fld.CH_CTRL_STATE n st
  let s := s.setFlag Fld.CH_CTRL_TIMEOUT_HOLD n (bitOf w 4)
  if s.active n || s.quoined n then
    if bitOf w 2 ≠ s.flag Fld.CH_CTRL_MODE n ∨ bitOf w 3 ≠ s.flag Fld.CH_CTRL_SCK_MODE n then s.chFault n 0x1005
    else s
  else
    let s := (s.setFlag Fld.CH_CTRL_MODE n (bitOf w 2)).setFlag Fld.CH_CTRL_SCK_MODE n (bitOf w 3)
    s.setFlag Fld.CH_STATUS_MODE_EFF n (bitOf w 2)

/-- CH_CTRL_WRITE. -/
def execChCtrlWrite (req : Requester) (ch : ChanId) (value : Word) (s : State) : Host.Outcome State Fault Refusal :=
  .next (s.dieAccess req (ch.val / 8) fun s => s.writeChCtrl ch.val value)

/-- STATE_CHANGE (R41, R81, R82). -/
def execStateChange (ch : ChanId) (s : State) : Host.Outcome State Fault Refusal :=
  .next (s.when (s.chLive ch.val) fun s => s.stateChange ch.val)

/-- A configuration write that is discarded whole where it is not allowed: CFG_REJ, on a quoined channel only where the value
would have changed one in force (R54, R122). `live` is set for the registers R54 protects on an ACTIVE channel. -/
def State.cfgWrite (s : State) (n : Nat) (r : RegName) (i : Nat) (v : Word) (live : Bool) : State :=
  if s.quoined n then (if r.written (s.rd r i) v = s.rd r i then s else s.chFault n 0x1005)
  else if live && s.active n then s.chFault n 0x1005
  else s.swWrite r i v

/-- CH_PROTO (R54, R81, R122): on a quoined channel only CUR and ADDR4 are written, and on an ACTIVE one nothing; on a quoined
channel CFG_REJ is set only where a discarded field would have changed. -/
def State.writeChProto (s : State) (n : Nat) (v : Word) : State :=
  if s.active n then
    (if s.quoined n && decide ((RegName.CH_PROTO).written (s.rd .CH_PROTO n) v = s.rd .CH_PROTO n) then s else s.chFault n 0x1005)
  else if s.quoined n then
    let new := (RegName.CH_PROTO).written (s.rd .CH_PROTO n) v
    let s' := s.swWriteMasked .CH_PROTO n v 0x13
    if (s'.rd .CH_PROTO n) = new then s' else s'.chFault n 0x1005
  else s.swWrite .CH_PROTO n v

/-- A larger length stores the largest (SHADOW_CTRL). -/
def shadowCtrlValue (v : Word) : Word :=
  BitVec.ofNat 32 (min (bitsOf v.toNat 0 10) 768 + min (bitsOf v.toNat 16 5) 16 * 2 ^ 16)

/-- A write of a register that R54 or R122 protects. -/
def State.writeChannelConfig (s : State) (n : Nat) (reg : ChanCfgReg) (v : Word) : State :=
  match reg with
  | .proto => s.writeChProto n v
  | .timing => s.cfgWrite n .CH_TIMING n v false
  | .fill => s.cfgWrite n .CH_FILL n v false
  | .sfdp k => s.cfgWrite n .SHADOW_SFDP (n * 192 + k.val) v true
  | .ident k => s.cfgWrite n .SHADOW_ID (n * 4 + k.val) v true
  | .shadowCtrl => s.cfgWrite n .SHADOW_CTRL n (shadowCtrlValue v) true
  | .ssCtrl => s.cfgWrite n .SS_CTRL n v false
  | .ssView0 => s.cfgWrite n .SS_VIEW0 n v false
  | .ssView1 => s.cfgWrite n .SS_VIEW1 n v false
  | .ssIdle => s.cfgWrite n .SS_IDLE n v false
  | .ssTime0 => s.cfgWrite n .SS_TIME0 n v false
  | .ssTime1 => s.cfgWrite n .SS_TIME1 n v false

/-- CHANNEL_CONFIG_WRITE (R54, R122). -/
def execChannelConfigWrite (req : Requester) (ch : ChanId) (reg : ChanCfgReg) (value : Word) (s : State) :
    Host.Outcome State Fault Refusal :=
  .next (s.dieAccess req (ch.val / 8) fun s => s.writeChannelConfig ch.val reg value)

/-- Advance SHAPE_INDEX after an access to SHAPE_DATA (AUTOINC). -/
def State.shapeAdvance (s : State) (n : Nat) : State :=
  if s.flag Fld.SHAPE_INDEX_AUTOINC n then s.setF Fld.SHAPE_INDEX_OPCODE n (s.getF Fld.SHAPE_INDEX_OPCODE n + 1) else s

/-- Index of the shape entry that SHAPE_DATA reaches (R47). -/
def State.shapeIx (s : State) (n : Nat) : Nat := n * 256 + s.getF Fld.SHAPE_INDEX_OPCODE n

/-- A write of SHAPE_DATA (R47, R54, R122): reserved bits are ignored; a discarded write still counts as an access. -/
def State.writeShapeData (s : State) (n : Nat) (v : Word) : State :=
  let i := s.shapeIx n
  let v := v &&& 0x3FFFFF
  let s := if s.quoined n then (if s.rd .SHAPE_ENTRY i = v then s else s.chFault n 0x1005)
    else if s.active n then s.chFault n 0x1005
    else s.wr .SHAPE_ENTRY i v
  s.shapeAdvance n

/-- A read of SHAPE_DATA. -/
def State.readShapeData (s : State) (n : Nat) : Word × State := (s.rd .SHAPE_ENTRY (s.shapeIx n), s.shapeAdvance n)

/-- A read of CH_LASTOP captures the frame's address into CH_LASTADDR (R81). -/
def State.readLastop (s : State) (n : Nat) : Word × State :=
  (s.rd .CH_LASTOP n, s.wr .CH_LASTADDR n (s.ch n).lastAddr)

/-- SHAPE_DATA_ACCESS (R47): a read, or a write of the value. -/
def execShapeDataAccess (req : Requester) (ch : ChanId) (write : Option Word) (s : State) :
    Host.Outcome State Fault Refusal :=
  .next (match write with
    | some v => s.dieAccess req (ch.val / 8) fun s => s.writeShapeData ch.val v
    | none => s.dieRead req (ch.val / 8) fun s => s.readShapeData ch.val)

/-- CH_LASTOP_READ (R81). -/
def execChLastopRead (req : Requester) (ch : ChanId) (s : State) : Host.Outcome State Fault Refusal :=
  .next (s.dieRead req (ch.val / 8) fun s => s.readLastop ch.val)

/-- A write of CH_RESET (R78, R81): ASSERT sets only at a boundary; clearing it releases at once. -/
def State.writeChReset (s : State) (n : Nat) (v : Word) : State :=
  let s := s.swWriteMasked .CH_RESET n v 0xFF1
  if bitOf v.toNat 1 then
    if s.flag Fld.CH_RESET_ASSERT n then s else (s.modCh n fun c => { c with assertPend := true }).assertApply n
  else (s.setFlag Fld.CH_RESET_ASSERT n false).setFrst n fun c => { c with assertPend := false, frstAssert := false }

/-- CH_RESET_ASSERT. -/
def execChResetAssert (req : Requester) (ch : ChanId) (value : Word) (s : State) : Host.Outcome State Fault Refusal :=
  .next (s.dieAccess req (ch.val / 8) fun s => s.writeChReset ch.val value)

/-- The swap takes place at a boundary (R80): SEL inverts, PENDING clears, galley blocks of the channel drop (R142), and a
tainted block that was read from the old working flash is to be read again. A swap that pends takes place even where PRESENT has
been cleared since (notes/assumptions/132.md). -/
def State.swapApply (s : State) (n : Nat) : State :=
  if !s.flag Fld.CH_TWIN_PENDING n ∨ !s.idleCh n then s
  else
    let s := (s.setFlag Fld.CH_TWIN_SEL n (!s.flag Fld.CH_TWIN_SEL n)).setFlag Fld.CH_TWIN_PENDING n false
    let s := s.modDie (n / 8) fun x => { x with jobs := x.jobs.filter fun j => decide (j.ch ≠ n) || j.reread.isNone }
    (s.voidWhere n fun _ => true).countCh n 0x29 1

/-- A write of CH_TWIN (R80, R122): PRESENT, then the swap request, judged by the PRESENT just stored (notes/assumptions/133.md);
a swap without a twin is refused. -/
def State.writeChTwin (s : State) (n : Nat) (v : Word) : State :=
  let p := bitOf v.toNat 0
  let s := if p = s.flag Fld.CH_TWIN_PRESENT n then s
    else if s.quoined n then s.chFault n 0x1005
    else s.setFlag Fld.CH_TWIN_PRESENT n p
  if !bitOf v.toNat 2 then s
  else if !s.flag Fld.CH_TWIN_PRESENT n then s.chFault n 0x1005
  else s.setFlag Fld.CH_TWIN_PENDING n true

/-- SWAP (R80). -/
def execSwap (req : Requester) (ch : ChanId) (value : Word) (s : State) : Host.Outcome State Fault Refusal :=
  .next (s.dieAccess req (ch.val / 8) fun s => s.writeChTwin ch.val value)

/-- SWAP_APPLY (R80). -/
def execSwapApply (ch : ChanId) (s : State) : Host.Outcome State Fault Refusal :=
  .next (s.when (s.chLive ch.val) fun s => s.swapApply ch.val)

/-- A write of CH_OWN: the divisor is clamped to 7 to 125. -/
def State.writeChOwn (s : State) (n : Nat) (v : Word) : State :=
  let s := s.swWrite .CH_OWN n v
  s.setF Fld.CH_OWN_DIV n (max 7 (min 125 (bitsOf v.toNat 0 7)))

/-! ## Completion reads and status polls (R73, R146) -/

/-- The own read of a slot's block ends (R146): read bytes fill the gaps, and the block goes to hashing; a read whose third
attempt failed ends the leaf FAIL (Table 6.3, point 4). -/
def State.slotRead (s : State) (n g : Nat) (x : Slot) (r : OwnRead) : State :=
  if r.failed then
    let s := (s.freeSlot n g).setVerdicts n g false .fail
    s.leafFail n g x.tree
  else (s.putSlot { x with own := sliceB r.data 0 4096 }).toHash n g

/-- A slot whose block own reads of the part may complete now: a capture entry where RD_OP allows completion reads, or a block
the witness engine was asked to bring (R68, R146). -/
def State.completes (s : State) (n : Nat) (x : Slot) : Bool :=
  x.sweep.isNone && (decide (x.st = .fetch) || (decide (x.st = .capture) && decide (s.getF Fld.WIT_CHCFG_RD_OP n ≠ 0)))

/-- COMPLETION_READ (R72, R146, R147, R473): the missing bytes of a capture entry, or the block that the witness engine was asked
to bring into the galley. `read` holds the block, or leaves the first frame open. -/
def execCompletionRead (ch : ChanId) (granule : Nat) (read : OwnRead) (s : State) : Host.Outcome State Fault Refusal :=
  let n := ch.val
  let sel := s.flag Fld.CH_TWIN_SEL n
  .next (match s.slot n granule with
    | none => s
    | some x =>
      let runs := x.missing
      let o := s.ownReadOf n sel (granule * 4096 + (runs.head?.map fun p => p.1).getD 0)
      if !s.completes n x || !s.ownTurn n o then s
      else if s.ownUnknown n o.op then s.ownUnknownFault n
      else if read.still then s.ownHold n o []
      else ((s.countCh n 0x3D runs.length).ownReads n sel (granule * 4096) runs read).slotRead n granule x read)

/-- The busy shield ends (R73); a deferred host reset is then due (R77). -/
def State.shieldEnd (s : State) (n : Nat) : State := s.setFlag Fld.CH_STATUS_BUSY_SHIELD n false

/-- The status poll of the busy shield: the status opcode of the region whose operation keeps the working flash busy (R73). -/
def State.pollOf (s : State) (n : Nat) : OwnOpen :=
  s.pollFrame (s.ch n).shieldRegion (s.flag Fld.CH_TWIN_SEL n)

/-- STATUS_POLL (R73, R473): an own frame polls the flash while the shield lasts, in any gap in which no host frame is open; the
shield ends when it shows the flash idle. -/
def execStatusPoll (ch : ChanId) (status : Byte) (s : State) (still : Bool := false) : Host.Outcome State Fault Refusal :=
  let n := ch.val
  let o := s.pollOf n
  .next (s.when (s.reached (n / 8) && s.flag Fld.CH_STATUS_BUSY_SHIELD n && !s.flag Fld.CH_STATUS_FRAME_OPEN n &&
      ((s.ch n).own.isNone || decide ((s.ch n).own = some o)) && !s.selRefused n o.sel) fun s =>
    if s.ownUnknown n o.op then s.ownUnknownFault n
    else if still then s.ownHold n o []
    else
      let s := s.ownFrame n o []
      if bitOf status.toNat (s.getF Fld.CR_OPS2_BUSY_BIT (s.ch n).shieldRegion) then s else s.shieldEnd n)

end Sys2Proof.Machine
end

