-- ==== Sys2Proof/Machine/Witness.lean ====
section
/-! DEFINITION. The witness commands (04): loads, sweeps and preloads, group fetches, hash results and verdicts, the horizon,
taint re-reads, gates and release plans (R127 to R167, R220, R223). -/

namespace Sys2Proof.Machine

/-! ## Commands (R132 to R136, R158, R164, R165) -/

/-- A witness command ends with a RESULT. -/
def State.witEnd (s : State) (d result : Nat) : State :=
  let s := s.modDie d fun x => { x with wit := none }
  ((s.setFlag Fld.WIT_CMD_STATUS_BUSY d false).setFlag Fld.WIT_CMD_STATUS_DONE d true).setF
    Fld.WIT_CMD_STATUS_RESULT d result

/-- A command of the witness engine starts. -/
def State.witStart (s : State) (d : Nat) (w : WitCmd) : State :=
  (s.modDie d fun x => { x with wit := some w }).setFlag Fld.WIT_CMD_STATUS_BUSY d true

/-- A tree is locked (R135): a valid slug with WIT = 1 in the active bank of a quoined forme names it. -/
def State.treeLocked (s : State) (d t : Nat) : Bool :=
  (List.range 32).any fun f => bitOf (s.rd .FM_QUOIN_EFF d).toNat f &&
    (s.laneSlugs { bank := .FM_ACT, die := d, lane := 0, forme := f, bad := [] }).any fun p =>
      p.2.wit && decide (p.2.tree = t)

/-- The granules of tree t of die d. -/
def State.treeHas (s : State) (d t g : Nat) : Bool :=
  let base := s.getF Fld.TD_BASE_BASE (d * 256 + t)
  decide (base ≤ g) && decide (g < base + s.getF Fld.TD_LEAVES_LEAF_COUNT (d * 256 + t))

/-- Work is outstanding on a tree (R136): an open capture entry or consumption, a care unit queued or running in a region
bound to it, or a RESTART that waits on one of its verdicts. -/
def State.treeBusy (s : State) (d t : Nat) : Bool :=
  let n := s.treeCh (d * 256 + t)
  let bound (u : CareUnit) : Bool :=
    s.flag Fld.CR_CFG_TREE_EN u.region && decide (s.getF Fld.CR_CFG_TREE u.region = t)
  ((s.die d).slots.any fun x => decide (x.tree = t) && x.entry && decide (x.st ≠ .verified)) ||
  decide (s.treeCons d t ≠ []) || (s.die d).care.queue.any bound ||
  (match (s.die d).care.running with
    | some (u, _) => bound u
    | none => false) ||
  (match (s.ch n).restart with
    | some r => (r.awaits.map Await.granule ++ r.stuck.map fun x => x.1).any fun g => s.treeHas d t g
    | none => false)

/-- Pinned lines a tree would hold (R138): the groups of its top PIN_LEVELS levels. -/
def pinnedLines (leaves pin : Nat) : Nat :=
  let depth := depthOf leaves
  ((List.range depth).map fun l => if depth ≤ l + pin then ceilDiv (levelSize leaves l) 8 else 0).foldl (· + ·) 0

/-- Pinned lines on a die. -/
def State.pinnedNow (s : State) (d : Nat) : Nat := ((s.die d).cache.filter (s.linePinned d)).length

/-- LOAD (R132): refused before anything is read, or LOADING. -/
def State.witLoad (s : State) (d t : Nat) : State :=
  let i := d * 256 + t
  let st := s.getF Fld.TD_STATE_STATE i
  let leaves := s.getF Fld.TD_LEAVES_LEAF_COUNT i
  if s.treeLocked d t then s.witEnd d 0xB
  else if st ≠ 0 ∧ st ≠ 3 then s.witEnd d 0x2
  else if s.treeBusy d t then s.witEnd d 0xD
  else if 1024 < s.pinnedNow d + pinnedLines leaves (s.getF Fld.TD_CFG_PIN_LEVELS i) then s.witEnd d 0xA
  else
    let s := s.witStart d { op := 1, tree := t, first := 0, stop := 0, next := 0, passed := 0, fail := none }
    (s.treeState d t 1).markCh (s.treeCh i)

/-- UNLOAD (R136). -/
def State.witUnload (s : State) (d t : Nat) : State :=
  let i := d * 256 + t
  if s.treeLocked d t then s.witEnd d 0xB
  else if s.treeBusy d t then s.witEnd d 0xD
  else
    let s := s.cacheDrop d fun x => decide (x.tree = t)
    let s := s.setSlots d ((s.die d).slots.filter fun x => decide (x.tree ≠ t))
    let s := s.putDigest .TD_ROOT (i * 12) []
    let s := s.modDie d fun x => x.modTree t fun y => { y with preOk := false }
    let s := s.setFlag Fld.TD_STATE_SWEEP_DONE i false
    ((s.treeState d t 0).markCh (s.treeCh i)).witEnd d 0

/-- Count the result of a leaf in the running command. -/
def WitCmd.step (w : WitCmd) (ok : Bool) : WitCmd :=
  { w with next := w.next + 1, passed := w.passed + b2n ok,
           fail := if ok then w.fail else if w.fail.isSome then w.fail else some w.next }

/-- A leaf whose slot the running sweep or preload shares ends: the result is the sweep's too (R143). -/
def State.sweepShared (s : State) (x : Slot) (ok : Bool) : State :=
  let d := x.ch / 8
  match (s.die d).wit with
  | none => s
  | some w =>
    if x.sweep.isSome ∧ w.op ≠ 1 ∧ w.tree = x.tree ∧ w.next = x.leaf then
      let s := s.modDie d fun y => { y with wit := some (w.step ok) }
      if ok then s.laterPass x.ch x.granule else s
    else s

/-- The vault device of a tree. -/
def State.treeDev (s : State) (i : Nat) : Nat := 2 * s.getF Fld.TD_CFG_PORT i + s.getF Fld.TD_CFG_DEV i

/-- The tree's vault port and device are mirrored (MC_VCFG.MIRROR). -/
def State.treeMirror (s : State) (i : Nat) : Bool := s.flag Fld.MC_VCFG_MIRROR (s.treeDev i)

/-- A leaf in a slot ends NODEFAIL: the slot is dropped and its verdict set (R148). -/
def State.slotNodeFail (s : State) (x : Slot) : State :=
  let s := (s.freeSlot x.ch x.granule).dropJob x.ch x.granule
  ((s.setVerdicts x.ch x.granule false .nodefail).leafNodeFail x.ch x.granule x.tree).sweepShared x false

/-- The re-read of a tainted granule ends NODEFAIL. -/
def State.rereadNodeFail (s : State) (n g t : Nat) : State :=
  ((s.dropReread n g).setVerdicts n g true .nodefail).leafNodeFail n g t

/-- A group fails and no copy is trusted: the leaves that wait for it end NODEFAIL, and so does the sweep leaf that waits. -/
def State.groupLost (s : State) (d t l k : Nat) : State :=
  let waiting := (s.die d).slots.filter fun x =>
    decide (x.tree = t) && decide (x.st ≠ .verified) && onPath x.leaf l k
  let n := s.treeCh (d * 256 + t)
  let base := s.getF Fld.TD_BASE_BASE (d * 256 + t)
  let tainted := (s.treeCons d t).filter fun c => c.reread && c.verdict.isNone && onPath (c.granule - base) l k
  let s := waiting.foldl (fun u x => u.slotNodeFail x) s
  let s := tainted.foldl (fun u c => if (u.rereadOpen n c.granule).isSome then u.rereadNodeFail n c.granule t else u) s
  match (s.die d).wit with
  | some w =>
    if w.op ≠ 1 ∧ w.tree = t ∧ w.next < w.stop ∧ onPath w.next l k ∧ !(waiting.any fun x => x.sweep.isSome) then
      (s.leafNodeFail n (base + w.next) t).modDie d fun x => { x with wit := some (w.step false) }
    else s
  | none => s

/-- The line of a group fails its check bits on reading, `times` times in one verification: dropped, with 0x300B each time, and
fetched again (R138). After the third attempt the group counts as failing its check twice (Table 6.3, point 7): the mirror is
fetched next, or the leaves that wait end NODEFAIL where there is none. -/
def State.dropLine (s : State) (n t l k times : Nat) : State :=
  let d := n / 8
  if (s.trusted d t l k).isNone ∨ times = 0 then s
  else
    let s := s.cacheDrop d fun y => y.isAt t l k
    let s := s.forEach (List.range (min 3 times)) fun s _ => s.witFault d t n 0x300B
    if times < 3 then s
    else
      let s := (s.report d 0x5207 d).witFault d t n 0x3002
      if s.treeMirror (d * 256 + t) then s else s.groupLost d t l k

/-- Lines of a leaf's path whose check bits fail on reading, by level, each as often as it is listed (R138). -/
def State.dropLines (s : State) (n t leaf : Nat) (levels : List Nat) : State :=
  s.forEach levels.eraseDups fun s l =>
    s.dropLine n t l (leaf / 8 ^ (l + 1)) (levels.filter fun y => decide (y = l)).length

/-- The detections at points 5 and 6 of a block that own frames read and a lane hashes at once (R202, R203, R219, R222): its bytes
are read again after the third at point 5, and the third at point 6 takes the lane out; either re-places the job. -/
def State.laneDetections (s : State) (n g : Nat) (sel : Bool) (r : OwnRead) : State :=
  let d := n / 8
  if r.failed then s
  else
    let s := s.forEach (List.range (min 3 r.feeds)) fun s _ => s.report d 0x5105 d
    let s := if r.feeds < 3 then s
      else ((((s.report d 0x5205 d).newGen d).ownEmit n (s.ownReadOf n sel (g * 4096)) []).countCh n 0x30 4096)
    let s := s.forEach (List.range (min 3 r.outputs)) fun s _ => s.report d 0x5106 d
    if r.outputs < 3 then s else ((s.report d 0x5206 d).laneOut d (r.hash.lane % 4)).newGen d

/-- Own frames read a block that the command at hand verifies (R202, R203): the frames, the re-reads of its runs, and what the
way into a lane and out of it met. -/
def State.readForHash (s : State) (n g : Nat) (sel : Bool) (r : OwnRead) : State :=
  (s.ownBlock n sel g r).laneDetections n g sel r

/-- Leaf i of a tree is read, hashed and verified for a sweep or preload (R158): `some true` and its slot VERIFIED where it
passes. A leaf whose own read failed a third attempt ends FAIL. `none` where a consumption took the sweep's FETCH slot: the read
supplies the bytes that no host frame delivered, and one hash gives both results (R143); and where a line of its path failed its
check (R138), so that the leaf waits for the group, or has ended NODEFAIL. -/
def State.sweepLeaf (s : State) (d t leaf : Nat) (r : OwnRead) (pin : Bool) : Option Bool × State :=
  let i := d * 256 + t
  let n := s.treeCh i
  let g := s.getF Fld.TD_BASE_BASE i + leaf
  let sel := s.flag Fld.CH_TWIN_SEL n
  let s := s.count d 0x326 1
  let blk := sliceB r.data 0 4096
  let shared := (s.slot n g).filter fun x => decide (x.st = .capture) && x.sweep.isSome
  match shared with
  | some x =>
    let s := s.ownBlock n sel g r
    if r.failed then (some false, ((s.freeSlot n g).setVerdicts n g false .fail).leafFail n g t)
    else (none, (s.putSlot { x with own := blk }).toHash n g)
  | none =>
    let s := (s.readForHash n g sel r).dropLines n t leaf r.lines
    if !s.leafTrusted d t leaf then (none, s)
    else
      let (ok, s) := if r.failed then (false, s) else s.leafCheck d t leaf blk r.hash
      if ok then
        let s := s.count d 0x320 1
        let pinned : Bool := pin || (match s.slot n g with
          | some x => x.pinned
          | none => false)
        let held : Bool := match s.slot n g with
          | some x => x.entry && decide (x.st ≠ .verified)
          | none => false
        let s := if held then s
          else
            let x : Slot := { ch := n, granule := g, tree := t, leaf := leaf, st := .verified, pinned := pinned, entry := false,
                              host := [], own := blk, seq := none, sweep := none }
            if (s.slot n g).isSome then s.putSlot x
            else match s.takeSlot d with
              | some s => s.putSlot x
              | none => s
        (some true, s.laterPass n g)
      else
        let s := match s.slot n g with
          | some x => if x.st = SlotSt.fetch ∧ x.sweep.isSome then s.freeSlot n g else s
          | none => s
        (some false, s.leafFail n g t)

/-- The leaf's slot is with a hash lane for the sweep and a consumption alike (R143). -/
def State.sweepHashing (s : State) (n g : Nat) : Bool :=
  match s.slot n g with
  | some x => x.sweep.isSome && decide (x.st = .hash)
  | none => false

/-- Process own reads in leaf order for the running sweep or preload: while own frames are allowed, the leaf's level-0 group is
trusted in the cache, a lane can hash it, no shared hash is awaited, and leaves remain (R71, R130, R143, R158). An opcode whose
shape has become UNKNOWN is reported, and nothing is read (R473). -/
def State.sweepReads (s : State) (d : Nat) : List OwnRead → State
  | [] => s
  | r :: rest =>
    match (s.die d).wit with
    | none => s
    | some w =>
      let i := d * 256 + w.tree
      let n := s.treeCh i
      let g := s.getF Fld.TD_BASE_BASE i + w.next
      let o := s.ownReadOf n (s.flag Fld.CH_TWIN_SEL n) (g * 4096)
      if w.stop ≤ w.next ∨ !s.ownTurn n o ∨ !s.leafTrusted d w.tree w.next ∨ !s.canHash d ∨ s.sweepHashing n g then s
      else if s.ownUnknown n o.op then s.ownUnknownFault n
      else if r.still then s.ownHold n o []
      else match s.sweepLeaf d w.tree w.next r (decide (w.op = 5)) with
        | (some ok, s) => (s.modDie d fun x => { x with wit := some (w.step ok) }).sweepReads d rest
        | (none, s) => s

/-- The next leaf of a sweep or preload is being read: its slot enters FETCH (R140). -/
def State.sweepFetch (s : State) (d : Nat) : State :=
  match (s.die d).wit with
  | none => s
  | some w =>
    let i := d * 256 + w.tree
    let n := s.treeCh i
    let g := s.getF Fld.TD_BASE_BASE i + w.next
    if w.op = 1 ∨ w.stop ≤ w.next ∨ !s.ownAllowed n ∨ (s.slot n g).isSome then s
    else match s.takeSlot d with
      | none => s
      | some s => s.putSlot { ch := n, granule := g, tree := w.tree, leaf := w.next, st := .fetch, pinned := false,
                              entry := false, host := [], own := [], seq := none, sweep := some (decide (w.op = 5)) }

/-- The running sweep or preload goes on with what its own frames returned. -/
def State.sweepOn (s : State) (d : Nat) (reads : List OwnRead) : State := (s.sweepReads d reads).sweepFetch d

/-- SWEEP, PRELOAD, PRELOAD_PIN (R158, R164, R165, R473). -/
def State.witRange (s : State) (d t op : Nat) (reads : List OwnRead) : State :=
  let i := d * 256 + t
  let n := s.treeCh i
  let first := s.getF Fld.WIT_ARG0_FIRST d
  let count := s.getF Fld.WIT_ARG1_COUNT d
  let leaves := s.getF Fld.TD_LEAVES_LEAF_COUNT i
  let already := ((s.die d).slots.filter fun x =>
    x.pinned && decide (x.tree = t) && decide (first ≤ x.leaf) && decide (x.leaf < first + count)).length
  if s.getF Fld.TD_STATE_STATE i ≠ 2 then s.witEnd d 0x2
  else if count = 0 ∨ leaves < first + count then s.witEnd d 0xC
  else if op = 6 then
    let unpin (x : Slot) : Slot :=
      if x.tree = t ∧ first ≤ x.leaf ∧ x.leaf < first + count then { x with pinned := false } else x
    (s.setSlots d ((s.die d).slots.map unpin)).witEnd d 0
  else if s.ownUnknown n (s.ownReadOp n) then (s.ownUnknownFault n).witEnd d 0xC
  else if op = 5 ∧ 1536 < s.pinnedSlots d + count - already then s.witEnd d 0xA
  else
    let s := s.witStart d { op := op, tree := t, first := first, stop := first + count, next := first, passed := 0,
                            fail := none }
    let s := if op = 3 then s.setFlag Fld.TD_STATE_SWEEP_BUSY i true else s
    s.sweepOn d reads

/-- A write of WIT_CMD (R165): discarded with 0x3009 while a command runs. `reads` is what the flash returns at once. -/
def State.writeWitCmd (s : State) (d : Nat) (v : Word) (reads : List OwnRead) : State :=
  let t := Fld.WIT_CMD_TREE.of v
  if s.flag Fld.WIT_CMD_STATUS_BUSY d then s.witFault d t (s.treeCh (d * 256 + t)) 0x3009
  else
    let s := s.setF Fld.WIT_CMD_STATUS_TREE d t
    match Fld.WIT_CMD_OP.of v with
    | 1 => s.witLoad d t
    | 2 => s.witUnload d t
    | 3 => s.witRange d t 3 reads
    | 4 => s.witRange d t 4 reads
    | 5 => s.witRange d t 5 reads
    | 6 => s.witRange d t 6 []
    | _ => s.witEnd d 0xC

/-- The WIT_CMD word of an OP and a tree. -/
def witWord (op t : Nat) : Word := BitVec.ofNat 32 (op + 256 * t)

/-- LOAD (R132). -/
def execLoad (req : Requester) (d : DieId) (t : TreeId) (s : State) : Host.Outcome State Fault Refusal :=
  .next (s.dieAccess req d.val fun s => s.writeWitCmd d.val (witWord 1 t.val) [])

/-- UNLOAD (R136). -/
def execUnload (req : Requester) (d : DieId) (t : TreeId) (s : State) : Host.Outcome State Fault Refusal :=
  .next (s.dieAccess req d.val fun s => s.writeWitCmd d.val (witWord 2 t.val) [])

/-- SWEEP (R158). -/
def execSweep (req : Requester) (d : DieId) (t : TreeId) (reads : List OwnRead) (s : State) :
    Host.Outcome State Fault Refusal :=
  .next (s.dieAccess req d.val fun s => s.writeWitCmd d.val (witWord 3 t.val) reads)

/-- PRELOAD (R164). -/
def execPreload (req : Requester) (d : DieId) (t : TreeId) (reads : List OwnRead) (s : State) :
    Host.Outcome State Fault Refusal :=
  .next (s.dieAccess req d.val fun s => s.writeWitCmd d.val (witWord 4 t.val) reads)

/-- PRELOAD_PIN (R141, R164). -/
def execPreloadPin (req : Requester) (d : DieId) (t : TreeId) (reads : List OwnRead) (s : State) :
    Host.Outcome State Fault Refusal :=
  .next (s.dieAccess req d.val fun s => s.writeWitCmd d.val (witWord 5 t.val) reads)

/-- UNPIN (R164). -/
def execUnpin (req : Requester) (d : DieId) (t : TreeId) (s : State) : Host.Outcome State Fault Refusal :=
  .next (s.dieAccess req d.val fun s => s.writeWitCmd d.val (witWord 6 t.val) [])

/-- The rest of a sweep's or preload's leaves are read; with the last one the command ends (R153, R158). -/
def State.sweepDone (s : State) (d : Nat) (reads : List OwnRead) : State :=
  let s := s.sweepOn d reads
  match (s.die d).wit with
  | none => s
  | some w =>
    if w.op = 1 ∨ w.next < w.stop then s
    else if w.op ≠ 3 then s.witEnd d 0
    else
      let i := d * 256 + w.tree
      let whole := decide (w.first = 0) && decide (w.stop = s.getF Fld.TD_LEAVES_LEAF_COUNT i)
      let s := ((s.setFlag Fld.TD_STATE_SWEEP_BUSY i false).setFlag Fld.TD_STATE_SWEEP_FAIL i w.fail.isSome).setF
        Fld.TD_SWEEP_PASSED i w.passed
      let s := s.setF Fld.TD_STATE_FIRST_FAIL i (w.fail.getD 0)
      let s := if whole then s.setFlag Fld.TD_STATE_SWEEP_DONE i true else s
      let s := if whole ∧ w.fail = none then s.modDie d fun x => x.modTree w.tree fun y => { y with preOk := true } else s
      (s.treeReport d w.tree).witEnd d 0

/-- SWEEP_DONE (R158). -/
def execSweepDone (d : DieId) (reads : List OwnRead) (s : State) : Host.Outcome State Fault Refusal :=
  .next (s.when (s.live d.val) fun s => s.sweepDone d.val reads)

/-! ## Groups (R130, R133, R139, R148, R175) -/

/-- A group's bytes are checked (R130): against the trusted copy where the cache holds one (R186), else by their hash against the
digest that vouches for them. -/
def State.groupCheck (s : State) (d t l k : Nat) (g : List Byte) (r : LaneRun) : Bool × State :=
  match s.trusted d t l k with
  | some x => (decide (x.data = g), s.useLine d t l k)
  | none => match s.vouches d t l k with
    | none => (false, s)
    | some v =>
      (s.useLine d t (l + 1) (k / 8)).hashCheck d (nodeMessage (s.rd .TD_REGION (d * 256 + t)).toNat (l + 1) k g) v r

/-- How the fetch of a group ended. -/
structure GroupEnd where
  ok : Bool
  /-- Its check failed twice, and 0x3002 was reported. -/
  twice : Bool
  /-- The trusted copy came from the mirror. -/
  mirror : Bool
  deriving DecidableEq, Repr

/-- Check what one fetch of a group returned, and cache it where it is trusted; `none` where the read failed. -/
def State.groupTry (d t l k : Nat) (r : LaneRun) (got : Option (List Byte) × State) : Option Bool × State :=
  match got.1 with
  | none => (none, got.2)
  | some raw =>
    let c := groupBytes (got.2.getF Fld.TD_LEAVES_LEAF_COUNT (d * 256 + t)) l k raw
    let x := got.2.groupCheck d t l k c r
    (some x.1, if x.1 then x.2.cacheGroup d t l k c else x.2)

/-- Fetch a group: the first copy, the second, then the mirror; the group is cached where a copy is trusted. A second failed
check reports 0x3002, and the mirror is tried (R133, R148, R175). A vault read that failed after its retries, which R173 counts
over both ports, is the last. -/
def State.groupFetch (s : State) (d t l k : Nat) (f : GroupFetch) : GroupEnd × State :=
  let i := d * 256 + t
  let dev := s.treeDev i
  let addr := groupAddr (s.rd .TD_VADDR i).toNat (s.getF Fld.TD_LEAVES_LEAF_COUNT i) l k
  let run (m : Nat) : LaneRun := f.hash.getD m {}
  match State.groupTry d t l k (run 0) ((s.count d 0x321 1).vaultGet d dev addr f.first) with
  | (none, s) => (⟨false, false, false⟩, s)
  | (some true, s) => (⟨true, false, false⟩, s)
  | (some false, s) =>
    match State.groupTry d t l k (run 1) ((s.count d 0x321 1).vaultGet d dev addr f.second) with
    | (none, s) => (⟨false, false, false⟩, s)
    | (some true, s) => (⟨true, false, false⟩, s)
    | (some false, s) =>
      let s := s.witFault d t (s.treeCh i) 0x3002
      if !s.treeMirror i then (⟨false, true, false⟩, s)
      else match State.groupTry d t l k (run 2) ((s.count d 0x321 1).vaultMirror d (dev ^^^ 2) addr f.mirror) with
        | (some true, s) => (⟨true, true, true⟩, s.vaultWeak d dev addr)
        | (_, s) => (⟨false, true, false⟩, s)

/-- Fetch groups in order until one has no trusted copy. Where the line of a group's parent fails its check bits, it is dropped and
its chain is fetched again first (R138); an operand that is not listed is a read that failed. -/
def State.fetchAll (s : State) (d t : Nat) : List (Nat × Nat) → List GroupFetch → Bool × State
  | [], _ => (true, s)
  | (l, k) :: _, [] => (false, (s.groupFetch d t l k {}).2)
  | (l, k) :: rest, f :: fs =>
    if f.parentBad ≠ 0 ∧ (s.trusted d t (l + 1) (k / 8)).isSome then
      let s := s.dropLine (s.treeCh (d * 256 + t)) t (l + 1) (k / 8) f.parentBad
      s.fetchAll d t (s.gaps d t (l + 1) (k / 8) ++ (l, k) :: rest) fs
    else
      let r := s.groupFetch d t l k f
      if r.1.ok then r.2.fetchAll d t rest fs else (false, r.2)

/-- Bring the groups that a leaf's path lacks into the cache (R139). -/
def State.bringPath (s : State) (d t leaf : Nat) (fs : List GroupFetch) : State := (s.fetchAll d t (s.pathGaps d t leaf) fs).2

/-- A verification in progress needs a group: it is among those its leaf's path lacks (R139). -/
def State.groupNeeded (s : State) (d t l k : Nat) : Bool :=
  let key : Nat × Nat := (l, k)
  (s.verifying d).any fun p => decide (p.1 = t) && (s.pathGaps d t p.2).any fun x => decide (x = key)

/-- GROUP_FETCH_DONE (R139, R148): a group of a ROOTED tree that a verification in progress needs and whose parent is trusted.
Its fetch began when the capture entry was allocated. -/
def execGroupFetchDone (d : DieId) (t : TreeId) (level index : Nat) (fetch : GroupFetch) (s : State) :
    Host.Outcome State Fault Refusal :=
  let i := d.val * 256 + t.val
  .next (s.when (s.live d.val && decide (s.getF Fld.TD_STATE_STATE i = 2) && s.canHash d.val &&
      s.groupNeeded d.val t.val level index && (s.vouches d.val t.val level index).isSome) fun s =>
    if fetch.parentBad ≠ 0 ∧ (s.trusted d.val t.val (level + 1) (index / 8)).isSome then
      s.dropLine (s.treeCh i) t.val (level + 1) (index / 8) fetch.parentBad
    else
      let (r, s) := s.groupFetch d.val t.val level index fetch
      if r.ok then s else s.groupLost d.val t.val level index)

/-- The groups of the pinned levels, top level first (R133). -/
def State.pinnedGroups (s : State) (i : Nat) : List (Nat × Nat) :=
  let leaves := s.getF Fld.TD_LEAVES_LEAF_COUNT i
  ((List.range (s.getF Fld.TD_STATE_DEPTH i)).reverse.filter fun l => s.pinnedLevel i l).flatMap fun l =>
    (List.range (ceilDiv (levelSize leaves l) 8)).map fun k => (l, k)

/-- The refusal of a tree's colophon (Table 4.3). -/
def State.treeRefusal (s : State) (d t : Nat) (c : List Byte) : Option Nat :=
  let i := d * 256 + t
  match s.coRefusal c false with
  | some r => some r
  | none =>
    if coRegion c ≠ (s.rd .TD_REGION i).toNat ∨ coLeaves c ≠ s.getF Fld.TD_LEAVES_LEAF_COUNT i ∨
        coDepth c ≠ depthOf (coLeaves c) then some 7
    else if coVersion c < (s.rd .TD_FLOOR i).toNat then some 8
    else none

/-- A load is refused with a RESULT of Table 4.3 (R133). -/
def State.loadRefused (s : State) (d t result : Nat) : State :=
  let i := d * 256 + t
  let s := s.putDigest .TD_ROOT (i * 12) []
  let s := s.cacheDrop d fun x => decide (x.tree = t)
  ((s.treeState d t 3).witFault d t (s.treeCh i) 0x3007).witEnd d result

/-- The colophon checks and pinned fetches of a load end (R132, R133). -/
def State.loadDone (s : State) (d : Nat) (colophon : VaultGet) (pinned : List GroupFetch) : State :=
  match (s.die d).wit with
  | none => s
  | some w =>
    if w.op ≠ 1 then s
    else
      let t := w.tree
      let i := d * 256 + t
      match s.vaultGet d (s.treeDev i) (s.rd .TD_CADDR i).toNat colophon with
      | (none, s) => s.loadRefused d t 9
      | (some c, s) =>
        let refusal := s.treeRefusal d t c
        let s := s.coReads c false
        match refusal with
        | some r => s.loadRefused d t r
        | none =>
          let s := (s.putDigest .TD_ROOT (i * 12) (coRoot c)).wr .TD_VERSION i (BitVec.ofNat 32 (coVersion c))
          let s := s.setF Fld.TD_STATE_DEPTH i (coDepth c)
          let (ok, s) := s.fetchAll d t (s.pinnedGroups i) pinned
          if !ok then s.loadRefused d t 9
          else
            let s := s.modDie d fun x => x.modTree t fun y => { y with preOk := false }
            let s := (s.setFlag Fld.TD_STATE_SWEEP_DONE i false).setFlag Fld.TD_STATE_SWEEP_FAIL i false
            (s.treeState d t 2).witEnd d 0

/-- LOAD_DONE (R133). -/
def execLoadDone (d : DieId) (colophon : VaultGet) (pinned : List GroupFetch) (s : State) :
    Host.Outcome State Fault Refusal :=
  .next (s.when (s.live d.val) fun s => s.loadDone d.val colophon pinned)

/-! ## Descriptors (R135, R166) -/

/-- The register of a descriptor field. -/
def tdRegName (r : TdReg) : RegName :=
  match r with
  | .cfg => .TD_CFG
  | .base => .TD_BASE
  | .leaves => .TD_LEAVES
  | .vaddr => .TD_VADDR
  | .caddr => .TD_CADDR
  | .region => .TD_REGION
  | .floor => .TD_FLOOR

/-- The value a descriptor write stores: reserved bits ignored, a response of 0b11 stored as 0b10, a FAIL_RESP of 0b00 as 0b01
(R159), low address bits zero. -/
def tdValue (r : TdReg) (old v : Word) : Word :=
  let fixResp (f : Field) (w : Word) : Word := if f.of w = 3 then f.put w 2 else w
  match r with
  | .cfg =>
    let w := (RegName.TD_CFG).written old v
    let w := fixResp Fld.TD_CFG_TAINT_RESP (fixResp Fld.TD_CFG_OVER_RESP (fixResp Fld.TD_CFG_FAIL_RESP w))
    if Fld.TD_CFG_FAIL_RESP.of w = 0 then Fld.TD_CFG_FAIL_RESP.put w 1 else w
  | .vaddr => v &&& ~~~ 0x1FF#32
  | .caddr => v &&& ~~~ 0xFFF#32
  | r => (tdRegName r).written old v

/-- CHANNEL, PORT and DEV of TD_CFG. -/
def tdCfgFixed : Word := 0x1F

/-- A descriptor write (R166); a care region follows its tree's span, and comes to have records there (R180, R184). -/
def State.writeTd (s : State) (d t : Nat) (r : TdReg) (v : Word) : State :=
  let i := d * 256 + t
  let old := s.rd (tdRegName r) i
  let new := tdValue r old v
  let st := s.getF Fld.TD_STATE_STATE i
  let reject (s : State) : State := s.witFault d t (s.treeCh i) 0x3009
  let s :=
    if s.treeLocked d t then (if new = old then s else reject s)
    else if st = 0 ∨ st = 3 then s.wr (tdRegName r) i new
    else match r with
      | .cfg =>
        let kept := (new &&& ~~~ tdCfgFixed) ||| (old &&& tdCfgFixed)
        let s := s.wr .TD_CFG i kept
        if kept = new then s else reject s
      | _ => if new = old then s else reject s
  s.makeRecords d

/-- DESCRIPTOR_WRITE (R166). -/
def execDescriptorWrite (req : Requester) (d : DieId) (t : TreeId) (reg : TdReg) (value : Word) (s : State) :
    Host.Outcome State Fault Refusal :=
  .next (s.dieAccess req d.val fun s => s.writeTd d.val t.val reg value)

/-! ## Hash results and verdicts (R148, R149, R220, R223) -/

/-- The bytes of a job's block are lost at point 5 (Table 6.3): a block with host bytes is tainted, so that its open consumption
awaits a re-read (R161); another is read again. -/
def State.slotLost (s : State) (j : Job) (x : Slot) : State :=
  let s := s.endJob j
  if j.reread.isSome then s
  else match x.host, x.seq with
    | _ :: _, some seq =>
      let r := (s.freeSlot x.ch x.granule).awaitReread x.ch x.granule x.tree seq
      r.2.respond x.ch (r.2.getF Fld.TD_CFG_TAINT_RESP (x.ch / 8 * 256 + x.tree)) [r.1]
    | _, _ => s.putSlot { x with st := if x.entry then .capture else .fetch, own := [] }

/-- An executor has sent the result of a job of another owner: the lane that held it is free. -/
def State.guestDone (s : State) (e d n g gen : Nat) : State :=
  let it (q : Guest) : Bool := decide (q.owner = d) && decide (q.gen = gen) && decide (q.ch = n) && decide (q.granule = g)
  if e = d then s else s.modDie e fun y => { y with guests := y.guests.eraseP it }

/-- HASH_RESULT (R220): accepted only for an open slot, the recorded generation and the recorded executor; any other result
counts in HP_STALE. `corrupt` is a wrong digest of a faulty lane; `det5` and `det6` count the attempts of a run that failed
at points 5 and 6. -/
def State.hashResult (s : State) (n g gen e lane : Nat) (corrupt : Option Digest) (det5 det6 : Nat) : State :=
  let d := n / 8
  let s := s.guestDone e d n g gen
  match s.awaitedJob n g gen e with
  | none => ((s.bump .HP_STALE d).count d 0x366 1).laneNext e
  | some j => match s.jobSlot j with
    | none => ((s.bump .HP_STALE d).count d 0x366 1).laneNext e
    | some x =>
      let s := s.forEach (List.range det5) fun s _ => s.report e 0x5105 d
      if det5 = 3 then (((s.report e 0x5205 d).newGen d).slotLost j x).laneNext e
      else
        let s := s.forEach (List.range det6) fun s _ => s.report e 0x5106 d
        if det6 = 3 then ((s.report e 0x5206 d).laneOut e lane).replaceJob j
        else
          let r := corrupt.getD (hashOf (s.jobMessage j))
          let s := (s.count e (0x360 + lane) 1).count d 0x320 1
          (s.setJob j { j with lane := some (Fin.ofNat 4 lane), result := some r }).laneNext e

/-- HASH_RESULT; a lane that is out of service gives no result (R222). -/
def execHashResult (ch : ChanId) (granule gen : Nat) (executor : DieId) (lane : Fin 4) (corrupt : Option Digest)
    (det5 det6 : Fin 4) (s : State) : Host.Outcome State Fault Refusal :=
  .next (s.when (s.chLive ch.val && s.live executor.val && !mem lane.val (s.die executor.val).lanesOut) fun s =>
    s.hashResult ch.val granule gen executor.val lane.val corrupt det5.val det6.val)

/-- A leaf in a slot passes (R148): VERIFIED, its entry closed, its verdict PASS. -/
def State.slotPass (s : State) (x : Slot) : State :=
  let s := s.dropJob x.ch x.granule
  let s := s.putSlot { x with st := .verified, pinned := x.pinned || x.sweep.getD false, entry := false, host := [],
                              seq := none, sweep := none }
  (s.setVerdicts x.ch x.granule false .pass).sweepShared x true

/-- A leaf in a slot fails (R148): the slot is dropped, its verdict FAIL, the block convicted. -/
def State.slotFail (s : State) (x : Slot) : State :=
  let s := (s.freeSlot x.ch x.granule).dropJob x.ch x.granule
  ((s.setVerdicts x.ch x.granule false .fail).leafFail x.ch x.granule x.tree).sweepShared x false

/-- The re-read of a tainted block passes (R161); the block enters the galley as VERIFIED, as sweep leaves do, unless a slot is
at work on it. -/
def State.rereadPass (s : State) (x : Slot) : State :=
  let s := s.dropReread x.ch x.granule
  let y : Slot := { x with st := .verified }
  let s := match s.slot x.ch x.granule with
    | some z => if z.st = SlotSt.verified then s.putSlot { y with pinned := z.pinned } else s
    | none => match s.takeSlot (x.ch / 8) with
      | some s => s.putSlot y
      | none => s
  s.setVerdicts x.ch x.granule true .pass

/-- The re-read of a tainted block fails (R161). -/
def State.rereadFail (s : State) (n g t : Nat) : State :=
  ((s.dropReread n g).setVerdicts n g true .fail).leafFail n g t

/-- The accepted digest of a leaf is compared with its trusted entry (R130, R148, R161); before it fails, a second lane hashes the
message again, and a second lane that fails meanwhile is replaced (R217, R223). -/
def State.leafVerdict (s : State) (n g : Nat) (second : Option Digest) (again : Nat) (badLines : List Nat) : State :=
  match s.hashedJob n g with
  | none => s
  | some j => match s.jobSlot j, j.result with
    | some x, some r =>
      let d := n / 8
      let s := s.dropLines n x.tree x.leaf badLines
      if s.getF Fld.TD_STATE_STATE (d * 256 + x.tree) ≠ 2 then s
      else match s.leafEntry d x.tree x.leaf with
        | none => s
        | some want =>
          let s := s.useLine d x.tree 0 (x.leaf / 8)
          let pass (s : State) : State := if j.reread.isSome then s.rereadPass x else s.slotPass x
          if r = want then pass s
          else
            let k := (j.lane.map fun l => l.val).getD 0
            let s := (s.confirmRun d j.executor k again).sendFence d j.executor
            if second.getD (hashOf (s.jobMessage j)) = want then pass (s.laneOut j.executor k)
            else if j.reread.isSome then s.rereadFail n g x.tree
            else s.slotFail x
    | _, _ => s

/-- LEAF_VERDICT (R148, R223). -/
def execLeafVerdict (ch : ChanId) (granule : Nat) (second : Option Digest) (again : Nat) (s : State)
    (badLines : List Nat := []) : Host.Outcome State Fault Refusal :=
  .next (s.when (s.chLive ch.val) fun s => s.leafVerdict ch.val granule second again badLines)

/-- The lag bucket of R431. -/
def lagBucket (us : Nat) : Nat := if us < 8 then 0 else min 15 (Nat.log2 us - 2)

/-- What a reported verdict does to the wait of a RESTART, and its count (R142, R160): the consumption's own verdict is awaited no
more, and a pass is a later verdict for a wait that began before the consumption. -/
def State.verdictWait (s : State) (n : Nat) (c : Consumption) (v : WVerdict) : State :=
  let s := s.awaitDone n c.seq
  match v with
  | .pass => (s.countCh n 0x3B 1).laterSeq n c.granule c.seq
  | .withdrawn => s
  | .void | .nodefail | .fail => s.countCh n 0x3C 1

/-- Report the verdict of the oldest open consumption of a channel, once it is computed (R149, R154, R160). -/
def State.verdictReport (s : State) (n : Nat) : State :=
  match (s.ch n).cons with
  | [] => s
  | c :: rest =>
    match c.verdict with
    | none => s
    | some v =>
      let s := s.modCh n fun x => { x with cons := rest, reported := c.seq }
      let s := s.setFlag Fld.WIT_CHSTAT_TAINT_OPEN n (rest.any fun x => x.reread)
      let s := s.verdictWait n c v
      (s.count (n / 8) (0x330 + lagBucket (s.usSince c.firstUs)) 1).chReports n

/-- VERDICT_REPORT (R149). -/
def execVerdictReport (ch : ChanId) (s : State) : Host.Outcome State Fault Refusal :=
  .next (s.when (s.chLive ch.val) fun s => s.verdictReport ch.val)

/-- HORIZON_EXPIRE (R150): the horizon of a consumption whose verdict has not been reported ends: 0x3003 once, and OVER_RESP. -/
def execHorizonExpire (ch : ChanId) (seq : Word) (s : State) : Host.Outcome State Fault Refusal :=
  let n := ch.val
  .next (s.when (s.chLive n) fun s =>
    match (s.ch n).cons.find? fun c => decide (c.seq = seq) && !c.overdue &&
        decide (s.getF Fld.WIT_HORIZON_HORIZON (n / 8) ≤ s.usSince c.firstUs) with
    | none => s
    | some c =>
      let d := n / 8
      let s := s.modCh n fun x =>
        { x with cons := x.cons.map fun y => if y.seq = seq then { y with overdue := true } else y }
      (s.witFault d c.tree n 0x3003).respond n (s.getF Fld.TD_CFG_OVER_RESP (d * 256 + c.tree)) [.verdict c.seq c.granule])

/-- The re-read of a tainted block ends (R161): its bytes go to hashing; a read whose third attempt failed ends FAIL. -/
def State.taintRead (s : State) (n g t : Nat) (r : OwnRead) : State :=
  let s := s.ownBlock n (s.flag Fld.CH_TWIN_SEL n) g r
  if r.failed then s.rereadFail n g t
  else
    let leaf := g - s.getF Fld.TD_BASE_BASE (n / 8 * 256 + t)
    s.addJob n g (some { ch := n, granule := g, tree := t, leaf := leaf, st := .hash, pinned := false, entry := false,
                         host := [], own := sliceB r.data 0 4096, seq := none, sweep := none })

/-- TAINT_REREAD (R72, R161, R473): the whole tainted block is read with own frames and goes to hashing. -/
def execTaintReread (ch : ChanId) (granule : Nat) (read : OwnRead) (s : State) : Host.Outcome State Fault Refusal :=
  let n := ch.val
  let o := s.ownReadOf n (s.flag Fld.CH_TWIN_SEL n) (granule * 4096)
  .next (s.when (s.chLive n && s.ownTurn n o) fun s =>
    match s.rereadOpen n granule with
    | none => s
    | some c =>
      if (s.die (n / 8)).jobs.any fun j => j.isFor n granule && j.reread.isSome then s
      else if s.ownUnknown n o.op then s.ownUnknownFault n
      else if read.still then s.ownHold n o []
      else s.taintRead n granule c.tree read)

/-! ## Responses, gates and release plans (R152 to R160, R167) -/

/-- RESTART_CLEAR (R160): every awaited verdict has passed and RESTART_MS ms have gone by. -/
def execRestartClear (ch : ChanId) (s : State) : Host.Outcome State Fault Refusal :=
  let n := ch.val
  .next (s.when (s.chLive n && s.platLive) fun s =>
    match (s.ch n).restart with
    | none => s
    | some r =>
      if r.awaits = [] ∧ r.stuck = [] ∧ 1000 * max 1 (s.getF Fld.WIT_CHCFG_RESTART_MS n) ≤ s.usSince r.sinceUs then
        s.restartEnd n
      else s)

/-- Every tree of gate g is ROOTED, and there is one. -/
def State.gateRooted (s : State) (g : Nat) : Bool :=
  decide (s.gateTrees g ≠ []) && (s.gateTrees g).all fun t => decide (s.getF Fld.TD_STATE_STATE t = 2)

/-- The condition of the gate's mode holds (R153, R154). -/
def State.gateReady (s : State) (g : Nat) : Bool :=
  match s.getF Fld.PG_CTRL_MODE g with
  | 1 => (s.gateTrees g).all fun t => (Tbl.get (s.die (t / 256)).trees (t % 256) Tree.reset).preOk
  | 2 => (s.gateTrees g).all fun t =>
      let r := Tbl.get s.reports t TreeReport.none
      r.rooted && !r.isOpen && !r.awaiting && decide (max 10 (s.getF Fld.PG_CTRL_QUIET g) ≤ s.usSince r.lastUs)
  | _ => false

/-- GATE_OPEN (R153). -/
def execGateOpen (g : LineId) (s : State) : Host.Outcome State Fault Refusal :=
  .next (s.when (s.platLive && decide (s.getF Fld.PG_STATUS_STATE g.val = 0) && s.flag Fld.PG_STATUS_ARMED g.val &&
      s.gateRooted g.val && s.gateReady g.val) fun s => s.setF Fld.PG_STATUS_STATE g.val 1)

/-- A write of PG_CTRL (R153, R155, R167): a MODE of 0b11 stores 0b00; MODE 0b00 closes the gate; ARM arms it unless
ARM_SRC is 0b01, and moves a FAILED gate to CLOSED. -/
def State.writePgCtrl (s : State) (g : Nat) (v : Word) : State :=
  let v' := if Fld.PG_CTRL_MODE.of v = 3 then Fld.PG_CTRL_MODE.put v 0 else v
  let s := s.wr .PG_CTRL g (Fld.PG_CTRL_ARM.put ((RegName.PG_CTRL).written (s.rd .PG_CTRL g) v') 0)
  let s := if s.getF Fld.PG_CTRL_MODE g = 0 then (s.gateLeaves g).setF Fld.PG_STATUS_STATE g 0 else s
  let s :=
    if Fld.PG_CTRL_ARM.of v = 0 then s
    else
      let s := if s.getF Fld.PG_STATUS_STATE g = 2 then s.setF Fld.PG_STATUS_STATE g 0 else s
      if s.getF Fld.PG_CTRL_ARM_SRC g = 1 then s else s.setFlag Fld.PG_STATUS_ARMED g true
  s.gateArm g

/-- PG_CTRL_WRITE (R155). -/
def execPgCtrlWrite (req : Requester) (g : LineId) (value : Word) (s : State) : Host.Outcome State Fault Refusal :=
  .next (s.platAccess req fun s => s.writePgCtrl g.val value)

/-- A write of RP_LINE (R152, R412, R423): REQUEST, and a 1 to HOLD clears it, except while HOLD is forced. -/
def State.writeRpLine (s : State) (k : Nat) (v : Word) : State :=
  let s := s.setFlag Fld.RP_LINE_REQUEST k (bitOf v.toNat 0)
  if bitOf v.toNat 2 ∧ !s.forcedHold then s.setFlag Fld.RP_LINE_HOLD k false else s

/-- RP_LINE_WRITE (R152). -/
def execRpLineWrite (req : Requester) (k : LineId) (value : Word) (s : State) : Host.Outcome State Fault Refusal :=
  .next (s.platAccess req fun s => s.writeRpLine k.val value)

/-- RELEASE_PLAN_WRITE (R167): the lines follow their new conditions at once. -/
def execReleasePlanWrite (req : Requester) (reg : PlanReg) (value : Word) (s : State) :
    Host.Outcome State Fault Refusal :=
  .next (s.platAccess req fun s =>
    match reg with
    | .gates k => s.wr .RP_GATES k.val value
    | .client ch => s.wr .RP_CLIENT ch.val value)

/-- A read of WIT_CONSUMED captures WIT_REPORTED of the same instant. -/
def State.readConsumed (s : State) (n : Nat) : Word × State :=
  (s.rd .WIT_CONSUMED n, s.wr .WIT_REPORTED n (s.ch n).reported)

/-- WIT_CONSUMED_READ (R164). -/
def execWitConsumedRead (req : Requester) (ch : ChanId) (s : State) : Host.Outcome State Fault Refusal :=
  .next (s.dieRead req (ch.val / 8) fun s => s.readConsumed ch.val)

end Sys2Proof.Machine
end

