-- ==== Sys2Proof/Machine/Vault.lean ====
section
/-! DEFINITION. The vault (05): its bad-block maps, spares and refreshes, the directory and the start of media care, sealed units,
the health log and the journal (R168 to R183, R193, R195). -/

namespace Sys2Proof.Machine

/-- Change what the part keeps of the vault. -/
def State.modVault (s : State) (f : Vault → Vault) : State := { s with vault := f s.vault }

/-! ## Bad-block maps and spares (R169 to R171) -/

/-- The bytes of a bad-block map copy (R170). -/
def mapBytes (gen : Nat) (entries : List (Nat × Nat)) : List Byte :=
  let head := beBytes 4 gen ++ beBytes 2 entries.length
  let body := entries.flatMap fun e => beBytes 2 e.1 ++ beBytes 2 e.2
  head ++ hashOf (head ++ body) ++ body

/-- What a copy of a bad-block map says, where its digest holds: its generation and its entries (R170). -/
def mapOf (b : List Byte) : Option (Nat × List (Nat × Nat)) :=
  let head := sliceB b 0 6
  let count := ofBe (sliceB b 4 2)
  let body := sliceB b 54 (4 * count)
  if hashOf (head ++ body) = sliceB b 6 48 then
    some (ofBe (sliceB b 0 4), (List.range count).map fun k => (ofBe (sliceB body (4 * k) 2), ofBe (sliceB body (4 * k + 2) 2)))
  else none

/-- The copy the part uses: the one whose digest holds and whose generation is higher; no entry where neither holds
(notes/assumptions/142.md). -/
def mapPick (a b : List Byte) : Nat × List (Nat × Nat) :=
  match mapOf a, mapOf b with
  | some x, some y => if x.1 < y.1 then y else x
  | some x, none => x
  | none, some y => y
  | none, none => (0, [])

/-- The part reads the two copies of a device's bad-block map (R170). -/
def State.readMap (s : State) (m : Fin 4 × List Byte × List Byte) : State :=
  let v := m.1.val
  let x := mapPick m.2.1 m.2.2
  if !s.vaultNand v then s
  else s.modVault fun y => { y with maps := Tbl.set y.maps v x.2 [], mapGen := Tbl.set y.mapGen v x.1 0 }

/-- Spare blocks of a device: the last B ÷ 32 (R169). -/
def sparePool (v : Nat) : List Nat :=
  let b := Config.vaultBlocks v
  (List.range (b / 32)).map fun k => b - b / 32 + k

/-- Free spares of a device: blocks that a refresh returned, then the pool in rising order. -/
def State.spares (s : State) (v : Nat) : List Nat :=
  Tbl.get s.vault.freed v [] ++ (sparePool v).filter fun p => !mem p (Tbl.get s.vault.taken v [])

/-- Take a spare out of the pool; fewer than B ÷ 128 left reports 0x4007 once per power cycle (R171). -/
def State.takeSpare (s : State) (d v p : Nat) : State :=
  let s := s.modVault fun x =>
    { x with freed := Tbl.set x.freed v ((Tbl.get x.freed v []).filter fun q => decide (q ≠ p)) []
             taken := Tbl.set x.taken v (Tbl.get x.taken v [] ++ [p]) [] }
  if (s.spares v).length < Config.vaultBlocks v / 128 ∧ !mem v s.vault.low then
    (s.modVault fun x => { x with low := x.low ++ [v] }).report d 0x4007 (vaultSource v)
  else s

/-- The physical block of a logical block (R169). -/
def State.physBlock (s : State) (v j : Nat) : Nat :=
  match (Tbl.get s.vault.maps v []).find? fun e => decide (e.1 = j) with
  | some e => e.2
  | none => j + 2

/-- Map a logical block to a physical block, and write both copies of the map, the one of lower generation first (R170). -/
def State.mapBlock (s : State) (v j p : Nat) : State :=
  let entries := ((Tbl.get s.vault.maps v []).filter fun e => decide (e.1 ≠ j)) ++ [(j, p)]
  let gen := Tbl.get s.vault.mapGen v 0 + 1
  let s := s.modVault fun x => { x with maps := Tbl.set x.maps v entries [], mapGen := Tbl.set x.mapGen v gen 0 }
  let first := (gen + 1) % 2
  (s.emit (.vaultMap v first (mapBytes gen entries))).emit (.vaultMap v (1 - first) (mapBytes gen entries))

/-- A program or erase of a logical block reports failure: its pages are copied into a spare, the map is updated, and 0x4006 is
reported (R171). `none` where no spare remains; a NOR device has none. -/
def State.retireBlock (s : State) (d v j : Nat) : Option State :=
  if !s.vaultNand v then none
  else match s.spares v with
    | [] => none
    | p :: _ =>
      let old := s.physBlock v j
      some ((((s.takeSpare d v p).emit (.vaultCopy v old p)).mapBlock v j p).report d 0x4006 (vaultSource v))

/-- A write of the vault fails for good (R171). -/
def State.vaultStop (s : State) (d v : Nat) : State := s.report d 0x4004 (vaultSource v)

/-- Program bytes at a logical address. Each failure of the device retires the block and programs its spare; the answer is whether
the write went well, and the results that were not used (R171). -/
def State.vaultProgram (s : State) (d v addr : Nat) (bytes : List Byte) : List Bool → Bool × List Bool × State
  | [] => (true, [], s.emit (.vaultWrite v addr bytes))
  | true :: ws => (true, ws, s.emit (.vaultWrite v addr bytes))
  | false :: ws =>
    match (s.emit (.vaultWrite v addr bytes)).retireBlock d v (addr / s.vaultBlockBytes v) with
    | none => (false, ws, (s.emit (.vaultWrite v addr bytes)).vaultStop d v)
    | some s => s.vaultProgram d v addr bytes ws

/-- Erase logical blocks of a device, with the results of the erases in order (R171). -/
def State.eraseBlocks (s : State) (d v : Nat) : List Bool → List Nat → Bool × List Bool × State
  | [], _ => (true, [], s)
  | ws, [] => (true, ws, s)
  | true :: ws, _ :: js => s.eraseBlocks d v ws js
  | false :: ws, j :: js =>
    match s.retireBlock d v j with
    | none => (false, ws, s.vaultStop d v)
    | some s => s.eraseBlocks d v ws (j :: js)

/-- Erase the blocks of a span of logical addresses. -/
def State.eraseSpan (s : State) (d v : Nat) (x : Nat × Nat) (ws : List Bool) : Bool × List Bool × State :=
  let b := max 1 (s.vaultBlockBytes v)
  let first := x.1 / b
  let blocks := (List.range ((x.1 + x.2 + b - 1) / b - first)).map fun k => first + k
  (s.emit (.vaultErase v x.1 x.2)).eraseBlocks d v ws blocks

/-- A write for each device of a list; it goes well where each does. -/
def State.eachDev (s : State) (devs : List Nat) (ws : List Bool)
    (f : State → Nat → List Bool → Bool × List Bool × State) : Bool × List Bool × State :=
  devs.foldl (fun (a : Bool × List Bool × State) v =>
    let r := f a.2.2 v a.2.1
    (a.1 && r.1, r.2)) (true, ws, s)

/-! ## Vault refresh (R174) -/

/-- An SPI-NAND block moves: its pages go into a free spare, the map is updated, the old block is erased and returned to the pool. A
spare that fails to program, and an old block that fails to erase, are retired (R171, R174). -/
def State.moveBlock (s : State) (d v j : Nat) : List Bool → List Nat → State
  | _, [] => s.vaultStop d v
  | false :: ws, p :: rest => ((s.takeSpare d v p).report d 0x4006 (vaultSource v)).moveBlock d v j ws rest
  | ws, p :: _ =>
    let old := s.physBlock v j
    let s := (((s.takeSpare d v p).emit (.vaultCopy v old p)).mapBlock v j p).emit (.vaultBlockErase v old)
    if (ws.drop 1).headD true then
      s.modVault fun x => { x with freed := Tbl.set x.freed v (Tbl.get x.freed v [] ++ [old]) [] }
    else s.report d 0x4006 (vaultSource v)

/-- VAULT_READ (R173): up to three attempts, then up to three on the mirror. -/
def execVaultRead (d : DieId) (port dev : Bool) (addr : Nat) (attempts : VaultGet) (s : State) :
    Host.Outcome State Fault Refusal :=
  .next (s.when (s.live d.val) fun s => (s.vaultGet d.val (vaultDev port dev) addr attempts).2)

/-- A NOR sector is rewritten in place from the mirror: erased, then programmed (R174). -/
def State.rewriteSector (s : State) (d v j : Nat) (ws : List Bool) : State :=
  let s := (s.emit (.vaultErase v (4096 * j) 4096)).emit (.vaultCopy v j j)
  if (ws.take 2).all id then s else s.vaultStop d v

/-- VAULT_REFRESH (R174): a weak block moves to a spare, or is rewritten in place from the mirror; a device on VLT1 takes no access
while die 1 is lost (Table 7.4). -/
def execVaultRefresh (d : DieId) (port dev : Bool) (block : Nat) (writes : List Bool) (s : State) :
    Host.Outcome State Fault Refusal :=
  let v := vaultDev port dev
  let k : Nat × Nat := (v, block)
  let weak := (s.die d.val).care.weak.any fun x => decide (x = k)
  .next (s.when (s.live d.val && s.bound d.val && weak && (!port || s.reached 1)) fun s =>
    let done := s.modCare d.val fun c => { c with weak := c.weak.filter fun x => decide (x ≠ k) }
    if s.vaultNand v then done.moveBlock d.val v block writes (done.spares v)
    else if s.flag Fld.MC_VCFG_MIRROR v then done.rewriteSector d.val v block writes
    else s)

/-! ## Areas and sealed units (R176 to R178) -/

/-- The health-log area of a die, or its journal's: logical address and length, as the directory gives them (R178). -/
def State.vaultArea (s : State) (d : Nat) (journal : Bool) : Nat × Nat :=
  let o := 8 * d + 0x40 * b2n journal
  (ofBe (sliceB s.vault.directory o 4), ofBe (sliceB s.vault.directory (o + 4) 4))

/-- Places of 4 KiB in an area, one sealed unit each (notes/assumptions/143.md). -/
def State.places (s : State) (d : Nat) (journal : Bool) : Nat := (s.vaultArea d journal).2 / 4096

/-- The devices that hold the sealed records: DEV 0 of VLT0, and its mirror (R178, R330, R332). -/
def State.recordDevs (s : State) : List Nat := if s.flag Fld.MC_VCFG_MIRROR 0 && s.reached 1 then [0, 2] else [0]

/-- The die writes sealed units: the vault is BOUND, and its key unit holds the sealing key (R176, R179, R324). -/
def State.canSeal (s : State) (d : Nat) : Bool := s.bound d && (s.sealKey d).isSome

/-- A sealed unit is written at a logical address (R176): its GEN, and how the write went. -/
def State.writeSealed (s : State) (d kind addr : Nat) (plain : List Byte) (ws : List Bool) : Nat × Bool × List Bool × State :=
  let g := s.nextGen d kind
  let key := (s.sealKey d).getD []
  (g.1, g.2.eachDev s.recordDevs ws fun s v ws => s.vaultProgram d v addr (sealUnit key d kind g.1 addr 0 plain) ws)

/-- Erase units of an area, and places in each. -/
def State.unitPlaces (s : State) : Nat := max 1 (s.vaultBlockBytes 0 / 4096)

/-- Erase unit u of an area. -/
def State.eraseUnit (s : State) (d : Nat) (journal : Bool) (u : Nat) (ws : List Bool) : Bool × List Bool × State :=
  let b := s.vaultBlockBytes 0
  let a := s.vaultArea d journal
  s.eachDev s.recordDevs ws fun s v ws => s.eraseSpan d v (a.1 + u * b, min b (a.2 - u * b)) ws

/-! ## The care journal (R193, R195) -/

/-- The plaintext of a journal entry: what it says (0 INTENT, 1 DONE, 2 FAILED), the channel, the target and the unit
(notes/assumptions/143.md). -/
def journalPlain (kind : Nat) (u : OpenUnit) : List Byte :=
  [BitVec.ofNat 8 kind, BitVec.ofNat 8 u.ch, BitVec.ofNat 8 (b2n u.twin), 0] ++ beBytes 4 u.base ++ beBytes 4 u.count

/-- A journal entry is committed: the next place of the die's journal, whose erase unit is erased first where the place is its first
one (R193). -/
def State.journal (s : State) (d kind : Nat) (u : OpenUnit) (ws : List Bool) : Bool × List Bool × State :=
  let n := max 1 (s.places d true)
  let p := Tbl.get s.vault.nextEntry d 0 % n
  let e : Bool × List Bool × State :=
    if p % s.unitPlaces = 0 then s.eraseUnit d true (p / s.unitPlaces) ws else (true, ws, s)
  if !e.1 then e
  else
    let r := e.2.2.writeSealed d 3 ((s.vaultArea d true).1 + 4096 * p) (journalPlain kind u) e.2.1
    let s := r.2.2.2.emit (.journal d r.1 kind u.ch u.base u.twin)
    (r.2.1, r.2.2.1, s.modVault fun x => { x with nextEntry := Tbl.set x.nextEntry d ((p + 1) % n) 0 })

/-! ## The health log (R182, R183) -/

/-- The 16 bytes of a health record (Table 5.2). -/
def Health.bytes (h : Health) : List Byte :=
  beBytes 5 h.writtenOt ++ beBytes 3 h.erases ++ beBytes 4 h.reads ++ beBytes 2 h.scrubD ++
    [BitVec.ofNat 8 (h.eccLast % 4),
     BitVec.ofNat 8 (b2n (decide (h ≠ Health.absent)) + 2 * b2n h.assumed + 4 * b2n h.failed + 8 * b2n h.due +
       16 * min 15 h.recoveries)]

/-- The granules of a health page. -/
def pageGranules (first : Nat) : List Nat := (List.range 251).map fun k => first + k

/-- The first granule of the page of a granule. -/
def pageFirst (g : Nat) : Nat := g / 251 * 251

/-- A health page: its header, and the 251 records from its first granule; a granule of no region has none (R180, R183). -/
def State.healthPage (s : State) (n first : Nat) : List Byte :=
  beBytes 4 n ++ beBytes 4 first ++ List.replicate 8 0 ++
    (pageGranules first).flatMap fun g => ((s.recordAt n g).getD Health.absent).bytes

/-- The records of a page that exist, as the log keeps them. -/
def State.pageRecords (s : State) (n first : Nat) : List (Nat × Health) :=
  (pageGranules first).filterMap fun g => (s.recordAt n g).map fun h => (g, { h with dirty := false })

/-- A page is still the newest for its granules (R183). -/
def newestPage (l : List HealthPage) (p : HealthPage) : Bool :=
  l.all fun q => decide (q.ch ≠ p.ch) || decide (q.first ≠ p.first) || decide (q.gen ≤ p.gen)

/-- The pages of a die's log. -/
def State.pages (s : State) (d : Nat) : List HealthPage := Tbl.get s.vault.pages d []

/-- Append a page at the next place of the die's log. -/
def State.writePage (s : State) (d n first : Nat) (ws : List Bool) : Bool × List Bool × State :=
  let p := Tbl.get s.vault.nextPage d 0
  let r := s.writeSealed d 2 ((s.vaultArea d false).1 + 4096 * p) (s.healthPage n first) ws
  let page : HealthPage := { slot := p, gen := r.1, ch := n, first := first, records := s.pageRecords n first }
  let s := r.2.2.2.emit (.healthPage d r.1 (s.healthPage n first))
  let next := (p + 1) % max 1 (s.places d false)
  (r.2.1, r.2.2.1, s.modVault fun x =>
    { x with nextPage := Tbl.set x.nextPage d next 0
             pages := if r.2.1 then Tbl.set x.pages d (Tbl.get x.pages d [] ++ [page]) [] else x.pages })

/-- Append pages in order. -/
def State.writePages (s : State) (d : Nat) (l : List (Nat × Nat)) (ws : List Bool) : Bool × List Bool × State :=
  l.foldl (fun (a : Bool × List Bool × State) p =>
    let r := a.2.2.writePage d p.1 p.2 a.2.1
    (a.1 && r.1, r.2)) (true, ws, s)

/-- Erase unit u of a die's log, whose pages are then gone. -/
def State.dropUnit (s : State) (d u : Nat) (ws : List Bool) : Bool × List Bool × State :=
  let r := s.eraseUnit d false u ws
  let per := s.unitPlaces
  (r.1, r.2.1, r.2.2.modVault fun x =>
    { x with pages := Tbl.set x.pages d ((Tbl.get x.pages d []).filter fun p => decide (p.slot / per ≠ u)) [] })

/-- Make room at the next place (R183). Where it begins an erase unit, the unit behind it, which is the oldest, is cleared: its pages
that are still the newest are appended again, and then it is erased. An area of one erase unit has no other place for them: they are
written again behind the erase (notes/assumptions/143.md). -/
def State.logRoom (s : State) (d : Nat) (ws : List Bool) : Nat → Bool × List Bool × State
  | 0 => (true, ws, s)
  | k + 1 =>
    let per := s.unitPlaces
    let units := s.places d false / per
    let p := Tbl.get s.vault.nextPage d 0
    let u := if units < 2 then 0 else (p / per + 1) % units
    let old := (s.pages d).filter fun x => decide (x.slot / per = u)
    if p % per ≠ 0 ∨ old = [] ∨ (units < 2 ∧ p ≠ 0) then (true, ws, s)
    else
      let live := (old.filter (newestPage (s.pages d))).map fun x => (x.ch, x.first)
      if units < 2 then
        let e := s.dropUnit d u ws
        if e.1 then e.2.2.writePages d live e.2.1 else e
      else
        let r := s.writePages d live ws
        let e := r.2.2.dropUnit d u r.2.1
        if r.1 && e.1 then e.2.2.logRoom d e.2.1 k else (false, e.2)

/-- A changed page is appended, and its records are in the log then (R182, R183). -/
def State.flushPage (s : State) (d n first : Nat) (ws : List Bool) : List Bool × State :=
  let m := s.logRoom d ws (s.places d false)
  let r := m.2.2.writePage d n first m.2.1
  let clean (p : Nat × Health) : Nat × Health :=
    if decide (p.1 / 2 ^ 20 = n) && decide (pageFirst (p.1 % 2 ^ 20) = first) then (p.1, { p.2 with dirty := false }) else p
  (r.2.1, if m.1 && r.1 then r.2.2.modCare d fun c => { c with health := c.health.map clean } else r.2.2)

/-- The pages of a die that hold a dirty record, as channel and first granule. -/
def State.dirtyPages (s : State) (d : Nat) : List (Nat × Nat) :=
  (((s.die d).care.health.filter fun p => p.2.dirty).map fun p => (p.1 / 2 ^ 20, pageFirst (p.1 % 2 ^ 20))).eraseDups

/-- The die writes its tally to its health log (R182). A page whose write fails for good stays in the tally. -/
def State.flushTally (s : State) (d : Nat) (ws : List Bool) : State :=
  let s := s.modCare d fun c => { c with flushOt := s.ot }
  let r := (s.dirtyPages d).foldl (fun (a : List Bool × State) p => a.2.flushPage d p.1 p.2 a.1) (ws, s)
  (r.2.setF Fld.MC_STATUS_TALLY d (r.2.dirty d)).count d 0x355 1

/-- A die may write its health log: it writes sealed units, and the directory names an area for it (R178, R179). -/
def State.canFlush (s : State) (d : Nat) : Bool := s.canSeal d && decide (0 < s.places d false)

/-- TALLY_FLUSH (R182): the interval has passed, or 3,584 records are dirty; only while the vault is BOUND (R179). -/
def execTallyFlush (d : DieId) (s : State) (writes : List Bool := []) : Host.Outcome State Fault Refusal :=
  .next (s.when (s.live d.val && s.canFlush d.val &&
      (decide (s.getF Fld.MC_CTRL_FLUSH_S d.val ≤ s.ot - (s.die d.val).care.flushOt) ||
        decide (3584 ≤ s.dirty d.val))) fun s => s.flushTally d.val writes)

/-! ## The start of media care (R170, R177, R178, R183, R195) -/

/-- MC_STATUS.VAULT by what the first 4 KiB of the directory's place show (R178). -/
def State.vaultState (s : State) (unit : Option (List Byte)) : Nat × List Byte :=
  match unit with
  | none => (0, [])
  | some b =>
    if b.all fun x => decide (x = 0xFF) then (1, [])
    else match s.sealKey 0 with
      | none => (2, [])
      | some key => match openUnit key 0 1 0 0 b with
        | some p => (3, p)
        | none => (2, [])

/-- The places of a die's sealed units that fail their tag, once each; `none` for the journal. -/
def brokenOf (x : VaultScan) (d : Nat) : List (Option Nat) :=
  (x.broken.filter fun p => decide (p.1.val = d)).map fun p => p.2

/-- The index of a die's health log: the records of the newest page of each group of granules whose seal holds (R183). -/
def State.logIndex (s : State) (d : Nat) (broken : List (Option Nat)) : Tbl Health :=
  let good := (s.pages d).filter fun p => !broken.any fun b => decide (b = some p.slot)
  (good.filter (newestPage good)).foldl (fun t p =>
    p.records.foldl (fun t r => Tbl.set t (healthKey p.ch r.1) r.2 Health.absent) t) []

/-- The open entry of a die's journal (R195): JOURNAL_OPEN, MC_JOPEN and 0x400A. -/
def State.openJournal (s : State) (d : Nat) (x : Intent) : State :=
  let u : OpenUnit := { ch := 8 * d + x.ch.val, base := x.base, count := x.count, twin := x.twin }
  let s := s.modCare d fun c => { c with journal := some u }
  let s := (s.setFlag Fld.MC_STATUS_JOURNAL_OPEN d true).setF Fld.MC_JOPEN_GRANULE d x.base
  let s := (s.setF Fld.MC_JOPEN_CHANNEL d x.ch.val).setFlag Fld.MC_JOPEN_TARGET d x.twin
  (s.setFlag Fld.MC_JOPEN_VALID d true).report d 0x400A (0x40 * x.ch.val)

/-- What the start of media care sets on a die. -/
def State.careStart (s : State) (d vault : Nat) (scan : VaultScan) (gens : List (DieId × Nat × Nat)) (intents : List Intent) : State :=
  let found (kind : Nat) : Nat := (gens.filter fun g => decide (g.1.val = d) && decide (g.2.1 = kind)).foldl
    (fun a g => max a g.2.2) 0
  let s := (s.setF Fld.MC_STATUS_VAULT d vault).modCare d fun c =>
    { c with started := true
             gens := Tbl.set (Tbl.set (Tbl.set c.gens 1 (found 1 + 65536) 0) 2 (found 2 + 65536) 0) 3 (found 3 + 65536) 0 }
  if vault ≠ 3 then s
  else
    let broken := brokenOf scan d
    let s := s.forEach (List.range broken.length) fun s _ => s.report d 0x400B 0
    let index := s.logIndex d broken
    let s := s.modCare d fun c => { c with health := index }
    match intents.find? fun x => decide (x.die.val = d) with
    | none => s
    | some x => s.openJournal d x

/-- The directory is read, where a device is declared (R173, R178). -/
def State.readDirectory (s : State) (d : Nat) (directory : VaultGet) : Option (List Byte) × State :=
  if s.getF Fld.MC_VCFG_TYPE 0 = 0 then (none, s)
  else
    let r := s.vaultGet d 0 0 directory
    (r.1.map fun b => sliceB b 0 4096, r.2)

/-- VAULT_DIRECTORY_READ (R178): each die that has started since its last reset learns the state of the vault; the first of them reads
it, and the maps of the devices. -/
def execVaultDirectoryRead (directory : VaultGet) (scan : VaultScan) (gens : List (DieId × Nat × Nat)) (intents : List Intent)
    (s : State) : Host.Outcome State Fault Refusal :=
  let ds := numsBelow s.nDies fun d => s.live d && !(s.die d).care.started
  .next (s.when (s.platLive && decide (ds ≠ [])) fun s =>
    let s := scan.maps.foldl State.readMap s
    let r := s.readDirectory (ds.headD 0) directory
    let x := r.2.vaultState r.1
    let s := if x.1 = 3 then r.2.modVault fun y => { y with directory := x.2 } else r.2
    s.forEach ds fun s d => s.careStart d x.1 scan gens intents)

end Sys2Proof.Machine
end

