-- ==== Sys2Proof/Machine/MediaCare.lean ====
section
/-! DEFINITION. The media-care commands (05): scrubbing, refresh and recovery of care units, TWIN_CHECK and the care registers (R184
to R197). -/

namespace Sys2Proof.Machine

/-! ## Scrubbing (R186 to R188) -/

/-- The cursor advances; behind the last block a pass ends, with it a scrub of the whole region (R190). The next begins one period
after this one did, or at once where that has passed (notes/assumptions/144.md). -/
def State.advance (s : State) (r : Nat) : State :=
  let c := s.getF Fld.CR_STATE_CURSOR r + 1
  if c < s.regionCount r then s.setF Fld.CR_STATE_CURSOR r c
  else
    let began := Tbl.get (s.die (r / 32)).care.passOt r 0
    let next := max s.ot (began + 3600 * s.getF Fld.CR_SCRUB_PERIOD_H r)
    (s.newPass r).modCare (r / 32) fun c =>
      { c with passOt := Tbl.set c.passOt r next 0, scrubAll := c.scrubAll.filter fun x => decide (x ≠ r) }

/-- The vault device of a region's golden copy (R185). -/
def State.goldenDev (s : State) (r : Nat) : Nat := 2 * s.getF Fld.CR_CFG_GPORT r + s.getF Fld.CR_CFG_GDEV r

/-- Logical address of golden block i of a region (R185). -/
def State.goldenAddr (s : State) (r i : Nat) : Nat := (s.rd .CR_GADDR r).toNat + 4096 * i

/-- The golden block of a leaf is read (R185). -/
def State.goldenGet (s : State) (r leaf : Nat) (l : VaultGet) : Option (List Byte) × State :=
  let x := s.vaultGet (r / 32) (s.goldenDev r) (s.goldenAddr r leaf) l
  (x.1.map fun b => sliceB b 0 4096, x.2)

/-- A golden block or a path group failed in a scrub step: repaired from the mirror by vault refresh, or 0x4002 for the region
(R188). -/
def State.scrubRepair (s : State) (r n v addr : Nat) : State :=
  let d := r / 32
  if s.flag Fld.MC_VCFG_MIRROR v ∧ s.bound d then s.vaultWeak d v addr else s.mcFault d (r % 32) n 0x4002

/-- Fetch the groups of a leaf's path from the vault, top level first, and check each against the trusted cached copy (R186). A group
without a trusted copy fails the path with 0x3002, once; one whose primary copy failed is repaired (R188). -/
def State.scrubPath (s : State) (r t leaf : Nat) : List Nat → List GroupFetch → Bool × State
  | [], _ => (true, s)
  | l :: rest, fs =>
    let d := r / 32
    let i := d * 256 + t
    let k := leaf / 8 ^ (l + 1)
    let addr := groupAddr (s.rd .TD_VADDR i).toNat (s.getF Fld.TD_LEAVES_LEAF_COUNT i) l k
    let x := s.groupFetch d t l k (fs.headD {})
    if x.1.ok then
      (if x.1.mirror then x.2.scrubRepair r (s.regionCh r) (s.treeDev i) addr else x.2).scrubPath r t leaf rest fs.tail
    else
      let s := if x.1.twice then x.2 else x.2.witFault d t (s.regionCh r) 0x3002
      (false, s.scrubRepair r (s.regionCh r) (s.treeDev i) addr)

/-- The fresh copy of a passed block replaces its VERIFIED slot (R188). -/
def State.freshCopy (s : State) (n g : Nat) (blk : List Byte) : State :=
  match s.slot n g with
  | some x => if x.st = .verified then s.putSlot { x with own := blk, host := [] } else s
  | none => s

/-- The golden block of a step, read and then verified (R185, R186, R188). -/
def State.goldenCheck (s : State) (r t leaf : Nat) (got : Option (List Byte)) (h : LaneRun) : State :=
  let x : Bool × State := match got with
    | some b => s.leafCheck (r / 32) t leaf b h
    | none => (false, s)
  if x.1 then x.2 else x.2.scrubRepair r (s.regionCh r) (s.goldenDev r) (s.goldenAddr r leaf)

/-- The ECC field of a region's status feature (CR_OPS2.ECC_LSB). -/
def State.eccField (s : State) (r : Nat) (status : Byte) : Nat := bitsOf status.toNat (s.getF Fld.CR_OPS2_ECC_LSB r) 2

/-- The read of the ECC field, on a region with NAND_ECC = 1: an own frame of STAT_OP at CR_OPS2.FEAT (R186). -/
def State.eccFrame (s : State) (r : Nat) (sel : Bool) : OwnOpen :=
  { op := s.getF Fld.CR_OPS_STAT_OP r, sel := sel, addr := s.getF Fld.CR_OPS2_FEAT r, write := false, poll := false }

/-- A step's read of the block: `some` verdict of its leaf, once the path is trusted (R148, R186, R188). -/
def State.scrubVerdict (s : State) (n g d t leaf : Nat) (read : OwnRead) : State :=
  let s := s.count d 0x320 1
  let blk := sliceB read.data 0 4096
  let x := if read.failed then (false, s) else s.leafCheck d t leaf blk read.hash
  if x.1 then (x.2.freshCopy n g blk).laterPass n g else x.2.leafFail n g t

/-- One scrub step of region r (as 32 × die + region), R186 and R188; its block is in a FETCH slot, which ends with the step. -/
def State.scrubStep (s : State) (r : Nat) (read : OwnRead) (path : List GroupFetch) (golden colophon : VaultGet)
    (goldenHash : LaneRun) (status : Byte) : State :=
  let d := r / 32
  let t := s.getF Fld.CR_CFG_TREE r
  let i := d * 256 + t
  let n := s.regionCh r
  let leaf := s.getF Fld.CR_STATE_CURSOR r
  let g := s.regionBase r + leaf
  let sel := s.flag Fld.CH_TWIN_SEL n
  let s := if leaf = 0 then (s.vaultGet d (s.treeDev i) (s.rd .TD_CADDR i).toNat colophon).2 else s
  let s := (((s.count d 0x350 1).count d 0x326 1).readForHash n g sel read).dropLines n t leaf read.lines
  let p := s.scrubPath r t leaf (List.range (s.getF Fld.TD_STATE_DEPTH i)).reverse path
  let vaulted := decide (s.getF Fld.CR_CFG_SOURCE r % 2 = 1)
  let got := if vaulted then p.2.goldenGet r leaf golden else (none, p.2)
  let s := got.2
  let s :=
    if !p.1 then s.leafNodeFail n g t
    else
      let s := if vaulted then s.goldenCheck r t leaf got.1 goldenHash else s
      s.scrubVerdict n g d t leaf read
  let nand := s.flag Fld.CR_CFG_NAND_ECC r
  let s := if nand then s.ownFrame n (s.eccFrame r sel) [] else s
  let ecc := s.eccField r status
  let s := s.touch n g fun h =>
    { h with scrubD := s.ot / 86400 % 2 ^ 16, eccLast := if nand then ecc else h.eccLast }
  let s := if nand ∧ s.getF Fld.CR_OPS2_ECC_REF r ≤ ecc ∧ !(s.health n g).due then s.makeDue r n g else s
  s.advance r

/-- The region is scrubbed whole, because its queue overflowed (R190). -/
def State.scrubsAll (s : State) (r : Nat) : Bool := mem r (s.die (r / 32)).care.scrubAll

/-- The next step of a region is due: PERIOD_H × 3,600 s ÷ its block count after the one before it, block 0 when the pass begins
(R186); of a region that is scrubbed whole, at once. -/
def State.scrubDue (s : State) (r : Nat) : Bool :=
  let period := s.getF Fld.CR_SCRUB_PERIOD_H r
  let began := Tbl.get (s.die (r / 32)).care.passOt r 0
  s.scrubsAll r || (decide (period ≠ 0) && s.flag Fld.MC_CTRL_SCRUB_EN (r / 32) &&
    decide (began * s.regionCount r + s.getF Fld.CR_STATE_CURSOR r * 3600 * period ≤ s.ot * s.regionCount r))

/-- SCRUB_LATE (R187): a pass has not completed within twice PERIOD_H; once per pass. -/
def execScrubLate (d : DieId) (r : RegionId) (s : State) : Host.Outcome State Fault Refusal :=
  let i := d.val * 32 + r.val
  let c := (s.die d.val).care
  .next (s.when (s.live d.val && s.flag Fld.CR_CFG_VALID i && s.flag Fld.CR_CFG_TREE_EN i &&
      decide (s.getF Fld.CR_SCRUB_PERIOD_H i ≠ 0) && s.flag Fld.MC_CTRL_SCRUB_EN d.val &&
      decide (2 * 3600 * s.getF Fld.CR_SCRUB_PERIOD_H i ≤ s.ot - Tbl.get c.passOt i 0) && !mem i c.lates) fun s =>
    let s := s.modCare d.val fun c => { c with lates := c.lates ++ [i] }
    (s.setFlag Fld.CR_STATE_LATE i true).mcFault d.val r.val (s.regionCh i) 0x4008)

/-- REFRESH_DUE (R189): a block reaches its refresh age or its read limit. -/
def execRefreshDue (d : DieId) (r : RegionId) (block : Nat) (s : State) : Host.Outcome State Fault Refusal :=
  let i := d.val * 32 + r.val
  let n := s.regionCh i
  let g := s.regionBase i + block
  let h := s.health n g
  let age := s.getF Fld.CR_REFRESH_AGE_D i
  let k := s.getF Fld.CR_REFRESH_READ_K i
  .next (s.when (s.live d.val && s.inRegion i n g && !h.due &&
      ((decide (age ≠ 0) && decide (age * 86400 ≤ s.ot - h.writtenOt)) ||
        (decide (k ≠ 0) && decide (k * 1000 ≤ h.reads)))) fun s => s.makeDue i n g)

/-! ## Unit operations (R190 to R196) -/

/-- The select a unit's frames go to. -/
def State.unitSel (s : State) (u : CareUnit) : Bool := s.flag Fld.CH_TWIN_SEL u.ch != u.twin

/-- The opcodes a unit needs (R193, R473). -/
def State.unitOps (s : State) (u : CareUnit) : List Nat :=
  let r := u.region
  [s.ownReadOp u.ch, s.getF Fld.CR_OPS_WREN_OP r, s.getF Fld.CR_OPS_PROG_OP r, s.getF Fld.CR_OPS_ERASE_OP r,
   s.getF Fld.CR_OPS_STAT_OP r] ++ (if s.getF Fld.CR_CFG_UNIT r = 3 then [s.getF Fld.CR_OPS2_EXEC_OP r] else [])

/-- The tree block of a granule holds a VERIFIED galley copy. -/
def State.galleyCopy (s : State) (n g : Nat) : Option (List Byte) :=
  match s.slot n g with
  | some x => if x.st = .verified then some x.block else none
  | none => none

/-- A witnessed block has a source other than the flash that is written (R193, step 1; R196). -/
def State.hasSource (s : State) (u : CareUnit) (g : Nat) : Bool :=
  let src := s.getF Fld.CR_CFG_SOURCE u.region
  (s.galleyCopy u.ch g).isSome || decide (src % 2 = 1) ||
  (if u.twin then !(s.health u.ch g).failed else decide (2 ≤ src))

/-- A block of a unit has no source that can be proven (R136, R193, step 1). -/
def State.sourceless (s : State) (u : CareUnit) (g : Nat) : Bool :=
  match s.witnessed u.region g with
  | some (t, _) => decide (s.getF Fld.TD_STATE_STATE (u.ch / 8 * 256 + t) ≠ 2) || !s.hasSource u g
  | none => false

/-- The first refusal of a unit operation (R193, step 1; R473). A die whose key unit has lost the sealing key can commit no journal
entry, as where the vault is not BOUND (notes/assumptions/143.md). -/
def State.unitRefusal (s : State) (u : CareUnit) : Option Nat :=
  let gs := s.unitGranules u
  if !s.canSeal (u.ch / 8) then some 6
  else if gs.any (s.sourceless u) then some 2
  else if !s.flag Fld.CR_CFG_UNW_OK u.region ∧ gs.any (fun g => (s.witnessed u.region g).isNone) then some 7
  else if (s.unitOps u).any fun op => s.ownUnknown u.ch op then some 5
  else none

/-- The unit may be written now (R71, R192) and is covered (R191). -/
def State.unitMay (s : State) (u : CareUnit) : Bool :=
  let n := u.ch
  let st := s.getF Fld.CH_STATUS_STATE_EFF n
  s.reached (n / 8) && (s.ch n).own.isNone &&
  (decide (st = 1) || (decide (st = 2) && !s.flag Fld.CH_STATUS_FRAME_OPEN n && (s.clientHeld n ||
    (s.flag Fld.CR_CFG_WRITE_WHEN u.region && s.ownGap n)))) &&
  s.covered n (s.unitGranules u)

/-- The journal entry of a unit. -/
def State.openUnit (s : State) (u : CareUnit) : OpenUnit :=
  { ch := u.ch, base := u.base, count := (s.unitGranules u).length, twin := u.twin }

/-! ### Sources (R193, steps 3 and 4) -/

/-- An own read of a witnessed block, verified as its leaf: the bytes where it passes. -/
def State.flashSource (s : State) (n g t leaf : Nat) (sel : Bool) (r : OwnRead) (path : List GroupFetch) :
    Option (List Byte) × State :=
  let d := n / 8
  let blk := sliceB r.data 0 4096
  let s := ((s.readForHash n g sel r).dropLines n t leaf r.lines).bringPath d t leaf path
  if r.failed then (none, s)
  else
    let x := s.leafCheck d t leaf blk r.hash
    (if x.1 then some blk else none, x.2)

/-- The golden block as a source (R185). -/
def State.goldenSource (s : State) (r t leaf : Nat) (l : VaultGet) (h : LaneRun) (path : List GroupFetch) :
    Option (List Byte) × State :=
  let x := s.goldenGet r leaf l
  match x.1 with
  | none => (none, x.2)
  | some b =>
    let y := (x.2.bringPath (r / 32) t leaf path).leafCheck (r / 32) t leaf b h
    (if y.1 then some b else none, y.2)

/-- The first source of a list that gives bytes; those before it are tried. -/
def firstSource (l : List (State → Option (List Byte) × State)) (s : State) : Option (List Byte) × State :=
  l.foldl (fun a f => if a.1.isSome then a else f a.2) (none, s)

/-- The bytes for block k of the unit, granule g (R193, step 4; R196): a VERIFIED galley slot; the working flash, for a block not
marked FAILED; the golden block; the twin, where it is not what is written. An unwitnessed block takes the working flash's own. -/
def State.unitSource (s : State) (u : CareUnit) (run : CareRun) (k g : Nat) : Option (List Byte) × State :=
  let n := u.ch
  let sel := s.flag Fld.CH_TWIN_SEL n
  let flash := run.flash.getD k { data := [] }
  match s.witnessed u.region g with
  | none =>
    if s.selRefused n sel then (none, s)
    else (if flash.failed then none else some (sliceB flash.data 0 4096), s.ownBlock n sel g flash)
  | some (t, leaf) => match s.galleyCopy n g with
    | some b => (some b, s)
    | none =>
      let src := s.getF Fld.CR_CFG_SOURCE u.region
      let path := run.paths.getD k []
      let own (on sel : Bool) (r : OwnRead) (s : State) : Option (List Byte) × State :=
        if !on || s.selRefused n sel then (none, s) else s.flashSource n g t leaf sel r path
      let golden (s : State) : Option (List Byte) × State :=
        if src % 2 = 1 then s.goldenSource u.region t leaf (run.golden.getD k []) (run.goldenHash.getD k {}) path else (none, s)
      firstSource [own (!(s.health n g).failed) sel flash, golden,
        own (decide (2 ≤ src) && !u.twin) (!sel) (run.twin.getD k { data := [] })] s

/-- The sources of a unit, block by block. -/
def State.unitCopy (s : State) (u : CareUnit) (run : CareRun) : List (Option (List Byte)) × State :=
  ((s.unitGranules u).zipIdx).foldl (fun (a : List (Option (List Byte)) × State) p =>
    let r := a.2.unitSource u run p.2 p.1
    (a.1 ++ [r.1], r.2)) ([], s)

/-! ### Erase, program and read back (R193, steps 6 to 8) -/

/-- Bytes of a program page (CR_CFG.PAGE). -/
def State.unitPage (s : State) (r : Nat) : Nat :=
  match s.getF Fld.CR_CFG_PAGE r with
  | 0 => 256
  | 1 => 512
  | 2 => 2048
  | _ => 4096

/-- An own frame that writes to the unit's select. -/
def State.unitFrame (s : State) (u : CareUnit) (op addr : Nat) (data : List Byte) : State :=
  s.ownEmit u.ch { op := op, sel := s.unitSel u, addr := addr, write := true, poll := false } data

/-- The polls behind an erase or a page: to the first that shows the flash idle, one not listed doing so. `true` where none shows a
failure (R193, steps 6, 7 and 9). -/
def State.unitPolls (s : State) (u : CareUnit) (l : List Byte) : Bool × State :=
  let r := u.region
  let busy (b : Byte) : Bool := bitOf b.toNat (s.getF Fld.CR_OPS2_BUSY_BIT r)
  let bad (b : Byte) : Bool := s.flag Fld.CR_OPS2_PFAIL_EN r && bitOf b.toNat (s.getF Fld.CR_OPS2_PFAIL_BIT r)
  let polls := (l.takeWhile busy).length + 1
  (!(l.take polls).any bad,
    s.forEach (List.range polls) fun s _ => s.ownEmit u.ch (s.pollFrame r (s.unitSel u)) [])

/-- Step 6: the erase. -/
def State.unitErase (s : State) (u : CareUnit) (polls : List Byte) : Bool × State :=
  let s := s.unitFrame u (s.getF Fld.CR_OPS_WREN_OP u.region) 0 []
  let s := (s.unitFrame u (s.getF Fld.CR_OPS_ERASE_OP u.region) (u.base * 4096) []).countCh u.ch 0x38 1
  s.unitPolls u polls

/-- A program frame of a page whose run fails its check at point 11 is spoiled, and the page issued again: `fails` times (R202). -/
def State.spoiledPages (s : State) (u : CareUnit) (op addr : Nat) (data : List Byte) (fails : Nat) : State :=
  let n := u.ch
  let fe := spoilForm (s.getF Fld.CH_OWN_PROTO n) (s.shape n op)
  s.forEach (List.range fails) fun s _ =>
    ((s.unitFrame u op addr data).emit (.ownCut n (s.unitSel u) fe)).report (n / 8) 0x510B (n / 8)

/-- Step 7: a page, with the runs of the care buffer that meet errors on the way (R202, R203): write enable, program, on SPI-NAND
execute, and the polls. -/
def State.unitProgram (s : State) (u : CareUnit) (a : Nat) (data : List Byte) (errors : List RunErrors) (polls : List Byte) :
    Bool × State :=
  let n := u.ch
  let r := u.region
  let op := s.getF Fld.CR_OPS_PROG_OP r
  let s := s.unitFrame u (s.getF Fld.CR_OPS_WREN_OP r) 0 []
  let s := s.spoiledPages u op a data (runFails errors)
  if runLost errors then (false, s.report (n / 8) 0x520B (n / 8))
  else
    let s := ((s.unitFrame u op a data).countCh n 0x38 1).countCh n 0x32 data.length
    let s := if s.getF Fld.CR_CFG_UNIT r = 3 then s.unitFrame u (s.getF Fld.CR_OPS2_EXEC_OP r) a [] else s
    s.unitPolls u polls

/-- The pages of a unit, in order, until one fails. -/
def State.unitPages (s : State) (u : CareUnit) (bytes : List Byte) (c : CareRound) : Bool × State :=
  let page := s.unitPage u.region
  (List.range (bytes.length / page)).foldl (fun (a : Bool × State) k =>
    if !a.1 then a
    else
      let mine := c.out.filter fun x => decide (x.run * 128 / page = k)
      a.2.unitProgram u (u.base * 4096 + k * page) (sliceB bytes (k * page) page) mine (c.polls.getD (k + 1) [])) (true, s)

/-- Step 8: a block is read back; a witnessed one verifies, another equals the care buffer. -/
def State.readBack (s : State) (u : CareUnit) (g : Nat) (want : List Byte) (r : OwnRead) (path : List GroupFetch) : Bool × State :=
  let n := u.ch
  match s.witnessed u.region g with
  | some (t, leaf) =>
    let x := s.flashSource n g t leaf (s.unitSel u) r path
    (x.1.isSome, x.2)
  | none => (!r.failed && decide (sliceB r.data 0 4096 = want), s.ownBlock n (s.unitSel u) g r)

/-- One round of steps 6 to 8; `true` where it succeeded. Own frames to a select that R79 refuses do not take place, and the
round fails. -/
def State.unitRound (s : State) (u : CareUnit) (run : CareRun) (blocks : List (List Byte)) (c : CareRound) : Bool × State :=
  if s.selRefused u.ch (s.unitSel u) then (false, s)
  else
    let e := s.unitErase u (c.polls.headD [])
    if !e.1 then e
    else
      let p := e.2.unitPages u (blocks.flatMap fun b => b) c
      if !p.1 then p
      else ((p.2.unitGranules u).zipIdx).foldl (fun (a : Bool × State) x =>
        let r := a.2.readBack u x.1 (blocks.getD x.2 []) (c.readBack.getD x.2 { data := [] }) (run.paths.getD x.2 [])
        (a.1 && r.1, r.2)) (true, p.2)

/-! ### A unit operation -/

/-- Mark the blocks of a unit FAILED, with 0x4001 (R193, step 9). -/
def State.unitFails (s : State) (u : CareUnit) : State :=
  (s.forEach (s.unitGranules u) fun s g => s.touch u.ch g fun h => { h with failed := true }).mcFault (u.ch / 8)
    (u.region % 32) u.ch 0x4001

/-- Steps 5 to 9 over the blocks of the care buffer. A unit whose entry is open already is not entered again (R195); one whose INTENT
cannot be committed ends as a failed write (notes/assumptions/143.md). -/
def State.unitRewrite (s : State) (u : CareUnit) (run : CareRun) (blocks : List (List Byte)) : State :=
  let n := u.ch
  let d := n / 8
  let o := s.openUnit u
  let j := if (s.die d).care.journal = some o then (true, run.writes, s) else s.journal d 0 o run.writes
  if !j.1 then j.2.2.unitEnds d 3
  else
    let s := (j.2.2.modCare d fun c => { c with journal := some o }).markCh n
    let s := if u.twin then s else s.voidGranules n (s.unitGranules u)
    let r := s.unitRound u run blocks run.round1
    let r := if r.1 then r else r.2.unitRound u run blocks run.round2
    let s := r.2.modCare d fun c => { c with running := some (u, .written blocks r.1) }
    if u.twin then s
    else (s.setFlag Fld.CH_STATUS_BUSY_SHIELD n true).modCh n fun c => { c with shieldRegion := u.region }

/-- Steps 3 to 9 of a unit operation. A read of an unwitnessed block that failed its third attempt ends the unit as in step 9 (Table
6.3, point 4). -/
def State.unitWrite (s : State) (u : CareUnit) (run : CareRun) : State :=
  let d := u.ch / 8
  let x := s.unitCopy u run
  if x.1.all fun b => b.isSome then x.2.unitRewrite u run (x.1.map fun b => b.getD [])
  else
    let lost := ((s.unitGranules u).zip x.1).any fun p => (s.witnessed u.region p.1).isNone && p.2.isNone
    if lost then (x.2.unitFails u).unitEnds d 3 else x.2.unitEnds d 2

/-- A unit may begin: no journal entry of another unit is open (R195; notes/assumptions/143.md). -/
def State.journalAllows (s : State) (u : CareUnit) : Bool :=
  match (s.die (u.ch / 8)).care.journal with
  | some o => decide (o = s.openUnit u)
  | none => true

/-- The unit at the front of the queue becomes the running one, among those that may begin; `none` where there is none. -/
def State.nextUnit (s : State) (d : Nat) : Option (CareUnit × Bool × State) :=
  let c := (s.die d).care
  match c.running with
  | some (u, .waiting reported) => some (u, reported, s)
  | some (_, .written _ _) => none
  | none => match c.queue.find? s.journalAllows with
    | none => none
    | some u =>
      let s := s.modCare d fun c => { c with queue := c.queue.eraseP fun x => decide (x = u), running := some (u, .waiting false) }
      some (u, false, (s.setFlag Fld.MC_STATUS_BUSY d true).setF Fld.MC_STATUS_BUSY_REGION d (u.region % 32))

/-- The next queued unit runs up to its write, or waits (R193, step 2). -/
def State.runUnit (s : State) (d : Nat) (run : CareRun) : State :=
  match s.nextUnit d with
  | none => s
  | some (u, reported, s) =>
    match s.unitRefusal u with
    | some r => (if r = 5 then s.ownUnknownFault u.ch else s).unitEnds d r
    | none =>
      if s.unitMay u then (if s.canHash d then s.unitWrite u run else s)
      else if reported then s
      else (s.modCare d fun c => { c with running := some (u, .waiting true) }).mcFault d (u.region % 32) u.ch 0x4003

/-- A written block enters the galley VERIFIED, as sweep leaves do (R158, R193), and its re-verification is reported (R160). A block
written to the twin is no copy of the working flash, and ends no wait. -/
def State.unitVerified (s : State) (u : CareUnit) (g : Nat) (b : List Byte) : State :=
  match s.witnessed u.region g with
  | none => s
  | some (t, leaf) =>
    if u.twin then s
    else
      let x : Slot := { ch := u.ch, granule := g, tree := t, leaf := leaf, st := .verified, pinned := false, entry := false,
                        host := [], own := b, seq := none, sweep := none }
      let s := if (s.slot u.ch g).isSome then s.putSlot x
        else match s.takeSlot (u.ch / 8) with
          | some s => s.putSlot x
          | none => s
      s.recovered u.ch g

/-- The unit's journal entry closes with DONE or FAILED, and with it what MC_JOPEN shows of it (R193, R195). Where the entry cannot be
written, the INTENT stays open. -/
def State.closeJournal (s : State) (d kind : Nat) (u : CareUnit) (ws : List Bool) : State :=
  let j := s.journal d kind (s.openUnit u) ws
  if !j.1 then j.2.2
  else
    let s := j.2.2.modCare d fun c => { c with journal := none }
    (s.setFlag Fld.MC_JOPEN_VALID d false).setFlag Fld.MC_STATUS_JOURNAL_OPEN d false

/-- The records of a unit's own erase and program (Table 5.3); the records are of the working flash. -/
def State.unitRecords (s : State) (u : CareUnit) : State :=
  if u.twin then s
  else s.forEach (s.unitGranules u) fun s g => s.touch u.ch g fun h =>
    { h with erases := min (h.erases + 1) 0xFFFFFF, writtenOt := s.ot, reads := 0, failed := false, due := false,
             assumed := false, recoveries := if u.recovery then min 15 (h.recoveries + 1) else h.recoveries }

/-- Steps 9 and 10 of a unit operation. -/
def State.unitDone (s : State) (u : CareUnit) (blocks : List (List Byte)) (ok : Bool) (ws : List Bool) : State :=
  let d := u.ch / 8
  if ok then
    let s := ((s.closeJournal d 1 u ws).unitRecords u).count d (if u.recovery then 0x352 else 0x351) 1
    let s := ((s.unitGranules u).zipIdx).foldl (fun s p => s.unitVerified u p.1 (blocks.getD p.2 [])) s
    (s.unitEnds d 0).chReports u.ch
  else ((s.closeJournal d 2 u ws).unitFails u).unitEnds d 3

/-- CARE_UNIT_COMPLETE (R193, steps 9 and 10): once a status poll has shown the flash idle (R73). -/
def execCareUnitComplete (d : DieId) (s : State) (writes : List Bool := []) : Host.Outcome State Fault Refusal :=
  .next (s.when (s.live d.val) fun s =>
    match (s.die d.val).care.running with
    | some (u, .written blocks ok) =>
      if !u.twin && s.flag Fld.CH_STATUS_BUSY_SHIELD u.ch then s else s.unitDone u blocks ok writes
    | _ => s)

/-! ## When a scrub step runs (R187) -/

/-- A unit of a die is being written, or one could run now: a scrub step yields to it. -/
def State.unitFirst (s : State) (d : Nat) : Bool :=
  let c := (s.die d).care
  let ready (u : CareUnit) : Bool := s.journalAllows u && ((s.unitRefusal u).isSome || s.unitMay u)
  match c.running with
  | some (_, .written _ _) => true
  | some (u, .waiting _) => ready u
  | none => c.queue.any ready

/-- SCRUB_STEP (R186, R187): a due step of a valid region whose tree is ROOTED runs where an own frame may run, a FETCH slot and a
lane are to be had, no completion read of the channel and no care unit is pending, and the block is in no open unit; else it
waits. With an opcode of UNKNOWN shape no step runs (R473). -/
def execScrubStep (d : DieId) (r : RegionId) (read : OwnRead) (path : List GroupFetch) (golden colophon : VaultGet)
    (s : State) (goldenHash : LaneRun := {}) (status : Byte := 0) : Host.Outcome State Fault Refusal :=
  let i := d.val * 32 + r.val
  let t := d.val * 256 + s.getF Fld.CR_CFG_TREE i
  let n := s.regionCh i
  let g := s.regionBase i + s.getF Fld.CR_STATE_CURSOR i
  let o := s.ownReadOf n (s.flag Fld.CH_TWIN_SEL n) (g * 4096)
  let due := s.live d.val && s.flag Fld.CR_CFG_VALID i && s.flag Fld.CR_CFG_TREE_EN i && s.scrubDue i &&
    decide (s.getF Fld.TD_STATE_STATE t = 2)
  let unknown := s.ownUnknown n o.op ||
    (s.flag Fld.CR_CFG_NAND_ECC i && s.ownUnknown n (s.getF Fld.CR_OPS_STAT_OP i))
  let waits := !s.ownTurn n o || !s.canHash d.val || s.unitFill n g || s.unitFirst d.val ||
    (s.die d.val).slots.any fun x => decide (x.ch = n) && s.completes n x
  .next (s.when due fun s =>
    if unknown then s.ownUnknownFault n
    else if waits then s
    else if read.still then s.ownHold n o []
    else match s.takeSlot d.val with
      | none => s
      | some s => s.scrubStep i read path golden colophon goldenHash status)

/-! ## Commands (R197) -/

/-- A media-care command ends at once with a RESULT. -/
def State.careEnd (s : State) (d result : Nat) : State :=
  ((s.setFlag Fld.MC_CMD_STATUS_BUSY d false).setFlag Fld.MC_CMD_STATUS_DONE d true).setF Fld.MC_CMD_STATUS_RESULT d result

/-- The blocks a command names lie in its region. -/
def State.careArgs (s : State) (d r : Nat) : Bool :=
  let count := s.getF Fld.MC_ARG1_COUNT d
  decide (1 ≤ count) && decide (s.getF Fld.MC_ARG0_FIRST d + count ≤ s.regionCount r)

/-- RECOVER and REFRESH: queue every unit that holds one of the blocks (R193, R196). -/
def State.careQueue (s : State) (d r : Nat) (recovery twin : Bool) : State :=
  let n := s.regionCh r
  let first := s.regionBase r + s.getF Fld.MC_ARG0_FIRST d
  let size := max 1 (s.unitSize r)
  let base := s.unitBase r first
  let units := (first - base + s.getF Fld.MC_ARG1_COUNT d + size - 1) / size
  let s := (s.setFlag Fld.MC_CMD_STATUS_BUSY d true).setF Fld.MC_CMD_STATUS_RESULT d 0
  let s := s.forEach (List.range units) fun s k =>
    s.queueUnit d { region := r, ch := n, base := base + k * size, recovery := recovery, twin := twin, command := true }
  if s.commandUnits d then s else s.careEnd d 0

/-- A block of TWIN_CHECK passes: it is read from the twin and verifies as its leaf (R196). -/
def State.twinBlock (s : State) (r g : Nat) (x : OwnRead) (path : List GroupFetch) : Bool × State :=
  let n := s.regionCh r
  let sel := !s.flag Fld.CH_TWIN_SEL n
  match s.witnessed r g with
  | some (t, leaf) =>
    let y := s.flashSource n g t leaf sel x path
    (y.1.isSome, y.2)
  | none => (false, s.ownBlock n sel g x)

/-- TWIN_CHECK ends: TWIN_OK, and the command's status. -/
def State.twinEnds (s : State) (d r : Nat) (ok : Bool) : State :=
  ((s.modCare d fun c => { c with twinWait := none }).setFlag Fld.CR_STATE_TWIN_OK r ok).careEnd d 0

/-- TWIN_CHECK (R71, R79, R98, R196): where own frames to the twin are refused, no block passes; where they may not run now, or no
lane is in service, the command waits for a later care-unit step of the die (notes/assumptions/145.md). -/
def State.twinCheck (s : State) (d r first count : Nat) (reads : List OwnRead) (paths : List (List GroupFetch)) : State :=
  let n := s.regionCh r
  let sel := !s.flag Fld.CH_TWIN_SEL n
  if s.ownUnknown n (s.ownReadOp n) then
    ((s.modCare d fun c => { c with twinWait := none }).ownUnknownFault n).careEnd d 5
  else if s.selRefused n sel then s.twinEnds d r false
  else if (s.ch n).own.isSome || !s.ownMay n sel || !s.canHash d then
    (s.setFlag Fld.MC_CMD_STATUS_BUSY d true).modCare d fun c => { c with twinWait := some (r, first, count) }
  else
    let x := (List.range count).foldl (fun (a : Bool × State) k =>
      let b := a.2.twinBlock r (s.regionBase r + first + k) (reads.getD k { data := [] }) (paths.getD k [])
      (a.1 && b.1, b.2)) (true, s)
    x.2.twinEnds d r x.1

/-- CARE_UNIT (R193): a TWIN_CHECK that waits runs where it may now; then the next queued unit runs up to its write, or waits. -/
def execCareUnit (d : DieId) (run : CareRun) (s : State) : Host.Outcome State Fault Refusal :=
  .next (s.when (s.live d.val) fun s =>
    let s := match (s.die d.val).care.twinWait with
      | some (r, first, count) => s.twinCheck d.val r first count run.twin run.paths
      | none => s
    s.runUnit d.val run)

/-- What the outside returns to a command of media care: the reads of the twin with the groups they lack, and the results of the
vault's programs and erases. -/
structure CareInput where
  reads : List OwnRead := []
  paths : List (List GroupFetch) := []
  writes : List Bool := []
  deriving DecidableEq, Repr

/-- A write of MC_CMD (R197). -/
def State.writeMcCmd (s : State) (d : Nat) (v : Word) (x : CareInput) : State :=
  let k := Fld.MC_CMD_REGION.of v
  let r := d * 32 + k
  let twin := decide (Fld.MC_CMD_TARGET.of v = 1)
  if s.flag Fld.MC_CMD_STATUS_BUSY d then s.mcFault d k (s.regionCh r) 0x400C
  else
    let s := s.setF Fld.MC_CMD_STATUS_REGION d k
    let op := Fld.MC_CMD_OP.of v
    if op = 5 then if s.canFlush d then (s.flushTally d x.writes).careEnd d 0 else s.careEnd d 6
    else if op = 0 ∨ 5 < op then s.careEnd d 5
    else if !s.flag Fld.CR_CFG_VALID r then s.careEnd d 4
    else if op = 4 then (s.newPass r).careEnd d 0
    else if !s.careArgs d r then s.careEnd d 5
    else if op = 3 then s.twinCheck d r (s.getF Fld.MC_ARG0_FIRST d) (s.getF Fld.MC_ARG1_COUNT d) x.reads x.paths
    else if !s.canSeal d then s.careEnd d 6
    else s.careQueue d r (decide (op = 1)) twin

/-- An MC_CMD word with its OP field set. -/
def careWord (op : Nat) (v : Word) : Word := Fld.MC_CMD_OP.put v op

/-- RECOVER (R193). -/
def execRecover (req : Requester) (d : DieId) (value : Word) (s : State) : Host.Outcome State Fault Refusal :=
  .next (s.dieAccess req d.val fun s => s.writeMcCmd d.val (careWord 1 value) {})

/-- REFRESH (R193). -/
def execRefresh (req : Requester) (d : DieId) (value : Word) (s : State) : Host.Outcome State Fault Refusal :=
  .next (s.dieAccess req d.val fun s => s.writeMcCmd d.val (careWord 2 value) {})

/-- TWIN_CHECK (R196). -/
def execTwinCheck (req : Requester) (d : DieId) (value : Word) (reads : List OwnRead) (s : State)
    (paths : List (List GroupFetch) := []) : Host.Outcome State Fault Refusal :=
  .next (s.dieAccess req d.val fun s => s.writeMcCmd d.val (careWord 3 value) { reads := reads, paths := paths })

/-- SCRUB_RESTART (R197). -/
def execScrubRestart (req : Requester) (d : DieId) (value : Word) (s : State) : Host.Outcome State Fault Refusal :=
  .next (s.dieAccess req d.val fun s => s.writeMcCmd d.val (careWord 4 value) {})

/-- FLUSH (R182). -/
def execFlush (req : Requester) (d : DieId) (value : Word) (s : State) (writes : List Bool := []) :
    Host.Outcome State Fault Refusal :=
  .next (s.dieAccess req d.val fun s => s.writeMcCmd d.val (careWord 5 value) { writes := writes })

/-- The register of a care-region field. -/
def crRegName (r : CrReg) : RegName :=
  match r with
  | .cfg => .CR_CFG
  | .ops => .CR_OPS
  | .ops2 => .CR_OPS2
  | .base => .CR_BASE
  | .count => .CR_COUNT
  | .gaddr => .CR_GADDR
  | .scrub => .CR_SCRUB
  | .refresh => .CR_REFRESH
  | .endur => .CR_ENDUR
  | .state => .CR_STATE

/-- A write of a care-region register (R197): discarded while the region is busy or its units are queued. The granules that the region
comes to cover have records from then on (R180). -/
def State.writeCr (s : State) (d r : Nat) (reg : CrReg) (v : Word) : State :=
  let i := d * 32 + r
  let busy := (s.flag Fld.MC_STATUS_BUSY d && decide (s.getF Fld.MC_STATUS_BUSY_REGION d = r)) ||
    (s.die d).care.queue.any fun u => decide (u.region = i)
  if busy then s.mcFault d r (s.regionCh i) 0x400C
  else
    let was := s.flag Fld.CR_CFG_VALID i
    let v := match reg with
      | .gaddr => v &&& ~~~ 0xFFF#32
      | _ => v
    let s := s.swWrite (crRegName reg) i v
    let s := (if !was ∧ s.flag Fld.CR_CFG_VALID i then s.newPass i else s).makeRecords d
    let any := (s.die d).care.health.any fun p =>
      p.2.failed && s.inRegion i (p.1 / 2 ^ 20) (p.1 % 2 ^ 20)
    s.setFlag Fld.CR_STATE_FAILED_OPEN i any

/-- CARE_REGION_WRITE (R197). -/
def execCareRegionWrite (req : Requester) (d : DieId) (r : RegionId) (reg : CrReg) (value : Word) (s : State) :
    Host.Outcome State Fault Refusal :=
  .next (s.dieAccess req d.val fun s => s.writeCr d.val r.val reg value)

/-- A write of MC_CTRL: FLUSH_S below 60 stores 60 (R182). -/
def State.writeMcCtrl (s : State) (d : Nat) (v : Word) : State :=
  let s := s.swWrite .MC_CTRL d v
  s.setF Fld.MC_CTRL_FLUSH_S d (max 60 (s.getF Fld.MC_CTRL_FLUSH_S d))

end Sys2Proof.Machine
end

