-- ==== Sys2Proof/Machine/Rescue.lean ====
section
/-! DEFINITION. Rescue images (R277, R292, R385): what the mask ROM accepts, and the checks of a colophon, of tree groups and of
blocks that the mailbox's stream and a Ralver session share. -/

namespace Sys2Proof.Machine

/-- The mask ROM accepts a rescue image (R292): at any time in RAW and TEST, and during a both-slots-bad wait. -/
def State.rescueOpen (s : State) : Bool :=
  s.romRuns && s.boot.image.isNone && (decide (s.lc ≤ 1) || (decide (s.lc ≤ 4) && s.boot.inWait))

/-- The check fails or the transfer stops (R292): 0x6309, and the wait resumes. -/
def State.rescueFail (s : State) : State := (s.bootFault 2 0x6309).modBoot fun b => { b with rescue := none }

/-- The groups of a tree in the order of a stream: level DEPTH − 1 down to 0, each level in increasing order (R385). -/
def streamGroups (leaves : Nat) : List (Nat × Nat) :=
  ((List.range (depthOf leaves)).reverse).flatMap fun l =>
    (List.range (ceilDiv (levelSize leaves l) 8)).map fun k => (l, k)

/-- Change the transfer in progress. -/
def State.modRescue (s : State) (f : Rescue → Rescue) : State :=
  s.modBoot fun b => { b with rescue := b.rescue.map f }

/-- The colophon arrives (R292, step 1). -/
def State.rescueColophon (s : State) (c : List Byte) : State :=
  let mfg := decide (s.lc ≤ 1)
  let r := s.imageRefusal c none none mfg
  let s := s.coReads c mfg
  match r with
  | some _ => s.rescueFail
  | none => s.modRescue fun x => { x with colophon := c }

/-- A tree group arrives (R292, step 2): it is checked against its trusted parent. -/
def State.rescueGroup (s : State) (x : Rescue) (l k : Nat) (raw : List Byte) : State :=
  let n := coLeaves x.colophon
  let groups := x.groups ++ [(l, k, raw)]
  if (treeGroup n (coRoot x.colophon) groups (depthOf n - l) k).isSome then s.modRescue fun x => { x with groups := groups }
  else s.rescueFail

/-- Every block has passed: the ROM may hand over. -/
def State.rescueDone (s : State) (im : Image) : State :=
  let all := ((List.range s.nDies).map fun d => 2 ^ d).foldl (· + ·) 0
  let s := s.modBoot fun b => { b with image := some im, left := [], recopy := [] }
  s.setF Fld.BT_STATUS_DIE_DONE 0 all

/-- Block `leaf` arrives (R292, steps 3 and 4). -/
def State.rescueLeaf (s : State) (x : Rescue) (leaf : Nat) (b : List Byte) : State :=
  let n := coLeaves x.colophon
  let im := if leaf = 0 then some (imageOf 2 x.colophon b false 0) else x.image
  match im with
  | none => s.rescueFail
  | some im =>
    if !blockOk n (coRoot x.colophon) x.groups leaf b ∨ (leaf = 0 ∧ !sectionsOk s.nDies n true b) then s.rescueFail
    else
      let s := match copyAddr s.nDies im.sections 0 leaf with
        | some a => s.sramStore 0 a b
        | none => s
      let s := s.modRescue fun x => { x with image := some im }
      if leaf + 1 = n then s.rescueDone im else s

/-! ## The mailbox's stream (R385) -/

/-- Bytes of the unit that the stream is in: colophon, group slot, block. -/
def Rescue.unit (x : Rescue) : Nat :=
  if x.colophon = [] then 8192
  else if x.groups.length < (streamGroups (coLeaves x.colophon)).length then 512
  else 4096

/-- The units that the buffer completes are checked, in order; at most sixteen fit a chunk and what was left of one. -/
def State.rescueUnits (s : State) : Nat → State
  | 0 => s
  | fuel + 1 =>
    match s.boot.rescue with
    | none => s
    | some x =>
      let u := x.unit
      if x.buf.length < u ∨ s.boot.image.isSome then s
      else
        let b := x.buf.take u
        let s := s.modRescue fun y => { y with buf := y.buf.drop u }
        let n := coLeaves x.colophon
        let gs := streamGroups n
        let s := match u with
          | 8192 => s.rescueColophon b
          | 512 => match gs[x.groups.length]? with
            | some (l, k) => s.rescueGroup x l k b
            | none => s
          | _ => s.rescueLeaf x ((x.next - x.buf.length - 8192 - 512 * gs.length) / 4096) b
        s.rescueUnits fuel

/-- A chunk is accepted. -/
def State.rescueChunk (s : State) (chunk : List Byte) : State :=
  let x := s.boot.rescue.getD { next := 0, buf := [], colophon := [], groups := [], image := none, ralver := false }
  let us := s.us
  let s := s.modBoot fun b =>
    { b with rescue := some { x with since := us, next := x.next + chunk.length, buf := x.buf ++ chunk } }
  s.rescueUnits 16

end Sys2Proof.Machine
end

