-- ==== Sys2Proof/Machine/Rings.lean ====
section
/-! DEFINITION. The host interface (12): function pages, queue pairs and their contexts, doorbells, commands that the host
interface and firmware carry out, completions and the firmware inbox (R344 to R374, R442). -/

namespace Sys2Proof.Machine

/-! ## Pairs (R348 to R351) -/

/-- Change the host interface's state and show the number of ENABLED pairs (HI_STATUS.PAIRS). -/
def State.modHif (s : State) (f : Hif → Hif) : State :=
  let h := f s.hif
  ({ s with hif := h }).setF Fld.HI_STATUS_PAIRS 0 h.enabled.length

/-- Global number of pair q of function f. -/
def pairNo (f q : Nat) : Nat := 128 * f + q

/-- Function f is present: the PF, or an enabled VF (R346, R374). -/
def State.fnLive (s : State) (f : Nat) : Bool := decide (f = 0) || (s.hif.vfEnable && decide (f ≤ s.hif.numVfs))

/-- Pairs that a function may use (R348, HI_VF_CFG.QPMAX). -/
def State.qpMax (s : State) (f : Nat) : Nat :=
  if f = 0 then 128 else max 1 (min 128 (s.getF Fld.HI_VF_CFG_QPMAX f))

/-- A pair's context, where it is cached. -/
def State.pair (s : State) (p : Nat) : Option Pair := (s.hif.cache.find? fun x => decide (x.1 = p)).map Prod.snd

/-- Change a cached context. -/
def State.modPair (s : State) (p : Nat) (f : Pair → Pair) : State :=
  s.modHif fun h => { h with cache := h.cache.map fun x => if x.1 = p then (x.1, f x.2) else x }

/-- A pair is ENABLED. -/
def State.pairOn (s : State) (p : Nat) : Bool := mem p s.hif.enabled

/-- A ring size: 0 means 65,536. -/
def ringLen (n : Nat) : Nat := if n = 0 then 65536 else n

/-- A 0x8001 to 0x8003 or 0x8004 fault: SOURCE gives the function and the pair (R386). -/
def State.hiFault (s : State) (p code : Nat) : State := s.report 0 code (p / 128 + 256 * (p % 128))

/-- A pair enters ERROR (R356). -/
def State.pairError (s : State) (p code : Nat) : State :=
  let s := (s.modPair p fun x => { x with error := true, fetched := none }).hiFault p code
  if p % 128 = 0 then s.setFlag Fld.FN_ACTRL_ERROR (p / 128) true else s

/-- Words 0 to 14 of a context (Table 12.4). -/
def Pair.words (x : Pair) (p : Nat) : List Nat :=
  let flags := 1 + 2 * b2n x.error + 4 * b2n x.phase + 8 * b2n x.irqEn + 16 * b2n x.irqArmed + 2 ^ 5 * (x.vector % 32) +
    2 ^ 10 * (p / 128) + 2 ^ 18 * (p % 128)
  [x.sqBase % 2 ^ 32, x.sqBase / 2 ^ 32, x.cqBase % 2 ^ 32, x.cqBase / 2 ^ 32, x.sqSize + 2 ^ 16 * x.cqSize,
   x.sqHead + 2 ^ 16 * x.sqTail, x.cqTail + 2 ^ 16 * x.cqHead, flags, 0, 0, 0, 0, 0, 0, 0]

/-- A context as it lies in the backing area: 64 bytes, the last word its CRC-32C (R351). -/
def Pair.bytes (x : Pair) (p : Nat) : List Byte :=
  let b := (x.words p).flatMap fun w => leBytes 4 w
  b ++ leBytes 4 (crc32c b).toNat

/-- The context that sixteen words from the backing area spell; none where the check fails. -/
def pairOfWords (l : List Word) : Option Pair :=
  let w (i : Nat) : Nat := (l.getD i 0).toNat
  let b := (List.range 15).flatMap fun i => leBytes 4 (w i)
  if l.length < 16 ∨ (crc32c b).toNat ≠ w 15 then none
  else some
    { sqBase := w 0 + 2 ^ 32 * w 1, cqBase := w 2 + 2 ^ 32 * w 3, sqSize := bitsOf (w 4) 0 16, cqSize := bitsOf (w 4) 16 16,
      sqHead := bitsOf (w 5) 0 16, sqTail := bitsOf (w 5) 16 16, cqTail := bitsOf (w 6) 0 16, cqHead := bitsOf (w 6) 16 16,
      error := bitOf (w 7) 1, phase := bitOf (w 7) 2, irqEn := bitOf (w 7) 3, irqArmed := bitOf (w 7) 4,
      vector := bitsOf (w 7) 5 5, started := [], fetched := none, deleting := none }

/-- A context for a pair that is not to be trusted: only ERROR holds. -/
def Pair.broken : Pair :=
  { sqBase := 0, cqBase := 0, sqSize := 0, cqSize := 0, sqHead := 0, sqTail := 0, cqTail := 0, cqHead := 0, error := true,
    phase := true, irqEn := false, irqArmed := false, vector := 0, started := [], fetched := none, deleting := none }

/-- A pair with no command in flight may be evicted (R350). -/
def Pair.idle (x : Pair) : Bool := decide (x.started = []) && x.fetched.isNone && x.deleting.isNone

/-- The backing area's address. -/
def State.ctxBase (s : State) : Nat := (s.rd .HI_CTX_LO 0).toNat + 2 ^ 32 * (s.rd .HI_CTX_HI 0).toNat

/-- Make room for one context; none while every cached pair has a command in flight (R350). -/
def State.ctxRoom (s : State) : Option State :=
  if s.hif.cache.length < 2048 then some s
  else match s.hif.cache.reverse.find? fun x => x.2.idle with
    | some x => some ((s.modHif fun h => { h with cache := h.cache.filter fun y => decide (y.1 ≠ x.1) }).emit
        (.hostWrite (s.ctxBase + 64 * x.1) (x.2.bytes x.1)))
    | none => none

/-- Put a context at the front of the cache. -/
def State.ctxPut (s : State) (p : Nat) (x : Pair) : State :=
  s.modHif fun h => { h with cache := (p, x) :: h.cache.filter fun y => decide (y.1 ≠ p) }

/-! ## Doorbells (R354, R356, R358) -/

/-- An SQ tail doorbell of a cached pair. -/
def State.ringTail (s : State) (p t : Nat) : State :=
  match s.pair p with
  | none => s
  | some x =>
    if x.error ∨ x.deleting.isSome then s
    else if ringLen x.sqSize ≤ t then s.pairError p 0x8001
    else s.modPair p fun x => { x with sqTail := t }

/-- A CQ head doorbell of a cached pair. -/
def State.ringHead (s : State) (p h : Nat) : State :=
  match s.pair p with
  | none => s
  | some x =>
    let n := ringLen x.cqSize
    if x.error then s
    else if n ≤ h ∨ (x.cqTail + n - x.cqHead) % n < (h + n - x.cqHead) % n then s.pairError p 0x8001
    else s.modPair p fun x => { x with cqHead := h, irqArmed := true }

/-- Doorbells that a pair waits with. -/
def State.bell (s : State) (p : Nat) : Option Nat × Option Nat := Tbl.get s.hif.bells p (none, none)

/-- Replace them. -/
def State.setBell (s : State) (p : Nat) (b : Option Nat × Option Nat) : State :=
  s.modHif fun h => { h with bells := Tbl.set h.bells p b (none, none) }

/-- A doorbell write of function f (R354): discarded for a pair that is not ENABLED; kept for one that is not cached. -/
def State.writeBell (s : State) (f q : Nat) (cq : Bool) (v : Word) : State :=
  let p := pairNo f q
  let x := bitsOf v.toNat 0 16
  if !s.fnLive f then s
  else
    let s := s.count 0 0x3E2 1
    if !s.pairOn p then s
    else if (s.pair p).isSome then (if cq then s.ringHead p x else s.ringTail p x)
    else
      let b := s.bell p
      s.setBell p (if cq then (b.1, some x) else (some x, b.2))

/-- SQ_TAIL (R354). -/
def execSqTail (f : FnId) (q : PairId) (value : Word) (s : State) : Host.Outcome State Fault Refusal :=
  .next (s.when s.hifLive fun s => s.writeBell f.val q.val false value)

/-- CQ_HEAD (R354, R358). -/
def execCqHead (f : FnId) (q : PairId) (value : Word) (s : State) : Host.Outcome State Fault Refusal :=
  .next (s.when s.hifLive fun s => s.writeBell f.val q.val true value)

/-! ## Host memory (R202, R360) -/

/-- An access to host memory at detection point 13 (R202, R360): each failed attempt of a run reports 0x510D, a third one 0x520D. It
succeeds where no run is lost and the link completes it without an error. -/
def State.hostAccess (s : State) (m : MemAccess) : Bool × State :=
  let s := s.forEach (List.range (runFails m.runs)) fun s _ => s.report 0 0x510D 0
  (m.linkOk && !runLost m.runs, if runLost m.runs then s.report 0 0x520D 0 else s)

/-! ## Fetching and starting (R359 to R361) -/

/-- Word i of a submission entry. -/
def subWord (w : List Word) (i : Nat) : Nat := (w.getD i 0).toNat
def subOp (w : List Word) : Nat := bitsOf (subWord w 0) 0 8
def subFence (w : List Word) : Bool := bitOf (subWord w 0) 8
def subIn (w : List Word) : Bool := bitOf (subWord w 0) 9
def subOut (w : List Word) : Bool := bitOf (subWord w 0) 10
def subCid (w : List Word) : Nat := bitsOf (subWord w 0) 16 16
def subBuf (w : List Word) : Nat := subWord w 2 + 2 ^ 32 * subWord w 3
def subLen (w : List Word) : Nat := subWord w 4
/-- ARG n. -/
def subArg (w : List Word) (n : Nat) : Nat := subWord w (6 + n)
/-- BUF is aligned and holds `n` bytes. -/
def bufOk (w : List Word) (n : Nat) : Bool := decide (subBuf w % 4 = 0) && decide (n ≤ subLen w) && decide (subLen w ≤ 65536)

/-- The executor of an opcode: 0 host interface, 1 key unit, 2 observation unit, 3 firmware; none for an opcode that
Table 12.7 does not list. -/
def opExecutor (op : Nat) : Option Nat :=
  match op with
  | 0x00 | 0x01 | 0x02 | 0x03 | 0x04 => some 0
  | 0x08 | 0x09 | 0x0A | 0x0B => some 1
  | 0x10 => some 2
  | _ => if 0x40 ≤ op ∧ op ≤ 0xFF then some 3 else none

/-- A command may be issued from a function and pair (Table 12.7). -/
def State.opAllowed (s : State) (f q op : Nat) : Bool :=
  match op with
  | 0x01 | 0x02 => decide (q = 0)
  | 0x04 => decide (f = 0) && decide (q = 0)
  | 0x09 | 0x0A => decide (f = 0)
  | 0x10 => decide (f = 0) || s.flag Fld.HI_VF_CFG_CTR_GRANT f
  | _ => if 0x40 ≤ op then decide (f = 0) || s.flag Fld.HI_VF_CFG_FW_GRANT f else true

/-- Start an entry: an opcode that is not listed, or not allowed here, ends at once (R361). -/
def State.startEntry (s : State) (f q : Nat) (w : List Word) : State :=
  let p := pairNo f q
  let n := s.hif.nextSerial
  let st := if (opExecutor (subOp w)).isNone then some 1 else if s.opAllowed f q (subOp w) then none else some 3
  let c : RingCmd := { serial := n, words := w, begun := st.isSome, done := st.map fun x => (0, 0, x) }
  (s.modHif fun h => { h with nextSerial := n + 1 }).modPair p fun x => { x with started := x.started ++ [c], fetched := none }

/-- The context of a pair comes from the backing area, with the doorbells that waited for it (R350, R351). A context that cannot be
read counts as one whose check fails (notes/assumptions/93.md). -/
def State.ctxLoad (s : State) (p : Nat) (ctx : List Word) (mem : MemAccess) : State :=
  match s.ctxRoom with
  | none => s
  | some s =>
    let s := s.count 0 0x3E4 1
    let (ok, s) := s.hostAccess mem
    match pairOfWords (if ok then ctx else []) with
    | none => (s.ctxPut p Pair.broken).pairError p 0x8002
    | some x =>
      let b := s.bell p
      let s := (s.ctxPut p x).setBell p (none, none)
      let s := match b.1 with
        | some t => s.ringTail p t
        | none => s
      match b.2 with
      | some h => s.ringHead p h
      | none => s

/-- An entry waits for every earlier command of its pair (R359; RESET_HIF acts as though FENCE were set, R366). -/
def subWaits (w : List Word) : Bool := subFence w || decide (subOp w = 0x04)

/-- The part fetches the next entry of a pair and starts it where it may. -/
def State.commandStart (s : State) (f q : Nat) (entry : List Word) (mem : MemAccess) : State :=
  let p := pairNo f q
  match s.pair p with
  | none => s
  | some x =>
    if x.error ∨ x.deleting.isSome ∨ 16 ≤ x.started.length then s
    else match x.fetched with
      | some w => if x.started = [] then s.startEntry f q w else s
      | none =>
        if x.sqHead = x.sqTail then s
        else
          let (ok, s) := s.hostAccess mem
          if !ok then s.pairError p 0x8003
          else
            let w := entry
            let s := s.count 0 0x3E0 1
            let s := s.modPair p fun x => { x with sqHead := (x.sqHead + 1) % ringLen x.sqSize }
            if subWaits w ∧ x.started ≠ [] then s.modPair p fun x => { x with fetched := some w } else s.startEntry f q w

/-- COMMAND_START (R350, R359, R361). -/
def execCommandStart (f : FnId) (q : PairId) (ctx : List Word) (ctxMem : MemAccess) (s : State)
    (entry : List Word := []) (mem : MemAccess := {}) : Host.Outcome State Fault Refusal :=
  let p := pairNo f.val q.val
  .next (s.when (s.hifLive && s.pairOn p && s.flag Fld.HI_CTX_CTRL_EN 0) fun s =>
    let s := if (s.pair p).isSome then s else s.ctxLoad p ctx ctxMem
    let s := match s.pair p with
      | some x => s.ctxPut p x
      | none => s
    s.commandStart f.val q.val entry mem)

/-- The n-th started command of a pair, where it may begin: its opcode is `p`'s, it has not begun, and every earlier command
of the pair with the same executor has (R359). -/
def State.ringCmd (s : State) (f q n : Nat) (p : Nat → Bool) : Option RingCmd :=
  match s.pair (pairNo f q) with
  | none => none
  | some x =>
    match x.started[n]? with
    | none => none
    | some c =>
      let e := opExecutor (subOp c.words)
      let ready := (x.started.take n).all fun y => y.begun || decide (opExecutor (subOp y.words) ≠ e)
      if p (subOp c.words) && !c.begun && ready then some c else none

/-- Mark a started command as taken by its executor. -/
def State.ringBegin (s : State) (p serial : Nat) : State :=
  s.modPair p fun x => { x with started := x.started.map fun c => if c.serial = serial then { c with begun := true } else c }

/-- A command ends with RESULT0, RESULT1 and STATUS; where its pair is gone, its completion is lost (R235). -/
def State.ringEnd (s : State) (p serial : Nat) (r0 r1 : Word) (st : Nat) : State :=
  s.modPair p fun x => { x with started := x.started.map fun c =>
    if c.serial = serial then { c with begun := true, done := some (r0, r1, st) } else c }

/-- A command's buffer could not be reached: STATUS HOST_MEMORY with 0x8003 (R360). -/
def State.ringMemFail (s : State) (p serial : Nat) : State := (s.hiFault p 0x8003).ringEnd p serial 0 0 5

/-- A command writes to its buffer and ends (R360). -/
def State.ringWrite (s : State) (p : Nat) (c : RingCmd) (b : List Byte) (mem : MemAccess) (r0 : Word) : State :=
  let (ok, s) := s.hostAccess mem
  if ok then (s.emit (.hostWrite (subBuf c.words) b)).ringEnd p c.serial r0 0 0 else s.ringMemFail p c.serial

/-! ## Completions (R353, R357, R358, R364) -/

/-- Word w of the MSI-X table of function f: 0 to 127. -/
def State.msixWord (s : State) (f w : Nat) : Nat := Tbl.get s.hif.msix (128 * f + w) (if w % 4 = 3 then 1 else 0)

/-- Send the MSI-X message of a vector, or hold it pending while the vector is masked (R358). -/
def State.msixSend (s : State) (f vec : Nat) : State :=
  if bitOf (s.msixWord f (4 * vec + 3)) 0 then
    s.modHif fun h => { h with pba := Tbl.set h.pba f (Tbl.get h.pba f 0 ||| 2 ^ vec) 0 }
  else (s.emit (.msix f vec)).count 0 0x3E3 1

/-- A pair whose DELETE_PAIR waits has no command left: it is disabled, and the DELETE_PAIR ends (R364). -/
def State.deleteDone (s : State) (p : Nat) : State :=
  match s.pair p with
  | none => s
  | some x =>
    match x.deleting with
    | none => s
    | some d =>
      if x.started ≠ [] ∨ x.fetched.isSome then s
      else
        let s := s.modHif fun h => { h with enabled := h.enabled.filter (fun y => decide (y ≠ p)),
                                            cache := h.cache.filter (fun y => decide (y.1 ≠ p)) }
        (s.setBell p (none, none)).ringEnd (p - p % 128) d 0 0 0

/-- The four words of a completion entry (Table 12.6). -/
def completionWords (x : Pair) (c : RingCmd) (r : Word × Word × Nat) : List Word :=
  [r.1, r.2.1, BitVec.ofNat 32 x.sqHead,
   BitVec.ofNat 32 (subCid c.words + 2 ^ 16 * b2n x.phase + 2 ^ 24 * (r.2.2 % 256))]

/-- The oldest command of a pair has ended: its completion is written where the CQ has room; in ERROR it is lost. -/
def State.completionWrite (s : State) (f q : Nat) (mem : MemAccess) : State :=
  let p := pairNo f q
  match s.pair p with
  | none => s
  | some x =>
    match x.started with
    | [] => s
    | c :: rest =>
      match c.done with
      | none => s
      | some r =>
        let n := ringLen x.cqSize
        if x.error then (s.modPair p fun x => { x with started := rest }).deleteDone p
        else if (x.cqTail + 1) % n = x.cqHead then s
        else
          let (ok, s) := s.hostAccess mem
          if !ok then ((s.modPair p fun x => { x with started := rest }).pairError p 0x8003).deleteDone p
          else
            let s := (s.emit (.completion f q (completionWords x c r))).count 0 0x3E1 1
            let last := decide (x.cqTail + 1 = n)
            let irq := x.irqEn && x.irqArmed
            let s := s.modPair p fun x =>
              { x with started := rest, cqTail := (x.cqTail + 1) % n, phase := x.phase != last, irqArmed := x.irqArmed && !irq }
            (if irq then s.msixSend f x.vector else s).deleteDone p

/-- COMPLETION_WRITE (R353, R357, R358, R360). -/
def execCompletionWrite (f : FnId) (q : PairId) (mem : MemAccess) (s : State) : Host.Outcome State Fault Refusal :=
  .next (s.when s.hifLive fun s => s.completionWrite f.val q.val mem)

/-! ## Commands of the host interface (R361 to R366) -/

/-- NOP (R361). -/
def execRingNop (f : FnId) (q : PairId) (n : Nat) (s : State) : Host.Outcome State Fault Refusal :=
  .next (s.when s.hifLive fun s =>
    match s.ringCmd f.val q.val n fun op => decide (op = 0x00) with
    | some c => s.ringEnd (pairNo f.val q.val) c.serial 0 0 0
    | none => s)

/-- A new pair's context (R363). -/
def Pair.fresh (sqBase cqBase sqSize cqSize vector : Nat) (irqEn : Bool) : Pair :=
  { sqBase := sqBase, cqBase := cqBase, sqSize := sqSize, cqSize := cqSize, sqHead := 0, sqTail := 0, cqTail := 0,
    cqHead := 0, error := false, phase := true, irqEn := irqEn, irqArmed := true, vector := vector, started := [],
    fetched := none, deleting := none }

/-- Enable a pair with a context: it goes into the cache, or to the backing area where the cache has no room. -/
def State.pairCreate (s : State) (p : Nat) (x : Pair) : State :=
  let s := match s.ctxRoom with
    | some s => s.ctxPut p x
    | none => s.emit (.hostWrite (s.ctxBase + 64 * p) (x.bytes p))
  s.modHif fun h => { h with enabled := p :: h.enabled }

/-- CREATE_PAIR (R348, R363). -/
def State.createPair (s : State) (f q : Nat) (c : RingCmd) : State :=
  let w := c.words
  let k := bitsOf (subArg w 0) 0 7
  let p := pairNo f k
  let sq := subArg w 1 + 2 ^ 32 * subArg w 2
  let cq := subArg w 3 + 2 ^ 32 * subArg w 4
  let sn := bitsOf (subArg w 5) 0 16
  let cn := bitsOf (subArg w 5) 16 16
  if k = 0 ∨ s.qpMax f ≤ k ∨ s.pairOn p ∨ sn = 1 ∨ cn = 1 ∨ sq % 4096 ≠ 0 ∨ cq % 4096 ≠ 0 then
    s.ringEnd (pairNo f q) c.serial 0 0 2
  else
    let x := Pair.fresh sq cq sn cn (bitsOf (subArg w 6) 0 5) (bitOf (subArg w 6) 5)
    (s.pairCreate p x).ringEnd (pairNo f q) c.serial 0 0 0

/-- CREATE_PAIR (R363). -/
def execCreatePair (f : FnId) (q : PairId) (n : Nat) (s : State) : Host.Outcome State Fault Refusal :=
  .next (s.when s.hifLive fun s =>
    match s.ringCmd f.val q.val n fun op => decide (op = 0x01) with
    | some c => s.createPair f.val q.val c
    | none => s)

/-- DELETE_PAIR (R364): entries fetched and not started end ABORTED, and started ones run to their end first. A pair that is being
deleted already is refused as one that is not enabled (DESIGN CHOICE, log entry 153). -/
def State.deletePair (s : State) (f q : Nat) (c : RingCmd) : State :=
  let k := bitsOf (subArg c.words 0) 0 7
  let p := pairNo f k
  if k = 0 ∨ !s.pairOn p ∨ (s.pair p).any (fun x => decide (x.deleting ≠ none)) then s.ringEnd (pairNo f q) c.serial 0 0 2
  else
    let s := s.ringBegin (pairNo f q) c.serial
    match s.pair p with
    | none =>
      ((s.modHif fun h => { h with enabled := h.enabled.filter fun y => decide (y ≠ p) }).setBell p (none, none)).ringEnd
        (pairNo f q) c.serial 0 0 0
    | some x =>
      let n := s.hif.nextSerial
      let aborted : List RingCmd := match x.fetched with
        | some w => [{ serial := n, words := w, begun := true, done := some (0, 0, 6) }]
        | none => []
      let s := s.modHif fun h => { h with nextSerial := n + 1 }
      (s.modPair p fun x =>
        { x with started := x.started ++ aborted, fetched := none, sqTail := x.sqHead, deleting := some c.serial }).deleteDone p

/-- DELETE_PAIR (R364). -/
def execDeletePair (f : FnId) (q : PairId) (n : Nat) (s : State) : Host.Outcome State Fault Refusal :=
  .next (s.when s.hifLive fun s =>
    match s.ringCmd f.val q.val n fun op => decide (op = 0x02) with
    | some c => s.deletePair f.val q.val c
    | none => s)

/-- The open lease of a function. -/
def State.leaseOf (s : State) (f : Nat) : Option Lease := s.keys.leases.find? fun l => decide (l.fn = f)

/-- The 4,096 bytes of IDENTIFY (R365). -/
def State.identifyBytes (s : State) (f : Nat) : List Byte :=
  let grants := if f = 0 then 3 else b2n (s.flag Fld.HI_VF_CFG_CTR_GRANT f) + 2 * b2n (s.flag Fld.HI_VF_CFG_FW_GRANT f)
  let lease := s.leaseOf f
  let head := leBytes 4 (s.rd .PART_INFO 0).toNat ++ leBytes 2 f ++ leBytes 1 (s.qpMax f) ++ leBytes 1 grants ++
    leBytes 8 ((lease.map fun l => l.mask).getD 0) ++ leBytes 4 ((lease.map fun l => l.id).getD 0) ++
    List.replicate 12 0 ++ s.deviceId
  sliceB head 0 4096

/-- IDENTIFY (R365). -/
def execIdentify (f : FnId) (q : PairId) (n : Nat) (mem : MemAccess) (s : State) : Host.Outcome State Fault Refusal :=
  let p := pairNo f.val q.val
  .next (s.when s.hifLive fun s =>
    match s.ringCmd f.val q.val n fun op => decide (op = 0x03) with
    | some c =>
      if !bufOk c.words 4096 then s.ringEnd p c.serial 0 0 2
      else s.ringWrite p c (s.identifyBytes f.val) mem 0
    | none => s)

/-! ## COUNTER_READ (R369, R442) -/

/-- The channel an event of die d belongs to; none for the die's and the package's events (Table 15.1). -/
def eventChannel (d e : Nat) : Option Nat :=
  if e < 0x200 then some (8 * d + e / 0x40) else if e < 0x300 then some (8 * d + (e - 0x200) / 0x20) else none

/-- The 8 bytes of an event. -/
def State.counterBytes (s : State) (d e : Nat) : List Byte :=
  let e0 := e - e % 2
  let lo := s.getF Fld.OB_CNT_COUNT (d * 1024 + e)
  let sat (x : Nat) : Nat := b2n (bitOf (s.rd .OB_SAT (d * 32 + x / 32)).toNat (x % 32))
  if !obAssigned d e then leBytes 8 (2 ^ 51)
  else if s.obPaired d e0 then
    if e % 2 = 1 then leBytes 8 (2 ^ 50 + 2 ^ 48)
    else leBytes 8 (lo + 2 ^ 20 * s.getF Fld.OB_CNT_COUNT (d * 1024 + e + 1) + 2 ^ 48 + 2 ^ 49 * sat e)
  else leBytes 8 (lo + 2 ^ 49 * sat e)

/-- COUNTER_READ: the range is checked, then the grants, and every counter is taken at one instant. -/
def State.counterRead (s : State) (f q : Nat) (c : RingCmd) (mem : MemAccess) : State :=
  let p := pairNo f q
  let d := bitsOf (subArg c.words 0) 0 3
  let e := bitsOf (subArg c.words 1) 0 10
  let n := bitsOf (subArg c.words 2) 0 11
  let lease := s.leaseOf f
  let mask := (lease.map fun l => l.mask).getD 0
  let ok := decide (f = 0) || (lease.isSome && (List.range n).all fun k => match eventChannel d (e + k) with
    | some ch => bitOf mask ch
    | none => true)
  if !s.present d ∨ n = 0 ∨ 1024 < n ∨ 1024 < e + n ∨ !bufOk c.words (8 * n) then s.ringEnd p c.serial 0 0 2
  else if !ok then s.ringEnd p c.serial 0 0 3
  else s.ringWrite p c ((List.range n).flatMap fun k => s.counterBytes d (e + k)) mem (BitVec.ofNat 32 n)

/-- COUNTER_READ (R442). -/
def execCounterRead (f : FnId) (q : PairId) (n : Nat) (mem : MemAccess) (s : State) : Host.Outcome State Fault Refusal :=
  .next (s.when s.hifLive fun s =>
    match s.ringCmd f.val q.val n fun op => decide (op = 0x10) with
    | some c => s.counterRead f.val q.val c mem
    | none => s)

/-! ## The firmware inbox (R370 to R373) -/

/-- Change the inbox and show QUEUED. -/
def State.modInbox (s : State) (f : Inbox → Inbox) : State :=
  let x := f s.inbox
  ({ s with inbox := x }).setF Fld.HI_FW_STATUS_QUEUED 0 x.queue.length

/-- Sentry address of slot k. -/
def State.inboxAddr (s : State) (k : Nat) : Nat := (s.rd .HI_FW_BASE 0).toNat + 0x1100 * k

/-- The lowest free slot. -/
def Inbox.freeSlot (x : Inbox) : Option Nat := (List.range 16).find? fun k => !(x.slots.any fun y => decide (y.1 = k))

/-- A firmware command takes a slot, its data and its TAG (R370). -/
def State.firmwareTake (s : State) (f q : Nat) (c : RingCmd) (k : Nat) (data : List Byte) : State :=
  let a := s.inboxAddr k
  let us := s.us
  let p := pairNo f q
  let w := (c.words.take 1) ++ [BitVec.ofNat 32 (f + 256 * q)] ++ (c.words.drop 2)
  let tag := Tbl.get s.inbox.tags k 0
  let s := s.sramStore 0 (a + 0x100) data
  let s := s.sramStore 0 a (sliceB (w.flatMap fun x => leBytes 4 x.toNat) 0 64)
  let s := s.modInbox fun x =>
    { x with slots := x.slots ++ [(k, { tag := tag, pair := p, serial := c.serial, words := c.words, us := us })],
             tags := Tbl.set x.tags k ((tag + 1) % 256) 0, queue := x.queue ++ [k] }
  (s.ringBegin p c.serial).count 0 0x3E5 1

/-- FIRMWARE_COMMAND (R370). -/
def State.firmwareCommand (s : State) (f q : Nat) (c : RingCmd) (dataIn : List Byte) (mem : MemAccess) : State :=
  let p := pairNo f q
  let w := c.words
  if (subIn w || subOut w) && !bufOk w 0 then s.ringEnd p c.serial 0 0 2
  else match s.inbox.freeSlot with
    | none => s
    | some k =>
      if subIn w then
        let (ok, s) := s.hostAccess mem
        if ok then s.firmwareTake f q c k (sliceB dataIn 0 (min (subLen w) 4096)) else s.ringMemFail p c.serial
      else s.firmwareTake f q c k []

/-- FIRMWARE_COMMAND (R370). -/
def execFirmwareCommand (f : FnId) (q : PairId) (n : Nat) (dataIn : List Byte) (s : State)
    (mem : MemAccess := {}) : Host.Outcome State Fault Refusal :=
  .next (s.when (s.hifLive && s.platLive && s.reached 0) fun s =>
    match s.ringCmd f.val q.val n fun op => decide (0x40 ≤ op) with
    | some c => s.firmwareCommand f.val q.val c dataIn mem
    | none => s)

/-- A read of HI_FW_TAKE (R371, R386). -/
def State.readTake (s : State) (req : Requester) : Word × State :=
  if !fromDie0 req then (0, s)
  else match s.inbox.queue with
    | [] => (0, s)
    | k :: rest =>
      let tag := ((s.inbox.slots.find? fun y => decide (y.1 = k)).map fun y => y.2.tag).getD 0
      (BitVec.ofNat 32 (k + 2 ^ 8 * tag + 2 ^ 31), s.modInbox fun x => { x with queue := rest })

/-- HI_FW_TAKE_READ (R371). -/
def execHiFwTakeRead (req : Requester) (s : State) : Host.Outcome State Fault Refusal :=
  .next (s.platAccess req fun s => State.answer (s.readTake req))

/-- A slot is freed. -/
def State.inboxFree (s : State) (k : Nat) : State :=
  s.modInbox fun x => { x with slots := x.slots.filter (fun y => decide (y.1 ≠ k)), queue := x.queue.filter fun y => decide (y ≠ k) }

/-- A command's pair still holds it. -/
def State.ringHeld (s : State) (p serial : Nat) : Bool :=
  match s.pair p with
  | some x => x.started.any fun c => decide (c.serial = serial)
  | none => false

/-- A write of HI_FW_DONE (R371, R372, R386). -/
def State.writeFwDone (s : State) (req : Requester) (v : Word) (mem : MemAccess) : State :=
  let k := Fld.HI_FW_DONE_SLOT.of v
  if !fromDie0 req then s
  else match s.inbox.slots.find? fun y => decide (y.1 = k) with
    | none => s
    | some (_, x) =>
      if x.tag ≠ Fld.HI_FW_DONE_TAG.of v then s
      else
        let n := min (4 * min (Fld.HI_FW_DONE_RESLEN.of v) 1024) (subLen x.words)
        let data := s.sramBytes 0 (s.inboxAddr k + 0x100) n
        let r0 := s.rd .HI_FW_RES0 0
        let r1 := s.rd .HI_FW_RES1 0
        let s := s.inboxFree k
        if !s.ringHeld x.pair x.serial ∨ !s.hifLive then s
        else
          let (ok, s) := if subOut x.words then s.hostAccess mem else (true, s)
          let s := if subOut x.words && ok then s.emit (.hostWrite (subBuf x.words) data) else s
          if !ok then s.ringMemFail x.pair x.serial else s.ringEnd x.pair x.serial r0 r1 (Fld.HI_FW_DONE_STATUS.of v)

/-- HI_FW_DONE (R371). -/
def execHiFwDone (req : Requester) (value : Word) (stores : Stores) (mem : MemAccess) (s : State) :
    Host.Outcome State Fault Refusal :=
  .next (s.platAccess req fun s => (s.stores stores).writeFwDone req value mem)

/-- FW_TIMEOUT (R372). -/
def execFwTimeout (slot : Fin 16) (s : State) : Host.Outcome State Fault Refusal :=
  .next (s.when s.platLive fun s =>
    match s.inbox.slots.find? fun y => decide (y.1 = slot.val) &&
        decide (1000 * max 1 (s.getF Fld.HI_CTRL_FW_TIMEOUT_MS 0) ≤ s.usSince y.2.us) with
    | none => s
    | some (_, x) => ((s.inboxFree slot.val).hiFault x.pair 0x8004).ringEnd x.pair x.serial 0 0 8)

/-- A HIF reset empties the inbox (R373). -/
def State.inboxFlush (s : State) : State :=
  let tags := (List.range 16).foldl (fun (t : List (Nat × Nat)) k => Tbl.set t k ((Tbl.get t k 0 + 1) % 256) 0) s.inbox.tags
  (s.modInbox fun x => { x with slots := [], queue := [], tags := tags }).setFlag Fld.HI_FW_STATUS_FLUSHED 0 true

/-! ## Register writes (R349, R363, R386) -/

/-- A write of HI_CTX_CTRL: a clear is discarded while a pair is ENABLED. -/
def State.writeCtxCtrl (s : State) (v : Word) : State :=
  if Fld.HI_CTX_CTRL_EN.of v = 0 ∧ s.hif.enabled ≠ [] then s else s.swWrite .HI_CTX_CTRL 0 v

/-- HI_CTX_CTRL_WRITE (R349). -/
def execHiCtxCtrlWrite (req : Requester) (value : Word) (s : State) : Host.Outcome State Fault Refusal :=
  .next (s.hifAccess req fun s => s.writeCtxCtrl value)

/-- A write of FN_ACTRL of function f: 1 in EN creates pair 0 or sets REFUSED; 0 in EN is discarded. -/
def State.writeActrl (s : State) (f : Nat) (v : Word) : State :=
  if !s.fnLive f then s
  else
    let was := s.flag Fld.FN_ACTRL_EN f
    let s := s.swWrite .FN_ACTRL f v
    let sn := s.getF Fld.FN_ASIZE_SQ_SIZE f
    let cn := s.getF Fld.FN_ASIZE_CQ_SIZE f
    if was ∨ Fld.FN_ACTRL_EN.of v = 0 then s.setFlag Fld.FN_ACTRL_EN f was
    else if !s.flag Fld.HI_CTX_CTRL_EN 0 ∨ sn = 1 ∨ cn = 1 then
      (s.setFlag Fld.FN_ACTRL_EN f false).setFlag Fld.FN_ACTRL_REFUSED f true
    else
      let addr (lo hi : RegName) : Nat := (s.rd lo f).toNat + 2 ^ 32 * (s.rd hi f).toNat
      let x := Pair.fresh (addr .FN_ASQ_LO .FN_ASQ_HI) (addr .FN_ACQ_LO .FN_ACQ_HI) sn cn
        (s.getF Fld.FN_ACTRL_VECTOR f) (s.flag Fld.FN_ACTRL_IRQ_EN f)
      (s.setFlag Fld.FN_ACTRL_REFUSED f false).pairCreate (pairNo f 0) x

/-- FN_ACTRL_WRITE (R363). -/
def execFnActrlWrite (f : FnId) (value : Word) (s : State) : Host.Outcome State Fault Refusal :=
  .next (s.when s.hifLive fun s => s.writeActrl f.val value)

/-- Function f's pairs are disabled and its page returns to reset (R235, R374). -/
def State.fnReset (s : State) (f : Nat) : State :=
  let mine (p : Nat) : Bool := decide (p / 128 = f)
  let s := s.modHif fun h =>
    { h with enabled := h.enabled.filter (fun p => !mine p), cache := h.cache.filter (fun x => !mine x.1),
             bells := h.bells.filter (fun x => !mine x.1), msix := h.msix.filter (fun x => decide (x.1 / 128 ≠ f)),
             pba := h.pba.filter fun x => decide (x.1 ≠ f) }
  s.forEach [0, 1, 2, 3, 4, 5] fun s k =>
    s.wr ([RegName.FN_ASQ_LO, .FN_ASQ_HI, .FN_ACQ_LO, .FN_ACQ_HI, .FN_ASIZE, .FN_ACTRL].getD k .FN_ACTRL) f 0

/-! ## Configuration space (Table 12.1, R344, R345) -/

/-- What a configuration write may ask the endpoint for: capabilities, and ways to interrupt. -/
inductive PcieItem where
  | sriov | msix | ari | aer | flr | aspmL1 | serialNumber | mctpVdm
  | ats | pri | pasid | tph | resizableBar | intx | msi
  deriving DecidableEq, Repr

/-- The endpoint has the item; what it has not reads as absent (R345). -/
def PcieItem.present : PcieItem → Bool
  | .sriov | .msix | .ari | .aer | .flr | .aspmL1 | .serialNumber | .mctpVdm => true
  | .ats | .pri | .pasid | .tph | .resizableBar | .intx | .msi => false

/-- Device ID of a function, and the class code of every function (Table 12.1). -/
def deviceIdOf (f : Nat) : Nat := if f = 0 then 0x6400 else 0x6401
def classCode : Nat := 0x088000

/-- The revision ID of every function (Table 12.1). -/
def State.revisionId (s : State) : Nat := s.getF Fld.PART_INFO_STEPPING 0

/-- The Device Serial Number capability: on the PF alone, all ones when SERIAL is unknown (Table 12.1). -/
def State.deviceSerialNumber (s : State) (f : Nat) : Option Nat := if f = 0 then some s.serial else none

/-- TotalVFs and InitialVFs (Table 12.1). -/
def totalVfs : Nat := 255

/-- NumVFs takes effect while VF Enable is clear; a clear of VF Enable resets every VF (R344, R374). -/
def State.writeVfEnable (s : State) (numVfs : Nat) (enable : Bool) : State :=
  if s.hif.vfEnable then
    if enable then s
    else
      let n := s.hif.numVfs
      (s.forEach ((List.range n).map fun k => k + 1) fun s f => s.fnReset f).modHif fun h =>
        { h with vfEnable := false, numVfs := min numVfs totalVfs }
  else s.modHif fun h => { h with vfEnable := enable, numVfs := min numVfs totalVfs }

/-- A configuration write that would enable or disable an item: the endpoint ignores it for one it has not (R345). Of the others only
SR-IOV's VF Enable changes what this model holds. -/
def State.configEnable (s : State) (x : PcieItem) (numVfs : Nat) (enable : Bool) : State :=
  if x.present ∧ x = .sriov then s.writeVfEnable numVfs enable else s

/-- VF_ENABLE (R344, R374): a configuration write to the SR-IOV capability. -/
def execVfEnable (numVfs : Nat) (enable : Bool) (s : State) : Host.Outcome State Fault Refusal :=
  .next (s.when s.hifLive fun s => s.configEnable .sriov numVfs enable)

end Sys2Proof.Machine
end

