-- ==== Sys2Proof/Machine/Reset.lean ====
section
/-! DEFINITION. Reset, clocks and freeze (07): recognising a source, deferral, taking hold, the release order, watchdogs, loss of
REFCLK, freeze, and the test access port (R227 to R249, R456 to R458, R470). -/

namespace Sys2Proof.Machine

/-- Change the reset controller's state. -/
def State.modSeq (s : State) (f : Seq → Seq) : State := { s with seq := f s.seq }

/-- RC_DIE_STATE of die d. -/
def State.dieState (s : State) (d v : Nat) : State := s.setF { reg := .RC_DIE_STATE, lo := 2 * d, width := 2 } 0 v

/-! ## Sources (Table 7.2, R229) -/

/-- The die of a source that resets one die. -/
def srcDie (x : ResetSource) : Option Nat :=
  match x with
  | .dieReset d | .watchdogDie d => some d.val
  | _ => none

/-- A source of scope HIF. -/
def srcHif (x : ResetSource) : Bool :=
  match x with
  | .hifCmd | .perst | .linkDown | .flrPf => true
  | _ => false

/-- The RC_CAUSE bit of a source; `conv` where a die reset becomes a part reset (R229). -/
def srcCause (x : ResetSource) (conv : Bool) : Nat :=
  match x with
  | .por => 0
  | .brownOut => 1
  | .rstN => 2
  | .watchdogPart => 3
  | .mailboxPart => 4
  | .ralverPart => 5
  | .guard => 6
  | .refclk => 7
  | .dieReset _ => 10
  | .watchdogDie _ => if conv then 3 else 10
  | .hifCmd | .perst | .linkDown | .flrPf => 11

/-- The reset controller moves: the freeze stops it with every other clock of AON but the OT counter and the pin filters, until
RST_N has been recognised (R243, R244). -/
def State.sequencing (s : State) : Bool := !s.seq.frozen || bitOf s.seq.causes 2

/-- A reset of die d alone becomes a part reset: die 0, or a die with a quoin asked for or in effect (R229). -/
def State.dieConverts (s : State) (d : Nat) : Bool :=
  decide (d = 0) || decide (s.rd .FM_QUOIN d ≠ 0) || decide (s.rd .FM_QUOIN_EFF d ≠ 0)

/-- A frame is open on a master port. -/
def State.portBusy (s : State) (p : Nat) : Bool := (s.port p).run.isSome

/-- A frame is open on the home or a vault port. -/
def State.portsBusy (s : State) : Bool := s.portBusy 0 || s.portBusy 1 || s.portBusy 2

/-- A frame is open there that no gap between its units ends (R264). -/
def State.portsHeld (s : State) : Bool := [0, 1, 2].any fun p => (s.port p).run.any fun r => !r.gaps

/-- In a gap between units no select is low: the entry ends without a pulse (R264). -/
def State.gapPorts (s : State) : State :=
  s.forEach [0, 1, 2] fun s p =>
    if (s.port p).run.isNone then s
    else (s.modPort p fun x => { x with run := none }).setFlag Fld.MP_STATUS_FRAME_OPEN p false

/-- A fuse pulse is in progress: during a deferral none follows the one that was (R238). -/
def State.pulseNow (s : State) : Bool := s.fuses.run.isSome && (!s.seq.wait || s.seq.pulse)

/-! ## Domains enter reset (R227, R228, R234 to R236) -/

/-- The part ends the open frame of a master port (R236, R239). -/
def State.cutPort (s : State) (p : Nat) : State :=
  match (s.port p).run with
  | none => s
  | some r => ((s.modPort p fun x => { x with run := none }).setFlag Fld.MP_STATUS_FRAME_OPEN p false).emit
      (.portEnd p r.sel r.spoil)

/-- The part ends every frame that it or the host has open on the channels of a die (R236). -/
def State.cutDie (s : State) (d : Nat) : State := s.forEach (List.range 8) fun s c => (s.endFrame (8 * d + c)).ownStop (8 * d + c)

/-- A register belongs to die d, VLT1's on die 1 included. -/
def Reg.ofDie (r : Reg) (d : Nat) : Bool :=
  match r.name.dom with
  | .die k => decide (r.i / k = d)
  | .port => decide (d = 1) && match r.name with
    | .MP_CTRL | .MP_STATUS | .MP_QBASE | .MP_QCTL | .MP_QPTR | .MP_FAULT => decide (r.i = 2)
    | .MP_DEVRD | .MP_DEVWR => decide (r.i / 2 = 2)
    | _ => false
  | _ => false

/-- HIF enters reset (R235, R373, R374). An operation that a ring command had started keeps its serial, which no later command takes, so
that its completion is lost. -/
def State.holdHif (s : State) : State :=
  let s := { s with regs := RegFile.drop s.regs fun r => decide (r.name.dom = Dom.hif), hif := { Hif.reset with nextSerial := s.hif.nextSerial } }
  let s := s.modKeys fun k => { k with conns := [] }
  let s := s.inboxFlush
  let s := s.setF Fld.RC_COUNT_HIF 0 (min (s.getF Fld.RC_COUNT_HIF 0 + 1) 0xFFFF)
  (s.modSeq fun q => { q with hifReset := true }).emit .pcieIdle

/-- DIE d enters reset (R24, R212, R234, R236, R285). -/
def State.holdDie (s : State) (d : Nat) : State :=
  let s := s.cutDie d
  let s := if s.reached d then s.loseDie d else s
  let s := if d = 1 then (s.cutPort 2).modPort 2 fun _ => Port.reset else s
  let s := (s.emit (.floated (.die 1) d)).sramForget d
  let s := match s.epoch.phase with
    | .switching _ =>
      let s := { s with epoch := { s.epoch with lost := d :: s.epoch.lost } }
      if d < 4 then s.clrR .EPOCH_MAP_LO 0 (0xFF * 2 ^ (8 * d)) else s.clrR .EPOCH_MAP_HI 0 (0xFF * 2 ^ (8 * (d - 4)))
    | _ => s
  let s := { s with
    regs := RegFile.drop s.regs fun r => r.ofDie d
    chans := s.chans.filter fun x => decide (x.1 / 8 ≠ d)
    reports := s.reports.filter fun x => decide (x.1 / 256 ≠ d) }
  let x := s.die d
  let s := s.modDie d fun _ => { Die.reset with inReset := true, generation := x.generation, lostGates := x.lostGates }
  let s := s.modKeys fun k =>
    { k with sealing := k.sealing.filter (fun e => decide (e ≠ d) || decide (d = 1)), transport := Tbl.drop k.transport d }
  let v := s.getF Fld.BT_STATUS_DIE_DONE 0
  let s := if bitOf v d then s.setF Fld.BT_STATUS_DIE_DONE 0 (v - 2 ^ d) else s
  let s := s.modBoot fun b =>
    { b with left := b.left.filter fun p => decide (p.1 ≠ d), recopy := b.recopy.filter fun e => decide (e ≠ d),
             failed := b.failed.filter fun p => decide (p.1 ≠ d), stalled := b.stalled.filter fun p => decide (p.1 ≠ d) }
  let s := s.modXip fun x =>
    let keep (l : List XipFill) : List XipFill := l.map fun f => { f with waiters := f.waiters.filter fun w => decide (w.die ≠ d) }
    { x with fills := keep x.fills, queued := keep x.queued }
  s.dieState d 1

/-- A register outlasts a part reset: AON and the variant's constant (R227). -/
def Reg.outlasts (r : Reg) : Bool :=
  match r.name.dom with
  | .aon | .const => true
  | _ => false

/-- The fields of GD_STATUS in AON: LOCKED and EPOCH_DONE (R427). -/
def aonGdStatus (v : Word) : Word := v &&& 3

/-- PLAT, every DIE, HIF and RLV enter reset (R228, R232, R236). `cut` is false where the outputs float at once with the
supplies (R236, Caution). -/
def State.holdPart (s : State) (cut : Bool) : State :=
  let ds := List.range s.nDies
  let s := if cut then s.forEach ds fun s d => if (s.die d).inReset then s else s.cutDie d else s
  let s := if cut then s.forEach [0, 1, 2] fun s p => s.cutPort p else s
  let gd := aonGdStatus (s.rd .GD_STATUS 0)
  let gens := ds.map fun d => (s.die d).generation
  let s := { s with
    regs := RegFile.drop s.regs fun r => !r.outlasts
    sram := [], chans := [], dies := [], epoch := Epoch.reset, queues := [], reports := [], keys := Keys.reset, ports := []
    xip := Xip.reset, boot := Boot.reset, hif := Hif.reset, inbox := Inbox.reset, mbx := Mbx.reset, rv := Rv.reset
    fuses := { s.fuses with run := none, waiting := none, queued := none }
    folio := { Folio.reset with next := s.folio.next, lockSeq := s.folio.lockSeq }
    guard := { Guard.reset with latched := numsBelow 89 fun k => mem k s.guard.latched } }
  let s := s.wr .GD_STATUS 0 gd
  let s := s.forEach ds fun s d =>
    ((s.modDie d fun _ => { Die.reset with inReset := true, generation := gens.getD d 0 + 1 }).dieState d 1).emit
      (.floated (.die 1) d)
  let s := s.modSeq fun q => { q with platReset := true, hifReset := true, rlvReset := true, untrained := [], frozen := false }
  let s := (((s.emit (.floated .plat 0)).emit (.floated .port 0)).emit .pcieIdle).emit (.floated .rlv 0)
  if s.seq.refclkLost then s.setFlag Fld.RC_CLK_REFCLK_OK 0 false else s

/-! ## The scope of a reset (R238, R240) -/

/-- Two calls for a reset merge: the scope is the union of both (R240). -/
def SeqScope.join (a b : SeqScope) : SeqScope :=
  { part := a.part || b.part
    dies := a.dies ++ b.dies.filter fun d => !mem d a.dies
    hif := a.hif || b.hif
    levels := a.levels ++ b.levels.filter fun x => !a.levels.any fun y => decide (y = x)
    counted := a.counted || b.counted
    clk := a.clk || b.clk
    wdt := a.wdt ++ b.wdt }

/-- Nothing is called for. -/
def SeqScope.none : SeqScope := { part := false, dies := [], hif := false, levels := [], counted := false, clk := false, wdt := [] }

/-- What the sequence that has been recognised or runs was called for. -/
def Seq.scope (q : Seq) : SeqScope :=
  { part := q.part, dies := q.dies, hif := q.hif, levels := q.levels, counted := q.counted, clk := q.clk, wdt := q.wdt }

/-- The sequence takes a scope. -/
def Seq.withScope (q : Seq) (x : SeqScope) : Seq :=
  { q with part := x.part, dies := x.dies, hif := x.hif, levels := x.levels, counted := x.counted, clk := x.clk, wdt := x.wdt }

/-- The sequence takes up what waited beside it. -/
def Seq.joinNext (q : Seq) : Seq := { q.withScope (q.scope.join (q.next.getD SeqScope.none)) with next := none }

/-- A die reset that has been waiting, or that a merge starts again, is a part reset by now: a quoin has been asked for on the
die since (R123, R229). -/
def State.seqConverts (s : State) : State :=
  if s.seq.dies.any fun d => s.dieConverts d then s.modSeq fun q => { q with part := true, counted := true } else s

/-- A deferral ends: RC_DEFER.LENGTH takes its length in rc (R238). A reset that none delayed shows no reason for one. -/
def State.endWait (s : State) (rc : Nat) : State :=
  let s :=
    if s.seq.wait then s.setF Fld.RC_DEFER_LENGTH 0 rc
    else if s.seq.phase = .deferred then (s.setFlag Fld.RC_DEFER_FUSE 0 false).setFlag Fld.RC_DEFER_FLASH 0 false
    else s
  s.modSeq fun q => { q with wait := false, pulse := false }

/-- The reset takes hold: count 0 (R231), `rc` after recognition where it was deferred. Every reset voids the bind nonce and the
unlock nonce (R331, R413). -/
def State.takeHold (s : State) (cut : Bool) (rc : Nat) : State :=
  let s := ((s.modSeq Seq.joinNext).seqConverts).endWait rc
  let q := s.seq
  let s := s.orR .RC_CAUSE 0 q.causes
  let s := if q.part then s.holdPart cut
    else
      let s := s.forEach q.dies fun s d => s.holdDie d
      if q.hif then s.holdHif else s
  let s := { s.modKeys fun k => { k with nonce := none } with guard := { s.guard with nonce := none } }
  s.modSeq fun q =>
    { q with phase := .hold, causes := 0, isoSeen := q.isoSeen && !(q.part || q.hif), rlvIso := q.rlvIso && !q.part }

/-! ## Recognition and deferral (R230, R231, R238 to R240) -/

/-- What a source calls for. -/
def State.scopeOf (s : State) (src : ResetSource) (wdt : List Nat) : SeqScope :=
  let alone : List Nat := match srcDie src with
    | some d => if s.dieConverts d then [] else [d]
    | none => []
  let part := !srcHif src && decide (alone = [])
  { part := part, dies := alone, hif := srcHif src, levels := if src = .rstN ∨ src = .perst then [src] else []
    counted := part, clk := decide (src = .refclk), wdt := wdt }

/-- Brown-out, REFCLK loss and a frozen part's reset are among the sources: none of them is deferred (R238, R244). -/
def Seq.urgent (q : Seq) : Bool := bitOf q.causes 1 || bitOf q.causes 7 || bitOf q.causes 8

/-- A reset of this scope is to wait: a fuse pulse or a home or vault frame is in progress (R238). -/
def State.mustWait (s : State) (x : SeqScope) : Bool :=
  !s.seq.urgent && (x.part || (mem 1 x.dies && s.portBusy 2)) && (s.fuses.run.isSome || s.portsBusy)

/-- A deferral begins: RC_DEFER shows what the reset waits for. -/
def State.beginWait (s : State) : State :=
  let fuse := s.fuses.run.isSome
  let s := (s.setFlag Fld.RC_DEFER_FUSE 0 fuse).setFlag Fld.RC_DEFER_FLASH 0 s.portsBusy
  s.modSeq fun q => { q with wait := true, pulse := fuse }

/-- A source is recognised (R230): it joins the reset in progress (R240), is deferred (R238), or takes hold at the next edge. While
a deferral runs, a sequence that was already under way goes on. A frozen part takes only a power-on reset or RST_N (R244). `rc`:
the length of a deferral that this source ends; `wdt`: the watchdog it stands for. -/
def State.recognise (s : State) (src : ResetSource) (rc : Nat) (wdt : List Nat) : State :=
  let absent : Bool := match srcDie src with
    | some d => !s.present d
    | none => false
  if absent ∨ (s.seq.frozen ∧ src ≠ .rstN) then s
  else
    let conv : Bool := match srcDie src with
      | some d => s.dieConverts d
      | none => false
    let x := s.scopeOf src wdt
    let frozen := s.seq.frozen
    let bits := 2 ^ srcCause src conv + (if frozen then 2 ^ 8 else 0)
    let s := if frozen then s.fire 88 else s
    let s := s.modSeq fun q => { q with causes := q.causes ||| bits }
    match s.seq.phase with
    | .run =>
      let s := s.modSeq fun q => { q.withScope (q.scope.join x) with phase := .deferred }
      if s.mustWait x then s.beginWait else s
    | .deferred =>
      let s := s.modSeq fun q => q.withScope (q.scope.join x)
      if s.seq.urgent then (if s.seq.wait then s.endWait rc else s)
      else if !s.seq.wait ∧ s.mustWait s.seq.scope then s.beginWait
      else s
    | _ =>
      if s.seq.urgent ∨ (s.seq.next = none ∧ !s.mustWait x) then
        (s.modSeq fun q => q.withScope (q.scope.join x)).takeHold (src ≠ .brownOut) rc
      else
        let s := s.modSeq fun q => { q with next := some ((q.next.getD SeqScope.none).join x) }
        if s.seq.wait then s else s.beginWait

/-- A reset waits for its edge. -/
def State.pendingReset (s : State) : Bool := (decide (s.seq.phase = .deferred) || s.seq.next.isSome) && s.sequencing

/-- RESET_TAKES_HOLD (R231, R238): at the first edge with no pulse and no home or vault frame in progress, `rc` after recognition. A
die reset that has become a part reset by then waits as one. -/
def execResetTakesHold (s : State) (rc : Fin 501 := 0) : Host.Outcome State Fault Refusal :=
  .next (s.when s.pendingReset fun s =>
    if s.seq.wait then (if s.pulseNow || s.portsHeld then s else s.gapPorts.takeHold true rc.val)
    else if (s.seqConverts).mustWait (s.seqConverts).seq.scope then s.seqConverts.beginWait
    else s.takeHold true rc.val)

/-- DEFERRAL_LIMIT (R239): the frames that are still open end, CUT sets, and the reset takes hold. -/
def execDeferralLimit (s : State) : Host.Outcome State Fault Refusal :=
  .next (s.when (s.pendingReset && s.seq.wait && !s.pulseNow) fun s =>
    let s := s.forEach [0, 1, 2] fun s p => s.cutPort p
    let s := s.setFlag Fld.RC_DEFER_CUT 0 true
    (s.modSeq fun q => { q with cut := true }).takeHold true 500)

/-! ## The sources -/

/-- A power-on reset (R11, R228, R232, R244, R405): AON and JTAG return to reset too, where they stay until VDDAON and REFCLK are
good, and PCC counts. -/
def State.powerOn (s : State) (vio33 : List Nat) (bad : List Supply) : State :=
  let lost := s.seq.refclkLost
  let s := s.modSeq fun _ => { Seq.reset with part := true, por := true, badSupplies := bad, vfuseOut := s.seq.vfuseOut
                                              vio33 := vio33, refclkLost := lost }
  let s := s.takeHold false 0
  let s := { s with
    regs := [], vault := { s.vault with low := [] }, jtag := Jtag.reset, ot := 0, pcc := 1, timeDue := true, cseq := 0
    folio := Folio.reset, guard := Guard.reset }.forEach (List.range s.nDies) fun s d => s.dieState d 1
  let s := if lost then s.setFlag Fld.RC_CLK_REFCLK_OK 0 false else s
  s.modSeq fun q => { q with aonHeld := lost || bad.any fun x => decide (x = .vddaon) }

/-- POWER_ON_RESET (R228, R457). -/
def execPowerOnReset (vio33 : List Nat) (s : State) : Host.Outcome State Fault Refusal := .next (s.powerOn vio33 [])

/-- AON and JTAG are released once VDDAON and REFCLK are both good (R232). -/
def State.releaseAon (s : State) : State :=
  s.modSeq fun q => { q with aonHeld := q.aonHeld && (q.refclkLost || q.badSupplies.any fun x => decide (x = .vddaon)) }

/-- The supply of an absent die has no monitor (R456). -/
def State.monitored (s : State) (x : Supply) : Bool :=
  match x with
  | .vdd d | .vddm d | .vioa d | .viob d => s.present d.val
  | _ => true

/-- BROWN_OUT (R456, R458): VDDAON's is the power-on reset; a supply that is not good while a power-on reset holds merges into
it; every other is a source of its own, which ends a deferral `rc` after recognition. -/
def execBrownOut (x : Supply) (s : State) (rc : Fin 501 := 0) : Host.Outcome State Fault Refusal :=
  .next (s.when (s.monitored x) fun s =>
    let bad := if s.seq.badSupplies.any fun y => decide (y = x) then s.seq.badSupplies else s.seq.badSupplies ++ [x]
    let out := s.seq.vfuseOut || decide (x = .vfuse)
    let s := s.modSeq fun q => { q with badSupplies := bad, vfuseOut := out }
    if x = .vddaon then s.powerOn s.seq.vio33 bad
    else if s.seq.por && decide (s.seq.phase = .hold) then s
    else s.recognise .brownOut rc.val [])

/-- SUPPLY_GOOD (R456). -/
def execSupplyGood (x : Supply) (s : State) : Host.Outcome State Fault Refusal :=
  .next ((s.modSeq fun q =>
    { q with badSupplies := q.badSupplies.filter fun y => decide (y ≠ x), vfuseOut := q.vfuseOut && decide (x ≠ .vfuse) }).releaseAon)

/-- RST_N is taken as asserted. The clocks of a frozen part stand, so the spec gives no count for a deferral that the freeze found
running: a free value (notes/assumptions/41.md). -/
def State.assertRstN (s : State) : State :=
  let s := s.modSeq fun q => { q with rstN := true }
  if s.seq.frozen && s.seq.wait then s.fresh.2.recognise .rstN (s.fresh.1.toNat % 501) [] else s.recognise .rstN 0 []

/-- RST_N_ASSERT (R230): its monitor lies in AON. -/
def execRstNAssert (s : State) : Host.Outcome State Fault Refusal :=
  .next (s.when (!s.seq.rstN && !s.seq.aonHeld) fun s => s.assertRstN)

/-- PCIE_PERST (R228, R230). -/
def execPciePerst (s : State) : Host.Outcome State Fault Refusal :=
  .next (s.when (!s.seq.perstN) fun s => (s.modSeq fun q => { q with perstN := true }).recognise .perst 0 [])

/-- PCIE_LINK_RESET (R228): hot reset or link down. -/
def execPcieLinkReset (s : State) : Host.Outcome State Fault Refusal :=
  .next (s.when s.hifLive fun s => s.recognise .linkDown 0 [])

/-- LEVEL_SOURCE_RELEASED (R230, R231): RST_N, or PCIE_PERST_N where `perst` holds, reads released. -/
def execLevelSourceReleased (perst : Bool) (s : State) : Host.Outcome State Fault Refusal :=
  let src : ResetSource := if perst then .perst else .rstN
  .next (s.modSeq fun q =>
    { q with levels := q.levels.filter fun x => decide (x ≠ src)
             next := q.next.map fun y => { y with levels := y.levels.filter fun x => decide (x ≠ src) }
             rstN := q.rstN && perst, perstN := q.perstN && !perst })

/-- FLR (R228, R235): of the PF, a reset of HIF; of a VF, of its rings and its page. -/
def execFlr (f : FnId) (s : State) : Host.Outcome State Fault Refusal :=
  .next (s.when (s.hifLive && s.fnLive f.val) fun s => if f.val = 0 then s.recognise .flrPf 0 [] else s.fnReset f.val)

/-- A write of RC_DIE_RESET (R229). -/
def State.writeDieReset (s : State) (v : Word) : State :=
  (List.finRange 8).foldl (fun (s : State) d => if bitOf v.toNat d.val then s.recognise (.dieReset d) 0 [] else s) s

/-- RC_DIE_RESET_WRITE (R229). -/
def execRcDieResetWrite (req : Requester) (value : Word) (s : State) : Host.Outcome State Fault Refusal :=
  .next (s.platAccess req fun s => s.writeDieReset value)

/-- A watchdog expires (R241): the core, its die or the part, and 0xA005, at count 3,000 where the part is reset. A core's reset leaves
its watchdog running, from the expiry on (notes/assumptions/147.md). -/
def State.watchdog (s : State) (d : DieId) (k : Nat) : State :=
  let src := d.val + 8 * k
  let esc := bitsOf (s.rd .RC_WDT_ESC 0).toNat (2 * d.val) 2
  if (d.val = 0 ∧ k = 0) ∨ esc = 2 then s.recognise .watchdogPart 0 [src]
  else if esc = 1 then s.recognise (.watchdogDie d) 0 [src]
  else
    let us := s.us
    ((s.coreReset d.val k).modCore d.val k fun c => { c with kickUs := us }).report 0 0xA005 src

/-- WATCHDOG_EXPIRE (R241, R276, R287): the period has run since the watchdog last restarted; the ROM kicks its
own while it waits (R277, R291). -/
def execWatchdogExpire (d : DieId) (k : CoreId) (s : State) : Host.Outcome State Fault Refusal :=
  let c := s.core d.val k.val
  .next (s.when (s.platLive && s.live d.val && s.flag Fld.SN_WDT_RUNNING (4 * d.val + k.val) &&
      !(decide (d.val = 0) && decide (k.val = 0) && s.romKicks) && decide (1000 * c.period ≤ s.usSince c.kickUs)) fun s => s.watchdog d k.val)

/-- GUARD_RESET (R411): the response's reset is presented to the reset controller, when the burn and the programs of the records
created up to now have ended, or 2 ms after the firing. -/
def execGuardReset (s : State) : Host.Outcome State Fault Refusal :=
  .next (s.when (s.platLive && s.guard.resetDue &&
      (decide (s.guard.burn = none ∧ s.folio.staged = []) || decide (2000 ≤ s.usSince s.guard.resetUs))) fun s =>
    (s.modGuard fun g => { g with resetDue := false }).recognise .guard 0 [])

/-- RESET_HIF (R366): with the key a reset of scope HIF; otherwise INVALID_FIELD. -/
def execResetHif (f : FnId) (q : PairId) (n : Nat) (s : State) : Host.Outcome State Fault Refusal :=
  .next (s.when s.hifLive fun s =>
    match s.ringCmd f.val q.val n fun op => decide (op = 0x04) with
    | some c =>
      if subArg c.words 0 = 0x48494652 then (s.ringBegin (pairNo f.val q.val) c.serial).recognise .hifCmd 0 []
      else s.ringEnd (pairNo f.val q.val) c.serial 0 0 2
    | none => s)

/-- RESET_MERGE (R240): a further source while a reset is deferred, held or releasing. -/
def execResetMerge (src : ResetSource) (s : State) (rc : Fin 501 := 0) : Host.Outcome State Fault Refusal :=
  .next (s.when (decide (s.seq.phase ≠ .run)) fun s =>
    match src with
    | .por => s.powerOn s.seq.vio33 s.seq.badSupplies
    | .rstN => if s.seq.aonHeld then s else s.assertRstN
    | .perst => (s.modSeq fun q => { q with perstN := true }).recognise .perst 0 []
    | .watchdogPart => s.recognise .watchdogPart 0 [0]
    | .watchdogDie d => s.recognise (.watchdogDie d) 0 [d.val]
    | x => s.recognise x rc.val [])

/-! ## REFCLK (R242) -/

/-- REFCLK_LOSS: every domain but AON and JTAG is held in reset. A frozen part, whose clocks stand and whose outputs float, stays
frozen (R244, notes/assumptions/54.md). -/
def execRefclkLoss (s : State) (rc : Fin 501 := 0) : Host.Outcome State Fault Refusal :=
  .next (s.when (!s.seq.refclkLost) fun s =>
    let s := s.modSeq fun q => { q with refclkLost := true }
    if s.seq.frozen || s.seq.aonHeld then s.setFlag Fld.RC_CLK_REFCLK_OK 0 false
    else (s.modSeq fun q => { q with part := true }).takeHold true rc.val)

/-- REFCLK_GOOD: a part reset with cause CLKLOSS takes hold; where AON has been held for REFCLK, AON is released (R232). -/
def execRefclkGood (s : State) : Host.Outcome State Fault Refusal :=
  .next (s.when s.seq.refclkLost fun s =>
    let held := s.seq.aonHeld
    let s := s.modSeq fun q => { q with refclkLost := false }
    if held then (s.setFlag Fld.RC_CLK_REFCLK_OK 0 true).releaseAon else s.recognise .refclk 0 [])

/-! ## The release order (Table 7.3) -/

/-- The dies in the scope of the reset. -/
def State.scopeDies (s : State) : List Nat := if s.seq.part then List.range s.nDies else s.seq.dies

/-- The sequence ends when every domain in scope has left reset, dies that no hop reached excepted. What waited beside it is deferred
from then on. -/
def State.settle (s : State) : State :=
  let started := !(s.seq.part || decide (s.seq.dies ≠ [])) || (match s.seq.phase with
    | .rel c => decide (3000 ≤ c)
    | _ => false)
  let free := s.scopeDies.all fun d => !(s.die d).inReset || mem d s.seq.untrained
  if started && free && !s.seq.platReset && !s.seq.hifReset && !s.seq.rlvReset then
    s.modSeq fun q =>
      let x := q.next.getD SeqScope.none
      { q.withScope { x with levels := q.levels ++ x.levels } with
        phase := if q.next.isSome then .deferred else .run, por := false, next := none }
  else s

/-- The sequence has reached a row's count. -/
def State.atRow (s : State) (c : Nat) : Bool := decide (s.seq.phase = .rel c) && s.sequencing

/-- The sequence has passed a count. -/
def State.pastRow (s : State) (c : Nat) : Bool :=
  match s.seq.phase with
  | .rel x => decide (c ≤ x) && s.sequencing
  | _ => false

/-- A row of the sequence has run. -/
def State.toRow (s : State) (c : Nat) : State := s.modSeq fun q => { q with phase := .rel c }

/-- HOLD_END (R231, R242, R458): count 25, with every level source released and every supply good. -/
def execHoldEnd (s : State) : Host.Outcome State Fault Refusal :=
  .next (s.when (decide (s.seq.phase = .hold) && s.sequencing && decide (s.seq.levels = []) && decide (s.seq.badSupplies = []) &&
    !s.seq.refclkLost) fun s => s.toRow 25)

/-- PLL_RETRY (R233). -/
def execPllRetry (unlocked : List DieId) (s : State) : Host.Outcome State Fault Refusal :=
  let ds := (unlocked.map fun d => d.val).filter fun d => mem d s.scopeDies
  .next (s.when (s.atRow 25 && decide (ds ≠ [])) fun s =>
    let s := (s.setFlag Fld.RC_CAUSE_PLL_RETRY 0 true).modSeq fun q => { q with pll := true }
    s.forEach ds fun s d => s.setF { reg := .RC_CLK, lo := d, width := 1 } 0 0)

/-- Lines whose filtered level stands at ACT_LVL when PLAT is released fire once (R406). -/
def State.psnsAtRelease (s : State) : State :=
  s.forEach (List.range 16) fun s p =>
    if bitOf (s.getF Fld.GD_PSNS_FILTERED 0) p = s.flag Fld.GD_SRC_CFG_ACT_LVL (72 + p) ∧ s.flag Fld.GD_SRC_CFG_ENABLE (72 + p) ∧
        !mem (72 + p) s.guard.latched
    then s.fire (72 + p) else s

/-- RELEASE_FUSE (R232, R302, R405, R409): fuse and slow domains release. -/
def execReleaseFuse (s : State) : Host.Outcome State Fault Refusal :=
  .next (s.when (s.atRow 25 && (s.seq.part || decide (s.seq.dies ≠ []))) fun s =>
    let s := s.toRow 1300
    let s := s.forEach s.scopeDies fun s d => s.setF { reg := .RC_CLK, lo := d, width := 1 } 0 1
    if s.seq.part then
      let s := (s.modSeq fun q => { q with platReset := false }).fuseStart.psnsAtRelease
      s.takeLatched (s.guard.latched.filter s.takable)
    else s.forEach s.seq.dies fun s d => (s.tableCheck d).checkTrim d)

/-- The hops of die d are up or down, at both ends. -/
def State.hopsOf (s : State) (d : Nat) (up : Bool) : State :=
  let s := (s.setFlag Fld.FB_STATUS_UP_OK d up).setFlag Fld.FB_STATUS_DN_OK d up
  (s.setFlag Fld.FB_STATUS_DN_OK (s.hopPeer d false) up).setFlag Fld.FB_STATUS_UP_OK (s.hopPeer d true) up

/-- RELEASE_FABRIC (R232): the hops train. -/
def execReleaseFabric (s : State) : Host.Outcome State Fault Refusal :=
  .next (s.when (s.atRow 1300) fun s => (s.toRow 2600).forEach s.scopeDies fun s d => s.hopsOf d true)

/-- TRAINING_DEADLINE (R212, R232): a die that no hop reaches stays in reset and shows unreachable. -/
def execTrainingDeadline (unreached : List DieId) (s : State) : Host.Outcome State Fault Refusal :=
  .next (s.when (s.atRow 2600) fun s =>
    let ds := (unreached.map fun d => d.val).filter fun d => decide (d ≠ 0) && mem d s.scopeDies
    let s := (s.toRow 2850).modSeq fun q => { q with untrained := ds }
    s.forEach ds fun s d =>
      let s := ((s.hopsOf d false).dieState d 3).modDie d fun x => { x with reachable := false, lossSeen := false }
      (s.report 0 0x5003 d).modQueue d fun q => { q with unreach := true })

/-- RELEASE_HASH_CRYPTO (R222, R232, R324, R328): every lane and key unit tests itself, and die 0's unit agrees transport
keys. `badLanes` and `badKeyUnits` fail. -/
def execReleaseHashCrypto (badLanes : List (DieId × Fin 4)) (badKeyUnits : List DieId) (s : State) :
    Host.Outcome State Fault Refusal :=
  .next (s.when (s.atRow 2850) fun s =>
    let ds := s.scopeDies.filter fun d => !mem d s.seq.untrained
    let s := s.toRow 2900
    let s := s.forEach ds fun s d => s.forEach (List.range 4) fun s k =>
      s.laneKat d k (!badLanes.any fun x => decide (x.1.val = d) && decide (x.2.val = k))
    let bad := (badKeyUnits.map fun d => d.val).filter fun d => mem d ds
    let s := s.forEach bad fun s d =>
      (s.modKeys fun k => { k with bad := if mem d k.bad then k.bad else k.bad ++ [d] }).report 0 0x7002 d
    if s.seq.part then s.forEach (ds.filter fun d => decide (d ≠ 0)) fun s d => s.agreeTransport d else s)

/-- The faults of the last sequence are reported (R233, R239, R241, R242). -/
def State.sequenceFaults (s : State) : State :=
  let q := s.seq
  let s := if q.cut then s.report 0 0xA002 (openSource 0xA002) else s
  let s := if q.pll then s.report 0 0xA003 (openSource 0xA003) else s
  let s := if q.clk then s.report 0 0xA004 (openSource 0xA004) else s
  let s := s.forEach q.wdt fun s x => s.report 0 0xA005 x
  s.modSeq fun q => { q with cut := false, pll := false, clk := false, wdt := [] }

/-- RELEASE_SENTRY (R232, R234, R240, R286, R287): count 3,000. In a part sequence core 0 of die 0 starts the mask ROM, whose start
address is a free value; in any the part reports the faults of the last sequence. -/
def execReleaseSentry (s : State) : Host.Outcome State Fault Refusal :=
  .next (s.when (s.atRow 2900) fun s =>
    let s := s.toRow 3000
    let s :=
      if s.seq.part then
        let s := s.coreRelease 0 0
        let r := s.fresh
        let s := r.2.modCore 0 0 fun c => { c with pc := r.1 }
        if s.seq.counted then s.setF Fld.RC_COUNT_PART 0 (min (s.getF Fld.RC_COUNT_PART 0 + 1) 0xFFFF) else s
      else s
    s.sequenceFaults.settle)

/-- Die d returns from a reset of its own (R21, R212, R234, R324): its queue, its transport key and the keys that die 0's unit,
where it holds them, places there. -/
def State.dieReturns (s : State) (d : Nat) : State :=
  let s := (s.modQueue d fun q => { q with next := 0, unreach := false }).agreeTransport d
  if !s.keys.holds0 ∨ mem d s.keys.bad then s
  else
    let s := s.modKeys fun k =>
      { k with sealing := if mem d k.sealing then k.sealing else k.sealing ++ [d], holds1 := k.holds1 || decide (d = 1) }
    s.showKeys

/-- The domains of Table 7.3's rows before die d's have been released: dies release in ascending order. -/
def State.diesBefore (s : State) (d : Nat) : Bool :=
  s.scopeDies.all fun e => decide (d ≤ e) || !(s.die e).inReset || mem e s.seq.untrained

/-- The count at which a sequence's own domains begin to release: 3,000 where it brings dies back; HIF alone has no earlier row than
the end of the hold. -/
def State.pastSentry (s : State) : Bool := s.pastRow (if s.seq.part ∨ s.seq.dies ≠ [] then 3000 else 25)

/-- RELEASE_DIE (R24, R232, R234): count 3,010 + 8d. -/
def execReleaseDie (d : DieId) (s : State) : Host.Outcome State Fault Refusal :=
  .next (s.when (mem d.val s.scopeDies && (s.die d.val).inReset && !mem d.val s.seq.untrained && s.pastRow 3000 &&
      s.diesBefore d.val) fun s =>
    let s := (s.modDie d.val fun x => { x with inReset := false, reachable := true, lossSeen := false, lostGates := none }).dieState
      d.val 2
    let s := if s.seq.part then s else s.dieReturns d.val
    s.settle)

/-- RELEASE_HIF (R232, R235): after the dies. -/
def execReleaseHif (s : State) : Host.Outcome State Fault Refusal :=
  .next (s.when (s.seq.hifReset && s.pastSentry && s.diesBefore s.nDies) fun s =>
    (s.modSeq fun q => { q with hifReset := false }).settle)

/-- RELEASE_RLV (R232): after HIF. -/
def execReleaseRlv (s : State) : Host.Outcome State Fault Refusal :=
  .next (s.when (s.seq.rlvReset && s.pastRow 3000 && !s.seq.hifReset) fun s =>
    (s.modSeq fun q => { q with rlvReset := false }).settle)

/-- PCIE_LINK_UP: link training ends; SPEED and WIDTH as HI_STATUS shows them. -/
def execPcieLinkUp (speed width : Nat) (s : State) : Host.Outcome State Fault Refusal :=
  .next (s.when (s.hifLive && !s.seq.perstN) fun s =>
    ((s.setFlag Fld.HI_STATUS_LINK_UP 0 true).setF Fld.HI_STATUS_SPEED 0 speed).setF Fld.HI_STATUS_WIDTH 0 width)

/-! ## Freeze (R243, R244) -/

/-- The part freezes: frames end, the keys are cleared in PROVISION, FIELD and END, and the clocks stop. -/
def State.freeze (s : State) : State :=
  let ds := (List.range s.nDies).filter fun d => s.live d
  let s := s.forEach ds fun s d => (s.cutDie d).emit (.floated (.die 1) d)
  let s := s.forEach [0, 1, 2] fun s p => s.cutPort p
  let s := (((s.emit (.floated .plat 0)).emit (.floated .port 0)).emit (.floated .hif 0)).emit (.floated .rlv 0)
  let s := if s.lc = 2 ∨ s.lc = 3 ∨ s.lc = 5 then s.zeroise else s
  s.modSeq fun q => { q with frozen := true }

/-- FRZ_N_ASSERT (R230, R243): in every life-cycle state. -/
def execFrzNAssert (s : State) : Host.Outcome State Fault Refusal :=
  .next (s.when (!s.seq.frozen && !s.seq.aonHeld) fun s => (s.modSeq fun q => { q with frzN := true }).freeze)

/-! ## The test access port (R246) -/

/-- Change the TAP's state. -/
def State.modJtag (s : State) (f : Jtag → Jtag) : State := { s with jtag := f s.jtag }

/-- BYPASS is in force; its one-bit register captures 0 (IEEE 1149.1). -/
def State.bypass (s : State) : State := (s.modJtag fun j => { j with ir := 0xFF }).emit (.tdo [false])

/-- TAP_RESET (R228): TRST_N, or five TCK rises with TMS high. -/
def execTapReset (s : State) : Host.Outcome State Fault Refusal := .next { s with jtag := Jtag.reset }

/-- FREEZE (R243): in RAW, TEST and RETURN; elsewhere BYPASS. -/
def execFreeze (s : State) : Host.Outcome State Fault Refusal :=
  .next (s.when (!s.seq.aonHeld) fun s =>
    if s.lc ≤ 1 ∨ s.lc = 4 then
      let s := s.modJtag fun j => { j with ir := 0x20 }
      if s.seq.frozen then s else s.freeze
    else s.bypass)

/-- EXTEST (R246): the boundary cells drive the pins in RAW and TEST. A frozen part floats every output but TDO (R243). -/
def execExtest (cells : List Bool) (s : State) : Host.Outcome State Fault Refusal :=
  .next (s.when (!s.seq.aonHeld) fun s =>
    if s.lc ≤ 1 then
      let s := s.modJtag fun j => { j with ir := 0x00, cells := cells }
      if s.seq.frozen then s else s.emit (.pins cells)
    else s.bypass)

/-- IDCODE (R470), bit 0 first. -/
def execIdcode (s : State) : Host.Outcome State Fault Refusal :=
  let v := s.getF Fld.PART_INFO_STEPPING 0 * 2 ^ 28 + s.getF Fld.PART_INFO_PART_CODE 0 * 2 ^ 12 + Config.jep106.toNat * 2 + 1
  .next (s.when (!s.seq.aonHeld) fun s => (s.modJtag fun j => { j with ir := 0x01 }).emit (.tdo (wordBits (BitVec.ofNat 32 v))))

/-- SAMPLE_PRELOAD (R246): allowed but in END. -/
def execSamplePreload (cells : List Bool) (s : State) : Host.Outcome State Fault Refusal :=
  .next (s.when (!s.seq.aonHeld) fun s =>
    if s.lc ≤ 4 then s.modJtag fun j => { j with ir := 0x02, cells := cells } else s.bypass)

/-- BYPASS (R246). -/
def execBypass (s : State) : Host.Outcome State Fault Refusal := .next (s.when (!s.seq.aonHeld) fun s => s.bypass)

end Sys2Proof.Machine
end

