-- ==== Sys2Proof/Machine/Ralver.lean ====
section
/-! DEFINITION. The Ralver chain link (13): ports and link sequence, routing, neighbours, roll call, image sessions and their
relay, the rings of firmware, and signed commands (R297, R387 to R402). Ports are `false` for UP and `true` for DN. -/

namespace Sys2Proof.Machine

/-- Change the Ralver engine's state. -/
def State.modRv (s : State) (f : Rv → Rv) : State := { s with rv := f s.rv }

/-- A port. -/
def State.rvPort (s : State) (p : Bool) : RvPort := if p then s.rv.portDn else s.rv.portUp

/-- Change a port. -/
def State.modRvPort (s : State) (p : Bool) (f : RvPort → RvPort) : State :=
  s.modRv fun r => if p then { r with portDn := f r.portDn } else { r with portUp := f r.portUp }

/-- Own position, where one is held. -/
def State.rvPos (s : State) : Nat := s.getF Fld.RV_STATUS_POSITION 0

/-- A number is the position the part holds. -/
def State.isHere (s : State) (n : Nat) : Bool := s.flag Fld.RV_STATUS_POS_VALID 0 && decide (n % 1024 = s.rvPos)

/-! ## Parcels (Table 13.2) -/

def pBcast (x : Parcel) : Bool := bitOf x.flags.toNat 0
def pRescue (x : Parcel) : Bool := bitOf x.flags.toNat 1
def pBoth (x : Parcel) : Bool := bitOf x.flags.toNat 2
def pResend (x : Parcel) : Bool := bitOf x.flags.toNat 3

/-- The header of a parcel as bytes. -/
def pHeader (x : Parcel) : List Byte :=
  x.type :: x.flags :: (beBytes 2 x.src ++ beBytes 2 x.dst ++ beBytes 2 x.hops ++ beBytes 2 x.session ++
    beBytes 2 x.payload.length ++ beBytes 3 x.seq ++ [x.lseq])

/-- A character on a port's line: a control character K28.x or K27.7, K29.7, K30.7 by its number, or a data byte (Table 13.1). -/
inductive RvChar where
  | control (x y : Nat)
  | data (b : Byte)
  deriving DecidableEq, Repr

/-- The characters of a parcel on the wire (R390): K27.7, header, payload, their CRC-32C, K29.7. The spec gives the CRC no byte
order; big-endian as the header is a DESIGN CHOICE (log entry 151). -/
def pWire (x : Parcel) : List RvChar :=
  let b := pHeader x ++ x.payload
  .control 27 7 :: ((b ++ beBytes 4 (crc32c b).toNat).map .data ++ [.control 29 7])

/-- A parcel of the part's own making. -/
def State.ownParcel (s : State) (typ flags dst : Nat) (payload : List Byte) : Parcel :=
  { type := BitVec.ofNat 8 typ, flags := BitVec.ofNat 8 flags, src := s.rvPos, dst := dst, hops := 0, session := 0, seq := 0,
    lseq := 0, payload := payload }

/-! ## Sending (R389, R391) -/

/-- A port whose kept parcels are l from now on. -/
def RvPort.keep (r : RvPort) (l : List Parcel) (us : Word) : RvPort :=
  { r with kept := l, resends := r.resends.filter (fun n => l.any fun x => decide (x.lseq = n)), since := us }

/-- Send a parcel on a port: it takes the port's next LSEQ and is kept until it is acknowledged. A port that is down sends
nothing. -/
def State.rvSend (s : State) (p : Bool) (x : Parcel) : State :=
  let q := s.rvPort p
  if !q.up then s
  else
    let x := { x with lseq := BitVec.ofNat 8 q.tx }
    let kept := q.kept ++ [x]
    let us := s.us
    let s := s.modRvPort p fun r =>
      { r.keep (kept.drop (kept.length - 16)) (if r.kept = [] then us else r.since) with tx := (r.tx + 1) % 256 }
    (s.emit (.parcel p x)).count 0 (0x3EC + b2n p) 1

/-- Send a parcel that the part originates: a broadcast goes out of DN, and out of both ports with BOTHWAY, which BROKEN sets
(R394); any other goes toward its destination. -/
def State.rvOriginate (s : State) (x : Parcel) : State :=
  if pBcast x then
    if pBoth x ∨ s.flag Fld.RV_STATUS_BROKEN 0 then
      let x := { x with flags := x.flags ||| 4#8 }
      (s.rvSend false x).rvSend true x
    else s.rvSend true x
  else s.rvSend (decide (s.rvPos < x.dst)) x

/-- Pass a parcel on: away from the port it came in on, one hop further, or by its route where the part originates it. -/
def State.rvPass (s : State) (src : Option Bool) (x : Parcel) : State :=
  match src with
  | some p => s.rvSend (!p) { x with hops := x.hops + 1 }
  | none => s.rvOriginate x

/-- Bytes of an entry of either ring. -/
def rvEntry : Nat := 0x1020

/-- Entries of the receive ring. -/
def State.rvRxSize (s : State) : Nat := 2 ^ min 9 (max 4 (s.getF Fld.RV_RXPTR_SIZE 0))

/-- Deliver a parcel to the receive ring, or drop it with 0xC008 where the ring is full. -/
def State.rvDeliver (s : State) (src : Option Bool) (x : Parcel) : State :=
  let n := s.rvRxSize
  let t := s.getF Fld.RV_RXPTR_TAIL 0 % n
  if (t + 1) % n = s.getF Fld.RV_RXPTR_HEAD 0 % n then s.report 0 0xC008 (b2n (src.getD false))
  else
    let s := s.sramStore 0 ((s.rd .RV_RXBASE 0).toNat + rvEntry * t) (pHeader x ++ x.payload)
    s.setF Fld.RV_RXPTR_TAIL 0 ((t + 1) % n)

/-- Send a parcel back toward where another came from: the part's own firmware finds it in the receive ring. -/
def State.rvBack (s : State) (src : Option Bool) (x : Parcel) : State :=
  match src with
  | some p => s.rvSend p x
  | none => s.rvDeliver none x

/-- IDENT on a port (R392). -/
def State.sendIdent (s : State) (p : Bool) : State :=
  let id := if s.identity then s.deviceId else List.replicate 48 0
  s.rvSend p (s.ownParcel 0x01 0 0 (id ++ beBytes 4 (s.rd .PART_INFO 0).toNat ++ beBytes 4 s.pcc ++ List.replicate 8 0))

/-! ## Ports (R388, R389, R394) -/

/-- The RV_STATUS bit of a port. -/
def State.showLink (s : State) (p up : Bool) : State :=
  s.setFlag (if p then Fld.RV_STATUS_DN_LINK else Fld.RV_STATUS_UP_LINK) 0 up

/-- PORT_UP (R388, R392). -/
def execPortUp (p : Bool) (s : State) : Host.Outcome State Fault Refusal :=
  .next (s.when (s.rlvLive && !(s.rvPort p).up) fun s =>
    ((s.modRvPort p fun _ => { RvPort.reset with up := true }).showLink p true).sendIdent p)

/-- A port goes down: 0xC001, and in a loop BREAK out of the other port. -/
def State.portDown (s : State) (p : Bool) : State :=
  let s := ((s.modRvPort p fun _ => RvPort.reset).showLink p false).report 0 0xC001 (b2n p)
  if s.flag Fld.RV_STATUS_LOOP 0 then
    s.rvSend (!p) (s.ownParcel 0x04 0 0 (beBytes 2 s.rvPos ++ [BitVec.ofNat 8 (b2n p), 0]))
  else s

/-- PORT_DOWN (R388, R394). -/
def execPortDown (p : Bool) (s : State) : Host.Outcome State Fault Refusal :=
  .next (s.when (s.rlvLive && (s.rvPort p).up) fun s => s.portDown p)

/-- A port whose parcels l were resent; it has the resends of each kept parcel by LSEQ. -/
def RvPort.resent (r : RvPort) (l : List Parcel) (us : Word) : RvPort :=
  { r with resends := r.resends ++ l.map (fun x => x.lseq), since := us }

/-- One of the parcels l has been resent three times. -/
def RvPort.spent (r : RvPort) (l : List Parcel) : Bool := l.any fun x => decide (3 ≤ r.resends.count x.lseq)

/-- Resend the kept parcels from one on; after the third resend of one parcel the port goes down. -/
def State.resend (s : State) (p : Bool) (l : List Parcel) : State :=
  if l = [] then s
  else
    let s := l.foldl (fun (s : State) x => s.emit (.parcel p x)) s
    let us := s.us
    let s := s.modRvPort p fun r => r.resent l us
    if (s.rvPort p).spent l then s.portDown p else s

/-- LINK_ACK (R389): an acknowledge releases the parcels up to x; a negative acknowledge resends from x. -/
def execLinkAck (p nak : Bool) (x : Byte) (s : State) : Host.Outcome State Fault Refusal :=
  .next (s.when (s.rlvLive && (s.rvPort p).up) fun s =>
    let us := s.us
    let kept := (s.rvPort p).kept
    let fromX := kept.dropWhile fun y => decide (y.lseq ≠ x)
    if nak then s.resend p fromX
    else if fromX = [] then s
    else s.modRvPort p fun r => r.keep (fromX.drop 1) us)

/-- RESEND_TIMEOUT (R389). -/
def execResendTimeout (p : Bool) (s : State) : Host.Outcome State Fault Refusal :=
  .next (s.when (s.rlvLive && (s.rvPort p).up && decide ((s.rvPort p).kept ≠ []) &&
      decide (100 ≤ s.usSince (s.rvPort p).since)) fun s =>
    (s.report 0 0xC002 (b2n p)).resend p (s.rvPort p).kept)

/-! ## Receiving (R389, R391) -/

/-- The engine or firmware handles parcels of a type (Table 13.3). -/
def rvKnown (t : Nat) : Bool :=
  decide (1 ≤ t ∧ t ≤ 4) || decide (0x10 ≤ t ∧ t ≤ 0x16) || decide (t = 0x20) || decide (t = 0x21) || decide (t = 0x30)

/-- A parcel that has come round or travelled too far is discarded (R391); ROLLCALL returns to its head on purpose (R393). -/
def State.rvStale (s : State) (x : Parcel) : Bool :=
  decide (1024 ≤ x.hops) || (s.isHere x.src && decide (1 ≤ x.hops) && decide (x.type ≠ 0x02))

/-- PARCEL_RECEIVE (R389, R391). -/
def execParcelReceive (p : Bool) (parcel : Parcel) (crcOk : Bool) (s : State) : Host.Outcome State Fault Refusal :=
  .next (s.when (s.rlvLive && (s.rvPort p).up) fun s =>
    let q := s.rvPort p
    if !crcOk ∨ parcel.lseq.toNat ≠ q.rx then
      if q.discard then s
      else ((s.modRvPort p fun r => { r with discard := true }).report 0 0xC002 (b2n p)).emit
        (.linkAck p true (BitVec.ofNat 8 q.rx))
    else
      let s := s.modRvPort p fun r => { r with rx := (r.rx + 1) % 256, discard := false }
      let s := (s.emit (.linkAck p false parcel.lseq)).count 0 (0x3EE + b2n p) 1
      if s.rvStale parcel then s
      else if rvKnown parcel.type.toNat then s.modRv fun r => { r with inq := r.inq ++ [(p, parcel)] }
      else if pBcast parcel || !s.isHere parcel.dst then s.rvPass (some p) parcel
      else s)

/-- The parcel at the head of the input, where it has the type. -/
def State.rvHead (s : State) (typ : Nat) : Option ((Bool × Parcel) × State) :=
  match s.rv.inq with
  | [] => none
  | x :: t => if x.2.type.toNat = typ ∧ s.rlvLive then some (x, s.modRv fun r => { r with inq := t }) else none

/-- Handle the parcel at the head of the input. -/
def State.rvTake (s : State) (typ : Nat) (f : State → Bool → Parcel → State) : State :=
  match s.rvHead typ with
  | some (x, s) => f s x.1 x.2
  | none => s

/-! ## Rings of firmware (R391) -/

/-- A parcel for firmware: it is delivered here, passed on, or both. -/
def State.rvFirmware (s : State) (p : Bool) (x : Parcel) : State :=
  let mine := pBcast x || s.isHere x.dst
  let s := if mine then s.rvDeliver (some p) x else s
  if pBcast x || !mine then s.rvPass (some p) x else s

/-- RESEND_REQ (R398): for the firmware of the origin. -/
def execResendReq (s : State) : Host.Outcome State Fault Refusal := .next (s.rvTake 0x15 State.rvFirmware)

/-- BUSY (R397): for the firmware of the origin. -/
def execRvBusy (s : State) : Host.Outcome State Fault Refusal := .next (s.rvTake 0x16 State.rvFirmware)

/-- REPLY (R401): for the firmware of the origin. -/
def execRvReply (s : State) : Host.Outcome State Fault Refusal := .next (s.rvTake 0x21 State.rvFirmware)

/-- MESSAGE (R391). -/
def execRvMessage (s : State) : Host.Outcome State Fault Refusal := .next (s.rvTake 0x30 State.rvFirmware)

/-! ## Neighbours and roll call (R392 to R394) -/

/-- IDENT (R392, R425): compared with the folio's last record for the port, once the folio is open. -/
def execRvIdent (s : State) : Host.Outcome State Fault Refusal :=
  .next (s.rvTake 0x01 fun s p x =>
    let id := sliceB x.payload 0 48
    let s := s.putBytes .RV_NBR (12 * b2n p) 12 id
    if s.folio.opened then s.neighbour p id
    else s.modRv fun r => { r with early := r.early ++ [(p, id)] })

/-- ROLLDONE out of a port, recorded here too. -/
def State.rollDone (s : State) (p : Bool) (count : Nat) (loop : Bool) : State :=
  let s := (s.setF Fld.RV_STATUS_COUNT 0 count).setFlag Fld.RV_STATUS_LOOP 0 loop
  s.rvSend p (s.ownParcel 0x03 0 0 (beBytes 2 count ++ [BitVec.ofNat 8 (b2n loop), 0]))

/-- A roll call reaches the part: BROKEN clears, and IDENT goes out of both ports (R392, R394). -/
def State.rollBegin (s : State) : State := ((s.setFlag Fld.RV_STATUS_BROKEN 0 false).sendIdent false).sendIdent true

/-- Take a position in a roll call. -/
def State.rollTake (s : State) (pos : Nat) : State :=
  ((s.setF Fld.RV_STATUS_POSITION 0 pos).setFlag Fld.RV_STATUS_POS_VALID 0 true).rollBegin

/-- The payload of a ROLLCALL. -/
def rollPayload (next : Nat) (id : List Byte) : List Byte := beBytes 2 next ++ [0, 0] ++ id

/-- RV_CMD ROLLCALL (R393). -/
def State.rollCall (s : State) : State :=
  if (s.rvPort false).up ∧ !s.flag Fld.RV_CTRL_HEAD 0 then s.report 0 0xC007 (openSource 0xC007)
  else
    let s := s.rollTake 0
    if (s.rvPort true).up then s.rvSend true (s.ownParcel 0x02 0 0 (rollPayload 1 s.deviceId))
    else (s.setF Fld.RV_STATUS_COUNT 0 1).setFlag Fld.RV_STATUS_LOOP 0 false

/-- ROLLCALL_PARCEL (R393). -/
def execRollcallParcel (s : State) : Host.Outcome State Fault Refusal :=
  .next (s.rvTake 0x02 fun s p x =>
    let next := ofBe (sliceB x.payload 0 2)
    let id := sliceB x.payload 4 48
    if p then s
    else if s.flag Fld.RV_CTRL_HEAD 0 ∧ id = s.deviceId then s.rollDone true next true
    else if 1024 ≤ next then (s.rollBegin.setFlag Fld.RV_STATUS_POS_VALID 0 false).report 0 0xC004 (b2n p)
    else
      let s := s.rollTake next
      if (s.rvPort true).up then s.rvPass (some false) { x with payload := rollPayload (next + 1) id }
      else s.rollDone false (next + 1) false)

/-- ROLLDONE (R393). -/
def execRolldone (s : State) : Host.Outcome State Fault Refusal :=
  .next (s.rvTake 0x03 fun s p x =>
    let s := s.setF Fld.RV_STATUS_COUNT 0 (ofBe (sliceB x.payload 0 2))
    (s.setFlag Fld.RV_STATUS_LOOP 0 (bitOf (byteAt x.payload 2).toNat 0)).rvPass (some p) x)

/-- BREAK (R394). -/
def execRvBreak (s : State) : Host.Outcome State Fault Refusal :=
  .next (s.rvTake 0x04 fun s p x => (s.setFlag Fld.RV_STATUS_BROKEN 0 true).rvPass (some p) x)

/-! ## Image sessions (R297, R395 to R398) -/

/-- Change the open session. -/
def State.modSession (s : State) (f : RvSession → RvSession) : State :=
  s.modRv fun r => { r with session := r.session.map f }

/-- The session ends here; a rescue image of it that is not complete is discarded. -/
def State.sessionEnd (s : State) : State :=
  let ralver := s.boot.rescue.any fun x => x.ralver
  let s := if ralver ∧ s.boot.image.isNone then s.rescueFail else s
  (s.modRv fun r => { r with session := none }).setFlag Fld.RV_STATUS_SESSION 0 false

/-- The session is refused at its opening or its colophon: 0xC006. -/
def State.sessionRefused (s : State) (src : Option Bool) : State :=
  (s.report 0 0xC006 (b2n (src.getD false))).sessionEnd

/-- A group or a relay block fails: 0x6308. -/
def State.relayFailed (s : State) : State := (s.bootFault (s.getF Fld.BT_STATUS_SLOT 0) 0x6308).sessionEnd

/-- The part delivers parcels of the session to firmware (R396). -/
def State.targeted (s : State) (x : RvSession) : Bool :=
  s.flag Fld.RV_STATUS_POS_VALID 0 && decide (x.low ≤ s.rvPos) && decide (s.rvPos ≤ x.high)

/-- A parcel belongs to a session: its number, and the origin that opened it. -/
def RvSession.has (x : RvSession) (y : Parcel) : Bool := decide (x.number = y.session) && decide (x.origin = y.src)

/-- A parcel of the session is cleared: it is passed on, unless it ends here (R391), and at a target delivered. -/
def State.sessionClear (s : State) (x : RvSession) (src : Option Bool) (y : Parcel) : State :=
  let s := if src.isSome ∧ !pBcast y ∧ s.isHere y.dst then s else s.rvPass src y
  if s.targeted x ∧ s.flag Fld.RV_CTRL_DLV_EN 0 ∧ !x.rescue then s.rvDeliver src y else s

/-- OPEN (R395, R397). -/
def State.sessionOpen (s : State) (src : Option Bool) (y : Parcel) : State :=
  match s.rv.session with
  | some x =>
    if x.has y then s
    else s.rvBack src (s.ownParcel 0x16 0 y.src (beBytes 2 y.session))
  | none =>
    let leaves := ofBe (sliceB y.payload 4 4)
    let low := ofBe (sliceB y.payload 0 2)
    let high := ofBe (sliceB y.payload 2 2)
    if y.seq ≠ 0 ∨ leaves = 0 ∨ 16384 < leaves then s.report 0 0xC006 (b2n (src.getD false))
    else
      let x : RvSession :=
        { number := y.session, origin := y.src, rescue := false, low := low, high := high, leaves := leaves,
          depth := (byteAt y.payload 8).toNat, next := 1, colophon := [], held := [], groups := [], block := [], again := [], since := s.us }
      let rom := pRescue y && s.rescueOpen && s.boot.rescue.isNone && s.targeted x
      let x := { x with rescue := rom }
      let s := (s.modRv fun r => { r with session := some x }).setFlag Fld.RV_STATUS_SESSION 0 true
      let fresh : Rescue := { next := 0, buf := [], colophon := [], groups := [], image := none, ralver := true }
      let s := if rom then s.modBoot fun b => { b with rescue := some fresh } else s
      s.sessionClear x src y

/-- The groups of levels DEPTH − 1 to 1, in order (R395, item 3). -/
def upperGroups (leaves : Nat) : List (Nat × Nat) := (streamGroups leaves).filter fun g => decide (g.1 ≠ 0)

/-- TREE parcels that carry the upper levels. -/
def upperParcels (leaves : Nat) : Nat := ceilDiv (upperGroups leaves).length 8

/-- The groups that the TREE parcel with a SEQ carries; none where the SEQ is not a TREE parcel's. -/
def treeAt (leaves q : Nat) : Option (List (Nat × Nat)) :=
  let u := upperParcels leaves
  if q < 3 then none
  else if q < 3 + u then some (((upperGroups leaves).drop (8 * (q - 3))).take 8)
  else
    let r := q - 3 - u
    if r % 17 ≠ 0 ∨ leaves ≤ 16 * (r / 17) then none
    else some (([2 * (r / 17), 2 * (r / 17) + 1].filter fun k => decide (8 * k < leaves)).map fun k => (0, k))

/-- The leaf that the BLOCK parcel with a SEQ carries. -/
def leafAt (leaves q : Nat) : Option Nat :=
  let u := upperParcels leaves
  if q < 4 + u then none
  else
    let r := q - 3 - u
    let leaf := 16 * (r / 17) + r % 17 - 1
    if r % 17 = 0 ∨ leaves ≤ leaf then none else some leaf

/-- The groups of a TREE payload: level, index, the slot's bytes. -/
def slotsOf (gs : List (Nat × Nat)) (payload : List Byte) : List (Nat × Nat × List Byte) :=
  (gs.zipIdx).map fun x => (x.1.1, x.1.2, sliceB payload (512 * x.2) 512)

/-- Every group of a TREE payload passes against its trusted parent (R130, R297). -/
def groupsPass (x : RvSession) (gs : List (Nat × Nat)) (all : List (Nat × Nat × List Byte)) : Bool :=
  gs.all fun g => (treeGroup x.leaves (coRoot x.colophon) all (x.depth - g.1) g.2).isSome

/-- Pass on and deliver every parcel that is held. -/
def State.clearAll (s : State) (x : RvSession) (l : List (Option Bool × Parcel)) : State :=
  l.foldl (fun (s : State) y => s.sessionClear x y.1 y.2) s

/-- Parcels that the part missed are passed over: once the upper levels have passed, a later relay block may come next, since each
parcel's leaves follow from its SEQ (R395, R398; DEDUCED, log entry 152). A rescue image lacks no block. -/
def RvSession.mayBegin (x : RvSession) (q : Nat) : Bool :=
  !x.rescue && decide (x.colophon ≠ []) && decide (3 + upperParcels x.leaves ≤ x.next) && decide (x.next ≤ q) &&
    (treeAt x.leaves q).isSome

/-- A parcel belongs to the open session, and has a SEQ that may come next. -/
def State.sessionNext (s : State) (y : Parcel) : Option RvSession :=
  match s.rv.session with
  | some x => if x.has y ∧ (x.next = y.seq ∨ x.mayBegin y.seq) ∧ !pResend y then some x else none
  | none => none

/-- COLOPHON (R396): the two halves pass together, or the session ends with 0xC006. -/
def State.sessionColophon (s : State) (src : Option Bool) (y : Parcel) : State :=
  match s.sessionNext y with
  | none => s
  | some x =>
    let held := x.held ++ [(src, y)]
    let s := s.modSession fun z => { z with next := z.next + 1, held := held }
    if held.length < 2 then s
    else
      let c := held.flatMap fun h => h.2.payload
      let mfg := x.rescue && decide (s.lc ≤ 1)
      let r := s.imageRefusal c none none mfg
      let s := s.coReads c mfg
      if r.isSome ∨ c.length ≠ 8192 ∨ coLeaves c ≠ x.leaves ∨ coDepth c ≠ x.depth then s.sessionRefused src
      else
        let s := s.modSession fun z => { z with colophon := c, held := [] }
        let s := if x.rescue then s.modRescue fun q => { q with colophon := c } else s
        s.clearAll x held

/-- TREE (R297, R396): groups of an upper level pass on at once, those of a relay block with its leaves. -/
def State.sessionTree (s : State) (src : Option Bool) (y : Parcel) : State :=
  match s.sessionNext y with
  | none => s
  | some x =>
    match treeAt x.leaves y.seq with
    | none => s
    | some gs =>
      let slots := slotsOf gs y.payload
      let all := x.groups.filter (fun g => decide (g.1 ≠ 0)) ++ slots
      if !groupsPass x gs all then s.relayFailed
      else
        let s := s.modSession fun z => { z with next := y.seq + 1, groups := all }
        let s := if x.rescue then s.modRescue fun q => { q with groups := q.groups ++ slots } else s
        if gs.all fun g => decide (g.1 ≠ 0) then s.sessionClear x src y
        else s.modSession fun z => { z with block := [(src, y)] }

/-- A relay block ends with a leaf. -/
def blockEnds (leaves leaf : Nat) : Bool := decide (leaf % 16 = 15) || decide (leaf + 1 = leaves)

/-- BLOCK (R297): the relay block passes on when its last leaf has passed; a leaf that fails ends the session. -/
def State.sessionBlock (s : State) (src : Option Bool) (y : Parcel) : State :=
  match s.sessionNext y with
  | none => s
  | some x =>
    match leafAt x.leaves y.seq with
    | none => s
    | some leaf =>
      if !blockOk x.leaves (coRoot x.colophon) x.groups leaf y.payload then s.relayFailed
      else
        let held := x.block ++ [(src, y)]
        let s := s.modSession fun z => { z with next := y.seq + 1, block := held }
        let s := match x.rescue, s.boot.rescue with
          | true, some q => s.rescueLeaf q leaf (sliceB y.payload 0 4096)
          | _, _ => s
        if !blockEnds x.leaves leaf then s
        else
          let s := s.modSession fun z =>
            { z with block := [], groups := z.groups.filter fun g => decide (g.1 ≠ 0) }
          (s.clearAll x held).count 0 0x3F0 1

/-- END (R397): the session ends at the part, whatever it missed. -/
def State.sessionClose (s : State) (src : Option Bool) (y : Parcel) : State :=
  match s.rv.session with
  | none => s
  | some x => if x.has y then (s.sessionClear x src y).sessionEnd else s

/-! ### Resends (R398) -/

/-- The part's session that a resent parcel belongs to. -/
def State.sessionAgain (s : State) (y : Parcel) : Option RvSession :=
  match s.rv.session with
  | some x => if x.has y ∧ pResend y ∧ x.colophon ≠ [] then some x else none
  | none => none

/-- A resent TREE parcel of a relay block. -/
def State.againTree (s : State) (src : Option Bool) (y : Parcel) : State :=
  match s.sessionAgain y with
  | none => s
  | some x =>
    match treeAt x.leaves y.seq with
    | none => s
    | some gs =>
      let up := x.groups.filter fun g => decide (g.1 ≠ 0)
      if gs.any fun g => decide (g.1 ≠ 0) then s
      else if !groupsPass x gs (up ++ slotsOf gs y.payload) then s.relayFailed
      else s.modSession fun z => { z with again := [(src, y)] }

/-- A resent BLOCK parcel: the block goes on, or is delivered to the requester, when its last leaf has passed. -/
def State.againBlock (s : State) (src : Option Bool) (y : Parcel) : State :=
  match s.sessionAgain y with
  | none => s
  | some x =>
    match leafAt x.leaves y.seq, x.again.head?, x.again.getLast? with
    | some leaf, some t, some last =>
      if y.seq ≠ last.2.seq + 1 then s
      else
        let up := x.groups.filter fun g => decide (g.1 ≠ 0)
        let all := up ++ slotsOf ((treeAt x.leaves t.2.seq).getD []) t.2.payload
        if !blockOk x.leaves (coRoot x.colophon) all leaf y.payload then s.relayFailed
        else
          let held := x.again ++ [(src, y)]
          if !blockEnds x.leaves leaf then s.modSession fun z => { z with again := held }
          else
            let s := s.modSession fun z => { z with again := [] }
            if s.isHere y.dst then
              held.foldl (fun (s : State) h => if s.flag Fld.RV_CTRL_DLV_EN 0 then s.rvDeliver h.1 h.2 else s) s
            else (held.foldl (fun (s : State) h => s.rvPass h.1 h.2) s).count 0 0x3F0 1
    | _, _, _ => s

/-- A parcel of an image session, from a port or from the part's own transmit ring. -/
def State.sessionParcel (s : State) (src : Option Bool) (y : Parcel) : State :=
  let us := s.us
  let s := s.modSession fun z => if z.has y then { z with since := us } else z
  match y.type.toNat with
  | 0x10 => s.sessionOpen src y
  | 0x11 => s.sessionColophon src y
  | 0x12 => if pResend y then s.againTree src y else s.sessionTree src y
  | 0x13 => if pResend y then s.againBlock src y else s.sessionBlock src y
  | 0x14 => s.sessionClose src y
  | _ => s

/-- OPEN (R395, R397). -/
def execRvOpen (s : State) : Host.Outcome State Fault Refusal :=
  .next (s.rvTake 0x10 fun s p x => s.sessionParcel (some p) x)

/-- COLOPHON (R396). -/
def execRvColophon (s : State) : Host.Outcome State Fault Refusal :=
  .next (s.rvTake 0x11 fun s p x => s.sessionParcel (some p) x)

/-- TREE (R396). -/
def execRvTree (s : State) : Host.Outcome State Fault Refusal :=
  .next (s.rvTake 0x12 fun s p x => s.sessionParcel (some p) x)

/-- BLOCK (R297). -/
def execRvBlock (s : State) : Host.Outcome State Fault Refusal :=
  .next (s.rvTake 0x13 fun s p x => s.sessionParcel (some p) x)

/-- END (R397). -/
def execRvEnd (s : State) : Host.Outcome State Fault Refusal :=
  .next (s.rvTake 0x14 fun s p x => s.sessionParcel (some p) x)

/-- SESSION_TIMEOUT (R397). -/
def execSessionTimeout (s : State) : Host.Outcome State Fault Refusal :=
  .next (s.when (s.rlvLive && s.rv.session.any fun x =>
      decide (1000000 * max 1 (s.getF Fld.RV_CTRL_SESSION_S 0) ≤ s.usSince x.since)) fun s => s.sessionEnd)

/-! ## Signed commands (R399 to R401) -/

/-- The RESULT of a command of 8 KiB (Table 13.6). -/
def State.commandResult (s : State) (c : List Byte) : Nat :=
  let op := ofBe (sliceB c 0xA 2)
  let form := decide (ofBe (sliceB c 0 4) = 0x52434D44) && decide (ofBe (sliceB c 4 2) = 1) && zerosAt c 0xC 4 &&
    zerosAt c 0x44 4 && zerosAt c 0x50 48 && coKeyZeros c
  if !s.identity ∨ !s.flag Fld.RV_CTRL_CMD_EN 0 ∨ (op = 2 ∧ !s.flag Fld.RV_CTRL_RESET_EN 0) then 1
  else if ofBe (sliceB c 0x40 4) ≠ s.pcc ∨ ofBe (sliceB c 0x48 8) ≤ s.cseq then 2
  else if !form then 3
  else match s.sigRefusal c false with
    | some r => r
    | none => if op = 1 ∨ op = 2 then 0 else 7

/-- The target acts on a command (R400, R401): the reply goes back, and then the reset is performed. -/
def State.command (s : State) (p : Bool) (src : Nat) (c : List Byte) : State :=
  let r := s.commandResult c
  let s := if r = 0 ∨ (4 ≤ r ∧ r ≤ 7) then s.sigReads c false else s
  let cseq := ofBe (sliceB c 0x48 8)
  let s := if r = 0 then { s with cseq := cseq } else s.report 0 0xC007 (b2n p)
  let s := s.rvSend p (s.ownParcel 0x21 0 src (beBytes 8 cseq ++ [BitVec.ofNat 8 r, 0, 0, 0]))
  if r ≠ 0 then s
  else if ofBe (sliceB c 0xA 2) = 1 then s.recognise .hifCmd 0 [] else s.recognise .ralverPart 0 []

/-- COMMAND (R399, R400): two halves; the part whose KU_DEVID equals TARGET acts. -/
def execRvCommand (s : State) : Host.Outcome State Fault Refusal :=
  .next (s.rvTake 0x20 fun s p x =>
    let mine := pBcast x || s.isHere x.dst
    let s := if pBcast x || !mine then s.rvPass (some p) x else s
    if !mine then s
    else
      let other := s.rv.halves.filter fun h => decide (h.src ≠ x.src)
      if x.seq = 0 then s.modRv fun r => { r with halves := other ++ [x] }
      else match s.rv.halves.find? fun h => decide (h.src = x.src) with
        | none => s
        | some h =>
          let s := s.modRv fun r => { r with halves := other }
          let c := h.payload ++ x.payload
          if x.seq = 1 ∧ c.length = 8192 ∧ sliceB c 0x10 48 = s.deviceId then s.command p x.src c else s)

/-! ## Registers (R402) -/

/-- A write that R402 bars. -/
def State.rvReject (s : State) : State := s.report 0 0xC007 (openSource 0xC007)

/-- A write of RV_CMD. -/
def State.writeRvCmd (s : State) (req : Requester) (v : Word) : State :=
  if !fromDie0 req then s.rvReject
  else match Fld.RV_CMD_OP.of v with
    | 1 => s.rollCall
    | 2 => if s.rv.session.isSome then s.sessionEnd else s
    | _ => s

/-- ROLLCALL (R393). -/
def execRollcall (req : Requester) (value : Word) (s : State) : Host.Outcome State Fault Refusal :=
  .next (s.rlvAccess req fun s => s.writeRvCmd req (Fld.RV_CMD_OP.put value 1))

/-- SESSION_ABORT (R397). -/
def execSessionAbort (req : Requester) (value : Word) (s : State) : Host.Outcome State Fault Refusal :=
  .next (s.rlvAccess req fun s => s.writeRvCmd req (Fld.RV_CMD_OP.put value 2))

/-- The parcel of an entry of the transmit ring: firmware's header and payload, with SRC, HOPS and LSEQ the engine's. -/
def State.txParcel (s : State) (i : Nat) : Parcel :=
  let a := (s.rd .RV_TXBASE 0).toNat + rvEntry * i
  let h := s.sramBytes 0 a 16
  let n := min (ofBe (sliceB h 0xA 2)) 4096
  { type := byteAt h 0, flags := byteAt h 1, src := s.rvPos, dst := ofBe (sliceB h 4 2), hops := 0,
    session := ofBe (sliceB h 8 2), seq := ofBe (sliceB h 0xC 3), lseq := 0, payload := s.sramBytes 0 (a + 16) n }

/-- Send the next entry of the transmit ring: a session's parcels are checked here too (R396). -/
def State.txNext (s : State) : State :=
  let h := s.getF Fld.RV_TXPTR_HEAD 0
  let x := s.txParcel h
  let s := s.setF Fld.RV_TXPTR_HEAD 0 ((h + 1) % 32)
  if 0x10 ≤ x.type.toNat ∧ x.type.toNat ≤ 0x14 then s.sessionParcel none x else s.rvOriginate x

/-- A write of RV_TXPTR: the engine sends the entries before TAIL (R391). -/
def State.writeRvTxptr (s : State) (req : Requester) (v : Word) : State :=
  if !fromDie0 req then s.rvReject
  else
    let s := s.setF Fld.RV_TXPTR_TAIL 0 (Fld.RV_TXPTR_TAIL.of v)
    let n := (s.getF Fld.RV_TXPTR_TAIL 0 + 32 - s.getF Fld.RV_TXPTR_HEAD 0) % 32
    s.forEach (List.range n) fun s _ => s.txNext

/-- TRANSMIT_PARCEL (R391). -/
def execTransmitParcel (req : Requester) (value : Word) (stores : Stores) (s : State) : Host.Outcome State Fault Refusal :=
  .next (s.rlvAccess req fun s => (s.stores stores).writeRvTxptr req value)

/-- A read of RV_CSEQ at 0xB020 captures both words of the last accepted CSEQ. -/
def State.readCseq (s : State) : Word × State :=
  let hi := BitVec.ofNat 32 (s.cseq / 2 ^ 32)
  (hi, (s.wr .RV_CSEQ 0 hi).wr .RV_CSEQ 1 (BitVec.ofNat 32 s.cseq))

/-- RV_CSEQ_READ (R402). -/
def execRvCseqRead (req : Requester) (s : State) : Host.Outcome State Fault Refusal :=
  .next (s.aonAccess req fun s => State.answer s.readCseq)

end Sys2Proof.Machine
end

