-- ==== Sys2Proof/Machine/Attest.lean ====
section
/-! DEFINITION. Identity and attestation (11): binding the vault, firmware keys, key-unit faults, the SPDM responder and its
measurements, leases and their evidence, and the signing queue (R324 to R343, R367, R368). -/

namespace Sys2Proof.Machine

/-- The die whose key unit signs (KU_STATUS.ACTIVE_DIE), the SOURCE of 0x7xxx faults (R343). -/
def State.kuDie (s : State) : Nat := s.getF Fld.KU_STATUS_ACTIVE_DIE 0

/-- A fault of the key unit. -/
def State.kuFault (s : State) (code : Nat) : State := s.report 0 code s.kuDie

/-- A key-unit command ends. -/
def State.kuDone (s : State) (result : Nat) : State :=
  (s.setFlag Fld.KU_CMD_STATUS_DONE 0 true).setF Fld.KU_CMD_STATUS_RESULT 0 result

/-! ## Binding (R330 to R332) -/

/-- The areas that a directory plaintext names, address and length, health logs then journals, of the present dies; a length
of zero names none (R178). -/
def State.directoryAreas (s : State) (dir : List Byte) : List (Nat × Nat) :=
  let entry (o : Nat) : Nat × Nat := (ofBe (sliceB dir o 4), ofBe (sliceB dir (o + 4) 4))
  let all := (List.range s.nDies).map (fun d => entry (8 * d)) ++ (List.range s.nDies).map fun d => entry (0x40 + 8 * d)
  all.filter fun x => decide (x.2 ≠ 0)

/-- Bytes of the logical space of a vault device (R169). -/
def State.vaultSpace (s : State) (v : Nat) : Nat :=
  let b := Config.vaultBlocks v
  if s.vaultNand v then (b - 2 - b / 32) * s.vaultBlockBytes v else b * s.vaultBlockBytes v

/-- Two areas overlap. -/
def overlaps (a b : Nat × Nat) : Bool := decide (a.1 < b.1 + b.2) && decide (b.1 < a.1 + a.2)

/-- The directory is refused (R330, RESULT 0x4). -/
def State.directoryBad (s : State) (dir : List Byte) : Bool :=
  let l := (s.directoryAreas dir).zipIdx
  l.any fun x =>
    overlaps x.1 (0, s.vaultBlockBytes 0) || decide (s.vaultSpace 0 < x.1.1 + x.1.2) ||
      l.any fun y => decide (x.2 < y.2) && overlaps x.1 y.1

/-- The bind token fails a check of R331 other than its signatures. -/
def State.bindForm (s : State) (c : List Byte) : Bool :=
  decide (ofBe (sliceB c 0 4) = 0x42494E44) && decide (ofBe (sliceB c 4 2) = 1) && zerosAt c 0xA 6 && zerosAt c 0x60 32 &&
    coKeyZeros c && decide (sliceB c 0x10 48 = s.deviceId) && decide (s.keys.nonce = some (sliceB c 0x40 32))

/-- The refusal of BIND (R330), by the state of the vault, the token and the directory. -/
def State.bindRefusal (s : State) (c dir : List Byte) : Option Nat :=
  let v := s.getF Fld.MC_STATUS_VAULT 0
  if !s.identity then some 1
  else if v = 0 ∨ v = 3 then some 2
  else if v = 2 ∧ (!s.bindForm c ∨ (s.sigRefusal c false).isSome) then some 3
  else if s.directoryBad dir then some 4
  else none

/-- Factory-bad blocks of a BLANK SPI-NAND device are mapped to spares (R171). -/
def State.mapFactoryBad (s : State) (bad : List (Fin 4 × Nat)) : State :=
  bad.foldl (fun (s : State) x =>
    let v := x.1.val
    let b := Config.vaultBlocks v
    if !s.vaultNand v ∨ x.2 < 2 ∨ b ≤ x.2 then s
    else if b - b / 32 ≤ x.2 then s.takeSpare 0 v x.2
    else
      let good := (s.spares v).filter fun p => !bad.any fun y => decide (y.1 = x.1) && decide (y.2 = p)
      match good with
      | [] => s.report 0 0x4004 (vaultSource v)
      | p :: _ => (s.takeSpare 0 v p).mapBlock v (x.2 - 2) p) s

/-- Health records start afresh on every die (R332): no record is kept, in the tally or in the log, and those of the valid regions are
made anew with ASSUMED set (R181). -/
def State.healthAfresh (s : State) : State :=
  let s := s.modVault fun x => { x with pages := [], nextPage := [], nextEntry := [], warned := [] }
  s.forEach (List.range s.nDies) fun s d =>
    let s := (s.modCare d fun c => { c with health := [], spans := [] }).setF Fld.MC_STATUS_TALLY d 0
    let s := s.forEach (List.range 32) fun s r => s.setFlag Fld.CR_STATE_FAILED_OPEN (32 * d + r) false
    s.makeRecords d

/-- MC_STATUS.VAULT on every die. -/
def State.vaultShows (s : State) (v : Nat) : State :=
  s.forEach (List.range s.nDies) fun s d => s.setF Fld.MC_STATUS_VAULT d v

/-- Steps 1 to 4 of R332. `erases` and `writes` are the results of the devices' erases and of the directory's programs, in order: each that
fails costs a spare, and ends the command with RESULT 0x5 where none is left (R171). The vault reads BLANK once its first unit has been erased. -/
def State.bindWrite (s : State) (dir : List Byte) (erases writes : List Bool) (bad : List (Fin 4 × Nat)) : State :=
  match s.sealKey 0 with
  | none => s.kuDone 5
  | some key =>
    let s := if s.getF Fld.MC_STATUS_VAULT 0 = 1 then s.mapFactoryBad bad else s
    let devs : List Nat := if s.flag Fld.MC_VCFG_MIRROR 0 then [0, 2] else [0]
    let erase (s : State) (x : Nat × Nat) (ws : List Bool) : Bool × List Bool × State :=
      s.eachDev devs ws fun s v ws => s.eraseSpan 0 v x ws
    let u := erase s (0, s.vaultBlockBytes 0) erases
    if !u.1 then u.2.2.kuDone 5
    else
      let s := u.2.2.vaultShows 1
      let a := (s.directoryAreas dir).foldl (fun (a : Bool × List Bool × State) x =>
        if a.1 then erase a.2.2 x a.2.1 else a) (true, u.2.1, s)
      if !a.1 then a.2.2.kuDone 5
      else
        let g := a.2.2.nextGen 0 1
        let bytes := sealUnit key 0 1 g.1 0 0 dir
        let w := g.2.eachDev devs writes fun s v ws => s.vaultProgram 0 v 0 bytes ws
        if !w.1 then w.2.2.kuDone 5
        else
          let s := ((w.2.2.modVault fun x => { x with directory := dir }).healthAfresh).vaultShows 3
          (s.append 0x0B s.deviceId).kuDone 0

/-- BIND: the nonce is void from now on. -/
def State.kuBind (s : State) (erases writes : List Bool) (bad : List (Fin 4 × Nat)) : State :=
  let a := (s.rd .KU_ARG 0).toNat
  let c := s.sramBytes 0 a 8192
  let dir := s.sramBytes 0 (a + 0x2000) 128
  let r := s.bindRefusal c dir
  let s := if s.identity ∧ s.getF Fld.MC_STATUS_VAULT 0 = 2 ∧ s.bindForm c then s.sigReads c false else s
  let s := s.modKeys fun k => { k with nonce := none }
  match r with
  | some x => (s.kuFault 0x7003).kuDone x
  | none => s.bindWrite dir erases writes bad

/-! ## Firmware keys (R342) and KU_CMD (R343) -/

/-- DERIVE_FW. -/
def State.kuDeriveFw (s : State) : State :=
  let a := (s.rd .KU_ARG 0).toNat
  match s.keys.cdi1, s.identity with
  | some c, true =>
    let k := (hashOf (c ++ ascii "FWKEY" ++ s.sramBytes 0 a 16)).take 32
    ((s.sramStore 0 (a + 0x10) k).setFlag Fld.KU_STATUS_CDI1 0 true).kuDone 0
  | _, _ => s.kuDone 1

/-- A write of KU_CMD, KU_ARG or KU_CTRL by another requester than a sentry core of die 0 (R343). -/
def State.kuReject (s : State) : State := s.kuFault 0x7006

/-- A write of KU_CMD. -/
def State.writeKuCmd (s : State) (req : Requester) (v : Word) (erases writes : List Bool) (bad : List (Fin 4 × Nat)) : State :=
  if !fromDie0 req then s.kuReject
  else match Fld.KU_CMD_OP.of v with
    | 1 => s.kuBind erases writes bad
    | 2 => s.kuDeriveFw
    | _ => s.kuDone 6

/-- BIND (R330 to R332). -/
def execKuBind (req : Requester) (stores : Stores) (erases writes : List Bool) (factoryBad : List (Fin 4 × Nat)) (s : State) :
    Host.Outcome State Fault Refusal :=
  .next (s.platAccess req fun s => (s.stores stores).writeKuCmd req 1 erases writes factoryBad)

/-- DERIVE_FW (R342). -/
def execKuDeriveFw (req : Requester) (stores : Stores) (s : State) : Host.Outcome State Fault Refusal :=
  .next (s.platAccess req fun s => (s.stores stores).writeKuCmd req 2 [] [] [])

/-- A read of KU_BIND_NONCE at 0x8020 captures a fresh nonce (R331, R343). -/
def State.readBindNonce (s : State) : Word × State :=
  let r := s.draw
  let n := sliceB (digestOf r.1) 0 32
  let s := (r.2.modKeys fun k => { k with nonce := some n }).putBytes .KU_BIND_NONCE 0 8 n
  (s.rd .KU_BIND_NONCE 0, s)

/-- BIND_NONCE_READ (R331). -/
def execBindNonceRead (req : Requester) (s : State) : Host.Outcome State Fault Refusal :=
  .next (s.platAccess req fun s => State.answer s.readBindNonce)

/-- A write of KU_CTRL: EVID_MIN 0b00 stores 0b11. -/
def State.writeKuCtrl (s : State) (req : Requester) (v : Word) : State :=
  if !fromDie0 req then s.kuReject
  else
    let s := s.swWrite .KU_CTRL 0 v
    if s.getF Fld.KU_CTRL_EVID_MIN 0 = 0 then s.setF Fld.KU_CTRL_EVID_MIN 0 3 else s

/-- A write of KU_ARG: bits [11:0] read zero. -/
def State.writeKuArg (s : State) (req : Requester) (v : Word) : State :=
  if !fromDie0 req then s.kuReject else s.wr .KU_ARG 0 (v &&& ~~~ 0xFFF#32)

/-! ## Key-unit faults (R328) -/

/-- A key unit faults: it holds no keys from now on. When die 0's faults and die 1 holds the keys, die 1 signs and the part reports
0x7001; any other unit's fault reports 0x7002 (log entry 79). When neither holds keys, IDENTITY reads 0. -/
def State.unitFault (s : State) (d : Nat) : State :=
  let had0 := s.keys.holds0
  let s := s.modKeys fun k =>
    { k with bad := if mem d k.bad then k.bad else k.bad ++ [d]
             sealing := k.sealing.filter fun e => decide (e ≠ d)
             holds0 := k.holds0 && decide (d ≠ 0)
             holds1 := k.holds1 && decide (d ≠ 1) }
  (if decide (d = 0) && had0 && s.keys.holds1 then s.keysMoved else s.report d 0x7002 d).showKeys

/-- KEY_UNIT_FAULT (R21, R328). -/
def execKeyUnitFault (d : DieId) (s : State) : Host.Outcome State Fault Refusal :=
  .next (s.when (s.platLive && s.present d.val && !mem d.val s.keys.bad) fun s => s.unitFault d.val)

/-! ## Measurements (R336, R337) -/

/-- FM_BIND_EFF of channel n, as it reads (R126). -/
def State.bindEffWord (s : State) (n : Nat) : Nat :=
  bitsOf (s.govBind n 0) 0 31 + 2 ^ 31 * b2n (bitOf (s.rd .FM_QUOIN_EFF (n / 8)).toNat (bindForme (s.govBind n 0)))

/-- Word w of the active mirror of forme f on die d (R112): opcode words 0 to 63, then slug words. -/
def State.mirrorWord (s : State) (d f w : Nat) : Nat := (s.rd .FM_ACT (bankIx d 0 f w)).toNat

/-- A register word of die d as a measurement takes it: all ones where the die is not reached, as it then reads (R23, R336). -/
def State.measuredWord (s : State) (d w : Nat) : List Byte := beBytes 4 (if s.reached d then w else 0xFFFFFFFF)

/-- The active bank of a forme: opcode table, then slugs. -/
def State.bankBytes (s : State) (d f : Nat) : List Byte :=
  (List.range 320).flatMap fun w => s.measuredWord d (s.mirrorWord d f w)

/-- The effective binding of channel n. -/
def State.bindBytes (s : State) (n : Nat) : List Byte := s.measuredWord (n / 8) (s.bindEffWord n)

/-- A ROOTED tree's part of a measurement: t, REGION_ID, TD_VERSION, TD_ROOT. -/
def State.treeBytes (s : State) (d t : Nat) : List Byte :=
  let i := d * 256 + t
  BitVec.ofNat 8 t :: (beBytes 4 (s.rd .TD_REGION i).toNat ++ beBytes 4 (s.rd .TD_VERSION i).toNat ++
    (List.range 12).flatMap fun k => leBytes 4 (s.rd .TD_ROOT (12 * i + k)).toNat)

/-- The trees of a die that read as ROOTED, in increasing order: none of a die that is not reached. -/
def State.rootedTrees (s : State) (d : Nat) : List Nat :=
  numsBelow 256 fun t => s.reached d && decide (s.getF Fld.TD_STATE_STATE (d * 256 + t) = 2)

/-- What the digest of a measurement block is over (Table 11.5); none for an index with no block. -/
def State.measured (s : State) (i : Nat) : Option (List Byte) :=
  match i with
  | 1 => some Config.romImage
  | 2 => none
  | 3 => some ([RegName.FU_LC, .FU_COUNTS, .FU_POLICY, .FU_REGIONS].flatMap fun n => beBytes 4 (s.rd n 0).toNat)
  | 4 => some (beBytes 2 (s.getF Fld.EPOCH_CUR_CURRENT 0) ++ (List.range s.nDies).flatMap fun d =>
      (List.range 32).flatMap (fun f => s.bankBytes d f) ++
        (List.range 8).flatMap fun c => s.bindBytes (8 * d + c))
  | _ =>
    if 0x10 ≤ i ∧ i < 0x10 + s.nDies then some ((s.rootedTrees (i - 0x10)).flatMap fun t => s.treeBytes (i - 0x10) t)
    else none

/-- The digest of a measurement block: M_fw itself for block 2. -/
def State.measurement (s : State) (i : Nat) : Option Digest := if i = 2 then some s.fwMeas else (s.measured i).map hashOf

/-- The indexes of the blocks the part reports: 4, and one for each present die. -/
def State.blockIndexes (s : State) : List Nat := [1, 2, 3, 4] ++ (List.range s.nDies).map fun d => 0x10 + d

/-- The blocks that an index asks for: all of them for 0xFF, none for 0x00 (the number of blocks). -/
def State.blocksFor (s : State) (index : Nat) : List (Nat × Digest) :=
  let l := if index = 0 then [] else if index = 0xFF then s.blockIndexes else [index]
  l.filterMap fun i => (s.measurement i).map fun dg => (i, dg)

/-- The DMTF value type of a block (Table 11.5). -/
def dmtfType (i : Nat) : Nat := if i = 1 then 0 else if i = 2 then 1 else if i = 3 then 2 else 3

/-- A measurement block in DMTF form: index, specification, sizes, value type, digest. -/
def dmtfBlock (x : Nat × Digest) : List Byte :=
  [BitVec.ofNat 8 x.1, 1] ++ leBytes 2 51 ++ [BitVec.ofNat 8 (dmtfType x.1)] ++ leBytes 2 48 ++ sliceB x.2 0 48

/-- The measurement summary of CHALLENGE (R335): none for type 0, blocks 1 to 3 for TCB, every block for All. -/
def State.summaryOf (s : State) (kind : Nat) : List Byte :=
  let l := if kind = 0 then [] else if kind = 1 then [1, 2, 3] else s.blockIndexes
  if l = [] then []
  else hashOf ((l.filterMap fun i => (s.measurement i).map fun dg => (i, dg)).flatMap dmtfBlock)

/-- No snapshot is taken while a switch runs or a tree is LOADING (R337). -/
def State.snapBlocked (s : State) : Bool :=
  s.flag Fld.EPOCH_STATUS_SWITCHING 0 ||
    (List.range s.nDies).any fun d => (List.range 256).any fun t => decide (s.getF Fld.TD_STATE_STATE (d * 256 + t) = 1)

/-! ## The signing queue (R329, R337, R340, R341) -/

/-- The scope measurement of a channel mask (Table 11.7). -/
def State.scopeMeas (s : State) (mask : Nat) : Digest :=
  hashOf ((numsBelow 64 fun n => bitOf mask n).flatMap fun n =>
    let d := n / 8
    [BitVec.ofNat 8 n] ++ s.bindBytes n ++ s.bankBytes d (bindForme (s.bindEffWord n)) ++
      ((s.rootedTrees d).filter fun t => decide (s.getF Fld.TD_CFG_CHANNEL (d * 256 + t) = n % 8)).flatMap fun t =>
        s.treeBytes d t)

/-- Bytes 0x000 to 0x0FF of lease evidence (Table 11.7), with FLAGS [0] clear. -/
def State.evidence (s : State) (l : Lease) (nonce : List Byte) (sigs : Nat) : List Byte :=
  let flags := 2 * b2n ((List.range 8).any fun r => decide (s.regionState r = 3))
  beBytes 4 0x4C454153 ++ beBytes 2 1 ++ beBytes 2 sigs ++ beBytes 4 l.id ++ beBytes 2 l.fn ++ beBytes 2 flags ++
    sliceB nonce 0 32 ++ s.deviceId ++ beBytes 4 s.pcc ++ beBytes 2 (s.getF Fld.EPOCH_CUR_CURRENT 0) ++ [0, 0] ++
    beBytes 8 l.otOpen ++ beBytes 8 l.otMark ++ beBytes 8 s.ot ++ beBytes 4 l.marks ++
    beBytes 2 (s.getF Fld.FU_COUNTS_TAMPER 0) ++ [0, 0] ++ s.fwMeas ++ s.scopeMeas l.mask ++ beBytes 8 l.mask ++
    List.replicate 16 0

/-- What a request of the queue is signed over, as the state shows it now: the summary, the blocks, or the evidence. -/
def State.snapshot (s : State) (k : SignKind) : List Byte :=
  match k with
  | .challenge _ summary _ => s.summaryOf summary
  | .measure _ index _ => (s.blocksFor index).flatMap fun x => BitVec.ofNat 8 x.1 :: sliceB x.2 0 48
  | .evidence _ _ _ fn nonce sigs =>
    match s.leaseOf fn with
    | some l => s.evidence l nonce sigs
    | none => []

/-- The signing unit takes the request at the front of the queue: its snapshot is taken now, unless none may be. -/
def State.signTake (s : State) : State :=
  match s.keys.queue with
  | [] => s
  | r :: rest =>
    if r.snap.isSome ∨ s.snapBlocked then s
    else s.modKeys fun k => { k with queue := { r with snap := some (s.snapshot r.kind) } :: rest }

/-- Requests that wait: the one that is being signed has left the queue. -/
def State.signWaiting (s : State) : Nat :=
  match s.keys.queue with
  | [] => 0
  | r :: rest => rest.length + b2n r.snap.isNone

/-- The queue is full (R329). -/
def State.signFull (s : State) : Bool := decide (64 ≤ s.signWaiting)

/-- Put a request into the queue. -/
def State.signPut (s : State) (k : SignKind) (snap : Option (List Byte)) : State :=
  (s.modKeys fun x => { x with queue := x.queue ++ [{ kind := k, snap := snap }] }).signTake

/-- The blocks that a snapshot spells, 49 bytes each. -/
def snapBlocks (l : List Byte) : List (Nat × Digest) :=
  (List.range (l.length / 49)).map fun k => ((byteAt l (49 * k)).toNat, sliceB l (49 * k + 1) 48)

/-- An SPDM response goes to a requester; every ERROR other than ResponseNotReady and Busy reports 0x7005 (R335). -/
def State.spdmAnswer (s : State) (eid : Byte) (r : SpdmAnswer) : State :=
  let s := s.emit (.spdm eid r)
  match r with
  | .error .busy => s
  | .error (.responseNotReady _) => s
  | .error _ => s.kuFault 0x7005
  | _ => s

/-- A lease-evidence request is refused (R340): REFUSED with its reason, and 0x7004. -/
def State.evidenceRefuse (s : State) (p serial reason : Nat) : State :=
  (s.kuFault 0x7004).ringEnd p serial (BitVec.ofNat 32 reason) 0 7

/-- Sign with the P-384 DeviceID key; each k comes from the random source (R341). -/
def State.signE (s : State) (cdi0 : Digest) (m : List Byte) : List Byte × State :=
  (sliceB (Config.ecdsaSign (didE cdi0) m s.free) 0 96, { s with free := s.free + 1 }.count 0 0x3E6 1)

/-- Sign with the ML-DSA-87 DeviceID key. -/
def State.signM (s : State) (cdi0 : Digest) (m : List Byte) : List Byte × State :=
  (sliceB (Config.mldsaSign (didM cdi0) m s.free) 0 4627, { s with free := s.free + 1 }.count 0 0x3E7 1)

/-- The signed lease evidence is written to BUF, unless its pair is gone (R235, R340, R341). -/
def State.evidenceSign (s : State) (cdi0 : Digest) (p serial sigs : Nat) (snap : List Byte) (mem : MemAccess) : State :=
  let flag := byteAt snap 0xF ||| BitVec.ofNat 8 s.kuDie
  let m := sliceB snap 0 0xF ++ [flag] ++ sliceB snap 0x10 0xF0
  let e := if bitOf sigs 0 then s.signE cdi0 m else (List.replicate 96 0, s)
  let q := if bitOf sigs 1 then e.2.signM cdi0 m else (List.replicate 4627 0, e.2)
  let s := q.2.count 0 0x3EA 1
  let c := (s.pair p).bind fun x => x.started.find? fun c => decide (c.serial = serial)
  match c with
  | none => s
  | some c =>
    if !s.hifLive then s
    else s.ringWrite p c (m ++ e.1 ++ q.1 ++ List.replicate 13 0) mem (BitVec.ofNat 32 (ofBe (sliceB m 0x80 4)))

/-- The connection of an endpoint. -/
def State.conn (s : State) (eid : Byte) : Option SpdmConn := s.keys.conns.find? fun c => decide (c.eid = eid)

/-- The signed SPDM response: the part's nonce, and the signature over the transcript; lost where the connection has ended
(R334). -/
def State.spdmSign (s : State) (cdi0 : Digest) (eid : Byte) (nonce snap : List Byte) (challenge : Bool) : State :=
  let d := s.draw
  let own := sliceB (digestOf d.1) 0 32
  let g := d.2.signE cdi0 (Config.spdmTranscript (nonce ++ own ++ snap))
  let s := g.2
  if (s.conn eid).isNone ∨ !s.hifLive then s
  else if challenge then s.spdmAnswer eid (.challengeAuth (if snap = [] then none else some snap) own g.1)
  else s.spdmAnswer eid (.measurements s.blockIndexes.length (snapBlocks snap) (some (own, g.1)))

/-- The signing unit finishes the request at the front of the queue. -/
def State.signFinish (s : State) (mem : MemAccess) : State :=
  let s := s.signTake
  match s.keys.queue with
  | [] => s
  | r :: rest =>
    match r.snap with
    | none => s
    | some snap =>
      let s := s.modKeys fun k => { k with queue := rest }
      let s := match s.keys.cdi0, s.identity with
        | some c, true =>
          match r.kind with
          | .challenge eid _ nonce => s.spdmSign c eid nonce snap true
          | .measure eid _ nonce => s.spdmSign c eid nonce snap false
          | .evidence ring pair cmd _ _ sigs => s.evidenceSign c (pairNo ring pair) cmd sigs snap mem
        | _, _ =>
          match r.kind with
          | .challenge eid _ _ => s.spdmAnswer eid (.error .unspecified)
          | .measure eid _ _ => s.spdmAnswer eid (.error .unspecified)
          | .evidence ring pair cmd _ _ _ => s.evidenceRefuse (pairNo ring pair) cmd 1
      s.signTake

/-- SIGNING_COMPLETE (R329, R337, R341): where the front request's snapshot has been taken, or may be taken now. -/
def execSigningComplete (mem : MemAccess) (s : State) : Host.Outcome State Fault Refusal :=
  .next (s.when s.platLive fun s => s.signFinish mem)

/-! ## MCTP control (R333) -/

/-- The PF endpoint carries MCTP: the host interface and the key unit run. -/
def State.mctpLive (s : State) : Bool := s.platLive && s.hifLive

/-- SET_ENDPOINT_ID: the null and the broadcast ID are invalid data. -/
def execSetEndpointId (eid : Byte) (s : State) : Host.Outcome State Fault Refusal :=
  .next (s.when s.mctpLive fun s =>
    if eid = 0 ∨ eid = 0xFF then s.emit (.mctp 0x01 [2])
    else (s.modKeys fun k => { k with eid := eid }).emit (.mctp 0x01 [0, 0, eid, 0]))

/-- GET_ENDPOINT_ID. -/
def execGetEndpointId (s : State) : Host.Outcome State Fault Refusal :=
  .next (s.when s.mctpLive fun s => s.emit (.mctp 0x02 [0, s.keys.eid, 0, 0]))

/-- GET_MCTP_VERSION_SUPPORT: one version entry, whose value the spec does not state. -/
def execGetMctpVersionSupport (s : State) : Host.Outcome State Fault Refusal :=
  .next (s.when s.mctpLive fun s =>
    let r := s.fresh
    r.2.emit (.mctp 0x04 ([0, 1] ++ beBytes 4 r.1.toNat)))

/-- GET_MESSAGE_TYPE_SUPPORT: types 0x00 and 0x05. -/
def execGetMessageTypeSupport (s : State) : Host.Outcome State Fault Refusal :=
  .next (s.when s.mctpLive fun s => s.emit (.mctp 0x05 [0, 2, 0x00, 0x05]))

/-! ## SPDM (R333 to R337) -/

/-- Replace the connection of an endpoint. -/
def State.setConn (s : State) (c : SpdmConn) : State :=
  s.modKeys fun k => { k with conns := k.conns.map fun x => if x.eid = c.eid then c else x }

/-- What every SPDM request meets first: SPDM_EN, then the endpoint's connection, then its place in the order (R333 to R335).
`f` goes on with the connection. -/
def State.spdmRequest (s : State) (eid : Byte) (inOrder : SpdmConn → Bool) (f : State → SpdmConn → State) : State :=
  let s := s.count 0 0x3E9 1
  if !s.flag Fld.KU_CTRL_SPDM_EN 0 then s.spdmAnswer eid (.error .unsupportedRequest)
  else match s.conn eid with
    | none =>
      if 4 ≤ s.keys.conns.length then s.spdmAnswer eid (.error .busy) else s.spdmAnswer eid (.error .unexpectedRequest)
    | some c => if inOrder c then f s c else s.spdmAnswer eid (.error .unexpectedRequest)

/-- GET_VERSION (R334): it opens the endpoint's connection, or restarts it. -/
def execSpdmGetVersion (eid : Byte) (s : State) : Host.Outcome State Fault Refusal :=
  .next (s.when s.mctpLive fun s =>
    let s := s.count 0 0x3E9 1
    let fresh : SpdmConn := { eid := eid, stage := 1, later := none }
    if !s.flag Fld.KU_CTRL_SPDM_EN 0 then s.spdmAnswer eid (.error .unsupportedRequest)
    else if (s.conn eid).isSome then (s.setConn fresh).spdmAnswer eid .version
    else if 4 ≤ s.keys.conns.length then s.spdmAnswer eid (.error .busy)
    else (s.modKeys fun k => { k with conns := k.conns ++ [fresh] }).spdmAnswer eid .version)

/-- GET_CAPABILITIES (R335). -/
def execSpdmGetCapabilities (eid : Byte) (s : State) : Host.Outcome State Fault Refusal :=
  .next (s.when s.mctpLive fun s => s.spdmRequest eid (fun c => decide (c.stage = 1)) fun s c =>
    (s.setConn { c with stage := 2 }).spdmAnswer eid .capabilities)

/-- NEGOTIATE_ALGORITHMS (R335). -/
def execSpdmNegotiateAlgorithms (eid : Byte) (s : State) : Host.Outcome State Fault Refusal :=
  .next (s.when s.mctpLive fun s => s.spdmRequest eid (fun c => decide (c.stage = 2)) fun s c =>
    (s.setConn { c with stage := 3 }).spdmAnswer eid .algorithms)

/-- A request that needs a signature: identity, then the snapshot, then the queue (R329, R335, R337). -/
def State.spdmSigned (s : State) (eid : Byte) (c : SpdmConn) (k : SignKind) : State :=
  if !s.identity then s.spdmAnswer eid (.error .unspecified)
  else if s.snapBlocked then (s.setConn { c with later := some k }).spdmAnswer eid (.error (.responseNotReady 14))
  else
    let s := s.setConn { c with later := none }
    if s.signFull then s.spdmAnswer eid (.error .busy) else s.signPut k (some (s.snapshot k))

/-- CHALLENGE (R335): measurement summary types None (0x00), TCB (0x01) and All (0xFF). -/
def execSpdmChallenge (eid summary : Byte) (nonce : List Byte) (s : State) : Host.Outcome State Fault Refusal :=
  .next (s.when s.mctpLive fun s => s.spdmRequest eid (fun c => decide (c.stage = 3)) fun s c =>
    if summary ≠ 0 ∧ summary ≠ 1 ∧ summary ≠ 0xFF then s.spdmAnswer eid (.error .invalidRequest)
    else s.spdmSigned eid c (.challenge eid summary.toNat (sliceB nonce 0 32)))

/-- GET_MEASUREMENTS (R335 to R337). -/
def execSpdmGetMeasurements (eid index : Byte) (signed : Bool) (nonce : List Byte) (s : State) :
    Host.Outcome State Fault Refusal :=
  .next (s.when s.mctpLive fun s => s.spdmRequest eid (fun c => decide (c.stage = 3)) fun s c =>
    let i := index.toNat
    if i ≠ 0 ∧ i ≠ 0xFF ∧ !mem i s.blockIndexes then s.spdmAnswer eid (.error .invalidRequest)
    else if signed then s.spdmSigned eid c (.measure eid i (sliceB nonce 0 32))
    else s.spdmAnswer eid (.measurements s.blockIndexes.length (s.blocksFor i) none))

/-- RESPOND_IF_READY (R337): the deferred response, once neither a switch nor a load is in progress. -/
def execSpdmRespondIfReady (eid : Byte) (s : State) : Host.Outcome State Fault Refusal :=
  .next (s.when s.mctpLive fun s => s.spdmRequest eid (fun c => c.later.isSome) fun s c =>
    match c.later with
    | some k => s.spdmSigned eid c k
    | none => s)

/-! ## Ring commands of the key unit (R338 to R341, R367, R368) -/

/-- Show the number of open leases (KU_STATUS.LEASES). -/
def State.showLeases (s : State) : State := s.setF Fld.KU_STATUS_LEASES 0 s.keys.leases.length

/-- GET_PUBKEYS (R367). -/
def State.getPubkeys (s : State) (p : Nat) (c : RingCmd) (mem : MemAccess) : State :=
  if !bufOk c.words 2720 then s.ringEnd p c.serial 0 0 2
  else match s.keys.cdi0, s.identity with
    | some k, true =>
      s.ringWrite p c (sliceB (Config.ecdsaPublic (didE k)) 0 97 ++ List.replicate 31 0 ++
        sliceB (Config.mldsaPublic (didM k)) 0 2592) mem 0
    | _, _ => s.ringEnd p c.serial 1 0 7

/-- GET_PUBKEYS (R367). -/
def execGetPubkeys (f : FnId) (q : PairId) (n : Nat) (mem : MemAccess) (s : State) : Host.Outcome State Fault Refusal :=
  .next (s.when (s.hifLive && s.platLive) fun s =>
    match s.ringCmd f.val q.val n fun op => decide (op = 0x08) with
    | some c => s.getPubkeys (pairNo f.val q.val) c mem
    | none => s)

/-- LEASE_OPEN (R338, R368). -/
def State.leaseStart (s : State) (p : Nat) (c : RingCmd) : State :=
  let f := bitsOf (subArg c.words 0) 0 8
  let mask := subArg c.words 1 + 2 ^ 32 * subArg c.words 2
  if f = 0 ∨ !s.fnLive f ∨ 2 ^ (8 * s.nDies) ≤ mask then s.ringEnd p c.serial 0 0 2
  else if (s.leaseOf f).isSome then s.ringEnd p c.serial 2 0 7
  else
    let id := s.keys.nextLease
    let l : Lease := { fn := f, id := id, mask := mask, otOpen := s.ot, otMark := s.ot, marks := 0 }
    let s := s.modKeys fun k => { k with leases := k.leases ++ [l], nextLease := (id + 1) % 2 ^ 32 }
    s.showLeases.ringEnd p c.serial (BitVec.ofNat 32 id) 0 0

/-- LEASE_OPEN (R338). -/
def execLeaseOpen (f : FnId) (q : PairId) (n : Nat) (s : State) : Host.Outcome State Fault Refusal :=
  .next (s.when (s.hifLive && s.platLive) fun s =>
    match s.ringCmd f.val q.val n fun op => decide (op = 0x09) with
    | some c => s.leaseStart (pairNo f.val q.val) c
    | none => s)

/-- A request of the signing queue asks for evidence of function f and has not been taken. -/
def SignReq.waitsFor (r : SignReq) (f : Nat) : Bool :=
  match r.kind with
  | .evidence _ _ _ fn _ _ => decide (fn = f) && r.snap.isNone
  | _ => false

/-- LEASE_CLOSE (R338, R340): the lease of f ends, and evidence asked for and not yet taken fails. -/
def State.leaseEnd (s : State) (p : Nat) (c : RingCmd) : State :=
  let f := bitsOf (subArg c.words 0) 0 8
  if (s.leaseOf f).isNone then s.ringEnd p c.serial 3 0 7
  else
    let lost := s.keys.queue.filter fun r => r.waitsFor f
    let s := s.modKeys fun k =>
      { k with leases := k.leases.filter (fun l => decide (l.fn ≠ f)), queue := k.queue.filter fun r => !r.waitsFor f }
    let s := lost.foldl (fun (s : State) r => match r.kind with
      | .evidence ring pair cmd _ _ _ => s.evidenceRefuse (pairNo ring pair) cmd 3
      | _ => s) s
    s.showLeases.ringEnd p c.serial 0 0 0

/-- LEASE_CLOSE (R338). -/
def execLeaseClose (f : FnId) (q : PairId) (n : Nat) (s : State) : Host.Outcome State Fault Refusal :=
  .next (s.when (s.hifLive && s.platLive) fun s =>
    match s.ringCmd f.val q.val n fun op => decide (op = 0x0A) with
    | some c => s.leaseEnd (pairNo f.val q.val) c
    | none => s)

/-- SIGS lacks a signature that KU_CTRL.EVID_MIN requires, or is zero (R340). -/
def State.sigsBad (s : State) (sigs : Nat) : Bool :=
  let m := s.getF Fld.KU_CTRL_EVID_MIN 0
  decide (sigs = 0) || decide (sigs &&& m ≠ m)

/-- LEASE_EVIDENCE (R340, R368): a VF's names the VF's own lease. -/
def State.leaseEvidence (s : State) (f q : Nat) (c : RingCmd) : State :=
  let p := pairNo f q
  let fn := if f = 0 then bitsOf (subArg c.words 0) 0 8 else f
  let sigs := bitsOf (subArg c.words 1) 0 2
  let nonce := (List.range 8).flatMap fun k => leBytes 4 (subArg c.words (2 + k))
  if !bufOk c.words 4992 then s.ringEnd p c.serial 0 0 2
  else if (s.leaseOf fn).isNone then s.evidenceRefuse p c.serial 3
  else if !s.identity then s.evidenceRefuse p c.serial 1
  else if s.sigsBad sigs then s.evidenceRefuse p c.serial 4
  else if s.signFull then s.ringEnd p c.serial 0 0 4
  else (s.ringBegin p c.serial).signPut (.evidence f q c.serial fn nonce sigs) none

/-- LEASE_EVIDENCE (R340). -/
def execLeaseEvidence (f : FnId) (q : PairId) (n : Nat) (s : State) : Host.Outcome State Fault Refusal :=
  .next (s.when (s.hifLive && s.platLive) fun s =>
    match s.ringCmd f.val q.val n fun op => decide (op = 0x0B) with
    | some c => s.leaseEvidence f.val q.val c
    | none => s)

end Sys2Proof.Machine
end

