-- ==== Sys2Proof/Machine/Epochs.lean ====
section
/-! DEFINITION. The forme and policy-epoch commands (03): staging writes, the checks and the switch, quoins, lockstep
information. -/

namespace Sys2Proof.Machine

/-! ## Staging (R112, R119, R121) -/

/-- Staging writes to die d are discarded: from the EPOCH_GO write until STAGE_LOCK clears on the die (R119). -/
def State.stageShut (s : State) (d : Nat) : Bool :=
  decide (s.epoch.phase ≠ .idle) || s.flag Fld.FM_STATUS_STAGE_LOCK d

/-- A staging write is discarded: STAGE_REJ and fault 0x2009 (R119, R121). SOURCE names the forme, and the local channel of a
binding. -/
def State.stageReject (s : State) (d loc forme : Nat) : State := s.report d 0x2009 (loc + 8 * forme)

/-- A quoin of forme f of die d has been requested (R121). -/
def State.quoinAsked (s : State) (d f : Nat) : Bool := bitOf (s.rd .FM_QUOIN d).toNat f

/-- The bits of a forme-window word that hold a field: bit 7 of an opcode-table entry and the reserved bits of Table 3.4 read
zero and ignore writes (R18, R90, R92). -/
def stageMask (w : Nat) : Nat :=
  if w < 64 then 0x7F7F7F7F
  else match w % 4 with
    | 0 => 0xFFFFFFFF
    | 1 => 0x800FFFFF
    | _ => 0xFFFF

/-- A staging write to a forme's window: both lanes, or discarded. -/
def State.writeStage (s : State) (d f w : Nat) (v : Word) : State :=
  if s.stageShut d || s.quoinAsked d f then s.stageReject d 0 f
  else
    let v := v &&& BitVec.ofNat 32 (stageMask w)
    ((s.wr .FM_STG (bankIx d 0 f w) v).wr .FM_STG (bankIx d 1 f w) v).count d 0x30D 1

/-- A staging-binding write (R121): it is discarded where the staging binding names a forme with a requested quoin and the
write would change FORME, WRAP, ADDRMAP or BLKPG. -/
def State.writeBind (s : State) (n : Nat) (v : Word) : State :=
  let d := n / 8
  let old := s.rd .BIND_STG (2 * n)
  let new := (RegName.FM_BIND).written old v
  let forme := bindForme old.toNat
  if s.stageShut d || (s.quoinAsked d forme && decide (new ≠ old)) then s.stageReject d (n % 8) forme
  else ((s.wr .BIND_STG (2 * n) new).wr .BIND_STG (2 * n + 1) new).count d 0x30D 1

/-- A staging write of either kind. -/
def State.writeStaging (s : State) (t : StagingTarget) (v : Word) : State :=
  match t with
  | .opc d f k => s.writeStage d.val f.val k.val v
  | .slug d f k w => s.writeStage d.val f.val (64 + 4 * k.val + w.val) v
  | .bind ch => s.writeBind ch.val v

/-- The die a staging write addresses. -/
def stagingDie (t : StagingTarget) : Nat :=
  match t with
  | .opc d _ _ | .slug d _ _ _ => d.val
  | .bind ch => ch.val / 8

/-- STAGING_WRITE (R112). -/
def execStagingWrite (req : Requester) (target : StagingTarget) (value : Word) (s : State) :
    Host.Outcome State Fault Refusal :=
  .next (s.dieAccess req (stagingDie target) fun s => s.writeStaging target value)

/-! ## EPOCH_GO and the checks (R114, Table 3.7) -/

/-- Why and where a switch is refused. -/
structure EpochRefusal where
  code : Nat
  die : Nat
  forme : Nat
  item : Nat
  opcode : Nat
  deriving DecidableEq, Repr

/-- Record a refusal in EPOCH_STATUS and report it (R114). -/
def State.epochRefuse (s : State) (r : EpochRefusal) : State :=
  let s := (s.setFlag Fld.EPOCH_STATUS_REFUSED 0 true).setF Fld.EPOCH_STATUS_REFUSE_CODE 0 r.code
  let s := (s.setF Fld.EPOCH_STATUS_REFUSE_DIE 0 r.die).setF Fld.EPOCH_STATUS_REFUSE_FORME 0 r.forme
  let s := (s.setF Fld.EPOCH_STATUS_REFUSE_ITEM 0 r.item).setF Fld.EPOCH_STATUS_REFUSE_OPCODE 0 r.opcode
  s.report 0 0x2007 (8 * r.forme + 256 * r.die)

/-- A write of EPOCH_GO (R114). The request for quoins counts as it stands at this moment (R121). -/
def State.writeEpochGo (s : State) (v : Word) : State :=
  if s.epoch.phase ≠ .idle then s.epochRefuse { code := 2, die := 0, forme := 0, item := 0, opcode := 0 }
  else
    let asked : Tbl Nat := (List.range s.nDies).foldl (fun t d => Tbl.set t d (s.rd .FM_QUOIN d).toNat 0) []
    { s with epoch := { s.epoch with phase := .checking (bitsOf v.toNat 0 16), overran := false, quoinReq := asked } }

/-- EPOCH_GO. -/
def execEpochGo (req : Requester) (value : Word) (s : State) : Host.Outcome State Fault Refusal :=
  .next (s.platAccess req fun s => s.writeEpochGo value)

/-- The epoch after another (R113). -/
def nextEpoch (e : Nat) : Nat := if e = 0xFFFF then 1 else e + 1

/-- The view of a staging bank in a lane. -/
def stageView (d lane f : Nat) : LaneView := { bank := .FM_STG, die := d, lane := lane, forme := f, bad := [] }

/-- Code of the first condition of Table 3.7 that a slug meets. -/
def slugCheck (k : Slug) : Option Nat :=
  if !k.valid then none
  else if k.stop < k.start then some 3
  else if k.verdict = 7 then some 4
  else if (k.verdict = 1 ∨ k.verdict = 2) ∧ !k.wit then some 5
  else if k.verdict = 3 then some 6
  else none

/-- Code of the first condition of Table 3.7 that an opcode-table entry meets. -/
def entryCheck (e : Nat) : Option Nat :=
  let v := entryDefault e
  let c := entryClass e
  if v = 7 then some 4
  else if v = 1 ∨ v = 2 then some 5
  else if v = 3 ∧ c ≠ 2 ∧ c ≠ 3 then some 6
  else none

/-- Every failure of a forme's staging bank in a lane, with its place in the order of the checks: slugs in index order, then
opcodes. A bank whose words all hold their reset values has none. -/
def State.formeChecks (s : State) (d lane f : Nat) : List (Nat × EpochRefusal) :=
  let v := stageView d lane f
  let touched := s.regs.any fun e => decide (e.1.name = .FM_STG) && decide (e.1.i / 512 = bankIx d lane f 0 / 512)
  if !touched then []
  else
    ((List.range 64).filterMap fun k => (slugCheck (s.laneSlug v k)).map fun c =>
      (f * 320 + k, { code := c, die := d, forme := f, item := k, opcode := 0 })) ++
    ((List.range 256).filterMap fun op => (entryCheck (s.laneEntry v op)).map fun c =>
      (f * 320 + 64 + op, { code := c, die := d, forme := f, item := 0, opcode := op }))

/-- The failure of a channel's staging binding in a lane (codes 0x7 and 0x8), with its place after every forme's. -/
def State.bindCheck (s : State) (d lane c : Nat) : List (Nat × EpochRefusal) :=
  let at_ := 32 * 320 + c
  let b := (s.rd .BIND_STG (2 * (8 * d + c) + lane)).toNat
  let f := bindForme b
  if bindWrap b < 16 ∨ 32 < bindWrap b ∨ bindMap b = 3 then [(at_, { code := 7, die := d, forme := f, item := c, opcode := 0 })]
  else if bindNand b then
    let v := stageView d lane f
    match numsBelow 256 fun op => let k := entryClass (s.laneEntry v op); decide (5 ≤ k) && decide (k ≤ 7) with
    | op :: _ => [(at_, { code := 8, die := d, forme := f, item := c, opcode := op })]
    | [] => []
  else []

/-- Every failure of a die in a lane, in the order the checks find them: formes, then bindings. -/
def State.laneChecks (s : State) (d lane : Nat) : List (Nat × EpochRefusal) :=
  ((List.range 32).flatMap fun f => s.formeChecks d lane f) ++ ((List.range 8).flatMap fun c => s.bindCheck d lane c)

/-- The first place, in the order of the checks, at which two lanes' failures differ. -/
def laneDiffer : List (Nat × EpochRefusal) → List (Nat × EpochRefusal) → Option EpochRefusal
  | [], [] => none
  | a :: _, [] => some a.2
  | [], b :: _ => some b.2
  | a :: x, b :: y => if a = b then laneDiffer x y else if b.1 < a.1 then some b.2 else some a.2

/-- The outcome of a die's checks: a disagreement of the lanes takes precedence (code 0x9). -/
def State.dieChecks (s : State) (d : Nat) : Option EpochRefusal :=
  match laneDiffer (s.laneChecks d 0) (s.laneChecks d 1) with
  | some r => some { r with code := 9 }
  | none => (s.laneChecks d 0).head?.map fun p => p.2

/-- The outcome of the checks of a switch to epoch t: dies in number order, those the fabric cannot reach left out (R114).
Where T is not the next epoch and a die has STAGE_LOCK = 1 as well, code 0x1 shows (notes/assumptions/139.md). -/
def State.epochChecks (s : State) (t : Nat) : Option EpochRefusal :=
  let ds := numsBelow s.nDies fun d => s.reached d
  if t ≠ nextEpoch (s.getF Fld.EPOCH_CUR_CURRENT 0) then some { code := 1, die := 0, forme := 0, item := 0, opcode := 0 }
  else match ds.filter fun d => s.flag Fld.FM_STATUS_STAGE_LOCK d with
    | d :: _ => some { code := 2, die := d, forme := 0, item := 0, opcode := 0 }
    | [] => ds.findSome? fun d => s.dieChecks d

/-- Registers of die d in a bank or binding array of the model. -/
def bankOfDie (d : Nat) (r : Reg) (n b : RegName) : Bool :=
  (decide (r.name = n) && decide (r.i / 32768 = d)) || (decide (r.name = b) && decide (r.i / 16 = d))

/-- Copy one bank of die d, in both lanes, with its bindings, over another. -/
def State.bankCopy (s : State) (d : Nat) (fromB fromD toB toD : RegName) : State :=
  let src : RegFile := s.regs.filter fun e => bankOfDie d e.1 fromB fromD
  let s := { s with regs := RegFile.drop s.regs fun r => bankOfDie d r toB toD }
  src.foldl (fun t e => t.wr (if e.1.name = fromB then toB else toD) e.1.i e.2) s

/-- The checks pass: TARGET and SWITCHING, and the new banks and bindings go to every die that can be reached (R115). Until this
moment EPOCH_MAP keeps the bits it had at the EPOCH_GO write (notes/assumptions/140.md). -/
def State.epochPass (s : State) (t : Nat) : State :=
  let s := (s.setF Fld.EPOCH_CUR_TARGET 0 t).setFlag Fld.EPOCH_STATUS_SWITCHING 0 true
  let s := ((s.wr .EPOCH_MAP_LO 0 0).wr .EPOCH_MAP_HI 0 0)
  let s := ((s.wr .EPOCH_LATE_LO 0 0).wr .EPOCH_LATE_HI 0 0)
  let deadline := max 1 (s.getF Fld.EPOCH_CTRL_DEADLINE 0)
  let us := s.us
  let lost := numsBelow s.nDies fun d => !s.reached d
  let s := { s with epoch := { s.epoch with phase := .switching t, deadline := deadline, since := us, lost := lost } }
  s.forEach (numsBelow s.nDies fun d => s.reached d) fun s d =>
    let s := s.forEach ((List.range 8).map fun c => 8 * d + c) fun s n => s.modCh n fun c => { c with took := false }
    (s.bankCopy d .FM_STG .BIND_STG .FM_NXT .BIND_NXT).count d 0x30E 1

/-- EPOCH_CHECKS_COMPLETE (R114, R115). -/
def execEpochChecksComplete (s : State) : Host.Outcome State Fault Refusal :=
  .next (s.when s.platLive fun s =>
    match s.epoch.phase with
    | .checking t =>
      match s.epochChecks t with
      | some r => { s with epoch := { s.epoch with phase := .idle } }.epochRefuse r
      | none => s.epochPass t
    | _ => s)

/-! ## The switch (R115 to R119) -/

/-- The channel stands at a frame boundary: no host frame open, not ACTIVE, STUCK, or the frame's F side has ended (R115). -/
def State.epochBoundary (s : State) (n : Nat) : Bool :=
  (s.ch n).frame.isNone || !s.active n || s.flag Fld.CH_STATUS_STUCK n ||
  (match (s.ch n).frame with
    | some o => o.ended.isSome
    | none => true)

/-- CHANNEL_TAKE_EPOCH (R115). -/
def execChannelTakeEpoch (ch : ChanId) (s : State) : Host.Outcome State Fault Refusal :=
  .next (s.when (s.chLive ch.val && s.epochBoundary ch.val) fun s => s.takeEpoch ch.val)

/-- Present channels that have not taken the switch in progress. -/
def State.behind (s : State) : List Nat := numsBelow (8 * s.nDies) fun n => !s.epochBit n

/-- Die d takes part in the switch in progress: it can be reached, and the switch has not left it behind (R118). -/
def State.epochOn (s : State) (d : Nat) : Bool := s.reached d && !mem d s.epoch.lost

/-- EPOCH_DEADLINE (R117): the deadline of the switch passes with a channel behind. -/
def execEpochDeadline (s : State) : Host.Outcome State Fault Refusal :=
  .next (s.when s.platLive fun s =>
    match s.epoch.phase, s.behind with
    | .switching _, n0 :: rest =>
      if s.epoch.overran ∨ s.usSince s.epoch.since < s.epoch.deadline then s
      else
        let s := { s with epoch := { s.epoch with overran := true } }
        let s := s.setFlag Fld.EPOCH_STATUS_OVERRAN 0 true
        let s := s.forEach (n0 :: rest) fun s n =>
          if n < 32 then s.orR .EPOCH_LATE_LO 0 (2 ^ n) else s.orR .EPOCH_LATE_HI 0 (2 ^ (n - 32))
        let s := s.report 0 0x2008 n0
        if !s.flag Fld.EPOCH_CTRL_OVERRUN 0 then s
        else s.forEach ((n0 :: rest).filter fun n => s.epochOn (n / 8)) fun s n =>
          ((s.endFrame n).countCh n 0x31 1).takeEpoch n
    | _, _ => s)

/-- Every present channel has taken the switch, or the deadline has passed and only channels of dies it has left behind have not
(R118, R119). -/
def State.epochReady (s : State) : Bool :=
  s.behind.all fun n => s.epoch.overran && !s.epochOn (n / 8)

/-- The channel's binding, or the active bank of its bound forme, differs between the old and the new epoch (Table 11.6). -/
def State.epochChanges (s : State) (n : Nat) : Bool :=
  let d := n / 8
  let f := bindForme (s.rd .BIND_NXT (2 * n)).toNat
  decide (s.rd .BIND_NXT (2 * n) ≠ s.rd .BIND_ACT (2 * n)) ||
  (List.range 320).any fun w => decide (s.rd .FM_NXT (bankIx d 0 f w) ≠ s.rd .FM_ACT (bankIx d 0 f w))

/-- Number of bits set below `n`. -/
def bitsSet (v n : Nat) : Nat := (numsBelow n fun k => bitOf v k).length

/-- The switch completes on a die (R119, R121): the new banks become the active and, under STAGE_LOCK, the staging ones, words
whose check failed in the old ones are replaced (Table 6.3, point 10), and quoins requested before the checks take effect. -/
def State.epochDie (s : State) (d : Nat) : State :=
  let s := s.forEach ((List.range 8).map fun c => 8 * d + c) fun s n => if s.epochChanges n then s.markCh n else s
  let s := s.bankCopy d .FM_NXT .BIND_NXT .FM_ACT .BIND_ACT
  let s := s.forEach ((List.range 8).map fun c => 8 * d + c) fun s n => s.modCh n fun c => { c with took := false }
  let s := s.modDie d fun x =>
    { x with deadWords := (x.deadWords.filter fun w => w.1).map fun w => (false, w.2) }
  let s := (s.setFlag Fld.FM_STATUS_STAGE_LOCK d true).bankCopy d .FM_ACT .BIND_ACT .FM_STG .BIND_STG
  let old := (s.rd .FM_QUOIN_EFF d).toNat
  let new := old ||| Tbl.get s.epoch.quoinReq d 0
  (s.wr .FM_QUOIN_EFF d (BitVec.ofNat 32 new)).count d 0x30F (bitsSet new 32 - bitsSet old 32)

/-- EPOCH_SWITCH_COMPLETE (R119). -/
def execEpochSwitchComplete (s : State) : Host.Outcome State Fault Refusal :=
  .next (s.when s.platLive fun s =>
    match s.epoch.phase with
    | .switching t =>
      if !s.epochReady then s
      else
        let s := ((s.setF Fld.EPOCH_CUR_CURRENT 0 t).setFlag Fld.EPOCH_STATUS_SWITCHING 0 false).setFlag
          Fld.EPOCH_STATUS_DONE 0 true
        let s := s.forEach (numsBelow s.nDies fun d => s.epochOn d) fun s d => s.epochDie d
        { s with epoch := { s.epoch with phase := .idle, lost := [] } }
    | _ => s)

/-- STAGE_COPY_DONE (R119). -/
def execStageCopyDone (d : DieId) (s : State) : Host.Outcome State Fault Refusal :=
  .next (s.when (s.live d.val) fun s => s.setFlag Fld.FM_STATUS_STAGE_LOCK d.val false)

/-! ## Quoins and lockstep information (R121, FM_LSINFO) -/

/-- A write of FM_QUOIN requests quoins (R121). -/
def State.writeQuoin (s : State) (d : Nat) (v : Word) : State := s.orR .FM_QUOIN d v.toNat

/-- FM_QUOIN_WRITE (R121). -/
def execFmQuoinWrite (req : Requester) (d : DieId) (value : Word) (s : State) : Host.Outcome State Fault Refusal :=
  .next (s.dieAccess req d.val fun s => s.writeQuoin d.val value)

/-- A read of FM_LSINFO returns and clears it. -/
def State.readLsinfo (s : State) (d : Nat) : Word × State := (s.rd .FM_LSINFO d, s.wr .FM_LSINFO d 0)

/-- FM_LSINFO_READ (R126). -/
def execFmLsinfoRead (req : Requester) (d : DieId) (s : State) : Host.Outcome State Fault Refusal :=
  .next (s.dieRead req d.val fun s => s.readLsinfo d.val)

end Sys2Proof.Machine
end

