-- ==== Sys2Proof/Machine/Observe.lean ====
section
/-! DEFINITION. Performance observation (15): reads and writes of counters, watch slots and their firings, the precise buffer,
and what every microsecond adds (R429, R433 to R441, R443). -/

namespace Sys2Proof.Machine

/-! ## Counters (R433 to R435) -/

/-- The snapshot of OB_SNAP that a requester has: one for BAR0 and the mailbox together, one for each sentry core (R435). -/
def snapOf (req : Requester) : Nat :=
  match req with
  | .sentry d k => 1 + 4 * d.val + k.val
  | _ => 0

/-- A read of OB_CNT of event e; the low half of a pair captures the high half. -/
def State.readCnt (s : State) (req : Requester) (d e : Nat) : Word × State :=
  if !obAssigned d e then (0, s)
  else
    let v := s.rd .OB_CNT (d * 1024 + e)
    if e % 2 = 0 ∧ s.obPaired d e then
      let high := s.getF Fld.OB_CNT_COUNT (d * 1024 + e + 1)
      (v, s.modDie d fun x => { x with snaps := Tbl.set x.snaps (snapOf req) high 0 })
    else (v, s)

/-- A read of OB_SNAP. -/
def State.readSnap (s : State) (req : Requester) (d : Nat) : Word := BitVec.ofNat 32 (Tbl.get (s.die d).snaps (snapOf req) 0)

/-- A write of OB_CNT; `inc` occurrences of the event fall in the same cycle and are added to the written value (R433). -/
def State.writeCnt (s : State) (d e : Nat) (v : Word) (inc : Nat) : State :=
  if !obAssigned d e then s else (s.swWrite .OB_CNT (d * 1024 + e) v).count d e inc

/-- OB_CNT_READ (R435). -/
def execObCntRead (req : Requester) (d : DieId) (e : Fin 1024) (s : State) : Host.Outcome State Fault Refusal :=
  .next (s.dieRead req d.val fun s => s.readCnt req d.val e.val)

/-- OB_CNT_WRITE (R433). -/
def execObCntWrite (req : Requester) (d : DieId) (e : Fin 1024) (value : Word) (inc : Nat) (s : State) :
    Host.Outcome State Fault Refusal :=
  .next (s.dieAccess req d.val fun s => s.writeCnt d.val e.val value inc)

/-- A write of OB_CHAIN. -/
def State.writeChain (s : State) (d m : Nat) (v : Word) : State := s.swWrite .OB_CHAIN (d * 16 + m) v

/-- OB_CHAIN_WRITE (R434): both counters of a pair keep their values. -/
def execObChainWrite (req : Requester) (d : DieId) (m : Fin 16) (value : Word) (s : State) :
    Host.Outcome State Fault Refusal :=
  .next (s.dieAccess req d.val fun s => s.writeChain d.val m.val value)

/-! ## Watch slots (R436 to R439) -/

/-- PRECISE is available for an event (R439). -/
def preciseEvent (e : Nat) : Bool :=
  if e < 0x200 then
    let k := e % 0x40
    decide (k ≤ 0x21) || mem k [0x23, 0x25, 0x27, 0x31, 0x33, 0x39]
  else if e < 0x300 then true
  else decide (0x3A0 ≤ e) && decide (e < 0x3E0) && mem (e % 16) [1, 2, 3, 4, 5, 9]

/-- A write of OB_WATCH_CFG or OB_WATCH_PERIOD clears the slot's COUNT; ACTION 0b11 with an event for which PRECISE is not
available stores 0b10. -/
def State.writeWatch (s : State) (d i : Nat) (period : Bool) (v : Word) : State :=
  let w := d * 16 + i
  let s := s.setF Fld.OB_WATCH_COUNT_COUNT w 0
  if period then s.swWrite .OB_WATCH_PERIOD w v
  else
    let s := s.swWrite .OB_WATCH_CFG w v
    if s.getF Fld.OB_WATCH_CFG_ACTION w = 3 ∧ !preciseEvent (s.getF Fld.OB_WATCH_CFG_EVENT w) then
      s.setF Fld.OB_WATCH_CFG_ACTION w 2
    else s

/-- WATCH_CONFIG_WRITE (R436, R439). -/
def execWatchConfigWrite (req : Requester) (d : DieId) (slot : Fin 16) (period : Bool) (value : Word) (s : State) :
    Host.Outcome State Fault Refusal :=
  .next (s.dieAccess req d.val fun s => s.writeWatch d.val slot.val period value)

/-! ## The precise buffer (R440, R441) -/

/-- What a due slot still waits for before a record can be written: the close of a frame that is open. -/
def State.dueWaits (s : State) (d : Nat) (x : Due) : Bool :=
  decide (Fld.OB_WATCH_CFG_ACTION.of x.cfg = 3) && x.frame.isNone &&
    match eventCh (Fld.OB_WATCH_CFG_EVENT.of x.cfg) with
    | some c => (s.ch (8 * d + c)).frame.isSome
    | none => false

/-- A number limited to a field of all ones. -/
def saturate (n width : Nat) : Nat := min n (2 ^ width - 1)

/-- The EXTRA word of a frame record. -/
def FrameInfo.extra (i : FrameInfo) : Word :=
  let m := match i.margin with
    | some x => (BitVec.ofInt 16 (max (-32767) (min x 32767))).toNat
    | none => 0x8000
  BitVec.ofNat 32 (m + 2 ^ 16 * saturate i.bytes 16)

/-- Word 0 of a record (Table 15.4); SEQ is the number of records written before it, mod 256. -/
def precHead (e kind source sq d : Nat) : Word :=
  BitVec.ofNat 32 (e + 2 ^ 10 * kind + 2 ^ 12 * source + 2 ^ 15 + 2 ^ 16 * sq + 2 ^ 24 * d)

/-- The eight words of a frame record. -/
def State.frameRecord (s : State) (d : Nat) (x : Due) (i : FrameInfo) : List Word × State :=
  let e := Fld.OB_WATCH_CFG_EVENT.of x.cfg
  let r := s.fresh
  let cls := i.cls.getD (r.1.toNat % 16)
  ([precHead e 1 ((eventCh e).getD 0) (s.getF Fld.OB_PREC_PTR_WRITE d) d, i.us, i.addr,
    BitVec.ofNat 32 (setBits i.lastop.toNat 12 4 cls), BitVec.ofNat 32 (saturate i.edges 20), i.extra,
    BitVec.ofNat 32 x.counter, 0], if i.cls.isNone then r.2 else s)

/-- The eight words of an instruction record; the core supplies what it executed. -/
def State.coreRecord (s : State) (d : Nat) (x : Due) (pc data latency extra : Word) : List Word :=
  let e := Fld.OB_WATCH_CFG_EVENT.of x.cfg
  [precHead e 0 ((e - 0x3A0) / 16) (s.getF Fld.OB_PREC_PTR_WRITE d) d, x.us, pc, data,
   BitVec.ofNat 32 (saturate latency.toNat 20), extra, BitVec.ofNat 32 x.counter, 0]

/-- Add one to OB_PREC_LOST. -/
def State.precLost (s : State) (d : Nat) : State :=
  s.wr .OB_PREC_LOST d (BitVec.ofNat 32 (min ((s.rd .OB_PREC_LOST d).toNat + 1) 0xFFFFFFFF))

/-- A record goes into the precise buffer of a die (R440, R441). -/
def State.putRecord (s : State) (d : Nat) (words : List Word) : State :=
  let full := decide (256 ≤ (s.die d).unread)
  let wrap := s.flag Fld.OB_PREC_CTRL_WRAP d
  if full && !wrap then (s.setFlag Fld.OB_PREC_PTR_FULL d true).precLost d
  else
    let r := s.getF Fld.OB_PREC_PTR_WRITE d
    let s := s.forEach (List.range 8) fun s k => s.wr .OB_PREC_REC (d * 2048 + 8 * r + k) (words.getD k 0)
    let s := s.setF Fld.OB_PREC_PTR_WRITE d ((r + 1) % 256)
    if full then (s.setF Fld.OB_PREC_PTR_READ d ((s.getF Fld.OB_PREC_PTR_READ d + 1) % 256)).precLost d
    else
      let s := s.modDie d fun x => { x with unread := x.unread + 1 }
      let n := (s.die d).unread
      let s := if n = 256 ∧ !wrap then s.setFlag Fld.OB_PREC_PTR_FULL d true else s
      if s.getF Fld.OB_PREC_CTRL_THRESH d = n then s.emit (.irq d (s.getF Fld.OB_PREC_CTRL_CORE d) 16) else s

/-- The close of the newest frame of a channel, for a record whose event fell while no frame was open: what the spec does not
state of it is free. -/
def State.lastInfo (s : State) (d : Nat) (x : Due) : FrameInfo × State :=
  let n := 8 * d + (eventCh (Fld.OB_WATCH_CFG_EVENT.of x.cfg)).getD 0
  let a := s.fresh
  let b := a.2.fresh
  ({ us := x.us, addr := (s.ch n).lastAddr, lastop := s.rd .CH_LASTOP n, cls := none, edges := a.1.toNat,
     margin := some b.1.toInt, bytes := b.1.toNat / 2 ^ 16 }, b.2)

/-- SAMPLE loads the slot's sample registers (R438). -/
def State.sampleTake (s : State) (d : Nat) (x : Due) (pc : Word) : State :=
  let w := d * 16 + x.slot
  let e := Fld.OB_WATCH_CFG_EVENT.of x.cfg
  match eventCh e with
  | some c =>
    let n := 8 * d + c
    (s.wr .OB_NS_FRAME w (s.rd .CH_LASTOP n)).wr .OB_NS_ADDR w (s.ch n).lastAddr
  | none =>
    let s := s.wr .OB_NS_PC w pc
    if 0x3A0 ≤ e ∧ e < 0x3E0 then s else (s.wr .OB_NS_FRAME w 0).wr .OB_NS_ADDR w 0

/-- A due slot acts (R437). -/
def State.slotActs (s : State) (d : Nat) (x : Due) (pc data latency extra : Word) : State :=
  let e := Fld.OB_WATCH_CFG_EVENT.of x.cfg
  let action := Fld.OB_WATCH_CFG_ACTION.of x.cfg
  if action = 3 then
    if 0x3A0 ≤ e then s.putRecord d (s.coreRecord d x pc data latency extra)
    else
      let i := match x.frame with
        | some i => (i, s)
        | none => s.lastInfo d x
      let r := i.2.frameRecord d x i.1
      r.2.putRecord d r.1
  else
    let s := if action = 2 then s.sampleTake d x pc else s
    let was := bitOf (s.rd .OB_STATUS d).toNat x.slot
    let s := if was then s.orR .OB_STATUS d (2 ^ (16 + x.slot)) else s
    (s.orR .OB_STATUS d (2 ^ x.slot)).emit (.irq d (Fld.OB_WATCH_CFG_CORE.of x.cfg) x.slot)

/-- WATCH_FIRE (R436 to R441): the first due slot that waits for no open frame acts. -/
def execWatchFire (d : DieId) (slot : Fin 16) (pc data latency extra : Word) (s : State) : Host.Outcome State Fault Refusal :=
  .next (s.when (s.live d.val) fun s =>
    let l := (s.die d.val).due.zipIdx
    match l.find? fun x => !s.dueWaits d.val x.1 with
    | none => s
    | some (x, k) =>
      if x.slot ≠ slot.val then s
      else (s.modDie d.val fun y => { y with due := y.due.eraseIdx k }).slotActs d.val x pc data latency extra)

/-- A write of OB_PREC_PTR: software consumes records by advancing READ, which clears FULL. -/
def State.writePrecPtr (s : State) (d : Nat) (v : Word) : State :=
  let r := Fld.OB_PREC_PTR_READ.of v
  if r = s.getF Fld.OB_PREC_PTR_READ d then s
  else
    let left := (s.getF Fld.OB_PREC_PTR_WRITE d + 256 - r) % 256
    ((s.setF Fld.OB_PREC_PTR_READ d r).setFlag Fld.OB_PREC_PTR_FULL d false).modDie d fun x => { x with unread := left }

/-- OB_PREC_PTR_WRITE (R441). -/
def execObPrecPtrWrite (req : Requester) (d : DieId) (value : Word) (s : State) : Host.Outcome State Fault Refusal :=
  .next (s.dieAccess req d.val fun s => s.writePrecPtr d.val value)

/-- A read of a register whose bits with access code RC it returns and clears (R17, R18). -/
def State.readClear (s : State) (n : RegName) (i : Nat) : Word × State := (s.rd n i, s.clrR n i n.rcMask)

/-- OB_PREC_LOST_READ (R441). -/
def execObPrecLostRead (req : Requester) (d : DieId) (s : State) : Host.Outcome State Fault Refusal :=
  .next (s.dieRead req d.val fun s => s.readClear .OB_PREC_LOST d.val)

/-- HP_STALE_READ (R226). -/
def execHpStaleRead (req : Requester) (d : DieId) (s : State) : Host.Outcome State Fault Refusal :=
  .next (s.dieRead req d.val fun s => s.readClear .HP_STALE d.val)

/-- HP_MIGRATED_READ (R226). -/
def execHpMigratedRead (req : Requester) (d : DieId) (s : State) : Host.Outcome State Fault Refusal :=
  .next (s.dieRead req d.val fun s => s.readClear .HP_MIGRATED d.val)

/-! ## Every microsecond (R207, R212, R429) -/

/-- What a die adds: open capture entries (0x327), and open consumptions of each channel (k = 0x34). -/
def State.dieMicrosecond (s : State) (d : Nat) : State :=
  let s := s.count d 0x327 ((s.die d).slots.filter fun x => x.entry && decide (x.st ≠ .verified)).length
  s.forEach (List.range 8) fun s c => s.countCh (8 * d + c) 0x34 (s.ch (8 * d + c)).cons.length

/-- ADDED_EACH_MICROSECOND: FAULT_US advances, every running die adds its quantities, and each queue's bucket gains its tokens
of a millisecond. -/
def execAddedEachMicrosecond (s : State) : Host.Outcome State Fault Refusal :=
  .next (s.when (!s.stopped) fun s =>
    let us := s.us + 1
    let s := s.wr .FAULT_US 0 us
    let s := s.forEach (numsBelow s.nDies s.live) fun s d => s.dieMicrosecond d
    if us.toNat % 1000 = 0 ∧ s.platLive then
      s.forEach (List.range s.nDies) fun s d => s.modQueue d fun q => { q with tokens := min (q.tokens + 1) 1000 }
    else s)

end Sys2Proof.Machine
end

