-- ==== Sys2Proof/Machine/Access.lean ====
section
/-! DEFINITION. Register accesses (R6, R8, R16 to R18, R22, R23, R237, R378): what a write of each register does, what a read of
each returns and does, how an address reaches them, REG_WRITE, and the reads of a frozen part (R245). -/

namespace Sys2Proof.Machine

/-! ## The mailbox's registers (R376, R383) -/

/-- The status byte (Table 12.9). -/
def State.mbStatus (s : State) : Nat :=
  2 ^ 6 * b2n s.mbx.ready + 2 ^ 5 * b2n s.mbx.busy + 2 ^ 4 * b2n s.mbx.overrun + 2 ^ 3 * b2n s.mbx.err +
  2 ^ 2 * s.getF Fld.MB_OUTLEN_FULL 0 +
  2 * b2n (s.rescueOpen && !(s.boot.rescue.any fun x => x.ralver)) +
  b2n ((List.range s.nDies).any fun d => decide ((s.queue d).entries ≠ []))

/-- A write of MB_OUTLEN: the number of words, and a 1 to FULL posts the outbox (R383, R386). -/
def State.writeOutlen (s : State) (req : Requester) (v : Word) : State :=
  if fromDie0 req then s.swWrite .MB_OUTLEN 0 v else s

/-- A write of MB_INLEN: a 1 to FULL frees the inbox (R383, R386). -/
def State.writeInlen (s : State) (req : Requester) (v : Word) : State :=
  if fromDie0 req then s.swWrite .MB_INLEN 0 v else s

/-! ## Fields that read from the state -/

/-- FM_BIND_EFF, OPC and SLUG: a window word, staging or active mirror (R112, R126). -/
def State.formeRead (s : State) (i : Nat) : Word :=
  let d := i / 32768
  let f := i / 512 % 32
  let w := i % 512
  if i / 16384 % 2 = 1 then BitVec.ofNat 32 (s.mirrorWord d f w) else s.rd .FM_STG (bankIx d 0 f w)

/-- WIT_STATUS: VERIFIED and pinned galley slots. -/
def State.witStatus (s : State) (d : Nat) : Word :=
  let l := (s.die d).slots
  BitVec.ofNat 32 ((l.filter fun x => decide (x.st = .verified)).length + 2 ^ 12 * (l.filter fun x => x.pinned).length)

/-- WIT_OCC: open capture entries and pinned digest-cache lines. -/
def State.witOcc (s : State) (d : Nat) : Word :=
  BitVec.ofNat 32 (((s.die d).slots.filter fun x => x.entry && decide (x.st ≠ .verified)).length + 2 ^ 12 * s.pinnedNow d)

/-- WIT_CHSTAT: the channel's open capture entries beside its stored bits. -/
def State.witChstat (s : State) (n : Nat) : Word :=
  let k := ((s.die (n / 8)).slots.filter fun x => x.entry && decide (x.st ≠ .verified) && decide (x.ch = n)).length
  Fld.WIT_CHSTAT_CAPTURES.put (s.rd .WIT_CHSTAT n) k

/-- RP_LINE as it reads: RELEASED (R152), and HOLD where it is forced (R412, R423). -/
def State.lineWord (s : State) (k : Nat) : Word :=
  let w := Fld.RP_LINE_RELEASED.put (s.rd .RP_LINE k) (b2n (s.released k))
  if s.forcedHold then Fld.RP_LINE_HOLD.put w 1 else w

/-- PG_STATUS as it reads: ROOTED, and PENDING from the gate's trees themselves: an open consumption, an unfinished sweep or a
response awaiting a verdict (R166). -/
def State.gateWord (s : State) (g : Nat) : Word :=
  let pending := (s.gateTrees g).any fun t =>
    decide (s.treeCons (t / 256) (t % 256) ≠ []) || s.awaitsVerdict (s.treeCh t) || s.flag Fld.TD_STATE_SWEEP_BUSY t
  Fld.PG_STATUS_PENDING.put (Fld.PG_STATUS_ROOTED.put (s.rd .PG_STATUS g) (b2n (s.gateRooted g))) (b2n pending)

/-! ## Writes -/

/-- A field whose value 0b11 stores 0b10. -/
def cap2 (f : Field) (w : Word) : Word := if f.of w = 3 then f.put w 2 else w

/-- A field whose values below `n` store `n`. -/
def atLeast (f : Field) (n : Nat) (w : Word) : Word := f.put w (max n (f.of w))

/-- A write of a sentry register that only sentry cores make (R298). -/
def State.sentryWrite (s : State) (req : Requester) (f : State → State) : State := if fromCore req then f s else s.bootReject

/-- A write of a register of the channel blocks and of the channels' shields. -/
def State.writeChannelReg (s : State) (n : RegName) (i : Nat) (v : Word) : State :=
  match n with
  | .CH_CTRL => s.writeChCtrl i v
  | .CH_PROTO => s.writeChannelConfig i .proto v
  | .CH_TIMING => s.writeChannelConfig i .timing v
  | .CH_FILL => s.writeChannelConfig i .fill v
  | .SHADOW_SFDP => s.cfgWrite (i / 192) .SHADOW_SFDP i v true
  | .SHADOW_ID => s.cfgWrite (i / 4) .SHADOW_ID i v true
  | .SHADOW_CTRL => s.writeChannelConfig i .shadowCtrl v
  | .SS_CTRL => s.writeChannelConfig i .ssCtrl v
  | .SS_VIEW0 => s.writeChannelConfig i .ssView0 v
  | .SS_VIEW1 => s.writeChannelConfig i .ssView1 v
  | .SS_IDLE => s.writeChannelConfig i .ssIdle v
  | .SS_TIME0 => s.writeChannelConfig i .ssTime0 v
  | .SS_TIME1 => s.writeChannelConfig i .ssTime1 v
  | .SHAPE_DATA => s.writeShapeData i v
  | .CH_TWIN => s.writeChTwin i v
  | .CH_RESET => s.writeChReset i v
  | .CH_OWN => s.writeChOwn i v
  | .FM_BIND => s.writeBind i v
  | _ => s.swWrite n i v

/-- A write of a tree descriptor or a care region, by register. -/
def State.writeRegionReg (s : State) (n : RegName) (i : Nat) (v : Word) : State :=
  match n with
  | .TD_CFG => s.writeTd (i / 256) (i % 256) .cfg v
  | .TD_BASE => s.writeTd (i / 256) (i % 256) .base v
  | .TD_LEAVES => s.writeTd (i / 256) (i % 256) .leaves v
  | .TD_VADDR => s.writeTd (i / 256) (i % 256) .vaddr v
  | .TD_CADDR => s.writeTd (i / 256) (i % 256) .caddr v
  | .TD_REGION => s.writeTd (i / 256) (i % 256) .region v
  | .TD_FLOOR => s.writeTd (i / 256) (i % 256) .floor v
  | .CR_CFG => s.writeCr (i / 32) (i % 32) .cfg v
  | .CR_OPS => s.writeCr (i / 32) (i % 32) .ops v
  | .CR_OPS2 => s.writeCr (i / 32) (i % 32) .ops2 v
  | .CR_BASE => s.writeCr (i / 32) (i % 32) .base v
  | .CR_COUNT => s.writeCr (i / 32) (i % 32) .count v
  | .CR_GADDR => s.writeCr (i / 32) (i % 32) .gaddr v
  | .CR_SCRUB => s.writeCr (i / 32) (i % 32) .scrub v
  | .CR_REFRESH => s.writeCr (i / 32) (i % 32) .refresh v
  | .CR_ENDUR => s.writeCr (i / 32) (i % 32) .endur v
  | .CR_STATE => s.writeCr (i / 32) (i % 32) .state v
  | _ => s.writeChannelReg n i v

/-- A write of MC_CMD where the command carries nothing from outside: what a TWIN_CHECK reads, and what the vault's writes report, is
free. -/
def State.busMcCmd (s : State) (d : Nat) (v : Word) : State :=
  if mem (Fld.MC_CMD_OP.of v) [3, 5] then
    { s with free := s.free + 1 }.writeMcCmd d v { reads := Config.freeReads s.free, writes := Config.freeWrites s.free }
  else s.writeMcCmd d v {}

/-- A write of a register in a die window, once it has reached the die. -/
def State.writeDieReg (s : State) (req : Requester) (n : RegName) (i : Nat) (v : Word) : State :=
  match n with
  | .FM_QUOIN => s.writeQuoin i v
  | .OPC | .SLUG => if i / 16384 % 2 = 1 then s else s.writeStage (i / 32768) (i / 512 % 32) (i % 512) v
  | .WIT_CMD => s.writeWitCmd i v []
  | .WIT_HORIZON => s.wr n i (atLeast Fld.WIT_HORIZON_HORIZON 100 (n.written (s.rd n i) v))
  | .WIT_CHCFG => s.wr n i (cap2 Fld.WIT_CHCFG_TAINT_RESP (n.written (s.rd n i) v))
  | .MC_CMD => s.busMcCmd i v
  | .MC_CTRL => s.writeMcCtrl i v
  | .MC_VCFG => if i < 4 then s.swWrite n i v else s
  | .HP_CTRL => s.wr n i (atLeast Fld.HP_CTRL_JOB_TIMEOUT 5 (n.written (s.rd n i) v))
  | .SN_CORE_RELEASE => s.writeCoreRelease req i v
  | .SN_WDT_KICK => s.writeKick req (i / 4) (i % 4) v
  | .SN_VECTOR => s.sentryWrite req fun s => s.wr n i (v &&& ~~~ 3#32)
  | .SN_TVEC => s.sentryWrite req fun s => s.wr n i (v &&& ~~~ 0xFF#32)
  | .SN_WDT => s.sentryWrite req fun s => s.wr n i (atLeast Fld.SN_WDT_PERIOD_MS 10 (n.written (s.rd n i) v))
  | .SN_TRAP | .SN_TRAP_ADDR | .SN_FAULT => s.sentryWrite req fun s => s.swWrite n i v
  | .OB_CNT => s.writeCnt (i / 1024) (i % 1024) v 0
  | .OB_CHAIN => s.writeChain (i / 16) (i % 16) v
  | .OB_WATCH_CFG => s.writeWatch (i / 16) (i % 16) false v
  | .OB_WATCH_PERIOD => s.writeWatch (i / 16) (i % 16) true v
  | .OB_PREC_PTR => s.writePrecPtr i v
  | _ => s.writeRegionReg n i v

/-- A write of BT_CTRL by a core of die 0: each 1 acts (R285, R289, R296). Whether the CONFIRMED chunk programs is free. -/
def State.writeBtCtrl (s : State) (req : Requester) (v : Word) : State :=
  if !fromDie0 req then s.bootReject
  else
    let s := if Fld.BT_CTRL_CONFIRM.of v = 1 then s.freshBit.2.confirm s.freshBit.1 else s
    let s := if Fld.BT_CTRL_CHECK.of v = 1 then s.checkStart (decide (Fld.BT_CTRL_CHECK_SLOT.of v = 1)) else s
    if Fld.BT_CTRL_RECOPY.of v = 1 then s.recopy (Fld.BT_CTRL_RECOPY_DIE.of v) else s

/-- A write of KU_CMD where the command carries no outcome: what the vault devices do is free. -/
def State.busKuCmd (s : State) (req : Requester) (v : Word) : State :=
  if !fromDie0 req ∨ Fld.KU_CMD_OP.of v ≠ 1 then s.writeKuCmd req v [] [] []
  else { s with free := s.free + 2 }.writeKuCmd req v (Config.freeWrites s.free) (Config.freeWrites (s.free + 1)) (Config.freeBlocks s.free)

/-- RC_WDT_ESC: fields of absent dies take nothing (R8), and 0b11 stores 0b10. -/
def State.writeWdtEsc (s : State) (v : Word) : State :=
  let field (d : Nat) : Nat := if s.present d then (fun x => if x = 3 then 2 else x) (bitsOf v.toNat (2 * d) 2) * 2 ^ (2 * d) else 0
  s.wr .RC_WDT_ESC 0 (BitVec.ofNat 32 (((List.range 8).map field).foldl (· + ·) 0))

/-- A write by a core of die 0 only; any other is discarded in silence (R386). -/
def State.die0Write (s : State) (req : Requester) (f : State → State) : State := if fromDie0 req then f s else s

/-- A write that a core of die 0 makes; any other is discarded with 0xB005 (R427). -/
def State.guardWrite (s : State) (req : Requester) (f : State → State) : State := if fromDie0 req then f s else s.gdReject

/-- A write that a core of die 0 makes; any other is discarded with 0xC007 (R402). -/
def State.ralverWrite (s : State) (req : Requester) (f : State → State) : State := if fromDie0 req then f s else s.rvReject

/-- A write of a register of the boot block, the fuses and the key units. -/
def State.writeRootReg (s : State) (req : Requester) (n : RegName) (i : Nat) (v : Word) : State :=
  match n with
  | .BT_CTRL => s.writeBtCtrl req v
  | .BT_STATUS | .BT_CONFIRM | .BT_RETRY | .BT_SLOT_A | .BT_SLOT_B | .BT_SLOTFLAGS | .BT_CHECK | .BT_FAULT | .BT_LOCK =>
    s.sentryWrite req fun s => s.swWrite n i v
  | .FU_CMD => s.writeFuCmd req v
  | .FU_WDATA => s.writeFuWdata req v
  | .KU_CMD => s.busKuCmd req v
  | .KU_CTRL => s.writeKuCtrl req v
  | .KU_ARG => s.writeKuArg req v
  | _ => s.swWrite n i v

/-- A write of a register of the inbox, the mailbox, the guard or the folio. -/
def State.writeGuardReg (s : State) (req : Requester) (n : RegName) (i : Nat) (v : Word) : State :=
  match n with
  | .HI_FW_BASE => s.die0Write req fun s => if s.inbox.slots = [] then s.wr n i (v &&& ~~~ 0xFFF#32) else s
  | .HI_FW_RES0 | .HI_FW_RES1 | .MB_CTRL | .MB_OUTBOX => s.die0Write req fun s => s.swWrite n i v
  | .HI_FW_DONE => s.freshBit.2.writeFwDone req v { linkOk := s.freshBit.1 }
  | .MB_INLEN => s.writeInlen req v
  | .MB_OUTLEN => s.writeOutlen req v
  | .GD_CTRL => s.guardWrite req fun s => s.writeGdCtrl v
  | .GD_SRC_CFG => s.guardWrite req fun s => s.writeSrcCfg i v
  | .GD_CMD => s.writeGdCmd req v
  | .GD_ARG => s.guardWrite req fun s => s.wr n i (v &&& ~~~ 0xFFF#32)
  | .FO_BASE => s.guardWrite req fun s => s.writeFoBase v
  | .FO_SIZE => s.guardWrite req fun s => s.writeFoSize v
  | .FO_CTRL => s.guardWrite req fun s => s.writeFoCtrl v
  | .FO_CMD => s.writeFoCmd req v
  | .FO_ARG => s.guardWrite req fun s => s.wr n i (v &&& ~~~ 0xF#32)
  | .FO_STATUS | .FO_SEQ | .FO_SEQ_NEXT | .FO_CMD_STATUS => s.guardWrite req fun s => s.swWrite n i v
  | _ => s.writeRootReg req n i v

/-- A write of a package register in PLAT or AON. -/
def State.writePlatReg (s : State) (req : Requester) (n : RegName) (i : Nat) (v : Word) : State :=
  match n with
  | .EPOCH_GO => s.writeEpochGo v
  | .RP_LINE => s.writeRpLine i v
  | .RP_CLIENT => if i < 8 * s.nDies then s.wr n i v else s
  | .PG_CTRL => s.writePgCtrl i v
  | .FQ_POP => s.when (s.present i) fun s => s.writePop i v
  | .FQ_STATUS | .FQ_CTRL => s.when (s.present i) fun s => s.swWrite n i v
  | .RC_DIE_RESET => s.writeDieReset v
  | .RC_WDT_ESC => s.writeWdtEsc v
  | _ => s.writeGuardReg req n i v

/-- A write of a register of a master port or of the XIP window. -/
def State.writePortReg (s : State) (n : RegName) (i : Nat) (v : Word) : State :=
  match n with
  | .MP_CTRL => s.writeMpCtrl i v
  | .MP_QBASE => s.writeQbase i v
  | .MP_QCTL => s.writeQctl i v
  | .MP_QPTR => s.writeQptr i v
  | .XIP_CTRL => s.writeXipCtrl v
  | .XIP_BASE => s.writeXipAddr n 0xFFF v
  | .XIP_TADDR => s.writeXipAddr n 0x1FF v
  | _ => s.swWrite n i v

/-- A write of a register in HIF (R349, R386). -/
def State.writeHifReg (s : State) (n : RegName) (i : Nat) (v : Word) : State :=
  match n with
  | .HI_CTX_LO => if s.flag Fld.HI_CTX_CTRL_EN 0 then s else s.wr n i (v &&& ~~~ 0xFFF#32)
  | .HI_CTX_HI => if s.flag Fld.HI_CTX_CTRL_EN 0 then s else s.wr n i v
  | .HI_CTX_CTRL => s.writeCtxCtrl v
  | _ => s.swWrite n i v

/-- A write of a function page's register (R347, R354, R363): FN registers other than FN_ACTRL are discarded while EN = 1. -/
def State.writePageReg (s : State) (n : RegName) (i : Nat) (v : Word) : State :=
  match n with
  | .SQ_TAIL => s.writeBell (i / 128) (i % 128) false v
  | .CQ_HEAD => s.writeBell (i / 128) (i % 128) true v
  | .FN_ACTRL => s.writeActrl i v
  | .FN_ASQ_LO | .FN_ACQ_LO => if s.flag Fld.FN_ACTRL_EN i then s else s.wr n i (v &&& ~~~ 0xFFF#32)
  | _ => if s.flag Fld.FN_ACTRL_EN i then s else s.swWrite n i v

/-- A write of a register in RLV (R402). -/
def State.writeRvReg (s : State) (req : Requester) (n : RegName) (i : Nat) (v : Word) : State :=
  match n with
  | .RV_CMD => s.writeRvCmd req v
  | .RV_TXPTR => s.writeRvTxptr req v
  | .RV_CTRL | .RV_RXPTR => s.ralverWrite req fun s => s.swWrite n i v
  | .RV_TXBASE | .RV_RXBASE => s.ralverWrite req fun s => s.wr n i (v &&& ~~~ 0xFFF#32)
  | _ => s.swWrite n i v

/-! ## Reads -/

/-- A read of a register in a die window, once it has reached the die. -/
def State.readDieReg (s : State) (req : Requester) (n : RegName) (i : Nat) : Word × State :=
  match n with
  | .CH_LASTOP => s.readLastop i
  | .CH_RESET => (Fld.CH_RESET_HRST_LEVEL.put (s.rd n i) (b2n !(s.ch i).hrst), s)
  | .SHAPE_DATA => s.readShapeData i
  | .FM_BIND => (s.rd .BIND_STG (2 * i), s)
  | .FM_BIND_EFF => (BitVec.ofNat 32 (s.bindEffWord i), s)
  | .OPC | .SLUG => (s.formeRead i, s)
  | .FM_LSINFO => s.readLsinfo i
  | .WIT_STATUS => (s.witStatus i, s)
  | .WIT_OCC => (s.witOcc i, s)
  | .WIT_CHSTAT => (s.witChstat i, s)
  | .WIT_CONSUMED => s.readConsumed i
  | .TD_STATE => (Fld.TD_STATE_LOCKED.put (s.rd n i) (b2n (s.treeLocked (i / 256) (i % 256))), s)
  | .HP_STATUS => (Fld.HP_STATUS_QUEUED.put (s.rd n i) (min 255 (s.jobsAt i).length), s)
  | .HP_STALE | .HP_MIGRATED | .OB_PREC_LOST => s.readClear n i
  | .OB_CNT => s.readCnt req (i / 1024) (i % 1024)
  | .OB_SNAP => (s.readSnap req i, s)
  | .WIT_CMD | .MC_CMD | .SN_WDT_KICK => (0, s)
  | _ => (s.rd n i, s)

/-- A read of a package register; `checkFails` says that the entry under FQ_HEAD0 fails its check (R213). -/
def State.readPlatReg (s : State) (req : Requester) (n : RegName) (i : Nat) (checkFails : Bool) : Word × State :=
  match n with
  | .RP_LINE => (s.lineWord i, s)
  | .PG_CTRL => (Fld.PG_CTRL_ARM.put (s.rd n i) (s.getF Fld.PG_STATUS_ARMED i), s)
  | .PG_STATUS => (s.gateWord i, s)
  | .FQ_STATUS => (if s.present i then s.readFqStatus i else 0, s)
  | .FQ_HEAD0 => if s.present i then s.readHead0 i checkFails else (0, s)
  | .FU_STATUS => (s.readFuStatus, s)
  | .KU_BIND_NONCE => if i = 0 then s.readBindNonce else (s.rd n i, s)
  | .GD_UNLOCK_NONCE => if i = 0 then s.readUnlockNonce else (s.rd n i, s)
  | .GD_SRC_CNT => s.readSrcCnt i
  | .GD_SRC_CFG => (if s.sourcePresent i then s.rd n i else 0, s)
  | .FO_SEQ => s.readFoSeq
  | .HI_FW_TAKE => s.readTake req
  | .MB_STATUS => (BitVec.ofNat 32 (s.mbStatus + 2 ^ 8 * b2n s.mbx.quad), s)
  | .EPOCH_GO | .FQ_POP | .RC_DIE_RESET | .BT_CTRL | .FU_CMD | .KU_CMD | .GD_CMD | .FO_CMD | .HI_FW_DONE => (0, s)
  | _ => (s.rd n i, s)

/-- A read of a register in AON. -/
def State.readAonReg (s : State) (n : RegName) (i : Nat) : Word × State :=
  match n with
  | .RV_CSEQ => if i = 0 then s.readCseq else (s.rd n i, s)
  | _ => (s.rd n i, s)

/-- A read of a register in HIF or RLV: RV_CMD and the doorbells read zero (R17, R347). -/
def State.readSideReg (s : State) (n : RegName) (i : Nat) : Word × State :=
  match n with
  | .SQ_TAIL | .CQ_HEAD | .RV_CMD => (0, s)
  | _ => (s.rd n i, s)

/-! ## From an address to a register -/

/-- An offset of BAR0 for which no rule says what an unlisted offset reads (notes/assumptions/8.md): the package blocks other
than the master ports, the guard and the folio, and the parts of a die window outside R81, R126, R164, R197, R226, R443. -/
def silentOffset (a : Nat) : Bool :=
  if a < 0x100000 then
    !((decide (0x5000 ≤ a) && decide (a < 0x5C00)) || (decide (0xC000 ≤ a) && decide (a < 0xC900)))
  else
    let o := a % 0x100000
    decide (a < 0x900000) && ((decide (0x8000 ≤ o) && decide (o < 0x10000)) || (decide (0x11000 ≤ o) && decide (o < 0x40000)) ||
      (decide (0xC0000 ≤ o) && decide (o < 0xE0000)))

/-- What an unlisted offset reads. -/
def State.readUnlisted (s : State) (a : Nat) : Word × State := if silentOffset a then s.fresh else (0, s)

/-- The requester reaches the function pages: only PCIe does (R378). -/
def reachesPages (req : Requester) : Bool := decide (req = .pf)

/-- A write of a register at its place (R16: aligned, 32 bits). -/
def State.writeAt (s : State) (req : Requester) (a : Nat) (v : Word) : State :=
  match decodeAddr a with
  | none =>
    match windowDie a with
    | some d => s.dieAccess req d id
    | none => if 0x5800 ≤ a ∧ a < 0x5C00 then s.dieAccess req 1 id else s
  | some r =>
    if bar2Base ≤ a then
      s.when (reachesPages req && s.hifLive && s.fnLive ((a - bar2Base) / 0x1000)) fun s => s.writePageReg r.name r.i v
    else match r.name.dom with
      | .const => s
      | .die _ => s.dieAccess req ((windowDie a).getD 0) fun s => s.writeDieReg req r.name r.i v
      | .plat => s.platAccess req fun s => s.writePlatReg req r.name r.i v
      | .aon => s.aonAccess req fun s => s.writePlatReg req r.name r.i v
      | .port => s.portAccess req (if 0x5800 ≤ a then 2 else 0) fun s => s.writePortReg r.name r.i v
      | Dom.hif => s.hifAccess req fun s => s.writeHifReg r.name r.i v
      | .rlv => s.rlvAccess req fun s => s.writeRvReg req r.name r.i v

/-- A read of a register at its place; none where the requester gets no answer. -/
def State.readAt (s : State) (req : Requester) (a : Nat) (checkFails : Bool) : Option Word × State :=
  match decodeAddr a with
  | none =>
    match windowDie a with
    | some d => s.dieFetch req d fun s => s.readUnlisted a
    | none =>
      if 0x5800 ≤ a ∧ a < 0x5C00 then s.dieFetch req 1 fun s => (0, s)
      else s.aonFetch req fun s => if a < 0x1000000 then s.readUnlisted a else s.fresh
  | some r =>
    if bar2Base ≤ a then
      if reachesPages req && s.hifLive && s.fnLive ((a - bar2Base) / 0x1000) then fetched (s.readSideReg r.name r.i) else (none, s)
    else match r.name.dom with
      | .const => s.aonFetch req fun s => (s.rd r.name r.i, s)
      | .die _ => s.dieFetch req ((windowDie a).getD 0) fun s => s.readDieReg req r.name r.i
      | .plat => s.platFetch req fun s => s.readPlatReg req r.name r.i checkFails
      | .aon => s.aonFetch req fun s => s.readAonReg r.name r.i
      | .port => s.portFetch req (if 0x5800 ≤ a then 2 else 0) fun s => (s.rd r.name r.i, s)
      | Dom.hif => s.hifFetch req fun s => s.readSideReg r.name r.i
      | .rlv => s.rlvFetch req fun s => s.readSideReg r.name r.i

/-- A read of `n` bytes at any byte address (R16): one whole-register read, with its side effects, of each register it covers, of which
it returns the addressed bytes. -/
def busRead (read : State → Nat → Word × State) (s : State) (a n : Nat) : List Byte × State :=
  let k := min n (4 - a % 4)
  let r := read s (a / 4 * 4)
  let low := sliceB (leBytes 4 r.1.toNat) (a % 4) k
  if n ≤ k then (low, r.2)
  else
    let t := read r.2 (a / 4 * 4 + 4)
    (low ++ sliceB (leBytes 4 t.1.toNat) 0 (n - k), t.2)

/-- A read of 32 bits. -/
def busWord (read : State → Nat → Word × State) (s : State) (a : Nat) : Word × State :=
  let r := busRead read s a 4
  (BitVec.ofNat 32 (ofLe r.1), r.2)

/-- A write of a word of a function's MSI-X table (Table 12.3). -/
def State.writeMsix (s : State) (f w : Nat) (v : Word) : State :=
  let v := if w % 4 = 3 then v.toNat % 2 else if w % 4 = 0 then v.toNat / 4 * 4 else v.toNat
  let s := s.modHif fun h => { h with msix := Tbl.set h.msix (128 * f + w) v (if w % 4 = 3 then 1 else 0) }
  if w % 4 = 3 ∧ v = 0 ∧ bitOf (Tbl.get s.hif.pba f 0) (w / 4) then
    (s.modHif fun h => { h with pba := Tbl.set h.pba f (Tbl.get h.pba f 0 - 2 ^ (w / 4)) 0 }).emit (.msix f (w / 4))
  else s

/-- REG_WRITE (R16, R17, R18): `width` is in bits; an access that is narrower than 32 bits or not aligned is discarded. -/
def execRegWrite (req : Requester) (addr width : Nat) (value : Word) (s : State) : Host.Outcome State Fault Refusal :=
  .next (
    if width ≠ 32 ∨ addr % 4 ≠ 0 then s
    else
      let o := (addr - bar2Base) % 0x1000
      let f := (addr - bar2Base) / 0x1000
      if bar2Base + 0x100000 > addr ∧ bar2Base ≤ addr ∧ 0xC00 ≤ o ∧ o < 0xE00 then
        s.when (reachesPages req && s.hifLive && s.fnLive f) fun s => s.writeMsix f ((o - 0xC00) / 4) value
      else s.writeAt req addr value)

/-! ## Reads of a frozen part (R245) -/

/-- An address inside the key units or the fuse shadow registers. -/
def secretAddr (a : Nat) : Bool := decide (0x7000 ≤ a) && decide (a < 0x9000)

/-- The word that FRZREAD reads at an offset: no RC field clears, nothing is captured or popped, no register changes. -/
def State.frozenWord (s : State) (a : Nat) : Word :=
  match decodeAddr a with
  | none => 0
  | some r =>
    if bar2Base ≤ a then 0
    else match r.name.dom with
      | .die _ => if s.present ((windowDie a).getD 0) then (s.readDieReg .pf r.name r.i).1 else 0
      | .plat =>
        if r.name = .KU_BIND_NONCE ∨ r.name = .GD_UNLOCK_NONCE ∨ r.name = .FQ_HEAD0 then s.rd r.name r.i
        else (s.readPlatReg .pf r.name r.i false).1
      | .aon => s.rd r.name r.i
      | _ => (s.readSideReg r.name r.i).1

/-- The same at every offset: zero for the secrets (R245), a free value where the spec states none for an unlisted offset. -/
def State.frozenRead (s : State) (a : Nat) : Word × State :=
  if secretAddr a ∧ 1 < s.lc then (0, s)
  else if decodeAddr a = none ∧ silentOffset a ∧ s.present ((windowDie a).getD 0) then s.fresh
  else (s.frozenWord a, s)

/-- FRZREAD (R245): OP 0b01 reads; the value appears in DATA on the next capture, so the register shifts out the one before. -/
def execFrzread (op : Fin 4) (addr : Word) (s : State) : Host.Outcome State Fault Refusal :=
  .next (s.when (!s.seq.aonHeld) fun s =>
    if !s.seq.frozen then s.bypass
    else
      let r := if op.val = 1 then busWord State.frozenRead s addr.toNat else (0, s)
      let out := wordBits s.jtag.frz
      (r.2.modJtag fun j => { j with ir := 0x21, frz := r.1 }).emit (.tdo out))

end Sys2Proof.Machine
end

