-- ==== Sys2Proof/Machine/Mailbox.lean ====
section
/-! DEFINITION. The mailbox port (R375 to R385): every frame sends the status byte first, and a frame that is refused or cut
short sets ERR and reports its fault. -/

namespace Sys2Proof.Machine

/-- Change the port's state. -/
def State.modMbx (s : State) (f : Mbx → Mbx) : State := { s with mbx := f s.mbx }

/-- What the port sends in a frame: the status byte as it stood at the fall of MBX_CS_N (R376), then data. -/
def State.mbSend (s : State) (status : Nat) (data : List Byte) : State :=
  (s.emit (.mailbox (BitVec.ofNat 8 status :: data))).count 0 0x3EB 1

/-- A refused frame (R377): no effect but ERR and 0x8006, whose SOURCE names the opcode. -/
def State.mbRefuse (s : State) (opcode : Nat) : State := (s.modMbx fun m => { m with err := true }).report 0 0x8006 opcode

/-- A frame that was cut short or that timed out (R382). -/
def State.mbCut (s : State) : State := (s.modMbx fun m => { m with err := true }).report 0 0x8007 (openSource 0x8007)

/-- A request passed the last word of its page (R380). -/
def State.mbOverrun (s : State) : State :=
  (s.modMbx fun m => { m with overrun := true }).report 0 0x8005 (openSource 0x8005)

/-- A frame of the controller while PLAT runs: the status byte goes out, then the frame's effect. -/
def State.mbFrame (s : State) (f : State → State) : State :=
  s.when s.platLive fun s => f (s.mbSend s.mbStatus [])

/-- The words of a request of `n` words from `addr` that lie in its page. -/
def pageWords (addr n : Nat) : Nat := min n ((0x1000 - addr % 0x1000) / 4)

/-- Bytes of words, most significant first (R376). -/
def beWords (l : List Word) : List Byte := l.flatMap fun w => beBytes 4 w.toNat

/-- The first `n` bytes that the port sends where it has `l` to send: the spec says nothing of further bytes. -/
def State.mbClocked (s : State) (l : List Byte) (n : Nat) : List Byte :=
  l.take n ++ (List.range (n - l.length)).map fun k => Config.freeByte (s.free + k)

/-! ## WRITE, READ_REQ, READ_DATA (R377 to R381) -/

/-- Apply words in order from an address. -/
def State.mbApply (s : State) (addr : Nat) : List Word → State
  | [] => s
  | w :: rest => (s.writeAt .mailbox addr w).mbApply (addr + 4) rest

/-- WRITE (R378, R380, R382): at most 64 words, each as a PF write. -/
def execMbWrite (addr : Word) (words : List Word) (cut : Bool) (s : State) : Host.Outcome State Fault Refusal :=
  .next (s.mbFrame fun s =>
    if s.mbx.busy ∨ !s.flag Fld.MB_CTRL_WR_EN 0 then s.mbRefuse 0x01
    else
      let a := addr.toNat / 4 * 4
      let l := words.take 64
      let k := pageWords a l.length
      let s := s.mbApply a (l.take k)
      let s := if k < l.length then s.mbOverrun else s
      if cut then s.mbCut else s)

/-- READ_REQ (R379): the previous buffer goes, and the fetches begin. -/
def execMbReadReq (addr : Word) (count : Byte) (cut : Bool) (s : State) : Host.Outcome State Fault Refusal :=
  .next (s.mbFrame fun s =>
    if s.mbx.busy then s.mbRefuse 0x02
    else if cut then s.mbCut
    else
      let n := if count = 0 then 64 else min count.toNat 64
      s.modMbx fun m => { m with busy := true, ready := false, words := [], req := some (addr.toNat / 4 * 4, n) })

/-- Fetch words one at a time, in rising address order; each is one read with its side effects. -/
def State.mbFetch (s : State) (addr : Nat) (checkFails : Bool) : Nat → List Word × State
  | 0 => ([], s)
  | n + 1 =>
    let (w, s) := busWord (fun s a => let r := s.readAt .mailbox a checkFails; (r.1.getD 0, r.2)) s addr
    let (l, s) := s.mbFetch (addr + 4) checkFails n
    (w :: l, s)

/-- READ_BUFFER_READY (R379, R380): the words of the request are in the buffer; words past the page read 0xFFFF_FFFF. -/
def execMbReadBufferReady (checkFails : Bool) (s : State) : Host.Outcome State Fault Refusal :=
  .next (s.when s.platLive fun s =>
    match s.mbx.req with
    | none => s
    | some (a, n) =>
      let k := pageWords a n
      let (l, s) := s.mbFetch a checkFails k
      let s := if k < n then s.mbOverrun else s
      s.modMbx fun m =>
        { m with busy := false, ready := true, req := none, words := l ++ List.replicate (n - k) 0xFFFFFFFF })

/-- READ_DATA (R379): the buffer, any number of times; 0xFF bytes while READY = 0. `clocked` counts the bytes after the status
byte. -/
def execMbReadData (clocked : Nat) (s : State) : Host.Outcome State Fault Refusal :=
  .next (s.when s.platLive fun s =>
    if s.mbx.ready then
      let l := beWords s.mbx.words
      let out := s.mbClocked l clocked
      { s.mbSend s.mbStatus out with free := s.free + (clocked - l.length) }
    else s.mbSend s.mbStatus (List.replicate clocked 0xFF))

/-! ## CLEAR, SET_QUAD, RESET (R375, R377, R384) -/

/-- CLEAR (R377). -/
def execMbClear (s : State) : Host.Outcome State Fault Refusal :=
  .next (s.mbFrame fun s => s.modMbx fun m => { m with overrun := false, err := false })

/-- SET_QUAD (R375): from the next frame on. -/
def execMbSetQuad (arg : Byte) (s : State) : Host.Outcome State Fault Refusal :=
  .next (s.mbFrame fun s =>
    if arg = 0 then s.modMbx fun m => { m with quad := false }
    else if arg = 1 then s.modMbx fun m => { m with quad := true }
    else s.mbRefuse 0x05)

/-- The key of RESET (Table 12.10). -/
def resetKey : Word := 0x52535421

/-- RESET (R377, R384). -/
def execMbReset (scope : Byte) (key : Word) (s : State) : Host.Outcome State Fault Refusal :=
  .next (s.mbFrame fun s =>
    if key ≠ resetKey then s.mbRefuse 0x10
    else if scope = 1 then s.recognise .hifCmd 0 []
    else if scope = 2 ∧ s.flag Fld.MB_CTRL_RESET_EN 0 then s.recognise .mailboxPart 0 []
    else s.mbRefuse 0x10)

/-! ## Messages (R383) -/

/-- MSG_SEND (R377, R382, R383). -/
def execMbMsgSend (count : Byte) (words : List Word) (cut : Bool) (s : State) : Host.Outcome State Fault Refusal :=
  .next (s.mbFrame fun s =>
    let n := count.toNat
    if s.mbx.busy ∨ s.flag Fld.MB_INLEN_FULL 0 ∨ n = 0 ∨ 64 < n then s.mbRefuse 0x20
    else if cut ∨ words.length < n then s.mbCut
    else
      let s := (words.take n).zipIdx.foldl (fun (t : State) p => t.wr .MB_INBOX p.2 p.1) s
      (s.setF Fld.MB_INLEN_WORDS 0 n).setFlag Fld.MB_INLEN_FULL 0 true)

/-- Words of the outbox message: 0 acts as 64 (MB_OUTLEN), and more than 64 as 64. -/
def State.outWords (s : State) : Nat :=
  let n := s.getF Fld.MB_OUTLEN_WORDS 0
  if n = 0 then 64 else min n 64

/-- MSG_RECV (R383): count and words; FULL clears once every word has been clocked out. -/
def execMbMsgRecv (clocked : Nat) (s : State) : Host.Outcome State Fault Refusal :=
  .next (s.when s.platLive fun s =>
    let full := s.flag Fld.MB_OUTLEN_FULL 0
    let n := if full then s.outWords else 0
    let l := BitVec.ofNat 8 n :: beWords ((List.range n).map fun k => s.rd .MB_OUTBOX k)
    let out := s.mbClocked l clocked
    let s := { s.mbSend s.mbStatus out with free := s.free + (clocked - l.length) }
    if full ∧ l.length ≤ clocked then s.setFlag Fld.MB_OUTLEN_FULL 0 false else s)

/-- MB_OUTLEN_WRITE (R383, R386). -/
def execMbOutlenWrite (req : Requester) (value : Word) (s : State) : Host.Outcome State Fault Refusal :=
  .next (s.platAccess req fun s => s.writeOutlen req value)

/-- MB_INLEN_WRITE (R383, R386). -/
def execMbInlenWrite (req : Requester) (value : Word) (s : State) : Host.Outcome State Fault Refusal :=
  .next (s.platAccess req fun s => s.writeInlen req value)

/-! ## Rescue transfer (R385) and time limits (R382) -/

/-- The mailbox's rescue transfer may go on: RESCUE reads 1. -/
def State.mbRescue (s : State) : Bool := s.rescueOpen && !(s.boot.rescue.any fun x => x.ralver)

/-- RESCUE_DATA (R377, R385). -/
def execMbRescueData (offset : Word) (chunk : List Byte) (cut : Bool) (s : State) : Host.Outcome State Fault Refusal :=
  .next (s.mbFrame fun s =>
    let next := (s.boot.rescue.map fun x => x.next).getD 0
    if s.mbx.busy ∨ !s.mbRescue then s.mbRefuse 0x30
    else if cut ∨ chunk.length < 256 then s.mbCut
    else if offset.toNat < next then s
    else if next < offset.toNat then s.mbRefuse 0x30
    else s.rescueChunk (chunk.take 256))

/-- RESCUE_TIMEOUT (R385): the mailbox's transfer stops. -/
def execRescueTimeout (s : State) : Host.Outcome State Fault Refusal :=
  .next (s.when (s.platLive && s.boot.rescue.any fun x => !x.ralver && decide (10000000 ≤ s.usSince x.since)) fun s =>
    s.rescueFail)

/-- MAILBOX_FRAME_TIMEOUT (R382). -/
def execMailboxFrameTimeout (s : State) : Host.Outcome State Fault Refusal := .next (s.when s.platLive fun s => s.mbCut)

end Sys2Proof.Machine
end

