-- ==== Sys2Proof/Machine/Dispatch.lean ====
section
/-! DEFINITION. One arm for each command: the effect of a command on everything but the queue. -/

namespace Sys2Proof.Machine

def exec (i : Instr) (s : State) : Host.Outcome State Fault Refusal :=
  match i with
  | .regWrite req addr width value => Sys2Proof.Machine.execRegWrite req addr width value s
  | .hostFrame ch f => Sys2Proof.Machine.execHostFrame ch f s
  | .shadowBusyExpire ch => Sys2Proof.Machine.execShadowBusyExpire ch s
  | .frameTimeout ch => Sys2Proof.Machine.execFrameTimeout ch s
  | .hrstAssert ch => Sys2Proof.Machine.execHrstAssert ch s
  | .hrstRelease ch => Sys2Proof.Machine.execHrstRelease ch s
  | .deferredResetAssert ch => Sys2Proof.Machine.execDeferredResetAssert ch s
  | .deferredResetEnd ch => Sys2Proof.Machine.execDeferredResetEnd ch s
  | .chCtrlWrite req ch value => Sys2Proof.Machine.execChCtrlWrite req ch value s
  | .stateChange ch => Sys2Proof.Machine.execStateChange ch s
  | .channelConfigWrite req ch reg value => Sys2Proof.Machine.execChannelConfigWrite req ch reg value s
  | .shapeDataAccess req ch write => Sys2Proof.Machine.execShapeDataAccess req ch write s
  | .chLastopRead req ch => Sys2Proof.Machine.execChLastopRead req ch s
  | .chResetAssert req ch value => Sys2Proof.Machine.execChResetAssert req ch value s
  | .swap req ch value => Sys2Proof.Machine.execSwap req ch value s
  | .swapApply ch => Sys2Proof.Machine.execSwapApply ch s
  | .completionRead ch granule read => Sys2Proof.Machine.execCompletionRead ch granule read s
  | .statusPoll ch status still => Sys2Proof.Machine.execStatusPoll ch status s still
  | .stagingWrite req target value => Sys2Proof.Machine.execStagingWrite req target value s
  | .epochGo req value => Sys2Proof.Machine.execEpochGo req value s
  | .epochChecksComplete => Sys2Proof.Machine.execEpochChecksComplete s
  | .channelTakeEpoch ch => Sys2Proof.Machine.execChannelTakeEpoch ch s
  | .epochDeadline => Sys2Proof.Machine.execEpochDeadline s
  | .epochSwitchComplete => Sys2Proof.Machine.execEpochSwitchComplete s
  | .stageCopyDone d => Sys2Proof.Machine.execStageCopyDone d s
  | .fmQuoinWrite req d value => Sys2Proof.Machine.execFmQuoinWrite req d value s
  | .fmLsinfoRead req d => Sys2Proof.Machine.execFmLsinfoRead req d s
  | .load req d t => Sys2Proof.Machine.execLoad req d t s
  | .loadDone d colophon pinned => Sys2Proof.Machine.execLoadDone d colophon pinned s
  | .unload req d t => Sys2Proof.Machine.execUnload req d t s
  | .sweep req d t reads => Sys2Proof.Machine.execSweep req d t reads s
  | .sweepDone d reads => Sys2Proof.Machine.execSweepDone d reads s
  | .preload req d t reads => Sys2Proof.Machine.execPreload req d t reads s
  | .preloadPin req d t reads => Sys2Proof.Machine.execPreloadPin req d t reads s
  | .unpin req d t => Sys2Proof.Machine.execUnpin req d t s
  | .descriptorWrite req d t reg value => Sys2Proof.Machine.execDescriptorWrite req d t reg value s
  | .groupFetchDone d t level index fetch => Sys2Proof.Machine.execGroupFetchDone d t level index fetch s
  | .hashResult ch granule gen executor lane corrupt det5 det6 => Sys2Proof.Machine.execHashResult ch granule gen executor lane corrupt det5 det6 s
  | .leafVerdict ch granule second again badLines => Sys2Proof.Machine.execLeafVerdict ch granule second again s badLines
  | .verdictReport ch => Sys2Proof.Machine.execVerdictReport ch s
  | .horizonExpire ch seq => Sys2Proof.Machine.execHorizonExpire ch seq s
  | .taintReread ch granule read => Sys2Proof.Machine.execTaintReread ch granule read s
  | .restartClear ch => Sys2Proof.Machine.execRestartClear ch s
  | .gateOpen g => Sys2Proof.Machine.execGateOpen g s
  | .pgCtrlWrite req g value => Sys2Proof.Machine.execPgCtrlWrite req g value s
  | .rpLineWrite req k value => Sys2Proof.Machine.execRpLineWrite req k value s
  | .releasePlanWrite req reg value => Sys2Proof.Machine.execReleasePlanWrite req reg value s
  | .witConsumedRead req ch => Sys2Proof.Machine.execWitConsumedRead req ch s
  | .vaultRead d port dev addr attempts => Sys2Proof.Machine.execVaultRead d port dev addr attempts s
  | .vaultRefresh d port dev block writes => Sys2Proof.Machine.execVaultRefresh d port dev block writes s
  | .vaultDirectoryRead directory scan gens intents => Sys2Proof.Machine.execVaultDirectoryRead directory scan gens intents s
  | .tallyFlush d writes => Sys2Proof.Machine.execTallyFlush d s writes
  | .scrubStep d r read path golden colophon goldenHash status => Sys2Proof.Machine.execScrubStep d r read path golden colophon s goldenHash status
  | .scrubLate d r => Sys2Proof.Machine.execScrubLate d r s
  | .refreshDue d r block => Sys2Proof.Machine.execRefreshDue d r block s
  | .careUnit d run => Sys2Proof.Machine.execCareUnit d run s
  | .careUnitComplete d writes => Sys2Proof.Machine.execCareUnitComplete d s writes
  | .recover req d value => Sys2Proof.Machine.execRecover req d value s
  | .refresh req d value => Sys2Proof.Machine.execRefresh req d value s
  | .twinCheck req d value reads paths => Sys2Proof.Machine.execTwinCheck req d value reads s paths
  | .scrubRestart req d value => Sys2Proof.Machine.execScrubRestart req d value s
  | .flush req d value writes => Sys2Proof.Machine.execFlush req d value s writes
  | .careRegionWrite req d r reg value => Sys2Proof.Machine.execCareRegionWrite req d r reg value s
  | .faultReport d dseq => Sys2Proof.Machine.execFaultReport d dseq s
  | .stormEnd d => Sys2Proof.Machine.execStormEnd d s
  | .fqHeadRead req d checkFails => Sys2Proof.Machine.execFqHeadRead req d checkFails s
  | .fqPop req d value => Sys2Proof.Machine.execFqPop req d value s
  | .dieUnreachable d => Sys2Proof.Machine.execDieUnreachable d s
  | .dieReachable d => Sys2Proof.Machine.execDieReachable d s
  | .hopDown d toward => Sys2Proof.Machine.execHopDown d toward s
  | .hopCheck d toward run => Sys2Proof.Machine.execHopCheck d toward s run
  | .capacityAdvert d free => Sys2Proof.Machine.execCapacityAdvert d free s
  | .jobTimeout ch granule executor => Sys2Proof.Machine.execJobTimeout ch granule executor s
  | .fence executor owner gen => Sys2Proof.Machine.execFence executor owner gen s
  | .fenceAck owner executor => Sys2Proof.Machine.execFenceAck owner executor s
  | .laneKat d lane pass => Sys2Proof.Machine.execLaneKat d lane pass s
  | .powerOnReset vio33 => Sys2Proof.Machine.execPowerOnReset vio33 s
  | .brownOut src rc => Sys2Proof.Machine.execBrownOut src s rc
  | .supplyGood src => Sys2Proof.Machine.execSupplyGood src s
  | .rstNAssert => Sys2Proof.Machine.execRstNAssert s
  | .refclkLoss rc => Sys2Proof.Machine.execRefclkLoss s rc
  | .refclkGood => Sys2Proof.Machine.execRefclkGood s
  | .pciePerst => Sys2Proof.Machine.execPciePerst s
  | .pcieLinkReset => Sys2Proof.Machine.execPcieLinkReset s
  | .flr f => Sys2Proof.Machine.execFlr f s
  | .rcDieResetWrite req value => Sys2Proof.Machine.execRcDieResetWrite req value s
  | .watchdogExpire d k => Sys2Proof.Machine.execWatchdogExpire d k s
  | .tapReset => Sys2Proof.Machine.execTapReset s
  | .resetTakesHold rc => Sys2Proof.Machine.execResetTakesHold s rc
  | .deferralLimit => Sys2Proof.Machine.execDeferralLimit s
  | .resetMerge src rc => Sys2Proof.Machine.execResetMerge src s rc
  | .holdEnd => Sys2Proof.Machine.execHoldEnd s
  | .pllRetry unlocked => Sys2Proof.Machine.execPllRetry unlocked s
  | .releaseFuse => Sys2Proof.Machine.execReleaseFuse s
  | .releaseFabric => Sys2Proof.Machine.execReleaseFabric s
  | .trainingDeadline unreached => Sys2Proof.Machine.execTrainingDeadline unreached s
  | .releaseHashCrypto badLanes badKeyUnits => Sys2Proof.Machine.execReleaseHashCrypto badLanes badKeyUnits s
  | .releaseSentry => Sys2Proof.Machine.execReleaseSentry s
  | .releaseDie d => Sys2Proof.Machine.execReleaseDie d s
  | .releaseHif => Sys2Proof.Machine.execReleaseHif s
  | .releaseRlv => Sys2Proof.Machine.execReleaseRlv s
  | .frzNAssert => Sys2Proof.Machine.execFrzNAssert s
  | .freeze => Sys2Proof.Machine.execFreeze s
  | .frzread op addr => Sys2Proof.Machine.execFrzread op addr s
  | .extest cells => Sys2Proof.Machine.execExtest cells s
  | .idcode => Sys2Proof.Machine.execIdcode s
  | .samplePreload cells => Sys2Proof.Machine.execSamplePreload cells s
  | .bypass => Sys2Proof.Machine.execBypass s
  | .mpQptrWrite req p value stores => Sys2Proof.Machine.execMpQptrWrite req p value stores s
  | .mpQueueConfigWrite req p qctl value => Sys2Proof.Machine.execMpQueueConfigWrite req p qctl value s
  | .mpFrame p ev => Sys2Proof.Machine.execMpFrame p ev s
  | .mpFrameDone p => Sys2Proof.Machine.execMpFrameDone p s
  | .pollRepeat p ev => Sys2Proof.Machine.execPollRepeat p ev s
  | .pollLimit p => Sys2Proof.Machine.execPollLimit p s
  | .writePollTimeout p sel => Sys2Proof.Machine.execWritePollTimeout p sel s
  | .xipRead d k addr kind => Sys2Proof.Machine.execXipRead d k addr kind s
  | .xipFillDone leaf first second => Sys2Proof.Machine.execXipFillDone leaf first second s
  | .xipStall leaf => Sys2Proof.Machine.execXipStall leaf s
  | .xipStore d k addr => Sys2Proof.Machine.execXipStore d k addr s
  | .xipCtrlWrite req value => Sys2Proof.Machine.execXipCtrlWrite req value s
  | .romBoot a b => Sys2Proof.Machine.execRomBoot a b s
  | .bootBlockVerified d leaf first second => Sys2Proof.Machine.execBootBlockVerified d leaf first second s
  | .handOver failing => Sys2Proof.Machine.execHandOver failing s
  | .backoffExpire => Sys2Proof.Machine.execBackoffExpire s
  | .confirm req ok => Sys2Proof.Machine.execConfirm req ok s
  | .confirmWindowExpire => Sys2Proof.Machine.execConfirmWindowExpire s
  | .check req slot => Sys2Proof.Machine.execCheck req slot s
  | .checkDone src leaves => Sys2Proof.Machine.execCheckDone src leaves s
  | .recopy req d => Sys2Proof.Machine.execRecopy req d s
  | .snCoreReleaseWrite req d value => Sys2Proof.Machine.execSnCoreReleaseWrite req d value s
  | .wdtKick req d k value => Sys2Proof.Machine.execWdtKick req d k value s
  | .busError d k kind addr => Sys2Proof.Machine.execBusError d k kind addr s
  | .machineCheck d k addr => Sys2Proof.Machine.execMachineCheck d k addr s
  | .fuRead req value => Sys2Proof.Machine.execFuRead req value s
  | .fuReadMargin req value => Sys2Proof.Machine.execFuReadMargin req value s
  | .fuProgram req value => Sys2Proof.Machine.execFuProgram req value s
  | .fuFinalise req value => Sys2Proof.Machine.execFuFinalise req value s
  | .fuGenUds req value => Sys2Proof.Machine.execFuGenUds req value s
  | .fuAdvanceRollback req value => Sys2Proof.Machine.execFuAdvanceRollback req value s
  | .fuAdvanceTamper req value => Sys2Proof.Machine.execFuAdvanceTamper req value s
  | .fuRevoke req value => Sys2Proof.Machine.execFuRevoke req value s
  | .fuAdvanceLc req value => Sys2Proof.Machine.execFuAdvanceLc req value s
  | .fuMarginScan req value => Sys2Proof.Machine.execFuMarginScan req value s
  | .fucmd wdata cmd => Sys2Proof.Machine.execFucmd wdata cmd s
  | .fustat => Sys2Proof.Machine.execFustat s
  | .fusePulseEnd result => Sys2Proof.Machine.execFusePulseEnd result s
  | .vfuseExcursion => Sys2Proof.Machine.execVfuseExcursion s
  | .kuBind req stores erases writes factoryBad => Sys2Proof.Machine.execKuBind req stores erases writes factoryBad s
  | .kuDeriveFw req stores => Sys2Proof.Machine.execKuDeriveFw req stores s
  | .bindNonceRead req => Sys2Proof.Machine.execBindNonceRead req s
  | .keyUnitFault d => Sys2Proof.Machine.execKeyUnitFault d s
  | .signingComplete mem => Sys2Proof.Machine.execSigningComplete mem s
  | .setEndpointId eid => Sys2Proof.Machine.execSetEndpointId eid s
  | .getEndpointId => Sys2Proof.Machine.execGetEndpointId s
  | .getMctpVersionSupport => Sys2Proof.Machine.execGetMctpVersionSupport s
  | .getMessageTypeSupport => Sys2Proof.Machine.execGetMessageTypeSupport s
  | .spdmGetVersion eid => Sys2Proof.Machine.execSpdmGetVersion eid s
  | .spdmGetCapabilities eid => Sys2Proof.Machine.execSpdmGetCapabilities eid s
  | .spdmNegotiateAlgorithms eid => Sys2Proof.Machine.execSpdmNegotiateAlgorithms eid s
  | .spdmChallenge eid summary nonce => Sys2Proof.Machine.execSpdmChallenge eid summary nonce s
  | .spdmGetMeasurements eid index signed nonce => Sys2Proof.Machine.execSpdmGetMeasurements eid index signed nonce s
  | .spdmRespondIfReady eid => Sys2Proof.Machine.execSpdmRespondIfReady eid s
  | .sqTail f q value => Sys2Proof.Machine.execSqTail f q value s
  | .cqHead f q value => Sys2Proof.Machine.execCqHead f q value s
  | .commandStart f q ctx ctxMem entry mem => Sys2Proof.Machine.execCommandStart f q ctx ctxMem s entry mem
  | .completionWrite f q mem => Sys2Proof.Machine.execCompletionWrite f q mem s
  | .ringNop f q n => Sys2Proof.Machine.execRingNop f q n s
  | .createPair f q n => Sys2Proof.Machine.execCreatePair f q n s
  | .deletePair f q n => Sys2Proof.Machine.execDeletePair f q n s
  | .identify f q n mem => Sys2Proof.Machine.execIdentify f q n mem s
  | .resetHif f q n => Sys2Proof.Machine.execResetHif f q n s
  | .getPubkeys f q n mem => Sys2Proof.Machine.execGetPubkeys f q n mem s
  | .leaseOpen f q n => Sys2Proof.Machine.execLeaseOpen f q n s
  | .leaseClose f q n => Sys2Proof.Machine.execLeaseClose f q n s
  | .leaseEvidence f q n => Sys2Proof.Machine.execLeaseEvidence f q n s
  | .counterRead f q n mem => Sys2Proof.Machine.execCounterRead f q n mem s
  | .firmwareCommand f q n dataIn mem => Sys2Proof.Machine.execFirmwareCommand f q n dataIn s mem
  | .hiFwTakeRead req => Sys2Proof.Machine.execHiFwTakeRead req s
  | .hiFwDone req value stores mem => Sys2Proof.Machine.execHiFwDone req value stores mem s
  | .fwTimeout slot => Sys2Proof.Machine.execFwTimeout slot s
  | .hiCtxCtrlWrite req value => Sys2Proof.Machine.execHiCtxCtrlWrite req value s
  | .fnActrlWrite f value => Sys2Proof.Machine.execFnActrlWrite f value s
  | .mbWrite addr words cut => Sys2Proof.Machine.execMbWrite addr words cut s
  | .mbReadReq addr count cut => Sys2Proof.Machine.execMbReadReq addr count cut s
  | .mbReadBufferReady checkFails => Sys2Proof.Machine.execMbReadBufferReady checkFails s
  | .mbReadData clocked => Sys2Proof.Machine.execMbReadData clocked s
  | .mbClear => Sys2Proof.Machine.execMbClear s
  | .mbSetQuad arg => Sys2Proof.Machine.execMbSetQuad arg s
  | .mbReset scope key => Sys2Proof.Machine.execMbReset scope key s
  | .mbMsgSend count words cut => Sys2Proof.Machine.execMbMsgSend count words cut s
  | .mbMsgRecv clocked => Sys2Proof.Machine.execMbMsgRecv clocked s
  | .mbRescueData offset chunk cut => Sys2Proof.Machine.execMbRescueData offset chunk cut s
  | .rescueTimeout => Sys2Proof.Machine.execRescueTimeout s
  | .mailboxFrameTimeout => Sys2Proof.Machine.execMailboxFrameTimeout s
  | .mbOutlenWrite req value => Sys2Proof.Machine.execMbOutlenWrite req value s
  | .mbInlenWrite req value => Sys2Proof.Machine.execMbInlenWrite req value s
  | .portUp p => Sys2Proof.Machine.execPortUp p s
  | .portDown p => Sys2Proof.Machine.execPortDown p s
  | .parcelReceive p parcel crcOk => Sys2Proof.Machine.execParcelReceive p parcel crcOk s
  | .linkAck p nak x => Sys2Proof.Machine.execLinkAck p nak x s
  | .resendTimeout p => Sys2Proof.Machine.execResendTimeout p s
  | .transmitParcel req value stores => Sys2Proof.Machine.execTransmitParcel req value stores s
  | .rvIdent => Sys2Proof.Machine.execRvIdent s
  | .rollcall req value => Sys2Proof.Machine.execRollcall req value s
  | .rollcallParcel => Sys2Proof.Machine.execRollcallParcel s
  | .rolldone => Sys2Proof.Machine.execRolldone s
  | .rvBreak => Sys2Proof.Machine.execRvBreak s
  | .rvOpen => Sys2Proof.Machine.execRvOpen s
  | .rvColophon => Sys2Proof.Machine.execRvColophon s
  | .rvTree => Sys2Proof.Machine.execRvTree s
  | .rvBlock => Sys2Proof.Machine.execRvBlock s
  | .rvEnd => Sys2Proof.Machine.execRvEnd s
  | .resendReq => Sys2Proof.Machine.execResendReq s
  | .rvBusy => Sys2Proof.Machine.execRvBusy s
  | .rvCommand => Sys2Proof.Machine.execRvCommand s
  | .rvReply => Sys2Proof.Machine.execRvReply s
  | .rvMessage => Sys2Proof.Machine.execRvMessage s
  | .sessionAbort req value => Sys2Proof.Machine.execSessionAbort req value s
  | .sessionTimeout => Sys2Proof.Machine.execSessionTimeout s
  | .rvCseqRead req => Sys2Proof.Machine.execRvCseqRead req s
  | .squall src => Sys2Proof.Machine.execSquall src s
  | .front src => Sys2Proof.Machine.execFront src s
  | .psnsChange p level => Sys2Proof.Machine.execPsnsChange p level s
  | .guardEvent sources => Sys2Proof.Machine.execGuardEvent sources s
  | .holdoffExpire src => Sys2Proof.Machine.execHoldoffExpire src s
  | .guardReset => Sys2Proof.Machine.execGuardReset s
  | .gdLock req value => Sys2Proof.Machine.execGdLock req value s
  | .gdUnlock req value stores => Sys2Proof.Machine.execGdUnlock req value stores s
  | .unlockNonceRead req => Sys2Proof.Machine.execUnlockNonceRead req s
  | .gdSrcCntRead req src => Sys2Proof.Machine.execGdSrcCntRead req src s
  | .folioOpen dev0 dev1 => Sys2Proof.Machine.execFolioOpen dev0 dev1 s
  | .folioRecordWrite ok0 ok1 => Sys2Proof.Machine.execFolioRecordWrite ok0 ok1 s
  | .folioTick => Sys2Proof.Machine.execFolioTick s
  | .foAppend req value stores => Sys2Proof.Machine.execFoAppend req value stores s
  | .foAdopt req value => Sys2Proof.Machine.execFoAdopt req value s
  | .foSeqRead req => Sys2Proof.Machine.execFoSeqRead req s
  | .otTick => Sys2Proof.Machine.execOtTick s
  | .obCntRead req d e => Sys2Proof.Machine.execObCntRead req d e s
  | .obCntWrite req d e value inc => Sys2Proof.Machine.execObCntWrite req d e value inc s
  | .obChainWrite req d m value => Sys2Proof.Machine.execObChainWrite req d m value s
  | .watchConfigWrite req d slot period value => Sys2Proof.Machine.execWatchConfigWrite req d slot period value s
  | .watchFire d slot pc data latency extra => Sys2Proof.Machine.execWatchFire d slot pc data latency extra s
  | .obPrecPtrWrite req d value => Sys2Proof.Machine.execObPrecPtrWrite req d value s
  | .obPrecLostRead req d => Sys2Proof.Machine.execObPrecLostRead req d s
  | .hpStaleRead req d => Sys2Proof.Machine.execHpStaleRead req d s
  | .hpMigratedRead req d => Sys2Proof.Machine.execHpMigratedRead req d s
  | .levelSourceReleased perst => Sys2Proof.Machine.execLevelSourceReleased perst s
  | .pcieLinkUp speed width => Sys2Proof.Machine.execPcieLinkUp speed width s
  | .vfEnable numVfs enable => Sys2Proof.Machine.execVfEnable numVfs enable s
  | .addedEachMicrosecond => Sys2Proof.Machine.execAddedEachMicrosecond s

end Sys2Proof.Machine
end

