-- ==== Sys2Proof/WellFormed.lean ====
section
/-! DEFINITION. Which commands are well formed: operands that no type bounds lie in the ranges the spec gives them. The machine
is total on every command; nothing it does rests on these checks. -/

namespace Sys2Proof

open Sys2Proof.Machine (mem)

/-- A present list has this length. -/
def optLen {α : Type} (n : Nat) (l : Option (List α)) : Bool := l.all fun x => decide (x.length = n)

/-- An address of BAR0 (16 MiB, Table 12.2) or of the function pages, which lie from 2^32 on in the model
(notes/assumptions/8.md). -/
def inSpace (a : Nat) : Bool := decide (a < 2 ^ 24) || (decide (2 ^ 32 ≤ a) && decide (a < 2 ^ 32 + 2 ^ 20))

/-- A host frame: at most two command bytes and four address bytes, verdict times clipped at 16.0 ns (R46, R102). -/
def frameOk (f : HostFrame) : Bool :=
  decide (f.cmd.length ≤ 2) && decide (f.addr.length ≤ 4) && decide (f.delivA ≤ 160) && decide (f.delivB ≤ 160)

/-- Errors of a transfer of n bytes: each of its runs at most once, with at most three attempts (R201, R203). -/
def runsOk (n : Nat) (l : List RunErrors) : Bool :=
  decide ((l.map fun r => r.run).Nodup) &&
    l.all fun r => decide (r.run < (Machine.runsOf 0 n).length) && decide (r.tries.length ≤ 3)

/-- A hash job takes one of the four lanes, and a digest has 48 bytes (R217). -/
def laneOk (r : LaneRun) : Bool := decide (r.lane < 4) && optLen 48 r.corrupt && optLen 48 r.second

/-- An own read that has ended and not failed returned a whole granule (R71). -/
def readOk (r : OwnRead) : Bool :=
  (r.failed || r.still || decide (r.data.length = 4096)) && decide (r.feeds ≤ 3) && decide (r.outputs ≤ 3) && laneOk r.hash &&
    runsOk 4096 r.runs && r.lines.all fun l => decide (l < 7)

/-- A vault read has at most three attempts on the device and three on the mirror, each of its whole length (R173). -/
def getOk (n : Nat) (g : VaultGet) : Bool := decide (g.length ≤ 6) && g.all fun a => optLen n a.data && runsOk n a.runs

/-- Fetched groups fill their 512-byte slots (R129). -/
def fetchOk (f : GroupFetch) : Bool := getOk 512 f.first && getOk 512 f.second && getOk 512 f.mirror && f.hash.all laneOk

/-- What a care unit meets: blocks and groups of their sizes (R193). -/
def careOk (x : CareRun) : Bool :=
  x.flash.all readOk && x.twin.all readOk && x.golden.all (getOk 4096) && x.goldenHash.all laneOk &&
    (x.paths.all fun p => p.all fetchOk) && x.round1.readBack.all readOk && x.round2.readBack.all readOk

/-- A block of the image with the groups of its path. -/
def blockReadOk (r : BootRead) : Bool := decide (r.data.length = 4096) && r.path.all fun g => decide (g.length = 512)

/-- What the mask ROM reads of a slot (R278). -/
def slotOk (x : SlotInput) : Bool := decide (x.header.length = 0x180) && optLen 8192 x.colophon && optLen 4096 x.leaf0

/-- A parcel whose fields fit Table 13.2. -/
def parcelOk (x : Parcel) : Bool :=
  decide (x.src < 2 ^ 16) && decide (x.dst < 2 ^ 16) && decide (x.hops < 2 ^ 16) && decide (x.session < 2 ^ 16) &&
  decide (x.seq < 2 ^ 24) && decide (x.payload.length ≤ 4096)

/-- A sector of the folio (R415). -/
def sectorOk (b : List Byte) : Bool := decide (b.length = 4096)

/-- A command whose operands lie in their ranges. -/
def wellFormed (c : Instr) : Bool :=
  match c with
  | .regWrite _ a w _ => mem w [8, 16, 32] && inSpace a
  | .hostFrame _ f => frameOk f
  | .completionRead _ g r => decide (g < 2 ^ 20) && readOk r
  | .loadDone _ c l => getOk 8192 c && l.all fetchOk
  | .sweep _ _ _ rs => rs.all readOk
  | .sweepDone _ rs => rs.all readOk
  | .preload _ _ _ rs => rs.all readOk
  | .preloadPin _ _ _ rs => rs.all readOk
  | .groupFetchDone _ _ l _ f => decide (l < 7) && fetchOk f
  | .hashResult _ g p _ _ c _ _ => decide (g < 2 ^ 20) && decide (p < 2 ^ 16) && optLen 48 c
  | .leafVerdict _ g c _ l => decide (g < 2 ^ 20) && optLen 48 c && l.all fun k => decide (k < 7)
  | .taintReread _ g r => decide (g < 2 ^ 20) && readOk r
  | .vaultRead _ _ _ _ g => decide (g.length ≤ 6)
  | .vaultDirectoryRead g _ _ x => getOk 4096 g && x.all fun i => decide (i.base < 2 ^ 20)
  | .scrubStep _ _ r p g c h _ => readOk r && p.all fetchOk && getOk 4096 g && getOk 8192 c && laneOk h
  | .careUnit _ x => careOk x
  | .twinCheck _ _ _ rs ps => rs.all readOk && ps.all fun p => p.all fetchOk
  | .faultReport _ n => decide (n < 2 ^ 16)
  | .fence _ _ g => decide (g < 2 ^ 16)
  | .powerOnReset v => v.all fun k => decide (k < 16)
  | .xipFillDone _ a b => blockReadOk a && blockReadOk b
  | .romBoot a b => slotOk a && slotOk b
  | .bootBlockVerified _ _ a b => blockReadOk a && blockReadOk b
  | .checkDone a l => slotOk a && l.all fun b => decide (b.length = 4096)
  | .spdmChallenge _ _ n => decide (n.length = 32)
  | .spdmGetMeasurements _ _ _ n => decide (n.length = 32)
  | .commandStart _ _ c _ e _ => decide (c.length = 16) && decide (e.length = 16)
  | .mbWrite _ ws cut => decide (ws.length ≤ 64) && (cut || decide (0 < ws.length))
  | .mbMsgSend _ ws _ => decide (ws.length ≤ 64)
  | .mbRescueData _ c cut => decide (c.length ≤ 256) && (cut || decide (c.length = 256))
  | .parcelReceive _ x _ => parcelOk x
  | .folioOpen a b => a.all sectorOk && b.all sectorOk
  | .pcieLinkUp sp w => mem sp [1, 2, 3, 4] && mem w [1, 2, 4]
  | .vfEnable n _ => decide (n < 256)
  | .shadowBusyExpire .. | .frameTimeout .. | .hrstAssert .. | .hrstRelease .. | .deferredResetAssert ..
  | .deferredResetEnd .. | .chCtrlWrite .. | .stateChange .. | .channelConfigWrite .. | .shapeDataAccess ..
  | .chLastopRead .. | .chResetAssert .. | .swap .. | .swapApply .. | .statusPoll .. | .stagingWrite .. | .epochGo ..
  | .epochChecksComplete | .channelTakeEpoch .. | .epochDeadline | .epochSwitchComplete | .stageCopyDone ..
  | .fmQuoinWrite .. | .fmLsinfoRead .. | .load .. | .unload .. | .unpin .. | .descriptorWrite .. | .verdictReport ..
  | .horizonExpire .. | .restartClear .. | .gateOpen .. | .pgCtrlWrite .. | .rpLineWrite .. | .releasePlanWrite ..
  | .witConsumedRead .. | .vaultRefresh .. | .tallyFlush .. | .scrubLate .. | .refreshDue .. | .careUnitComplete ..
  | .recover .. | .refresh .. | .scrubRestart .. | .flush .. | .careRegionWrite .. | .stormEnd .. | .fqHeadRead ..
  | .fqPop .. | .dieUnreachable .. | .dieReachable .. | .hopDown .. | .hopCheck .. | .capacityAdvert .. | .jobTimeout ..
  | .fenceAck .. | .laneKat .. | .brownOut .. | .supplyGood .. | .rstNAssert | .refclkLoss .. | .refclkGood | .pciePerst
  | .pcieLinkReset | .flr .. | .rcDieResetWrite .. | .watchdogExpire .. | .tapReset | .resetTakesHold .. | .deferralLimit
  | .resetMerge .. | .holdEnd | .pllRetry .. | .releaseFuse | .releaseFabric | .trainingDeadline .. | .releaseHashCrypto ..
  | .releaseSentry | .releaseDie .. | .releaseHif | .releaseRlv | .frzNAssert | .freeze | .frzread .. | .extest ..
  | .idcode | .samplePreload .. | .bypass | .mpQptrWrite .. | .mpQueueConfigWrite .. | .mpFrame .. | .mpFrameDone ..
  | .pollRepeat .. | .pollLimit .. | .writePollTimeout .. | .xipRead .. | .xipStall .. | .xipStore .. | .xipCtrlWrite ..
  | .handOver .. | .backoffExpire | .confirm .. | .confirmWindowExpire | .check .. | .recopy .. | .snCoreReleaseWrite ..
  | .wdtKick .. | .busError .. | .machineCheck .. | .fuRead .. | .fuReadMargin .. | .fuProgram .. | .fuFinalise ..
  | .fuGenUds .. | .fuAdvanceRollback .. | .fuAdvanceTamper .. | .fuRevoke .. | .fuAdvanceLc .. | .fuMarginScan ..
  | .fucmd .. | .fustat | .fusePulseEnd .. | .vfuseExcursion | .kuBind .. | .kuDeriveFw .. | .bindNonceRead ..
  | .keyUnitFault .. | .signingComplete .. | .setEndpointId .. | .getEndpointId | .getMctpVersionSupport
  | .getMessageTypeSupport | .spdmGetVersion .. | .spdmGetCapabilities .. | .spdmNegotiateAlgorithms ..
  | .spdmRespondIfReady .. | .sqTail .. | .cqHead .. | .completionWrite .. | .ringNop .. | .createPair .. | .deletePair ..
  | .identify .. | .resetHif .. | .getPubkeys .. | .leaseOpen .. | .leaseClose .. | .leaseEvidence .. | .counterRead ..
  | .firmwareCommand .. | .hiFwTakeRead .. | .hiFwDone .. | .fwTimeout .. | .hiCtxCtrlWrite .. | .fnActrlWrite ..
  | .mbReadReq .. | .mbReadBufferReady .. | .mbReadData .. | .mbClear | .mbSetQuad .. | .mbReset .. | .mbMsgRecv ..
  | .rescueTimeout | .mailboxFrameTimeout | .mbOutlenWrite .. | .mbInlenWrite .. | .portUp .. | .portDown .. | .linkAck ..
  | .resendTimeout .. | .transmitParcel .. | .rvIdent | .rollcall .. | .rollcallParcel | .rolldone | .rvBreak | .rvOpen
  | .rvColophon | .rvTree | .rvBlock | .rvEnd | .resendReq | .rvBusy | .rvCommand | .rvReply | .rvMessage
  | .sessionAbort .. | .sessionTimeout | .rvCseqRead .. | .squall .. | .front .. | .psnsChange .. | .guardEvent ..
  | .holdoffExpire .. | .guardReset | .gdLock .. | .gdUnlock .. | .unlockNonceRead .. | .gdSrcCntRead ..
  | .folioRecordWrite .. | .folioTick | .foAppend .. | .foAdopt .. | .foSeqRead .. | .otTick | .obCntRead ..
  | .obCntWrite .. | .obChainWrite .. | .watchConfigWrite .. | .watchFire .. | .obPrecPtrWrite .. | .obPrecLostRead ..
  | .hpStaleRead .. | .hpMigratedRead .. | .levelSourceReleased .. | .addedEachMicrosecond => true

end Sys2Proof
end

