-- ==== Sys2Proof/Safety.lean ====
section
/-! DEFINITION. What counts as a safe step, in the terms the claims use: no command stops the part, and the sparse data keep
their canonical forms. -/

namespace Sys2Proof.Machine

/-- A command runs: it answers a next state. -/
def Runs (c : Instr) (s : State) : Prop := ∃ t, exec c s = .next t

/-- The command answers a state that has a property. -/
def RunsTo (c : Instr) (s : State) (p : State → Prop) : Prop := ∃ t, exec c s = .next t ∧ p t

/-- The canonical form of the register file: keys strictly rising, no entry at its reset value. -/
def RegFile.wf (v : Variant) : RegFile → Bool
  | [] => true
  | [(r, w)] => decide (w ≠ Reg.resetOn v r)
  | (r, w) :: (r', w') :: t => decide (w ≠ Reg.resetOn v r) && Reg.lt r r' && RegFile.wf v ((r', w') :: t)

/-- The register file and the core SRAM are in canonical form. -/
def State.Canonical (s : State) : Prop := RegFile.wf s.variant s.regs = true ∧ Memory.wf s.sram = true

/-! ## When an access reaches its register -/

/-- The requester reaches the registers of die d: it runs, the die is present, out of reset and in reach (R6, R22, R23, R237). -/
abbrev State.DieOpen (s : State) (req : Requester) (d : Nat) : Prop :=
  s.reqOk req = true ∧ s.present d = true ∧ (s.die d).inReset = false ∧ s.reaches req d = true

/-- The requester reaches the package registers in PLAT (R227, R472). -/
abbrev State.PlatOpen (s : State) (req : Requester) : Prop := s.reqFar req = true ∧ s.platLive = true

/-- The requester reaches the registers in HIF. -/
abbrev State.HifOpen (s : State) (req : Requester) : Prop := s.PlatOpen req ∧ s.seq.hifReset = false

/-- The requester reaches the registers in RLV. -/
abbrev State.RlvOpen (s : State) (req : Requester) : Prop := s.PlatOpen req ∧ s.seq.rlvReset = false

/-- The requester reaches the registers of a master port: VLT1's lie on die 1 (R269). -/
abbrev State.PortOpen (s : State) (req : Requester) (p : Nat) : Prop :=
  if p = 2 then s.DieOpen req 1 else s.PlatOpen req

/-- A witness command over the leaves that WIT_ARG0 and WIT_ARG1 select, before its first leaf (R158, R165). -/
def State.rangeCmd (s : State) (d t op : Nat) : WitCmd :=
  let first := s.getF Fld.WIT_ARG0_FIRST d
  { op := op, tree := t, first := first, stop := first + s.getF Fld.WIT_ARG1_COUNT d, next := first, passed := 0, fail := none }

/-- A fuse command has been taken: it waits for its first pulse under BUSY, or, with no bit left to burn, it has ended with
result 0 (R310, R312). -/
def State.FuseRuns (t : State) (op d region wdata : Nat) : Prop :=
  match t.fuses.run with
  | some r => r.op = op ∧ r.die = d ∧ r.region = region ∧ r.wdata = wdata ∧ r.tamper = false ∧
      t.flag Fld.FU_STATUS_BUSY 0 = true
  | none => t.flag Fld.FU_STATUS_BUSY 0 = false ∧ t.flag Fld.FU_STATUS_DONE 0 = true ∧ t.getF Fld.FU_STATUS_RESULT 0 = 0

/-- A fuse command has ended with a result and no fuse changed (Table 10.7). -/
def State.FuseEnded (s t : State) (result : Nat) : Prop :=
  t.fuses = s.fuses ∧ t.flag Fld.FU_STATUS_DONE 0 = true ∧ t.getF Fld.FU_STATUS_RESULT 0 = result

/-- The fuse controller takes the requester's command: it comes from die 0 and none is running (R310). -/
abbrev State.FuseOpen (s : State) (req : Requester) : Prop :=
  s.PlatOpen req ∧ fromDie0 req = true ∧ s.flag Fld.FU_STATUS_BUSY 0 = false ∧ s.fuses.run = none

/-- The started command with a serial number on pair p has ended with a result and a status, and waits for its completion (R353). -/
def State.RingDone (t : State) (p serial : Nat) (r0 r1 : Word) (st : Nat) : Prop :=
  ∃ x c, t.pair p = some x ∧ c ∈ x.started ∧ c.serial = serial ∧ c.begun = true ∧ c.done = some (r0, r1, st)

/-- The commands by which a frozen part leaves freeze: a power-on reset and RST_N (R244). -/
def endsFreeze (c : Instr) : Bool :=
  match c with
  | .powerOnReset _ => true
  | .brownOut x _ => decide (x = .vddaon)
  | .rstNAssert => true
  | .resetMerge x _ => decide (x = .por) || decide (x = .rstN)
  | _ => false

/-- The part is frozen, RST_N has not been recognised since, and nothing that waits will end the freeze (R243, R244). -/
def State.Frozen (s : State) : Prop :=
  s.seq.frozen = true ∧ bitOf s.seq.causes 2 = false ∧ ∀ c ∈ s.pending, endsFreeze c = false

/-! ## What a step leaves alone -/

/-- Everything but the registers that `p` selects and the record of what was sent out is as before. -/
def State.OnlyRegs (s t : State) (p : RegName → Nat → Bool) : Prop :=
  t = { s with regs := t.regs, outputs := t.outputs } ∧ ∀ n i, p n i = false → t.rd n i = s.rd n i

/-- Every byte of core SRAM reads as before. -/
def State.SameSram (s t : State) : Prop := ∀ d a, t.sramRead d a = s.sramRead d a

/-- The counters of Chapter 15 that events drive by themselves (R429, R432, R436). -/
def RegName.counts (n : RegName) : Bool :=
  match n with
  | .OB_CNT | .OB_SAT | .OB_WATCH_COUNT => true
  | _ => false

end Sys2Proof.Machine
end

