-- ==== Sys2Proof/Certificates/Slice0/Obligations.lean ====
section
/-! DEFINITION. The statements of this row, chapter by chapter. Each is a property of `exec` or `step` that its rules of spec/
give; the docstring names the rules, and where a clause rests on a choice of the model, the log entry. A clause of the form
`exec c s = .next t` or `RunsTo c s p` says that the command completes there. -/

section Obligations

open Sys2Proof Sys2Proof.Machine

/-! ## The queue, reset and the register map (Chapters 0 and 1) -/

/-- The block takes the command at the front of its queue and carries it out with the rest of the queue; with no command it
idles (assumptions/3). No command of the table stops the part: each answers a next state, whatever the state (the model has
neither a fault nor a refusal to answer). -/
def Obligations.StepRunsTheFrontCommand : Prop :=
  (∀ (c : Instr) (l : List Instr) (s : State), step { s with pending := c :: l } = exec c { s with pending := l }) ∧
  (∀ (s : State), s.pending = [] → step s = .next s) ∧
  (∀ (c : Instr) (s : State), Runs c s)

/-- R7, R81, R126, R249, R298, R323, R343, R402, R427: what reset leaves. Each register holds the value its table gives; no
frame is open, no command waits, nothing is staged, and the register file and core SRAM are in canonical form. -/
def Obligations.ResetState : Prop :=
  State.reset.pending = [] ∧ State.reset.Canonical ∧ State.reset.rd .PART_INFO 0 = 0x64084080#32 ∧
  (∀ n, n < 64 → State.reset.rd .CH_PROTO n = 0xF0A040#32 ∧ State.reset.rd .CH_TIMEOUT n = 0x1003E8#32 ∧
    State.reset.rd .CH_CTRL n = 0 ∧ (State.reset.ch n).frame = none) ∧
  State.reset.rd .EPOCH_CTRL 0 = 0x2710#32 ∧ State.reset.rd .RC_CAUSE 0 = 1 ∧ State.reset.getF Fld.BT_STATUS_SLOT 0 = 3 ∧
  State.reset.getF Fld.BT_STATUS_STAGE 0 = 0 ∧ State.reset.getF Fld.FU_POLICY_ECDSA_REQ 0 = 1 ∧
  State.reset.getF Fld.FU_POLICY_MLDSA_REQ 0 = 1 ∧ State.reset.getF Fld.KU_CTRL_EVID_MIN 0 = 3 ∧
  State.reset.identity = false ∧ State.reset.getF Fld.FO_CTRL_TICK_S 0 = 0xE10 ∧ State.reset.folio.staged = [] ∧
  State.reset.flag Fld.GD_STATUS_LOCKED 0 = false ∧ State.reset.ot = 0

/-- R16, R17, R225: REG_WRITE. A write narrower than a register, or unaligned, is discarded. A write to a fault register of a
die, or of the package, clears the bits that it carries as 1 and changes nothing else; a write of EPOCH_CTRL stores its RW fields. R23, R237: a write to a present die in
reset meets the isolation wrapper, which is 0xA001 once; to a die out of reach it is discarded, and the first access to a die that the
fabric cannot reach is the loss fault; no register or buffer of the die changes. -/
def Obligations.RegisterWrites : Prop :=
  (∀ (req : Requester) (a w : Nat) (v : Word) (s : State), (w ≠ 32 ∨ a % 4 ≠ 0) → exec (.regWrite req a w v) s = .next s) ∧
  (∀ (req : Requester) (a d : Nat) (v : Word) (r : Reg) (s : State), a % 4 = 0 → windowDie a = some d → decodeAddr a = some r →
    r.name ∈ [RegName.CH_FAULT, .FM_FAULT, .WIT_FAULT, .MC_FAULT, .CF_FAULT, .IF_FAULT] → s.DieOpen req d →
    RunsTo (.regWrite req a 32 v) s fun t => t.rd r.name r.i = s.rd r.name r.i &&& ~~~ (v &&& BitVec.ofNat 32 r.name.w1cMask) ∧
      s.OnlyRegs t fun n i => decide (n = r.name) && decide (i = r.i)) ∧
  (∀ (req : Requester) (a : Nat) (v : Word) (r : Reg) (s : State), a % 4 = 0 → a < 0x100000 → decodeAddr a = some r →
    r.name ∈ [RegName.KU_FAULT, .FU_FAULT, .HI_FAULT, .MB_FAULT, .GD_FAULT] → s.PlatOpen req → r.name.dom = .plat →
    RunsTo (.regWrite req a 32 v) s fun t => t.rd r.name r.i = s.rd r.name r.i &&& ~~~ (v &&& BitVec.ofNat 32 r.name.w1cMask) ∧
      s.OnlyRegs t fun n i => decide (n = r.name) && decide (i = r.i)) ∧
  (∀ (req : Requester) (a d k : Nat) (v : Word) (r : Reg) (s : State), a % 4 = 0 → windowDie a = some d →
    decodeAddr a = some r → r.name.dom = .die k → s.reqOk req = true → s.present d = true → (s.die d).inReset = true →
    exec (.regWrite req a 32 v) s = .next (s.isoErr d) ∧ ((s.die d).isoSeen = true → s.isoErr d = s) ∧
      ((s.isoErr d).die d).isoSeen = true ∧ (∀ n i, n.counts = false → n ≠ .RC_FAULT → (s.isoErr d).rd n i = s.rd n i)) ∧
  (∀ (req : Requester) (a d k : Nat) (v : Word) (r : Reg) (s : State), a % 4 = 0 → windowDie a = some d →
    decodeAddr a = some r → r.name.dom = .die k → s.reqOk req = true → s.present d = true → (s.die d).inReset = false →
    s.reaches req d = false →
    exec (.regWrite req a 32 v) s = .next (s.lossFault d) ∧
      ((s.die d).reachable = true ∨ (s.die d).lossSeen = true → s.lossFault d = s) ∧
      ((s.die d).reachable = false → ((s.lossFault d).die d).lossSeen = true)) ∧
  (∀ (req : Requester) (v : Word) (s : State), s.PlatOpen req →
    exec (.regWrite req 0x3004 32 v) s = .next (s.wr .EPOCH_CTRL 0 (RegName.EPOCH_CTRL.written (s.rd .EPOCH_CTRL 0) v)))

/-- R6: reads of an absent die's window and of the unassigned range return 0, and writes there have no effect. -/
def Obligations.AbsentDiesAreSilent : Prop :=
  (∀ (req : Requester) (a d : Nat) (b : Bool) (s : State), windowDie a = some d → s.present d = false → s.reqOk req = true →
    s.readAt req a b = (some 0, s)) ∧
  (∀ (req : Requester) (a d w : Nat) (v : Word) (s : State), windowDie a = some d → s.present d = false →
    exec (.regWrite req a w v) s = .next s) ∧
  (∀ (req : Requester) (a : Nat) (b : Bool) (s : State), 0x900000 ≤ a → a < 0x1000000 → s.reqFar req = true →
    s.readAt req a b = (some 0, s)) ∧
  (∀ (req : Requester) (a w : Nat) (v : Word) (s : State), 0x900000 ≤ a → a < 0x1000000 →
    exec (.regWrite req a w v) s = .next s)

/-- R310, R343, R402, R427: the registers that only die 0's sentry cores may write. A write of any other requester is discarded,
and reported under the unit's own fault code; it has no other effect. -/
def Obligations.OnlyDieZeroWrites : Prop :=
  ∀ (req : Requester) (a : Nat) (v : Word) (r : Reg) (s : State), fromDie0 req = false → a % 4 = 0 → a < 0x100000 →
    decodeAddr a = some r →
    (r.name ∈ [RegName.FU_CMD, .FU_WDATA] → s.PlatOpen req →
      exec (.regWrite req a 32 v) s = .next (s.report 0 0x9006 (openSource 0x9006))) ∧
    (r.name ∈ [RegName.KU_CMD, .KU_CTRL, .KU_ARG] → s.PlatOpen req →
      exec (.regWrite req a 32 v) s = .next (s.report 0 0x7006 s.kuDie)) ∧
    (r.name ∈ [RegName.GD_CTRL, .GD_SRC_CFG, .GD_CMD, .GD_ARG, .FO_BASE, .FO_SIZE, .FO_CTRL, .FO_CMD, .FO_ARG] →
      s.PlatOpen req → exec (.regWrite req a 32 v) s = .next (s.report 0 0xB005 0)) ∧
    (r.name ∈ [RegName.RV_CTRL, .RV_CMD, .RV_TXBASE, .RV_TXPTR, .RV_RXBASE, .RV_RXPTR] → s.RlvOpen req →
      exec (.regWrite req a 32 v) s = .next (s.report 0 0xC007 (openSource 0xC007)))

/-! ## Interposer channels (Chapter 2) -/

/-- R76, R77: what a fall and a rise of the host's reset input do, and a deferred reset. A fall only shows in HRST_LEVEL where PASS = 0 and in ISOLATE; else the channel returns to its boot protocol and FRST# is driven, or, while the busy shield is up,
deferred under fault 0x1009. R78, R80: a write of CH_RESET with ASSERT = 1 on an idle channel drives FRST# at once; on a
channel with a frame open it waits; ASSERT = 0 ends it. SWAP waits in PENDING and exchanges the flashes between frames, voiding
the channel's galley blocks, dropping the re-reads of its tainted blocks and counting one swap; without a twin it is fault 0x1005 and nothing else. -/
def Obligations.ChannelResetAndSwap : Prop :=
  (∀ (ch : ChanId) (s : State), s.chLive ch.val = true → (s.ch ch.val).hrst = false →
    s.getF Fld.CH_STATUS_STATE_EFF ch.val ≠ 0 →
    (s.flag Fld.CH_RESET_PASS ch.val = false ∨ s.getF Fld.CH_STATUS_STATE_EFF ch.val = 1) →
    exec (.hrstAssert ch) s =
      .next ((s.modCh ch.val fun c => { c with hrst := true }).setFlag Fld.CH_RESET_HRST_LEVEL ch.val false)) ∧
  (∀ (ch : ChanId) (s : State), s.chLive ch.val = true → (s.ch ch.val).hrst = false →
    s.getF Fld.CH_STATUS_STATE_EFF ch.val = 2 → s.flag Fld.CH_RESET_PASS ch.val = true → (s.ch ch.val).frame = none →
    RunsTo (.hrstAssert ch) s fun t => (t.ch ch.val).hrst = true ∧ t.flag Fld.CH_RESET_HRST_LEVEL ch.val = false ∧
      t.getF Fld.CH_PROTO_CUR ch.val = s.getF Fld.CH_PROTO_BOOT ch.val ∧
      t.getF Fld.CH_PROTO_ADDR4 ch.val = s.getF Fld.CH_PROTO_BOOT_ADDR4 ch.val ∧
      t.flag Fld.CH_PROTO_CRM_ARMED ch.val = false ∧
      (s.flag Fld.CH_STATUS_BUSY_SHIELD ch.val = true → t.flag Fld.CH_RESET_DEFERRED ch.val = true ∧
        (t.ch ch.val).frst = (s.ch ch.val).frst ∧ bitOf (t.rd .CH_FAULT ch.val).toNat 8 = true ∧ t.outputs = s.outputs) ∧
      (s.flag Fld.CH_STATUS_BUSY_SHIELD ch.val = false → (t.ch ch.val).frst = true ∧
        t.outputs = s.outputs ++ (if (s.ch ch.val).frst then [] else [.frst ch.val true]))) ∧
  (∀ (ch : ChanId) (s : State), s.chLive ch.val = true → (s.ch ch.val).hrst = true →
    s.getF Fld.CH_STATUS_STATE_EFF ch.val ≠ 0 →
    RunsTo (.hrstRelease ch) s fun t => (t.ch ch.val).hrst = false ∧ (t.ch ch.val).frstPass = false ∧
      t.flag Fld.CH_RESET_HRST_LEVEL ch.val = true ∧
      (t.ch ch.val).frst = ((s.ch ch.val).frstDefer || (s.ch ch.val).frstAssert) ∧
      t.outputs = s.outputs ++ (if (s.ch ch.val).frst = (t.ch ch.val).frst then [] else [.frst ch.val false])) ∧
  (∀ (ch : ChanId) (s : State), s.chLive ch.val = true → s.flag Fld.CH_RESET_DEFERRED ch.val = true →
    s.flag Fld.CH_STATUS_BUSY_SHIELD ch.val = false →
    RunsTo (.deferredResetAssert ch) s fun t => (t.ch ch.val).frstDefer = true ∧
      (t.ch ch.val).frstPass = (s.ch ch.val).hrst ∧ t.flag Fld.CH_RESET_DEFERRED ch.val = false ∧
      t.rd .CH_PROTO ch.val = s.rd .CH_PROTO ch.val ∧ s.SameSram t) ∧
  (∀ (ch : ChanId) (s : State), s.chLive ch.val = true → (s.ch ch.val).frstDefer = true →
    max 1 (s.getF Fld.CH_RESET_MIN_US ch.val) ≤ s.usSince (s.ch ch.val).frstUs →
    RunsTo (.deferredResetEnd ch) s fun t => (t.ch ch.val).frstDefer = false ∧
      (t.ch ch.val).frst = ((s.ch ch.val).frstPass || (s.ch ch.val).frstAssert) ∧ t.regs = s.regs) ∧
  (∀ (req : Requester) (ch : ChanId) (v : Word) (s : State), s.DieOpen req (ch.val / 8) → bitOf v.toNat 1 = true →
    s.flag Fld.CH_RESET_ASSERT ch.val = false → s.idleCh ch.val = true →
    RunsTo (.chResetAssert req ch v) s fun t => t.flag Fld.CH_RESET_ASSERT ch.val = true ∧
      (t.ch ch.val).frstAssert = true ∧ (t.ch ch.val).assertPend = false) ∧
  (∀ (req : Requester) (ch : ChanId) (v : Word) (s : State), s.DieOpen req (ch.val / 8) → bitOf v.toNat 1 = true →
    s.flag Fld.CH_RESET_ASSERT ch.val = false → s.idleCh ch.val = false →
    RunsTo (.chResetAssert req ch v) s fun t => t.flag Fld.CH_RESET_ASSERT ch.val = false ∧
      (t.ch ch.val).assertPend = true ∧ t.outputs = s.outputs) ∧
  (∀ (req : Requester) (ch : ChanId) (v : Word) (s : State), s.DieOpen req (ch.val / 8) → bitOf v.toNat 1 = false →
    RunsTo (.chResetAssert req ch v) s fun t => t.flag Fld.CH_RESET_ASSERT ch.val = false ∧
      (t.ch ch.val).assertPend = false ∧ (t.ch ch.val).frstAssert = false) ∧
  (∀ (req : Requester) (ch : ChanId) (v : Word) (s : State), s.DieOpen req (ch.val / 8) → bitOf v.toNat 2 = true →
    s.flag Fld.CH_TWIN_PRESENT ch.val = true → bitOf v.toNat 0 = true →
    exec (.swap req ch v) s = .next (s.setFlag Fld.CH_TWIN_PENDING ch.val true)) ∧
  (∀ (req : Requester) (ch : ChanId) (v : Word) (s : State), s.DieOpen req (ch.val / 8) → bitOf v.toNat 2 = true →
    s.flag Fld.CH_TWIN_PRESENT ch.val = false → bitOf v.toNat 0 = false →
    exec (.swap req ch v) s = .next (s.report (ch.val / 8) 0x1005 (ch.val % 8))) ∧
  (∀ (ch : ChanId) (s : State), s.chLive ch.val = true → s.flag Fld.CH_TWIN_PENDING ch.val = true →
    s.idleCh ch.val = true →
    exec (.swapApply ch) s =
      .next (((((s.setFlag Fld.CH_TWIN_SEL ch.val (!s.flag Fld.CH_TWIN_SEL ch.val)).setFlag Fld.CH_TWIN_PENDING ch.val
        false).modDie (ch.val / 8) fun x =>
          { x with jobs := x.jobs.filter fun j => decide (j.ch ≠ ch.val) || j.reread.isNone }).voidWhere ch.val fun _ => true).count (ch.val / 8) (0x40 * (ch.val % 8) + 0x29) 1)) ∧
  (∀ (ch : ChanId) (s : State), s.flag Fld.CH_TWIN_PENDING ch.val = true → s.idleCh ch.val = false →
    exec (.swapApply ch) s = .next s)

/-- R41, R53, R54: a state asked for in CH_CTRL becomes effective between frames, and the channel's pins with it (Table 2.1); channel configuration is written by its access
codes, and a write that R54 forbids is fault 0x1005 with the register as before. R47, R81: the shape table is read and written
through SHAPE_INDEX, which moves on where AUTOINC = 1; a read of CH_LASTOP answers the register and latches the address of the
same frame in CH_LASTADDR. -/
def Obligations.ChannelRegisters : Prop :=
  (∀ (req : Requester) (ch : ChanId) (v : Word) (s : State), s.DieOpen req (ch.val / 8) → bitsOf v.toNat 0 2 ≠ 3 →
    s.active ch.val = false → s.quoined ch.val = false →
    RunsTo (.chCtrlWrite req ch v) s fun t => t.getF Fld.CH_CTRL_STATE ch.val = bitsOf v.toNat 0 2 ∧
      t.flag Fld.CH_CTRL_TIMEOUT_HOLD ch.val = bitOf v.toNat 4 ∧ t.flag Fld.CH_CTRL_MODE ch.val = bitOf v.toNat 2 ∧
      t.flag Fld.CH_CTRL_SCK_MODE ch.val = bitOf v.toNat 3 ∧ t.flag Fld.CH_STATUS_MODE_EFF ch.val = bitOf v.toNat 2 ∧
      t.getF Fld.CH_STATUS_STATE_EFF ch.val = s.getF Fld.CH_STATUS_STATE_EFF ch.val ∧
      s.OnlyRegs t fun n i => (decide (n = .CH_CTRL) || decide (n = .CH_STATUS)) && decide (i = ch.val)) ∧
  (∀ (req : Requester) (ch : ChanId) (v : Word) (s : State), s.DieOpen req (ch.val / 8) → bitsOf v.toNat 0 2 = 3 →
    s.active ch.val = true → bitOf v.toNat 2 = s.flag Fld.CH_CTRL_MODE ch.val →
    bitOf v.toNat 3 = s.flag Fld.CH_CTRL_SCK_MODE ch.val →
    exec (.chCtrlWrite req ch v) s = .next (s.setFlag Fld.CH_CTRL_TIMEOUT_HOLD ch.val (bitOf v.toNat 4))) ∧
  (∀ (ch : ChanId) (s : State), s.chLive ch.val = true → s.idleCh ch.val = true →
    s.getF Fld.CH_CTRL_STATE ch.val = 1 → s.getF Fld.CH_STATUS_STATE_EFF ch.val = 0 →
    exec (.stateChange ch) s = .next (
      let t := s.setF Fld.CH_STATUS_STATE_EFF ch.val 1
      t.emit (.chanPins ch.val (t.pinsOf ch.val (t.ch ch.val).frst)))) ∧
  (∀ (ch : ChanId) (s : State), s.idleCh ch.val = false → exec (.stateChange ch) s = .next s) ∧
  (∀ (req : Requester) (ch : ChanId) (v : Word) (s : State), s.DieOpen req (ch.val / 8) → s.quoined ch.val = false →
    exec (.channelConfigWrite req ch .timing v) s =
      .next (s.wr .CH_TIMING ch.val (RegName.CH_TIMING.written (s.rd .CH_TIMING ch.val) v))) ∧
  (∀ (req : Requester) (ch : ChanId) (k : Fin 192) (v : Word) (s : State), s.DieOpen req (ch.val / 8) →
    exec (.channelConfigWrite req ch (.sfdp k) v) s = .next (
      if s.quoined ch.val ∧ RegName.SHADOW_SFDP.written (s.rd .SHADOW_SFDP (ch.val * 192 + k.val)) v =
          s.rd .SHADOW_SFDP (ch.val * 192 + k.val) then s
      else if s.quoined ch.val ∨ s.active ch.val then s.report (ch.val / 8) 0x1005 (ch.val % 8)
      else s.wr .SHADOW_SFDP (ch.val * 192 + k.val)
        (RegName.SHADOW_SFDP.written (s.rd .SHADOW_SFDP (ch.val * 192 + k.val)) v))) ∧
  (∀ (req : Requester) (ch : ChanId) (v : Word) (s : State), s.DieOpen req (ch.val / 8) → s.active ch.val = false →
    s.quoined ch.val = false → s.flag Fld.SHAPE_INDEX_AUTOINC ch.val = false →
    exec (.shapeDataAccess req ch (some v)) s =
      .next (s.wr .SHAPE_ENTRY (ch.val * 256 + s.getF Fld.SHAPE_INDEX_OPCODE ch.val) (v &&& 0x3FFFFF))) ∧
  (∀ (req : Requester) (ch : ChanId) (v : Word) (s : State), s.DieOpen req (ch.val / 8) → s.active ch.val = false →
    s.quoined ch.val = false → s.flag Fld.SHAPE_INDEX_AUTOINC ch.val = true →
    RunsTo (.shapeDataAccess req ch (some v)) s fun t =>
      t.rd .SHAPE_ENTRY (ch.val * 256 + s.getF Fld.SHAPE_INDEX_OPCODE ch.val) = v &&& 0x3FFFFF ∧
      t.getF Fld.SHAPE_INDEX_OPCODE ch.val = (s.getF Fld.SHAPE_INDEX_OPCODE ch.val + 1) % 256 ∧
      s.OnlyRegs t fun n i => (decide (n = .SHAPE_ENTRY) &&
        decide (i = ch.val * 256 + s.getF Fld.SHAPE_INDEX_OPCODE ch.val)) ||
        (decide (n = .SHAPE_INDEX) && decide (i = ch.val))) ∧
  (∀ (req : Requester) (ch : ChanId) (s : State), s.DieOpen req (ch.val / 8) →
    s.flag Fld.SHAPE_INDEX_AUTOINC ch.val = false →
    exec (.shapeDataAccess req ch none) s =
      .next (s.emit (.readData (s.rd .SHAPE_ENTRY (ch.val * 256 + s.getF Fld.SHAPE_INDEX_OPCODE ch.val))))) ∧
  (∀ (req : Requester) (ch : ChanId) (s : State), s.DieOpen req (ch.val / 8) →
    exec (.chLastopRead req ch) s =
      .next ((s.wr .CH_LASTADDR ch.val (s.ch ch.val).lastAddr).emit (.readData (s.rd .CH_LASTOP ch.val))))

/-- R45, R81: a host frame that the host has not closed stays open on its channel; a frame that closes leaves the channel with
no frame, FRAME_OPEN and STUCK at 0 and its clock period recorded, and in ISOLATE the flash is never opened. R74: a frame that
outlasts its limit is STUCK under fault 0x1001. -/
def Obligations.HostFrames : Prop :=
  (∀ (ch : ChanId) (f : HostFrame) (s : State), s.reached (ch.val / 8) = true → s.getF Fld.CH_STATUS_STATE_EFF ch.val ≠ 0 →
    (s.ch ch.val).frame = none → f.csShort = false → f.closed = false →
    RunsTo (.hostFrame ch f) s fun t => t.flag Fld.CH_STATUS_FRAME_OPEN ch.val = true ∧
      ∃ o, (t.ch ch.val).frame = some o ∧ o.frame = f.received ∧ o.st = s.getF Fld.CH_STATUS_STATE_EFF ch.val ∧
        o.retimed = s.flag Fld.CH_STATUS_MODE_EFF ch.val ∧ o.epoch = (s.ch ch.val).epoch ∧ o.shielded = false ∧ o.ended = none) ∧
  (∀ (ch : ChanId) (f : HostFrame) (s : State), s.reached (ch.val / 8) = true → s.getF Fld.CH_STATUS_STATE_EFF ch.val = 1 →
    (s.ch ch.val).frame = none → (s.ch ch.val).own = none → (s.ch ch.val).assertPend = false →
    f.csShort = false → f.closed = true →
    RunsTo (.hostFrame ch f) s fun t => (t.ch ch.val).frame = none ∧ t.flag Fld.CH_STATUS_FRAME_OPEN ch.val = false ∧
      t.flag Fld.CH_STATUS_STUCK ch.val = false ∧ t.getF Fld.CH_PERIOD_PERIOD ch.val = min f.period 0xFFFF ∧
      t.getF Fld.CH_LASTOP_EPOCH ch.val = (s.ch ch.val).epoch % 2 ^ 16 ∧ t.sram = s.sram ∧
      Output.frameEnd ch.val (s.flag Fld.CH_TWIN_SEL ch.val) .notOpened [] ∈ t.outputs) ∧
  (∀ (ch : ChanId) (f : HostFrame) (s : State), s.getF Fld.CH_STATUS_STATE_EFF ch.val = 0 →
    (s.ch ch.val).assertPend = false → exec (.hostFrame ch f) s = .next s) ∧
  (∀ (ch : ChanId) (o : OpenFrame) (s u : State), s.chLive ch.val = true → (s.ch ch.val).frame = some o → o.ended = none →
    s.frameLimit ch.val ≤ s.usSince o.since →
    u = ((s.endFrame ch.val).setFlag Fld.CH_STATUS_STUCK ch.val true).report (ch.val / 8) 0x1001 (ch.val % 8) →
    exec (.frameTimeout ch) s =
      .next ((if u.flag Fld.CH_CTRL_TIMEOUT_HOLD ch.val then u.holdLines ch.val else u).takeEpoch ch.val))

/-- R107: where the busy time of shadow status ends, its phase moves on to complete, or to failed. R73, R473: under the busy
shield a status poll is an own frame of the region's status opcode, and the shield stays while the flash shows busy; a poll that has
not ended stays open. R146: a completion read that succeeds reads the runs that the slot lacks by own frames, gives the slot their
bytes and sends the block to hashing; one that fails frees the slot and makes the verdicts of the granule FAIL. -/
def Obligations.OwnFramesAndShadow : Prop :=
  (∀ (ch : ChanId) (s : State), s.chLive ch.val = true → s.getF Fld.SS_CTRL_PHASE ch.val = 1 →
    (s.ch ch.val).shadowFor ≤ s.usSince (s.ch ch.val).shadowUs →
    exec (.shadowBusyExpire ch) s =
      .next (s.setF Fld.SS_CTRL_PHASE ch.val (if (s.ch ch.val).shadowFail then 3 else 2))) ∧
  (∀ (ch : ChanId) (b : Byte) (s : State), s.reached (ch.val / 8) = true → s.flag Fld.CH_STATUS_BUSY_SHIELD ch.val = true →
    s.flag Fld.CH_STATUS_FRAME_OPEN ch.val = false → (s.ch ch.val).own = none →
    s.selRefused ch.val (s.flag Fld.CH_TWIN_SEL ch.val) = false → s.ownUnknown ch.val (s.pollOf ch.val).op = false →
    (RunsTo (.statusPoll ch b false) s fun t =>
      t.flag Fld.CH_STATUS_BUSY_SHIELD ch.val = bitOf b.toNat (s.getF Fld.CR_OPS2_BUSY_BIT (s.ch ch.val).shieldRegion) ∧
      t.outputs = s.outputs ++ [.ownFrame ch.val (s.flag Fld.CH_TWIN_SEL ch.val)
        (s.getF Fld.CR_OPS_STAT_OP (s.ch ch.val).shieldRegion) (s.pollOf ch.val).addr []
        (s.ownPhases ch.val (s.pollOf ch.val).op (s.pollOf ch.val).addr [])] ∧ t.sram = s.sram ∧
      ∀ n i, n.counts = false → (n ≠ .CH_STATUS ∨ i ≠ ch.val) → t.rd n i = s.rd n i) ∧
    RunsTo (.statusPoll ch b true) s fun t => (t.ch ch.val).own = some (s.pollOf ch.val) ∧
      t.flag Fld.CH_STATUS_OWN_OPEN ch.val = true ∧ t.flag Fld.CH_STATUS_BUSY_SHIELD ch.val = true) ∧
  (∀ (ch : ChanId) (g : Nat) (r : OwnRead) (x : Slot) (s : State), s.slot ch.val g = some x → s.completes ch.val x = true →
    s.ownAllowed ch.val = true → s.ownUnknown ch.val (s.ownReadOp ch.val) = false → x.missing ≠ [] → r.still = false →
    r.runs = [] →
    RunsTo (.completionRead ch g r) s fun t => t.flag Fld.CH_STATUS_YIELDED ch.val = false ∧
      t.outputs = s.outputs ++ x.missing.map (fun p =>
        .ownFrame ch.val (s.flag Fld.CH_TWIN_SEL ch.val) (s.ownReadOp ch.val) (g * 4096 + p.1) []
          (s.ownPhases ch.val (s.ownReadOp ch.val) (g * 4096 + p.1) [])) ∧
      ∃ y, t.slot ch.val g = some y ∧ y.st = .hash ∧ y.own = Slot.block { x with own := sliceB r.data 0 4096 }) ∧
  (∀ (ch : ChanId) (g : Nat) (r : OwnRead) (x : Slot) (s : State), s.slot ch.val g = some x → s.completes ch.val x = true →
    s.ownAllowed ch.val = true → s.ownUnknown ch.val (s.ownReadOp ch.val) = false → x.missing ≠ [] → r.still = false →
    r.failed = true →
    RunsTo (.completionRead ch g r) s fun t => t.slot ch.val g = none ∧ t.flag Fld.CH_STATUS_YIELDED ch.val = false ∧
      ∀ c ∈ (t.ch ch.val).cons, c.granule = g → c.reread = false → c.verdict ≠ none)

/-! ## Formes and policy epochs (Chapter 3) -/

/-- R18, R112, R113, R122: a write to staging goes to both lanes, reserved bits left out, and is counted; while the die's staging is locked, a switch is under
way or the forme is quoined, it is rejected under fault 0x2009 and staging is as before. -/
def Obligations.StagingWrites : Prop :=
  (∀ (req : Requester) (d : DieId) (f : Fin 32) (k : Fin 64) (v : Word) (s : State), s.DieOpen req d.val →
    s.stageShut d.val = false → s.quoinAsked d.val f.val = false →
    RunsTo (.stagingWrite req (.opc d f k) v) s fun t => t.rd .FM_STG (bankIx d.val 0 f.val k.val) = v &&& 0x7F7F7F7F ∧
      t.rd .FM_STG (bankIx d.val 1 f.val k.val) = v &&& 0x7F7F7F7F ∧ t.sram = s.sram ∧ t.outputs = s.outputs ∧
      ∀ n i, n.counts = false → (n ≠ .FM_STG ∨ (i ≠ bankIx d.val 0 f.val k.val ∧ i ≠ bankIx d.val 1 f.val k.val)) →
        t.rd n i = s.rd n i) ∧
  (∀ (req : Requester) (d : DieId) (f : Fin 32) (k : Fin 64) (w : Fin 4) (v : Word) (s : State), s.DieOpen req d.val →
    s.stageShut d.val = false → s.quoinAsked d.val f.val = false →
    RunsTo (.stagingWrite req (.slug d f k w) v) s fun t =>
      t.rd .FM_STG (bankIx d.val 0 f.val (64 + 4 * k.val + w.val)) = v &&& BitVec.ofNat 32 (stageMask (64 + w.val)) ∧
      t.rd .FM_STG (bankIx d.val 1 f.val (64 + 4 * k.val + w.val)) = v &&& BitVec.ofNat 32 (stageMask (64 + w.val))) ∧
  (∀ (req : Requester) (d : DieId) (f : Fin 32) (k : Fin 64) (v : Word) (s : State), s.DieOpen req d.val →
    (s.stageShut d.val = true ∨ s.quoinAsked d.val f.val = true) →
    exec (.stagingWrite req (.opc d f k) v) s = .next (s.report d.val 0x2009 (8 * f.val))) ∧
  (∀ (req : Requester) (ch : ChanId) (v : Word) (s : State), s.DieOpen req (ch.val / 8) → s.stageShut (ch.val / 8) = false →
    s.quoinAsked (ch.val / 8) (bindForme (s.rd .BIND_STG (2 * ch.val)).toNat) = false →
    RunsTo (.stagingWrite req (.bind ch) v) s fun t =>
      t.rd .BIND_STG (2 * ch.val) = RegName.FM_BIND.written (s.rd .BIND_STG (2 * ch.val)) v ∧
      t.rd .BIND_STG (2 * ch.val + 1) = RegName.FM_BIND.written (s.rd .BIND_STG (2 * ch.val)) v)

/-- R114 to R117, R119: a GO while no switch is under way starts its checks, and another is refused with code 2; checks that
find a fault refuse the epoch under 0x2007, checks that find none start the switch; a channel takes it at its frame boundary and
sets its bit of EPOCH_MAP; a deadline with channels behind is an overrun under 0x2008; a complete switch makes the target the
current epoch. R119, R121, R126: staging unlocks when its copy is done; FM_QUOIN bits are set and never cleared by a write; a
read of FM_LSINFO answers the record and clears it. -/
def Obligations.EpochSwitch : Prop :=
  (∀ (req : Requester) (v : Word) (s : State), s.PlatOpen req → s.epoch.phase = .idle →
    RunsTo (.epochGo req v) s fun t => t.epoch.phase = .checking (bitsOf v.toNat 0 16) ∧ t.epoch.overran = false ∧
      t.regs = s.regs ∧ t.sram = s.sram ∧ t.outputs = s.outputs ∧
      ∀ d, d < s.nDies → Tbl.get t.epoch.quoinReq d 0 = (s.rd .FM_QUOIN d).toNat) ∧
  (∀ (req : Requester) (v : Word) (s : State), s.PlatOpen req → s.epoch.phase ≠ .idle →
    RunsTo (.epochGo req v) s fun t => t.flag Fld.EPOCH_STATUS_REFUSED 0 = true ∧
      t.getF Fld.EPOCH_STATUS_REFUSE_CODE 0 = 2 ∧ t.epoch = s.epoch ∧
      ∀ n i, n.counts = false → n ≠ .EPOCH_STATUS → n ≠ .FM_FAULT → t.rd n i = s.rd n i) ∧
  (∀ (e : Nat) (s : State), s.platLive = true → s.epoch.phase = .checking e → s.epochChecks e = none → e < 2 ^ 16 →
    RunsTo .epochChecksComplete s fun t => t.epoch.phase = .switching e ∧ t.getF Fld.EPOCH_CUR_TARGET 0 = e ∧
      t.flag Fld.EPOCH_STATUS_SWITCHING 0 = true ∧ t.rd .EPOCH_LATE_LO 0 = 0 ∧ t.rd .EPOCH_LATE_HI 0 = 0 ∧
      t.rd .EPOCH_MAP_LO 0 = 0 ∧ t.rd .EPOCH_MAP_HI 0 = 0 ∧ t.sram = s.sram) ∧
  (∀ (e : Nat) (r : EpochRefusal) (s : State), s.platLive = true → s.epoch.phase = .checking e → s.epochChecks e = some r →
    RunsTo .epochChecksComplete s fun t => t.epoch.phase = .idle ∧ t.flag Fld.EPOCH_STATUS_REFUSED 0 = true ∧
      t.getF Fld.EPOCH_STATUS_REFUSE_CODE 0 = r.code % 16 ∧ t.rd .EPOCH_CUR 0 = s.rd .EPOCH_CUR 0 ∧
      ∀ i, t.rd .FM_ACT i = s.rd .FM_ACT i ∧ t.rd .BIND_ACT i = s.rd .BIND_ACT i) ∧
  (∀ (ch : ChanId) (e : Nat) (s : State), s.chLive ch.val = true → s.epochOn (ch.val / 8) = true →
    s.epoch.phase = .switching e → s.epochBoundary ch.val = true → (s.ch ch.val).took = false → ch.val < 32 →
    (s.die (ch.val / 8)).care.running = none →
    RunsTo (.channelTakeEpoch ch) s fun t => (t.ch ch.val).took = true ∧
      (t.ch ch.val).epoch = s.getF Fld.EPOCH_CUR_TARGET 0 ∧
      t.rd .EPOCH_MAP_LO 0 = s.rd .EPOCH_MAP_LO 0 ||| BitVec.ofNat 32 (2 ^ ch.val) ∧
      ∀ n i, n.counts = false → n ≠ .EPOCH_MAP_LO → t.rd n i = s.rd n i) ∧
  (∀ (e c : Nat) (l : List Nat) (s : State), s.platLive = true → s.epoch.phase = .switching e → s.behind = c :: l →
    s.epoch.overran = false → s.epoch.deadline ≤ s.usSince s.epoch.since → s.flag Fld.EPOCH_CTRL_OVERRUN 0 = false →
    RunsTo .epochDeadline s fun t => t.epoch = { s.epoch with overran := true } ∧
      t.flag Fld.EPOCH_STATUS_OVERRAN 0 = true ∧ t.chans = s.chans ∧
      ∀ k, k ∈ c :: l → k < 32 → bitOf (t.rd .EPOCH_LATE_LO 0).toNat k = true) ∧
  (∀ (e : Nat) (s : State), s.platLive = true → s.epoch.phase = .switching e → s.epochReady = true → e < 2 ^ 16 →
    RunsTo .epochSwitchComplete s fun t => t.epoch.phase = .idle ∧ t.getF Fld.EPOCH_CUR_CURRENT 0 = e ∧
      t.flag Fld.EPOCH_STATUS_SWITCHING 0 = false ∧ t.flag Fld.EPOCH_STATUS_DONE 0 = true) ∧
  (∀ (e : Nat) (s : State), s.platLive = true → s.epoch.phase = .switching e → s.epochReady = false →
    exec .epochSwitchComplete s = .next s) ∧
  (∀ (d : DieId) (s : State), s.live d.val = true →
    exec (.stageCopyDone d) s = .next (s.setFlag Fld.FM_STATUS_STAGE_LOCK d.val false)) ∧
  (∀ (req : Requester) (d : DieId) (v : Word) (s : State), s.DieOpen req d.val →
    exec (.fmQuoinWrite req d v) s = .next (s.wr .FM_QUOIN d.val (s.rd .FM_QUOIN d.val ||| v))) ∧
  (∀ (req : Requester) (d : DieId) (s : State), s.DieOpen req d.val →
    exec (.fmLsinfoRead req d) s = .next ((s.wr .FM_LSINFO d.val 0).emit (.readData (s.rd .FM_LSINFO d.val))))

/-- R119: a switch that completes makes the NEXT bank of each die that takes part its ACTIVE bank, forme words and bindings alike, copies it
to staging and locks staging until that copy is done. The premise on the register file is `State.Canonical`, which every state
of a run has. -/
def Obligations.EpochActivates : Prop :=
  ∀ (e d : Nat) (s : State), s.platLive = true → s.epoch.phase = .switching e → s.epochReady = true → s.epochOn d = true →
    RegFile.wf s.variant s.regs = true →
    RunsTo .epochSwitchComplete s fun t => t.flag Fld.FM_STATUS_STAGE_LOCK d = true ∧
      (∀ i, i / 32768 = d → t.rd .FM_ACT i = s.rd .FM_NXT i ∧ t.rd .FM_STG i = s.rd .FM_NXT i) ∧
      (∀ i, i / 16 = d → t.rd .BIND_ACT i = s.rd .BIND_NXT i ∧ t.rd .BIND_STG i = s.rd .BIND_NXT i) ∧
      (∀ c, c < 8 → (t.ch (8 * d + c)).took = false)

/-! ## Witness, galley and release (Chapter 4) -/

/-- R132, R136, R158, R164, R165: the six commands of WIT_CMD. A command while one runs is fault 0x3009 and nothing else; LOAD
of an unloaded tree starts its fetch and makes the tree LOADING; UNLOAD empties the tree; SWEEP, PRELOAD and PRELOAD_PIN run
over a range of leaves of a rooted tree and UNPIN unpins one; a tree that a quoined forme uses is not touched (result 0xB).
R133, R158: how LOAD and SWEEP end. A colophon that cannot be read refuses the tree with result 9 under 0x3007; a colophon that
passes, with its pinned groups, roots the tree with the colophon's root, version and depth. A sweep whose range is done records
what passed and the first failure, and a sweep of the whole tree sets SWEEP_DONE. R143: where a consumption took the sweep's
FETCH slot, the sweep's own read supplies the bytes that no host frame delivered, and the block goes to one hash. -/
def Obligations.WitnessCommands : Prop :=
  (∀ (req : Requester) (d : DieId) (t : TreeId) (s : State), s.DieOpen req d.val →
    s.flag Fld.WIT_CMD_STATUS_BUSY d.val = true →
    exec (.load req d t) s = .next (s.witFault d.val t.val (s.treeCh (d.val * 256 + t.val)) 0x3009) ∧
    exec (.unload req d t) s = exec (.load req d t) s ∧ exec (.unpin req d t) s = exec (.load req d t) s) ∧
  (∀ (req : Requester) (d : DieId) (t : TreeId) (s : State), s.DieOpen req d.val →
    s.flag Fld.WIT_CMD_STATUS_BUSY d.val = false → s.treeLocked d.val t.val = false → s.treeBusy d.val t.val = false →
    (s.getF Fld.TD_STATE_STATE (d.val * 256 + t.val) = 0 ∨ s.getF Fld.TD_STATE_STATE (d.val * 256 + t.val) = 3) →
    s.pinnedNow d.val + pinnedLines (s.getF Fld.TD_LEAVES_LEAF_COUNT (d.val * 256 + t.val))
      (s.getF Fld.TD_CFG_PIN_LEVELS (d.val * 256 + t.val)) ≤ 1024 →
    RunsTo (.load req d t) s fun u => u.getF Fld.TD_STATE_STATE (d.val * 256 + t.val) = 1 ∧
      u.flag Fld.WIT_CMD_STATUS_BUSY d.val = true ∧ u.getF Fld.WIT_CMD_STATUS_TREE d.val = t.val ∧
      (u.die d.val).wit = some { op := 1, tree := t.val, first := 0, stop := 0, next := 0, passed := 0, fail := none } ∧
      u.sram = s.sram ∧ u.outputs = s.outputs ∧
      ∀ n i, (n ≠ .WIT_CMD_STATUS ∨ i ≠ d.val) → (n ≠ .TD_STATE ∨ i ≠ d.val * 256 + t.val) → u.rd n i = s.rd n i) ∧
  (∀ (req : Requester) (d : DieId) (t : TreeId) (s : State), s.DieOpen req d.val →
    s.flag Fld.WIT_CMD_STATUS_BUSY d.val = false → s.treeLocked d.val t.val = false → s.treeBusy d.val t.val = false →
    RunsTo (.unload req d t) s fun u => u.getF Fld.TD_STATE_STATE (d.val * 256 + t.val) = 0 ∧
      u.flag Fld.WIT_CMD_STATUS_BUSY d.val = false ∧ u.flag Fld.WIT_CMD_STATUS_DONE d.val = true ∧
      u.getF Fld.WIT_CMD_STATUS_RESULT d.val = 0 ∧ (∀ x ∈ (u.die d.val).slots, x.tree ≠ t.val) ∧
      u.flag Fld.TD_STATE_SWEEP_DONE (d.val * 256 + t.val) = false ∧ u.sram = s.sram) ∧
  (∀ (req : Requester) (d : DieId) (t : TreeId) (s : State), s.DieOpen req d.val →
    s.flag Fld.WIT_CMD_STATUS_BUSY d.val = false → s.treeLocked d.val t.val = true →
    RunsTo (.unload req d t) s fun u => u.getF Fld.WIT_CMD_STATUS_RESULT d.val = 0xB ∧
      (u.die d.val).slots = (s.die d.val).slots ∧ ∀ n i, n ≠ .WIT_CMD_STATUS → u.rd n i = s.rd n i) ∧
  (∀ (req : Requester) (d : DieId) (t : TreeId) (reads : List OwnRead) (s : State), s.DieOpen req d.val →
    s.flag Fld.WIT_CMD_STATUS_BUSY d.val = false → s.getF Fld.TD_STATE_STATE (d.val * 256 + t.val) = 2 →
    s.getF Fld.WIT_ARG1_COUNT d.val ≠ 0 →
    s.getF Fld.WIT_ARG0_FIRST d.val + s.getF Fld.WIT_ARG1_COUNT d.val ≤ s.getF Fld.TD_LEAVES_LEAF_COUNT (d.val * 256 + t.val) →
    s.ownUnknown (s.treeCh (d.val * 256 + t.val)) (s.ownReadOp (s.treeCh (d.val * 256 + t.val))) = false →
    exec (.sweep req d t reads) s =
        .next ((((s.setF Fld.WIT_CMD_STATUS_TREE d.val t.val).witStart d.val (s.rangeCmd d.val t.val 3)).setFlag
          Fld.TD_STATE_SWEEP_BUSY (d.val * 256 + t.val) true).sweepOn d.val reads) ∧
      exec (.preload req d t reads) s =
        .next (((s.setF Fld.WIT_CMD_STATUS_TREE d.val t.val).witStart d.val (s.rangeCmd d.val t.val 4)).sweepOn d.val reads) ∧
      (s.pinnedSlots d.val + s.getF Fld.WIT_ARG1_COUNT d.val ≤ 1536 → exec (.preloadPin req d t reads) s =
        .next (((s.setF Fld.WIT_CMD_STATUS_TREE d.val t.val).witStart d.val (s.rangeCmd d.val t.val 5)).sweepOn d.val reads))) ∧
  (∀ (req : Requester) (d : DieId) (t : TreeId) (s : State), s.DieOpen req d.val →
    s.flag Fld.WIT_CMD_STATUS_BUSY d.val = false → s.getF Fld.TD_STATE_STATE (d.val * 256 + t.val) = 2 →
    s.getF Fld.WIT_ARG1_COUNT d.val ≠ 0 →
    s.getF Fld.WIT_ARG0_FIRST d.val + s.getF Fld.WIT_ARG1_COUNT d.val ≤ s.getF Fld.TD_LEAVES_LEAF_COUNT (d.val * 256 + t.val) →
    RunsTo (.unpin req d t) s fun u => u.getF Fld.WIT_CMD_STATUS_RESULT d.val = 0 ∧
      u.flag Fld.WIT_CMD_STATUS_DONE d.val = true ∧ u.outputs = s.outputs ∧ u.sram = s.sram ∧
      ∀ x ∈ (u.die d.val).slots, x.tree = t.val → s.getF Fld.WIT_ARG0_FIRST d.val ≤ x.leaf →
        x.leaf < s.getF Fld.WIT_ARG0_FIRST d.val + s.getF Fld.WIT_ARG1_COUNT d.val → x.pinned = false) ∧
    (∀ (d : DieId) (w : WitCmd) (get : VaultGet) (p : List GroupFetch) (s v : State), s.live d.val = true →
    (s.die d.val).wit = some w → w.op = 1 →
    s.vaultGet d.val (s.treeDev (d.val * 256 + w.tree)) (s.rd .TD_CADDR (d.val * 256 + w.tree)).toNat get = (none, v) →
    RunsTo (.loadDone d get p) s fun u => u.getF Fld.TD_STATE_STATE (d.val * 256 + w.tree) = 3 ∧
      u.getF Fld.WIT_CMD_STATUS_RESULT d.val = 9 ∧ u.flag Fld.WIT_CMD_STATUS_BUSY d.val = false ∧
      u.flag Fld.WIT_CMD_STATUS_DONE d.val = true ∧ (u.die d.val).wit = none ∧
      bitOf (u.rd .WIT_FAULT d.val).toNat 6 = true) ∧
    (∀ (d : DieId) (w : WitCmd) (c : List Byte) (get : VaultGet) (p : List GroupFetch) (s v u : State), s.live d.val = true →
    (s.die d.val).wit = some w → w.op = 1 →
    s.vaultGet d.val (s.treeDev (d.val * 256 + w.tree)) (s.rd .TD_CADDR (d.val * 256 + w.tree)).toNat get = (some c, v) →
    u = (((v.coReads c false).putDigest .TD_ROOT ((d.val * 256 + w.tree) * 12) (coRoot c)).wr .TD_VERSION (d.val * 256 + w.tree)
      (BitVec.ofNat 32 (coVersion c))).setF Fld.TD_STATE_DEPTH (d.val * 256 + w.tree) (coDepth c) →
    RunsTo (.loadDone d get p) s fun x => x.flag Fld.WIT_CMD_STATUS_BUSY d.val = false ∧
      x.flag Fld.WIT_CMD_STATUS_DONE d.val = true ∧ (x.die d.val).wit = none ∧
      match v.treeRefusal d.val w.tree c, u.fetchAll d.val w.tree (u.pinnedGroups (d.val * 256 + w.tree)) p with
      | some r, _ => x.getF Fld.TD_STATE_STATE (d.val * 256 + w.tree) = 3 ∧
          x.getF Fld.WIT_CMD_STATUS_RESULT d.val = r % 2 ^ Fld.WIT_CMD_STATUS_RESULT.width
      | none, (false, _) => x.getF Fld.TD_STATE_STATE (d.val * 256 + w.tree) = 3 ∧
          x.getF Fld.WIT_CMD_STATUS_RESULT d.val = 9
      | none, (true, y) => x.getF Fld.TD_STATE_STATE (d.val * 256 + w.tree) = 2 ∧
          x.getF Fld.WIT_CMD_STATUS_RESULT d.val = 0 ∧ x.flag Fld.TD_STATE_SWEEP_DONE (d.val * 256 + w.tree) = false ∧
          x.flag Fld.TD_STATE_SWEEP_FAIL (d.val * 256 + w.tree) = false ∧ x.sram = y.sram ∧
          ∀ n i, n ≠ .TD_STATE → n ≠ .WIT_CMD_STATUS → x.rd n i = y.rd n i) ∧
  (∀ (d : DieId) (w : WitCmd) (s : State), s.live d.val = true → (s.die d.val).wit = some w → w.op = 3 → w.stop ≤ w.next →
    RunsTo (.sweepDone d []) s fun u => u.flag Fld.TD_STATE_SWEEP_BUSY (d.val * 256 + w.tree) = false ∧
      u.flag Fld.TD_STATE_SWEEP_FAIL (d.val * 256 + w.tree) = w.fail.isSome ∧
      u.getF Fld.TD_SWEEP_PASSED (d.val * 256 + w.tree) = w.passed % 2 ^ Fld.TD_SWEEP_PASSED.width ∧
      u.getF Fld.TD_STATE_FIRST_FAIL (d.val * 256 + w.tree) = w.fail.getD 0 % 2 ^ Fld.TD_STATE_FIRST_FAIL.width ∧
      (w.first = 0 ∧ w.stop = s.getF Fld.TD_LEAVES_LEAF_COUNT (d.val * 256 + w.tree) →
        u.flag Fld.TD_STATE_SWEEP_DONE (d.val * 256 + w.tree) = true) ∧
      u.getF Fld.WIT_CMD_STATUS_RESULT d.val = 0 ∧ (u.die d.val).wit = none ∧ u.sram = s.sram) ∧
  (∀ (d : DieId) (w : WitCmd) (s : State), s.live d.val = true → (s.die d.val).wit = some w → w.op ≠ 1 → w.next < w.stop →
    exec (.sweepDone d []) s = .next (s.sweepFetch d.val)) ∧
  (∀ (d : DieId) (w : WitCmd) (n g : Nat) (r : OwnRead) (x : Slot) (s : State), s.live d.val = true →
    (s.die d.val).wit = some w → w.op ≠ 1 → w.next < w.stop → n = s.treeCh (d.val * 256 + w.tree) →
    g = s.getF Fld.TD_BASE_BASE (d.val * 256 + w.tree) + w.next → s.ownAllowed n = true →
    s.leafTrusted d.val w.tree w.next = true → s.canHash d.val = true → s.ownUnknown n (s.ownReadOp n) = false →
    s.slot n g = some x → x.st = .capture → x.sweep.isSome = true → r.still = false → r.runs = [] →
    RunsTo (.sweepDone d [r]) s fun t => (t.die d.val).wit = some w ∧
      t.outputs = s.outputs ++ [.ownFrame n (s.flag Fld.CH_TWIN_SEL n) (s.ownReadOp n) (g * 4096) []
        (s.ownPhases n (s.ownReadOp n) (g * 4096) [])] ∧
      ∃ y, t.slot n g = some y ∧ y.st = .hash ∧ y.own = Slot.block { x with own := sliceB r.data 0 4096 })

/-- R166: a tree descriptor is written freely while its tree is unloaded or refused, with R166's adjustments of the value; a
write to one that a quoined forme uses is fault 0x3009 unless it changes nothing. R130, R139: a proof group that a verification in
progress needs is fetched, and one whose hash is the digest that vouches for it is trusted in the digest cache. R148: a group that
fails its check twice on a port without a mirror is fault 0x3002, and the leaves that wait for it are lost; R173: where the vault
read itself fails, the fault is 0x4004 and the group is lost too. The hash jobs of these fetches go well. -/
def Obligations.TreeDescriptorsAndGroups : Prop :=
  (∀ (req : Requester) (d : DieId) (t : TreeId) (r : TdReg) (v : Word) (s : State), s.DieOpen req d.val →
    s.treeLocked d.val t.val = false →
    (s.getF Fld.TD_STATE_STATE (d.val * 256 + t.val) = 0 ∨ s.getF Fld.TD_STATE_STATE (d.val * 256 + t.val) = 3) →
    RunsTo (.descriptorWrite req d t r v) s fun u =>
      u.rd (tdRegName r) (d.val * 256 + t.val) = tdValue r (s.rd (tdRegName r) (d.val * 256 + t.val)) v ∧
      u.outputs = s.outputs ∧ u.sram = s.sram ∧
      ∀ n i, (n ≠ tdRegName r ∨ i ≠ d.val * 256 + t.val) → u.rd n i = s.rd n i) ∧
  (∀ (req : Requester) (d : DieId) (t : TreeId) (r : TdReg) (v : Word) (s : State), s.DieOpen req d.val →
    s.treeLocked d.val t.val = true →
    RunsTo (.descriptorWrite req d t r v) s fun u => u.outputs = s.outputs ∧ u.sram = s.sram ∧
      (∀ n i, n.counts = false → n ≠ .WIT_FAULT → u.rd n i = s.rd n i) ∧
      u.rd .WIT_FAULT d.val = s.rd .WIT_FAULT d.val |||
        (if tdValue r (s.rd (tdRegName r) (d.val * 256 + t.val)) v = s.rd (tdRegName r) (d.val * 256 + t.val) then 0 else 0x100#32)) ∧
  (∀ (d : DieId) (t : TreeId) (l k i : Nat) (raw : List Byte) (second mirror : VaultGet) (v : Digest) (s : State),
    i = d.val * 256 + t.val → s.live d.val = true → s.getF Fld.TD_STATE_STATE i = 2 → s.canHash d.val = true →
    s.groupNeeded d.val t.val l k = true → s.trusted d.val t.val l k = none → s.vouches d.val t.val l k = some v →
    (2 ≤ s.treeDev i → s.reached 1 = true) →
    hashOf (nodeMessage (s.rd .TD_REGION i).toNat (l + 1) k (groupBytes (s.getF Fld.TD_LEAVES_LEAF_COUNT i) l k raw)) = v →
    RunsTo (.groupFetchDone d t l k { first := [{ data := some raw }], second := second, mirror := mirror }) s fun u =>
      (u.trusted d.val t.val l k).map Line.data = some (groupBytes (s.getF Fld.TD_LEAVES_LEAF_COUNT i) l k raw) ∧
      u.outputs = s.outputs ∧ u.sram = s.sram ∧ (u.die d.val).slots = (s.die d.val).slots ∧
      ∀ n i, n.counts = false → u.rd n i = s.rd n i) ∧
  (∀ (d : DieId) (t : TreeId) (l k i : Nat) (raw raw2 : List Byte) (v : Digest) (s : State),
    i = d.val * 256 + t.val → s.live d.val = true → s.getF Fld.TD_STATE_STATE i = 2 → s.canHash d.val = true →
    s.groupNeeded d.val t.val l k = true → s.trusted d.val t.val l k = none → s.vouches d.val t.val l k = some v →
    (2 ≤ s.treeDev i → s.reached 1 = true) → s.treeMirror i = false →
    hashOf (nodeMessage (s.rd .TD_REGION i).toNat (l + 1) k (groupBytes (s.getF Fld.TD_LEAVES_LEAF_COUNT i) l k raw)) ≠ v →
    hashOf (nodeMessage (s.rd .TD_REGION i).toNat (l + 1) k (groupBytes (s.getF Fld.TD_LEAVES_LEAF_COUNT i) l k raw2)) ≠ v →
    ∃ u : State, exec (.groupFetchDone d t l k { first := [{ data := some raw }], second := [{ data := some raw2 }] }) s =
        .next (u.groupLost d.val t.val l k) ∧ u.trusted d.val t.val l k = none ∧
      u.rd .WIT_FAULT d.val = s.rd .WIT_FAULT d.val ||| 2 ∧ (u.die d.val).slots = (s.die d.val).slots ∧ u.chans = s.chans ∧
      u.outputs = s.outputs ∧ u.sram = s.sram) ∧
  (∀ (d : DieId) (t : TreeId) (l k : Nat) (second mirror : VaultGet) (s : State), s.live d.val = true →
    s.getF Fld.TD_STATE_STATE (d.val * 256 + t.val) = 2 → s.canHash d.val = true → s.groupNeeded d.val t.val l k = true →
    (s.vouches d.val t.val l k).isSome = true →
    ∃ u : State, exec (.groupFetchDone d t l k { first := [], second := second, mirror := mirror }) s =
        .next (u.groupLost d.val t.val l k) ∧
      u.rd .MC_FAULT d.val = s.rd .MC_FAULT d.val ||| 8 ∧ (u.die d.val).slots = (s.die d.val).slots ∧ u.chans = s.chans ∧
      u.outputs = s.outputs ∧ u.sram = s.sram ∧ ∀ n i, n.counts = false → n ≠ .MC_FAULT → u.rd n i = s.rd n i)

/-- R148 to R150, R161, R220, R223: a lane's result is kept for its job while job, generation and executor agree, and is stale
otherwise; a leaf in a slot or in a tainted block's re-read whose digest is the tree's entry passes; one whose digest differs is
hashed again on another lane, passes where that digest is the entry, which takes the first lane out, and fails otherwise; verdicts
are reported oldest first, and one that is still open stops the reports; a horizon that ends before its verdict is reported is fault
0x3003 with the tree's overdue response; a tainted granule is read again by an own frame, whose bytes go to hashing. -/
def Obligations.HashVerdicts : Prop :=
  (∀ (ch : ChanId) (g gen : Nat) (e : DieId) (lane : Fin 4) (c : Option Digest) (s : State), s.chLive ch.val = true →
    s.live e.val = true → mem lane.val (s.die e.val).lanesOut = false → s.awaitedJob ch.val g gen e.val = none →
    RunsTo (.hashResult ch g gen e lane c 0 0) s fun t =>
      t.rd .HP_STALE (ch.val / 8) = (if s.rd .HP_STALE (ch.val / 8) = 0xFFFFFFFF#32 then 0xFFFFFFFF#32
        else s.rd .HP_STALE (ch.val / 8) + 1) ∧ t.chans = s.chans ∧ t.sram = s.sram ∧ t.outputs = s.outputs ∧
      ∀ n i, n.counts = false → (n ≠ .HP_STALE ∨ i ≠ ch.val / 8) → t.rd n i = s.rd n i) ∧
  (∀ (ch : ChanId) (g gen : Nat) (j : Job) (x : Slot) (e : DieId) (lane : Fin 4) (c : Option Digest) (s : State),
    s.chLive ch.val = true → s.live e.val = true → mem lane.val (s.die e.val).lanesOut = false →
    s.awaitedJob ch.val g gen e.val = some j → s.jobSlot j = some x →
    RunsTo (.hashResult ch g gen e lane c 0 0) s fun t =>
      { j with lane := some lane, result := some (c.getD (hashOf (s.jobMessage j))) } ∈ (t.die (ch.val / 8)).jobs ∧
      t.chans = s.chans ∧ t.sram = s.sram ∧ t.outputs = s.outputs ∧ ∀ n i, n.counts = false → t.rd n i = s.rd n i) ∧
  (∀ (ch : ChanId) (g : Nat) (j : Job) (x : Slot) (r : Digest) (second : Option Digest) (again : Nat) (s : State),
    s.chLive ch.val = true → s.hashedJob ch.val g = some j → s.jobSlot j = some x → j.result = some r →
    s.getF Fld.TD_STATE_STATE (ch.val / 8 * 256 + x.tree) = 2 → s.leafEntry (ch.val / 8) x.tree x.leaf = some r →
    exec (.leafVerdict ch g second again []) s = .next (
      let u := s.useLine (ch.val / 8) x.tree 0 (x.leaf / 8)
      if j.reread.isSome then u.rereadPass x else u.slotPass x)) ∧
  (∀ (ch : ChanId) (g : Nat) (j : Job) (x : Slot) (r r2 want : Digest) (s : State),
    s.chLive ch.val = true → s.hashedJob ch.val g = some j → s.jobSlot j = some x → j.result = some r →
    s.getF Fld.TD_STATE_STATE (ch.val / 8 * 256 + x.tree) = 2 →
    s.leafEntry (ch.val / 8) x.tree x.leaf = some want → r ≠ want →
    exec (.leafVerdict ch g (some r2) 0 []) s = .next (
      let u := ((s.useLine (ch.val / 8) x.tree 0 (x.leaf / 8)).newGen (ch.val / 8)).sendFence (ch.val / 8) j.executor
      if r2 = want then
        let v := u.laneOut j.executor ((j.lane.map fun l => l.val).getD 0)
        if j.reread.isSome then v.rereadPass x else v.slotPass x
      else if j.reread.isSome then u.rereadFail ch.val g x.tree else u.slotFail x)) ∧
  (∀ (ch : ChanId) (c : Consumption) (l : List Consumption) (v : WVerdict) (s : State), s.chLive ch.val = true →
    (s.ch ch.val).cons = c :: l → c.verdict = some v →
    RunsTo (.verdictReport ch) s fun t => (t.ch ch.val).cons = l ∧ (t.ch ch.val).reported = c.seq ∧
      t.flag Fld.WIT_CHSTAT_TAINT_OPEN ch.val = (l.any fun x => x.reread) ∧ t.sram = s.sram ∧ t.outputs = s.outputs ∧
      ∀ n i, n.counts = false → (n ≠ .WIT_CHSTAT ∨ i ≠ ch.val) → t.rd n i = s.rd n i) ∧
  (∀ (ch : ChanId) (c : Consumption) (l : List Consumption) (s : State), (s.ch ch.val).cons = c :: l → c.verdict = none →
    exec (.verdictReport ch) s = .next s) ∧
  (∀ (ch : ChanId) (q : Word) (c : Consumption) (s : State), s.chLive ch.val = true →
    ((s.ch ch.val).cons.find? fun c => decide (c.seq = q) && !c.overdue &&
      decide (s.getF Fld.WIT_HORIZON_HORIZON (ch.val / 8) ≤ s.usSince c.firstUs)) = some c →
    exec (.horizonExpire ch q) s =
      .next (((s.modCh ch.val fun x =>
        { x with cons := x.cons.map fun y => if y.seq = q then { y with overdue := true } else y }).witFault (ch.val / 8)
        c.tree ch.val 0x3003).respond ch.val (s.getF Fld.TD_CFG_OVER_RESP (ch.val / 8 * 256 + c.tree))
          [.verdict c.seq c.granule])) ∧
  (∀ (ch : ChanId) (g : Nat) (c : Consumption) (r : OwnRead) (s : State), s.chLive ch.val = true →
    s.ownAllowed ch.val = true → s.rereadOpen ch.val g = some c →
    ((s.die (ch.val / 8)).jobs.any fun j => j.isFor ch.val g && j.reread.isSome) = false →
    s.ownUnknown ch.val (s.ownReadOp ch.val) = false → r.still = false → r.runs = [] →
    RunsTo (.taintReread ch g r) s fun t => t.flag Fld.CH_STATUS_YIELDED ch.val = false ∧ t.sram = s.sram ∧
      t.outputs = s.outputs ++ [.ownFrame ch.val (s.flag Fld.CH_TWIN_SEL ch.val) (s.ownReadOp ch.val) (g * 4096) []
        (s.ownPhases ch.val (s.ownReadOp ch.val) (g * 4096) [])] ∧
      (t.ch ch.val).cons = (s.ch ch.val).cons ∧
      ∃ j ∈ (t.die (ch.val / 8)).jobs, j.isFor ch.val g = true ∧ j.result = none ∧
        ∃ x, t.jobSlot j = some x ∧ x.tree = c.tree ∧ x.own = sliceB r.data 0 4096)

/-- R151 to R155, R160, R167: the release plan. A gate opens where it is closed, armed, its trees are rooted and its condition
holds, and not otherwise; PG_CTRL never reads ARM and its MODE = 3 is 0; RP_LINE writes REQUEST and, with bit 2, clears HOLD
unless a hold is forced; RP_GATES and RP_CLIENT are written whole; a restart clears once nothing is awaited and its time has
passed. A read of WIT_CONSUMED latches WIT_REPORTED. -/
def Obligations.ReleasePlan : Prop :=
  (∀ (g : LineId) (s : State), s.platLive = true → s.getF Fld.PG_STATUS_STATE g.val = 0 →
    s.flag Fld.PG_STATUS_ARMED g.val = true → s.gateRooted g.val = true → s.gateReady g.val = true →
    exec (.gateOpen g) s = .next (s.setF Fld.PG_STATUS_STATE g.val 1)) ∧
  (∀ (g : LineId) (s : State), (s.flag Fld.PG_STATUS_ARMED g.val = false ∨ s.gateRooted g.val = false ∨
    s.gateReady g.val = false ∨ s.getF Fld.PG_STATUS_STATE g.val ≠ 0) → exec (.gateOpen g) s = .next s) ∧
  (∀ (req : Requester) (g : LineId) (v : Word) (s : State), s.PlatOpen req →
    RunsTo (.pgCtrlWrite req g v) s fun t => t.getF Fld.PG_CTRL_ARM g.val = 0 ∧
      t.getF Fld.PG_CTRL_MODE g.val = (if Fld.PG_CTRL_MODE.of v = 3 then 0 else Fld.PG_CTRL_MODE.of v) ∧
      (Fld.PG_CTRL_MODE.of v = 0 → t.getF Fld.PG_STATUS_STATE g.val = 0) ∧
      (Fld.PG_CTRL_ARM.of v = 1 → Fld.PG_CTRL_ARM_SRC.of v = 0 → t.flag Fld.PG_STATUS_ARMED g.val = true) ∧
      (∀ h, h ≠ g.val → t.rd .PG_CTRL h = s.rd .PG_CTRL h ∧ t.rd .PG_STATUS h = s.rd .PG_STATUS h) ∧
      t.sram = s.sram ∧ t.outputs = s.outputs) ∧
  (∀ (req : Requester) (k : LineId) (v : Word) (s : State), s.PlatOpen req → (bitOf v.toNat 2 = false ∨ s.forcedHold = true) →
    exec (.rpLineWrite req k v) s = .next (s.setFlag Fld.RP_LINE_REQUEST k.val (bitOf v.toNat 0))) ∧
  (∀ (req : Requester) (k : LineId) (v : Word) (s : State), s.PlatOpen req → bitOf v.toNat 2 = true → s.forcedHold = false →
    exec (.rpLineWrite req k v) s =
      .next ((s.setFlag Fld.RP_LINE_REQUEST k.val (bitOf v.toNat 0)).setFlag Fld.RP_LINE_HOLD k.val false)) ∧
  (∀ (req : Requester) (k : LineId) (v : Word) (s : State), s.PlatOpen req →
    exec (.releasePlanWrite req (.gates k) v) s = .next (s.wr .RP_GATES k.val v)) ∧
  (∀ (req : Requester) (ch : ChanId) (v : Word) (s : State), s.PlatOpen req →
    exec (.releasePlanWrite req (.client ch) v) s = .next (s.wr .RP_CLIENT ch.val v)) ∧
  (∀ (ch : ChanId) (r : Restart) (s : State), s.chLive ch.val = true → s.platLive = true →
    (s.ch ch.val).restart = some r → r.awaits = [] → r.stuck = [] →
    1000 * max 1 (s.getF Fld.WIT_CHCFG_RESTART_MS ch.val) ≤ s.usSince r.sinceUs →
    RunsTo (.restartClear ch) s fun t => (t.ch ch.val).restart = none ∧
      t.flag Fld.WIT_CHSTAT_RESTARTING ch.val = false ∧ t.outputs = s.outputs ∧
      ∀ n i, n ≠ .WIT_CHSTAT → n ≠ .RP_LINE → t.rd n i = s.rd n i) ∧
  (∀ (req : Requester) (ch : ChanId) (s : State), s.DieOpen req (ch.val / 8) →
    exec (.witConsumedRead req ch) s =
      .next ((s.wr .WIT_REPORTED ch.val (s.ch ch.val).reported).emit (.readData (s.rd .WIT_CONSUMED ch.val))))

/-! ## Media care (Chapter 5) -/

/-- R173, R174, R178: a vault read that its first attempt delivers is one counted read; one whose every attempt fails, without a
mirror, is fault 0x4004; a reading that leaves the block weak is written down for repair under 0x4005. A weak sector of a vault
on NOR flash is erased and written again from its mirror; a weak block on NAND flash moves to a spare, which the map then names, and
the old block is erased. A directory that verifies is taken, and every live die that had not started its care state starts it, with
the state of the vault that the directory's place shows; VAULT is 0 where no device is declared or the read fails. -/
def Obligations.VaultAccess : Prop :=
  (∀ (d : DieId) (port dev : Bool) (addr : Nat) (a : VaultAttempt) (l : List VaultAttempt) (s : State), s.live d.val = true →
    s.attemptLevel (vaultDev port dev) a = 1 → a.runs = [] →
    exec (.vaultRead d port dev addr (a :: l)) s = .next (s.count d.val 0x353 1)) ∧
  (∀ (d : DieId) (port dev : Bool) (addr : Nat) (a : VaultAttempt) (l : List VaultAttempt) (s : State), s.live d.val = true →
    s.bound d.val = true → s.attemptLevel (vaultDev port dev) a = 2 → a.runs = [] →
    exec (.vaultRead d port dev addr (a :: l)) s =
      .next (((s.count d.val 0x353 1).vaultWeak d.val (vaultDev port dev) addr).report d.val 0x4005
        (vaultSource (vaultDev port dev)))) ∧
  (∀ (d : DieId) (port dev : Bool) (addr : Nat) (a b c : VaultAttempt) (s : State), s.live d.val = true →
    a.data = none → b.data = none → c.data = none → a.runs = [] → b.runs = [] → c.runs = [] →
    s.flag Fld.MC_VCFG_MIRROR (vaultDev port dev) = false →
    exec (.vaultRead d port dev addr [a, b, c]) s =
      .next (((s.count d.val 0x353 1).count d.val 0x354 2).report d.val 0x4004 (vaultSource (vaultDev port dev)))) ∧
  (∀ (d : DieId) (port dev : Bool) (b : Nat) (s : State), s.live d.val = true → s.bound d.val = true →
    (port = true → s.reached 1 = true) → (vaultDev port dev, b) ∈ (s.die d.val).care.weak →
    s.vaultNand (vaultDev port dev) = false → s.flag Fld.MC_VCFG_MIRROR (vaultDev port dev) = true →
    exec (.vaultRefresh d port dev b []) s =
      .next (((s.modCare d.val fun c => { c with weak := c.weak.filter fun x => decide (x ≠ (vaultDev port dev, b)) }).emit
        (.vaultErase (vaultDev port dev) (4096 * b) 4096)).emit (.vaultCopy (vaultDev port dev) b b))) ∧
  (∀ (d : DieId) (port dev : Bool) (b p : Nat) (rest : List Nat) (s : State), s.live d.val = true → s.bound d.val = true →
    (port = true → s.reached 1 = true) → (vaultDev port dev, b) ∈ (s.die d.val).care.weak →
    s.vaultNand (vaultDev port dev) = true → s.spares (vaultDev port dev) = p :: rest →
    RunsTo (.vaultRefresh d port dev b []) s fun t => t.physBlock (vaultDev port dev) b = p ∧
      (vaultDev port dev, b) ∉ (t.die d.val).care.weak ∧
      (∃ m0 m1, t.outputs = s.outputs ++ [.vaultCopy (vaultDev port dev) (s.physBlock (vaultDev port dev) b) p, m0, m1,
        .vaultBlockErase (vaultDev port dev) (s.physBlock (vaultDev port dev) b)])) ∧
  (∀ (u : List Byte) (scan : VaultScan) (gens : List (DieId × Nat × Nat)) (intents : List Intent) (s : State),
    s.platLive = true → s.getF Fld.MC_VCFG_TYPE 0 ≠ 0 →
    (∃ d, d < s.nDies ∧ s.live d = true ∧ (s.die d).care.started = false) →
    RunsTo (.vaultDirectoryRead [{ data := some u }] scan gens intents) s fun t =>
      t.vault.directory = (if (s.vaultState (some (sliceB u 0 4096))).1 = 3 then (s.vaultState (some (sliceB u 0 4096))).2
        else s.vault.directory) ∧
      ∀ d, d < s.nDies → s.live d = true → (s.die d).care.started = false →
        (t.die d).care.started = true ∧ t.getF Fld.MC_STATUS_VAULT d = (s.vaultState (some (sliceB u 0 4096))).1) ∧
  (∀ (get : VaultGet) (scan : VaultScan) (gens : List (DieId × Nat × Nat)) (intents : List Intent) (s : State),
    s.platLive = true → (s.getF Fld.MC_VCFG_TYPE 0 = 0 ∨ get = []) →
    RunsTo (.vaultDirectoryRead get scan gens intents) s fun t => t.vault.directory = s.vault.directory ∧
      ∀ d, d < s.nDies → s.live d = true → (s.die d).care.started = false →
        (t.die d).care.started = true ∧ t.getF Fld.MC_STATUS_VAULT d = 0)

/-- R182, R186, R187, R189: the health records go to the vault when FLUSH_S has passed or 3584 wait, where the die writes sealed units and has a log area, and then none is dirty and TALLY is 0; a scrub step runs where its region is due, or scrubbed whole after an overflow (R190), and nothing happens where its channel gives no room; a pass that is late
is LATE under fault 0x4008, once; a block past its age or its reads becomes due for refresh. R193: the unit operation at the
head of a die's queue runs once nothing refuses it and the channel gives room; a refused unit ends with its result; a written
one completes once the busy shield is down, and then no unit runs and its journal entry is closed. -/
def Obligations.CareByTime : Prop :=
    (∀ (d : DieId) (s : State), s.live d.val = true → s.canFlush d.val = true →
    (s.getF Fld.MC_CTRL_FLUSH_S d.val ≤ s.ot - (s.die d.val).care.flushOt ∨ 3584 ≤ s.dirty d.val) →
    RunsTo (.tallyFlush d []) s fun t => t.getF Fld.MC_STATUS_TALLY d.val = 0 ∧ (t.die d.val).care.flushOt = s.ot ∧
      (∀ p ∈ (t.die d.val).care.health, p.2.dirty = false) ∧ t.sram = s.sram ∧
      ∀ n i, n.counts = false → (n ≠ .MC_STATUS ∨ i ≠ d.val) → t.rd n i = s.rd n i) ∧
    (∀ (d : DieId) (ws : List Bool) (s : State), s.getF Fld.MC_CTRL_FLUSH_S d.val > s.ot - (s.die d.val).care.flushOt →
    s.dirty d.val < 3584 → exec (.tallyFlush d ws) s = .next s) ∧
  (∀ (d : DieId) (r : RegionId) (i n g : Nat) (x : OwnRead) (p : List GroupFetch) (gold co : VaultGet) (h : LaneRun) (b : Byte)
    (s u : State), i = d.val * 32 + r.val → n = s.regionCh i → g = s.regionBase i + s.getF Fld.CR_STATE_CURSOR i →
    s.live d.val = true → s.flag Fld.CR_CFG_VALID i = true → s.flag Fld.CR_CFG_TREE_EN i = true → s.scrubDue i = true →
    s.getF Fld.TD_STATE_STATE (d.val * 256 + s.getF Fld.CR_CFG_TREE i) = 2 →
    s.ownUnknown n (s.ownReadOp n) = false →
    (s.flag Fld.CR_CFG_NAND_ECC i = true → s.ownUnknown n (s.getF Fld.CR_OPS_STAT_OP i) = false) →
    s.ownAllowed n = true → s.canHash d.val = true → s.unitFill n g = false → s.unitFirst d.val = false →
    (∀ y ∈ (s.die d.val).slots, y.ch = n → s.completes n y = false) → x.still = false → s.takeSlot d.val = some u →
    exec (.scrubStep d r x p gold co h b) s = .next (u.scrubStep i x p gold co h b)) ∧
  (∀ (d : DieId) (r : RegionId) (x : OwnRead) (p : List GroupFetch) (gold co : VaultGet) (h : LaneRun) (b : Byte) (s : State),
    (s.scrubDue (d.val * 32 + r.val) = false ∨ s.flag Fld.CR_CFG_VALID (d.val * 32 + r.val) = false) →
    exec (.scrubStep d r x p gold co h b) s = .next s) ∧
  (∀ (i : Nat) (s : State), i ∉ (s.die (i / 32)).care.scrubAll →
    (s.flag Fld.MC_CTRL_SCRUB_EN (i / 32) = false ∨ s.getF Fld.CR_SCRUB_PERIOD_H i = 0) → s.scrubDue i = false) ∧
  (∀ (d : DieId) (r : RegionId) (s : State), s.live d.val = true → s.flag Fld.CR_CFG_VALID (d.val * 32 + r.val) = true →
    s.flag Fld.CR_CFG_TREE_EN (d.val * 32 + r.val) = true → s.getF Fld.CR_SCRUB_PERIOD_H (d.val * 32 + r.val) ≠ 0 →
    s.flag Fld.MC_CTRL_SCRUB_EN d.val = true →
    2 * 3600 * s.getF Fld.CR_SCRUB_PERIOD_H (d.val * 32 + r.val) ≤
      s.ot - Tbl.get (s.die d.val).care.passOt (d.val * 32 + r.val) 0 →
    d.val * 32 + r.val ∉ (s.die d.val).care.lates →
    exec (.scrubLate d r) s =
      .next (((s.modCare d.val fun c => { c with lates := c.lates ++ [d.val * 32 + r.val] }).setFlag Fld.CR_STATE_LATE
        (d.val * 32 + r.val) true).mcFault d.val r.val (s.regionCh (d.val * 32 + r.val)) 0x4008)) ∧
  (∀ (d : DieId) (r : RegionId) (k : Nat) (s : State), s.live d.val = true →
    s.inRegion (d.val * 32 + r.val) (s.regionCh (d.val * 32 + r.val)) (s.regionBase (d.val * 32 + r.val) + k) = true →
    (s.health (s.regionCh (d.val * 32 + r.val)) (s.regionBase (d.val * 32 + r.val) + k)).due = false →
    s.getF Fld.CR_REFRESH_AGE_D (d.val * 32 + r.val) ≠ 0 →
    s.getF Fld.CR_REFRESH_AGE_D (d.val * 32 + r.val) * 86400 ≤
      s.ot - (s.health (s.regionCh (d.val * 32 + r.val)) (s.regionBase (d.val * 32 + r.val) + k)).writtenOt →
    exec (.refreshDue d r k) s =
      .next (s.makeDue (d.val * 32 + r.val) (s.regionCh (d.val * 32 + r.val)) (s.regionBase (d.val * 32 + r.val) + k))) ∧
  (∀ (d : DieId) (run : CareRun) (u : CareUnit) (rep : Bool) (s v : State), s.live d.val = true →
    (s.die d.val).care.twinWait = none → s.nextUnit d.val = some (u, rep, v) → v.unitRefusal u = none → v.unitMay u = true →
    v.canHash d.val = true → exec (.careUnit d run) s = .next (v.unitWrite u run)) ∧
  (∀ (d : DieId) (run : CareRun) (u : CareUnit) (rep : Bool) (r : Nat) (s v : State), s.live d.val = true →
    (s.die d.val).care.twinWait = none → s.nextUnit d.val = some (u, rep, v) → v.unitRefusal u = some r →
    exec (.careUnit d run) s = .next ((if r = 5 then v.chFault u.ch 0x1003 else v).unitEnds d.val r)) ∧
  (∀ (d : DieId) (run : CareRun) (u : CareUnit) (s v : State), s.live d.val = true →
    (s.die d.val).care.twinWait = none → s.nextUnit d.val = some (u, false, v) → v.unitRefusal u = none → v.unitMay u = false →
    exec (.careUnit d run) s = .next ((v.modCare d.val fun c => { c with running := some (u, .waiting true) }).mcFault d.val
      (u.region % 32) u.ch 0x4003)) ∧
  (∀ (d : DieId) (run : CareRun) (s : State), (s.die d.val).care.twinWait = none → (s.die d.val).care.running = none →
    (s.die d.val).care.queue = [] → exec (.careUnit d run) s = .next s) ∧
  (∀ (d : DieId) (u : CareUnit) (b : List (List Byte)) (ok : Bool) (s : State), s.live d.val = true → u.ch / 8 = d.val →
    (s.die d.val).care.running = some (u, .written b ok) → (u.twin = true ∨ s.flag Fld.CH_STATUS_BUSY_SHIELD u.ch = false) →
    RunsTo (.careUnitComplete d []) s fun t => (t.die d.val).care.running = none ∧ (t.die d.val).care.journal = none ∧
      t.flag Fld.MC_STATUS_BUSY d.val = false ∧ t.flag Fld.MC_STATUS_JOURNAL_OPEN d.val = false ∧
      t.flag Fld.MC_JOPEN_VALID d.val = false) ∧
  (∀ (d : DieId) (u : CareUnit) (b : List (List Byte)) (ok : Bool) (ws : List Bool) (s : State),
    (s.die d.val).care.running = some (u, .written b ok) → u.twin = false → s.flag Fld.CH_STATUS_BUSY_SHIELD u.ch = true →
    exec (.careUnitComplete d ws) s = .next s)

/-- R182, R193, R196, R197: MC_CMD. A command while one runs is fault 0x400C; RECOVER and REFRESH queue the units of a valid
region's range; TWIN_CHECK reads the twin, once own frames to it may run, and sets TWIN_OK where every block is the tree's
(here with the groups that vouch for the blocks in the digest cache, and with reads and hash jobs that go well); SCRUB_RESTART begins a new pass;
FLUSH writes the records out; an unwritten region is result 4. A care region is written while no unit of it waits or runs. -/
def Obligations.CareCommands : Prop :=
  (∀ (req : Requester) (d : DieId) (v : Word) (ws : List Bool) (s : State), s.DieOpen req d.val → s.flag Fld.MC_CMD_STATUS_BUSY d.val = true →
    exec (.flush req d v ws) s = .next (s.mcFault d.val (Fld.MC_CMD_REGION.of v)
      (s.regionCh (d.val * 32 + Fld.MC_CMD_REGION.of v)) 0x400C)) ∧
  (∀ (req : Requester) (d : DieId) (v : Word) (s : State), s.DieOpen req d.val → s.flag Fld.MC_CMD_STATUS_BUSY d.val = false →
        s.canFlush d.val = true →
    RunsTo (.flush req d v []) s fun t => t.getF Fld.MC_CMD_STATUS_RESULT d.val = 0 ∧
      t.flag Fld.MC_CMD_STATUS_DONE d.val = true ∧ t.getF Fld.MC_STATUS_TALLY d.val = 0 ∧
      (t.die d.val).care.flushOt = s.ot) ∧
  (∀ (req : Requester) (d : DieId) (v : Word) (ws : List Bool) (s : State), s.DieOpen req d.val →
    s.flag Fld.MC_CMD_STATUS_BUSY d.val = false → s.canFlush d.val = false →
    RunsTo (.flush req d v ws) s fun t => t.getF Fld.MC_CMD_STATUS_RESULT d.val = 6 ∧ t.outputs = s.outputs ∧ t.dies = s.dies) ∧
  (∀ (req : Requester) (d : DieId) (v : Word) (s : State), s.DieOpen req d.val → s.flag Fld.MC_CMD_STATUS_BUSY d.val = false →
    s.flag Fld.CR_CFG_VALID (d.val * 32 + Fld.MC_CMD_REGION.of v) = true →
    RunsTo (.scrubRestart req d v) s fun t => t.getF Fld.CR_STATE_CURSOR (d.val * 32 + Fld.MC_CMD_REGION.of v) = 0 ∧
      t.getF Fld.MC_CMD_STATUS_RESULT d.val = 0 ∧ t.flag Fld.MC_CMD_STATUS_DONE d.val = true ∧
      t.getF Fld.MC_CMD_STATUS_REGION d.val = Fld.MC_CMD_REGION.of v ∧ t.sram = s.sram ∧ t.outputs = s.outputs ∧
      ∀ n i, n ≠ .MC_CMD_STATUS → n ≠ .CR_STATE → t.rd n i = s.rd n i) ∧
  (∀ (req : Requester) (d : DieId) (v : Word) (s : State), s.DieOpen req d.val → s.flag Fld.MC_CMD_STATUS_BUSY d.val = false →
    s.flag Fld.CR_CFG_VALID (d.val * 32 + Fld.MC_CMD_REGION.of v) = false →
    RunsTo (.recover req d v) s fun t => t.getF Fld.MC_CMD_STATUS_RESULT d.val = 4 ∧
      exec (.refresh req d v) s = .next t ∧ exec (.scrubRestart req d v) s = .next t ∧ exec (.twinCheck req d v [] []) s = .next t) ∧
  (∀ (req : Requester) (d : DieId) (v : Word) (s : State), s.DieOpen req d.val → s.flag Fld.MC_CMD_STATUS_BUSY d.val = false →
    s.flag Fld.CR_CFG_VALID (d.val * 32 + Fld.MC_CMD_REGION.of v) = true → s.canSeal d.val = true →
    s.careArgs d.val (d.val * 32 + Fld.MC_CMD_REGION.of v) = true →
    exec (.recover req d v) s = .next ((s.setF Fld.MC_CMD_STATUS_REGION d.val (Fld.MC_CMD_REGION.of v)).careQueue d.val
      (d.val * 32 + Fld.MC_CMD_REGION.of v) true (decide (Fld.MC_CMD_TARGET.of v = 1))) ∧
    exec (.refresh req d v) s = .next ((s.setF Fld.MC_CMD_STATUS_REGION d.val (Fld.MC_CMD_REGION.of v)).careQueue d.val
      (d.val * 32 + Fld.MC_CMD_REGION.of v) false (decide (Fld.MC_CMD_TARGET.of v = 1)))) ∧
  (∀ (req : Requester) (d : DieId) (v : Word) (r n : Nat) (blocks : List (List Byte)) (s : State), s.DieOpen req d.val →
    r = d.val * 32 + Fld.MC_CMD_REGION.of v → n = s.regionCh r →
    s.flag Fld.MC_CMD_STATUS_BUSY d.val = false → s.flag Fld.CR_CFG_VALID r = true → s.careArgs d.val r = true →
    s.ownUnknown n (s.ownReadOp n) = false → (s.ch n).own = none → s.ownMay n (!s.flag Fld.CH_TWIN_SEL n) = true →
    s.canHash d.val = true →
    (∀ k p, k < s.getF Fld.MC_ARG1_COUNT d.val → s.witnessed r (s.regionBase r + s.getF Fld.MC_ARG0_FIRST d.val + k) = some p →
      s.leafTrusted d.val p.1 p.2 = true) →
    RunsTo (.twinCheck req d v (blocks.map fun b => { data := b }) []) s fun t =>
      t.getF Fld.MC_CMD_STATUS_RESULT d.val = 0 ∧ t.flag Fld.MC_CMD_STATUS_DONE d.val = true ∧
      (t.flag Fld.CR_STATE_TWIN_OK r = true ↔ ∀ k, k < s.getF Fld.MC_ARG1_COUNT d.val → ∃ p,
        s.witnessed r (s.regionBase r + s.getF Fld.MC_ARG0_FIRST d.val + k) = some p ∧
        s.leafOk d.val p.1 p.2 (sliceB (blocks.getD k []) 0 4096) = true)) ∧
  (∀ (req : Requester) (d : DieId) (v : Word) (r n : Nat) (reads : List OwnRead) (paths : List (List GroupFetch)) (s : State),
    s.DieOpen req d.val → r = d.val * 32 + Fld.MC_CMD_REGION.of v → n = s.regionCh r →
    s.flag Fld.MC_CMD_STATUS_BUSY d.val = false → s.flag Fld.CR_CFG_VALID r = true → s.careArgs d.val r = true →
    s.ownUnknown n (s.ownReadOp n) = false → s.selRefused n (!s.flag Fld.CH_TWIN_SEL n) = true →
    RunsTo (.twinCheck req d v reads paths) s fun t => t.getF Fld.MC_CMD_STATUS_RESULT d.val = 0 ∧
      t.flag Fld.MC_CMD_STATUS_DONE d.val = true ∧ t.flag Fld.CR_STATE_TWIN_OK r = false ∧ t.outputs = s.outputs) ∧
  (∀ (req : Requester) (d : DieId) (r : RegionId) (g : CrReg) (v : Word) (s : State), s.DieOpen req d.val →
    (∃ u ∈ (s.die d.val).care.queue, u.region = d.val * 32 + r.val) →
    exec (.careRegionWrite req d r g v) s = .next (s.mcFault d.val r.val (s.regionCh (d.val * 32 + r.val)) 0x400C)) ∧
  (∀ (req : Requester) (d : DieId) (r : RegionId) (g : CrReg) (v : Word) (s u : State), s.DieOpen req d.val →
    (s.flag Fld.MC_STATUS_BUSY d.val = false ∨ s.getF Fld.MC_STATUS_BUSY_REGION d.val ≠ r.val) →
    (∀ u ∈ (s.die d.val).care.queue, u.region ≠ d.val * 32 + r.val) →
    u = s.swWrite (crRegName g) (d.val * 32 + r.val) (if g = .gaddr then v &&& ~~~ 0xFFF#32 else v) →
    (s.flag Fld.CR_CFG_VALID (d.val * 32 + r.val) = true ∨ u.flag Fld.CR_CFG_VALID (d.val * 32 + r.val) = false) →
    exec (.careRegionWrite req d r g v) s =
            .next ((u.makeRecords d.val).setFlag Fld.CR_STATE_FAILED_OPEN (d.val * 32 + r.val) ((s.die d.val).care.health.any fun p =>
        p.2.failed && u.inRegion (d.val * 32 + r.val) (p.1 / 2 ^ 20) (p.1 % 2 ^ 20)))) ∧
  (∀ (req : Requester) (d : DieId) (r : RegionId) (v : Word) (s : State), s.DieOpen req d.val →
    (s.flag Fld.MC_STATUS_BUSY d.val = false ∨ s.getF Fld.MC_STATUS_BUSY_REGION d.val ≠ r.val) →
    (∀ u ∈ (s.die d.val).care.queue, u.region ≠ d.val * 32 + r.val) → s.flag Fld.CR_CFG_VALID (d.val * 32 + r.val) = false →
    Fld.CR_CFG_VALID.of v = 1 →
    RunsTo (.careRegionWrite req d r .cfg v) s fun t => t.getF Fld.CR_STATE_CURSOR (d.val * 32 + r.val) = 0 ∧
      t.rd .CR_CFG (d.val * 32 + r.val) = RegName.CR_CFG.written (s.rd .CR_CFG (d.val * 32 + r.val)) v ∧
      Tbl.get (t.die d.val).care.passOt (d.val * 32 + r.val) 0 = s.ot ∧ t.sram = s.sram ∧ t.outputs = s.outputs ∧
      ∀ n i, n ≠ .CR_CFG → n ≠ .CR_STATE → t.rd n i = s.rd n i)

/-! ## Faults and the fabric (Chapter 6) -/

/-- R207, R208: a report whose DSEQ is the next one is placed: it merges into the entry of its code and SOURCE where there is
one (COUNT one more, LAST the report's time) and makes a new last entry otherwise; either way DSEQ moves on and the fault
interrupt is raised. A report that comes too early is held and changes no entry. -/
def Obligations.FaultReportsArriveInOrder : Prop :=
  (∀ (d : DieId) (q : Nat) (r : Report) (s : State), s.platLive = true → s.reached d.val = true →
    (s.queue d.val).unreach = false → ((s.die d.val).inflight.find? fun r => decide (r.dseq = q)) = some r →
    r.dseq = (s.queue d.val).next → (s.queue d.val).held = [] → (s.queue d.val).tokens ≠ 0 → (s.queue d.val).storm = false →
    ((s.queue d.val).entries.any fun e => e.is r.code r.source) = true →
    RunsTo (.faultReport d q) s fun t =>
      (t.queue d.val).entries = ((s.queue d.val).entries.map fun e =>
        if e.is r.code r.source then { e with count := min (e.count + 1) 0xFFFF, last := r.us } else e) ∧
      (t.queue d.val).next = (r.dseq + 1) % 2 ^ 16 ∧ (t.queue d.val).tokens = (s.queue d.val).tokens - 1 ∧
      (t.die d.val).inflight = ((s.die d.val).inflight.filter fun y => decide (y.dseq ≠ r.dseq)) ∧
      t.outputs = s.outputs ++ [.faultIrq d.val] ∧ t.sram = s.sram ∧
      ∀ n i, (n ≠ .FQ_TOTAL ∨ i ≠ d.val) → t.rd n i = s.rd n i) ∧
  (∀ (d : DieId) (q : Nat) (r : Report) (s : State), s.platLive = true → s.reached d.val = true →
    (s.queue d.val).unreach = false → ((s.die d.val).inflight.find? fun r => decide (r.dseq = q)) = some r →
    r.dseq = (s.queue d.val).next → (s.queue d.val).held = [] → (s.queue d.val).tokens ≠ 0 → (s.queue d.val).storm = false →
    ((s.queue d.val).entries.any fun e => e.is r.code r.source) = false →
    ((s.queue d.val).entries.filter fun e => decide (e.code ≠ 0x5301) && decide (e.code ≠ 0x5302)).length < 30 →
    RunsTo (.faultReport d q) s fun t =>
      (t.queue d.val).entries = (s.queue d.val).entries ++
        [{ code := r.code, source := r.source, dseq := r.dseq, count := 1, first := r.us, last := r.us }] ∧
      (t.queue d.val).next = (r.dseq + 1) % 2 ^ 16 ∧ Output.faultIrq d.val ∈ t.outputs) ∧
  (∀ (d : DieId) (q : Nat) (r : Report) (s : State), s.platLive = true → s.reached d.val = true →
    (s.queue d.val).unreach = false → ((s.die d.val).inflight.find? fun r => decide (r.dseq = q)) = some r →
    r.dseq ≠ (s.queue d.val).next →
    RunsTo (.faultReport d q) s fun t => (t.queue d.val).entries = (s.queue d.val).entries ∧
      (t.queue d.val).held = (s.queue d.val).held ++ [r] ∧ t.regs = s.regs ∧ t.outputs = s.outputs)

/-- R209, R215: a read of FQ_HEAD0 captures the first entry's four words, zeros where there is none, and answers the first; a
pop removes the first entry, but where a report merged into it since the capture it sets POP_STALE and removes nothing; a storm
ends once the tokens are full again. -/
def Obligations.FaultQueueHead : Prop :=
  (∀ (req : Requester) (d : DieId) (e : FaultEntry) (l : List FaultEntry) (s : State), s.PlatOpen req →
    s.present d.val = true → (s.queue d.val).entries = e :: l →
    RunsTo (.fqHeadRead req d false) s fun t =>
      t.rd .FQ_HEAD0 d.val = BitVec.ofNat 32 (e.code + e.source * 2 ^ 16) ∧
      t.rd .FQ_HEAD1 d.val = BitVec.ofNat 32 (e.dseq + e.count * 2 ^ 16) ∧
      t.rd .FQ_HEAD2 d.val = BitVec.ofNat 32 e.first.toNat ∧ t.rd .FQ_HEAD3 d.val = BitVec.ofNat 32 e.last.toNat ∧
      t.outputs = s.outputs ++ [.readData (BitVec.ofNat 32 (e.code + e.source * 2 ^ 16))] ∧
      (t.queue d.val).entries = e :: l ∧ (t.queue d.val).merged = [] ∧ t.sram = s.sram) ∧
  (∀ (req : Requester) (d : DieId) (s : State), s.PlatOpen req → s.present d.val = true → (s.queue d.val).entries = [] →
    RunsTo (.fqHeadRead req d false) s fun t => t.outputs = s.outputs ++ [.readData 0] ∧ t.rd .FQ_HEAD3 d.val = 0) ∧
  (∀ (req : Requester) (d : DieId) (v : Word) (e : FaultEntry) (l : List FaultEntry) (s : State), s.PlatOpen req →
    s.present d.val = true → Fld.FQ_POP_POP.of v = 1 → (s.queue d.val).entries = e :: l →
    (e.code, e.source) ∉ (s.queue d.val).merged →
    RunsTo (.fqPop req d v) s fun t => (t.queue d.val).entries = l ∧ (t.queue d.val).next = (s.queue d.val).next ∧
      t.flag Fld.FQ_STATUS_POP_STALE d.val = s.flag Fld.FQ_STATUS_POP_STALE d.val ∧ t.outputs = s.outputs) ∧
  (∀ (req : Requester) (d : DieId) (v : Word) (e : FaultEntry) (l : List FaultEntry) (s : State), s.PlatOpen req →
    s.present d.val = true → Fld.FQ_POP_POP.of v = 1 → (s.queue d.val).entries = e :: l →
    (e.code, e.source) ∈ (s.queue d.val).merged →
    exec (.fqPop req d v) s = .next (s.setFlag Fld.FQ_STATUS_POP_STALE d.val true)) ∧
  (∀ (d : DieId) (s : State), s.platLive = true → (s.queue d.val).storm = true → 1000 ≤ (s.queue d.val).tokens →
    RunsTo (.stormEnd d) s fun t => (t.queue d.val).storm = false ∧ (t.queue d.val).stormHeld = false ∧
      (t.queue d.val).irqUs = none ∧ (t.queue d.val).tokens = (s.queue d.val).tokens ∧
      (t.queue d.val).entries.length = (s.queue d.val).entries.length ∧ t.sram = s.sram)

/-- R14, R206, R225: a report sets the register bit of its code at the same moment and waits on its die under the die's DSEQ and
the time of FAULT_US; the die's next DSEQ is one more, modulo 2^16. Stated over the shared operation that every command's faults
go through. -/
def Obligations.ReportSetsItsBitAndWaits : Prop :=
  ∀ (d code source : Nat) (n : RegName) (i b : Nat) (s : State), faultBit d code source = some (n, i, b) → n.counts = false →
    (s.report d code source).rd n i = s.rd n i ||| BitVec.ofNat 32 (2 ^ b) ∧
    ((s.report d code source).die d).dseq = ((s.die d).dseq + 1) % 2 ^ 16 ∧
    (∃ u : Word, ((s.report d code source).die d).inflight =
      (s.die d).inflight ++ [{ code := code, source := source, dseq := (s.die d).dseq, us := u }]) ∧
    (∀ m j, m.counts = false → (m ≠ n ∨ j ≠ i) → (s.report d code source).rd m j = s.rd m j) ∧
    s.SameSram (s.report d code source)

/-- R23, R202, R207, R212, R409: a die that cannot be reached any more is UNREACHABLE at die 0: its waiting reports are lost,
its queue shows UNREACH and the loss is fault 0x5003; one that is reached again shows it in RC_DIE_STATE. A hop's failed check is
0x5001 and counts for its run; a hop on which a run has failed three times goes down, clears its bit on both dies and is 0x5209 and
0x5002. R218, R219, R221, R222: the hash pool.
An advert holds at most the die's good lanes; a job that times out is re-placed under 0x5005; a fence that has reached its executor drops
the owner's waiting guests of older generations; it is acknowledged once none that had started is left, which ends a stall; a lane that fails its known-answer test is out,
one that passes and is not out counts as good. -/
def Obligations.FabricAndHashPool : Prop :=
  (∀ (d : DieId) (s : State), s.platLive = true → d.val ≠ 0 → s.reached d.val = true →
        RunsTo (.dieUnreachable d) s fun t => (t.die d.val).reachable = false ∧ (t.queue d.val).unreach = true ∧
      bitOf (t.rd .CF_FAULT 0).toNat 2 = true ∧
      (t.queue d.val).held = [] ∧ Output.floated (.die 1) d.val ∈ t.outputs ∧
      bitsOf (t.rd .RC_DIE_STATE 0).toNat (2 * d.val) 2 = 3) ∧
  (∀ (d : DieId) (s : State), s.reached d.val = false → exec (.dieUnreachable d) s = .next s) ∧
  (∀ (d : DieId) (s : State), s.platLive = true → s.present d.val = true → (s.die d.val).reachable = false →
    (s.die d.val).inReset = false →
    RunsTo (.dieReachable d) s fun t => (t.die d.val).reachable = true ∧
      bitsOf (t.rd .RC_DIE_STATE 0).toNat (2 * d.val) 2 = 2) ∧
  (∀ (d : DieId) (s : State), s.live d.val = true → s.flag Fld.FB_STATUS_UP_OK d.val = true →
    3 ≤ (Tbl.get (s.die d.val).hopRuns 0 (0, 0)).2 →
    exec (.hopDown d false) s =
      .next (((((s.modDie d.val fun x => { x with hopRuns := Tbl.set x.hopRuns 0 (0, 0) (0, 0) }).setFlag
        Fld.FB_STATUS_UP_OK d.val false).setFlag Fld.FB_STATUS_DN_OK ((d.val + 1) % s.nDies) false).report
        d.val 0x5209 d.val).report d.val 0x5002 0)) ∧
  (∀ (d : DieId) (s : State), s.live d.val = true → s.flag Fld.FB_STATUS_DN_OK d.val = true →
    3 ≤ (Tbl.get (s.die d.val).hopRuns 1 (0, 0)).2 →
    exec (.hopDown d true) s =
      .next (((((s.modDie d.val fun x => { x with hopRuns := Tbl.set x.hopRuns 1 (0, 0) (0, 0) }).setFlag
        Fld.FB_STATUS_DN_OK d.val false).setFlag Fld.FB_STATUS_UP_OK ((d.val + s.nDies - 1) % s.nDies) false).report
        d.val 0x5209 d.val).report d.val 0x5002 1)) ∧
  (∀ (d : DieId) (w : Bool) (run : Nat) (s : State), s.live d.val = true →
    s.flag (if w then Fld.FB_STATUS_DN_OK else Fld.FB_STATUS_UP_OK) d.val = true →
    ((Tbl.get (s.die d.val).hopRuns (b2n w) (0, 0)).1 ≠ run ∨ (Tbl.get (s.die d.val).hopRuns (b2n w) (0, 0)).2 < 3) →
    RunsTo (.hopCheck d w run) s fun t =>
      Tbl.get (t.die d.val).hopRuns (b2n w) (0, 0) = (run,
        if (Tbl.get (s.die d.val).hopRuns (b2n w) (0, 0)).1 = run then (Tbl.get (s.die d.val).hopRuns (b2n w) (0, 0)).2 + 1 else 1) ∧
      t.rd .CF_FAULT d.val = s.rd .CF_FAULT d.val ||| 1 ∧ t.sram = s.sram ∧ t.outputs = s.outputs ∧
      ∀ n i, n.counts = false → (n ≠ .CF_FAULT ∨ i ≠ d.val) → t.rd n i = s.rd n i) ∧
  (∀ (d : DieId) (k : Nat) (s : State), s.reached d.val = true →
    exec (.capacityAdvert d k) s = .next (s.modDie d.val fun x => { x with
      advert := min k ((List.range 4).filter fun j => bitOf (s.getF Fld.HP_STATUS_LANES_OK d.val) j).length })) ∧
  (∀ (ch : ChanId) (g : Nat) (e : DieId) (j : Job) (s : State), s.chLive ch.val = true →
    s.jobAt ch.val g e.val = some j → s.getF Fld.HP_CTRL_JOB_TIMEOUT (ch.val / 8) ≤ s.usSince j.since →
    exec (.jobTimeout ch g e) s = .next ((s.report (ch.val / 8) 0x5005 e.val).replaceJob j)) ∧
  (∀ (ch : ChanId) (g : Nat) (e : DieId) (s : State),
    (∀ j, s.jobAt ch.val g e.val = some j → s.usSince j.since < s.getF Fld.HP_CTRL_JOB_TIMEOUT (ch.val / 8)) →
    exec (.jobTimeout ch g e) s = .next s) ∧
  (∀ (e o : DieId) (k : Nat) (s : State), s.reached e.val = true →
    (∃ f ∈ (s.die o.val).fences, f.executor = e.val ∧ f.gen = k ∧ f.got = false) →
    RunsTo (.fence e o k) s fun t => t.regs = s.regs ∧ t.outputs = s.outputs ∧
      (t.die e.val).guests = ((s.die e.val).guests.filter fun g =>
        decide (g.owner ≠ o.val) || g.started.isSome || !genOlder g.gen k) ∧
      ∃ f ∈ (t.die o.val).fences, f.executor = e.val ∧ f.gen = k ∧ f.got = true) ∧
  (∀ (o e : DieId) (f : Fence) (s : State), s.reached o.val = true →
    ((s.die o.val).fences.find? fun f => decide (f.executor = e.val) && f.got) = some f →
    (∀ g ∈ (s.die e.val).guests, g.owner = o.val → g.started.isSome = true → genOlder g.gen f.gen = false) →
    s.flag Fld.HP_STATUS_FENCE_STALL o.val = false →
    exec (.fenceAck o e) s = .next (s.modDie o.val fun x =>
      { x with fences := x.fences.eraseP fun f => decide (f.executor = e.val) && f.got })) ∧
  (∀ (o e : DieId) (f : Fence) (s : State), s.reached o.val = true → (s.die o.val).fences = [f] → f.executor = e.val →
    f.got = true → (∀ g ∈ (s.die e.val).guests, g.owner = o.val → g.started.isSome = true → genOlder g.gen f.gen = false) →
    RunsTo (.fenceAck o e) s fun t => (t.die o.val).fences = [] ∧ t.flag Fld.HP_STATUS_FENCE_STALL o.val = false) ∧
  (∀ (o e : DieId) (s : State), (∀ f ∈ (s.die o.val).fences, f.executor = e.val → f.got = false) →
    exec (.fenceAck o e) s = .next s) ∧
  (∀ (d : DieId) (l : Fin 4) (s : State), s.live d.val = true → l.val ∉ (s.die d.val).lanesOut →
    bitOf (s.getF Fld.HP_STATUS_LANES_OK d.val) l.val = false →
    exec (.laneKat d l true) s =
      .next (s.setF Fld.HP_STATUS_LANES_OK d.val (s.getF Fld.HP_STATUS_LANES_OK d.val + 2 ^ l.val))) ∧
  (∀ (d : DieId) (l : Fin 4) (s : State), s.live d.val = true → exec (.laneKat d l false) s = .next (s.laneOut d.val l.val))

/-! ## Reset, clocks and freeze (Chapter 7) -/

/-- R228, R240, R456: a power-on reset leaves every register of the part at its reset value (RC_DIE_STATE apart), its time at 0,
its power cycles at 1, no byte of core SRAM written, and every domain held; a supply that fails is written down, and on a
running part it is a deferred part reset with cause BROWNOUT; a supply that is good again is taken off. R228 to R230, R235,
R241, R411: the sources of a reset on a running part. RST_N, a watchdog that takes the part and the guard ask for a part reset;
PERST_N, a link reset and the physical function's FLR for a reset of HIF; RC_DIE_RESET for the dies it names, or for the part
where a die holds or has asked for a quoin; other watchdogs reset their core under 0xA005, and restart (assumptions/147). A virtual function's FLR resets that
function alone. -/
def Obligations.ResetSources : Prop :=
  (∀ (v : List Nat) (s : State), RunsTo (.powerOnReset v) s fun t =>
    (∀ n i, n ≠ .RC_DIE_STATE → (n ≠ .RC_CLK ∨ s.seq.refclkLost = false) → t.rd n i = Reg.resetOn s.variant ⟨n, i⟩) ∧ t.ot = 0 ∧ t.pcc = 1 ∧ t.timeDue = true ∧
    t.sram = [] ∧ t.chans = [] ∧ t.queues = [] ∧ t.keys = Keys.reset ∧ t.guard = Guard.reset ∧ t.cseq = 0 ∧
    t.seq.phase = .hold ∧ t.seq.part = true ∧ t.seq.platReset = true ∧ t.seq.hifReset = true ∧ t.seq.rlvReset = true ∧
    t.seq.frozen = false ∧ t.seq.vio33 = v ∧ t.seq.aonHeld = s.seq.refclkLost ∧ t.vault.directory = s.vault.directory ∧ t.pending = s.pending ∧
    ∀ d, d < s.nDies → (t.die d).inReset = true) ∧
  (∀ (rc : Fin 501) (s : State), exec (.brownOut .vddaon rc) s = .next ((s.modSeq fun q =>
    { q with badSupplies := if q.badSupplies.any (fun y => decide (y = .vddaon)) then q.badSupplies else q.badSupplies ++ [.vddaon] }).powerOn
      s.seq.vio33 (if s.seq.badSupplies.any (fun y => decide (y = .vddaon)) then s.seq.badSupplies else s.seq.badSupplies ++ [.vddaon]))) ∧
  (∀ (x : Supply) (rc : Fin 501) (s : State), s.monitored x = true → x ≠ .vddaon → s.seq.frozen = false →
    s.seq.phase = .run →
    RunsTo (.brownOut x rc) s fun t => t = { s with seq := t.seq } ∧ x ∈ t.seq.badSupplies ∧ t.seq.part = true ∧
      t.seq.phase = .deferred ∧ t.seq.causes = s.seq.causes ||| 2 ∧ t.seq.counted = true ∧
      t.seq.vfuseOut = (s.seq.vfuseOut || decide (x = .vfuse))) ∧
    (∀ (x : Supply) (s : State), RunsTo (.supplyGood x) s fun t => t = { s with seq := t.seq } ∧
    t.seq.badSupplies = (s.seq.badSupplies.filter fun y => decide (y ≠ x)) ∧
    t.seq.vfuseOut = (s.seq.vfuseOut && decide (x ≠ .vfuse)) ∧
    t.seq.aonHeld = (s.seq.aonHeld && (s.seq.refclkLost || decide (.vddaon ∈ t.seq.badSupplies)))) ∧
  (∀ (s : State), s.seq.rstN = false → s.seq.aonHeld = false → s.seq.frozen = false → s.seq.phase = .run →
    RunsTo .rstNAssert s fun t => t.seq.rstN = true ∧ t.seq.part = true ∧ t.seq.phase = .deferred ∧
      ResetSource.rstN ∈ t.seq.levels ∧ t.seq.causes = s.seq.causes ||| 4 ∧ t.sram = s.sram ∧ t.outputs = s.outputs ∧
      ∀ n i, n ≠ .RC_DEFER → t.rd n i = s.rd n i) ∧
  (∀ (s : State), s.seq.perstN = false → s.seq.frozen = false → s.seq.phase = .run → s.seq.part = false → s.seq.dies = [] →
    RunsTo .pciePerst s fun t => t.seq.perstN = true ∧ t.seq.hif = true ∧ t.seq.part = false ∧ t.seq.phase = .deferred ∧
      t.seq.causes = s.seq.causes ||| 2 ^ 11 ∧ t = { s with seq := t.seq }) ∧
  (∀ (s : State), s.hifLive = true → s.seq.frozen = false → s.seq.phase = .run → s.seq.part = false → s.seq.dies = [] →
    RunsTo .pcieLinkReset s fun t => t.seq.hif = true ∧ t.seq.part = false ∧ t.seq.phase = .deferred ∧
      t = { s with seq := t.seq } ∧ (s.fnLive 0 = true → exec (.flr 0) s = .next t)) ∧
  (∀ (f : FnId) (s : State), s.hifLive = true → s.fnLive f.val = true → f.val ≠ 0 →
    RunsTo (.flr f) s fun t => t.seq = s.seq ∧ t.rd .FN_ACTRL f.val = 0 ∧ t.rd .FN_ASIZE f.val = 0 ∧
      (∀ p ∈ t.hif.enabled, p / 128 ≠ f.val) ∧ t.sram = s.sram ∧ t.outputs = s.outputs ∧
      ∀ n i, i ≠ f.val → t.rd n i = s.rd n i) ∧
  (∀ (p : Bool) (s : State), exec (.levelSourceReleased p) s = .next (s.modSeq fun q =>
        { q with
          levels := q.levels.filter fun x => decide (x ≠ if p then .perst else .rstN),
          next := q.next.map fun y => { y with levels := y.levels.filter fun x => decide (x ≠ if p then .perst else .rstN) },
          rstN := q.rstN && p, perstN := q.perstN && !p })) ∧
  (∀ (req : Requester) (v : Word) (d : DieId) (s : State), s.PlatOpen req → s.seq.phase = .run → bitOf v.toNat d.val = true →
    s.present d.val = true →
    RunsTo (.rcDieResetWrite req v) s fun t => t.seq.phase = .deferred ∧
      (s.dieConverts d.val = true → t.seq.part = true) ∧ (s.dieConverts d.val = false → d.val ∈ t.seq.dies) ∧
      t.sram = s.sram ∧ t.dies = s.dies) ∧
  (∀ (d : DieId) (k : CoreId) (s : State), s.platLive = true → s.live d.val = true →
    s.flag Fld.SN_WDT_RUNNING (4 * d.val + k.val) = true → ¬ (d.val = 0 ∧ k.val = 0) →
        bitsOf (s.rd .RC_WDT_ESC 0).toNat (2 * d.val) 2 = 0 →
    1000 * (s.core d.val k.val).period ≤ s.usSince (s.core d.val k.val).kickUs →
    exec (.watchdogExpire d k) s =
      .next (((s.coreReset d.val k.val).modCore d.val k.val fun c => { c with kickUs := s.us }).report 0 0xA005
        (d.val + 8 * k.val))) ∧
  (∀ (s : State), s.platLive = true → s.live 0 = true → s.flag Fld.SN_WDT_RUNNING 0 = true → s.seq.phase = .run →
    s.romKicks = false → 1000 * (s.core 0 0).period ≤ s.usSince (s.core 0 0).kickUs →
    RunsTo (.watchdogExpire 0 0) s fun t => t.seq.part = true ∧ t.seq.phase = .deferred ∧ t.seq.wdt = s.seq.wdt ++ [0] ∧
      t.seq.causes = s.seq.causes ||| 8) ∧
  (∀ (s : State), s.platLive = true → s.guard.resetDue = true → s.seq.phase = .run →
    ((s.guard.burn = none ∧ s.folio.staged = []) ∨ 2000 ≤ s.usSince s.guard.resetUs) →
    RunsTo .guardReset s fun t => t.seq.part = true ∧ t.seq.phase = .deferred ∧ t.guard.resetDue = false ∧
      t.seq.causes = s.seq.causes ||| 64)

/-- R231, R236, R238 to R240, R242: a reset that takes hold. A part reset waits for a fuse pulse and for the frames of the home and
vault ports; with none it holds every domain at once, returns every register outside AON to its reset value and forgets core SRAM
and the key stores, while the vault and the folio's place stay; behind a deferral RC_DEFER.LENGTH shows how long it waited, and at
the limit the frames end and it takes hold with LENGTH = 500 and CUT; a reset of HIF alone returns HIF's registers and no other
domain's; a further source in a held sequence restarts it; the loss of REFCLK holds the part, and REFCLK good again asks for the
reset with cause CLKLOSS. -/
def Obligations.ResetsTakeHold : Prop :=
  (∀ (rc : Fin 501) (s : State), s.seq.phase = .deferred → s.seq.frozen = false → s.seq.wait = false → s.seq.part = true →
    s.fuses.run = none → s.portsBusy = false →
    RunsTo (.resetTakesHold rc) s fun t => t.seq.phase = .hold ∧ t.seq.platReset = true ∧ t.seq.hifReset = true ∧
      t.seq.rlvReset = true ∧ t.seq.causes = 0 ∧ t.sram = [] ∧ t.chans = [] ∧ t.keys.nonce = none ∧ t.queues = [] ∧
      (∀ d, d < t.nDies → (t.die d).inReset = true) ∧
      (∀ n i, Reg.outlasts ⟨n, i⟩ = false → n ≠ .GD_STATUS → n ≠ .RC_DIE_STATE → t.rd n i = Reg.resetOn t.variant ⟨n, i⟩)) ∧
  (∀ (rc : Fin 501) (s : State), s.seq.phase = .deferred → s.seq.frozen = false → s.seq.wait = false → s.seq.part = true →
    s.fuses.run = none → s.portsBusy = false → s.seq.refclkLost = false → (∀ n, (s.ch n).frame = none) →
    RunsTo (.resetTakesHold rc) s fun t => t.vault = s.vault ∧ t.folio.next = s.folio.next ∧ t.ot = s.ot ∧ t.pcc = s.pcc ∧
      t.rd .RC_CAUSE 0 = s.rd .RC_CAUSE 0 ||| BitVec.ofNat 32 s.seq.causes ∧
      t.flag Fld.RC_DEFER_FUSE 0 = false ∧ t.flag Fld.RC_DEFER_FLASH 0 = false ∧
      (∀ n i, Reg.outlasts ⟨n, i⟩ = true → n ≠ .RC_CAUSE → n ≠ .RC_DEFER → n ≠ .RC_DIE_STATE → n ≠ .GD_STATUS →
        t.rd n i = s.rd n i)) ∧
  (∀ (rc : Fin 501) (s : State), s.seq.phase = .deferred → s.seq.frozen = false → s.seq.wait = false → s.seq.part = true →
    bitOf s.seq.causes 1 = false → bitOf s.seq.causes 7 = false → bitOf s.seq.causes 8 = false →
    (s.fuses.run.isSome = true ∨ s.portsBusy = true) →
    RunsTo (.resetTakesHold rc) s fun t => t.seq.phase = .deferred ∧ t.seq.wait = true ∧ t.seq.platReset = s.seq.platReset ∧
      t.flag Fld.RC_DEFER_FUSE 0 = s.fuses.run.isSome ∧ t.flag Fld.RC_DEFER_FLASH 0 = s.portsBusy ∧ t.sram = s.sram) ∧
  (∀ (rc : Fin 501) (s : State), s.seq.phase = .deferred → s.seq.frozen = false → s.seq.wait = true → s.seq.part = true →
    s.pulseNow = false → s.portsBusy = false →
    RunsTo (.resetTakesHold rc) s fun t => t.seq.phase = .hold ∧ t.seq.platReset = true ∧ t.sram = [] ∧
      t.getF Fld.RC_DEFER_LENGTH 0 = rc.val) ∧
  (∀ (rc : Fin 501) (s : State), s.seq.phase = .deferred → s.seq.frozen = false → s.seq.wait = true →
    (s.pulseNow = true ∨ s.portsBusy = true) → exec (.resetTakesHold rc) s = .next s) ∧
  (∀ (rc : Fin 501) (s : State), s.seq.phase = .deferred → s.seq.frozen = false → s.seq.wait = false → s.seq.part = false →
    s.seq.dies = [] → s.seq.hif = true → s.seq.next = none →
    RunsTo (.resetTakesHold rc) s fun t => t.seq.phase = .hold ∧ t.seq.hifReset = true ∧ t.seq.platReset = s.seq.platReset ∧
      t.hif = { Hif.reset with nextSerial := s.hif.nextSerial } ∧ t.sram = s.sram ∧ t.dies = s.dies ∧ t.chans = s.chans ∧
      t.getF Fld.RC_COUNT_HIF 0 = min (s.getF Fld.RC_COUNT_HIF 0 + 1) 0xFFFF ∧
      (∀ n i, n.dom = Dom.hif → t.rd n i = Reg.resetOn s.variant ⟨n, i⟩)) ∧
  (∀ (s : State), s.seq.phase = .deferred → s.seq.frozen = false → s.seq.wait = true → s.pulseNow = false → s.seq.part = true →
    RunsTo .deferralLimit s fun t => t.seq.phase = .hold ∧ t.getF Fld.RC_DEFER_LENGTH 0 = 500 ∧
      t.flag Fld.RC_DEFER_CUT 0 = true ∧ t.seq.cut = true ∧ t.seq.platReset = true ∧ t.sram = []) ∧
  (∀ (rc : Fin 501) (s : State), s.seq.phase ≠ .deferred → s.seq.next = none →
    exec (.resetTakesHold rc) s = .next s ∧ exec .deferralLimit s = .next s) ∧
  (∀ (rc : Fin 501) (s : State), s.seq.phase = .hold → s.seq.frozen = false → s.fuses.run = none → s.portsBusy = false →
    s.seq.next = none →
    RunsTo (.resetMerge .mailboxPart rc) s fun t => t.seq.phase = .hold ∧ t.seq.part = true ∧ t.seq.platReset = true ∧
      bitOf (t.rd .RC_CAUSE 0).toNat 4 = true) ∧
  (∀ (rc : Fin 501) (s : State), s.seq.phase = .run → exec (.resetMerge .mailboxPart rc) s = .next s) ∧
  (∀ (rc : Fin 501) (s : State), s.seq.refclkLost = false → s.seq.aonHeld = false → s.seq.frozen = false →
    RunsTo (.refclkLoss rc) s fun t => t.seq.refclkLost = true ∧ t.flag Fld.RC_CLK_REFCLK_OK 0 = false ∧ t.seq.phase = .hold ∧
      t.seq.platReset = true ∧ t.sram = []) ∧
  (∀ (s : State), s.seq.refclkLost = true → s.seq.aonHeld = false → s.seq.frozen = false → s.seq.phase = .hold →
    RunsTo .refclkGood s fun t => t.seq.refclkLost = false ∧ t.seq.clk = true ∧ t.seq.part = true ∧ t.seq.phase = .hold ∧
      bitOf (t.rd .RC_CAUSE 0).toNat 7 = true)

/-- R231 to R234: the release of a held part, row by row of Table 7.3: each row runs at its count only, and moves the sequence
to the next one; the dies release in ascending order, HIF behind them and RLV behind HIF. A sequence that brings dies back reports
its faults at count 3,000 too, and does not start the sentry core. -/
def Obligations.ReleaseSequence : Prop :=
  (∀ (s : State), s.seq.phase = .hold → s.seq.frozen = false → s.seq.levels = [] → s.seq.badSupplies = [] →
    s.seq.refclkLost = false → exec .holdEnd s = .next (s.modSeq fun q => { q with phase := .rel 25 })) ∧
  (∀ (s : State), s.seq.phase = .hold → (s.seq.levels ≠ [] ∨ s.seq.badSupplies ≠ []) → exec .holdEnd s = .next s) ∧
  (∀ (d : DieId) (s : State), s.seq.phase = .rel 25 → s.seq.frozen = false → d.val ∈ s.scopeDies →
    exec (.pllRetry [d]) s = .next (((s.setFlag Fld.RC_CAUSE_PLL_RETRY 0 true).modSeq fun q => { q with pll := true }).setF
      { reg := .RC_CLK, lo := d.val, width := 1 } 0 0)) ∧
  (∀ (s : State), s.seq.phase = .rel 25 → s.seq.frozen = false → s.seq.part = true →
    RunsTo .releaseFuse s fun t => t.seq.phase = .rel 1300 ∧ t.seq.platReset = false ∧ t.seq.hifReset = s.seq.hifReset) ∧
  (∀ (s : State), s.seq.phase = .rel 1300 → s.seq.frozen = false →
    RunsTo .releaseFabric s fun t => t.seq.phase = .rel 2600 ∧ t.dies = s.dies ∧ t.sram = s.sram ∧
      (∀ d ∈ s.scopeDies, t.flag Fld.FB_STATUS_UP_OK d = true ∧ t.flag Fld.FB_STATUS_DN_OK d = true) ∧
      ∀ n i, n ≠ .FB_STATUS → t.rd n i = s.rd n i) ∧
  (∀ (l : List DieId) (d : DieId) (s : State), s.seq.phase = .rel 2600 → s.seq.frozen = false → d ∈ l → d.val ≠ 0 →
    d.val ∈ s.scopeDies →
    RunsTo (.trainingDeadline l) s fun t => t.seq.phase = .rel 2850 ∧ d.val ∈ t.seq.untrained ∧
      (t.die d.val).reachable = false ∧ (t.queue d.val).unreach = true ∧
      bitsOf (t.rd .RC_DIE_STATE 0).toNat (2 * d.val) 2 = 3) ∧
  (∀ (s : State), s.seq.phase = .rel 2600 → s.seq.frozen = false →
    RunsTo (.trainingDeadline []) s fun t => t.seq.phase = .rel 2850 ∧ t.seq.untrained = [] ∧ t.dies = s.dies ∧ t.regs = s.regs) ∧
  (∀ (b : List (DieId × Fin 4)) (l : List DieId) (d : DieId) (s : State), s.seq.phase = .rel 2850 → s.seq.frozen = false →
    d ∈ l → d.val ∈ s.scopeDies → d.val ∉ s.seq.untrained →
    RunsTo (.releaseHashCrypto b l) s fun t => t.seq.phase = .rel 2900 ∧ d.val ∈ t.keys.bad) ∧
    (∀ (s : State), s.seq.phase = .rel 2900 → s.seq.frozen = false → s.seq.part = true → s.seq.next = none →
    RunsTo .releaseSentry s fun t => (t.core 0 0).running = true ∧ t.seq.cut = false ∧ t.seq.pll = false ∧
      t.seq.clk = false ∧ t.seq.wdt = [] ∧
      t.getF Fld.RC_COUNT_PART 0 = (if s.seq.counted then min (s.getF Fld.RC_COUNT_PART 0 + 1) 0xFFFF
                else s.getF Fld.RC_COUNT_PART 0)) ∧
  (∀ (s : State), s.seq.phase = .rel 2900 → s.seq.frozen = false → s.seq.part = false → s.seq.pll = true →
    RunsTo .releaseSentry s fun t => t.core 0 0 = s.core 0 0 ∧ t.seq.pll = false ∧ bitOf (t.rd .RC_FAULT 0).toNat 2 = true ∧
      t.getF Fld.RC_COUNT_PART 0 = s.getF Fld.RC_COUNT_PART 0) ∧
  (∀ (d : DieId) (s : State), d.val ∈ s.scopeDies → (s.die d.val).inReset = true → d.val ∉ s.seq.untrained →
        s.pastRow 3000 = true → s.diesBefore d.val = true →
    RunsTo (.releaseDie d) s fun t => (t.die d.val).inReset = false ∧ (t.die d.val).reachable = true ∧
      bitsOf (t.rd .RC_DIE_STATE 0).toNat (2 * d.val) 2 = 2) ∧
    (∀ (s : State), s.seq.hifReset = true → s.pastSentry = true → s.diesBefore s.nDies = true →
    RunsTo .releaseHif s fun t => t.seq.hifReset = false ∧ t = { s with seq := t.seq }) ∧
    (∀ (s : State), s.seq.rlvReset = true → s.seq.hifReset = false → s.pastRow 3000 = true →
    RunsTo .releaseRlv s fun t => t.seq.rlvReset = false ∧ t = { s with seq := t.seq }) ∧
  (∀ (a b : Nat) (s : State), s.hifLive = true → s.seq.perstN = false →
    exec (.pcieLinkUp a b) s = .next (((s.setFlag Fld.HI_STATUS_LINK_UP 0 true).setF Fld.HI_STATUS_SPEED 0 a).setF
      Fld.HI_STATUS_WIDTH 0 b))

/-- R243, R245, R246, R470: FRZ_N, and FREEZE where the life cycle allows it, freeze the part with every output floated, and in
PROVISION, FIELD and END with the key stores cleared; the frozen part is read through FRZREAD, which shifts out the word it read
before; the other instructions of the TAP do what Table 7.6 allows, and act as BYPASS where it does not. R243: FRZ_N, or the
FREEZE instruction where the life cycle allows it, takes the part into the frozen condition that `FreezeHolds` keeps. R244:
RST_N is recognised in a frozen part and is not deferred; the reset ends the freeze and sets RC_CAUSE.FROZEN. -/
def Obligations.FreezeAndTap : Prop :=
    (∀ (s : State), s.seq.frozen = false → s.seq.aonHeld = false →
    RunsTo .frzNAssert s fun t => t.seq.frozen = true ∧ t.seq.frzN = true ∧ Output.floated .plat 0 ∈ t.outputs ∧
      Output.floated .port 0 ∈ t.outputs ∧ Output.floated .hif 0 ∈ t.outputs ∧ Output.floated .rlv 0 ∈ t.outputs) ∧
  (∀ (s : State), s.seq.frozen = false → s.seq.aonHeld = false → s.lc = 1 →
    RunsTo .freeze s fun t => t.seq.frozen = true ∧ t.jtag.ir = 0x20 ∧ Output.floated .plat 0 ∈ t.outputs) ∧
  (∀ (s : State), s.lc = 3 → exec .freeze s = exec .bypass s) ∧
  (∀ (op : Fin 4) (a : Word) (s : State), s.seq.aonHeld = false → s.seq.frozen = true → op.val ≠ 1 →
    exec (.frzread op a) s =
      .next ((s.modJtag fun j => { j with ir := 0x21, frz := 0 }).emit (.tdo (wordBits s.jtag.frz)))) ∧
  (∀ (a : Word) (s : State), s.seq.aonHeld = false → s.seq.frozen = true → a.toNat % 4 = 0 → 0x7000 ≤ a.toNat → a.toNat < 0x9000 → 1 < s.lc →
    exec (.frzread 1 a) s =
      .next ((s.modJtag fun j => { j with ir := 0x21, frz := 0 }).emit (.tdo (wordBits s.jtag.frz)))) ∧
  (∀ (a : Word) (s : State), s.seq.aonHeld = false → s.seq.frozen = true → a.toNat = 0x2000 →
    exec (.frzread 1 a) s =
      .next ((s.modJtag fun j => { j with ir := 0x21, frz := s.rd .RC_CAUSE 0 }).emit (.tdo (wordBits s.jtag.frz)))) ∧
  (∀ (s : State), exec .tapReset s = .next (s.modJtag fun _ => Jtag.reset)) ∧
    (∀ (c : List Bool) (s : State), s.seq.aonHeld = false → s.seq.frozen = true → s.lc ≤ 1 →
    exec (.extest c) s = .next (s.modJtag fun j => { j with ir := 0x00, cells := c })) ∧
  (∀ (c : List Bool) (s : State), s.seq.aonHeld = false → s.seq.frozen = false → s.lc ≤ 1 →
    exec (.extest c) s = .next ((s.modJtag fun j => { j with ir := 0x00, cells := c }).emit (.pins c))) ∧
  (∀ (c : List Bool) (s : State), 1 < s.lc → exec (.extest c) s = exec .bypass s) ∧
  (∀ (c : List Bool) (s : State), s.seq.aonHeld = false → s.lc ≤ 4 →
    exec (.samplePreload c) s = .next (s.modJtag fun j => { j with ir := 0x02, cells := c })) ∧
  (∀ (s : State), s.seq.aonHeld = false → exec .bypass s = .next ((s.modJtag fun j => { j with ir := 0xFF }).emit (.tdo [false]))) ∧
  (∀ (s : State), s.seq.frozen = false → s.seq.aonHeld = false → bitOf s.seq.causes 2 = false → (∀ c ∈ s.pending, endsFreeze c = false) →
    RunsTo .frzNAssert s State.Frozen) ∧
  (∀ (s : State), s.seq.frozen = false → s.seq.aonHeld = false → (s.lc ≤ 1 ∨ s.lc = 4) → bitOf s.seq.causes 2 = false →
    (∀ c ∈ s.pending, endsFreeze c = false) → RunsTo .freeze s State.Frozen) ∧
  (∀ (s : State), s.seq.frozen = true → s.seq.aonHeld = false → s.seq.rstN = false → s.seq.phase = .run →
    RunsTo .rstNAssert s fun t => t.seq.phase = .deferred ∧ t.seq.part = true ∧ t.seq.wait = s.seq.wait ∧
      bitOf t.seq.causes 2 = true ∧ bitOf t.seq.causes 8 = true) ∧
  (∀ (rc : Fin 501) (s : State), s.seq.frozen = true → s.seq.phase = .deferred → s.seq.part = true → s.seq.wait = false →
    bitOf s.seq.causes 2 = true → bitOf s.seq.causes 8 = true →
    RunsTo (.resetTakesHold rc) s fun t => t.seq.frozen = false ∧ t.seq.phase = .hold ∧ t.seq.platReset = true ∧
      t.seq.causes = 0 ∧ bitOf (t.rd .RC_CAUSE 0).toNat 2 = true ∧ bitOf (t.rd .RC_CAUSE 0).toNat 8 = true)

/-! ## The part's own serial master and the XIP window (Chapter 8) -/

/-- R253 to R261: the queue of a master port. MP_QPTR moves TAIL within the ring, after the entries that the core stored; the
ring does not move or change size while it runs (0x6101); a frame at the head of a running ring that no waiting requester goes
ahead of opens with the phases its entries spell, and one that R255 refuses ends its entries with result 1 under 0x6101; a frame
that ends leaves the port free; POLL_US after a mismatch a poll repeats its frame, and at its limit ends under 0x6102; a write
whose limit has passed unpolled is polled by the part itself. -/
def Obligations.MasterPortQueue : Prop :=
  (∀ (req : Requester) (p : PortId) (v : Word) (l : Stores) (s : State), s.PortOpen req p.val →
    exec (.mpQptrWrite req p v l) s =
      .next ((s.stores l).setF Fld.MP_QPTR_TAIL p.val (Fld.MP_QPTR_TAIL.of v % (s.stores l).ringSize p.val))) ∧
  (∀ (req : Requester) (p : PortId) (v : Word) (s : State), s.PortOpen req p.val →
    exec (.mpQueueConfigWrite req p false v) s = .next (if s.flag Fld.MP_QCTL_RUN p.val then s.mpFault p.val false 0x6101
      else s.wr .MP_QBASE p.val (v &&& ~~~ 0x3F#32))) ∧
  (∀ (req : Requester) (p : PortId) (v : Word) (s : State), s.PortOpen req p.val → s.flag Fld.MP_QCTL_RUN p.val = false →
    RunsTo (.mpQueueConfigWrite req p true v) s fun t =>
      t.getF Fld.MP_QCTL_SIZE p.val = max 4 (min 10 (Fld.MP_QCTL_SIZE.of v)) ∧
      t.getF Fld.MP_QCTL_RUN p.val = Fld.MP_QCTL_RUN.of v ∧
      s.OnlyRegs t fun n i => decide (n = .MP_QCTL) && decide (i = p.val)) ∧
  (∀ (p : PortId) (ev : MpEvent) (es : List QEntry) (e : QEntry) (s : State), s.portLive p.val = true →
    (s.port p.val).run = none → s.deferring = false → ev.rivals.any ev.yields = false → ev.owner = 0 →
    s.flag Fld.MP_QCTL_RUN p.val = true →
    (s.port p.val).polling = none → s.headFrame p.val = some (e :: es) → s.frameRefused p.val (e :: es) = false →
    exec (.mpFrame p ev) s =
      .next (s.frameOpens p.val
        { owner := 0, sel := e.sel, wr := e.wr, poll := ((e :: es).getLastD e).poll, count := (e :: es).length, ev := ev,
          spoil := mpSpoil e.wr ((e :: es).map (s.entryPhase p.val)), gaps := decide (1 < (s.entryFrames p.val (e :: es)).length),
          openUs := s.us }
        (s.entryFrames p.val (e :: es)))) ∧
  (∀ (p : PortId) (ev : MpEvent) (es : List QEntry) (e : QEntry) (s : State), s.portLive p.val = true →
    (s.port p.val).run = none → s.deferring = false → ev.rivals.any ev.yields = false → ev.owner = 0 →
    s.flag Fld.MP_QCTL_RUN p.val = true →
    (s.port p.val).polling = none → s.headFrame p.val = some (e :: es) → s.frameRefused p.val (e :: es) = true →
    exec (.mpFrame p ev) s = .next ((s.finishEntries p.val (e :: es).length 1 0).mpFault p.val e.sel 0x6101)) ∧
  (∀ (p : PortId) (r : PortRun) (s : State), s.portLive p.val = true → (s.port p.val).run = some r →
    RunsTo (.mpFrameDone p) s fun t => (t.port p.val).run = none ∧ t.flag Fld.MP_STATUS_FRAME_OPEN p.val = false) ∧
  (∀ (p : PortId) (s : State), (s.port p.val).run = none → exec (.mpFrameDone p) s = .next s) ∧
  (∀ (p : PortId) (ev : MpEvent) (q : Nat × Word) (es : List QEntry) (e : QEntry) (s : State), s.portLive p.val = true →
    (s.port p.val).run = none → s.deferring = false → (s.port p.val).polling = some q → s.usSince q.2 < s.pollLimitUs p.val →
    max 1 (s.getF Fld.MP_CTRL_POLL_US p.val) ≤ s.usSince (s.port p.val).pollUs → s.headFrame p.val = some (e :: es) →
    s.frameRefused p.val (e :: es) = false →
    RunsTo (.pollRepeat p ev) s fun t => (t.port p.val).run = some
        { owner := 0, sel := e.sel, wr := e.wr, poll := ((e :: es).getLastD e).poll, count := (e :: es).length, ev := ev,
          spoil := mpSpoil e.wr ((e :: es).map (s.entryPhase p.val)), gaps := decide (1 < (s.entryFrames p.val (e :: es)).length),
          openUs := s.us } ∧
      t.flag Fld.MP_STATUS_FRAME_OPEN p.val = true) ∧
  (∀ (p : PortId) (q : Nat × Word) (es : List QEntry) (s : State), s.portLive p.val = true → (s.port p.val).run = none →
    (s.port p.val).polling = some q → s.pollLimitUs p.val ≤ s.usSince q.2 → s.headFrame p.val = some es →
    RunsTo (.pollLimit p) s fun t => (t.port p.val).polling = none ∧ t.flag Fld.MP_STATUS_POLLING p.val = false ∧
      bitOf (t.rd .MP_FAULT p.val).toNat 1 = true ∧ t.outputs = s.outputs) ∧
  (∀ (p : PortId) (b : Bool) (s : State), s.portLive p.val = true →
    bitOf (s.getF Fld.MP_STATUS_WAIT_WR p.val) (b2n b) = true →
    s.pollLimitUs p.val ≤ s.usSince (Tbl.get (s.port p.val).waitUs (b2n b) 0) →
    exec (.writePollTimeout p b) s = .next (s.modPort p.val fun x => { x with selfPoll := x.selfPoll ||| selBit b }))

/-- R265 to R268, R288: the XIP window. A read of a cached leaf is answered at once and makes the leaf the most recent; a read
while the window is off, or beyond the image, is a bus error; another read waits for its leaf. A fill that verifies enters the
cache; one that fails twice is 0x6104 and marks the leaf failed. A fill that runs STALL_US drops its waiters under
0x6105; a store is 0x6106 and a
bus error. The window turns on only when it is rooted, and turning it off empties the cache. -/
def Obligations.XipWindow : Prop :=
  (∀ (d : DieId) (k : CoreId) (a : Nat) (p : Nat × List Byte) (s : State), s.platLive = true → s.reached d.val = true →
    0x60000000 ≤ a → a < 0x64000000 → s.flag Fld.XIP_CTRL_ENABLE 0 = true →
    (a - 0x60000000) / 4096 < s.getF Fld.XIP_LEAVES_LEAF_COUNT 0 → (a - 0x60000000) / 4096 ∉ s.xip.failed →
    (s.xip.lines.find? fun p => decide (p.1 = (a - 0x60000000) / 4096)) = some p →
    exec (.xipRead d k a .load) s =
      .next ((s.modXip fun x => { x with
        lines := p :: x.lines.filter fun q => decide (q.1 ≠ (a - 0x60000000) / 4096) }).emit
        (.xipData d.val k.val (sliceB p.2 ((a - 0x60000000) % 4096) 4)))) ∧
  (∀ (d : DieId) (k : CoreId) (a : Nat) (s : State), s.platLive = true → s.reached d.val = true →
    0x60000000 ≤ a → a < 0x64000000 → s.flag Fld.XIP_CTRL_ENABLE 0 = false →
    exec (.xipRead d k a .load) s = .next (s.busErrorTrap d.val k.val .load a)) ∧
  (∀ (d : DieId) (k : CoreId) (a : Nat) (s : State), s.platLive = true → s.reached d.val = true →
    0x60000000 ≤ a → a < 0x64000000 → s.flag Fld.XIP_CTRL_ENABLE 0 = true →
    (a - 0x60000000) / 4096 < s.getF Fld.XIP_LEAVES_LEAF_COUNT 0 → (a - 0x60000000) / 4096 ∉ s.xip.failed →
    (s.xip.lines.find? fun p => decide (p.1 = (a - 0x60000000) / 4096)) = none →
    RunsTo (.xipRead d k a .fetch) s fun t => (t.core d.val k.val).xipWait = some a ∧ t.outputs = s.outputs ∧ t.sram = s.sram) ∧
  (∀ (leaf : Nat) (x y : BootRead) (f : XipFill) (s u : State), s.platLive = true →
    (s.xip.fills.find? fun f => decide (f.leaf = leaf)) = some f →
    u = s.modXip (fun x => { x with fills := x.fills.filter fun g => decide (g.leaf ≠ leaf) }) →
    RunsTo (.xipFillDone leaf x y) s fun t =>
      let a := u.imageLeaf (s.getF Fld.XIP_LEAVES_LEAF_COUNT 0) u.xipRoot imageTree leaf 0 x
      let b := a.2.imageLeaf (s.getF Fld.XIP_LEAVES_LEAF_COUNT 0) u.xipRoot imageTree leaf 0 y
      match a.1, b.1 with
      | true, _ => (s.flag Fld.XIP_CTRL_ENABLE 0 = true → (leaf, sliceB x.data 0 4096) ∈ t.xip.lines) ∧
          t.xip.failed = s.xip.failed
      | false, true => (s.flag Fld.XIP_CTRL_ENABLE 0 = true → (leaf, sliceB y.data 0 4096) ∈ t.xip.lines) ∧
          t.xip.failed = s.xip.failed
      | false, false => leaf ∈ t.xip.failed ∧ t.flag Fld.XIP_STATUS_FAILED 0 = true ∧
          bitOf (t.rd .MP_FAULT 0).toNat 3 = true) ∧
  (∀ (leaf : Nat) (f : XipFill) (s : State), s.platLive = true →
    ((s.xip.fills ++ s.xip.queued).find? fun f => decide (f.leaf = leaf) && s.xipSlow f) = some f → f.waiters ≠ [] →
    RunsTo (.xipStall leaf) s fun t => bitOf (t.rd .MP_FAULT 0).toNat 4 = true ∧
      ∀ g ∈ t.xip.fills ++ t.xip.queued, g.leaf = leaf → g.waiters = []) ∧
  (∀ (d : DieId) (k : CoreId) (a : Nat) (s : State), s.platLive = true → s.reached d.val = true →
    exec (.xipStore d k a) s =
      .next ((s.mpFault 0 (s.flag Fld.XIP_CTRL_SEL 0) 0x6106).busErrorTrap d.val k.val .store a)) ∧
  (∀ (req : Requester) (v : Word) (s : State), s.PlatOpen req → s.flag Fld.XIP_CTRL_ENABLE 0 = false →
    s.flag Fld.XIP_STATUS_ROOTED 0 = false →
    RunsTo (.xipCtrlWrite req v) s fun t => t.flag Fld.XIP_CTRL_ENABLE 0 = false ∧ t.xip = s.xip) ∧
  (∀ (req : Requester) (v : Word) (s : State), s.PlatOpen req → s.flag Fld.XIP_CTRL_ENABLE 0 = true →
    Fld.XIP_CTRL_ENABLE.of v = 0 →
    RunsTo (.xipCtrlWrite req v) s fun t => t.flag Fld.XIP_CTRL_ENABLE 0 = false ∧ t.xip.lines = [] ∧ t.xip.failed = [] ∧
      t.getF Fld.XIP_CTRL_SEL 0 = s.getF Fld.XIP_CTRL_SEL 0 ∧ t.flag Fld.XIP_STATUS_FAILED 0 = false) ∧
  (∀ (req : Requester) (v : Word) (s : State), s.PlatOpen req → s.flag Fld.XIP_STATUS_ROOTED 0 = true →
    s.flag Fld.XIP_CTRL_ENABLE 0 = false → Fld.XIP_CTRL_ENABLE.of v = 1 →
    RunsTo (.xipCtrlWrite req v) s fun t => t.flag Fld.XIP_CTRL_ENABLE 0 = true ∧ t.xip = s.xip ∧ t.sram = s.sram)

/-! ## Boot and firmware update (Chapter 9) -/

/-- R278, R280, R284, R285, R291: the ROM's boot runs once and counts its attempt; a block that verifies is copied and leaves
the list of what is still to copy, one that fails twice ends the attempt with LAST = 0xA; at the hand-over the ROM locks, core
0.0 starts at the image's entry and the slot and its confirmation are shown; a back-off that expires starts the next attempt.
R285, R289, R296, R298: boot control. CONFIRM, CHECK, RECOPY and releases of cores are taken from die 0's cores alone, and are
fault 0x630A from anyone else. A pending image is confirmed when its words are written, and fails with 0x630B when they are not;
a window that runs out is LAST = 0xE under 0x6306; a check of the slot that does not run answers its result and first failing
leaf; a recopy of a die starts its copy over. -/
def Obligations.BootControl : Prop :=
  (∀ (a b : SlotInput) (s : State), s.romRuns = true → s.boot.ran = false → 2 ≤ s.lc → s.lc ≤ 4 →
    exec (.romBoot a b) s = .next (((s.modBoot fun x => { x with ran := true }).setF Fld.BT_RETRY_ATTEMPTS 0
      (min (s.getF Fld.BT_RETRY_ATTEMPTS 0 + 1) 0xFFFF)).romBoot a b)) ∧
  (∀ (a b : SlotInput) (s : State), s.romRuns = true → s.boot.ran = false → s.lc < 2 →
    exec (.romBoot a b) s = .next ((s.modBoot fun x => { x with ran := true }).setF Fld.BT_RETRY_ATTEMPTS 0
      (min (s.getF Fld.BT_RETRY_ATTEMPTS 0 + 1) 0xFFFF))) ∧
  (∀ (a b : SlotInput) (s : State), s.boot.ran = true → exec (.romBoot a b) s = .next s) ∧
  (∀ (d : DieId) (leaf : Nat) (x y : BootRead) (im : Image) (s : State), s.platLive = true → s.reached d.val = true →
    s.boot.force = false → (d.val, leaf) ∈ s.boot.left → (d.val, leaf) ∉ s.boot.failed → s.boot.image = some im →
    RunsTo (.bootBlockVerified d leaf x y) s fun t =>
      let a := s.imageLeaf im.leaves s.xipRoot imageTree leaf d.val x
      let b := a.2.imageLeaf im.leaves s.xipRoot imageTree leaf d.val y
      match a.1, b.1 with
      | true, _ => (d.val, leaf) ∉ t.boot.left ∧ t.boot.force = s.boot.force ∧ t = a.2.copyVerified im d.val leaf x.data
      | false, true => (d.val, leaf) ∉ t.boot.left ∧ t.boot.force = s.boot.force ∧ t = b.2.copyVerified im d.val leaf y.data
      | false, false => d.val ∉ s.boot.recopy → t.getF Fld.BT_RETRY_LAST 0 = 0xA ∧ t.boot.force = true ∧
          bitOf (t.rd .BT_FAULT 0).toNat 2 = true) ∧
  (∀ (l : List DieId) (im : Image) (s : State), s.romRuns = true → s.boot.image = some im → s.stage1Done im = true →
    im.slot < 2 →
    RunsTo (.handOver l) s fun t => t.flag Fld.BT_LOCK_ROM_LOCKED 0 = true ∧ (t.core 0 0).running = true ∧
      (t.core 0 0).pc = BitVec.ofNat 32 im.entryPc ∧ t.getF Fld.BT_STATUS_SLOT 0 = im.slot ∧
      t.flag Fld.BT_STATUS_PENDING 0 = im.pending ∧ t.flag Fld.BT_STATUS_CONFIRMED 0 = (!im.pending) ∧
      t.getF Fld.BT_RETRY_EXP 0 = 0 ∧ t.boot.inWait = false) ∧
  (∀ (s : State), s.romRuns = true → s.boot.inWait = true → s.boot.rescue = none → s.boot.waitLeft = 0 →
    exec .backoffExpire s = .next ((((s.setF Fld.BT_RETRY_EXP 0 (min (s.getF Fld.BT_RETRY_EXP 0 + 1) 6)).setF
      Fld.BT_RETRY_BADMASK 0 0).modBoot fun b => { b with inWait := false }).forceExpiry)) ∧
  (∀ (req : Requester) (ok slot : Bool) (d : DieId) (s : State), s.PlatOpen req → fromDie0 req = false →
    exec (.confirm req ok) s = .next s.bootReject ∧ exec (.check req slot) s = .next s.bootReject ∧
      exec (.recopy req d) s = .next s.bootReject) ∧
  (∀ (req : Requester) (s : State), s.PlatOpen req → fromDie0 req = true → s.flag Fld.BT_STATUS_PENDING 0 = true →
    RunsTo (.confirm req true) s fun t => t.flag Fld.BT_STATUS_CONFIRMED 0 = true ∧ t.flag Fld.BT_STATUS_PENDING 0 = false ∧
      t.rd .BT_CONFIRM 0 = 0) ∧
  (∀ (req : Requester) (s : State), s.PlatOpen req → fromDie0 req = true → s.flag Fld.BT_STATUS_PENDING 0 = true →
    RunsTo (.confirm req false) s fun t => t.getF Fld.BT_RETRY_LAST 0 = 0xB ∧ t.flag Fld.BT_STATUS_PENDING 0 = true ∧
      bitOf (t.rd .BT_FAULT 0).toNat 10 = true) ∧
  (∀ (req : Requester) (ok : Bool) (s : State), s.PlatOpen req → fromDie0 req = true → s.flag Fld.BT_STATUS_PENDING 0 = false →
    exec (.confirm req ok) s = .next s) ∧
  (∀ (s : State), s.platLive = true → s.flag Fld.BT_STATUS_PENDING 0 = true → s.getF Fld.BT_CONFIRM_LEFT_S 0 = 0 →
    s.boot.force = false →
    exec .confirmWindowExpire s =
      .next (((s.setF Fld.BT_RETRY_LAST 0 0xE).bootFault (s.getF Fld.BT_STATUS_SLOT 0) 0x6306).forceExpiry)) ∧
  (∀ (req : Requester) (slot : Bool) (s : State), s.PlatOpen req → fromDie0 req = true →
    exec (.check req slot) s = .next (
      if s.getF Fld.BT_STATUS_SLOT 0 = b2n slot ∨ s.flag Fld.BT_CHECK_BUSY 0 = true then s.bootFault (b2n slot) 0x630A
      else (s.setFlag Fld.BT_CHECK_BUSY 0 true).modBoot fun b => { b with checking := some (b2n slot) })) ∧
  (∀ (x : SlotInput) (l : List (List Byte)) (s u : State), s.platLive = true → s.flag Fld.BT_CHECK_BUSY 0 = true →
    u = (if x.colophon.isSome then s.coReads (x.colophon.getD []) false else s) →
    RunsTo (.checkDone x l) s fun t => t.flag Fld.BT_CHECK_BUSY 0 = false ∧ t.flag Fld.BT_CHECK_DONE 0 = true ∧
      t.getF Fld.BT_CHECK_RESULT 0 = (u.checkResult x l).1 % 16 ∧ t.boot.checking = none ∧ t.sram = u.sram ∧
      ∀ n i, n ≠ .BT_CHECK → t.rd n i = u.rd n i) ∧
  (∀ (req : Requester) (d : DieId) (im : Image) (s : State), s.PlatOpen req → fromDie0 req = true → s.boot.image = some im →
    s.getF Fld.BT_STATUS_SLOT 0 ≠ 2 → s.reached d.val = true →
    ((copyList s.nDies im.sections).filter fun p => decide (p.1 = d.val)) ≠ [] →
    RunsTo (.recopy req d) s fun t => bitOf (t.getF Fld.BT_STATUS_DIE_DONE 0) d.val = false ∧
      t.getF Fld.BT_STATUS_STAGE 0 = 1 ∧ d.val ∈ t.boot.recopy ∧
      (∀ p ∈ copyList s.nDies im.sections, p.1 = d.val → p ∈ t.boot.left) ∧ t.sram = s.sram ∧
      ∀ n i, n ≠ .BT_STATUS → t.rd n i = s.rd n i)

/-- R286 to R288: the sentry cores. A core of a die whose copy is done starts when it is released, one of another die waits in
PENDING; a kick of 0xA5 from a core restarts a running watchdog and any other value does nothing; a bus error and a machine
check record their cause and address, report 0x6201 and 0x6202 and enter the core's handlers; a second machine check resets the
core, under 0x6203. -/
def Obligations.SentryCores : Prop :=
  (∀ (req : Requester) (d : DieId) (v : Word) (s : State), s.DieOpen req d.val → fromDie0 req = false →
    exec (.snCoreReleaseWrite req d v) s = .next s.bootReject) ∧
  (∀ (req : Requester) (d : DieId) (k : CoreId) (s : State), s.DieOpen req d.val → fromDie0 req = true →
    bitOf (s.getF Fld.BT_STATUS_DIE_DONE 0) d.val = true → bitOf (s.getF Fld.SN_CORE_RELEASE_RELEASE d.val) k.val = false →
    exec (.snCoreReleaseWrite req d (BitVec.ofNat 32 (2 ^ k.val))) s = .next (s.coreRelease d.val k.val)) ∧
  (∀ (req : Requester) (d : DieId) (v : Word) (k : CoreId) (s : State), s.DieOpen req d.val → fromDie0 req = true →
    bitOf (s.getF Fld.BT_STATUS_DIE_DONE 0) d.val = false → bitOf v.toNat k.val = true →
    bitOf (s.getF Fld.SN_CORE_RELEASE_RELEASE d.val) k.val = false →
    RunsTo (.snCoreReleaseWrite req d v) s fun t => bitOf (t.getF Fld.SN_CORE_RELEASE_PENDING d.val) k.val = true ∧
      t.getF Fld.SN_CORE_RELEASE_RELEASE d.val = s.getF Fld.SN_CORE_RELEASE_RELEASE d.val ∧
      s.OnlyRegs t fun n i => decide (n = .SN_CORE_RELEASE) && decide (i = d.val)) ∧
  (∀ (e d : DieId) (j k : CoreId) (v : Word) (s : State), s.DieOpen (.sentry e j) d.val →
    Fld.SN_WDT_KICK_KICK.of v = 0xA5 → ¬ (d.val = 0 ∧ k.val = 0 ∧ s.boot.force = true) →
    s.flag Fld.SN_WDT_RUNNING (4 * d.val + k.val) = true →
    exec (.wdtKick (.sentry e j) d k v) s = .next ((s.modCore d.val k.val fun c =>
      { c with kickUs := s.us, period := s.getF Fld.SN_WDT_PERIOD_MS (4 * d.val + k.val) }).count d.val (0x3A0 + 0x10 * k.val + 11) 1)) ∧
  (∀ (e d : DieId) (j k : CoreId) (v : Word) (s : State), s.DieOpen (.sentry e j) d.val →
    Fld.SN_WDT_KICK_KICK.of v ≠ 0xA5 → exec (.wdtKick (.sentry e j) d k v) s = .next s) ∧
  (∀ (d : DieId) (k : CoreId) (kind : AccessKind) (a : Word) (s : State), s.live d.val = true →
    RunsTo (.busError d k kind a) s fun t => t.getF Fld.SN_TRAP_CAUSE (4 * d.val + k.val) = trapCause kind ∧
      t.rd .SN_TRAP_ADDR (4 * d.val + k.val) = a ∧ (t.core d.val k.val).pc = s.rd .SN_TVEC (4 * d.val + k.val) ∧
      (t.core d.val k.val).inTrap = true ∧ bitOf (t.rd .SN_FAULT d.val).toNat 0 = true ∧ t.sram = s.sram ∧
      t.outputs = s.outputs) ∧
  (∀ (d : DieId) (k : CoreId) (a : Word) (s : State), s.live d.val = true →
    s.flag Fld.SN_TRAP_MCK_ACTIVE (4 * d.val + k.val) = false →
    RunsTo (.machineCheck d k a) s fun t => t.flag Fld.SN_TRAP_MCK_ACTIVE (4 * d.val + k.val) = true ∧
      t.getF Fld.SN_TRAP_CAUSE (4 * d.val + k.val) = 4 ∧ t.rd .SN_TRAP_ADDR (4 * d.val + k.val) = a ∧
      (t.core d.val k.val).pc = s.rd .SN_TVEC (4 * d.val + k.val) + 0x40 ∧
      bitOf (t.rd .SN_FAULT d.val).toNat 1 = true ∧ t.sram = s.sram) ∧
  (∀ (d : DieId) (k : CoreId) (a : Word) (s : State), s.live d.val = true → ¬ (d.val = 0 ∧ k.val = 0) →
    s.flag Fld.SN_TRAP_MCK_ACTIVE (4 * d.val + k.val) = true →
    RunsTo (.machineCheck d k a) s fun t => (t.core d.val k.val).running = false ∧
      t.flag Fld.SN_TRAP_MCK_ACTIVE (4 * d.val + k.val) = false ∧ bitOf (t.rd .SN_FAULT d.val).toNat 2 = true)

/-! ## Fuses and the life cycle (Chapter 10) -/

/-- R300, R303, R310, R321: a fuse read answers the row at the nominal reference in FU_RDATA, the UDS rows and unassigned rows
as 0; a margin read also says whether the three references disagree; a row beyond the array ends with result 9; MARGIN_SCAN says
whether any row of a present die is marginal. None changes a fuse. R310, R319, R322: in RAW, TEST and PROVISION the TAP reaches
the fuse controller: FUCMD writes FU_WDATA and issues its command, FUSTAT shifts out FU_STATUS and FU_RDATA; in a later state of
the life cycle both codes act as BYPASS. -/
def Obligations.FuseReads : Prop :=
  (∀ (req : Requester) (v : Word) (s : State), s.FuseOpen req → s.present (Fld.FU_CMD_DIE.of v) = true →
    Fld.FU_CMD_ROW.of v < fuseRows (Fld.FU_CMD_DIE.of v) →
    RunsTo (.fuRead req v) s fun t => s.FuseEnded t 0 ∧ s.SameSram t ∧
      t.flag Fld.FU_STATUS_REDIRECTED 0 = (s.fuseResolve (Fld.FU_CMD_DIE.of v) (Fld.FU_CMD_ROW.of v)).2 ∧
      t.rd .FU_RDATA 0 = (if isUds (Fld.FU_CMD_DIE.of v) (Fld.FU_CMD_ROW.of v) then 0#32
        else if fuseAssigned (Fld.FU_CMD_DIE.of v) (Fld.FU_CMD_ROW.of v) then
          BitVec.ofNat 32 (s.fuseRow (Fld.FU_CMD_DIE.of v) (Fld.FU_CMD_ROW.of v)).nominal
        else 0#32)) ∧
  (∀ (req : Requester) (v : Word) (s : State), s.FuseOpen req → s.present (Fld.FU_CMD_DIE.of v) = true →
    Fld.FU_CMD_ROW.of v < fuseRows (Fld.FU_CMD_DIE.of v) →
    fuseAssigned (Fld.FU_CMD_DIE.of v) (Fld.FU_CMD_ROW.of v) = true →
    RunsTo (.fuReadMargin req v) s fun t => s.FuseEnded t 0 ∧
      (t.flag Fld.FU_STATUS_MARGINAL 0 = true ↔
        (s.fuseRow (Fld.FU_CMD_DIE.of v) (Fld.FU_CMD_ROW.of v)).high ≠ (s.fuseRow (Fld.FU_CMD_DIE.of v) (Fld.FU_CMD_ROW.of v)).low)) ∧
  (∀ (req : Requester) (v : Word) (s : State), s.FuseOpen req → s.present (Fld.FU_CMD_DIE.of v) = true →
    fuseRows (Fld.FU_CMD_DIE.of v) ≤ Fld.FU_CMD_ROW.of v →
    RunsTo (.fuRead req v) s fun t => s.FuseEnded t 9 ∧ t.rd .FU_RDATA 0 = s.rd .FU_RDATA 0) ∧
  (∀ (req : Requester) (v : Word) (s : State), s.FuseOpen req → s.present (Fld.FU_CMD_DIE.of v) = true →
    RunsTo (.fuMarginScan req v) s fun t => s.FuseEnded t 0 ∧
      (t.flag Fld.FU_STATUS_SCAN_MARGINAL 0 = true ↔
        ∃ p ∈ s.fuses.rows, p.1 / 2048 < s.nDies ∧ p.2.high ≠ p.2.low)) ∧
  (∀ (req : Requester) (v : Word) (s : State), s.PlatOpen req → (fromDie0 req = false ∨ s.flag Fld.FU_STATUS_BUSY 0 = true) →
    ∀ c ∈ [Instr.fuRead req v, .fuReadMargin req v, .fuProgram req v, .fuFinalise req v, .fuGenUds req v,
        .fuAdvanceRollback req v, .fuAdvanceTamper req v, .fuRevoke req v, .fuAdvanceLc req v, .fuMarginScan req v],
      exec c s = .next (s.report 0 0x9006 (openSource 0x9006))) ∧
  (∀ (w c : Word) (s : State), s.platLive = true → 2 < s.lc →
    exec (.fucmd w c) s = .next { s with jtag := { s.jtag with ir := 0xFF } } ∧
    exec .fustat s = .next (({ s with jtag := { s.jtag with ir := 0xFF } }).emit (.tdo [false]))) ∧
  (∀ (w c : Word) (s : State), s.platLive = true → s.lc ≤ 2 → s.flag Fld.FU_STATUS_BUSY 0 = false → s.fuses.run = none →
    s.present (Fld.FU_CMD_DIE.of c) = true → Fld.FU_CMD_OP.of c = 1 →
    Fld.FU_CMD_ROW.of c < fuseRows (Fld.FU_CMD_DIE.of c) →
    RunsTo (.fucmd w c) s fun t => t.jtag.ir = 0x40 ∧ t.rd .FU_WDATA 0 = w ∧ s.FuseEnded t 0) ∧
  (∀ (w c : Word) (s : State), s.platLive = true → s.lc ≤ 2 → s.flag Fld.FU_STATUS_BUSY 0 = true →
    RunsTo (.fucmd w c) s fun t => t.fuses = s.fuses ∧ t.getF Fld.FU_STATUS_RESULT 0 = s.getF Fld.FU_STATUS_RESULT 0 ∧
      t.flag Fld.FU_STATUS_BUSY 0 = true) ∧
  (∀ (s : State), s.platLive = true → s.lc ≤ 2 →
    RunsTo .fustat s fun t => t = { s with jtag := t.jtag, outputs := t.outputs } ∧ t.jtag.ir = 0x41 ∧
      t.outputs = s.outputs ++ [.tdo (wordBits s.readFuStatus ++ wordBits (s.rd .FU_RDATA 0))])

/-- R300, R312, R314, R316, R317, R318, R319: a command that burns fuses starts in the state of the life cycle that allows it,
with the row, region or target it names, and leaves the arrays to its pulses; with nothing left to burn it ends at once with
result 0. R312, R314, R317, R318, R319: what the fuse controller refuses, and under which result: an unassigned row (9), a row
that is no data row or a finalised region (2), the wrong state of the life cycle (1), a bit to unburn (4), a wrong fill row (3),
a counter target not above the count (7), reserved revocation bits (9), a life-cycle step off the path (1). No fuse changes. -/
def Obligations.FuseBurns : Prop :=
  (∀ (req : Requester) (v : Word) (d row : Nat) (s : State), s.FuseOpen req → s.vfuseOk = true → d = Fld.FU_CMD_DIE.of v →
    row = Fld.FU_CMD_ROW.of v → s.present d = true → row < fuseRows d → fuseAssigned d row = true → isDataRow d row = true →
    s.programState (fuseRegion d row) = true → s.finalised d (fuseRegion d row) = false →
    (s.fuseRow d row).nominal &&& (s.rd .FU_WDATA 0).toNat = (s.fuseRow d row).nominal →
    RunsTo (.fuProgram req v) s fun t =>
      t.FuseRuns 3 d (fuseRegion d row) (s.rd .FU_WDATA 0).toNat ∧ t.fuses.rows = s.fuses.rows) ∧
  (∀ (req : Requester) (v : Word) (d g : Nat) (s : State), s.FuseOpen req → s.vfuseOk = true → d = Fld.FU_CMD_DIE.of v →
    g = Fld.FU_CMD_REGION.of v → s.present d = true → g ≠ 0 → (d = 0 ∨ g = 1) → s.programState g = true →
    (s.fuseRow d (fillRow g)).nominal = 0x5EA10000 + g → (∀ x ∈ dataRows g, (s.fuseRow d x).marginal = false) →
    (∀ p ∈ (digestRows g).zip (s.regionDigest d g), (s.fuseRow d p.1).nominal &&& p.2 = (s.fuseRow d p.1).nominal) →
    RunsTo (.fuFinalise req v) s fun t => t.FuseRuns 4 d g 0 ∧ t.fuses.rows = s.fuses.rows) ∧
  (∀ (req : Requester) (v : Word) (s : State), s.FuseOpen req → s.vfuseOk = true → s.present (Fld.FU_CMD_DIE.of v) = true →
    s.lc = 2 → s.finalised 0 2 = false →
    RunsTo (.fuGenUds req v) s fun t => t.FuseRuns 5 0 2 0 ∧ t.fuses.rows = s.fuses.rows) ∧
  (∀ (req : Requester) (v : Word) (s : State), s.FuseOpen req → s.vfuseOk = true → s.present (Fld.FU_CMD_DIE.of v) = true →
    (s.lc = 2 ∨ s.lc = 3) → s.getF Fld.FU_COUNTS_ROLLBACK 0 < (s.rd .FU_WDATA 0).toNat → (s.rd .FU_WDATA 0).toNat ≤ 256 →
    s.rollbackBarred (s.rd .FU_WDATA 0).toNat = false →
    RunsTo (.fuAdvanceRollback req v) s fun t => t.FuseRuns 6 0 5 (s.rd .FU_WDATA 0).toNat ∧ t.fuses.rows = s.fuses.rows) ∧
  (∀ (req : Requester) (v : Word) (s : State), s.FuseOpen req → s.vfuseOk = true → s.present (Fld.FU_CMD_DIE.of v) = true →
    2 ≤ s.lc → s.lc ≤ 4 → s.getF Fld.FU_COUNTS_TAMPER 0 < (s.rd .FU_WDATA 0).toNat → (s.rd .FU_WDATA 0).toNat ≤ 512 →
    RunsTo (.fuAdvanceTamper req v) s fun t => t.FuseRuns 7 0 6 (s.rd .FU_WDATA 0).toNat ∧ t.fuses.rows = s.fuses.rows) ∧
  (∀ (req : Requester) (v : Word) (s : State), s.FuseOpen req → s.vfuseOk = true → s.present (Fld.FU_CMD_DIE.of v) = true →
    (s.lc = 2 ∨ s.lc = 3) → (s.rd .FU_WDATA 0).toNat < 16 →
    RunsTo (.fuRevoke req v) s fun t => t.FuseRuns 8 0 3 (s.rd .FU_WDATA 0).toNat ∧ t.fuses.rows = s.fuses.rows) ∧
  (∀ (req : Requester) (v : Word) (s : State), s.FuseOpen req → s.vfuseOk = true → s.present (Fld.FU_CMD_DIE.of v) = true →
    lcPath s.lc (s.rd .FU_WDATA 0).toNat true = true → s.lcReady (s.rd .FU_WDATA 0).toNat = true →
    RunsTo (.fuAdvanceLc req v) s fun t => t.FuseRuns 9 0 7 (s.rd .FU_WDATA 0).toNat ∧ t.fuses.rows = s.fuses.rows ∧
      t.getF Fld.FU_LC_CURRENT 0 = s.lc) ∧
  (∀ (req : Requester) (v : Word) (d row : Nat) (s : State), s.FuseOpen req → d = Fld.FU_CMD_DIE.of v →
    row = Fld.FU_CMD_ROW.of v → s.present d = true →
    RunsTo (.fuProgram req v) s fun t =>
      (fuseAssigned d row = false → s.FuseEnded t 9) ∧
      (row < fuseRows d → fuseAssigned d row = true → isDataRow d row = false → s.FuseEnded t 2) ∧
      (row < fuseRows d → fuseAssigned d row = true → isDataRow d row = true → s.programState (fuseRegion d row) = false →
        s.FuseEnded t 1) ∧
      (row < fuseRows d → fuseAssigned d row = true → isDataRow d row = true → s.programState (fuseRegion d row) = true →
        s.finalised d (fuseRegion d row) = false →
        (s.fuseRow d row).nominal &&& (s.rd .FU_WDATA 0).toNat ≠ (s.fuseRow d row).nominal → s.FuseEnded t 4)) ∧
  (∀ (req : Requester) (v : Word) (d g : Nat) (s : State), s.FuseOpen req → d = Fld.FU_CMD_DIE.of v →
    g = Fld.FU_CMD_REGION.of v → s.present d = true → g ≠ 0 → (d = 0 ∨ g = 1) → s.programState g = true →
    (s.fuseRow d (fillRow g)).nominal ≠ 0x5EA10000 + g →
    RunsTo (.fuFinalise req v) s fun t => s.FuseEnded t 3) ∧
  (∀ (req : Requester) (v : Word) (s : State), s.FuseOpen req → s.present (Fld.FU_CMD_DIE.of v) = true → s.lc = 3 →
    s.getF Fld.FU_COUNTS_TAMPER 0 < 512 → (s.rd .FU_WDATA 0).toNat ≤ s.getF Fld.FU_COUNTS_TAMPER 0 →
    exec (.fuGenUds req v) s = .next (s.fuseDone 1) ∧ exec (.fuAdvanceTamper req v) s = .next (s.fuseDone 7)) ∧
  (∀ (req : Requester) (v : Word) (s : State), s.FuseOpen req → s.present (Fld.FU_CMD_DIE.of v) = true →
    (s.lc = 2 ∨ s.lc = 3) → s.getF Fld.FU_COUNTS_ROLLBACK 0 = 256 →
    exec (.fuAdvanceRollback req v) s = .next ((s.fuseFault 0x9009 0 0x0A0).fuseDone 7)) ∧
  (∀ (req : Requester) (v : Word) (s : State), s.FuseOpen req → s.present (Fld.FU_CMD_DIE.of v) = true →
    16 ≤ (s.rd .FU_WDATA 0).toNat → exec (.fuRevoke req v) s = .next (s.fuseDone 9)) ∧
  (∀ (req : Requester) (v : Word) (s : State), s.FuseOpen req → s.present (Fld.FU_CMD_DIE.of v) = true →
    (s.rd .FU_WDATA 0).toNat < 4 → s.lc ≠ (s.rd .FU_WDATA 0).toNat →
    exec (.fuAdvanceLc req v) s = .next (s.fuseDone 1))

/-- R303, R305, R311, R312: a pulse that reads 1 at the high reference burns its bit for good; one that fails is tried again,
and after three failures the row goes to a spare (0x9008), or with no spare left the command ends with result 6. VFUSE leaving
its window ends the command with result 5. -/
def Obligations.FusePulses : Prop :=
  (∀ (q : PulseResult) (r : FuseRun) (x : FuseTask) (l : List FuseTask) (b : Nat) (bs : List Nat) (s : State),
    s.platLive = true → s.deferring = false → s.fuses.run = some r → r.todo = x :: l → s.taskBits x = b :: bs →
    q.high = true →
    RunsTo (.fusePulseEnd q) s fun t =>
      bitOf (Tbl.get t.fuses.rows (x.die * 2048 + s.taskPlace x) FuseRow.blank).high b = true ∧
      ∀ k, k ≠ x.die * 2048 + s.taskPlace x → Tbl.get t.fuses.rows k FuseRow.blank = Tbl.get s.fuses.rows k FuseRow.blank) ∧
  (∀ (low : Bool) (r : FuseRun) (x : FuseTask) (l : List FuseTask) (b : Nat) (bs : List Nat) (s : State),
    s.platLive = true → s.deferring = false → s.vfuseOk = true → s.fuses.run = some r → r.todo = x :: l →
    s.taskBits x = b :: bs → r.tries < 2 →
    RunsTo (.fusePulseEnd { nominal := false, high := false, low := low }) s fun t =>
      t.fuses.run = some { r with tries := r.tries + 1, todo := r.todo.filter fun y => decide (s.taskBits y ≠ []) }) ∧
  (∀ (q : PulseResult) (r : FuseRun) (x : FuseTask) (l : List FuseTask) (b : Nat) (bs : List Nat) (s : State),
    s.platLive = true → s.deferring = false → s.fuses.run = some r → r.todo = x :: l → s.taskBits x = b :: bs →
    r.tries = 2 → r.tamper = false → q.high = false → x.place.isSome = true → s.fuses.queued = none →
    RunsTo (.fusePulseEnd q) s fun t => t.flag Fld.FU_STATUS_BUSY 0 = false ∧ t.flag Fld.FU_STATUS_DONE 0 = true ∧
      t.getF Fld.FU_STATUS_RESULT 0 = 6) ∧
  (∀ (s : State), s.platLive = true → s.fuses.run = none →
    exec .vfuseExcursion s = .next { s with seq := { s.seq with vfuseOut := true } }) ∧
  (∀ (r : FuseRun) (s : State), s.platLive = true → s.fuses.run = some r → r.tamper = false → s.fuses.queued = none →
    RunsTo .vfuseExcursion s fun t => t.seq.vfuseOut = true ∧ t.flag Fld.FU_STATUS_BUSY 0 = false ∧
      t.getF Fld.FU_STATUS_RESULT 0 = 5 ∧ t.fuses.rows = s.fuses.rows)

/-! ## Identity and attestation (Chapter 11) -/

/-- R328, R331, R342, R343: the key unit. A read of KU_BIND_NONCE captures a fresh nonce. DERIVE_FW stores its key behind the
label and says so in CDI1, or without a CDI_1 ends with result 1 and stores nothing. A unit that faults signs no more: with both
copies of the keys die 1 takes over (0x7001). Another core's commands are discarded under 0x7006. R330 to R332: BIND without an
identity is refused (1), as it is while the vault is absent or bound (2); a directory whose areas overlap is refused (4); each
refusal is 0x7003 and uses the nonce up. Over a blank vault it erases, writes the sealed directory, and sets every present die's
vault BOUND; an erase that a NOR vault
device fails leaves the vault BLANK, with result 5. -/
def Obligations.KeyUnit : Prop :=
  (∀ (req : Requester) (s : State), s.PlatOpen req →
    RunsTo (.bindNonceRead req) s fun t => t.keys = { s.keys with nonce := some (sliceB (digestOf s.draw.1) 0 32) } ∧
      s.SameSram t ∧ t.outputs = s.outputs ++ [.readData (BitVec.ofNat 32 (ofLe (sliceB (digestOf s.draw.1) 0 4)))]) ∧
  (∀ (req : Requester) (l : Stores) (c : Digest) (s u : State), s.PlatOpen req → fromDie0 req = true → u = s.stores l →
    s.keys.cdi1 = some c → s.identity = true →
    RunsTo (.kuDeriveFw req l) s fun t => t.flag Fld.KU_STATUS_CDI1 0 = true ∧ t.flag Fld.KU_CMD_STATUS_DONE 0 = true ∧
      t.getF Fld.KU_CMD_STATUS_RESULT 0 = 0 ∧ t.keys = s.keys ∧
      t.sram = (u.sramStore 0 ((s.rd .KU_ARG 0).toNat + 0x10)
        ((hashOf (c ++ ascii "FWKEY" ++ u.sramBytes 0 (s.rd .KU_ARG 0).toNat 16)).take 32)).sram) ∧
  (∀ (req : Requester) (l : Stores) (s : State), s.PlatOpen req → fromDie0 req = true →
    (s.keys.cdi1 = none ∨ s.identity = false) →
    RunsTo (.kuDeriveFw req l) s fun t => t.getF Fld.KU_CMD_STATUS_RESULT 0 = 1 ∧ t.sram = (s.stores l).sram ∧
      t.rd .KU_STATUS 0 = s.rd .KU_STATUS 0) ∧
  (∀ (req : Requester) (l : Stores) (e w : List Bool) (x : List (Fin 4 × Nat)) (s : State), s.PlatOpen req → fromDie0 req = false →
    exec (.kuDeriveFw req l) s = .next ((s.stores l).report 0 0x7006 (s.stores l).kuDie) ∧
    exec (.kuBind req l e w x) s = .next ((s.stores l).report 0 0x7006 (s.stores l).kuDie)) ∧
  (∀ (d : DieId) (s : State), s.platLive = true → s.present d.val = true → d.val ∉ s.keys.bad →
    RunsTo (.keyUnitFault d) s fun t => d.val ∈ t.keys.bad ∧ d.val ∉ t.keys.sealing ∧
      t.keys.holds0 = (s.keys.holds0 && decide (d.val ≠ 0)) ∧ t.keys.holds1 = (s.keys.holds1 && decide (d.val ≠ 1)) ∧
      t.flag Fld.KU_STATUS_IDENTITY 0 = t.identity ∧ t.flag Fld.KU_STATUS_STANDBY_OK 0 = t.keys.holds1 ∧
      (d.val = 0 → s.keys.holds0 = true → s.keys.holds1 = true → t.flag Fld.KU_STATUS_ACTIVE_DIE 0 = true ∧
        t.keys.leases.map (fun x => x.marks) = s.keys.leases.map fun x => min (x.marks + 1) 0xFFFFFFFF)) ∧
  (∀ (req : Requester) (l : Stores) (e w : List Bool) (x : List (Fin 4 × Nat)) (s : State), s.PlatOpen req → fromDie0 req = true →
    s.identity = false →
    exec (.kuBind req l e w x) s =
      .next ((((s.stores l).modKeys fun k => { k with nonce := none }).kuFault 0x7003).kuDone 1)) ∧
  (∀ (req : Requester) (l : Stores) (e w : List Bool) (x : List (Fin 4 × Nat)) (s : State), s.PlatOpen req → fromDie0 req = true →
    s.identity = true → (s.getF Fld.MC_STATUS_VAULT 0 = 0 ∨ s.getF Fld.MC_STATUS_VAULT 0 = 3) →
    exec (.kuBind req l e w x) s =
      .next ((((s.stores l).modKeys fun k => { k with nonce := none }).kuFault 0x7003).kuDone 2)) ∧
  (∀ (req : Requester) (l : Stores) (x : List (Fin 4 × Nat)) (dir key : List Byte) (s u : State), s.PlatOpen req →
    fromDie0 req = true → u = s.stores l → dir = u.sramBytes 0 ((s.rd .KU_ARG 0).toNat + 0x2000) 128 → s.identity = true →
    s.getF Fld.MC_STATUS_VAULT 0 = 1 → s.directoryBad dir = false → s.sealKey 0 = some key →
    RunsTo (.kuBind req l [] [] x) s fun t => t.keys.nonce = none ∧ t.vault.directory = dir ∧
      (∀ d, s.present d = true → t.getF Fld.MC_STATUS_VAULT d = 3) ∧ t.getF Fld.KU_CMD_STATUS_RESULT 0 = 0 ∧
      t.flag Fld.KU_CMD_STATUS_DONE 0 = true ∧ t.sram = u.sram ∧
      .vaultErase 0 0 (s.vaultBlockBytes 0) ∈ t.outputs ∧ (∃ w, .vaultWrite 0 0 w ∈ t.outputs)) ∧
  (∀ (req : Requester) (l : Stores) (x : List (Fin 4 × Nat)) (dir key : List Byte) (s u : State), s.PlatOpen req →
    fromDie0 req = true → u = s.stores l → dir = u.sramBytes 0 ((s.rd .KU_ARG 0).toNat + 0x2000) 128 → s.identity = true →
    s.getF Fld.MC_STATUS_VAULT 0 = 1 → s.directoryBad dir = false → s.sealKey 0 = some key → s.vaultNand 0 = false →
    RunsTo (.kuBind req l [false] [] x) s fun t => t.getF Fld.MC_STATUS_VAULT 0 = 1 ∧
      t.getF Fld.KU_CMD_STATUS_RESULT 0 = 5 ∧ t.vault.directory = s.vault.directory) ∧
  (∀ (req : Requester) (l : Stores) (e w : List Bool) (x : List (Fin 4 × Nat)) (s u : State), s.PlatOpen req → fromDie0 req = true →
    u = s.stores l → s.identity = true → s.getF Fld.MC_STATUS_VAULT 0 = 1 →
    s.directoryBad (u.sramBytes 0 ((s.rd .KU_ARG 0).toNat + 0x2000) 128) = true →
    exec (.kuBind req l e w x) s = .next (((u.modKeys fun k => { k with nonce := none }).kuFault 0x7003).kuDone 4))

/-- R333: the MCTP control commands: Set Endpoint ID keeps the ID and answers it, refusing 0x00 and 0xFF; Get Endpoint ID
answers it; the supported message types are control and SPDM. (The bytes of an answer are PRESUMED from MCTP: assumptions/94.)
R329, R335, R337: the signing unit answers the request at the head of its queue from the snapshot it took, over SPDM with the
part's own nonce and its signature; without an identity the answer is Unspecified. An empty queue has nothing to sign. -/
def Obligations.MctpAndSigning : Prop :=
  (∀ (e : Byte) (s : State), s.mctpLive = true → e ≠ 0 → e ≠ 0xFF →
    RunsTo (.setEndpointId e) s fun t => t = { s with keys := { s.keys with eid := e }, outputs := t.outputs } ∧
      t.outputs = s.outputs ++ [.mctp 0x01 [0, 0, e, 0]]) ∧
  (∀ (e : Byte) (s : State), s.mctpLive = true → (e = 0 ∨ e = 0xFF) →
    RunsTo (.setEndpointId e) s fun t => t.keys = s.keys) ∧
  (∀ (s : State), s.mctpLive = true → exec .getEndpointId s = .next (s.emit (.mctp 0x02 [0, s.keys.eid, 0, 0]))) ∧
  (∀ (s : State), s.mctpLive = true → exec .getMessageTypeSupport s = .next (s.emit (.mctp 0x05 [0, 2, 0x00, 0x05]))) ∧
  (∀ (s : State), s.mctpLive = true →
    RunsTo .getMctpVersionSupport s fun t => t = { s with free := s.free + 1, outputs := t.outputs } ∧
      ∃ b, t.outputs = s.outputs ++ [.mctp 0x04 b]) ∧
  (∀ (m : MemAccess) (s : State), s.platLive = true → s.keys.queue = [] → exec (.signingComplete m) s = .next s) ∧
  (∀ (a : MemAccess) (e : Byte) (i : Nat) (n p : List Byte) (c : Digest) (s : State), s.platLive = true → s.hifLive = true →
    s.keys.queue = [{ kind := .measure e i n, snap := some p }] → s.keys.cdi0 = some c → s.identity = true →
    (s.conn e).isSome = true →
    RunsTo (.signingComplete a) s fun t => t.keys = { s.keys with queue := [] } ∧ s.SameSram t ∧
      ∃ g, t.outputs = s.outputs ++ [.spdm e (.measurements s.blockIndexes.length (snapBlocks p)
        (some (sliceB (digestOf s.draw.1) 0 32, g)))]) ∧
  (∀ (a : MemAccess) (e : Byte) (m : Nat) (n p : List Byte) (c : Digest) (s : State), s.platLive = true → s.hifLive = true →
    s.keys.queue = [{ kind := .challenge e m n, snap := some p }] → s.keys.cdi0 = some c → s.identity = true →
    (s.conn e).isSome = true →
    RunsTo (.signingComplete a) s fun t => t.keys = { s.keys with queue := [] } ∧
      ∃ g, t.outputs = s.outputs ++ [.spdm e (.challengeAuth (if p = [] then none else some p)
        (sliceB (digestOf s.draw.1) 0 32) g)]) ∧
  (∀ (a : MemAccess) (e : Byte) (m : Nat) (n p : List Byte) (s : State), s.platLive = true →
    s.keys.queue = [{ kind := .challenge e m n, snap := some p }] → s.identity = false →
    RunsTo (.signingComplete a) s fun t => t.keys = { s.keys with queue := [] } ∧
      t.outputs = s.outputs ++ [.spdm e (.error .unspecified)])

/-- R333 to R337: SPDM. GET_VERSION opens or restarts a connection; a fifth endpoint hears Busy. The requests run in their
order; a request out of order hears UnexpectedRequest. With SPDM_EN clear every request hears UnsupportedRequest. An unsigned
GET_MEASUREMENTS is answered at once; a signed one and CHALLENGE wait for the signing unit with their snapshot, or, while an
epoch switches or a tree loads, hear ResponseNotReady and are taken up by RESPOND_IF_READY. -/
def Obligations.SpdmRequests : Prop :=
  (∀ (e : Byte) (s : State), s.mctpLive = true → s.flag Fld.KU_CTRL_SPDM_EN 0 = true →
    ((s.conn e).isSome = true ∨ s.keys.conns.length < 4) →
    RunsTo (.spdmGetVersion e) s fun t => t.conn e = some { eid := e, stage := 1, later := none } ∧
      t.outputs = s.outputs ++ [.spdm e .version]) ∧
  (∀ (e : Byte) (s : State), s.mctpLive = true → s.flag Fld.KU_CTRL_SPDM_EN 0 = true → s.conn e = none →
    4 ≤ s.keys.conns.length →
    RunsTo (.spdmGetVersion e) s fun t => t.keys = s.keys ∧ t.outputs = s.outputs ++ [.spdm e (.error .busy)]) ∧
  (∀ (e : Byte) (c : SpdmConn) (s : State), s.mctpLive = true → s.flag Fld.KU_CTRL_SPDM_EN 0 = true → s.conn e = some c →
    RunsTo (.spdmGetCapabilities e) s fun t => if c.stage = 1 then t.conn e = some { c with stage := 2 } ∧
        t.outputs = s.outputs ++ [.spdm e .capabilities]
      else t.keys = s.keys ∧ t.outputs = s.outputs ++ [.spdm e (.error .unexpectedRequest)]) ∧
  (∀ (e : Byte) (c : SpdmConn) (s : State), s.mctpLive = true → s.flag Fld.KU_CTRL_SPDM_EN 0 = true → s.conn e = some c →
    RunsTo (.spdmNegotiateAlgorithms e) s fun t => if c.stage = 2 then t.conn e = some { c with stage := 3 } ∧
        t.outputs = s.outputs ++ [.spdm e .algorithms]
      else t.keys = s.keys ∧ t.outputs = s.outputs ++ [.spdm e (.error .unexpectedRequest)]) ∧
  (∀ (e x y : Byte) (g : Bool) (n : List Byte) (s : State), s.mctpLive = true → s.flag Fld.KU_CTRL_SPDM_EN 0 = false →
    ∀ r ∈ [Instr.spdmGetVersion e, .spdmGetCapabilities e, .spdmNegotiateAlgorithms e, .spdmChallenge e x n,
        .spdmGetMeasurements e y g n, .spdmRespondIfReady e],
      RunsTo r s fun t => t.keys = s.keys ∧ t.outputs = s.outputs ++ [.spdm e (.error .unsupportedRequest)]) ∧
  (∀ (e y : Byte) (n : List Byte) (c : SpdmConn) (s : State), s.mctpLive = true → s.flag Fld.KU_CTRL_SPDM_EN 0 = true →
    s.conn e = some c → c.stage = 3 → (y = 0 ∨ y = 0xFF ∨ y.toNat ∈ s.blockIndexes) →
    RunsTo (.spdmGetMeasurements e y false n) s fun t => t.keys = s.keys ∧ s.SameSram t ∧
      t.outputs = s.outputs ++ [.spdm e (.measurements s.blockIndexes.length (s.blocksFor y.toNat) none)]) ∧
  (∀ (e y : Byte) (n : List Byte) (c : SpdmConn) (s : State), s.mctpLive = true → s.flag Fld.KU_CTRL_SPDM_EN 0 = true →
    s.conn e = some c → c.stage = 3 → y ≠ 0 → y ≠ 0xFF → y.toNat ∉ s.blockIndexes →
    RunsTo (.spdmGetMeasurements e y true n) s fun t => t.outputs = s.outputs ++ [.spdm e (.error .invalidRequest)]) ∧
  (∀ (e x : Byte) (n : List Byte) (c : SpdmConn) (s : State), s.mctpLive = true → s.flag Fld.KU_CTRL_SPDM_EN 0 = true →
    s.conn e = some c → c.stage = 3 → (x = 0 ∨ x = 1 ∨ x = 0xFF) → s.identity = true → s.snapBlocked = false →
    s.keys.queue = [] →
    RunsTo (.spdmChallenge e x n) s fun t => t.outputs = s.outputs ∧
      ∃ p, t.keys.queue = [{ kind := .challenge e x.toNat (sliceB n 0 32), snap := some p }]) ∧
  (∀ (e x : Byte) (n : List Byte) (c : SpdmConn) (s : State), s.mctpLive = true → s.flag Fld.KU_CTRL_SPDM_EN 0 = true →
    s.conn e = some c → c.stage = 3 → (x = 0 ∨ x = 1 ∨ x = 0xFF) → s.identity = true → s.snapBlocked = true →
    RunsTo (.spdmChallenge e x n) s fun t => t.outputs = s.outputs ++ [.spdm e (.error (.responseNotReady 14))] ∧
      t.conn e = some { c with later := some (.challenge e x.toNat (sliceB n 0 32)) } ∧ t.keys.queue = s.keys.queue) ∧
  (∀ (e x : Byte) (n : List Byte) (c : SpdmConn) (s : State), s.mctpLive = true → s.flag Fld.KU_CTRL_SPDM_EN 0 = true →
    s.conn e = some c → c.stage = 3 → (x = 0 ∨ x = 1 ∨ x = 0xFF) → s.identity = false →
    RunsTo (.spdmChallenge e x n) s fun t => t.outputs = s.outputs ++ [.spdm e (.error .unspecified)]) ∧
  (∀ (e : Byte) (c : SpdmConn) (k : SignKind) (s : State), s.mctpLive = true → s.flag Fld.KU_CTRL_SPDM_EN 0 = true →
    s.conn e = some c → c.later = some k → s.identity = true → s.snapBlocked = false → s.keys.queue = [] →
    RunsTo (.spdmRespondIfReady e) s fun t => t.conn e = some { c with later := none } ∧
      ∃ p, t.keys.queue = [{ kind := k, snap := some p }])

/-- R338 to R340: leases. LEASE_OPEN over present channels opens the named function's lease under the next LEASE_ID; a second
lease of the function, and a mask of absent channels, are refused. LEASE_CLOSE ends it, and without one fails. LEASE_EVIDENCE
without an identity is refused with reason 1 under 0x7004; otherwise it is queued for the signing unit. -/
def Obligations.Leases : Prop :=
  (∀ (f : FnId) (q : PairId) (n : Nat) (c : RingCmd) (g m : Nat) (s : State), s.hifLive = true → s.platLive = true →
    s.ringCmd f.val q.val n (fun op => decide (op = 0x09)) = some c → g = bitsOf (subArg c.words 0) 0 8 →
    m = subArg c.words 1 + 2 ^ 32 * subArg c.words 2 → g ≠ 0 → s.fnLive g = true → m < 2 ^ (8 * s.nDies) →
    s.leaseOf g = none →
    RunsTo (.leaseOpen f q n) s fun t =>
      t.keys.leases = s.keys.leases ++ [{ fn := g, id := s.keys.nextLease, mask := m, otOpen := s.ot, otMark := s.ot, marks := 0 }] ∧
      t.keys.nextLease = (s.keys.nextLease + 1) % 2 ^ 32 ∧
      t.hif = (s.ringEnd (pairNo f.val q.val) c.serial (BitVec.ofNat 32 s.keys.nextLease) 0 0).hif) ∧
  (∀ (f : FnId) (q : PairId) (n : Nat) (c : RingCmd) (s : State), s.hifLive = true → s.platLive = true →
    s.ringCmd f.val q.val n (fun op => decide (op = 0x09)) = some c → s.fnLive (bitsOf (subArg c.words 0) 0 8) = true →
    bitsOf (subArg c.words 0) 0 8 ≠ 0 → subArg c.words 1 + 2 ^ 32 * subArg c.words 2 < 2 ^ (8 * s.nDies) →
    (s.leaseOf (bitsOf (subArg c.words 0) 0 8)).isSome = true →
    exec (.leaseOpen f q n) s = .next (s.ringEnd (pairNo f.val q.val) c.serial 2 0 7)) ∧
  (∀ (f : FnId) (q : PairId) (n : Nat) (c : RingCmd) (s : State), s.hifLive = true → s.platLive = true →
    s.ringCmd f.val q.val n (fun op => decide (op = 0x09)) = some c →
    2 ^ (8 * s.nDies) ≤ subArg c.words 1 + 2 ^ 32 * subArg c.words 2 →
    exec (.leaseOpen f q n) s = .next (s.ringEnd (pairNo f.val q.val) c.serial 0 0 2)) ∧
  (∀ (f : FnId) (q : PairId) (n : Nat) (c : RingCmd) (s : State), s.hifLive = true → s.platLive = true →
    s.ringCmd f.val q.val n (fun op => decide (op = 0x0A)) = some c → s.keys.queue = [] →
    (s.leaseOf (bitsOf (subArg c.words 0) 0 8)).isSome = true →
    RunsTo (.leaseClose f q n) s fun t => t.leaseOf (bitsOf (subArg c.words 0) 0 8) = none ∧
      (∀ g, g ≠ bitsOf (subArg c.words 0) 0 8 → t.leaseOf g = s.leaseOf g) ∧
      t.hif = (s.ringEnd (pairNo f.val q.val) c.serial 0 0 0).hif) ∧
  (∀ (f : FnId) (q : PairId) (n : Nat) (c : RingCmd) (s : State), s.hifLive = true → s.platLive = true →
    s.ringCmd f.val q.val n (fun op => decide (op = 0x0A)) = some c → s.leaseOf (bitsOf (subArg c.words 0) 0 8) = none →
    exec (.leaseClose f q n) s = .next (s.ringEnd (pairNo f.val q.val) c.serial 3 0 7)) ∧
  (∀ (f : FnId) (q : PairId) (n : Nat) (c : RingCmd) (s : State), s.hifLive = true → s.platLive = true →
    s.ringCmd f.val q.val n (fun op => decide (op = 0x0B)) = some c → bufOk c.words 4992 = true → f.val ≠ 0 →
    (s.leaseOf f.val).isSome = true → s.identity = false →
    exec (.leaseEvidence f q n) s = .next ((s.report 0 0x7004 s.kuDie).ringEnd (pairNo f.val q.val) c.serial 1 0 7)) ∧
  (∀ (f : FnId) (q : PairId) (n : Nat) (c : RingCmd) (s : State), s.hifLive = true → s.platLive = true →
    s.ringCmd f.val q.val n (fun op => decide (op = 0x0B)) = some c → bufOk c.words 4992 = true → f.val ≠ 0 →
    (s.leaseOf f.val).isSome = true → s.identity = true → s.sigsBad (bitsOf (subArg c.words 1) 0 2) = false →
    s.keys.queue = [] → s.snapBlocked = false →
    RunsTo (.leaseEvidence f q n) s fun t => t.hif = (s.ringBegin (pairNo f.val q.val) c.serial).hif ∧
      ∃ p, t.keys.queue = [{
        kind := .evidence f.val q.val c.serial f.val ((List.range 8).flatMap fun k => leBytes 4 (subArg c.words (2 + k))) (bitsOf (subArg c.words 1) 0 2), snap := some p }])

/-! ## Host interface: rings, firmware inbox and service mailbox (Chapter 12) -/

/-- R354, R356, R358: doorbells. A tail makes the entries before it ready; a head returns completion entries and arms the
interrupt again. A tail beyond the ring, and a head past what the part wrote, put the pair into ERROR (0x8001). A pair that is
not enabled takes no doorbell; a pair whose context is not at hand keeps the last value of each. R353, R357, R358, R360: the
part writes the completion of a pair's oldest command once that command has ended, under the phase in force, and sends the armed
interrupt; a full completion queue holds it back; a write that fails puts the pair into ERROR under
0x8003, and a pair in ERROR completes nothing more. -/
def Obligations.DoorbellsAndCompletions : Prop :=
  (∀ (f : FnId) (q : PairId) (v : Word) (x : Pair) (s : State), s.hifLive = true → s.fnLive f.val = true →
    s.pairOn (pairNo f.val q.val) = true → s.pair (pairNo f.val q.val) = some x → x.error = false → x.deleting = none →
    RunsTo (.sqTail f q v) s fun t => s.SameSram t ∧ t.outputs = s.outputs ∧
      t.pair (pairNo f.val q.val) = some (if bitsOf v.toNat 0 16 < ringLen x.sqSize then { x with sqTail := bitsOf v.toNat 0 16 }
        else { x with error := true, fetched := none }) ∧
      ∀ p, p ≠ pairNo f.val q.val → t.pair p = s.pair p) ∧
  (∀ (f : FnId) (q : PairId) (v : Word) (x : Pair) (n h : Nat) (s : State), s.hifLive = true → s.fnLive f.val = true →
    s.pairOn (pairNo f.val q.val) = true → s.pair (pairNo f.val q.val) = some x → x.error = false → n = ringLen x.cqSize →
    h = bitsOf v.toNat 0 16 →
    RunsTo (.cqHead f q v) s fun t => s.SameSram t ∧ t.outputs = s.outputs ∧
      t.pair (pairNo f.val q.val) =
        some (if h < n ∧ (h + n - x.cqHead) % n ≤ (x.cqTail + n - x.cqHead) % n then { x with cqHead := h, irqArmed := true }
          else { x with error := true, fetched := none })) ∧
  (∀ (f : FnId) (q : PairId) (v : Word) (s : State), s.hifLive = true → s.pairOn (pairNo f.val q.val) = false →
    RunsTo (.sqTail f q v) s (fun t => t.hif = s.hif) ∧ RunsTo (.cqHead f q v) s fun t => t.hif = s.hif) ∧
  (∀ (f : FnId) (q : PairId) (v : Word) (s : State), s.hifLive = true → s.fnLive f.val = true →
    s.pairOn (pairNo f.val q.val) = true → s.pair (pairNo f.val q.val) = none →
    RunsTo (.sqTail f q v) s (fun t => (t.bell (pairNo f.val q.val)).1 = some (bitsOf v.toNat 0 16)) ∧
    RunsTo (.cqHead f q v) s fun t => (t.bell (pairNo f.val q.val)).2 = some (bitsOf v.toNat 0 16)) ∧
  (∀ (f : FnId) (q : PairId) (m : MemAccess) (x : Pair) (c : RingCmd) (l : List RingCmd) (r : Word × Word × Nat) (s : State),
    s.hifLive = true → (s.hostAccess m).1 = true →
    s.pair (pairNo f.val q.val) = some x → x.started = c :: l → c.done = some r → x.error = false → x.deleting = none →
    (x.cqTail + 1) % ringLen x.cqSize ≠ x.cqHead →
    RunsTo (.completionWrite f q m) s fun t =>
      .completion f.val q.val (completionWords x c r) ∈ t.outputs ∧
      (x.irqEn = true → x.irqArmed = true → bitOf (s.msixWord f.val (4 * x.vector + 3)) 0 = false →
        .msix f.val x.vector ∈ t.outputs) ∧
      t.pair (pairNo f.val q.val) = some { x with
        started := l, cqTail := (x.cqTail + 1) % ringLen x.cqSize
        phase := x.phase != decide (x.cqTail + 1 = ringLen x.cqSize)
        irqArmed := x.irqArmed && !x.irqEn }) ∧
  (∀ (f : FnId) (q : PairId) (m : MemAccess) (x : Pair) (c : RingCmd) (l : List RingCmd) (s : State), s.hifLive = true →
    s.pair (pairNo f.val q.val) = some x → x.started = c :: l → x.error = false →
    (c.done = none ∨ (x.cqTail + 1) % ringLen x.cqSize = x.cqHead) → exec (.completionWrite f q m) s = .next s) ∧
  (∀ (f : FnId) (q : PairId) (m : MemAccess) (x : Pair) (c : RingCmd) (l : List RingCmd) (r : Word × Word × Nat) (s : State),
    s.hifLive = true → (s.hostAccess m).1 = false →
    s.pair (pairNo f.val q.val) = some x → x.started = c :: l → c.done = some r → x.error = false → x.deleting = none →
    (x.cqTail + 1) % ringLen x.cqSize ≠ x.cqHead →
    RunsTo (.completionWrite f q m) s fun t => t.outputs = s.outputs ∧ bitOf (t.rd .HI_FAULT 0).toNat 2 = true ∧
      t.pair (pairNo f.val q.val) = some { x with started := l, error := true, fetched := none }) ∧
  (∀ (f : FnId) (q : PairId) (m : MemAccess) (x : Pair) (c : RingCmd) (l : List RingCmd) (r : Word × Word × Nat) (s : State),
    s.hifLive = true → s.pair (pairNo f.val q.val) = some x → x.started = c :: l → c.done = some r → x.error = true →
    x.deleting = none →
    RunsTo (.completionWrite f q m) s fun t => t.outputs = s.outputs ∧
      t.pair (pairNo f.val q.val) = some { x with started := l })

/-- R359 to R361: the part fetches a pair's next entry in ring order and starts it; an unknown opcode and one that its function
or pair may not issue end at once, with statuses 1 and 3; an entry under FENCE waits for the commands before it; an entry that
cannot be read puts the pair into ERROR. R349, R363, R374: the registers that set the rings up. HI_CTX_CTRL.EN is not cleared
while a pair is enabled. FN_ACTRL.EN creates pair 0 from the function's registers, or with no context area, or with a ring of
one entry, records REFUSED. Enabling the virtual functions, and disabling them, which takes their pairs away. -/
def Obligations.RingSetupAndStart : Prop :=
  (∀ (f : FnId) (q : PairId) (k w : List Word) (a m : MemAccess) (x : Pair) (s : State), s.hifLive = true →
    s.pairOn (pairNo f.val q.val) = true → s.flag Fld.HI_CTX_CTRL_EN 0 = true → s.pair (pairNo f.val q.val) = some x →
    x.error = false → x.deleting = none → x.fetched = none → x.started.length < 16 → x.sqHead ≠ x.sqTail →
    (s.hostAccess m).1 = true → (x.started = [] ∨ subWaits w = false) →
    RunsTo (.commandStart f q k a w m) s fun t => s.SameSram t ∧ t.hif.nextSerial = s.hif.nextSerial + 1 ∧
      t.pair (pairNo f.val q.val) = some { x with
        sqHead := (x.sqHead + 1) % ringLen x.sqSize
        started := x.started ++ [{
          serial := s.hif.nextSerial, words := w
          begun := (opExecutor (subOp w)).isNone || !s.opAllowed f.val q.val (subOp w)
          done := if (opExecutor (subOp w)).isNone then some (0, 0, 1)
            else if s.opAllowed f.val q.val (subOp w) then none else some (0, 0, 3) }] }) ∧
  (∀ (f : FnId) (q : PairId) (k w : List Word) (a m : MemAccess) (x : Pair) (s : State), s.hifLive = true →
    s.pairOn (pairNo f.val q.val) = true → s.flag Fld.HI_CTX_CTRL_EN 0 = true → s.pair (pairNo f.val q.val) = some x →
    x.error = false → x.deleting = none → x.fetched = none → x.started.length < 16 → x.sqHead ≠ x.sqTail →
    (s.hostAccess m).1 = true → x.started ≠ [] → subWaits w = true →
    RunsTo (.commandStart f q k a w m) s fun t => t.pair (pairNo f.val q.val) =
      some { x with sqHead := (x.sqHead + 1) % ringLen x.sqSize, fetched := some w }) ∧
  (∀ (f : FnId) (q : PairId) (k w : List Word) (a m : MemAccess) (x : Pair) (s : State), s.hifLive = true →
    s.pairOn (pairNo f.val q.val) = true → s.flag Fld.HI_CTX_CTRL_EN 0 = true → s.pair (pairNo f.val q.val) = some x →
    x.error = false → x.deleting = none → x.fetched = none → x.started.length < 16 → x.sqHead ≠ x.sqTail →
    (s.hostAccess m).1 = false →
    RunsTo (.commandStart f q k a w m) s fun t => t.pair (pairNo f.val q.val) = some { x with error := true }) ∧
  (∀ (f : FnId) (q : PairId) (k w : List Word) (a m : MemAccess) (s : State), s.pairOn (pairNo f.val q.val) = false →
    exec (.commandStart f q k a w m) s = .next s) ∧
  (∀ (req : Requester) (v : Word) (s : State), s.HifOpen req → s.hif.enabled ≠ [] → Fld.HI_CTX_CTRL_EN.of v = 0 →
    exec (.hiCtxCtrlWrite req v) s = .next s) ∧
  (∀ (req : Requester) (v : Word) (s : State), s.HifOpen req → (s.hif.enabled = [] ∨ Fld.HI_CTX_CTRL_EN.of v = 1) →
    RunsTo (.hiCtxCtrlWrite req v) s fun t => t.getF Fld.HI_CTX_CTRL_EN 0 = Fld.HI_CTX_CTRL_EN.of v ∧
      s.OnlyRegs t fun n _ => decide (n = .HI_CTX_CTRL)) ∧
  (∀ (f : FnId) (v : Word) (s : State), s.hifLive = true → s.fnLive f.val = true → s.flag Fld.FN_ACTRL_EN f.val = false →
    Fld.FN_ACTRL_EN.of v = 1 → s.flag Fld.HI_CTX_CTRL_EN 0 = true → s.getF Fld.FN_ASIZE_SQ_SIZE f.val ≠ 1 →
    s.getF Fld.FN_ASIZE_CQ_SIZE f.val ≠ 1 → s.hif.cache.length < 2048 →
    RunsTo (.fnActrlWrite f v) s fun t => t.flag Fld.FN_ACTRL_EN f.val = true ∧ t.flag Fld.FN_ACTRL_REFUSED f.val = false ∧
      t.pairOn (pairNo f.val 0) = true ∧ t.pair (pairNo f.val 0) =
        some (Pair.fresh ((s.rd .FN_ASQ_LO f.val).toNat + 2 ^ 32 * (s.rd .FN_ASQ_HI f.val).toNat)
          ((s.rd .FN_ACQ_LO f.val).toNat + 2 ^ 32 * (s.rd .FN_ACQ_HI f.val).toNat) (s.getF Fld.FN_ASIZE_SQ_SIZE f.val)
          (s.getF Fld.FN_ASIZE_CQ_SIZE f.val) (Fld.FN_ACTRL_VECTOR.of v) (decide (Fld.FN_ACTRL_IRQ_EN.of v = 1)))) ∧
  (∀ (f : FnId) (v : Word) (s : State), s.hifLive = true → s.fnLive f.val = true → s.flag Fld.FN_ACTRL_EN f.val = false →
    Fld.FN_ACTRL_EN.of v = 1 → (s.flag Fld.HI_CTX_CTRL_EN 0 = false ∨ s.getF Fld.FN_ASIZE_SQ_SIZE f.val = 1) →
    RunsTo (.fnActrlWrite f v) s fun t => t.flag Fld.FN_ACTRL_EN f.val = false ∧ t.flag Fld.FN_ACTRL_REFUSED f.val = true ∧
      t.hif = s.hif) ∧
  (∀ (n : Nat) (e : Bool) (s : State), s.hifLive = true → s.hif.vfEnable = false →
    RunsTo (.vfEnable n e) s fun t => t.hif = { s.hif with vfEnable := e, numVfs := min n 255 } ∧ s.SameSram t) ∧
  (∀ (n : Nat) (s : State), s.hifLive = true → s.hif.vfEnable = true →
    RunsTo (.vfEnable n false) s fun t => t.hif.vfEnable = false ∧
      ∀ p, p ∈ t.hif.enabled ↔ p ∈ s.hif.enabled ∧ (p / 128 = 0 ∨ s.hif.numVfs < p / 128))

/-- R361, R363 to R365: the host interface's own ring commands, and what each refuses as INVALID_FIELD (2): NOP; CREATE_PAIR,
which enables a fresh pair; DELETE_PAIR, which disables an idle pair and keeps a busy one until its commands have ended;
IDENTIFY, which writes 4 KiB to BUF. R442: COUNTER_READ writes a range of counters taken at one instant; a function other than
the physical one needs a lease over each channel it reads. -/
def Obligations.RingCommands : Prop :=
  (∀ (f : FnId) (q : PairId) (n : Nat) (c : RingCmd) (s : State), s.hifLive = true →
    s.ringCmd f.val q.val n (fun op => decide (op = 0x00)) = some c →
    RunsTo (.ringNop f q n) s fun t => t.RingDone (pairNo f.val q.val) c.serial 0 0 0 ∧ t.hif.enabled = s.hif.enabled ∧
      s.SameSram t ∧ t.outputs = s.outputs) ∧
  (∀ (f : FnId) (q : PairId) (n k : Nat) (c : RingCmd) (s : State), s.hifLive = true → q.val = 0 →
    s.ringCmd f.val q.val n (fun op => decide (op = 0x01)) = some c → k = bitsOf (subArg c.words 0) 0 7 → k ≠ 0 →
    k < s.qpMax f.val → s.pairOn (pairNo f.val k) = false → bitsOf (subArg c.words 5) 0 16 ≠ 1 →
    bitsOf (subArg c.words 5) 16 16 ≠ 1 → (subArg c.words 1 + 2 ^ 32 * subArg c.words 2) % 4096 = 0 →
    (subArg c.words 3 + 2 ^ 32 * subArg c.words 4) % 4096 = 0 → s.hif.cache.length < 2048 →
    RunsTo (.createPair f q n) s fun t => t.RingDone (pairNo f.val 0) c.serial 0 0 0 ∧ t.pairOn (pairNo f.val k) = true ∧
      t.pair (pairNo f.val k) = some (Pair.fresh (subArg c.words 1 + 2 ^ 32 * subArg c.words 2)
        (subArg c.words 3 + 2 ^ 32 * subArg c.words 4) (bitsOf (subArg c.words 5) 0 16) (bitsOf (subArg c.words 5) 16 16)
        (bitsOf (subArg c.words 6) 0 5) (bitOf (subArg c.words 6) 5))) ∧
  (∀ (f : FnId) (q : PairId) (n k : Nat) (c : RingCmd) (s : State), s.hifLive = true →
    s.ringCmd f.val q.val n (fun op => decide (op = 0x01)) = some c → k = bitsOf (subArg c.words 0) 0 7 →
    (k = 0 ∨ s.qpMax f.val ≤ k ∨ s.pairOn (pairNo f.val k) = true ∨ bitsOf (subArg c.words 5) 0 16 = 1) →
    RunsTo (.createPair f q n) s fun t => t.RingDone (pairNo f.val q.val) c.serial 0 0 2 ∧ t.hif.enabled = s.hif.enabled) ∧
  (∀ (f : FnId) (q : PairId) (n k : Nat) (c : RingCmd) (x : Pair) (s : State), s.hifLive = true → q.val = 0 →
    s.ringCmd f.val q.val n (fun op => decide (op = 0x02)) = some c → k = bitsOf (subArg c.words 0) 0 7 → k ≠ 0 →
    s.pairOn (pairNo f.val k) = true → s.pair (pairNo f.val k) = some x → x.started = [] → x.fetched = none →
    x.deleting = none → RunsTo (.deletePair f q n) s fun t => t.RingDone (pairNo f.val 0) c.serial 0 0 0 ∧ t.pairOn (pairNo f.val k) = false ∧
      t.pair (pairNo f.val k) = none) ∧
  (∀ (f : FnId) (q : PairId) (n k : Nat) (c : RingCmd) (x : Pair) (s : State), s.hifLive = true → q.val = 0 →
    s.ringCmd f.val q.val n (fun op => decide (op = 0x02)) = some c → k = bitsOf (subArg c.words 0) 0 7 → k ≠ 0 →
    s.pairOn (pairNo f.val k) = true → s.pair (pairNo f.val k) = some x → x.started ≠ [] → x.fetched = none →
    x.deleting = none → RunsTo (.deletePair f q n) s fun t => t.pairOn (pairNo f.val k) = true ∧
      t.pair (pairNo f.val k) = some { x with sqTail := x.sqHead, deleting := some c.serial }) ∧
  (∀ (f : FnId) (q : PairId) (n k : Nat) (c : RingCmd) (s : State), s.hifLive = true →
    s.ringCmd f.val q.val n (fun op => decide (op = 0x02)) = some c → k = bitsOf (subArg c.words 0) 0 7 →
    (k = 0 ∨ s.pairOn (pairNo f.val k) = false) →
    RunsTo (.deletePair f q n) s fun t => t.RingDone (pairNo f.val q.val) c.serial 0 0 2 ∧ t.hif.enabled = s.hif.enabled) ∧
  (∀ (f : FnId) (q : PairId) (n : Nat) (m : MemAccess) (c : RingCmd) (s : State), s.hifLive = true →
    s.ringCmd f.val q.val n (fun op => decide (op = 0x03)) = some c →
    RunsTo (.identify f q n m) s fun t => if bufOk c.words 4096 = false then t.RingDone (pairNo f.val q.val) c.serial 0 0 2
      else if (s.hostAccess m).1 = true then t.RingDone (pairNo f.val q.val) c.serial 0 0 0 ∧
        t.outputs = s.outputs ++ [.hostWrite (subBuf c.words) (s.identifyBytes f.val)]
      else t.RingDone (pairNo f.val q.val) c.serial 0 0 5 ∧ t.outputs = s.outputs) ∧
  (∀ (f : FnId) (q : PairId) (n d e m : Nat) (a : MemAccess) (c : RingCmd) (s : State), s.hifLive = true → f.val = 0 →
    s.ringCmd f.val q.val n (fun op => decide (op = 0x10)) = some c → d = bitsOf (subArg c.words 0) 0 3 →
    e = bitsOf (subArg c.words 1) 0 10 → m = bitsOf (subArg c.words 2) 0 11 → s.present d = true → m ≠ 0 → e + m ≤ 1024 →
    bufOk c.words (8 * m) = true → (s.hostAccess a).1 = true →
    RunsTo (.counterRead f q n a) s fun t => t.RingDone (pairNo f.val q.val) c.serial (BitVec.ofNat 32 m) 0 0 ∧
      t.outputs = s.outputs ++ [.hostWrite (subBuf c.words) ((List.range m).flatMap fun k => s.counterBytes d (e + k))] ∧
      ∀ i, t.rd .OB_CNT i = (s.hostAccess a).2.rd .OB_CNT i) ∧
  (∀ (f : FnId) (q : PairId) (n m : Nat) (a : MemAccess) (c : RingCmd) (s : State), s.hifLive = true → f.val ≠ 0 →
    s.ringCmd f.val q.val n (fun op => decide (op = 0x10)) = some c → s.present (bitsOf (subArg c.words 0) 0 3) = true →
    m = bitsOf (subArg c.words 2) 0 11 → m ≠ 0 → bitsOf (subArg c.words 1) 0 10 + m ≤ 1024 → bufOk c.words (8 * m) = true →
    s.leaseOf f.val = none →
    RunsTo (.counterRead f q n a) s fun t => t.RingDone (pairNo f.val q.val) c.serial 0 0 3 ∧ t.outputs = s.outputs)

/-- R370 to R372: the firmware inbox. A firmware command takes a free slot, its entry and its TAG; with no slot free it waits. A
read of HI_FW_TAKE hands out the oldest queued slot. HI_FW_DONE under the slot's TAG completes the command and frees the slot;
under another TAG it is discarded. A command that firmware does not answer in time completes as TIMEOUT (8). -/
def Obligations.FirmwareInbox : Prop :=
  (∀ (f : FnId) (q : PairId) (n k : Nat) (c : RingCmd) (x : List Byte) (m : MemAccess) (s : State), s.hifLive = true →
    s.platLive = true → s.reached 0 = true → s.ringCmd f.val q.val n (fun op => decide (0x40 ≤ op)) = some c →
    subIn c.words = false → subOut c.words = false → s.inbox.freeSlot = some k →
    RunsTo (.firmwareCommand f q n x m) s fun t =>
      t.inbox.slots = s.inbox.slots ++ [(k, { tag := Tbl.get s.inbox.tags k 0, pair := pairNo f.val q.val, serial := c.serial, words := c.words, us := s.us })] ∧
      t.inbox.queue = s.inbox.queue ++ [k] ∧ t.hif = (s.ringBegin (pairNo f.val q.val) c.serial).hif ∧
      ∀ o, o < 64 → t.sramRead 0 (s.inboxAddr k + o) = byteAt (((c.words.take 1) ++ [BitVec.ofNat 32 (f.val + 256 * q.val)] ++
        (c.words.drop 2)).flatMap fun x => leBytes 4 x.toNat) o) ∧
  (∀ (f : FnId) (q : PairId) (n : Nat) (c : RingCmd) (x : List Byte) (m : MemAccess) (s : State), s.hifLive = true →
    s.platLive = true → s.reached 0 = true → s.ringCmd f.val q.val n (fun op => decide (0x40 ≤ op)) = some c →
    subIn c.words = false → subOut c.words = false → s.inbox.freeSlot = none →
    exec (.firmwareCommand f q n x m) s = .next s) ∧
  (∀ (req : Requester) (k : Nat) (l : List Nat) (x : InSlot) (s : State), s.PlatOpen req → fromDie0 req = true →
    s.inbox.queue = k :: l → (s.inbox.slots.find? fun y => decide (y.1 = k)) = some (k, x) →
    RunsTo (.hiFwTakeRead req) s fun t => t.inbox = { s.inbox with queue := l } ∧ s.SameSram t ∧
      t.outputs = s.outputs ++ [.readData (BitVec.ofNat 32 (k + 2 ^ 8 * x.tag + 2 ^ 31))]) ∧
  (∀ (req : Requester) (s : State), s.PlatOpen req → s.inbox.queue = [] →
    exec (.hiFwTakeRead req) s = .next (s.emit (.readData 0))) ∧
  (∀ (req : Requester) (v : Word) (l : Stores) (m : MemAccess) (k : Nat) (x : InSlot) (s : State), s.PlatOpen req →
    fromDie0 req = true → s.hifLive = true → k = Fld.HI_FW_DONE_SLOT.of v →
    (s.inbox.slots.find? fun y => decide (y.1 = k)) = some (k, x) → x.tag = Fld.HI_FW_DONE_TAG.of v →
    subOut x.words = false → s.ringHeld x.pair x.serial = true →
    RunsTo (.hiFwDone req v l m) s fun t =>
      t.RingDone x.pair x.serial (s.rd .HI_FW_RES0 0) (s.rd .HI_FW_RES1 0) (Fld.HI_FW_DONE_STATUS.of v) ∧
      (∀ y ∈ t.inbox.slots, y.1 ≠ k) ∧ t.outputs = s.outputs) ∧
  (∀ (req : Requester) (v : Word) (l : Stores) (m : MemAccess) (x : InSlot) (s : State), s.PlatOpen req →
    (s.inbox.slots.find? fun y => decide (y.1 = Fld.HI_FW_DONE_SLOT.of v)) = some (Fld.HI_FW_DONE_SLOT.of v, x) →
    x.tag ≠ Fld.HI_FW_DONE_TAG.of v → exec (.hiFwDone req v l m) s = .next (s.stores l)) ∧
  (∀ (k : Fin 16) (x : InSlot) (s : State), s.platLive = true →
    (s.inbox.slots.find? fun y => decide (y.1 = k.val)) = some (k.val, x) →
    1000 * max 1 (s.getF Fld.HI_CTRL_FW_TIMEOUT_MS 0) ≤ s.usSince x.us → s.ringHeld x.pair x.serial = true →
    RunsTo (.fwTimeout k) s fun t => t.RingDone x.pair x.serial 0 0 8 ∧ (∀ y ∈ t.inbox.slots, y.1 ≠ k.val) ∧
      bitOf (t.rd .HI_FAULT 0).toNat 3 = true)

/-- R376 to R379, R382: the mailbox. Every frame first shifts the status byte out. WRITE applies its words to BAR0 as accesses;
while BUSY, or with WR_EN clear, it is refused and ERR sets. READ_REQ takes the buffer and sets BUSY; when its last word is
there, READY sets. READ_DATA shifts the buffer out, or 0xFF. A frame that never ends sets ERR. -/
def Obligations.MailboxReadsAndWrites : Prop :=
  (∀ (a : Word) (l : List Word) (s : State), s.platLive = true → s.mbx.busy = false → s.flag Fld.MB_CTRL_WR_EN 0 = true →
    l.length ≤ 64 → l.length ≤ (0x1000 - a.toNat / 4 * 4 % 0x1000) / 4 →
    exec (.mbWrite a l false) s = .next ((s.mbSend s.mbStatus []).mbApply (a.toNat / 4 * 4) l)) ∧
  (∀ (a : Word) (l : List Word) (b : Bool) (s : State), s.platLive = true →
    (s.mbx.busy = true ∨ s.flag Fld.MB_CTRL_WR_EN 0 = false) →
    RunsTo (.mbWrite a l b) s fun t => t.mbx = { s.mbx with err := true } ∧ s.SameSram t ∧
      t.outputs = s.outputs ++ [.mailbox [BitVec.ofNat 8 s.mbStatus]]) ∧
  (∀ (a : Word) (n : Byte) (s : State), s.platLive = true → s.mbx.busy = false →
    RunsTo (.mbReadReq a n false) s fun t => t.mbx = { s.mbx with
      busy := true, ready := false, words := []
      req := some (a.toNat / 4 * 4, if n = 0 then 64 else min n.toNat 64) } ∧
      t.outputs = s.outputs ++ [.mailbox [BitVec.ofNat 8 s.mbStatus]]) ∧
  (∀ (b : Bool) (a n : Nat) (s : State), s.platLive = true → s.mbx.req = some (a, n) →
    RunsTo (.mbReadBufferReady b) s fun t => t.mbx.busy = false ∧ t.mbx.ready = true ∧ t.mbx.req = none ∧
      t.mbx.words.length = n ∧
      t.mbx.words = (s.mbFetch a b (pageWords a n)).1 ++ List.replicate (n - pageWords a n) 0xFFFFFFFF) ∧
  (∀ (b : Bool) (s : State), s.mbx.req = none → exec (.mbReadBufferReady b) s = .next s) ∧
  (∀ (n : Nat) (s : State), s.platLive = true → s.mbx.ready = true → n ≤ (beWords s.mbx.words).length →
    RunsTo (.mbReadData n) s fun t => t.mbx = s.mbx ∧
      t.outputs = s.outputs ++ [.mailbox (BitVec.ofNat 8 s.mbStatus :: (beWords s.mbx.words).take n)]) ∧
  (∀ (n : Nat) (s : State), s.platLive = true → s.mbx.ready = false →
    RunsTo (.mbReadData n) s fun t => t.mbx = s.mbx ∧
      t.outputs = s.outputs ++ [.mailbox (BitVec.ofNat 8 s.mbStatus :: List.replicate n 0xFF)]) ∧
  (∀ (s : State), s.platLive = true → RunsTo .mailboxFrameTimeout s fun t => t.mbx = { s.mbx with err := true } ∧ s.SameSram t)

/-- R375, R377, R383, R384: CLEAR, SET_QUAD, RESET with its key and its scope, and messages: MSG_SEND fills the inbox unless it
is full; MSG_RECV shifts the outbox out and frees it once every word has gone; firmware posts and frees them by MB_OUTLEN and
MB_INLEN. R385: rescue over the mailbox. Chunks arrive in order of their offset and build the colophon, its tree and the blocks;
a chunk already taken is ignored; one out of order, or outside a rescue, is refused and ERR sets; ten idle seconds stop the
transfer. -/
def Obligations.MailboxControl : Prop :=
  (∀ (s : State), s.platLive = true → RunsTo .mbClear s fun t => t.mbx = { s.mbx with overrun := false, err := false } ∧
    t.outputs = s.outputs ++ [.mailbox [BitVec.ofNat 8 s.mbStatus]]) ∧
  (∀ (s : State), s.platLive = true → RunsTo (.mbSetQuad 0) s (fun t => t.mbx = { s.mbx with quad := false }) ∧
    RunsTo (.mbSetQuad 1) s fun t => t.mbx = { s.mbx with quad := true }) ∧
  (∀ (a : Byte) (k : Word) (s : State), s.platLive = true → k ≠ 0x52535421 →
    RunsTo (.mbReset a k) s fun t => t.mbx = { s.mbx with err := true } ∧ t.seq = s.seq) ∧
  (∀ (s : State), s.platLive = true →
    exec (.mbReset 1 0x52535421) s = .next ((s.mbSend s.mbStatus []).recognise .hifCmd 0 [])) ∧
  (∀ (s : State), s.platLive = true → s.flag Fld.MB_CTRL_RESET_EN 0 = true →
    exec (.mbReset 2 0x52535421) s = .next ((s.mbSend s.mbStatus []).recognise .mailboxPart 0 [])) ∧
  (∀ (s : State), s.platLive = true → s.flag Fld.MB_CTRL_RESET_EN 0 = false →
    RunsTo (.mbReset 2 0x52535421) s fun t => t.mbx = { s.mbx with err := true } ∧ t.seq = s.seq) ∧
  (∀ (n : Byte) (l : List Word) (s : State), s.platLive = true → s.mbx.busy = false → s.flag Fld.MB_INLEN_FULL 0 = false →
    n ≠ 0 → n.toNat ≤ 64 → n.toNat ≤ l.length →
    RunsTo (.mbMsgSend n l false) s fun t => t.flag Fld.MB_INLEN_FULL 0 = true ∧ t.getF Fld.MB_INLEN_WORDS 0 = n.toNat ∧
      (∀ k, k < n.toNat → t.rd .MB_INBOX k = l.getD k 0) ∧ t.mbx = s.mbx) ∧
  (∀ (n : Byte) (l : List Word) (b : Bool) (s : State), s.platLive = true → s.flag Fld.MB_INLEN_FULL 0 = true →
    RunsTo (.mbMsgSend n l b) s fun t => t.mbx = { s.mbx with err := true } ∧ ∀ k, t.rd .MB_INBOX k = s.rd .MB_INBOX k) ∧
  (∀ (n : Nat) (s : State), s.platLive = true → s.flag Fld.MB_OUTLEN_FULL 0 = true → n = 1 + 4 * s.outWords →
    RunsTo (.mbMsgRecv n) s fun t => t.flag Fld.MB_OUTLEN_FULL 0 = false ∧ t.mbx = s.mbx ∧
      t.outputs = s.outputs ++ [.mailbox (BitVec.ofNat 8 s.mbStatus :: BitVec.ofNat 8 s.outWords ::
        beWords ((List.range s.outWords).map fun k => s.rd .MB_OUTBOX k))]) ∧
  (∀ (n : Nat) (s : State), s.platLive = true → s.flag Fld.MB_OUTLEN_FULL 0 = true → n < 1 + 4 * s.outWords →
    RunsTo (.mbMsgRecv n) s fun t => t.flag Fld.MB_OUTLEN_FULL 0 = true) ∧
  (∀ (req : Requester) (v : Word) (s : State), s.PlatOpen req → fromDie0 req = true → Fld.MB_OUTLEN_FULL.of v = 1 →
    RunsTo (.mbOutlenWrite req v) s fun t => t.flag Fld.MB_OUTLEN_FULL 0 = true ∧
      t.getF Fld.MB_OUTLEN_WORDS 0 = Fld.MB_OUTLEN_WORDS.of v ∧ s.OnlyRegs t fun n _ => decide (n = .MB_OUTLEN)) ∧
  (∀ (req : Requester) (v : Word) (s : State), s.PlatOpen req → fromDie0 req = true → Fld.MB_INLEN_FULL.of v = 1 →
    RunsTo (.mbInlenWrite req v) s fun t => t.flag Fld.MB_INLEN_FULL 0 = false ∧
      s.OnlyRegs t fun n _ => decide (n = .MB_INLEN)) ∧
  (∀ (req : Requester) (v : Word) (s : State), s.PlatOpen req → fromDie0 req = false →
    exec (.mbOutlenWrite req v) s = .next s ∧ exec (.mbInlenWrite req v) s = .next s) ∧
  (∀ (o : Word) (b : List Byte) (x : Rescue) (s : State), s.platLive = true → s.mbx.busy = false → s.mbRescue = true →
    256 ≤ b.length → s.boot.rescue = some x → o.toNat = x.next → x.buf.length + 256 < x.unit →
    RunsTo (.mbRescueData o b false) s fun t => s.SameSram t ∧ t.mbx = s.mbx ∧
      t.boot.rescue = some { x with since := s.us, next := x.next + 256, buf := x.buf ++ b.take 256 }) ∧
  (∀ (b : List Byte) (s : State), s.platLive = true → s.mbx.busy = false → s.mbRescue = true → 256 ≤ b.length →
    s.boot.rescue = none →
    RunsTo (.mbRescueData 0 b false) s fun t => t.boot.rescue =
      some { since := s.us, next := 256, buf := b.take 256, colophon := [], groups := [], image := none, ralver := false }) ∧
  (∀ (o : Word) (b : List Byte) (x : Rescue) (s : State), s.platLive = true → s.mbx.busy = false → s.mbRescue = true →
    256 ≤ b.length → s.boot.rescue = some x → o.toNat < x.next →
    RunsTo (.mbRescueData o b false) s fun t => t.boot = s.boot ∧ t.mbx = s.mbx) ∧
  (∀ (o : Word) (b : List Byte) (c : Bool) (s : State), s.platLive = true → (s.mbx.busy = true ∨ s.mbRescue = false) →
    RunsTo (.mbRescueData o b c) s fun t => t.boot = s.boot ∧ t.mbx = { s.mbx with err := true }) ∧
  (∀ (x : Rescue) (s : State), s.platLive = true → s.boot.rescue = some x → x.ralver = false → 10000000 ≤ s.usSince x.since →
    RunsTo .rescueTimeout s fun t => t.boot.rescue = none ∧ s.SameSram t ∧ t.outputs = s.outputs)

/-! ## Ralver (Chapter 13) -/

/-- R387 to R392: the link. A port that comes up restarts its sequences and sends IDENT; one that goes down loses its parcels,
is 0xC001, and in a loop makes the part send BREAK out of the other port. A good parcel in sequence is acknowledged and taken; a
bad one is refused once, under 0xC002, and those after it are dropped. An acknowledge releases kept parcels; a negative
acknowledge, or 100 µs without one (0xC002), sends them again, and the third resend of one parcel takes the port down. -/
def Obligations.RalverLink : Prop :=
  (∀ (p : Bool) (s : State), s.rlvLive = true → (s.rvPort p).up = false →
    RunsTo (.portUp p) s fun t => (t.rvPort p).up = true ∧ (t.rvPort p).rx = 0 ∧ (t.rvPort p).tx = 1 ∧
      t.flag (if p then Fld.RV_STATUS_DN_LINK else Fld.RV_STATUS_UP_LINK) 0 = true ∧ t.rvPort (!p) = s.rvPort (!p) ∧
      ∃ x, x.type = 0x01 ∧ (t.rvPort p).kept = [x] ∧ t.outputs = s.outputs ++ [.parcel p x]) ∧
  (∀ (p : Bool) (s : State), s.rlvLive = true → (s.rvPort p).up = true →
    RunsTo (.portDown p) s fun t => t.rvPort p = RvPort.reset ∧ bitOf (t.rd .RV_FAULT 0).toNat 0 = true ∧
      t.flag (if p then Fld.RV_STATUS_DN_LINK else Fld.RV_STATUS_UP_LINK) 0 = false ∧
      (s.flag Fld.RV_STATUS_LOOP 0 = false → t.outputs = s.outputs) ∧
      (s.flag Fld.RV_STATUS_LOOP 0 = true → (s.rvPort !p).up = true →
        ∃ x, x.type = 0x04 ∧ t.outputs = s.outputs ++ [.parcel (!p) x])) ∧
  (∀ (p : Bool) (x : Parcel) (s : State), s.rlvLive = true → (s.rvPort p).up = true → x.lseq.toNat = (s.rvPort p).rx →
    s.rvStale x = false → rvKnown x.type.toNat = true →
    RunsTo (.parcelReceive p x true) s fun t => t.rv.inq = s.rv.inq ++ [(p, x)] ∧
      t.rvPort p = { s.rvPort p with rx := ((s.rvPort p).rx + 1) % 256, discard := false } ∧ s.SameSram t ∧
      t.outputs = s.outputs ++ [.linkAck p false x.lseq]) ∧
  (∀ (p : Bool) (x : Parcel) (s : State), s.rlvLive = true → (s.rvPort p).up = true → x.lseq.toNat = (s.rvPort p).rx →
    s.rvStale x = true → RunsTo (.parcelReceive p x true) s fun t => t.rv.inq = s.rv.inq ∧
      t.outputs = s.outputs ++ [.linkAck p false x.lseq]) ∧
  (∀ (p c : Bool) (x : Parcel) (s : State), s.rlvLive = true → (s.rvPort p).up = true →
    (c = false ∨ x.lseq.toNat ≠ (s.rvPort p).rx) → (s.rvPort p).discard = false →
    RunsTo (.parcelReceive p x c) s fun t => t.rv.inq = s.rv.inq ∧ t.rvPort p = { s.rvPort p with discard := true } ∧
      bitOf (t.rd .RV_FAULT 0).toNat 1 = true ∧
      t.outputs = s.outputs ++ [.linkAck p true (BitVec.ofNat 8 (s.rvPort p).rx)]) ∧
  (∀ (p c : Bool) (x : Parcel) (s : State), s.rlvLive = true → (s.rvPort p).up = true →
    (c = false ∨ x.lseq.toNat ≠ (s.rvPort p).rx) → (s.rvPort p).discard = true →
    exec (.parcelReceive p x c) s = .next s) ∧
  (∀ (p : Bool) (x : Parcel) (l : List Parcel) (s : State), s.rlvLive = true → (s.rvPort p).up = true →
    (s.rvPort p).kept = x :: l →
    RunsTo (.linkAck p false x.lseq) s fun t => t.rvPort p = (s.rvPort p).keep l s.us ∧
      t.outputs = s.outputs ∧ t.rvPort (!p) = s.rvPort (!p)) ∧
  (∀ (p : Bool) (x : Parcel) (l : List Parcel) (s : State), s.rlvLive = true → (s.rvPort p).up = true →
    (s.rvPort p).kept = x :: l → ((s.rvPort p).resent (x :: l) s.us).spent (x :: l) = false →
    RunsTo (.linkAck p true x.lseq) s (fun t => t.outputs = s.outputs ++ (x :: l).map (fun y => .parcel p y) ∧
      t.rvPort p = (s.rvPort p).resent (x :: l) s.us) ∧
    (100 ≤ s.usSince (s.rvPort p).since → RunsTo (.resendTimeout p) s fun t =>
      t.outputs = s.outputs ++ (x :: l).map (fun y => .parcel p y) ∧ bitOf (t.rd .RV_FAULT 0).toNat 1 = true ∧
      t.rvPort p = (s.rvPort p).resent (x :: l) s.us)) ∧
  (∀ (p : Bool) (x : Parcel) (l : List Parcel) (s : State), s.rlvLive = true → (s.rvPort p).up = true →
    (s.rvPort p).kept = x :: l → ((s.rvPort p).resent (x :: l) s.us).spent (x :: l) = true →
    RunsTo (.linkAck p true x.lseq) s (fun t => t.rvPort p = RvPort.reset ∧ bitOf (t.rd .RV_FAULT 0).toNat 0 = true) ∧
    (100 ≤ s.usSince (s.rvPort p).since → RunsTo (.resendTimeout p) s fun t => t.rvPort p = RvPort.reset))

/-- R393, R394: the roll call. The head takes position 0 and asks the next part; each part takes the position it is given and
hands the next one on, or at the tail, or at the head of a loop, tells the chain its length; ROLLDONE and BREAK set what they carry. A part that is not
head may not start one (0xC007), and the 1,025th part has no position (0xC004). -/
def Obligations.RollCall : Prop :=
  (∀ (req : Requester) (v : Word) (s : State), s.RlvOpen req → fromDie0 req = true →
    ((s.rvPort false).up = false ∨ s.flag Fld.RV_CTRL_HEAD 0 = true) → (s.rvPort true).up = true →
    RunsTo (.rollcall req v) s fun t => t.getF Fld.RV_STATUS_POSITION 0 = 0 ∧ t.flag Fld.RV_STATUS_POS_VALID 0 = true ∧
      ∃ x l, t.outputs = s.outputs ++ l ++ [.parcel true x] ∧ x.type = 0x02 ∧ x.payload = rollPayload 1 s.deviceId) ∧
  (∀ (req : Requester) (v : Word) (s : State), s.RlvOpen req → fromDie0 req = true → (s.rvPort false).up = false →
    (s.rvPort true).up = false →
    RunsTo (.rollcall req v) s fun t => t.getF Fld.RV_STATUS_POSITION 0 = 0 ∧ t.getF Fld.RV_STATUS_COUNT 0 = 1 ∧
      t.outputs = s.outputs) ∧
  (∀ (req : Requester) (v : Word) (s : State), s.RlvOpen req → fromDie0 req = true → (s.rvPort false).up = true →
    s.flag Fld.RV_CTRL_HEAD 0 = false →
    exec (.rollcall req v) s = .next (s.report 0 0xC007 (openSource 0xC007))) ∧
  (∀ (x : Parcel) (l : List (Bool × Parcel)) (n : Nat) (s : State), s.rlvLive = true → s.rv.inq = (false, x) :: l →
    x.type = 0x02 → s.flag Fld.RV_CTRL_HEAD 0 = false → n = ofBe (sliceB x.payload 0 2) → n < 1024 →
    RunsTo .rollcallParcel s fun t => t.getF Fld.RV_STATUS_POSITION 0 = n ∧ t.flag Fld.RV_STATUS_POS_VALID 0 = true ∧
      t.flag Fld.RV_STATUS_BROKEN 0 = false ∧ t.rv.inq = l ∧
      ((s.rvPort true).up = false → t.getF Fld.RV_STATUS_COUNT 0 = n + 1 ∧ t.flag Fld.RV_STATUS_LOOP 0 = false)) ∧
  (∀ (x : Parcel) (l : List (Bool × Parcel)) (s : State), s.rlvLive = true → s.rv.inq = (false, x) :: l → x.type = 0x02 →
    s.flag Fld.RV_CTRL_HEAD 0 = false → 1024 ≤ ofBe (sliceB x.payload 0 2) →
    RunsTo .rollcallParcel s fun t => t.flag Fld.RV_STATUS_POS_VALID 0 = false ∧ t.flag Fld.RV_STATUS_BROKEN 0 = false ∧
      bitOf (t.rd .RV_FAULT 0).toNat 3 = true ∧
      ∃ o, t.outputs = s.outputs ++ o ∧ ∀ z ∈ o, ∃ q y, z = .parcel q y ∧ y.type = 0x01) ∧
  (∀ (x : Parcel) (l : List (Bool × Parcel)) (n : Nat) (s : State), s.rlvLive = true → s.rv.inq = (false, x) :: l →
    x.type = 0x02 → s.flag Fld.RV_CTRL_HEAD 0 = true → sliceB x.payload 4 48 = s.deviceId →
    n = ofBe (sliceB x.payload 0 2) →
    RunsTo .rollcallParcel s fun t => t.getF Fld.RV_STATUS_COUNT 0 = n % 2048 ∧ t.flag Fld.RV_STATUS_LOOP 0 = true ∧
      t.rv.inq = l ∧ ((s.rvPort true).up = true → ∃ y, t.outputs = s.outputs ++ [.parcel true y] ∧ y.type = 0x03 ∧
        y.payload = beBytes 2 n ++ [1, 0])) ∧
  (∀ (p : Bool) (x : Parcel) (l : List (Bool × Parcel)) (s : State), s.rlvLive = true → s.rv.inq = (p, x) :: l →
    x.type = 0x03 →
    RunsTo .rolldone s fun t => t.getF Fld.RV_STATUS_COUNT 0 = ofBe (sliceB x.payload 0 2) % 2048 ∧ t.rv.inq = l ∧
      t.flag Fld.RV_STATUS_LOOP 0 = bitOf (byteAt x.payload 2).toNat 0 ∧
      ((s.rvPort !p).up = true → t.outputs = s.outputs ++
        [.parcel (!p) { x with hops := x.hops + 1, lseq := BitVec.ofNat 8 (s.rvPort !p).tx }])) ∧
  (∀ (p : Bool) (x : Parcel) (l : List (Bool × Parcel)) (s : State), s.rlvLive = true → s.rv.inq = (p, x) :: l →
    x.type = 0x04 →
    RunsTo .rvBreak s fun t => t.flag Fld.RV_STATUS_BROKEN 0 = true ∧ t.rv.inq = l ∧
      ((s.rvPort !p).up = true → t.outputs = s.outputs ++
        [.parcel (!p) { x with hops := x.hops + 1, lseq := BitVec.ofNat 8 (s.rvPort !p).tx }]))

/-- R391, R392, R401: parcels for firmware. RESEND_REQ, BUSY, REPLY and MESSAGE parcels addressed to this part enter the receive
ring, header and payload, unless it is full (0xC008); those for another part go on. An IDENT leaves the neighbour's DeviceID in
RV_NBR. A write of RV_TXPTR sends the parcels that the ring holds. R400 to R402: remote commands. A COMMAND comes in two halves, one sender apart from another.
A part that has no identity, or whose RV_CTRL does not allow commands, and a command of another power cycle or of an old CSEQ,
answer the result that says so (1, 2) under 0xC007; an accepted one moves CSEQ, which RV_CSEQ shows. -/
def Obligations.FirmwareParcels : Prop :=
  (∀ (p : Bool) (x : Parcel) (l : List (Bool × Parcel)) (n a : Nat) (c : Instr) (s : State), s.rlvLive = true →
    s.rv.inq = (p, x) :: l → x.payload.length ≤ 4096 → pBcast x = false → s.isHere x.dst = true → n = s.rvRxSize →
    a = s.getF Fld.RV_RXPTR_TAIL 0 % n → (a + 1) % n ≠ s.getF Fld.RV_RXPTR_HEAD 0 % n →
    (c, x.type) ∈ [(Instr.resendReq, 0x15#8), (.rvBusy, 0x16#8), (.rvReply, 0x21#8), (.rvMessage, 0x30#8)] →
    RunsTo c s fun t => t.rv.inq = l ∧ t.getF Fld.RV_RXPTR_TAIL 0 = (a + 1) % n ∧ t.outputs = s.outputs ∧
      ∀ o, o < 16 + x.payload.length →
        t.sramRead 0 ((s.rd .RV_RXBASE 0).toNat + 0x1020 * a + o) = byteAt (pHeader x ++ x.payload) o) ∧
  (∀ (p : Bool) (x : Parcel) (l : List (Bool × Parcel)) (n : Nat) (c : Instr) (s : State), s.rlvLive = true →
    s.rv.inq = (p, x) :: l → pBcast x = false → s.isHere x.dst = true → n = s.rvRxSize →
    (s.getF Fld.RV_RXPTR_TAIL 0 % n + 1) % n = s.getF Fld.RV_RXPTR_HEAD 0 % n →
    (c, x.type) ∈ [(Instr.resendReq, 0x15#8), (.rvBusy, 0x16#8), (.rvReply, 0x21#8), (.rvMessage, 0x30#8)] →
    RunsTo c s fun t => t.rv.inq = l ∧ s.SameSram t ∧ t.rd .RV_RXPTR 0 = s.rd .RV_RXPTR 0 ∧
      bitOf (t.rd .RV_FAULT 0).toNat 7 = true) ∧
  (∀ (p : Bool) (x : Parcel) (l : List (Bool × Parcel)) (c : Instr) (s : State), s.rlvLive = true →
    s.rv.inq = (p, x) :: l → pBcast x = false → s.isHere x.dst = false → (s.rvPort !p).up = true →
    (c, x.type) ∈ [(Instr.resendReq, 0x15#8), (.rvBusy, 0x16#8), (.rvReply, 0x21#8), (.rvMessage, 0x30#8)] →
    RunsTo c s fun t => t.rv.inq = l ∧ s.SameSram t ∧ t.outputs = s.outputs ++
      [.parcel (!p) { x with hops := x.hops + 1, lseq := BitVec.ofNat 8 (s.rvPort !p).tx }]) ∧
  (∀ (p : Bool) (x : Parcel) (l : List (Bool × Parcel)) (s : State), s.rlvLive = true → s.rv.inq = (p, x) :: l →
    x.type = 0x01 → s.folio.opened = false →
    RunsTo .rvIdent s fun t => t.rv.inq = l ∧ t.rv.early = s.rv.early ++ [(p, sliceB x.payload 0 48)] ∧
      ∀ k, k < 12 → t.rd .RV_NBR (12 * b2n p + k) = BitVec.ofNat 32 (ofLe (sliceB (sliceB x.payload 0 48) (4 * k) 4))) ∧
  (∀ (req : Requester) (v : Word) (l : Stores) (x : Parcel) (h : Nat) (p : Bool) (s u : State), s.RlvOpen req →
    fromDie0 req = true → u = s.stores l → h = s.getF Fld.RV_TXPTR_HEAD 0 → Fld.RV_TXPTR_TAIL.of v = (h + 1) % 32 →
    x = u.txParcel h → x.type = 0x30 → pBcast x = false → p = decide (s.rvPos < x.dst) → (s.rvPort p).up = true →
    RunsTo (.transmitParcel req v l) s fun t => t.getF Fld.RV_TXPTR_HEAD 0 = (h + 1) % 32 ∧
      t.getF Fld.RV_TXPTR_TAIL 0 = (h + 1) % 32 ∧ t.sram = u.sram ∧
      t.outputs = s.outputs ++ [.parcel p { x with lseq := BitVec.ofNat 8 (s.rvPort p).tx }]) ∧
  (∀ (req : Requester) (v : Word) (l : Stores) (s : State), s.RlvOpen req → fromDie0 req = false →
    exec (.transmitParcel req v l) s = .next ((s.stores l).report 0 0xC007 (openSource 0xC007))) ∧
  (∀ (p : Bool) (x : Parcel) (l : List (Bool × Parcel)) (s : State), s.rlvLive = true → s.rv.inq = (p, x) :: l →
    x.type = 0x20 → pBcast x = false → s.isHere x.dst = true → x.seq = 0 →
    exec .rvCommand s = .next { s with
      rv := { s.rv with inq := l, halves := (s.rv.halves.filter fun h => decide (h.src ≠ x.src)) ++ [x] } }) ∧
  (∀ (p : Bool) (x h : Parcel) (c : List Byte) (l : List (Bool × Parcel)) (s : State), s.rlvLive = true →
    s.rv.inq = (p, x) :: l → x.type = 0x20 → pBcast x = false → s.isHere x.dst = true → x.seq = 1 →
    (s.rv.halves.find? fun h => decide (h.src = x.src)) = some h → c = h.payload ++ x.payload → c.length = 8192 → sliceB c 0x10 48 = s.deviceId →
    (s.identity = false ∨ s.flag Fld.RV_CTRL_CMD_EN 0 = false) → (s.rvPort p).up = true →
    RunsTo .rvCommand s fun t => t.cseq = s.cseq ∧ t.rv.halves = s.rv.halves.filter (fun h => decide (h.src ≠ x.src)) ∧ t.seq = s.seq ∧
      ∃ z, t.outputs = s.outputs ++ [.parcel p z] ∧ z.type = 0x21 ∧ z.dst = x.src ∧
        z.payload = beBytes 8 (ofBe (sliceB c 0x48 8)) ++ [1, 0, 0, 0]) ∧
  (∀ (p : Bool) (x h : Parcel) (c : List Byte) (l : List (Bool × Parcel)) (s : State), s.rlvLive = true →
    s.rv.inq = (p, x) :: l → x.type = 0x20 → pBcast x = false → s.isHere x.dst = true → x.seq = 1 →
    (s.rv.halves.find? fun h => decide (h.src = x.src)) = some h → c = h.payload ++ x.payload → c.length = 8192 → sliceB c 0x10 48 = s.deviceId → s.identity = true →
    s.flag Fld.RV_CTRL_CMD_EN 0 = true → s.flag Fld.RV_CTRL_RESET_EN 0 = true →
    (ofBe (sliceB c 0x40 4) ≠ s.pcc ∨ ofBe (sliceB c 0x48 8) ≤ s.cseq) → (s.rvPort p).up = true →
    RunsTo .rvCommand s fun t => t.cseq = s.cseq ∧ t.rv.halves = s.rv.halves.filter (fun h => decide (h.src ≠ x.src)) ∧ t.seq = s.seq ∧
      ∃ z, t.outputs = s.outputs ++ [.parcel p z] ∧ z.type = 0x21 ∧
        z.payload = beBytes 8 (ofBe (sliceB c 0x48 8)) ++ [2, 0, 0, 0]) ∧
  (∀ (p : Bool) (x h : Parcel) (c : List Byte) (l : List (Bool × Parcel)) (s : State), s.rlvLive = true →
    s.rv.inq = (p, x) :: l → x.type = 0x20 → pBcast x = false → s.isHere x.dst = true → x.seq = 1 →
    (s.rv.halves.find? fun h => decide (h.src = x.src)) = some h → c = h.payload ++ x.payload → c.length = 8192 → sliceB c 0x10 48 = s.deviceId →
    RunsTo .rvCommand s fun t =>
      t.cseq = if s.commandResult c = 0 then ofBe (sliceB c 0x48 8) else s.cseq) ∧
  (∀ (req : Requester) (s : State), s.reqFar req = true →
    RunsTo (.rvCseqRead req) s fun t => t.outputs = s.outputs ++ [.readData (BitVec.ofNat 32 (s.cseq / 2 ^ 32))] ∧
      t.rd .RV_CSEQ 0 = BitVec.ofNat 32 (s.cseq / 2 ^ 32) ∧ t.rd .RV_CSEQ 1 = BitVec.ofNat 32 s.cseq ∧ t.cseq = s.cseq)

/-- R396, R397: image sessions. OPEN starts a session unless another is open, whose origin then hears BUSY. The colophon's two
halves, the tree groups and the blocks arrive in SEQ order; a group or block that does not verify ends the session under 0x6308,
and one that does moves it on. END, an abort by firmware and silence end it. -/
def Obligations.ImageSessions : Prop :=
  (∀ (p : Bool) (x : Parcel) (l : List (Bool × Parcel)) (n : Nat) (s : State), s.rlvLive = true → s.rv.inq = (p, x) :: l →
    x.type = 0x10 → s.rv.session = none → x.seq = 0 → n = ofBe (sliceB x.payload 4 4) → n ≠ 0 → n ≤ 16384 →
    pRescue x = false →
    RunsTo .rvOpen s fun t => t.flag Fld.RV_STATUS_SESSION 0 = true ∧ t.rv.inq = l ∧ t.boot = s.boot ∧
      t.rv.session = some {
        number := x.session, origin := x.src, rescue := false, low := ofBe (sliceB x.payload 0 2)
        high := ofBe (sliceB x.payload 2 2), leaves := n, depth := (byteAt x.payload 8).toNat, next := 1, colophon := []
        held := [], groups := [], block := [], again := [], since := s.us }) ∧
  (∀ (p : Bool) (x : Parcel) (l : List (Bool × Parcel)) (y : RvSession) (s : State), s.rlvLive = true →
    s.rv.inq = (p, x) :: l → x.type = 0x10 → s.rv.session = some y → y.has x = false → (s.rvPort p).up = true →
    RunsTo .rvOpen s fun t => t.rv.session = some y ∧ t.rv.inq = l ∧
      ∃ z, t.outputs = s.outputs ++ [.parcel p z] ∧ z.type = 0x16 ∧ z.dst = x.src ∧ z.payload = beBytes 2 x.session) ∧
  (∀ (p : Bool) (x : Parcel) (l : List (Bool × Parcel)) (y : RvSession) (s : State), s.rlvLive = true →
    s.rv.inq = (p, x) :: l → x.type = 0x11 → s.sessionNext x = some y → y.held = [] →
    RunsTo .rvColophon s fun t => t.rv.session = some { y with since := s.us, next := y.next + 1, held := [(some p, x)] } ∧
      t.outputs = s.outputs) ∧
  (∀ (p : Bool) (x : Parcel) (l : List (Bool × Parcel)) (y : RvSession) (h : Option Bool × Parcel) (s : State),
    s.rlvLive = true → s.rv.inq = (p, x) :: l → x.type = 0x11 → s.sessionNext x = some y → y.held = [h] →
    (h.2.payload ++ x.payload).length ≠ 8192 →
    RunsTo .rvColophon s fun t => t.rv.session = none ∧ t.outputs = s.outputs ∧ bitOf (t.rd .RV_FAULT 0).toNat 5 = true) ∧
  (∀ (p : Bool) (x : Parcel) (l : List (Bool × Parcel)) (y : RvSession) (gs : List (Nat × Nat)) (s : State),
    s.rlvLive = true → s.rv.inq = (p, x) :: l → x.type = 0x12 → pResend x = false → s.sessionNext x = some y →
    y.rescue = false → treeAt y.leaves x.seq = some gs → (∀ g ∈ gs, g.1 = 0) → gs ≠ [] →
    RunsTo .rvTree s fun t =>
      let all := (y.groups.filter fun g => decide (g.1 ≠ 0)) ++ slotsOf gs x.payload
      t.rv.session = if groupsPass y gs all then
        some { y with since := s.us, next := x.seq + 1, groups := all, block := [(some p, x)] } else none) ∧
  (∀ (p : Bool) (x : Parcel) (l : List (Bool × Parcel)) (y : RvSession) (leaf : Nat) (s : State), s.rlvLive = true →
    s.rv.inq = (p, x) :: l → x.type = 0x13 → pResend x = false → s.sessionNext x = some y → y.rescue = false →
    leafAt y.leaves x.seq = some leaf → blockEnds y.leaves leaf = false →
    RunsTo .rvBlock s fun t => t.outputs = s.outputs ∧ t.rv.session =
      if blockOk y.leaves (coRoot y.colophon) y.groups leaf x.payload then
        some { y with since := s.us, next := x.seq + 1, block := y.block ++ [(some p, x)] }
      else none) ∧
  (∀ (p : Bool) (x : Parcel) (l : List (Bool × Parcel)) (y : RvSession) (leaf : Nat) (s : State), s.rlvLive = true →
    s.rv.inq = (p, x) :: l → x.type = 0x13 → pResend x = false → s.sessionNext x = some y → y.rescue = false →
    leafAt y.leaves x.seq = some leaf → blockEnds y.leaves leaf = true →
    RunsTo .rvBlock s fun t => t.rv.session =
      if blockOk y.leaves (coRoot y.colophon) y.groups leaf x.payload then
        some { y with since := s.us, next := x.seq + 1, block := [], groups := y.groups.filter fun g => decide (g.1 ≠ 0) }
      else none) ∧
  (∀ (p : Bool) (x : Parcel) (l : List (Bool × Parcel)) (y : RvSession) (s : State), s.rlvLive = true →
    s.rv.inq = (p, x) :: l → x.type = 0x14 → s.rv.session = some y → y.has x = true → s.boot.rescue = none →
    RunsTo .rvEnd s fun t => t.rv.session = none ∧ t.flag Fld.RV_STATUS_SESSION 0 = false ∧ t.boot = s.boot) ∧
  (∀ (req : Requester) (v : Word) (y : RvSession) (s : State), s.RlvOpen req → fromDie0 req = true → s.rv.session = some y →
    RunsTo (.sessionAbort req v) s fun t => t.rv = { s.rv with session := none } ∧
      t.flag Fld.RV_STATUS_SESSION 0 = false ∧ t.outputs = s.outputs) ∧
  (∀ (y : RvSession) (s : State), s.rlvLive = true → s.rv.session = some y →
    1000000 * max 1 (s.getF Fld.RV_CTRL_SESSION_S 0) ≤ s.usSince y.since →
    RunsTo .sessionTimeout s fun t => t.rv = { s.rv with session := none } ∧ t.flag Fld.RV_STATUS_SESSION 0 = false ∧
      t.outputs = s.outputs) ∧
  (∀ (s : State), s.rv.session = none → exec .sessionTimeout s = .next s)

/-! ## Guard, folio and operating time (Chapter 14) -/

/-- R404 to R410: guard sources. A detector that fires is latched, and once only while die 0 cannot take it. A filtered PSNS level changes its bit and fires its
source at the active level. Die 0 takes a latched source: it counts each firing, starts the source's holdoff window, and applies its response once
for the window, with every response below it; a source inside its window only counts; a disabled one does nothing. A read of
GD_SRC_CNT clears it. -/
def Obligations.GuardSources : Prop :=
  (∀ (k : SourceId) (s : State), k.val < 72 → s.sourcePresent k.val = true → s.seq.aonHeld = false →
    (s.takable k.val = true ∨ k.val ∉ s.guard.latched) →
    (k.val % 2 = 0 → exec (.squall k) s = .next { s with guard := { s.guard with latched := s.guard.latched ++ [k.val] } }) ∧
    (k.val % 2 = 1 → exec (.front k) s = .next { s with guard := { s.guard with latched := s.guard.latched ++ [k.val] } })) ∧
  (∀ (k : SourceId) (s : State), k.val ∈ s.guard.latched → s.takable k.val = false →
    exec (.squall k) s = .next s ∧ exec (.front k) s = .next s) ∧
  (∀ (p : Fin 16) (b : Bool) (s : State), s.seq.aonHeld = false →
    bitOf (s.getF Fld.GD_PSNS_FILTERED 0) p.val ≠ b →
    RunsTo (.psnsChange p b) s fun t => (∀ k, k < 16 → bitOf (t.getF Fld.GD_PSNS_FILTERED 0) k =
        if k = p.val then b else bitOf (s.getF Fld.GD_PSNS_FILTERED 0) k) ∧
      (72 + p.val ∉ s.guard.latched → (72 + p.val ∈ t.guard.latched ↔
        s.flag Fld.GD_SRC_CFG_ACT_LVL (72 + p.val) = b ∧ s.flag Fld.GD_SRC_CFG_ENABLE (72 + p.val) = true))) ∧
  (∀ (p : Fin 16) (b : Bool) (s : State), bitOf (s.getF Fld.GD_PSNS_FILTERED 0) p.val = b →
    exec (.psnsChange p b) s = .next s) ∧
  (∀ (k : SourceId) (r n : Nat) (s : State), s.platLive = true → s.takable k.val = true → n = s.guard.latched.count k.val →
    n ≠ 0 →
    s.flag Fld.GD_SRC_CFG_ENABLE k.val = true → Tbl.get s.guard.windows k.val 0 = 0 →
    r = s.getF Fld.GD_SRC_CFG_RESP k.val → r ≠ 0 →
    RunsTo (.guardEvent [k]) s fun t => k.val ∉ t.guard.latched ∧ Tbl.get t.guard.windows k.val 0 = n ∧
      t.getF Fld.GD_SRC_CNT_COUNT k.val = min (s.getF Fld.GD_SRC_CNT_COUNT k.val + n) 0xFFFF ∧
      t.getF Fld.GD_STATUS_LAST_SOURCE 0 = k.val ∧ bitOf (t.rd .GD_FAULT 0).toNat 0 = true ∧
      (2 ≤ r → .faultIrq 0 ∈ t.outputs) ∧ (3 ≤ r → ∀ j, j < 32 → t.flag Fld.RP_LINE_HOLD j = true) ∧
      (3 ≤ r → s.flag Fld.GD_CTRL_LOCKDOWN 0 = true → t.flag Fld.GD_STATUS_LOCKED 0 = true) ∧
      (4 ≤ r → t.guard.resetDue = true) ∧ (5 ≤ r → t.identity = false)) ∧
  (∀ (k : SourceId) (n : Nat) (s : State), s.platLive = true → s.takable k.val = true →
    n = s.guard.latched.count k.val → s.flag Fld.GD_SRC_CFG_ENABLE k.val = true → Tbl.get s.guard.windows k.val 0 ≠ 0 →
    RunsTo (.guardEvent [k]) s fun t => k.val ∉ t.guard.latched ∧ t.outputs = s.outputs ∧ t.keys = s.keys ∧
      Tbl.get t.guard.windows k.val 0 = Tbl.get s.guard.windows k.val 0 + n ∧
      (n ≠ 0 → t.getF Fld.GD_SRC_CNT_COUNT k.val = min (s.getF Fld.GD_SRC_CNT_COUNT k.val + n) 0xFFFF) ∧
      t.folio = s.folio ∧ ∀ j, t.rd .RP_LINE j = s.rd .RP_LINE j) ∧
  (∀ (k : SourceId) (s : State), s.platLive = true → s.takable k.val = true → k.val ∈ s.guard.latched →
    s.flag Fld.GD_SRC_CFG_ENABLE k.val = false →
    RunsTo (.guardEvent [k]) s fun t => k.val ∉ t.guard.latched ∧ t.outputs = s.outputs ∧ ∀ n i, t.rd n i = s.rd n i) ∧
  (∀ (k : SourceId) (s : State), s.platLive = true → Tbl.get s.guard.windows k.val 0 ≠ 0 →
    1000 * max 1 (s.getF Fld.GD_CTRL_HOLDOFF_MS 0) ≤ s.usSince (Tbl.get s.guard.windowUs k.val 0) →
    RunsTo (.holdoffExpire k) s fun t => Tbl.get t.guard.windows k.val 0 = 0 ∧
      (Tbl.get s.guard.windows k.val 0 = 1 → t.folio = s.folio) ∧ t.rd .GD_SRC_CNT k.val = s.rd .GD_SRC_CNT k.val) ∧
  (∀ (req : Requester) (k : SourceId) (s : State), s.PlatOpen req →
    RunsTo (.gdSrcCntRead req k) s fun t => t.outputs = s.outputs ++ [.readData (s.rd .GD_SRC_CNT k.val)] ∧
      t.rd .GD_SRC_CNT k.val = 0 ∧ s.OnlyRegs t fun n i => decide (n = .GD_SRC_CNT) && decide (i = k.val))

/-- R412, R413: lockdown. LOCK sets LOCKED, is 0xB004 and remembers its record; over a locked part it changes nothing. UNLOCK
without an identity, and of a part that is not locked, is refused (1, 2); it leaves lockdown exactly when its token passes, with
every line's HOLD set, and uses the nonce up. Another core's commands are discarded under 0xB005. -/
def Obligations.Lockdown : Prop :=
  (∀ (req : Requester) (v : Word) (s : State), s.PlatOpen req → fromDie0 req = true →
    s.flag Fld.GD_STATUS_LOCKED 0 = false →
    RunsTo (.gdLock req v) s fun t => t.flag Fld.GD_STATUS_LOCKED 0 = true ∧ bitOf (t.rd .GD_FAULT 0).toNat 3 = true ∧
      t.folio.lockSeq = s.folio.next ∧ t.flag Fld.GD_CMD_STATUS_DONE 0 = true ∧ t.getF Fld.GD_CMD_STATUS_RESULT 0 = 0 ∧
      s.SameSram t ∧ t.outputs = s.outputs) ∧
  (∀ (req : Requester) (v : Word) (s : State), s.PlatOpen req → fromDie0 req = true →
    s.flag Fld.GD_STATUS_LOCKED 0 = true → exec (.gdLock req v) s = .next (s.gdDone 0)) ∧
  (∀ (req : Requester) (v : Word) (l : Stores) (s : State), s.PlatOpen req → fromDie0 req = true →
    RunsTo (.gdUnlock req v l) s fun t => t.guard.nonce = none ∧ t.sram = (s.stores l).sram ∧
      t.flag Fld.GD_CMD_STATUS_DONE 0 = true ∧
      t.getF Fld.GD_CMD_STATUS_RESULT 0 =
        ((s.stores l).unlockRefusal ((s.stores l).sramBytes 0 (s.rd .GD_ARG 0).toNat 8192)).getD 0 % 16 ∧
      t.flag Fld.GD_STATUS_LOCKED 0 = (s.flag Fld.GD_STATUS_LOCKED 0 &&
        ((s.stores l).unlockRefusal ((s.stores l).sramBytes 0 (s.rd .GD_ARG 0).toNat 8192)).isSome) ∧
      ((s.stores l).unlockRefusal ((s.stores l).sramBytes 0 (s.rd .GD_ARG 0).toNat 8192) = none →
        ∀ j, j < 32 → t.flag Fld.RP_LINE_HOLD j = true)) ∧
  (∀ (req : Requester) (v : Word) (l : Stores) (s : State), s.PlatOpen req → fromDie0 req = true →
    (s.identity = false → RunsTo (.gdUnlock req v l) s fun t => t.getF Fld.GD_CMD_STATUS_RESULT 0 = 1 ∧
      t.flag Fld.GD_STATUS_LOCKED 0 = s.flag Fld.GD_STATUS_LOCKED 0) ∧
    (s.identity = true → s.flag Fld.GD_STATUS_LOCKED 0 = false →
      RunsTo (.gdUnlock req v l) s fun t => t.getF Fld.GD_CMD_STATUS_RESULT 0 = 2)) ∧
  (∀ (req : Requester) (s : State), s.PlatOpen req →
    RunsTo (.unlockNonceRead req) s fun t =>
      t.guard = { s.guard with nonce := some (sliceB (digestOf s.draw.1) 0 32) } ∧ s.SameSram t ∧
      t.outputs = s.outputs ++ [.readData (BitVec.ofNat 32 (ofLe (sliceB (digestOf s.draw.1) 0 4)))]) ∧
  (∀ (req : Requester) (v : Word) (l : Stores) (s : State), s.PlatOpen req → fromDie0 req = false →
    exec (.gdLock req v) s = .next (s.report 0 0xB005 0) ∧
    exec (.gdUnlock req v l) s = .next ((s.stores l).report 0 0xB005 0) ∧
    exec (.foAppend req v l) s = .next ((s.stores l).report 0 0xB005 0) ∧
    exec (.foAdopt req v) s = .next (s.report 0 0xB005 0))

/-- R420 to R423: the folio opens once: blank devices leave it BLANK, records that verify leave it OPEN, and others FOREIGN and
shut; the time is then valid and the crossed check done. ADOPT opens a foreign folio, and any other is refused with result 1.
R418, R419, R424, R425, R427: records. APPEND stages a firmware record of a type and length it allows, and refuses others
(0xB005, result 2). A staged record goes to both HOME devices in turn, becomes the newest durable one and moves the chain; a
device on which it fails three times is given up, and with both given up nothing more is durable. A silent folio gets a TICK. -/
def Obligations.Folio : Prop :=
  (∀ (a b : List (List Byte)) (s : State), s.platLive = true → s.folio.sizeSet = true → s.getF Fld.FO_STATUS_STATE 0 = 1 →
    s.flag Fld.BT_LOCK_ROM_LOCKED 0 = true →
    RunsTo (.folioOpen a b) s fun t => t.flag Fld.FO_STATUS_TIME_VALID 0 = true ∧ t.flag Fld.GD_STATUS_CROSS_DONE 0 = true ∧
      t.timeDue = false ∧ s.SameSram t ∧
      (deviceErased a = true → deviceErased b = true → t.getF Fld.FO_STATUS_STATE 0 = 2 ∧ t.folio.opened = true) ∧
      (t.getF Fld.FO_STATUS_STATE 0 = 2 ∨ t.getF Fld.FO_STATUS_STATE 0 = 3 ∨ t.getF Fld.FO_STATUS_STATE 0 = 4) ∧
      (t.folio.opened = true ↔ t.getF Fld.FO_STATUS_STATE 0 ≠ 4)) ∧
  (∀ (a b : List (List Byte)) (s : State),
    (s.folio.sizeSet = false ∨ s.getF Fld.FO_STATUS_STATE 0 ≠ 1 ∨ s.flag Fld.BT_LOCK_ROM_LOCKED 0 = false) →
    exec (.folioOpen a b) s = .next s) ∧
  (∀ (req : Requester) (v : Word) (s : State), s.PlatOpen req → fromDie0 req = true → s.getF Fld.FO_STATUS_STATE 0 = 4 →
    RunsTo (.foAdopt req v) s fun t => t.folio.opened = true ∧ t.getF Fld.FO_STATUS_STATE 0 = 3 ∧
      t.getF Fld.FO_CMD_STATUS_RESULT 0 = 0 ∧ t.ot = s.ot ∧ t.pcc = s.pcc ∧ ∃ x ∈ t.folio.staged, x.entry.typ = 0x01) ∧
  (∀ (req : Requester) (v : Word) (s : State), s.PlatOpen req → fromDie0 req = true → s.getF Fld.FO_STATUS_STATE 0 ≠ 4 →
    exec (.foAdopt req v) s = .next (s.foDone 1)) ∧
  (∀ (req : Requester) (v : Word) (l : Stores) (s : State), s.PlatOpen req → fromDie0 req = true →
    0x40 ≤ Fld.FO_CMD_TYPE.of v → Fld.FO_CMD_TYPE.of v ≤ 0xEF → Fld.FO_CMD_LEN.of v ≤ 4080 → Fld.FO_CMD_LEN.of v % 16 = 0 →
    s.folio.stagedBytes + 16 + Fld.FO_CMD_LEN.of v ≤ 65536 →
    RunsTo (.foAppend req v l) s fun t => t.getF Fld.FO_CMD_STATUS_RESULT 0 = 0 ∧ t.flag Fld.FO_CMD_STATUS_DONE 0 = true ∧
      t.sram = (s.stores l).sram ∧ t.outputs = s.outputs ∧
      ∃ x ∈ t.folio.staged, x.entry.typ = Fld.FO_CMD_TYPE.of v ∧ x.entry.ot = s.ot ∧ x.entry.pcc = s.pcc ∧
        x.entry.body = (s.stores l).sramBytes 0 (s.rd .FO_ARG 0).toNat (Fld.FO_CMD_LEN.of v)) ∧
  (∀ (req : Requester) (v : Word) (l : Stores) (s : State), s.PlatOpen req → fromDie0 req = true →
    (Fld.FO_CMD_TYPE.of v < 0x40 ∨ 0xEF < Fld.FO_CMD_TYPE.of v ∨ 4080 < Fld.FO_CMD_LEN.of v) →
    exec (.foAppend req v l) s = .next (((s.stores l).report 0 0xB005 0).foDone 2)) ∧
  (∀ (a b : List Bool) (x : StagedRec) (l : List StagedRec) (s : State), s.platLive = true → s.folio.opened = true →
    s.deferring = false → s.folio.staged = x :: l → s.flag Fld.FO_STATUS_FULL 0 = false → s.folio.dropped = 0 →
    s.getF Fld.FO_STATUS_DEV_LOST 0 = 0 →
    RunsTo (.folioRecordWrite (true :: a) (true :: b)) s fun t => t.folio.staged = l ∧ t.folio.visibleOt = s.ot ∧
      t.rd .FO_SEQ 0 = BitVec.ofNat 32 x.entry.seq ∧ s.SameSram t ∧ t.getF Fld.FO_STATUS_DEV_LOST 0 = 0 ∧
      ∃ r p, t.outputs = s.outputs ++ p ++ [.homeProgram false ((s.rd .FO_BASE 0).toNat + 4096 * x.sector + x.off) r,
          .homeProgram true ((s.rd .FO_BASE 0).toNat + 4096 * x.sector + x.off) r] ∧
        t.folio.chain = chainNext s.folioKey (if x.entry.typ = 0x01 then chainZero else s.folio.chain) r) ∧
  (∀ (b : List Bool) (x : StagedRec) (l : List StagedRec) (s : State), s.platLive = true → s.folio.opened = true →
    s.deferring = false → s.folio.staged = x :: l → s.flag Fld.FO_STATUS_FULL 0 = false → s.folio.dropped = 0 →
    s.getF Fld.FO_STATUS_DEV_LOST 0 = 0 →
    RunsTo (.folioRecordWrite [false, false, false] (true :: b)) s fun t =>
      t.getF Fld.FO_STATUS_DEV_LOST 0 = 1 ∧ bitOf (t.rd .GD_FAULT 0).toNat 5 = true ∧
      t.rd .FO_SEQ 0 = BitVec.ofNat 32 x.entry.seq) ∧
  (∀ (x : StagedRec) (l : List StagedRec) (s : State), s.platLive = true → s.folio.opened = true →
    s.deferring = false → s.folio.staged = x :: l → s.flag Fld.FO_STATUS_FULL 0 = false → s.getF Fld.FO_STATUS_DEV_LOST 0 = 0 →
    RunsTo (.folioRecordWrite [false, false, false] [false, false, false]) s fun t =>
      t.getF Fld.FO_STATUS_DEV_LOST 0 = 3 ∧ t.folio.staged = s.folio.staged ∧ t.rd .FO_SEQ 0 = s.rd .FO_SEQ 0) ∧
  (∀ (a b : List Bool) (s : State), s.getF Fld.FO_STATUS_DEV_LOST 0 = 3 → exec (.folioRecordWrite a b) s = .next s) ∧
  (∀ (s : State), s.platLive = true → s.folio.opened = true →
    s.getF Fld.FO_CTRL_TICK_S 0 ≤ s.ot - s.folio.visibleOt → s.folio.stagedBytes + 16 ≤ 65536 →
    RunsTo .folioTick s fun t => ∃ x ∈ t.folio.staged, x.entry.typ = 0x03 ∧ x.entry.body = [] ∧ x.entry.ot = s.ot) ∧
  (∀ (s : State), (s.folio.opened = false ∨ s.ot - s.folio.visibleOt < s.getF Fld.FO_CTRL_TICK_S 0) →
    exec .folioTick s = .next s) ∧
  (∀ (req : Requester) (s : State), s.PlatOpen req →
    RunsTo (.foSeqRead req) s fun t => t.outputs = s.outputs ++ [.readData (s.rd .FO_SEQ 0)] ∧
      t.rd .FO_SEQ_NEXT 0 = BitVec.ofNat 32 s.folio.next ∧ s.OnlyRegs t fun n _ => decide (n = .FO_SEQ_NEXT))

/-- R11: OT adds one for each second unless VDDAON or REFCLK holds the AON domain, and saturates; the ROM's wait of R291 runs down with it. R429: FAULT_US adds one each microsecond unless
the part is frozen or its clock is lost. The command is the model's own form of the per-microsecond events (assumptions/3). -/
def Obligations.TimeCounts : Prop :=
  (∀ (s : State), s.seq.aonHeld = false →
    RunsTo .otTick s fun t => t.ot = min (s.ot + 1) (2 ^ 40 - 1) ∧
      t = { s with ot := t.ot, regs := t.regs, boot := { s.boot with waitLeft := t.boot.waitLeft } } ∧
      t.boot.waitLeft = (if s.platLive && s.boot.inWait && s.boot.rescue.isNone then s.boot.waitLeft - 1 else s.boot.waitLeft) ∧
      ∀ n i, n ≠ .BT_CONFIRM → t.rd n i = s.rd n i) ∧
  (∀ (s : State), s.seq.aonHeld = true → exec .otTick s = .next s) ∧
  (∀ (s : State), s.stopped = false →
    RunsTo .addedEachMicrosecond s fun t => t.rd .FAULT_US 0 = s.rd .FAULT_US 0 + 1 ∧ t.outputs = s.outputs ∧
      s.SameSram t ∧ t.chans = s.chans) ∧
  (∀ (s : State), s.stopped = true → exec .addedEachMicrosecond s = .next s)

/-! ## Observation (Chapter 15) -/

/-- R226, R429, R433 to R436, R441: counters and watch slots. A read of a counter returns it and, of a chained pair, keeps the
high half for OB_SNAP. A write replaces it. OB_CHAIN forms pairs. A write to a slot's CFG or PERIOD clears its count. Reads of
the lost-record, stale and migrated counts clear them. -/
def Obligations.ObservationRegisters : Prop :=
  (∀ (req : Requester) (d : DieId) (e : Fin 1024) (s : State), s.DieOpen req d.val →
    RunsTo (.obCntRead req d e) s fun t => (∀ n i, t.rd n i = s.rd n i) ∧ s.SameSram t ∧
      t.outputs = s.outputs ++ [.readData (if obAssigned d.val e.val then s.rd .OB_CNT (d.val * 1024 + e.val) else 0)] ∧
      (obAssigned d.val e.val = true → e.val % 2 = 0 → s.obPaired d.val e.val = true →
        t.readSnap req d.val = BitVec.ofNat 32 (s.getF Fld.OB_CNT_COUNT (d.val * 1024 + e.val + 1)))) ∧
  (∀ (req : Requester) (d : DieId) (e : Fin 1024) (v : Word) (s : State), s.DieOpen req d.val →
    obAssigned d.val e.val = true →
    RunsTo (.obCntWrite req d e v 0) s fun t =>
      t.getF Fld.OB_CNT_COUNT (d.val * 1024 + e.val) = Fld.OB_CNT_COUNT.of v ∧
      s.OnlyRegs t fun n i => decide (n = .OB_CNT) && decide (i = d.val * 1024 + e.val)) ∧
  (∀ (req : Requester) (d : DieId) (e : Fin 1024) (v : Word) (n : Nat) (s : State), s.DieOpen req d.val →
    obAssigned d.val e.val = true → s.obPaired d.val (e.val - e.val % 2) = false → n ≠ 0 →
    RunsTo (.obCntWrite req d e v n) s fun t =>
      t.getF Fld.OB_CNT_COUNT (d.val * 1024 + e.val) = min (Fld.OB_CNT_COUNT.of v + n) 0xFFFFF) ∧
  (∀ (req : Requester) (d : DieId) (e : Fin 1024) (v : Word) (n : Nat) (s : State), s.DieOpen req d.val →
    obAssigned d.val e.val = false → exec (.obCntWrite req d e v n) s = .next s) ∧
  (∀ (req : Requester) (d : DieId) (m : Fin 16) (v : Word) (s : State), s.DieOpen req d.val →
    RunsTo (.obChainWrite req d m v) s fun t =>
      t.rd .OB_CHAIN (d.val * 16 + m.val) = RegName.OB_CHAIN.written (s.rd .OB_CHAIN (d.val * 16 + m.val)) v ∧
      s.OnlyRegs t fun n i => decide (n = .OB_CHAIN) && decide (i = d.val * 16 + m.val)) ∧
  (∀ (req : Requester) (d : DieId) (k : Fin 16) (v : Word) (s : State), s.DieOpen req d.val →
    RunsTo (.watchConfigWrite req d k true v) s fun t =>
      t.getF Fld.OB_WATCH_PERIOD_PERIOD (d.val * 16 + k.val) = Fld.OB_WATCH_PERIOD_PERIOD.of v ∧
      t.getF Fld.OB_WATCH_COUNT_COUNT (d.val * 16 + k.val) = 0 ∧
      s.OnlyRegs t fun n i => (decide (n = .OB_WATCH_PERIOD) || decide (n = .OB_WATCH_COUNT)) && decide (i = d.val * 16 + k.val)) ∧
  (∀ (req : Requester) (d : DieId) (k : Fin 16) (v : Word) (s : State), s.DieOpen req d.val →
    RunsTo (.watchConfigWrite req d k false v) s fun t =>
      t.getF Fld.OB_WATCH_CFG_EVENT (d.val * 16 + k.val) = Fld.OB_WATCH_CFG_EVENT.of v ∧
      t.getF Fld.OB_WATCH_CFG_ACTION (d.val * 16 + k.val) =
        (if Fld.OB_WATCH_CFG_ACTION.of v = 3 ∧ preciseEvent (Fld.OB_WATCH_CFG_EVENT.of v) = false then 2
         else Fld.OB_WATCH_CFG_ACTION.of v) ∧
      t.getF Fld.OB_WATCH_COUNT_COUNT (d.val * 16 + k.val) = 0 ∧
      s.OnlyRegs t fun n i => (decide (n = .OB_WATCH_CFG) || decide (n = .OB_WATCH_COUNT)) && decide (i = d.val * 16 + k.val)) ∧
  (∀ (req : Requester) (d : DieId) (c : Instr) (r : RegName) (s : State), s.DieOpen req d.val →
    (c, r) ∈ [(Instr.obPrecLostRead req d, RegName.OB_PREC_LOST), (.hpStaleRead req d, .HP_STALE),
      (.hpMigratedRead req d, .HP_MIGRATED)] →
    RunsTo c s fun t => t.outputs = s.outputs ++ [.readData (s.rd r d.val)] ∧ t.rd r d.val = 0 ∧
      s.OnlyRegs t fun n i => decide (n = r) && decide (i = d.val))

/-- R432, R436 to R441: a slot that is due interrupts its core and sets its status bit, or, when that bit still stands, its
missed bit; a core event in precise mode writes its record at WRITE and moves it; over an unread ring without WRAP the record is
lost, FULL sets and OB_PREC_LOST counts it. A write of READ takes records off the ring. -/
def Obligations.WatchSlots : Prop :=
  (∀ (d : DieId) (k : Fin 16) (pc w y z : Word) (x : Due) (l : List Due) (s : State), s.live d.val = true →
    (s.die d.val).due = x :: l → s.dueWaits d.val x = false → x.slot = k.val → Fld.OB_WATCH_CFG_ACTION.of x.cfg = 1 →
    RunsTo (.watchFire d k pc w y z) s fun t => (t.die d.val).due = l ∧ bitOf (t.rd .OB_STATUS d.val).toNat k.val = true ∧
      (bitOf (s.rd .OB_STATUS d.val).toNat k.val = true → bitOf (t.rd .OB_STATUS d.val).toNat (16 + k.val) = true) ∧
      (∀ n i, n ≠ .OB_STATUS → t.rd n i = s.rd n i) ∧
      t.outputs = s.outputs ++ [.irq d.val (Fld.OB_WATCH_CFG_CORE.of x.cfg) k.val]) ∧
  (∀ (d : DieId) (k : Fin 16) (pc w y z : Word) (x : Due) (l : List Due) (s : State), s.live d.val = true →
    (s.die d.val).due = x :: l → x.slot = k.val → Fld.OB_WATCH_CFG_ACTION.of x.cfg = 3 →
    0x3A0 ≤ Fld.OB_WATCH_CFG_EVENT.of x.cfg → Fld.OB_WATCH_CFG_EVENT.of x.cfg < 0x3E0 → (s.die d.val).unread < 255 →
    RunsTo (.watchFire d k pc w y z) s fun t => (t.die d.val).due = l ∧ (t.die d.val).unread = (s.die d.val).unread + 1 ∧
      t.getF Fld.OB_PREC_PTR_WRITE d.val = (s.getF Fld.OB_PREC_PTR_WRITE d.val + 1) % 256 ∧
      t.rd .OB_PREC_REC (d.val * 2048 + 8 * s.getF Fld.OB_PREC_PTR_WRITE d.val + 1) = x.us ∧
      t.rd .OB_PREC_REC (d.val * 2048 + 8 * s.getF Fld.OB_PREC_PTR_WRITE d.val + 2) = pc ∧
      t.rd .OB_PREC_REC (d.val * 2048 + 8 * s.getF Fld.OB_PREC_PTR_WRITE d.val + 3) = w) ∧
  (∀ (d : DieId) (k : Fin 16) (pc w y z : Word) (x : Due) (l : List Due) (s : State), s.live d.val = true →
    (s.die d.val).due = x :: l → x.slot = k.val → Fld.OB_WATCH_CFG_ACTION.of x.cfg = 3 →
    0x3A0 ≤ Fld.OB_WATCH_CFG_EVENT.of x.cfg → Fld.OB_WATCH_CFG_EVENT.of x.cfg < 0x3E0 → 256 ≤ (s.die d.val).unread →
    s.flag Fld.OB_PREC_CTRL_WRAP d.val = false →
    RunsTo (.watchFire d k pc w y z) s fun t => t.flag Fld.OB_PREC_PTR_FULL d.val = true ∧
      (t.rd .OB_PREC_LOST d.val).toNat = min ((s.rd .OB_PREC_LOST d.val).toNat + 1) 0xFFFFFFFF ∧
      (∀ i, t.rd .OB_PREC_REC i = s.rd .OB_PREC_REC i) ∧ t.outputs = s.outputs) ∧
  (∀ (d : DieId) (k : Fin 16) (pc w y z : Word) (s : State), (s.die d.val).due = [] →
    exec (.watchFire d k pc w y z) s = .next s) ∧
  (∀ (req : Requester) (d : DieId) (v : Word) (s : State), s.DieOpen req d.val →
    Fld.OB_PREC_PTR_READ.of v ≠ s.getF Fld.OB_PREC_PTR_READ d.val →
    RunsTo (.obPrecPtrWrite req d v) s fun t => t.getF Fld.OB_PREC_PTR_READ d.val = Fld.OB_PREC_PTR_READ.of v ∧
      t.flag Fld.OB_PREC_PTR_FULL d.val = false ∧ t.getF Fld.OB_PREC_PTR_WRITE d.val = s.getF Fld.OB_PREC_PTR_WRITE d.val ∧
      (t.die d.val).unread = (s.getF Fld.OB_PREC_PTR_WRITE d.val + 256 - Fld.OB_PREC_PTR_READ.of v) % 256)

/-- R432, R434: counting n occurrences of an assigned event adds them to its 20-bit counter, or saturates it at its largest
value and sets its OB_SAT bit; a chained pair counts to 40 bits as one number, and its high half does not count by itself. No
other counter of the part changes. -/
def Obligations.CountersSaturate : Prop :=
  (∀ (d e n : Nat) (s : State), d < 8 → e < 1024 → obAssigned d e = true → n ≠ 0 → s.obPaired d (e - e % 2) = false →
    (s.count d e n).getF Fld.OB_CNT_COUNT (d * 1024 + e) = min (s.getF Fld.OB_CNT_COUNT (d * 1024 + e) + n) 0xFFFFF ∧
    (0xFFFFF ≤ s.getF Fld.OB_CNT_COUNT (d * 1024 + e) + n →
      bitOf ((s.count d e n).rd .OB_SAT (d * 32 + e / 32)).toNat (e % 32) = true) ∧
    ∀ i, i ≠ d * 1024 + e → (s.count d e n).rd .OB_CNT i = s.rd .OB_CNT i) ∧
  (∀ (d e n : Nat) (s : State), d < 8 → e < 1024 → obAssigned d e = true → n ≠ 0 → e % 2 = 0 → s.obPaired d e = true →
    (s.count d e n).getF Fld.OB_CNT_COUNT (d * 1024 + e + 1) * 2 ^ 20 + (s.count d e n).getF Fld.OB_CNT_COUNT (d * 1024 + e) =
      min (s.getF Fld.OB_CNT_COUNT (d * 1024 + e + 1) * 2 ^ 20 + s.getF Fld.OB_CNT_COUNT (d * 1024 + e) + n) (2 ^ 40 - 1)) ∧
  (∀ (d e n : Nat) (s : State), d < 8 → e < 1024 → e % 2 = 1 → s.obPaired d (e - 1) = true →
    ∀ i, (s.count d e n).rd .OB_CNT i = s.rd .OB_CNT i)

/-! ## Freeze, and rules of one sentence -/

/-- R243, R244: a frozen part stays frozen, whatever is done to it, until a power-on reset or RST_N. A step changes none of its
memory, channels, dies, queues, keys, fuses or other units, and of its registers only those of the clock and of the pins; only
the test access port answers. That only RST_N and a power-on reset are taken while frozen is R244; that nothing else of the part
moves is the model's reading of R243 (assumptions/54). -/
def Obligations.FreezeHolds : Prop :=
  ∀ (s t : State), s.Frozen → step s = .next t →
    t.Frozen ∧
    t = { s with
      pending := t.pending, seq := t.seq, jtag := t.jtag, guard := t.guard, ot := t.ot, regs := t.regs, free := t.free
      outputs := t.outputs } ∧
    (∀ n i, n ≠ .RC_CLK → n ≠ .GD_PSNS → t.rd n i = s.rd n i) ∧
    t.guard = { s.guard with latched := t.guard.latched } ∧
    ∃ l : List Output, t.outputs = s.outputs ++ l ∧ ∀ o ∈ l, (∃ b, o = .tdo b) ∨ ∃ b, o = .pins b

/-- R470: the JTAG IDCODE reads STEPPING in bits [31:28], PART_CODE in bits [27:12], the JEP106 identity code in bits [11:1] and
1 in bit [0], bit 0 first; for the SPG-6408 it is 0x06408001 plus twice the code. -/
def Obligations.IdcodeReads : Prop :=
  (∀ (s : State), s.seq.aonHeld = false → RunsTo .idcode s fun t => ∃ w : Word, t.outputs = s.outputs ++ [.tdo (wordBits w)] ∧
    bitsOf w.toNat 28 4 = s.getF Fld.PART_INFO_STEPPING 0 ∧ bitsOf w.toNat 12 16 = s.getF Fld.PART_INFO_PART_CODE 0 ∧
    bitsOf w.toNat 1 11 = Config.jep106.toNat ∧ bitOf w.toNat 0 = true) ∧
  (RunsTo .idcode State.reset fun t =>
    t.outputs = [.tdo (wordBits (BitVec.ofNat 32 (0x06408001 + 2 * Config.jep106.toNat)))])

/-- R366: RESET_HIF acts as though FENCE were set: it starts only when the pair has no other command started. With the key it
performs the reset of scope HIF; with any other ARG0 it completes with INVALID_FIELD (2). -/
def Obligations.ResetHifIsFenced : Prop :=
  (∀ (f : FnId) (q : PairId) (k w : List Word) (a m : MemAccess) (x : Pair) (s : State), s.hifLive = true →
    s.pairOn (pairNo f.val q.val) = true → s.flag Fld.HI_CTX_CTRL_EN 0 = true → s.pair (pairNo f.val q.val) = some x →
    x.error = false → x.deleting = none → x.fetched = none → x.started.length < 16 → x.sqHead ≠ x.sqTail →
    (s.hostAccess m).1 = true → x.started ≠ [] → subOp w = 0x04 →
    RunsTo (.commandStart f q k a w m) s fun t => t.pair (pairNo f.val q.val) =
      some { x with sqHead := (x.sqHead + 1) % ringLen x.sqSize, fetched := some w }) ∧
  (∀ (f : FnId) (q : PairId) (n : Nat) (c : RingCmd) (s : State), s.hifLive = true → s.seq.frozen = false →
    s.ringCmd f.val q.val n (fun op => decide (op = 0x04)) = some c → subArg c.words 0 = 0x48494652 → s.seq.phase = .run →
    s.seq.part = false → s.seq.dies = [] →
    RunsTo (.resetHif f q n) s fun t => t.seq = { s.seq with phase := .deferred, hif := true, causes := t.seq.causes }) ∧
  (∀ (f : FnId) (q : PairId) (n : Nat) (c : RingCmd) (s : State), s.hifLive = true →
    s.ringCmd f.val q.val n (fun op => decide (op = 0x04)) = some c → subArg c.words 0 ≠ 0x48494652 →
    RunsTo (.resetHif f q n) s fun t => t.RingDone (pairNo f.val q.val) c.serial 0 0 2 ∧ t.seq = s.seq)

/-- R367: GET_PUBKEYS writes the 97-byte DeviceID P-384 point at BUF + 0x000 and the 2,592-byte ML-DSA-87 public key at BUF +
0x080, with zeros between; while IDENTITY reads 0 it completes with REFUSED (7), reason 1. -/
def Obligations.PublicKeyLayout : Prop :=
  (∀ (f : FnId) (q : PairId) (n : Nat) (a : MemAccess) (c : RingCmd) (k : Digest) (s : State), s.hifLive = true → s.platLive = true →
    s.ringCmd f.val q.val n (fun op => decide (op = 0x08)) = some c → bufOk c.words 2720 = true → s.keys.cdi0 = some k →
    s.identity = true → (s.hostAccess a).1 = true →
    RunsTo (.getPubkeys f q n a) s fun t => t.RingDone (pairNo f.val q.val) c.serial 0 0 0 ∧
      ∃ b : List Byte, t.outputs = s.outputs ++ [.hostWrite (subBuf c.words) b] ∧ b.length = 0x80 + 2592 ∧
        sliceB b 0 97 = sliceB (Config.ecdsaPublic (didE k)) 0 97 ∧ sliceB b 97 31 = List.replicate 31 0 ∧
        sliceB b 0x80 2592 = sliceB (Config.mldsaPublic (didM k)) 0 2592) ∧
  (∀ (f : FnId) (q : PairId) (n : Nat) (a : MemAccess) (c : RingCmd) (s : State), s.hifLive = true → s.platLive = true →
    s.ringCmd f.val q.val n (fun op => decide (op = 0x08)) = some c → bufOk c.words 2720 = true → s.identity = false →
    RunsTo (.getPubkeys f q n a) s fun t => t.RingDone (pairNo f.val q.val) c.serial 1 0 7 ∧ t.outputs = s.outputs)

/-- R198 to R201: a flit holds its phase, its two bytes and a check bit for each half; a receiver passes every flit as it was made,
and finds every inversion of one bit. A phase is cut into flits of two bytes, a last single byte in D[15:8] with zeros below it, and
gives its bytes back. A transfer is cut into runs that follow one another, none of which leaves its aligned 128-byte span or takes
more than 64 flits. R345: the endpoint ignores an attempt to enable what Table 12.1 does not give it: ATS, PRI, PASID, TPH, resizable
BAR, INTx and MSI. -/
def Obligations.FlitsAndRuns : Prop :=
  (∀ (ph : Nat) (a b : Byte), ph < 4 → flitOk (flitOf ph a b) = true ∧ bitsOf (flitOf ph a b).toNat 16 2 = ph ∧
    bitsOf (flitOf ph a b).toNat 8 8 = a.toNat ∧ bitsOf (flitOf ph a b).toNat 0 8 = b.toNat) ∧
  (∀ (w : Flit) (k : Nat), flitOk w = true → k < 20 → flitOk (w ^^^ BitVec.ofNat 20 (2 ^ k)) = false) ∧
  (∀ (ph : Nat) (l : List Byte), flitBytes l.length (flitsOf ph l) = l ∧ (flitsOf ph l).length = (l.length + 1) / 2 ∧
    firstBad (flitsOf ph l) = none) ∧
  (∀ (ph : Nat) (l : List Byte) (a : Byte), l.length % 2 = 0 → flitsOf ph (l ++ [a]) = flitsOf ph l ++ [flitOf ph a 0]) ∧
  (∀ (a len : Nat), ((runsOf a len).map fun p => p.2).sum = len ∧ ((runsOf a len).head?.map fun p => p.1) =
      (if len = 0 then none else some a) ∧
    (∀ p ∈ runsOf a len, 0 < p.2 ∧ p.1 / 128 = (p.1 + p.2 - 1) / 128) ∧
    (∀ p ∈ runsOf a len, ∀ (ph : Nat) (l : List Byte), l.length = p.2 → (flitsOf ph l).length ≤ 64) ∧
    (runsOf a len).IsChain fun p q => q.1 = p.1 + p.2) ∧
  (∀ (x : PcieItem) (n : Nat) (on : Bool) (s : State),
    x ∈ [PcieItem.ats, .pri, .pasid, .tph, .resizableBar, .intx, .msi] → x.present = false ∧ s.configEnable x n on = s)

end Obligations
end

