-- ==== Sys2Proof/Laws/Bits.lean ====
section
/-! SUPPORT. Fields of numbers: what a field of a number reads after a field was set. -/

namespace Sys2Proof.Machine

theorem bitsOf_lt (v lo n : Nat) : bitsOf v lo n < 2 ^ n := Nat.mod_lt _ (Nat.two_pow_pos n)

/-- A number as its part above a field, the field, and its part below. -/
theorem split_at_field (v lo n : Nat) :
    v = v / 2 ^ (lo + n) * 2 ^ (lo + n) + bitsOf v lo n * 2 ^ lo + v % 2 ^ lo := by
  have h1 := Nat.div_add_mod v (2 ^ lo)
  have h2 := Nat.div_add_mod (v / 2 ^ lo) (2 ^ n)
  have h3 : v / 2 ^ (lo + n) = v / 2 ^ lo / 2 ^ n := by rw [Nat.pow_add, Nat.div_div_eq_div_mul]
  unfold bitsOf
  rw [h3, Nat.pow_add]
  calc v = 2 ^ lo * (v / 2 ^ lo) + v % 2 ^ lo := h1.symm
    _ = 2 ^ lo * (2 ^ n * (v / 2 ^ lo / 2 ^ n) + v / 2 ^ lo % 2 ^ n) + v % 2 ^ lo := by rw [h2]
    _ = _ := by ring

/-- A number with a field replaced, in the same parts. -/
theorem setBits_eq (v lo n x : Nat) :
    setBits v lo n x = v / 2 ^ (lo + n) * 2 ^ (lo + n) + x % 2 ^ n * 2 ^ lo + v % 2 ^ lo := by
  have h := split_at_field v lo n
  unfold setBits
  omega

/-- The three parts of a number that is given as them. -/
theorem parts_of_sum (hi b l lo n : Nat) (hb : b < 2 ^ n) (hl : l < 2 ^ lo) :
    bitsOf (hi * 2 ^ (lo + n) + b * 2 ^ lo + l) lo n = b := by
  have e : hi * 2 ^ (lo + n) + b * 2 ^ lo + l = l + 2 ^ lo * (b + 2 ^ n * hi) := by rw [Nat.pow_add]; ring
  unfold bitsOf
  rw [e, Nat.add_mul_div_left _ _ (Nat.two_pow_pos lo), Nat.div_eq_of_lt hl, Nat.zero_add,
    Nat.add_mul_mod_self_left, Nat.mod_eq_of_lt hb]

theorem bitsOf_setBits_same (v lo n x : Nat) : bitsOf (setBits v lo n x) lo n = x % 2 ^ n := by
  rw [setBits_eq]
  exact parts_of_sum _ _ _ _ _ (Nat.mod_lt _ (Nat.two_pow_pos n)) (Nat.mod_lt _ (Nat.two_pow_pos lo))

/-- A bit of a number with a field replaced. -/
theorem testBit_setBits (v lo n x k : Nat) :
    (setBits v lo n x).testBit k = if lo ≤ k ∧ k < lo + n then x.testBit (k - lo) else v.testBit k := by
  have hl : v % 2 ^ lo < 2 ^ lo := Nat.mod_lt _ (Nat.two_pow_pos lo)
  have hx : x % 2 ^ n < 2 ^ n := Nat.mod_lt _ (Nat.two_pow_pos n)
  have e : setBits v lo n x = 2 ^ lo * (2 ^ n * (v / 2 ^ (lo + n)) + x % 2 ^ n) + v % 2 ^ lo := by
    rw [setBits_eq, Nat.pow_add]; ring
  rw [e, Nat.testBit_two_pow_mul_add _ hl]
  split
  · rename_i h
    rw [Nat.testBit_mod_two_pow, if_neg (by omega)]
    simp [h]
  · rename_i h
    rw [Nat.testBit_two_pow_mul_add _ hx]
    split
    · rename_i h2
      rw [if_pos (by omega), Nat.testBit_mod_two_pow]
      simp [h2]
    · rename_i h2
      rw [if_neg (by omega), Nat.testBit_div_two_pow]
      congr 1
      omega

theorem testBit_bitsOf (v lo n k : Nat) : (bitsOf v lo n).testBit k = (decide (k < n) && v.testBit (lo + k)) := by
  unfold bitsOf
  rw [Nat.testBit_mod_two_pow, Nat.testBit_div_two_pow, Nat.add_comm]

/-- A field that does not meet the one that was set. -/
theorem bitsOf_setBits_other (v lo n x lo' n' : Nat) (h : lo' + n' ≤ lo ∨ lo + n ≤ lo') :
    bitsOf (setBits v lo n x) lo' n' = bitsOf v lo' n' := by
  apply Nat.eq_of_testBit_eq
  intro k
  rw [testBit_bitsOf, testBit_bitsOf, testBit_setBits]
  by_cases hk : k < n'
  · rw [if_neg (by omega)]
  · simp [hk]

/-- Setting a field of a word keeps it a word. -/
theorem setBits_lt (v lo n x m : Nat) (hv : v < 2 ^ m) (h : lo + n ≤ m) : setBits v lo n x < 2 ^ m := by
  apply Nat.lt_pow_two_of_testBit
  intro k hk
  rw [testBit_setBits, if_neg (by omega)]
  exact Nat.testBit_lt_two_pow (Nat.lt_of_lt_of_le hv (Nat.pow_le_pow_right (by decide) hk))

end Sys2Proof.Machine
end

