-- ==== Sys2Proof/Laws/Memory.lean ====
section
/-! SUPPORT. Sparse maps and the core SRAM: every operation keeps the canonical form, a byte written reads back, every other
byte reads as before. -/

namespace Sys2Proof.Machine

/-! ## Sparse maps -/

/-- Keys strictly rising, and above a bound. -/
def Rising {α : Type} (lo : Nat) : List (Nat × α) → Prop
  | [] => True
  | (k, _) :: t => lo ≤ k ∧ Rising (k + 1) t

theorem Rising.weaken {α : Type} {a b : Nat} (h : a ≤ b) : ∀ {t : List (Nat × α)}, Rising b t → Rising a t
  | [], _ => trivial
  | (_, _) :: _, ⟨h1, h2⟩ => ⟨Nat.le_trans h h1, h2⟩

theorem Rising.filter {α : Type} (p : Nat × α → Bool) : ∀ {lo : Nat} {t : List (Nat × α)}, Rising lo t → Rising lo (t.filter p)
  | _, [], _ => trivial
  | lo, (k, v) :: t, ⟨h1, h2⟩ => by
    have ih := Rising.filter p h2
    by_cases hp : p (k, v) = true
    · rw [List.filter_cons_of_pos hp]
      exact ⟨h1, ih⟩
    · rw [List.filter_cons_of_neg hp]
      exact Rising.weaken (by omega) ih

theorem Rising.insert {α : Type} (v : α) : ∀ {lo k : Nat} {t : List (Nat × α)}, lo ≤ k → Rising lo t → (∀ e ∈ t, e.1 ≠ k) →
    Rising lo (Tbl.insert t k v)
  | _, _, [], hk, _, _ => ⟨hk, trivial⟩
  | lo, k, (k', v') :: t, hk, ⟨h1, h2⟩, hn => by
    have hne : k' ≠ k := hn (k', v') (by simp)
    unfold Tbl.insert
    split
    · rename_i h
      exact ⟨hk, by omega, h2⟩
    · rename_i h
      exact ⟨h1, Rising.insert v (by omega) h2 fun e he => hn e (by simp [he])⟩

theorem Tbl.drop_ne {α : Type} (t : List (Nat × α)) (k : Nat) : ∀ e ∈ Tbl.drop t k, e.1 ≠ k := by
  intro e he
  simpa using (List.mem_filter.mp he).2

theorem Tbl.drop_cons {α : Type} (e : Nat × α) (t : List (Nat × α)) (k : Nat) :
    Tbl.drop (e :: t) k = if e.1 = k then Tbl.drop t k else e :: Tbl.drop t k := by
  unfold Tbl.drop
  by_cases h : e.1 = k <;> simp [List.filter, h]

theorem Tbl.get_drop_other {α : Type} (t : List (Nat × α)) (k q : Nat) (d : α) (h : q ≠ k) :
    Tbl.get (Tbl.drop t k) q d = Tbl.get t q d := by
  induction t with
  | nil => rfl
  | cons e t ih =>
    by_cases h1 : e.1 = k
    · have h2 : e.1 ≠ q := fun h2 => h (h2 ▸ h1)
      rw [Tbl.drop_cons, if_pos h1, ih, Tbl.get, if_neg h2]
    · rw [Tbl.drop_cons, if_neg h1, Tbl.get, Tbl.get, ih]

theorem Tbl.get_drop_same {α : Type} (t : List (Nat × α)) (k : Nat) (d : α) : Tbl.get (Tbl.drop t k) k d = d := by
  induction t with
  | nil => rfl
  | cons e t ih =>
    by_cases h : e.1 = k <;> simp [Tbl.drop_cons, Tbl.get, h, ih]

theorem Tbl.get_insert_same {α : Type} (t : List (Nat × α)) (k : Nat) (v d : α) (h : ∀ e ∈ t, e.1 ≠ k) :
    Tbl.get (Tbl.insert t k v) k d = v := by
  induction t with
  | nil => simp [Tbl.insert, Tbl.get]
  | cons e t ih =>
    have h1 : e.1 ≠ k := h e (by simp)
    unfold Tbl.insert
    split
    · simp [Tbl.get]
    · simp [Tbl.get, h1, ih fun x hx => h x (by simp [hx])]

theorem Tbl.get_insert_other {α : Type} (t : List (Nat × α)) (k q : Nat) (v d : α) (h : q ≠ k) :
    Tbl.get (Tbl.insert t k v) q d = Tbl.get t q d := by
  induction t with
  | nil => simp [Tbl.insert, Tbl.get, Ne.symm h]
  | cons e t ih =>
    unfold Tbl.insert
    split
    · simp [Tbl.get, Ne.symm h]
    · by_cases h1 : e.1 = q <;> simp [Tbl.get, h1, ih]

@[simp] theorem Tbl.get_set_same {α : Type} [DecidableEq α] (t : List (Nat × α)) (k : Nat) (v d : α) :
    Tbl.get (Tbl.set t k v d) k d = v := by
  unfold Tbl.set
  split
  · rename_i h
    rw [Tbl.get_drop_same, h]
  · exact Tbl.get_insert_same _ _ _ _ (Tbl.drop_ne t k)

theorem Tbl.get_set_other {α : Type} [DecidableEq α] (t : List (Nat × α)) (k q : Nat) (v d : α) (h : q ≠ k) :
    Tbl.get (Tbl.set t k v d) q d = Tbl.get t q d := by
  unfold Tbl.set
  split
  · exact Tbl.get_drop_other _ _ _ _ h
  · rw [Tbl.get_insert_other _ _ _ _ _ h, Tbl.get_drop_other _ _ _ _ h]

/-! ## Channels and dies of the state -/

@[simp] theorem State.ch_setCh_same (s : State) (n : Nat) (c : Chan) : (s.setCh n c).ch n = c := Tbl.get_set_same _ _ _ _
theorem State.ch_setCh_other (s : State) (n m : Nat) (c : Chan) (h : m ≠ n) : (s.setCh n c).ch m = s.ch m :=
  Tbl.get_set_other _ _ _ _ _ h
@[simp] theorem State.ch_modCh_same (s : State) (n : Nat) (f : Chan → Chan) : (s.modCh n f).ch n = f (s.ch n) :=
  State.ch_setCh_same _ _ _
@[simp] theorem State.die_setDie_same (s : State) (d : Nat) (x : Die) : (s.setDie d x).die d = x := Tbl.get_set_same _ _ _ _
theorem State.die_setDie_other (s : State) (d e : Nat) (x : Die) (h : e ≠ d) : (s.setDie d x).die e = s.die e :=
  Tbl.get_set_other _ _ _ _ _ h
@[simp] theorem State.die_modDie_same (s : State) (d : Nat) (f : Die → Die) : (s.modDie d f).die d = f (s.die d) :=
  State.die_setDie_same _ _ _
@[simp] theorem State.queue_setQueue_same (s : State) (d : Nat) (q : FaultQueue) : (s.setQueue d q).queue d = q :=
  Tbl.get_set_same _ _ _ _

/-! ## Core SRAM -/

theorem Memory.wf_iff_rising (m : List Host.Cell) : Memory.wf m = true ↔ Rising 0 m := by
  suffices h : ∀ (t : List Host.Cell) (k : Nat) (v : Byte), Memory.wf ((k, v) :: t) = true ↔ Rising (k + 1) t by
    match m with
    | [] => simp [Memory.wf, Rising]
    | (k, v) :: t => rw [h t k v]; simp [Rising]
  intro t
  induction t with
  | nil => intro k v; simp [Memory.wf, Rising]
  | cons e t ih =>
    intro k v
    simp only [Memory.wf, Bool.and_eq_true, decide_eq_true_eq, ih, Rising]
    constructor <;> rintro ⟨a, b⟩ <;> exact ⟨by omega, b⟩

/-- Storing a byte keeps the canonical form. -/
theorem Memory.put_wf (m : List Host.Cell) (k : Nat) (v : Byte) (listed : Bool) (h : Memory.wf m = true) :
    Memory.wf (Memory.put m k v listed) = true := by
  rw [Memory.wf_iff_rising] at h ⊢
  unfold Memory.put
  dsimp only
  split
  · exact h.filter _
  · exact Rising.insert v (Nat.zero_le k) (h.filter _) (Tbl.drop_ne m k)

/-- A byte reads what was stored; a zero is kept as no entry where unlisted bytes read zero. -/
theorem State.sramRead_write_same (s : State) (d a : Nat) (b : Byte) : (s.sramWrite d a b).sramRead d a = b := by
  have hz : ∀ t : State, t.dies = s.dies → t.regs = s.regs → t.variant = s.variant → t.sramUnlisted d a = s.sramUnlisted d a := by
    intro t h1 h2 h3
    unfold State.sramUnlisted State.sramZero State.die State.flag State.getF State.rd
    rw [h1, h2, h3]
  have hfind : ∀ m : List Host.Cell, ∀ k, Memory.find (Tbl.drop m k) k = none := by
    intro m k
    induction m with
    | nil => rfl
    | cons e t ih =>
      by_cases h : e.1 = k <;> simp [Tbl.drop_cons, Memory.find, h, ih]
  have hins : ∀ m : List Host.Cell, ∀ k v, (∀ e ∈ m, e.1 ≠ k) → Memory.find (Tbl.insert m k v) k = some v := by
    intro m k v
    induction m with
    | nil => intro _; simp [Tbl.insert, Memory.find]
    | cons e t ih =>
      intro h
      have h1 : e.1 ≠ k := h e (by simp)
      unfold Tbl.insert
      split
      · simp [Memory.find]
      · simp [Memory.find, h1, ih fun x hx => h x (by simp [hx])]
  unfold State.sramRead
  rw [hz (s.sramWrite d a b) rfl rfl rfl]
  unfold State.sramWrite Memory.put
  dsimp only
  split
  · rename_i h
    rw [hfind]
    have : s.sramZero d a = true := by simpa using h.2
    simp [State.sramUnlisted, this, h.1]
  · rw [hins _ _ _ (Tbl.drop_ne _ _)]
    rfl

/-- A store of one byte leaves every byte at another key alone. -/
theorem State.sramRead_write_other (s : State) (d a e c : Nat) (b : Byte) (h : sramKey e c ≠ sramKey d a) :
    (s.sramWrite d a b).sramRead e c = s.sramRead e c := by
  have hdrop : ∀ m : List Host.Cell, ∀ k q, q ≠ k → Memory.find (Tbl.drop m k) q = Memory.find m q := by
    intro m k q hq
    induction m with
    | nil => rfl
    | cons e t ih =>
      by_cases h1 : e.1 = k
      · have h2 : e.1 ≠ q := fun h2 => hq (h2 ▸ h1)
        rw [Tbl.drop_cons, if_pos h1, ih, Memory.find, if_neg h2]
      · rw [Tbl.drop_cons, if_neg h1, Memory.find, Memory.find, ih]
  have hins : ∀ m : List Host.Cell, ∀ k q v, q ≠ k → Memory.find (Tbl.insert m k v) q = Memory.find m q := by
    intro m k q v hq
    induction m with
    | nil => simp [Tbl.insert, Memory.find, Ne.symm hq]
    | cons e t ih =>
      unfold Tbl.insert
      split
      · simp [Memory.find, Ne.symm hq]
      · by_cases h1 : e.1 = q <;> simp [Memory.find, h1, ih]
  have hz : (s.sramWrite d a b).sramUnlisted e c = s.sramUnlisted e c := rfl
  unfold State.sramRead
  rw [hz]
  unfold State.sramWrite Memory.put
  dsimp only
  split
  · rw [hdrop _ _ _ h]
  · rw [hins _ _ _ _ h, hdrop _ _ _ h]

/-- Every store to core SRAM keeps the canonical form. -/
theorem State.sramWrite_wf (s : State) (d a : Nat) (b : Byte) (h : Memory.wf s.sram = true) :
    Memory.wf (s.sramWrite d a b).sram = true := Memory.put_wf _ _ _ _ h

theorem State.sramStore_wf (s : State) (d a : Nat) (l : List Byte) (h : Memory.wf s.sram = true) :
    Memory.wf (s.sramStore d a l).sram = true := by
  unfold State.sramStore
  generalize l.zipIdx = z
  induction z generalizing s with
  | nil => exact h
  | cons p t ih => exact ih _ (s.sramWrite_wf _ _ _ h)

/-- A sentry store keeps it, whether it stalls or not. -/
theorem State.sentryStore_wf (s : State) (p : Nat × Nat × Byte) (h : Memory.wf s.sram = true) :
    Memory.wf (s.sentryStore p).sram = true := by
  unfold State.sentryStore
  split
  · exact h
  · exact s.sramWrite_wf _ _ _ h

theorem State.stores_wf (s : State) (l : Stores) (h : Memory.wf s.sram = true) : Memory.wf (s.stores l).sram = true := by
  unfold State.stores
  induction l generalizing s with
  | nil => exact h
  | cons p t ih => exact ih _ (s.sentryStore_wf _ h)

theorem State.storesResume_wf (s : State) (h : Memory.wf s.sram = true) : Memory.wf s.storesResume.sram = true := by
  unfold State.storesResume
  generalize s.boot.stalled = l
  have h' : Memory.wf ({ s with boot := { s.boot with stalled := [] } } : State).sram = true := h
  revert h'
  generalize ({ s with boot := { s.boot with stalled := [] } } : State) = u
  intro h'
  induction l generalizing u with
  | nil => exact h'
  | cons p t ih => exact ih _ (u.sentryStore_wf _ h')

theorem State.sramForget_wf (s : State) (d : Nat) (h : Memory.wf s.sram = true) : Memory.wf (s.sramForget d).sram = true := by
  rw [Memory.wf_iff_rising] at h ⊢
  exact Rising.filter _ h

theorem State.reset_sram_wf : Memory.wf State.reset.sram = true := rfl

end Sys2Proof.Machine
end

