-- ==== Sys2Proof/Laws/Reach.lean ====
section
/-! SUPPORT. An access that reaches its register is the register's own effect; a condition that holds lets the effect take
place. -/

namespace Sys2Proof.Machine

theorem State.when_of (s : State) (c : Bool) (f : State → State) (h : c = true) : s.when c f = f s := by
  subst h; rfl

theorem State.dieAccess_open {s : State} {req : Requester} {d : Nat} (f : State → State) (h : s.DieOpen req d) :
    s.dieAccess req d f = f s := by
  obtain ⟨h1, h2, h3, h4⟩ := h
  simp [State.dieAccess, h1, h2, h3, h4]

theorem State.dieFetch_open {s : State} {req : Requester} {d : Nat} (f : State → Word × State) (h : s.DieOpen req d) :
    s.dieFetch req d f = fetched (f s) := by
  obtain ⟨h1, h2, h3, h4⟩ := h
  simp [State.dieFetch, h1, h2, h3, h4]

theorem State.dieRead_open {s : State} {req : Requester} {d : Nat} (f : State → Word × State) (h : s.DieOpen req d) :
    s.dieRead req d f = State.answer (f s) := by
  rw [State.dieRead, State.dieFetch_open f h]; rfl

theorem State.platAccess_open {s : State} {req : Requester} (f : State → State) (h : s.PlatOpen req) :
    s.platAccess req f = f s := by
  simp [State.platAccess, State.when, h.1, h.2]

theorem State.platFetch_open {s : State} {req : Requester} (f : State → Word × State) (h : s.PlatOpen req) :
    s.platFetch req f = fetched (f s) := by
  simp [State.platFetch, h.1, h.2]

theorem State.hifAccess_open {s : State} {req : Requester} (f : State → State) (h : s.HifOpen req) :
    s.hifAccess req f = f s := by
  obtain ⟨⟨h1, h2⟩, h3⟩ := h
  simp [State.hifAccess, h1, h2, h3]

theorem State.hifFetch_open {s : State} {req : Requester} (f : State → Word × State) (h : s.HifOpen req) :
    s.hifFetch req f = fetched (f s) := by
  obtain ⟨⟨h1, h2⟩, h3⟩ := h
  simp [State.hifFetch, h1, h2, h3]

theorem State.rlvAccess_open {s : State} {req : Requester} (f : State → State) (h : s.RlvOpen req) :
    s.rlvAccess req f = f s := by
  obtain ⟨⟨h1, h2⟩, h3⟩ := h
  simp [State.rlvAccess, h1, h2, h3]

theorem State.rlvFetch_open {s : State} {req : Requester} (f : State → Word × State) (h : s.RlvOpen req) :
    s.rlvFetch req f = fetched (f s) := by
  obtain ⟨⟨h1, h2⟩, h3⟩ := h
  simp [State.rlvFetch, h1, h2, h3]

theorem State.aonAccess_open {s : State} {req : Requester} (f : State → State) (h : s.reqFar req = true) :
    s.aonAccess req f = f s := by
  simp [State.aonAccess, State.when, h]

theorem State.aonFetch_open {s : State} {req : Requester} (f : State → Word × State) (h : s.reqFar req = true) :
    s.aonFetch req f = fetched (f s) := by
  simp [State.aonFetch, h]

theorem State.portAccess_open {s : State} {req : Requester} {p : Nat} (f : State → State) (h : s.PortOpen req p) :
    s.portAccess req p f = f s := by
  unfold State.PortOpen at h
  unfold State.portAccess
  split at h
  · rename_i hp; rw [if_pos hp]; exact State.dieAccess_open f h
  · rename_i hp; rw [if_neg hp]; exact State.platAccess_open f h

end Sys2Proof.Machine
end

