-- ==== Sys2Proof/Laws/Regs.lean ====
section
/-! SUPPORT. The register file: what a register or a field reads after a write. -/

namespace Sys2Proof.Machine

/-! ## The list -/

theorem RegFile.find_drop_same (f : RegFile) (r : Reg) : RegFile.find (RegFile.drop f fun x => decide (x = r)) r = none := by
  induction f with
  | nil => rfl
  | cons e t ih =>
    unfold RegFile.drop at ih ⊢
    by_cases h : e.1 = r <;> simp [List.filter, RegFile.find, h, ih]

theorem RegFile.find_drop_other (f : RegFile) (r q : Reg) (h : q ≠ r) :
    RegFile.find (RegFile.drop f fun x => decide (x = r)) q = RegFile.find f q := by
  induction f with
  | nil => rfl
  | cons e t ih =>
    unfold RegFile.drop at ih ⊢
    by_cases h1 : e.1 = r
    · have : e.1 ≠ q := fun h2 => h (h2 ▸ h1)
      simp [List.filter, RegFile.find, h1, ih, Ne.symm h]
    · by_cases h2 : e.1 = q <;> simp_all [List.filter, RegFile.find]

theorem RegFile.find_insert_same (f : RegFile) (r : Reg) (v : Word) (h : RegFile.find f r = none) :
    RegFile.find (RegFile.insert f r v) r = some v := by
  induction f with
  | nil => simp [RegFile.insert, RegFile.find]
  | cons e t ih =>
    by_cases h1 : e.1 = r
    · simp [RegFile.find, h1] at h
    · simp only [RegFile.find, h1, if_false] at h
      unfold RegFile.insert
      split
      · simp [RegFile.find]
      · simp [RegFile.find, h1, ih h]

theorem RegFile.find_insert_other (f : RegFile) (r q : Reg) (v : Word) (h : q ≠ r) :
    RegFile.find (RegFile.insert f r v) q = RegFile.find f q := by
  induction f with
  | nil => simp [RegFile.insert, RegFile.find, Ne.symm h]
  | cons e t ih =>
    unfold RegFile.insert
    split
    · simp [RegFile.find, Ne.symm h]
    · by_cases h1 : e.1 = q <;> simp [RegFile.find, h1, ih]

/-! ## Registers of the state -/

@[simp] theorem State.wr_variant (s : State) (n : RegName) (i : Nat) (v : Word) : (s.wr n i v).variant = s.variant := rfl

/-- A write is read back. -/
@[simp] theorem State.rd_wr_same (s : State) (n : RegName) (i : Nat) (v : Word) : (s.wr n i v).rd n i = v := by
  unfold State.rd State.wr RegFile.put
  dsimp only
  split
  · rename_i h
    rw [RegFile.find_drop_same]
    exact h.symm
  · rw [RegFile.find_insert_same _ _ _ (RegFile.find_drop_same _ _)]
    rfl

/-- A write leaves every other register alone. -/
theorem State.rd_wr_other (s : State) (n m : RegName) (i j : Nat) (v : Word) (h : m ≠ n ∨ j ≠ i) :
    (s.wr n i v).rd m j = s.rd m j := by
  have hr : (⟨m, j⟩ : Reg) ≠ ⟨n, i⟩ := by
    intro e
    injection e with e1 e2
    rcases h with h | h
    · exact h e1
    · exact h e2
  unfold State.rd State.wr RegFile.put
  dsimp only
  split
  · rw [RegFile.find_drop_other _ _ _ hr]
  · rw [RegFile.find_insert_other _ _ _ _ hr, RegFile.find_drop_other _ _ _ hr]

@[simp] theorem State.rd_wr_name (s : State) (n m : RegName) (i j : Nat) (v : Word) (h : m ≠ n) :
    (s.wr n i v).rd m j = s.rd m j := s.rd_wr_other n m i j v (Or.inl h)

/-- What any register reads after a write. -/
theorem State.rd_wr (s : State) (n m : RegName) (i j : Nat) (v : Word) :
    (s.wr n i v).rd m j = if m = n ∧ j = i then v else s.rd m j := by
  split
  · rename_i h
    rw [h.1, h.2, State.rd_wr_same]
  · rename_i h
    exact s.rd_wr_other n m i j v (by
      by_cases h1 : m = n
      · exact Or.inr fun h2 => h ⟨h1, h2⟩
      · exact Or.inl h1)

/-! ## Fields -/

/-- A field lies inside a word. -/
abbrev Field.fits (f : Field) : Prop := f.lo + f.width ≤ 32

theorem Field.put_toNat (f : Field) (w : Word) (x : Nat) (h : f.fits) : (f.put w x).toNat = setBits w.toNat f.lo f.width x := by
  unfold Field.put
  rw [BitVec.toNat_ofNat]
  exact Nat.mod_eq_of_lt (setBits_lt _ _ _ _ _ w.isLt h)

/-- A field that was set reads what was stored. -/
theorem Field.of_put_same (f : Field) (w : Word) (x : Nat) (h : f.fits) : f.of (f.put w x) = x % 2 ^ f.width := by
  unfold Field.of
  rw [Field.put_toNat f w x h, bitsOf_setBits_same]

/-- Setting a field leaves the other fields alone. -/
theorem Field.of_put_other (f g : Field) (w : Word) (x : Nat) (h : f.fits) (hd : g.lo + g.width ≤ f.lo ∨ f.lo + f.width ≤ g.lo) :
    g.of (f.put w x) = g.of w := by
  unfold Field.of
  rw [Field.put_toNat f w x h, bitsOf_setBits_other _ _ _ _ _ _ hd]

theorem State.getF_setF_same (s : State) (f : Field) (i x : Nat) (h : f.fits) : (s.setF f i x).getF f i = x % 2 ^ f.width := by
  unfold State.getF State.setF
  rw [State.rd_wr_same, Field.of_put_same _ _ _ h]

theorem State.getF_setF_other (s : State) (f g : Field) (i j x : Nat) (hf : f.fits)
    (h : g.reg ≠ f.reg ∨ j ≠ i ∨ g.lo + g.width ≤ f.lo ∨ f.lo + f.width ≤ g.lo) : (s.setF f i x).getF g j = s.getF g j := by
  unfold State.getF State.setF
  rw [State.rd_wr]
  split
  · rename_i e
    rcases h with h | h | h
    · exact absurd e.1 h
    · exact absurd e.2 h
    · rw [e.1, e.2, Field.of_put_other _ _ _ _ hf h]
  · rfl

end Sys2Proof.Machine
end

