-- ==== Sys2Proof/Laws/State.lean ====
section
/-! SUPPORT. What each named update of the state leaves alone: one lemma for each field and update. -/

namespace Sys2Proof.Machine

variable (s : State)

@[simp] theorem State.wr_sram (n : RegName) (i : Nat) (v : Word) : (s.wr n i v).sram = s.sram := rfl
@[simp] theorem State.wr_chans (n : RegName) (i : Nat) (v : Word) : (s.wr n i v).chans = s.chans := rfl
@[simp] theorem State.wr_dies (n : RegName) (i : Nat) (v : Word) : (s.wr n i v).dies = s.dies := rfl
@[simp] theorem State.wr_epoch (n : RegName) (i : Nat) (v : Word) : (s.wr n i v).epoch = s.epoch := rfl
@[simp] theorem State.wr_queues (n : RegName) (i : Nat) (v : Word) : (s.wr n i v).queues = s.queues := rfl
@[simp] theorem State.wr_reports (n : RegName) (i : Nat) (v : Word) : (s.wr n i v).reports = s.reports := rfl
@[simp] theorem State.wr_seq (n : RegName) (i : Nat) (v : Word) : (s.wr n i v).seq = s.seq := rfl
@[simp] theorem State.wr_jtag (n : RegName) (i : Nat) (v : Word) : (s.wr n i v).jtag = s.jtag := rfl
@[simp] theorem State.wr_ot (n : RegName) (i : Nat) (v : Word) : (s.wr n i v).ot = s.ot := rfl
@[simp] theorem State.wr_pcc (n : RegName) (i : Nat) (v : Word) : (s.wr n i v).pcc = s.pcc := rfl
@[simp] theorem State.wr_timeDue (n : RegName) (i : Nat) (v : Word) : (s.wr n i v).timeDue = s.timeDue := rfl
@[simp] theorem State.wr_cseq (n : RegName) (i : Nat) (v : Word) : (s.wr n i v).cseq = s.cseq := rfl
@[simp] theorem State.wr_vault (n : RegName) (i : Nat) (v : Word) : (s.wr n i v).vault = s.vault := rfl
@[simp] theorem State.wr_keys (n : RegName) (i : Nat) (v : Word) : (s.wr n i v).keys = s.keys := rfl
@[simp] theorem State.wr_ports (n : RegName) (i : Nat) (v : Word) : (s.wr n i v).ports = s.ports := rfl
@[simp] theorem State.wr_xip (n : RegName) (i : Nat) (v : Word) : (s.wr n i v).xip = s.xip := rfl
@[simp] theorem State.wr_boot (n : RegName) (i : Nat) (v : Word) : (s.wr n i v).boot = s.boot := rfl
@[simp] theorem State.wr_hif (n : RegName) (i : Nat) (v : Word) : (s.wr n i v).hif = s.hif := rfl
@[simp] theorem State.wr_inbox (n : RegName) (i : Nat) (v : Word) : (s.wr n i v).inbox = s.inbox := rfl
@[simp] theorem State.wr_mbx (n : RegName) (i : Nat) (v : Word) : (s.wr n i v).mbx = s.mbx := rfl
@[simp] theorem State.wr_rv (n : RegName) (i : Nat) (v : Word) : (s.wr n i v).rv = s.rv := rfl
@[simp] theorem State.wr_fuses (n : RegName) (i : Nat) (v : Word) : (s.wr n i v).fuses = s.fuses := rfl
@[simp] theorem State.wr_folio (n : RegName) (i : Nat) (v : Word) : (s.wr n i v).folio = s.folio := rfl
@[simp] theorem State.wr_guard (n : RegName) (i : Nat) (v : Word) : (s.wr n i v).guard = s.guard := rfl
@[simp] theorem State.wr_outputs (n : RegName) (i : Nat) (v : Word) : (s.wr n i v).outputs = s.outputs := rfl
@[simp] theorem State.wr_free (n : RegName) (i : Nat) (v : Word) : (s.wr n i v).free = s.free := rfl
@[simp] theorem State.wr_pending (n : RegName) (i : Nat) (v : Word) : (s.wr n i v).pending = s.pending := rfl

@[simp] theorem State.setF_variant (f : Field) (i x : Nat) : (s.setF f i x).variant = s.variant := rfl
@[simp] theorem State.setF_sram (f : Field) (i x : Nat) : (s.setF f i x).sram = s.sram := rfl
@[simp] theorem State.setF_chans (f : Field) (i x : Nat) : (s.setF f i x).chans = s.chans := rfl
@[simp] theorem State.setF_dies (f : Field) (i x : Nat) : (s.setF f i x).dies = s.dies := rfl
@[simp] theorem State.setF_epoch (f : Field) (i x : Nat) : (s.setF f i x).epoch = s.epoch := rfl
@[simp] theorem State.setF_queues (f : Field) (i x : Nat) : (s.setF f i x).queues = s.queues := rfl
@[simp] theorem State.setF_reports (f : Field) (i x : Nat) : (s.setF f i x).reports = s.reports := rfl
@[simp] theorem State.setF_seq (f : Field) (i x : Nat) : (s.setF f i x).seq = s.seq := rfl
@[simp] theorem State.setF_jtag (f : Field) (i x : Nat) : (s.setF f i x).jtag = s.jtag := rfl
@[simp] theorem State.setF_ot (f : Field) (i x : Nat) : (s.setF f i x).ot = s.ot := rfl
@[simp] theorem State.setF_pcc (f : Field) (i x : Nat) : (s.setF f i x).pcc = s.pcc := rfl
@[simp] theorem State.setF_timeDue (f : Field) (i x : Nat) : (s.setF f i x).timeDue = s.timeDue := rfl
@[simp] theorem State.setF_cseq (f : Field) (i x : Nat) : (s.setF f i x).cseq = s.cseq := rfl
@[simp] theorem State.setF_vault (f : Field) (i x : Nat) : (s.setF f i x).vault = s.vault := rfl
@[simp] theorem State.setF_keys (f : Field) (i x : Nat) : (s.setF f i x).keys = s.keys := rfl
@[simp] theorem State.setF_ports (f : Field) (i x : Nat) : (s.setF f i x).ports = s.ports := rfl
@[simp] theorem State.setF_xip (f : Field) (i x : Nat) : (s.setF f i x).xip = s.xip := rfl
@[simp] theorem State.setF_boot (f : Field) (i x : Nat) : (s.setF f i x).boot = s.boot := rfl
@[simp] theorem State.setF_hif (f : Field) (i x : Nat) : (s.setF f i x).hif = s.hif := rfl
@[simp] theorem State.setF_inbox (f : Field) (i x : Nat) : (s.setF f i x).inbox = s.inbox := rfl
@[simp] theorem State.setF_mbx (f : Field) (i x : Nat) : (s.setF f i x).mbx = s.mbx := rfl
@[simp] theorem State.setF_rv (f : Field) (i x : Nat) : (s.setF f i x).rv = s.rv := rfl
@[simp] theorem State.setF_fuses (f : Field) (i x : Nat) : (s.setF f i x).fuses = s.fuses := rfl
@[simp] theorem State.setF_folio (f : Field) (i x : Nat) : (s.setF f i x).folio = s.folio := rfl
@[simp] theorem State.setF_guard (f : Field) (i x : Nat) : (s.setF f i x).guard = s.guard := rfl
@[simp] theorem State.setF_outputs (f : Field) (i x : Nat) : (s.setF f i x).outputs = s.outputs := rfl
@[simp] theorem State.setF_free (f : Field) (i x : Nat) : (s.setF f i x).free = s.free := rfl
@[simp] theorem State.setF_pending (f : Field) (i x : Nat) : (s.setF f i x).pending = s.pending := rfl

@[simp] theorem State.setFlag_variant (f : Field) (i : Nat) (b : Bool) : (s.setFlag f i b).variant = s.variant := rfl
@[simp] theorem State.setFlag_sram (f : Field) (i : Nat) (b : Bool) : (s.setFlag f i b).sram = s.sram := rfl
@[simp] theorem State.setFlag_chans (f : Field) (i : Nat) (b : Bool) : (s.setFlag f i b).chans = s.chans := rfl
@[simp] theorem State.setFlag_dies (f : Field) (i : Nat) (b : Bool) : (s.setFlag f i b).dies = s.dies := rfl
@[simp] theorem State.setFlag_epoch (f : Field) (i : Nat) (b : Bool) : (s.setFlag f i b).epoch = s.epoch := rfl
@[simp] theorem State.setFlag_queues (f : Field) (i : Nat) (b : Bool) : (s.setFlag f i b).queues = s.queues := rfl
@[simp] theorem State.setFlag_reports (f : Field) (i : Nat) (b : Bool) : (s.setFlag f i b).reports = s.reports := rfl
@[simp] theorem State.setFlag_seq (f : Field) (i : Nat) (b : Bool) : (s.setFlag f i b).seq = s.seq := rfl
@[simp] theorem State.setFlag_jtag (f : Field) (i : Nat) (b : Bool) : (s.setFlag f i b).jtag = s.jtag := rfl
@[simp] theorem State.setFlag_ot (f : Field) (i : Nat) (b : Bool) : (s.setFlag f i b).ot = s.ot := rfl
@[simp] theorem State.setFlag_pcc (f : Field) (i : Nat) (b : Bool) : (s.setFlag f i b).pcc = s.pcc := rfl
@[simp] theorem State.setFlag_timeDue (f : Field) (i : Nat) (b : Bool) : (s.setFlag f i b).timeDue = s.timeDue := rfl
@[simp] theorem State.setFlag_cseq (f : Field) (i : Nat) (b : Bool) : (s.setFlag f i b).cseq = s.cseq := rfl
@[simp] theorem State.setFlag_vault (f : Field) (i : Nat) (b : Bool) : (s.setFlag f i b).vault = s.vault := rfl
@[simp] theorem State.setFlag_keys (f : Field) (i : Nat) (b : Bool) : (s.setFlag f i b).keys = s.keys := rfl
@[simp] theorem State.setFlag_ports (f : Field) (i : Nat) (b : Bool) : (s.setFlag f i b).ports = s.ports := rfl
@[simp] theorem State.setFlag_xip (f : Field) (i : Nat) (b : Bool) : (s.setFlag f i b).xip = s.xip := rfl
@[simp] theorem State.setFlag_boot (f : Field) (i : Nat) (b : Bool) : (s.setFlag f i b).boot = s.boot := rfl
@[simp] theorem State.setFlag_hif (f : Field) (i : Nat) (b : Bool) : (s.setFlag f i b).hif = s.hif := rfl
@[simp] theorem State.setFlag_inbox (f : Field) (i : Nat) (b : Bool) : (s.setFlag f i b).inbox = s.inbox := rfl
@[simp] theorem State.setFlag_mbx (f : Field) (i : Nat) (b : Bool) : (s.setFlag f i b).mbx = s.mbx := rfl
@[simp] theorem State.setFlag_rv (f : Field) (i : Nat) (b : Bool) : (s.setFlag f i b).rv = s.rv := rfl
@[simp] theorem State.setFlag_fuses (f : Field) (i : Nat) (b : Bool) : (s.setFlag f i b).fuses = s.fuses := rfl
@[simp] theorem State.setFlag_folio (f : Field) (i : Nat) (b : Bool) : (s.setFlag f i b).folio = s.folio := rfl
@[simp] theorem State.setFlag_guard (f : Field) (i : Nat) (b : Bool) : (s.setFlag f i b).guard = s.guard := rfl
@[simp] theorem State.setFlag_outputs (f : Field) (i : Nat) (b : Bool) : (s.setFlag f i b).outputs = s.outputs := rfl
@[simp] theorem State.setFlag_free (f : Field) (i : Nat) (b : Bool) : (s.setFlag f i b).free = s.free := rfl
@[simp] theorem State.setFlag_pending (f : Field) (i : Nat) (b : Bool) : (s.setFlag f i b).pending = s.pending := rfl

@[simp] theorem State.orR_variant (n : RegName) (i m : Nat) : (s.orR n i m).variant = s.variant := rfl
@[simp] theorem State.orR_sram (n : RegName) (i m : Nat) : (s.orR n i m).sram = s.sram := rfl
@[simp] theorem State.orR_chans (n : RegName) (i m : Nat) : (s.orR n i m).chans = s.chans := rfl
@[simp] theorem State.orR_dies (n : RegName) (i m : Nat) : (s.orR n i m).dies = s.dies := rfl
@[simp] theorem State.orR_epoch (n : RegName) (i m : Nat) : (s.orR n i m).epoch = s.epoch := rfl
@[simp] theorem State.orR_queues (n : RegName) (i m : Nat) : (s.orR n i m).queues = s.queues := rfl
@[simp] theorem State.orR_reports (n : RegName) (i m : Nat) : (s.orR n i m).reports = s.reports := rfl
@[simp] theorem State.orR_seq (n : RegName) (i m : Nat) : (s.orR n i m).seq = s.seq := rfl
@[simp] theorem State.orR_jtag (n : RegName) (i m : Nat) : (s.orR n i m).jtag = s.jtag := rfl
@[simp] theorem State.orR_ot (n : RegName) (i m : Nat) : (s.orR n i m).ot = s.ot := rfl
@[simp] theorem State.orR_pcc (n : RegName) (i m : Nat) : (s.orR n i m).pcc = s.pcc := rfl
@[simp] theorem State.orR_timeDue (n : RegName) (i m : Nat) : (s.orR n i m).timeDue = s.timeDue := rfl
@[simp] theorem State.orR_cseq (n : RegName) (i m : Nat) : (s.orR n i m).cseq = s.cseq := rfl
@[simp] theorem State.orR_vault (n : RegName) (i m : Nat) : (s.orR n i m).vault = s.vault := rfl
@[simp] theorem State.orR_keys (n : RegName) (i m : Nat) : (s.orR n i m).keys = s.keys := rfl
@[simp] theorem State.orR_ports (n : RegName) (i m : Nat) : (s.orR n i m).ports = s.ports := rfl
@[simp] theorem State.orR_xip (n : RegName) (i m : Nat) : (s.orR n i m).xip = s.xip := rfl
@[simp] theorem State.orR_boot (n : RegName) (i m : Nat) : (s.orR n i m).boot = s.boot := rfl
@[simp] theorem State.orR_hif (n : RegName) (i m : Nat) : (s.orR n i m).hif = s.hif := rfl
@[simp] theorem State.orR_inbox (n : RegName) (i m : Nat) : (s.orR n i m).inbox = s.inbox := rfl
@[simp] theorem State.orR_mbx (n : RegName) (i m : Nat) : (s.orR n i m).mbx = s.mbx := rfl
@[simp] theorem State.orR_rv (n : RegName) (i m : Nat) : (s.orR n i m).rv = s.rv := rfl
@[simp] theorem State.orR_fuses (n : RegName) (i m : Nat) : (s.orR n i m).fuses = s.fuses := rfl
@[simp] theorem State.orR_folio (n : RegName) (i m : Nat) : (s.orR n i m).folio = s.folio := rfl
@[simp] theorem State.orR_guard (n : RegName) (i m : Nat) : (s.orR n i m).guard = s.guard := rfl
@[simp] theorem State.orR_outputs (n : RegName) (i m : Nat) : (s.orR n i m).outputs = s.outputs := rfl
@[simp] theorem State.orR_free (n : RegName) (i m : Nat) : (s.orR n i m).free = s.free := rfl
@[simp] theorem State.orR_pending (n : RegName) (i m : Nat) : (s.orR n i m).pending = s.pending := rfl

@[simp] theorem State.clrR_variant (n : RegName) (i m : Nat) : (s.clrR n i m).variant = s.variant := rfl
@[simp] theorem State.clrR_sram (n : RegName) (i m : Nat) : (s.clrR n i m).sram = s.sram := rfl
@[simp] theorem State.clrR_chans (n : RegName) (i m : Nat) : (s.clrR n i m).chans = s.chans := rfl
@[simp] theorem State.clrR_dies (n : RegName) (i m : Nat) : (s.clrR n i m).dies = s.dies := rfl
@[simp] theorem State.clrR_epoch (n : RegName) (i m : Nat) : (s.clrR n i m).epoch = s.epoch := rfl
@[simp] theorem State.clrR_queues (n : RegName) (i m : Nat) : (s.clrR n i m).queues = s.queues := rfl
@[simp] theorem State.clrR_reports (n : RegName) (i m : Nat) : (s.clrR n i m).reports = s.reports := rfl
@[simp] theorem State.clrR_seq (n : RegName) (i m : Nat) : (s.clrR n i m).seq = s.seq := rfl
@[simp] theorem State.clrR_jtag (n : RegName) (i m : Nat) : (s.clrR n i m).jtag = s.jtag := rfl
@[simp] theorem State.clrR_ot (n : RegName) (i m : Nat) : (s.clrR n i m).ot = s.ot := rfl
@[simp] theorem State.clrR_pcc (n : RegName) (i m : Nat) : (s.clrR n i m).pcc = s.pcc := rfl
@[simp] theorem State.clrR_timeDue (n : RegName) (i m : Nat) : (s.clrR n i m).timeDue = s.timeDue := rfl
@[simp] theorem State.clrR_cseq (n : RegName) (i m : Nat) : (s.clrR n i m).cseq = s.cseq := rfl
@[simp] theorem State.clrR_vault (n : RegName) (i m : Nat) : (s.clrR n i m).vault = s.vault := rfl
@[simp] theorem State.clrR_keys (n : RegName) (i m : Nat) : (s.clrR n i m).keys = s.keys := rfl
@[simp] theorem State.clrR_ports (n : RegName) (i m : Nat) : (s.clrR n i m).ports = s.ports := rfl
@[simp] theorem State.clrR_xip (n : RegName) (i m : Nat) : (s.clrR n i m).xip = s.xip := rfl
@[simp] theorem State.clrR_boot (n : RegName) (i m : Nat) : (s.clrR n i m).boot = s.boot := rfl
@[simp] theorem State.clrR_hif (n : RegName) (i m : Nat) : (s.clrR n i m).hif = s.hif := rfl
@[simp] theorem State.clrR_inbox (n : RegName) (i m : Nat) : (s.clrR n i m).inbox = s.inbox := rfl
@[simp] theorem State.clrR_mbx (n : RegName) (i m : Nat) : (s.clrR n i m).mbx = s.mbx := rfl
@[simp] theorem State.clrR_rv (n : RegName) (i m : Nat) : (s.clrR n i m).rv = s.rv := rfl
@[simp] theorem State.clrR_fuses (n : RegName) (i m : Nat) : (s.clrR n i m).fuses = s.fuses := rfl
@[simp] theorem State.clrR_folio (n : RegName) (i m : Nat) : (s.clrR n i m).folio = s.folio := rfl
@[simp] theorem State.clrR_guard (n : RegName) (i m : Nat) : (s.clrR n i m).guard = s.guard := rfl
@[simp] theorem State.clrR_outputs (n : RegName) (i m : Nat) : (s.clrR n i m).outputs = s.outputs := rfl
@[simp] theorem State.clrR_free (n : RegName) (i m : Nat) : (s.clrR n i m).free = s.free := rfl
@[simp] theorem State.clrR_pending (n : RegName) (i m : Nat) : (s.clrR n i m).pending = s.pending := rfl

@[simp] theorem State.swWrite_variant (n : RegName) (i : Nat) (v : Word) : (s.swWrite n i v).variant = s.variant := rfl
@[simp] theorem State.swWrite_sram (n : RegName) (i : Nat) (v : Word) : (s.swWrite n i v).sram = s.sram := rfl
@[simp] theorem State.swWrite_chans (n : RegName) (i : Nat) (v : Word) : (s.swWrite n i v).chans = s.chans := rfl
@[simp] theorem State.swWrite_dies (n : RegName) (i : Nat) (v : Word) : (s.swWrite n i v).dies = s.dies := rfl
@[simp] theorem State.swWrite_epoch (n : RegName) (i : Nat) (v : Word) : (s.swWrite n i v).epoch = s.epoch := rfl
@[simp] theorem State.swWrite_queues (n : RegName) (i : Nat) (v : Word) : (s.swWrite n i v).queues = s.queues := rfl
@[simp] theorem State.swWrite_reports (n : RegName) (i : Nat) (v : Word) : (s.swWrite n i v).reports = s.reports := rfl
@[simp] theorem State.swWrite_seq (n : RegName) (i : Nat) (v : Word) : (s.swWrite n i v).seq = s.seq := rfl
@[simp] theorem State.swWrite_jtag (n : RegName) (i : Nat) (v : Word) : (s.swWrite n i v).jtag = s.jtag := rfl
@[simp] theorem State.swWrite_ot (n : RegName) (i : Nat) (v : Word) : (s.swWrite n i v).ot = s.ot := rfl
@[simp] theorem State.swWrite_pcc (n : RegName) (i : Nat) (v : Word) : (s.swWrite n i v).pcc = s.pcc := rfl
@[simp] theorem State.swWrite_timeDue (n : RegName) (i : Nat) (v : Word) : (s.swWrite n i v).timeDue = s.timeDue := rfl
@[simp] theorem State.swWrite_cseq (n : RegName) (i : Nat) (v : Word) : (s.swWrite n i v).cseq = s.cseq := rfl
@[simp] theorem State.swWrite_vault (n : RegName) (i : Nat) (v : Word) : (s.swWrite n i v).vault = s.vault := rfl
@[simp] theorem State.swWrite_keys (n : RegName) (i : Nat) (v : Word) : (s.swWrite n i v).keys = s.keys := rfl
@[simp] theorem State.swWrite_ports (n : RegName) (i : Nat) (v : Word) : (s.swWrite n i v).ports = s.ports := rfl
@[simp] theorem State.swWrite_xip (n : RegName) (i : Nat) (v : Word) : (s.swWrite n i v).xip = s.xip := rfl
@[simp] theorem State.swWrite_boot (n : RegName) (i : Nat) (v : Word) : (s.swWrite n i v).boot = s.boot := rfl
@[simp] theorem State.swWrite_hif (n : RegName) (i : Nat) (v : Word) : (s.swWrite n i v).hif = s.hif := rfl
@[simp] theorem State.swWrite_inbox (n : RegName) (i : Nat) (v : Word) : (s.swWrite n i v).inbox = s.inbox := rfl
@[simp] theorem State.swWrite_mbx (n : RegName) (i : Nat) (v : Word) : (s.swWrite n i v).mbx = s.mbx := rfl
@[simp] theorem State.swWrite_rv (n : RegName) (i : Nat) (v : Word) : (s.swWrite n i v).rv = s.rv := rfl
@[simp] theorem State.swWrite_fuses (n : RegName) (i : Nat) (v : Word) : (s.swWrite n i v).fuses = s.fuses := rfl
@[simp] theorem State.swWrite_folio (n : RegName) (i : Nat) (v : Word) : (s.swWrite n i v).folio = s.folio := rfl
@[simp] theorem State.swWrite_guard (n : RegName) (i : Nat) (v : Word) : (s.swWrite n i v).guard = s.guard := rfl
@[simp] theorem State.swWrite_outputs (n : RegName) (i : Nat) (v : Word) : (s.swWrite n i v).outputs = s.outputs := rfl
@[simp] theorem State.swWrite_free (n : RegName) (i : Nat) (v : Word) : (s.swWrite n i v).free = s.free := rfl
@[simp] theorem State.swWrite_pending (n : RegName) (i : Nat) (v : Word) : (s.swWrite n i v).pending = s.pending := rfl

@[simp] theorem State.swWriteMasked_variant (n : RegName) (i : Nat) (v : Word) (m : Nat) : (s.swWriteMasked n i v m).variant = s.variant := rfl
@[simp] theorem State.swWriteMasked_sram (n : RegName) (i : Nat) (v : Word) (m : Nat) : (s.swWriteMasked n i v m).sram = s.sram := rfl
@[simp] theorem State.swWriteMasked_chans (n : RegName) (i : Nat) (v : Word) (m : Nat) : (s.swWriteMasked n i v m).chans = s.chans := rfl
@[simp] theorem State.swWriteMasked_dies (n : RegName) (i : Nat) (v : Word) (m : Nat) : (s.swWriteMasked n i v m).dies = s.dies := rfl
@[simp] theorem State.swWriteMasked_epoch (n : RegName) (i : Nat) (v : Word) (m : Nat) : (s.swWriteMasked n i v m).epoch = s.epoch := rfl
@[simp] theorem State.swWriteMasked_queues (n : RegName) (i : Nat) (v : Word) (m : Nat) : (s.swWriteMasked n i v m).queues = s.queues := rfl
@[simp] theorem State.swWriteMasked_reports (n : RegName) (i : Nat) (v : Word) (m : Nat) : (s.swWriteMasked n i v m).reports = s.reports := rfl
@[simp] theorem State.swWriteMasked_seq (n : RegName) (i : Nat) (v : Word) (m : Nat) : (s.swWriteMasked n i v m).seq = s.seq := rfl
@[simp] theorem State.swWriteMasked_jtag (n : RegName) (i : Nat) (v : Word) (m : Nat) : (s.swWriteMasked n i v m).jtag = s.jtag := rfl
@[simp] theorem State.swWriteMasked_ot (n : RegName) (i : Nat) (v : Word) (m : Nat) : (s.swWriteMasked n i v m).ot = s.ot := rfl
@[simp] theorem State.swWriteMasked_pcc (n : RegName) (i : Nat) (v : Word) (m : Nat) : (s.swWriteMasked n i v m).pcc = s.pcc := rfl
@[simp] theorem State.swWriteMasked_timeDue (n : RegName) (i : Nat) (v : Word) (m : Nat) : (s.swWriteMasked n i v m).timeDue = s.timeDue := rfl
@[simp] theorem State.swWriteMasked_cseq (n : RegName) (i : Nat) (v : Word) (m : Nat) : (s.swWriteMasked n i v m).cseq = s.cseq := rfl
@[simp] theorem State.swWriteMasked_vault (n : RegName) (i : Nat) (v : Word) (m : Nat) : (s.swWriteMasked n i v m).vault = s.vault := rfl
@[simp] theorem State.swWriteMasked_keys (n : RegName) (i : Nat) (v : Word) (m : Nat) : (s.swWriteMasked n i v m).keys = s.keys := rfl
@[simp] theorem State.swWriteMasked_ports (n : RegName) (i : Nat) (v : Word) (m : Nat) : (s.swWriteMasked n i v m).ports = s.ports := rfl
@[simp] theorem State.swWriteMasked_xip (n : RegName) (i : Nat) (v : Word) (m : Nat) : (s.swWriteMasked n i v m).xip = s.xip := rfl
@[simp] theorem State.swWriteMasked_boot (n : RegName) (i : Nat) (v : Word) (m : Nat) : (s.swWriteMasked n i v m).boot = s.boot := rfl
@[simp] theorem State.swWriteMasked_hif (n : RegName) (i : Nat) (v : Word) (m : Nat) : (s.swWriteMasked n i v m).hif = s.hif := rfl
@[simp] theorem State.swWriteMasked_inbox (n : RegName) (i : Nat) (v : Word) (m : Nat) : (s.swWriteMasked n i v m).inbox = s.inbox := rfl
@[simp] theorem State.swWriteMasked_mbx (n : RegName) (i : Nat) (v : Word) (m : Nat) : (s.swWriteMasked n i v m).mbx = s.mbx := rfl
@[simp] theorem State.swWriteMasked_rv (n : RegName) (i : Nat) (v : Word) (m : Nat) : (s.swWriteMasked n i v m).rv = s.rv := rfl
@[simp] theorem State.swWriteMasked_fuses (n : RegName) (i : Nat) (v : Word) (m : Nat) : (s.swWriteMasked n i v m).fuses = s.fuses := rfl
@[simp] theorem State.swWriteMasked_folio (n : RegName) (i : Nat) (v : Word) (m : Nat) : (s.swWriteMasked n i v m).folio = s.folio := rfl
@[simp] theorem State.swWriteMasked_guard (n : RegName) (i : Nat) (v : Word) (m : Nat) : (s.swWriteMasked n i v m).guard = s.guard := rfl
@[simp] theorem State.swWriteMasked_outputs (n : RegName) (i : Nat) (v : Word) (m : Nat) : (s.swWriteMasked n i v m).outputs = s.outputs := rfl
@[simp] theorem State.swWriteMasked_free (n : RegName) (i : Nat) (v : Word) (m : Nat) : (s.swWriteMasked n i v m).free = s.free := rfl
@[simp] theorem State.swWriteMasked_pending (n : RegName) (i : Nat) (v : Word) (m : Nat) : (s.swWriteMasked n i v m).pending = s.pending := rfl

@[simp] theorem State.setCh_variant (n : Nat) (c : Chan) : (s.setCh n c).variant = s.variant := rfl
@[simp] theorem State.setCh_regs (n : Nat) (c : Chan) : (s.setCh n c).regs = s.regs := rfl
@[simp] theorem State.setCh_sram (n : Nat) (c : Chan) : (s.setCh n c).sram = s.sram := rfl
@[simp] theorem State.setCh_dies (n : Nat) (c : Chan) : (s.setCh n c).dies = s.dies := rfl
@[simp] theorem State.setCh_epoch (n : Nat) (c : Chan) : (s.setCh n c).epoch = s.epoch := rfl
@[simp] theorem State.setCh_queues (n : Nat) (c : Chan) : (s.setCh n c).queues = s.queues := rfl
@[simp] theorem State.setCh_reports (n : Nat) (c : Chan) : (s.setCh n c).reports = s.reports := rfl
@[simp] theorem State.setCh_seq (n : Nat) (c : Chan) : (s.setCh n c).seq = s.seq := rfl
@[simp] theorem State.setCh_jtag (n : Nat) (c : Chan) : (s.setCh n c).jtag = s.jtag := rfl
@[simp] theorem State.setCh_ot (n : Nat) (c : Chan) : (s.setCh n c).ot = s.ot := rfl
@[simp] theorem State.setCh_pcc (n : Nat) (c : Chan) : (s.setCh n c).pcc = s.pcc := rfl
@[simp] theorem State.setCh_timeDue (n : Nat) (c : Chan) : (s.setCh n c).timeDue = s.timeDue := rfl
@[simp] theorem State.setCh_cseq (n : Nat) (c : Chan) : (s.setCh n c).cseq = s.cseq := rfl
@[simp] theorem State.setCh_vault (n : Nat) (c : Chan) : (s.setCh n c).vault = s.vault := rfl
@[simp] theorem State.setCh_keys (n : Nat) (c : Chan) : (s.setCh n c).keys = s.keys := rfl
@[simp] theorem State.setCh_ports (n : Nat) (c : Chan) : (s.setCh n c).ports = s.ports := rfl
@[simp] theorem State.setCh_xip (n : Nat) (c : Chan) : (s.setCh n c).xip = s.xip := rfl
@[simp] theorem State.setCh_boot (n : Nat) (c : Chan) : (s.setCh n c).boot = s.boot := rfl
@[simp] theorem State.setCh_hif (n : Nat) (c : Chan) : (s.setCh n c).hif = s.hif := rfl
@[simp] theorem State.setCh_inbox (n : Nat) (c : Chan) : (s.setCh n c).inbox = s.inbox := rfl
@[simp] theorem State.setCh_mbx (n : Nat) (c : Chan) : (s.setCh n c).mbx = s.mbx := rfl
@[simp] theorem State.setCh_rv (n : Nat) (c : Chan) : (s.setCh n c).rv = s.rv := rfl
@[simp] theorem State.setCh_fuses (n : Nat) (c : Chan) : (s.setCh n c).fuses = s.fuses := rfl
@[simp] theorem State.setCh_folio (n : Nat) (c : Chan) : (s.setCh n c).folio = s.folio := rfl
@[simp] theorem State.setCh_guard (n : Nat) (c : Chan) : (s.setCh n c).guard = s.guard := rfl
@[simp] theorem State.setCh_outputs (n : Nat) (c : Chan) : (s.setCh n c).outputs = s.outputs := rfl
@[simp] theorem State.setCh_free (n : Nat) (c : Chan) : (s.setCh n c).free = s.free := rfl
@[simp] theorem State.setCh_pending (n : Nat) (c : Chan) : (s.setCh n c).pending = s.pending := rfl

@[simp] theorem State.modCh_variant (n : Nat) (f : Chan → Chan) : (s.modCh n f).variant = s.variant := rfl
@[simp] theorem State.modCh_regs (n : Nat) (f : Chan → Chan) : (s.modCh n f).regs = s.regs := rfl
@[simp] theorem State.modCh_sram (n : Nat) (f : Chan → Chan) : (s.modCh n f).sram = s.sram := rfl
@[simp] theorem State.modCh_dies (n : Nat) (f : Chan → Chan) : (s.modCh n f).dies = s.dies := rfl
@[simp] theorem State.modCh_epoch (n : Nat) (f : Chan → Chan) : (s.modCh n f).epoch = s.epoch := rfl
@[simp] theorem State.modCh_queues (n : Nat) (f : Chan → Chan) : (s.modCh n f).queues = s.queues := rfl
@[simp] theorem State.modCh_reports (n : Nat) (f : Chan → Chan) : (s.modCh n f).reports = s.reports := rfl
@[simp] theorem State.modCh_seq (n : Nat) (f : Chan → Chan) : (s.modCh n f).seq = s.seq := rfl
@[simp] theorem State.modCh_jtag (n : Nat) (f : Chan → Chan) : (s.modCh n f).jtag = s.jtag := rfl
@[simp] theorem State.modCh_ot (n : Nat) (f : Chan → Chan) : (s.modCh n f).ot = s.ot := rfl
@[simp] theorem State.modCh_pcc (n : Nat) (f : Chan → Chan) : (s.modCh n f).pcc = s.pcc := rfl
@[simp] theorem State.modCh_timeDue (n : Nat) (f : Chan → Chan) : (s.modCh n f).timeDue = s.timeDue := rfl
@[simp] theorem State.modCh_cseq (n : Nat) (f : Chan → Chan) : (s.modCh n f).cseq = s.cseq := rfl
@[simp] theorem State.modCh_vault (n : Nat) (f : Chan → Chan) : (s.modCh n f).vault = s.vault := rfl
@[simp] theorem State.modCh_keys (n : Nat) (f : Chan → Chan) : (s.modCh n f).keys = s.keys := rfl
@[simp] theorem State.modCh_ports (n : Nat) (f : Chan → Chan) : (s.modCh n f).ports = s.ports := rfl
@[simp] theorem State.modCh_xip (n : Nat) (f : Chan → Chan) : (s.modCh n f).xip = s.xip := rfl
@[simp] theorem State.modCh_boot (n : Nat) (f : Chan → Chan) : (s.modCh n f).boot = s.boot := rfl
@[simp] theorem State.modCh_hif (n : Nat) (f : Chan → Chan) : (s.modCh n f).hif = s.hif := rfl
@[simp] theorem State.modCh_inbox (n : Nat) (f : Chan → Chan) : (s.modCh n f).inbox = s.inbox := rfl
@[simp] theorem State.modCh_mbx (n : Nat) (f : Chan → Chan) : (s.modCh n f).mbx = s.mbx := rfl
@[simp] theorem State.modCh_rv (n : Nat) (f : Chan → Chan) : (s.modCh n f).rv = s.rv := rfl
@[simp] theorem State.modCh_fuses (n : Nat) (f : Chan → Chan) : (s.modCh n f).fuses = s.fuses := rfl
@[simp] theorem State.modCh_folio (n : Nat) (f : Chan → Chan) : (s.modCh n f).folio = s.folio := rfl
@[simp] theorem State.modCh_guard (n : Nat) (f : Chan → Chan) : (s.modCh n f).guard = s.guard := rfl
@[simp] theorem State.modCh_outputs (n : Nat) (f : Chan → Chan) : (s.modCh n f).outputs = s.outputs := rfl
@[simp] theorem State.modCh_free (n : Nat) (f : Chan → Chan) : (s.modCh n f).free = s.free := rfl
@[simp] theorem State.modCh_pending (n : Nat) (f : Chan → Chan) : (s.modCh n f).pending = s.pending := rfl

@[simp] theorem State.setDie_variant (d : Nat) (x : Die) : (s.setDie d x).variant = s.variant := rfl
@[simp] theorem State.setDie_regs (d : Nat) (x : Die) : (s.setDie d x).regs = s.regs := rfl
@[simp] theorem State.setDie_sram (d : Nat) (x : Die) : (s.setDie d x).sram = s.sram := rfl
@[simp] theorem State.setDie_chans (d : Nat) (x : Die) : (s.setDie d x).chans = s.chans := rfl
@[simp] theorem State.setDie_epoch (d : Nat) (x : Die) : (s.setDie d x).epoch = s.epoch := rfl
@[simp] theorem State.setDie_queues (d : Nat) (x : Die) : (s.setDie d x).queues = s.queues := rfl
@[simp] theorem State.setDie_reports (d : Nat) (x : Die) : (s.setDie d x).reports = s.reports := rfl
@[simp] theorem State.setDie_seq (d : Nat) (x : Die) : (s.setDie d x).seq = s.seq := rfl
@[simp] theorem State.setDie_jtag (d : Nat) (x : Die) : (s.setDie d x).jtag = s.jtag := rfl
@[simp] theorem State.setDie_ot (d : Nat) (x : Die) : (s.setDie d x).ot = s.ot := rfl
@[simp] theorem State.setDie_pcc (d : Nat) (x : Die) : (s.setDie d x).pcc = s.pcc := rfl
@[simp] theorem State.setDie_timeDue (d : Nat) (x : Die) : (s.setDie d x).timeDue = s.timeDue := rfl
@[simp] theorem State.setDie_cseq (d : Nat) (x : Die) : (s.setDie d x).cseq = s.cseq := rfl
@[simp] theorem State.setDie_vault (d : Nat) (x : Die) : (s.setDie d x).vault = s.vault := rfl
@[simp] theorem State.setDie_keys (d : Nat) (x : Die) : (s.setDie d x).keys = s.keys := rfl
@[simp] theorem State.setDie_ports (d : Nat) (x : Die) : (s.setDie d x).ports = s.ports := rfl
@[simp] theorem State.setDie_xip (d : Nat) (x : Die) : (s.setDie d x).xip = s.xip := rfl
@[simp] theorem State.setDie_boot (d : Nat) (x : Die) : (s.setDie d x).boot = s.boot := rfl
@[simp] theorem State.setDie_hif (d : Nat) (x : Die) : (s.setDie d x).hif = s.hif := rfl
@[simp] theorem State.setDie_inbox (d : Nat) (x : Die) : (s.setDie d x).inbox = s.inbox := rfl
@[simp] theorem State.setDie_mbx (d : Nat) (x : Die) : (s.setDie d x).mbx = s.mbx := rfl
@[simp] theorem State.setDie_rv (d : Nat) (x : Die) : (s.setDie d x).rv = s.rv := rfl
@[simp] theorem State.setDie_fuses (d : Nat) (x : Die) : (s.setDie d x).fuses = s.fuses := rfl
@[simp] theorem State.setDie_folio (d : Nat) (x : Die) : (s.setDie d x).folio = s.folio := rfl
@[simp] theorem State.setDie_guard (d : Nat) (x : Die) : (s.setDie d x).guard = s.guard := rfl
@[simp] theorem State.setDie_outputs (d : Nat) (x : Die) : (s.setDie d x).outputs = s.outputs := rfl
@[simp] theorem State.setDie_free (d : Nat) (x : Die) : (s.setDie d x).free = s.free := rfl
@[simp] theorem State.setDie_pending (d : Nat) (x : Die) : (s.setDie d x).pending = s.pending := rfl

@[simp] theorem State.modDie_variant (d : Nat) (f : Die → Die) : (s.modDie d f).variant = s.variant := rfl
@[simp] theorem State.modDie_regs (d : Nat) (f : Die → Die) : (s.modDie d f).regs = s.regs := rfl
@[simp] theorem State.modDie_sram (d : Nat) (f : Die → Die) : (s.modDie d f).sram = s.sram := rfl
@[simp] theorem State.modDie_chans (d : Nat) (f : Die → Die) : (s.modDie d f).chans = s.chans := rfl
@[simp] theorem State.modDie_epoch (d : Nat) (f : Die → Die) : (s.modDie d f).epoch = s.epoch := rfl
@[simp] theorem State.modDie_queues (d : Nat) (f : Die → Die) : (s.modDie d f).queues = s.queues := rfl
@[simp] theorem State.modDie_reports (d : Nat) (f : Die → Die) : (s.modDie d f).reports = s.reports := rfl
@[simp] theorem State.modDie_seq (d : Nat) (f : Die → Die) : (s.modDie d f).seq = s.seq := rfl
@[simp] theorem State.modDie_jtag (d : Nat) (f : Die → Die) : (s.modDie d f).jtag = s.jtag := rfl
@[simp] theorem State.modDie_ot (d : Nat) (f : Die → Die) : (s.modDie d f).ot = s.ot := rfl
@[simp] theorem State.modDie_pcc (d : Nat) (f : Die → Die) : (s.modDie d f).pcc = s.pcc := rfl
@[simp] theorem State.modDie_timeDue (d : Nat) (f : Die → Die) : (s.modDie d f).timeDue = s.timeDue := rfl
@[simp] theorem State.modDie_cseq (d : Nat) (f : Die → Die) : (s.modDie d f).cseq = s.cseq := rfl
@[simp] theorem State.modDie_vault (d : Nat) (f : Die → Die) : (s.modDie d f).vault = s.vault := rfl
@[simp] theorem State.modDie_keys (d : Nat) (f : Die → Die) : (s.modDie d f).keys = s.keys := rfl
@[simp] theorem State.modDie_ports (d : Nat) (f : Die → Die) : (s.modDie d f).ports = s.ports := rfl
@[simp] theorem State.modDie_xip (d : Nat) (f : Die → Die) : (s.modDie d f).xip = s.xip := rfl
@[simp] theorem State.modDie_boot (d : Nat) (f : Die → Die) : (s.modDie d f).boot = s.boot := rfl
@[simp] theorem State.modDie_hif (d : Nat) (f : Die → Die) : (s.modDie d f).hif = s.hif := rfl
@[simp] theorem State.modDie_inbox (d : Nat) (f : Die → Die) : (s.modDie d f).inbox = s.inbox := rfl
@[simp] theorem State.modDie_mbx (d : Nat) (f : Die → Die) : (s.modDie d f).mbx = s.mbx := rfl
@[simp] theorem State.modDie_rv (d : Nat) (f : Die → Die) : (s.modDie d f).rv = s.rv := rfl
@[simp] theorem State.modDie_fuses (d : Nat) (f : Die → Die) : (s.modDie d f).fuses = s.fuses := rfl
@[simp] theorem State.modDie_folio (d : Nat) (f : Die → Die) : (s.modDie d f).folio = s.folio := rfl
@[simp] theorem State.modDie_guard (d : Nat) (f : Die → Die) : (s.modDie d f).guard = s.guard := rfl
@[simp] theorem State.modDie_outputs (d : Nat) (f : Die → Die) : (s.modDie d f).outputs = s.outputs := rfl
@[simp] theorem State.modDie_free (d : Nat) (f : Die → Die) : (s.modDie d f).free = s.free := rfl
@[simp] theorem State.modDie_pending (d : Nat) (f : Die → Die) : (s.modDie d f).pending = s.pending := rfl

@[simp] theorem State.emit_variant (o : Output) : (s.emit o).variant = s.variant := rfl
@[simp] theorem State.emit_regs (o : Output) : (s.emit o).regs = s.regs := rfl
@[simp] theorem State.emit_sram (o : Output) : (s.emit o).sram = s.sram := rfl
@[simp] theorem State.emit_chans (o : Output) : (s.emit o).chans = s.chans := rfl
@[simp] theorem State.emit_dies (o : Output) : (s.emit o).dies = s.dies := rfl
@[simp] theorem State.emit_epoch (o : Output) : (s.emit o).epoch = s.epoch := rfl
@[simp] theorem State.emit_queues (o : Output) : (s.emit o).queues = s.queues := rfl
@[simp] theorem State.emit_reports (o : Output) : (s.emit o).reports = s.reports := rfl
@[simp] theorem State.emit_seq (o : Output) : (s.emit o).seq = s.seq := rfl
@[simp] theorem State.emit_jtag (o : Output) : (s.emit o).jtag = s.jtag := rfl
@[simp] theorem State.emit_ot (o : Output) : (s.emit o).ot = s.ot := rfl
@[simp] theorem State.emit_pcc (o : Output) : (s.emit o).pcc = s.pcc := rfl
@[simp] theorem State.emit_timeDue (o : Output) : (s.emit o).timeDue = s.timeDue := rfl
@[simp] theorem State.emit_cseq (o : Output) : (s.emit o).cseq = s.cseq := rfl
@[simp] theorem State.emit_vault (o : Output) : (s.emit o).vault = s.vault := rfl
@[simp] theorem State.emit_keys (o : Output) : (s.emit o).keys = s.keys := rfl
@[simp] theorem State.emit_ports (o : Output) : (s.emit o).ports = s.ports := rfl
@[simp] theorem State.emit_xip (o : Output) : (s.emit o).xip = s.xip := rfl
@[simp] theorem State.emit_boot (o : Output) : (s.emit o).boot = s.boot := rfl
@[simp] theorem State.emit_hif (o : Output) : (s.emit o).hif = s.hif := rfl
@[simp] theorem State.emit_inbox (o : Output) : (s.emit o).inbox = s.inbox := rfl
@[simp] theorem State.emit_mbx (o : Output) : (s.emit o).mbx = s.mbx := rfl
@[simp] theorem State.emit_rv (o : Output) : (s.emit o).rv = s.rv := rfl
@[simp] theorem State.emit_fuses (o : Output) : (s.emit o).fuses = s.fuses := rfl
@[simp] theorem State.emit_folio (o : Output) : (s.emit o).folio = s.folio := rfl
@[simp] theorem State.emit_guard (o : Output) : (s.emit o).guard = s.guard := rfl
@[simp] theorem State.emit_free (o : Output) : (s.emit o).free = s.free := rfl
@[simp] theorem State.emit_pending (o : Output) : (s.emit o).pending = s.pending := rfl

@[simp] theorem State.setQueue_variant (d : Nat) (q : FaultQueue) : (s.setQueue d q).variant = s.variant := rfl
@[simp] theorem State.setQueue_regs (d : Nat) (q : FaultQueue) : (s.setQueue d q).regs = s.regs := rfl
@[simp] theorem State.setQueue_sram (d : Nat) (q : FaultQueue) : (s.setQueue d q).sram = s.sram := rfl
@[simp] theorem State.setQueue_chans (d : Nat) (q : FaultQueue) : (s.setQueue d q).chans = s.chans := rfl
@[simp] theorem State.setQueue_dies (d : Nat) (q : FaultQueue) : (s.setQueue d q).dies = s.dies := rfl
@[simp] theorem State.setQueue_epoch (d : Nat) (q : FaultQueue) : (s.setQueue d q).epoch = s.epoch := rfl
@[simp] theorem State.setQueue_reports (d : Nat) (q : FaultQueue) : (s.setQueue d q).reports = s.reports := rfl
@[simp] theorem State.setQueue_seq (d : Nat) (q : FaultQueue) : (s.setQueue d q).seq = s.seq := rfl
@[simp] theorem State.setQueue_jtag (d : Nat) (q : FaultQueue) : (s.setQueue d q).jtag = s.jtag := rfl
@[simp] theorem State.setQueue_ot (d : Nat) (q : FaultQueue) : (s.setQueue d q).ot = s.ot := rfl
@[simp] theorem State.setQueue_pcc (d : Nat) (q : FaultQueue) : (s.setQueue d q).pcc = s.pcc := rfl
@[simp] theorem State.setQueue_timeDue (d : Nat) (q : FaultQueue) : (s.setQueue d q).timeDue = s.timeDue := rfl
@[simp] theorem State.setQueue_cseq (d : Nat) (q : FaultQueue) : (s.setQueue d q).cseq = s.cseq := rfl
@[simp] theorem State.setQueue_vault (d : Nat) (q : FaultQueue) : (s.setQueue d q).vault = s.vault := rfl
@[simp] theorem State.setQueue_keys (d : Nat) (q : FaultQueue) : (s.setQueue d q).keys = s.keys := rfl
@[simp] theorem State.setQueue_ports (d : Nat) (q : FaultQueue) : (s.setQueue d q).ports = s.ports := rfl
@[simp] theorem State.setQueue_xip (d : Nat) (q : FaultQueue) : (s.setQueue d q).xip = s.xip := rfl
@[simp] theorem State.setQueue_boot (d : Nat) (q : FaultQueue) : (s.setQueue d q).boot = s.boot := rfl
@[simp] theorem State.setQueue_hif (d : Nat) (q : FaultQueue) : (s.setQueue d q).hif = s.hif := rfl
@[simp] theorem State.setQueue_inbox (d : Nat) (q : FaultQueue) : (s.setQueue d q).inbox = s.inbox := rfl
@[simp] theorem State.setQueue_mbx (d : Nat) (q : FaultQueue) : (s.setQueue d q).mbx = s.mbx := rfl
@[simp] theorem State.setQueue_rv (d : Nat) (q : FaultQueue) : (s.setQueue d q).rv = s.rv := rfl
@[simp] theorem State.setQueue_fuses (d : Nat) (q : FaultQueue) : (s.setQueue d q).fuses = s.fuses := rfl
@[simp] theorem State.setQueue_folio (d : Nat) (q : FaultQueue) : (s.setQueue d q).folio = s.folio := rfl
@[simp] theorem State.setQueue_guard (d : Nat) (q : FaultQueue) : (s.setQueue d q).guard = s.guard := rfl
@[simp] theorem State.setQueue_outputs (d : Nat) (q : FaultQueue) : (s.setQueue d q).outputs = s.outputs := rfl
@[simp] theorem State.setQueue_free (d : Nat) (q : FaultQueue) : (s.setQueue d q).free = s.free := rfl
@[simp] theorem State.setQueue_pending (d : Nat) (q : FaultQueue) : (s.setQueue d q).pending = s.pending := rfl

@[simp] theorem State.fresh_variant : (s.fresh.2).variant = s.variant := rfl
@[simp] theorem State.fresh_regs : (s.fresh.2).regs = s.regs := rfl
@[simp] theorem State.fresh_sram : (s.fresh.2).sram = s.sram := rfl
@[simp] theorem State.fresh_chans : (s.fresh.2).chans = s.chans := rfl
@[simp] theorem State.fresh_dies : (s.fresh.2).dies = s.dies := rfl
@[simp] theorem State.fresh_epoch : (s.fresh.2).epoch = s.epoch := rfl
@[simp] theorem State.fresh_queues : (s.fresh.2).queues = s.queues := rfl
@[simp] theorem State.fresh_reports : (s.fresh.2).reports = s.reports := rfl
@[simp] theorem State.fresh_seq : (s.fresh.2).seq = s.seq := rfl
@[simp] theorem State.fresh_jtag : (s.fresh.2).jtag = s.jtag := rfl
@[simp] theorem State.fresh_ot : (s.fresh.2).ot = s.ot := rfl
@[simp] theorem State.fresh_pcc : (s.fresh.2).pcc = s.pcc := rfl
@[simp] theorem State.fresh_timeDue : (s.fresh.2).timeDue = s.timeDue := rfl
@[simp] theorem State.fresh_cseq : (s.fresh.2).cseq = s.cseq := rfl
@[simp] theorem State.fresh_vault : (s.fresh.2).vault = s.vault := rfl
@[simp] theorem State.fresh_keys : (s.fresh.2).keys = s.keys := rfl
@[simp] theorem State.fresh_ports : (s.fresh.2).ports = s.ports := rfl
@[simp] theorem State.fresh_xip : (s.fresh.2).xip = s.xip := rfl
@[simp] theorem State.fresh_boot : (s.fresh.2).boot = s.boot := rfl
@[simp] theorem State.fresh_hif : (s.fresh.2).hif = s.hif := rfl
@[simp] theorem State.fresh_inbox : (s.fresh.2).inbox = s.inbox := rfl
@[simp] theorem State.fresh_mbx : (s.fresh.2).mbx = s.mbx := rfl
@[simp] theorem State.fresh_rv : (s.fresh.2).rv = s.rv := rfl
@[simp] theorem State.fresh_fuses : (s.fresh.2).fuses = s.fuses := rfl
@[simp] theorem State.fresh_folio : (s.fresh.2).folio = s.folio := rfl
@[simp] theorem State.fresh_guard : (s.fresh.2).guard = s.guard := rfl
@[simp] theorem State.fresh_outputs : (s.fresh.2).outputs = s.outputs := rfl
@[simp] theorem State.fresh_pending : (s.fresh.2).pending = s.pending := rfl

@[simp] theorem State.draw_variant : (s.draw.2).variant = s.variant := rfl
@[simp] theorem State.draw_regs : (s.draw.2).regs = s.regs := rfl
@[simp] theorem State.draw_sram : (s.draw.2).sram = s.sram := rfl
@[simp] theorem State.draw_chans : (s.draw.2).chans = s.chans := rfl
@[simp] theorem State.draw_dies : (s.draw.2).dies = s.dies := rfl
@[simp] theorem State.draw_epoch : (s.draw.2).epoch = s.epoch := rfl
@[simp] theorem State.draw_queues : (s.draw.2).queues = s.queues := rfl
@[simp] theorem State.draw_reports : (s.draw.2).reports = s.reports := rfl
@[simp] theorem State.draw_seq : (s.draw.2).seq = s.seq := rfl
@[simp] theorem State.draw_jtag : (s.draw.2).jtag = s.jtag := rfl
@[simp] theorem State.draw_ot : (s.draw.2).ot = s.ot := rfl
@[simp] theorem State.draw_pcc : (s.draw.2).pcc = s.pcc := rfl
@[simp] theorem State.draw_timeDue : (s.draw.2).timeDue = s.timeDue := rfl
@[simp] theorem State.draw_cseq : (s.draw.2).cseq = s.cseq := rfl
@[simp] theorem State.draw_vault : (s.draw.2).vault = s.vault := rfl
@[simp] theorem State.draw_keys : (s.draw.2).keys = s.keys := rfl
@[simp] theorem State.draw_ports : (s.draw.2).ports = s.ports := rfl
@[simp] theorem State.draw_xip : (s.draw.2).xip = s.xip := rfl
@[simp] theorem State.draw_boot : (s.draw.2).boot = s.boot := rfl
@[simp] theorem State.draw_hif : (s.draw.2).hif = s.hif := rfl
@[simp] theorem State.draw_inbox : (s.draw.2).inbox = s.inbox := rfl
@[simp] theorem State.draw_mbx : (s.draw.2).mbx = s.mbx := rfl
@[simp] theorem State.draw_rv : (s.draw.2).rv = s.rv := rfl
@[simp] theorem State.draw_fuses : (s.draw.2).fuses = s.fuses := rfl
@[simp] theorem State.draw_folio : (s.draw.2).folio = s.folio := rfl
@[simp] theorem State.draw_guard : (s.draw.2).guard = s.guard := rfl
@[simp] theorem State.draw_outputs : (s.draw.2).outputs = s.outputs := rfl
@[simp] theorem State.draw_pending : (s.draw.2).pending = s.pending := rfl

@[simp] theorem State.sramWrite_variant (d a : Nat) (b : Byte) : (s.sramWrite d a b).variant = s.variant := rfl
@[simp] theorem State.sramWrite_regs (d a : Nat) (b : Byte) : (s.sramWrite d a b).regs = s.regs := rfl
@[simp] theorem State.sramWrite_chans (d a : Nat) (b : Byte) : (s.sramWrite d a b).chans = s.chans := rfl
@[simp] theorem State.sramWrite_dies (d a : Nat) (b : Byte) : (s.sramWrite d a b).dies = s.dies := rfl
@[simp] theorem State.sramWrite_epoch (d a : Nat) (b : Byte) : (s.sramWrite d a b).epoch = s.epoch := rfl
@[simp] theorem State.sramWrite_queues (d a : Nat) (b : Byte) : (s.sramWrite d a b).queues = s.queues := rfl
@[simp] theorem State.sramWrite_reports (d a : Nat) (b : Byte) : (s.sramWrite d a b).reports = s.reports := rfl
@[simp] theorem State.sramWrite_seq (d a : Nat) (b : Byte) : (s.sramWrite d a b).seq = s.seq := rfl
@[simp] theorem State.sramWrite_jtag (d a : Nat) (b : Byte) : (s.sramWrite d a b).jtag = s.jtag := rfl
@[simp] theorem State.sramWrite_ot (d a : Nat) (b : Byte) : (s.sramWrite d a b).ot = s.ot := rfl
@[simp] theorem State.sramWrite_pcc (d a : Nat) (b : Byte) : (s.sramWrite d a b).pcc = s.pcc := rfl
@[simp] theorem State.sramWrite_timeDue (d a : Nat) (b : Byte) : (s.sramWrite d a b).timeDue = s.timeDue := rfl
@[simp] theorem State.sramWrite_cseq (d a : Nat) (b : Byte) : (s.sramWrite d a b).cseq = s.cseq := rfl
@[simp] theorem State.sramWrite_vault (d a : Nat) (b : Byte) : (s.sramWrite d a b).vault = s.vault := rfl
@[simp] theorem State.sramWrite_keys (d a : Nat) (b : Byte) : (s.sramWrite d a b).keys = s.keys := rfl
@[simp] theorem State.sramWrite_ports (d a : Nat) (b : Byte) : (s.sramWrite d a b).ports = s.ports := rfl
@[simp] theorem State.sramWrite_xip (d a : Nat) (b : Byte) : (s.sramWrite d a b).xip = s.xip := rfl
@[simp] theorem State.sramWrite_boot (d a : Nat) (b : Byte) : (s.sramWrite d a b).boot = s.boot := rfl
@[simp] theorem State.sramWrite_hif (d a : Nat) (b : Byte) : (s.sramWrite d a b).hif = s.hif := rfl
@[simp] theorem State.sramWrite_inbox (d a : Nat) (b : Byte) : (s.sramWrite d a b).inbox = s.inbox := rfl
@[simp] theorem State.sramWrite_mbx (d a : Nat) (b : Byte) : (s.sramWrite d a b).mbx = s.mbx := rfl
@[simp] theorem State.sramWrite_rv (d a : Nat) (b : Byte) : (s.sramWrite d a b).rv = s.rv := rfl
@[simp] theorem State.sramWrite_fuses (d a : Nat) (b : Byte) : (s.sramWrite d a b).fuses = s.fuses := rfl
@[simp] theorem State.sramWrite_folio (d a : Nat) (b : Byte) : (s.sramWrite d a b).folio = s.folio := rfl
@[simp] theorem State.sramWrite_guard (d a : Nat) (b : Byte) : (s.sramWrite d a b).guard = s.guard := rfl
@[simp] theorem State.sramWrite_outputs (d a : Nat) (b : Byte) : (s.sramWrite d a b).outputs = s.outputs := rfl
@[simp] theorem State.sramWrite_free (d a : Nat) (b : Byte) : (s.sramWrite d a b).free = s.free := rfl
@[simp] theorem State.sramWrite_pending (d a : Nat) (b : Byte) : (s.sramWrite d a b).pending = s.pending := rfl

@[simp] theorem State.modKeys_variant (f : Keys → Keys) : (s.modKeys f).variant = s.variant := rfl
@[simp] theorem State.modKeys_regs (f : Keys → Keys) : (s.modKeys f).regs = s.regs := rfl
@[simp] theorem State.modKeys_sram (f : Keys → Keys) : (s.modKeys f).sram = s.sram := rfl
@[simp] theorem State.modKeys_chans (f : Keys → Keys) : (s.modKeys f).chans = s.chans := rfl
@[simp] theorem State.modKeys_dies (f : Keys → Keys) : (s.modKeys f).dies = s.dies := rfl
@[simp] theorem State.modKeys_epoch (f : Keys → Keys) : (s.modKeys f).epoch = s.epoch := rfl
@[simp] theorem State.modKeys_queues (f : Keys → Keys) : (s.modKeys f).queues = s.queues := rfl
@[simp] theorem State.modKeys_reports (f : Keys → Keys) : (s.modKeys f).reports = s.reports := rfl
@[simp] theorem State.modKeys_seq (f : Keys → Keys) : (s.modKeys f).seq = s.seq := rfl
@[simp] theorem State.modKeys_jtag (f : Keys → Keys) : (s.modKeys f).jtag = s.jtag := rfl
@[simp] theorem State.modKeys_ot (f : Keys → Keys) : (s.modKeys f).ot = s.ot := rfl
@[simp] theorem State.modKeys_pcc (f : Keys → Keys) : (s.modKeys f).pcc = s.pcc := rfl
@[simp] theorem State.modKeys_timeDue (f : Keys → Keys) : (s.modKeys f).timeDue = s.timeDue := rfl
@[simp] theorem State.modKeys_cseq (f : Keys → Keys) : (s.modKeys f).cseq = s.cseq := rfl
@[simp] theorem State.modKeys_vault (f : Keys → Keys) : (s.modKeys f).vault = s.vault := rfl
@[simp] theorem State.modKeys_ports (f : Keys → Keys) : (s.modKeys f).ports = s.ports := rfl
@[simp] theorem State.modKeys_xip (f : Keys → Keys) : (s.modKeys f).xip = s.xip := rfl
@[simp] theorem State.modKeys_boot (f : Keys → Keys) : (s.modKeys f).boot = s.boot := rfl
@[simp] theorem State.modKeys_hif (f : Keys → Keys) : (s.modKeys f).hif = s.hif := rfl
@[simp] theorem State.modKeys_inbox (f : Keys → Keys) : (s.modKeys f).inbox = s.inbox := rfl
@[simp] theorem State.modKeys_mbx (f : Keys → Keys) : (s.modKeys f).mbx = s.mbx := rfl
@[simp] theorem State.modKeys_rv (f : Keys → Keys) : (s.modKeys f).rv = s.rv := rfl
@[simp] theorem State.modKeys_fuses (f : Keys → Keys) : (s.modKeys f).fuses = s.fuses := rfl
@[simp] theorem State.modKeys_folio (f : Keys → Keys) : (s.modKeys f).folio = s.folio := rfl
@[simp] theorem State.modKeys_guard (f : Keys → Keys) : (s.modKeys f).guard = s.guard := rfl
@[simp] theorem State.modKeys_outputs (f : Keys → Keys) : (s.modKeys f).outputs = s.outputs := rfl
@[simp] theorem State.modKeys_free (f : Keys → Keys) : (s.modKeys f).free = s.free := rfl
@[simp] theorem State.modKeys_pending (f : Keys → Keys) : (s.modKeys f).pending = s.pending := rfl

@[simp] theorem State.modPort_variant (p : Nat) (f : Port → Port) : (s.modPort p f).variant = s.variant := rfl
@[simp] theorem State.modPort_regs (p : Nat) (f : Port → Port) : (s.modPort p f).regs = s.regs := rfl
@[simp] theorem State.modPort_sram (p : Nat) (f : Port → Port) : (s.modPort p f).sram = s.sram := rfl
@[simp] theorem State.modPort_chans (p : Nat) (f : Port → Port) : (s.modPort p f).chans = s.chans := rfl
@[simp] theorem State.modPort_dies (p : Nat) (f : Port → Port) : (s.modPort p f).dies = s.dies := rfl
@[simp] theorem State.modPort_epoch (p : Nat) (f : Port → Port) : (s.modPort p f).epoch = s.epoch := rfl
@[simp] theorem State.modPort_queues (p : Nat) (f : Port → Port) : (s.modPort p f).queues = s.queues := rfl
@[simp] theorem State.modPort_reports (p : Nat) (f : Port → Port) : (s.modPort p f).reports = s.reports := rfl
@[simp] theorem State.modPort_seq (p : Nat) (f : Port → Port) : (s.modPort p f).seq = s.seq := rfl
@[simp] theorem State.modPort_jtag (p : Nat) (f : Port → Port) : (s.modPort p f).jtag = s.jtag := rfl
@[simp] theorem State.modPort_ot (p : Nat) (f : Port → Port) : (s.modPort p f).ot = s.ot := rfl
@[simp] theorem State.modPort_pcc (p : Nat) (f : Port → Port) : (s.modPort p f).pcc = s.pcc := rfl
@[simp] theorem State.modPort_timeDue (p : Nat) (f : Port → Port) : (s.modPort p f).timeDue = s.timeDue := rfl
@[simp] theorem State.modPort_cseq (p : Nat) (f : Port → Port) : (s.modPort p f).cseq = s.cseq := rfl
@[simp] theorem State.modPort_vault (p : Nat) (f : Port → Port) : (s.modPort p f).vault = s.vault := rfl
@[simp] theorem State.modPort_keys (p : Nat) (f : Port → Port) : (s.modPort p f).keys = s.keys := rfl
@[simp] theorem State.modPort_xip (p : Nat) (f : Port → Port) : (s.modPort p f).xip = s.xip := rfl
@[simp] theorem State.modPort_boot (p : Nat) (f : Port → Port) : (s.modPort p f).boot = s.boot := rfl
@[simp] theorem State.modPort_hif (p : Nat) (f : Port → Port) : (s.modPort p f).hif = s.hif := rfl
@[simp] theorem State.modPort_inbox (p : Nat) (f : Port → Port) : (s.modPort p f).inbox = s.inbox := rfl
@[simp] theorem State.modPort_mbx (p : Nat) (f : Port → Port) : (s.modPort p f).mbx = s.mbx := rfl
@[simp] theorem State.modPort_rv (p : Nat) (f : Port → Port) : (s.modPort p f).rv = s.rv := rfl
@[simp] theorem State.modPort_fuses (p : Nat) (f : Port → Port) : (s.modPort p f).fuses = s.fuses := rfl
@[simp] theorem State.modPort_folio (p : Nat) (f : Port → Port) : (s.modPort p f).folio = s.folio := rfl
@[simp] theorem State.modPort_guard (p : Nat) (f : Port → Port) : (s.modPort p f).guard = s.guard := rfl
@[simp] theorem State.modPort_outputs (p : Nat) (f : Port → Port) : (s.modPort p f).outputs = s.outputs := rfl
@[simp] theorem State.modPort_free (p : Nat) (f : Port → Port) : (s.modPort p f).free = s.free := rfl
@[simp] theorem State.modPort_pending (p : Nat) (f : Port → Port) : (s.modPort p f).pending = s.pending := rfl

@[simp] theorem State.modXip_variant (f : Xip → Xip) : (s.modXip f).variant = s.variant := rfl
@[simp] theorem State.modXip_sram (f : Xip → Xip) : (s.modXip f).sram = s.sram := rfl
@[simp] theorem State.modXip_chans (f : Xip → Xip) : (s.modXip f).chans = s.chans := rfl
@[simp] theorem State.modXip_dies (f : Xip → Xip) : (s.modXip f).dies = s.dies := rfl
@[simp] theorem State.modXip_epoch (f : Xip → Xip) : (s.modXip f).epoch = s.epoch := rfl
@[simp] theorem State.modXip_queues (f : Xip → Xip) : (s.modXip f).queues = s.queues := rfl
@[simp] theorem State.modXip_reports (f : Xip → Xip) : (s.modXip f).reports = s.reports := rfl
@[simp] theorem State.modXip_seq (f : Xip → Xip) : (s.modXip f).seq = s.seq := rfl
@[simp] theorem State.modXip_jtag (f : Xip → Xip) : (s.modXip f).jtag = s.jtag := rfl
@[simp] theorem State.modXip_ot (f : Xip → Xip) : (s.modXip f).ot = s.ot := rfl
@[simp] theorem State.modXip_pcc (f : Xip → Xip) : (s.modXip f).pcc = s.pcc := rfl
@[simp] theorem State.modXip_timeDue (f : Xip → Xip) : (s.modXip f).timeDue = s.timeDue := rfl
@[simp] theorem State.modXip_cseq (f : Xip → Xip) : (s.modXip f).cseq = s.cseq := rfl
@[simp] theorem State.modXip_vault (f : Xip → Xip) : (s.modXip f).vault = s.vault := rfl
@[simp] theorem State.modXip_keys (f : Xip → Xip) : (s.modXip f).keys = s.keys := rfl
@[simp] theorem State.modXip_ports (f : Xip → Xip) : (s.modXip f).ports = s.ports := rfl
@[simp] theorem State.modXip_boot (f : Xip → Xip) : (s.modXip f).boot = s.boot := rfl
@[simp] theorem State.modXip_hif (f : Xip → Xip) : (s.modXip f).hif = s.hif := rfl
@[simp] theorem State.modXip_inbox (f : Xip → Xip) : (s.modXip f).inbox = s.inbox := rfl
@[simp] theorem State.modXip_mbx (f : Xip → Xip) : (s.modXip f).mbx = s.mbx := rfl
@[simp] theorem State.modXip_rv (f : Xip → Xip) : (s.modXip f).rv = s.rv := rfl
@[simp] theorem State.modXip_fuses (f : Xip → Xip) : (s.modXip f).fuses = s.fuses := rfl
@[simp] theorem State.modXip_folio (f : Xip → Xip) : (s.modXip f).folio = s.folio := rfl
@[simp] theorem State.modXip_guard (f : Xip → Xip) : (s.modXip f).guard = s.guard := rfl
@[simp] theorem State.modXip_outputs (f : Xip → Xip) : (s.modXip f).outputs = s.outputs := rfl
@[simp] theorem State.modXip_free (f : Xip → Xip) : (s.modXip f).free = s.free := rfl
@[simp] theorem State.modXip_pending (f : Xip → Xip) : (s.modXip f).pending = s.pending := rfl

@[simp] theorem State.modBoot_variant (f : Boot → Boot) : (s.modBoot f).variant = s.variant := rfl
@[simp] theorem State.modBoot_regs (f : Boot → Boot) : (s.modBoot f).regs = s.regs := rfl
@[simp] theorem State.modBoot_sram (f : Boot → Boot) : (s.modBoot f).sram = s.sram := rfl
@[simp] theorem State.modBoot_chans (f : Boot → Boot) : (s.modBoot f).chans = s.chans := rfl
@[simp] theorem State.modBoot_dies (f : Boot → Boot) : (s.modBoot f).dies = s.dies := rfl
@[simp] theorem State.modBoot_epoch (f : Boot → Boot) : (s.modBoot f).epoch = s.epoch := rfl
@[simp] theorem State.modBoot_queues (f : Boot → Boot) : (s.modBoot f).queues = s.queues := rfl
@[simp] theorem State.modBoot_reports (f : Boot → Boot) : (s.modBoot f).reports = s.reports := rfl
@[simp] theorem State.modBoot_seq (f : Boot → Boot) : (s.modBoot f).seq = s.seq := rfl
@[simp] theorem State.modBoot_jtag (f : Boot → Boot) : (s.modBoot f).jtag = s.jtag := rfl
@[simp] theorem State.modBoot_ot (f : Boot → Boot) : (s.modBoot f).ot = s.ot := rfl
@[simp] theorem State.modBoot_pcc (f : Boot → Boot) : (s.modBoot f).pcc = s.pcc := rfl
@[simp] theorem State.modBoot_timeDue (f : Boot → Boot) : (s.modBoot f).timeDue = s.timeDue := rfl
@[simp] theorem State.modBoot_cseq (f : Boot → Boot) : (s.modBoot f).cseq = s.cseq := rfl
@[simp] theorem State.modBoot_vault (f : Boot → Boot) : (s.modBoot f).vault = s.vault := rfl
@[simp] theorem State.modBoot_keys (f : Boot → Boot) : (s.modBoot f).keys = s.keys := rfl
@[simp] theorem State.modBoot_ports (f : Boot → Boot) : (s.modBoot f).ports = s.ports := rfl
@[simp] theorem State.modBoot_xip (f : Boot → Boot) : (s.modBoot f).xip = s.xip := rfl
@[simp] theorem State.modBoot_hif (f : Boot → Boot) : (s.modBoot f).hif = s.hif := rfl
@[simp] theorem State.modBoot_inbox (f : Boot → Boot) : (s.modBoot f).inbox = s.inbox := rfl
@[simp] theorem State.modBoot_mbx (f : Boot → Boot) : (s.modBoot f).mbx = s.mbx := rfl
@[simp] theorem State.modBoot_rv (f : Boot → Boot) : (s.modBoot f).rv = s.rv := rfl
@[simp] theorem State.modBoot_fuses (f : Boot → Boot) : (s.modBoot f).fuses = s.fuses := rfl
@[simp] theorem State.modBoot_folio (f : Boot → Boot) : (s.modBoot f).folio = s.folio := rfl
@[simp] theorem State.modBoot_guard (f : Boot → Boot) : (s.modBoot f).guard = s.guard := rfl
@[simp] theorem State.modBoot_outputs (f : Boot → Boot) : (s.modBoot f).outputs = s.outputs := rfl
@[simp] theorem State.modBoot_free (f : Boot → Boot) : (s.modBoot f).free = s.free := rfl
@[simp] theorem State.modBoot_pending (f : Boot → Boot) : (s.modBoot f).pending = s.pending := rfl

@[simp] theorem State.modMbx_variant (f : Mbx → Mbx) : (s.modMbx f).variant = s.variant := rfl
@[simp] theorem State.modMbx_regs (f : Mbx → Mbx) : (s.modMbx f).regs = s.regs := rfl
@[simp] theorem State.modMbx_sram (f : Mbx → Mbx) : (s.modMbx f).sram = s.sram := rfl
@[simp] theorem State.modMbx_chans (f : Mbx → Mbx) : (s.modMbx f).chans = s.chans := rfl
@[simp] theorem State.modMbx_dies (f : Mbx → Mbx) : (s.modMbx f).dies = s.dies := rfl
@[simp] theorem State.modMbx_epoch (f : Mbx → Mbx) : (s.modMbx f).epoch = s.epoch := rfl
@[simp] theorem State.modMbx_queues (f : Mbx → Mbx) : (s.modMbx f).queues = s.queues := rfl
@[simp] theorem State.modMbx_reports (f : Mbx → Mbx) : (s.modMbx f).reports = s.reports := rfl
@[simp] theorem State.modMbx_seq (f : Mbx → Mbx) : (s.modMbx f).seq = s.seq := rfl
@[simp] theorem State.modMbx_jtag (f : Mbx → Mbx) : (s.modMbx f).jtag = s.jtag := rfl
@[simp] theorem State.modMbx_ot (f : Mbx → Mbx) : (s.modMbx f).ot = s.ot := rfl
@[simp] theorem State.modMbx_pcc (f : Mbx → Mbx) : (s.modMbx f).pcc = s.pcc := rfl
@[simp] theorem State.modMbx_timeDue (f : Mbx → Mbx) : (s.modMbx f).timeDue = s.timeDue := rfl
@[simp] theorem State.modMbx_cseq (f : Mbx → Mbx) : (s.modMbx f).cseq = s.cseq := rfl
@[simp] theorem State.modMbx_vault (f : Mbx → Mbx) : (s.modMbx f).vault = s.vault := rfl
@[simp] theorem State.modMbx_keys (f : Mbx → Mbx) : (s.modMbx f).keys = s.keys := rfl
@[simp] theorem State.modMbx_ports (f : Mbx → Mbx) : (s.modMbx f).ports = s.ports := rfl
@[simp] theorem State.modMbx_xip (f : Mbx → Mbx) : (s.modMbx f).xip = s.xip := rfl
@[simp] theorem State.modMbx_boot (f : Mbx → Mbx) : (s.modMbx f).boot = s.boot := rfl
@[simp] theorem State.modMbx_hif (f : Mbx → Mbx) : (s.modMbx f).hif = s.hif := rfl
@[simp] theorem State.modMbx_inbox (f : Mbx → Mbx) : (s.modMbx f).inbox = s.inbox := rfl
@[simp] theorem State.modMbx_rv (f : Mbx → Mbx) : (s.modMbx f).rv = s.rv := rfl
@[simp] theorem State.modMbx_fuses (f : Mbx → Mbx) : (s.modMbx f).fuses = s.fuses := rfl
@[simp] theorem State.modMbx_folio (f : Mbx → Mbx) : (s.modMbx f).folio = s.folio := rfl
@[simp] theorem State.modMbx_guard (f : Mbx → Mbx) : (s.modMbx f).guard = s.guard := rfl
@[simp] theorem State.modMbx_outputs (f : Mbx → Mbx) : (s.modMbx f).outputs = s.outputs := rfl
@[simp] theorem State.modMbx_free (f : Mbx → Mbx) : (s.modMbx f).free = s.free := rfl
@[simp] theorem State.modMbx_pending (f : Mbx → Mbx) : (s.modMbx f).pending = s.pending := rfl

@[simp] theorem State.modRv_variant (f : Rv → Rv) : (s.modRv f).variant = s.variant := rfl
@[simp] theorem State.modRv_regs (f : Rv → Rv) : (s.modRv f).regs = s.regs := rfl
@[simp] theorem State.modRv_sram (f : Rv → Rv) : (s.modRv f).sram = s.sram := rfl
@[simp] theorem State.modRv_chans (f : Rv → Rv) : (s.modRv f).chans = s.chans := rfl
@[simp] theorem State.modRv_dies (f : Rv → Rv) : (s.modRv f).dies = s.dies := rfl
@[simp] theorem State.modRv_epoch (f : Rv → Rv) : (s.modRv f).epoch = s.epoch := rfl
@[simp] theorem State.modRv_queues (f : Rv → Rv) : (s.modRv f).queues = s.queues := rfl
@[simp] theorem State.modRv_reports (f : Rv → Rv) : (s.modRv f).reports = s.reports := rfl
@[simp] theorem State.modRv_seq (f : Rv → Rv) : (s.modRv f).seq = s.seq := rfl
@[simp] theorem State.modRv_jtag (f : Rv → Rv) : (s.modRv f).jtag = s.jtag := rfl
@[simp] theorem State.modRv_ot (f : Rv → Rv) : (s.modRv f).ot = s.ot := rfl
@[simp] theorem State.modRv_pcc (f : Rv → Rv) : (s.modRv f).pcc = s.pcc := rfl
@[simp] theorem State.modRv_timeDue (f : Rv → Rv) : (s.modRv f).timeDue = s.timeDue := rfl
@[simp] theorem State.modRv_cseq (f : Rv → Rv) : (s.modRv f).cseq = s.cseq := rfl
@[simp] theorem State.modRv_vault (f : Rv → Rv) : (s.modRv f).vault = s.vault := rfl
@[simp] theorem State.modRv_keys (f : Rv → Rv) : (s.modRv f).keys = s.keys := rfl
@[simp] theorem State.modRv_ports (f : Rv → Rv) : (s.modRv f).ports = s.ports := rfl
@[simp] theorem State.modRv_xip (f : Rv → Rv) : (s.modRv f).xip = s.xip := rfl
@[simp] theorem State.modRv_boot (f : Rv → Rv) : (s.modRv f).boot = s.boot := rfl
@[simp] theorem State.modRv_hif (f : Rv → Rv) : (s.modRv f).hif = s.hif := rfl
@[simp] theorem State.modRv_inbox (f : Rv → Rv) : (s.modRv f).inbox = s.inbox := rfl
@[simp] theorem State.modRv_mbx (f : Rv → Rv) : (s.modRv f).mbx = s.mbx := rfl
@[simp] theorem State.modRv_fuses (f : Rv → Rv) : (s.modRv f).fuses = s.fuses := rfl
@[simp] theorem State.modRv_folio (f : Rv → Rv) : (s.modRv f).folio = s.folio := rfl
@[simp] theorem State.modRv_guard (f : Rv → Rv) : (s.modRv f).guard = s.guard := rfl
@[simp] theorem State.modRv_outputs (f : Rv → Rv) : (s.modRv f).outputs = s.outputs := rfl
@[simp] theorem State.modRv_free (f : Rv → Rv) : (s.modRv f).free = s.free := rfl
@[simp] theorem State.modRv_pending (f : Rv → Rv) : (s.modRv f).pending = s.pending := rfl

@[simp] theorem State.modFuses_variant (f : Fuses → Fuses) : (s.modFuses f).variant = s.variant := rfl
@[simp] theorem State.modFuses_regs (f : Fuses → Fuses) : (s.modFuses f).regs = s.regs := rfl
@[simp] theorem State.modFuses_sram (f : Fuses → Fuses) : (s.modFuses f).sram = s.sram := rfl
@[simp] theorem State.modFuses_chans (f : Fuses → Fuses) : (s.modFuses f).chans = s.chans := rfl
@[simp] theorem State.modFuses_dies (f : Fuses → Fuses) : (s.modFuses f).dies = s.dies := rfl
@[simp] theorem State.modFuses_epoch (f : Fuses → Fuses) : (s.modFuses f).epoch = s.epoch := rfl
@[simp] theorem State.modFuses_queues (f : Fuses → Fuses) : (s.modFuses f).queues = s.queues := rfl
@[simp] theorem State.modFuses_reports (f : Fuses → Fuses) : (s.modFuses f).reports = s.reports := rfl
@[simp] theorem State.modFuses_seq (f : Fuses → Fuses) : (s.modFuses f).seq = s.seq := rfl
@[simp] theorem State.modFuses_jtag (f : Fuses → Fuses) : (s.modFuses f).jtag = s.jtag := rfl
@[simp] theorem State.modFuses_ot (f : Fuses → Fuses) : (s.modFuses f).ot = s.ot := rfl
@[simp] theorem State.modFuses_pcc (f : Fuses → Fuses) : (s.modFuses f).pcc = s.pcc := rfl
@[simp] theorem State.modFuses_timeDue (f : Fuses → Fuses) : (s.modFuses f).timeDue = s.timeDue := rfl
@[simp] theorem State.modFuses_cseq (f : Fuses → Fuses) : (s.modFuses f).cseq = s.cseq := rfl
@[simp] theorem State.modFuses_vault (f : Fuses → Fuses) : (s.modFuses f).vault = s.vault := rfl
@[simp] theorem State.modFuses_keys (f : Fuses → Fuses) : (s.modFuses f).keys = s.keys := rfl
@[simp] theorem State.modFuses_ports (f : Fuses → Fuses) : (s.modFuses f).ports = s.ports := rfl
@[simp] theorem State.modFuses_xip (f : Fuses → Fuses) : (s.modFuses f).xip = s.xip := rfl
@[simp] theorem State.modFuses_boot (f : Fuses → Fuses) : (s.modFuses f).boot = s.boot := rfl
@[simp] theorem State.modFuses_hif (f : Fuses → Fuses) : (s.modFuses f).hif = s.hif := rfl
@[simp] theorem State.modFuses_inbox (f : Fuses → Fuses) : (s.modFuses f).inbox = s.inbox := rfl
@[simp] theorem State.modFuses_mbx (f : Fuses → Fuses) : (s.modFuses f).mbx = s.mbx := rfl
@[simp] theorem State.modFuses_rv (f : Fuses → Fuses) : (s.modFuses f).rv = s.rv := rfl
@[simp] theorem State.modFuses_folio (f : Fuses → Fuses) : (s.modFuses f).folio = s.folio := rfl
@[simp] theorem State.modFuses_guard (f : Fuses → Fuses) : (s.modFuses f).guard = s.guard := rfl
@[simp] theorem State.modFuses_outputs (f : Fuses → Fuses) : (s.modFuses f).outputs = s.outputs := rfl
@[simp] theorem State.modFuses_free (f : Fuses → Fuses) : (s.modFuses f).free = s.free := rfl
@[simp] theorem State.modFuses_pending (f : Fuses → Fuses) : (s.modFuses f).pending = s.pending := rfl

@[simp] theorem State.modFolio_variant (f : Folio → Folio) : (s.modFolio f).variant = s.variant := rfl
@[simp] theorem State.modFolio_regs (f : Folio → Folio) : (s.modFolio f).regs = s.regs := rfl
@[simp] theorem State.modFolio_sram (f : Folio → Folio) : (s.modFolio f).sram = s.sram := rfl
@[simp] theorem State.modFolio_chans (f : Folio → Folio) : (s.modFolio f).chans = s.chans := rfl
@[simp] theorem State.modFolio_dies (f : Folio → Folio) : (s.modFolio f).dies = s.dies := rfl
@[simp] theorem State.modFolio_epoch (f : Folio → Folio) : (s.modFolio f).epoch = s.epoch := rfl
@[simp] theorem State.modFolio_queues (f : Folio → Folio) : (s.modFolio f).queues = s.queues := rfl
@[simp] theorem State.modFolio_reports (f : Folio → Folio) : (s.modFolio f).reports = s.reports := rfl
@[simp] theorem State.modFolio_seq (f : Folio → Folio) : (s.modFolio f).seq = s.seq := rfl
@[simp] theorem State.modFolio_jtag (f : Folio → Folio) : (s.modFolio f).jtag = s.jtag := rfl
@[simp] theorem State.modFolio_ot (f : Folio → Folio) : (s.modFolio f).ot = s.ot := rfl
@[simp] theorem State.modFolio_pcc (f : Folio → Folio) : (s.modFolio f).pcc = s.pcc := rfl
@[simp] theorem State.modFolio_timeDue (f : Folio → Folio) : (s.modFolio f).timeDue = s.timeDue := rfl
@[simp] theorem State.modFolio_cseq (f : Folio → Folio) : (s.modFolio f).cseq = s.cseq := rfl
@[simp] theorem State.modFolio_vault (f : Folio → Folio) : (s.modFolio f).vault = s.vault := rfl
@[simp] theorem State.modFolio_keys (f : Folio → Folio) : (s.modFolio f).keys = s.keys := rfl
@[simp] theorem State.modFolio_ports (f : Folio → Folio) : (s.modFolio f).ports = s.ports := rfl
@[simp] theorem State.modFolio_xip (f : Folio → Folio) : (s.modFolio f).xip = s.xip := rfl
@[simp] theorem State.modFolio_boot (f : Folio → Folio) : (s.modFolio f).boot = s.boot := rfl
@[simp] theorem State.modFolio_hif (f : Folio → Folio) : (s.modFolio f).hif = s.hif := rfl
@[simp] theorem State.modFolio_inbox (f : Folio → Folio) : (s.modFolio f).inbox = s.inbox := rfl
@[simp] theorem State.modFolio_mbx (f : Folio → Folio) : (s.modFolio f).mbx = s.mbx := rfl
@[simp] theorem State.modFolio_rv (f : Folio → Folio) : (s.modFolio f).rv = s.rv := rfl
@[simp] theorem State.modFolio_fuses (f : Folio → Folio) : (s.modFolio f).fuses = s.fuses := rfl
@[simp] theorem State.modFolio_guard (f : Folio → Folio) : (s.modFolio f).guard = s.guard := rfl
@[simp] theorem State.modFolio_outputs (f : Folio → Folio) : (s.modFolio f).outputs = s.outputs := rfl
@[simp] theorem State.modFolio_free (f : Folio → Folio) : (s.modFolio f).free = s.free := rfl
@[simp] theorem State.modFolio_pending (f : Folio → Folio) : (s.modFolio f).pending = s.pending := rfl

@[simp] theorem State.modGuard_variant (f : Guard → Guard) : (s.modGuard f).variant = s.variant := rfl
@[simp] theorem State.modGuard_regs (f : Guard → Guard) : (s.modGuard f).regs = s.regs := rfl
@[simp] theorem State.modGuard_sram (f : Guard → Guard) : (s.modGuard f).sram = s.sram := rfl
@[simp] theorem State.modGuard_chans (f : Guard → Guard) : (s.modGuard f).chans = s.chans := rfl
@[simp] theorem State.modGuard_dies (f : Guard → Guard) : (s.modGuard f).dies = s.dies := rfl
@[simp] theorem State.modGuard_epoch (f : Guard → Guard) : (s.modGuard f).epoch = s.epoch := rfl
@[simp] theorem State.modGuard_queues (f : Guard → Guard) : (s.modGuard f).queues = s.queues := rfl
@[simp] theorem State.modGuard_reports (f : Guard → Guard) : (s.modGuard f).reports = s.reports := rfl
@[simp] theorem State.modGuard_seq (f : Guard → Guard) : (s.modGuard f).seq = s.seq := rfl
@[simp] theorem State.modGuard_jtag (f : Guard → Guard) : (s.modGuard f).jtag = s.jtag := rfl
@[simp] theorem State.modGuard_ot (f : Guard → Guard) : (s.modGuard f).ot = s.ot := rfl
@[simp] theorem State.modGuard_pcc (f : Guard → Guard) : (s.modGuard f).pcc = s.pcc := rfl
@[simp] theorem State.modGuard_timeDue (f : Guard → Guard) : (s.modGuard f).timeDue = s.timeDue := rfl
@[simp] theorem State.modGuard_cseq (f : Guard → Guard) : (s.modGuard f).cseq = s.cseq := rfl
@[simp] theorem State.modGuard_vault (f : Guard → Guard) : (s.modGuard f).vault = s.vault := rfl
@[simp] theorem State.modGuard_keys (f : Guard → Guard) : (s.modGuard f).keys = s.keys := rfl
@[simp] theorem State.modGuard_ports (f : Guard → Guard) : (s.modGuard f).ports = s.ports := rfl
@[simp] theorem State.modGuard_xip (f : Guard → Guard) : (s.modGuard f).xip = s.xip := rfl
@[simp] theorem State.modGuard_boot (f : Guard → Guard) : (s.modGuard f).boot = s.boot := rfl
@[simp] theorem State.modGuard_hif (f : Guard → Guard) : (s.modGuard f).hif = s.hif := rfl
@[simp] theorem State.modGuard_inbox (f : Guard → Guard) : (s.modGuard f).inbox = s.inbox := rfl
@[simp] theorem State.modGuard_mbx (f : Guard → Guard) : (s.modGuard f).mbx = s.mbx := rfl
@[simp] theorem State.modGuard_rv (f : Guard → Guard) : (s.modGuard f).rv = s.rv := rfl
@[simp] theorem State.modGuard_fuses (f : Guard → Guard) : (s.modGuard f).fuses = s.fuses := rfl
@[simp] theorem State.modGuard_folio (f : Guard → Guard) : (s.modGuard f).folio = s.folio := rfl
@[simp] theorem State.modGuard_outputs (f : Guard → Guard) : (s.modGuard f).outputs = s.outputs := rfl
@[simp] theorem State.modGuard_free (f : Guard → Guard) : (s.modGuard f).free = s.free := rfl
@[simp] theorem State.modGuard_pending (f : Guard → Guard) : (s.modGuard f).pending = s.pending := rfl

@[simp] theorem State.modVault_variant (f : Vault → Vault) : (s.modVault f).variant = s.variant := rfl
@[simp] theorem State.modVault_regs (f : Vault → Vault) : (s.modVault f).regs = s.regs := rfl
@[simp] theorem State.modVault_sram (f : Vault → Vault) : (s.modVault f).sram = s.sram := rfl
@[simp] theorem State.modVault_chans (f : Vault → Vault) : (s.modVault f).chans = s.chans := rfl
@[simp] theorem State.modVault_dies (f : Vault → Vault) : (s.modVault f).dies = s.dies := rfl
@[simp] theorem State.modVault_epoch (f : Vault → Vault) : (s.modVault f).epoch = s.epoch := rfl
@[simp] theorem State.modVault_queues (f : Vault → Vault) : (s.modVault f).queues = s.queues := rfl
@[simp] theorem State.modVault_reports (f : Vault → Vault) : (s.modVault f).reports = s.reports := rfl
@[simp] theorem State.modVault_seq (f : Vault → Vault) : (s.modVault f).seq = s.seq := rfl
@[simp] theorem State.modVault_jtag (f : Vault → Vault) : (s.modVault f).jtag = s.jtag := rfl
@[simp] theorem State.modVault_ot (f : Vault → Vault) : (s.modVault f).ot = s.ot := rfl
@[simp] theorem State.modVault_pcc (f : Vault → Vault) : (s.modVault f).pcc = s.pcc := rfl
@[simp] theorem State.modVault_timeDue (f : Vault → Vault) : (s.modVault f).timeDue = s.timeDue := rfl
@[simp] theorem State.modVault_cseq (f : Vault → Vault) : (s.modVault f).cseq = s.cseq := rfl
@[simp] theorem State.modVault_keys (f : Vault → Vault) : (s.modVault f).keys = s.keys := rfl
@[simp] theorem State.modVault_ports (f : Vault → Vault) : (s.modVault f).ports = s.ports := rfl
@[simp] theorem State.modVault_xip (f : Vault → Vault) : (s.modVault f).xip = s.xip := rfl
@[simp] theorem State.modVault_boot (f : Vault → Vault) : (s.modVault f).boot = s.boot := rfl
@[simp] theorem State.modVault_hif (f : Vault → Vault) : (s.modVault f).hif = s.hif := rfl
@[simp] theorem State.modVault_inbox (f : Vault → Vault) : (s.modVault f).inbox = s.inbox := rfl
@[simp] theorem State.modVault_mbx (f : Vault → Vault) : (s.modVault f).mbx = s.mbx := rfl
@[simp] theorem State.modVault_rv (f : Vault → Vault) : (s.modVault f).rv = s.rv := rfl
@[simp] theorem State.modVault_fuses (f : Vault → Vault) : (s.modVault f).fuses = s.fuses := rfl
@[simp] theorem State.modVault_folio (f : Vault → Vault) : (s.modVault f).folio = s.folio := rfl
@[simp] theorem State.modVault_guard (f : Vault → Vault) : (s.modVault f).guard = s.guard := rfl
@[simp] theorem State.modVault_outputs (f : Vault → Vault) : (s.modVault f).outputs = s.outputs := rfl
@[simp] theorem State.modVault_free (f : Vault → Vault) : (s.modVault f).free = s.free := rfl
@[simp] theorem State.modVault_pending (f : Vault → Vault) : (s.modVault f).pending = s.pending := rfl

@[simp] theorem State.modSeq_variant (f : Seq → Seq) : (s.modSeq f).variant = s.variant := rfl
@[simp] theorem State.modSeq_regs (f : Seq → Seq) : (s.modSeq f).regs = s.regs := rfl
@[simp] theorem State.modSeq_sram (f : Seq → Seq) : (s.modSeq f).sram = s.sram := rfl
@[simp] theorem State.modSeq_chans (f : Seq → Seq) : (s.modSeq f).chans = s.chans := rfl
@[simp] theorem State.modSeq_dies (f : Seq → Seq) : (s.modSeq f).dies = s.dies := rfl
@[simp] theorem State.modSeq_epoch (f : Seq → Seq) : (s.modSeq f).epoch = s.epoch := rfl
@[simp] theorem State.modSeq_queues (f : Seq → Seq) : (s.modSeq f).queues = s.queues := rfl
@[simp] theorem State.modSeq_reports (f : Seq → Seq) : (s.modSeq f).reports = s.reports := rfl
@[simp] theorem State.modSeq_jtag (f : Seq → Seq) : (s.modSeq f).jtag = s.jtag := rfl
@[simp] theorem State.modSeq_ot (f : Seq → Seq) : (s.modSeq f).ot = s.ot := rfl
@[simp] theorem State.modSeq_pcc (f : Seq → Seq) : (s.modSeq f).pcc = s.pcc := rfl
@[simp] theorem State.modSeq_timeDue (f : Seq → Seq) : (s.modSeq f).timeDue = s.timeDue := rfl
@[simp] theorem State.modSeq_cseq (f : Seq → Seq) : (s.modSeq f).cseq = s.cseq := rfl
@[simp] theorem State.modSeq_vault (f : Seq → Seq) : (s.modSeq f).vault = s.vault := rfl
@[simp] theorem State.modSeq_keys (f : Seq → Seq) : (s.modSeq f).keys = s.keys := rfl
@[simp] theorem State.modSeq_ports (f : Seq → Seq) : (s.modSeq f).ports = s.ports := rfl
@[simp] theorem State.modSeq_xip (f : Seq → Seq) : (s.modSeq f).xip = s.xip := rfl
@[simp] theorem State.modSeq_boot (f : Seq → Seq) : (s.modSeq f).boot = s.boot := rfl
@[simp] theorem State.modSeq_hif (f : Seq → Seq) : (s.modSeq f).hif = s.hif := rfl
@[simp] theorem State.modSeq_inbox (f : Seq → Seq) : (s.modSeq f).inbox = s.inbox := rfl
@[simp] theorem State.modSeq_mbx (f : Seq → Seq) : (s.modSeq f).mbx = s.mbx := rfl
@[simp] theorem State.modSeq_rv (f : Seq → Seq) : (s.modSeq f).rv = s.rv := rfl
@[simp] theorem State.modSeq_fuses (f : Seq → Seq) : (s.modSeq f).fuses = s.fuses := rfl
@[simp] theorem State.modSeq_folio (f : Seq → Seq) : (s.modSeq f).folio = s.folio := rfl
@[simp] theorem State.modSeq_guard (f : Seq → Seq) : (s.modSeq f).guard = s.guard := rfl
@[simp] theorem State.modSeq_outputs (f : Seq → Seq) : (s.modSeq f).outputs = s.outputs := rfl
@[simp] theorem State.modSeq_free (f : Seq → Seq) : (s.modSeq f).free = s.free := rfl
@[simp] theorem State.modSeq_pending (f : Seq → Seq) : (s.modSeq f).pending = s.pending := rfl

@[simp] theorem State.modJtag_variant (f : Jtag → Jtag) : (s.modJtag f).variant = s.variant := rfl
@[simp] theorem State.modJtag_regs (f : Jtag → Jtag) : (s.modJtag f).regs = s.regs := rfl
@[simp] theorem State.modJtag_sram (f : Jtag → Jtag) : (s.modJtag f).sram = s.sram := rfl
@[simp] theorem State.modJtag_chans (f : Jtag → Jtag) : (s.modJtag f).chans = s.chans := rfl
@[simp] theorem State.modJtag_dies (f : Jtag → Jtag) : (s.modJtag f).dies = s.dies := rfl
@[simp] theorem State.modJtag_epoch (f : Jtag → Jtag) : (s.modJtag f).epoch = s.epoch := rfl
@[simp] theorem State.modJtag_queues (f : Jtag → Jtag) : (s.modJtag f).queues = s.queues := rfl
@[simp] theorem State.modJtag_reports (f : Jtag → Jtag) : (s.modJtag f).reports = s.reports := rfl
@[simp] theorem State.modJtag_seq (f : Jtag → Jtag) : (s.modJtag f).seq = s.seq := rfl
@[simp] theorem State.modJtag_ot (f : Jtag → Jtag) : (s.modJtag f).ot = s.ot := rfl
@[simp] theorem State.modJtag_pcc (f : Jtag → Jtag) : (s.modJtag f).pcc = s.pcc := rfl
@[simp] theorem State.modJtag_timeDue (f : Jtag → Jtag) : (s.modJtag f).timeDue = s.timeDue := rfl
@[simp] theorem State.modJtag_cseq (f : Jtag → Jtag) : (s.modJtag f).cseq = s.cseq := rfl
@[simp] theorem State.modJtag_vault (f : Jtag → Jtag) : (s.modJtag f).vault = s.vault := rfl
@[simp] theorem State.modJtag_keys (f : Jtag → Jtag) : (s.modJtag f).keys = s.keys := rfl
@[simp] theorem State.modJtag_ports (f : Jtag → Jtag) : (s.modJtag f).ports = s.ports := rfl
@[simp] theorem State.modJtag_xip (f : Jtag → Jtag) : (s.modJtag f).xip = s.xip := rfl
@[simp] theorem State.modJtag_boot (f : Jtag → Jtag) : (s.modJtag f).boot = s.boot := rfl
@[simp] theorem State.modJtag_hif (f : Jtag → Jtag) : (s.modJtag f).hif = s.hif := rfl
@[simp] theorem State.modJtag_inbox (f : Jtag → Jtag) : (s.modJtag f).inbox = s.inbox := rfl
@[simp] theorem State.modJtag_mbx (f : Jtag → Jtag) : (s.modJtag f).mbx = s.mbx := rfl
@[simp] theorem State.modJtag_rv (f : Jtag → Jtag) : (s.modJtag f).rv = s.rv := rfl
@[simp] theorem State.modJtag_fuses (f : Jtag → Jtag) : (s.modJtag f).fuses = s.fuses := rfl
@[simp] theorem State.modJtag_folio (f : Jtag → Jtag) : (s.modJtag f).folio = s.folio := rfl
@[simp] theorem State.modJtag_guard (f : Jtag → Jtag) : (s.modJtag f).guard = s.guard := rfl
@[simp] theorem State.modJtag_outputs (f : Jtag → Jtag) : (s.modJtag f).outputs = s.outputs := rfl
@[simp] theorem State.modJtag_free (f : Jtag → Jtag) : (s.modJtag f).free = s.free := rfl
@[simp] theorem State.modJtag_pending (f : Jtag → Jtag) : (s.modJtag f).pending = s.pending := rfl

/-! ## What the updates change -/

@[simp] theorem State.emit_outputs (o : Output) : (s.emit o).outputs = s.outputs ++ [o] := rfl
@[simp] theorem State.modKeys_keys (f : Keys → Keys) : (s.modKeys f).keys = f s.keys := rfl
@[simp] theorem State.modXip_xip (f : Xip → Xip) : (s.modXip f).xip = f s.xip := rfl
@[simp] theorem State.modBoot_boot (f : Boot → Boot) : (s.modBoot f).boot = f s.boot := rfl
@[simp] theorem State.modMbx_mbx (f : Mbx → Mbx) : (s.modMbx f).mbx = f s.mbx := rfl
@[simp] theorem State.modRv_rv (f : Rv → Rv) : (s.modRv f).rv = f s.rv := rfl
@[simp] theorem State.modFuses_fuses (f : Fuses → Fuses) : (s.modFuses f).fuses = f s.fuses := rfl
@[simp] theorem State.modFolio_folio (f : Folio → Folio) : (s.modFolio f).folio = f s.folio := rfl
@[simp] theorem State.modGuard_guard (f : Guard → Guard) : (s.modGuard f).guard = f s.guard := rfl
@[simp] theorem State.modVault_vault (f : Vault → Vault) : (s.modVault f).vault = f s.vault := rfl
@[simp] theorem State.modSeq_seq (f : Seq → Seq) : (s.modSeq f).seq = f s.seq := rfl
@[simp] theorem State.modJtag_jtag (f : Jtag → Jtag) : (s.modJtag f).jtag = f s.jtag := rfl

/-! ## Registers are read from `regs` and `variant` alone -/

theorem State.rd_congr {s t : State} (h : t.regs = s.regs) (hv : t.variant = s.variant) (n : RegName) (i : Nat) :
    t.rd n i = s.rd n i := by unfold State.rd; rw [h, hv]

theorem State.getF_congr {s t : State} (h : t.regs = s.regs) (hv : t.variant = s.variant) (f : Field) (i : Nat) :
    t.getF f i = s.getF f i := by unfold State.getF; rw [State.rd_congr h hv]

@[simp] theorem State.emit_rd (o : Output) (n : RegName) (i : Nat) : (s.emit o).rd n i = s.rd n i := rfl
@[simp] theorem State.modCh_rd (k : Nat) (f : Chan → Chan) (n : RegName) (i : Nat) : (s.modCh k f).rd n i = s.rd n i := rfl
@[simp] theorem State.modDie_rd (k : Nat) (f : Die → Die) (n : RegName) (i : Nat) : (s.modDie k f).rd n i = s.rd n i := rfl

/-! ## Guards -/

@[simp] theorem State.when_true (f : State → State) : s.when true f = f s := rfl
@[simp] theorem State.when_false (f : State → State) : s.when false f = s := rfl

/-- A guarded effect is the effect, or nothing. -/
theorem State.when_cases (c : Bool) (f : State → State) : (c = true ∧ s.when c f = f s) ∨ (c = false ∧ s.when c f = s) := by
  cases c <;> simp

end Sys2Proof.Machine
end

