-- ==== Sys2Proof/Laws/Reads.lean ====
section
/-! SUPPORT. What registers, fields, channels and dies read after each named update. -/

namespace Sys2Proof.Machine

variable (s : State)

/-! ## Updates that touch no register -/

@[simp] theorem State.modCh_getF (k : Nat) (f : Chan → Chan) (g : Field) (i : Nat) : (s.modCh k f).getF g i = s.getF g i := rfl
@[simp] theorem State.modCh_flag (k : Nat) (f : Chan → Chan) (g : Field) (i : Nat) : (s.modCh k f).flag g i = s.flag g i := rfl
@[simp] theorem State.setCh_rd (k : Nat) (c : Chan) (n : RegName) (i : Nat) : (s.setCh k c).rd n i = s.rd n i := rfl
@[simp] theorem State.setCh_getF (k : Nat) (c : Chan) (g : Field) (i : Nat) : (s.setCh k c).getF g i = s.getF g i := rfl
@[simp] theorem State.setCh_flag (k : Nat) (c : Chan) (g : Field) (i : Nat) : (s.setCh k c).flag g i = s.flag g i := rfl
@[simp] theorem State.modDie_getF (k : Nat) (f : Die → Die) (g : Field) (i : Nat) : (s.modDie k f).getF g i = s.getF g i := rfl
@[simp] theorem State.modDie_flag (k : Nat) (f : Die → Die) (g : Field) (i : Nat) : (s.modDie k f).flag g i = s.flag g i := rfl
@[simp] theorem State.setDie_rd (k : Nat) (x : Die) (n : RegName) (i : Nat) : (s.setDie k x).rd n i = s.rd n i := rfl
@[simp] theorem State.setDie_getF (k : Nat) (x : Die) (g : Field) (i : Nat) : (s.setDie k x).getF g i = s.getF g i := rfl
@[simp] theorem State.setDie_flag (k : Nat) (x : Die) (g : Field) (i : Nat) : (s.setDie k x).flag g i = s.flag g i := rfl
@[simp] theorem State.emit_getF (o : Output) (g : Field) (i : Nat) : (s.emit o).getF g i = s.getF g i := rfl
@[simp] theorem State.emit_flag (o : Output) (g : Field) (i : Nat) : (s.emit o).flag g i = s.flag g i := rfl
@[simp] theorem State.setQueue_rd (k : Nat) (q : FaultQueue) (n : RegName) (i : Nat) : (s.setQueue k q).rd n i = s.rd n i := rfl
@[simp] theorem State.setQueue_getF (k : Nat) (q : FaultQueue) (g : Field) (i : Nat) : (s.setQueue k q).getF g i = s.getF g i := rfl
@[simp] theorem State.setQueue_flag (k : Nat) (q : FaultQueue) (g : Field) (i : Nat) : (s.setQueue k q).flag g i = s.flag g i := rfl
@[simp] theorem State.fresh_rd (n : RegName) (i : Nat) : (s.fresh.2).rd n i = s.rd n i := rfl
@[simp] theorem State.fresh_getF (g : Field) (i : Nat) : (s.fresh.2).getF g i = s.getF g i := rfl
@[simp] theorem State.fresh_flag (g : Field) (i : Nat) : (s.fresh.2).flag g i = s.flag g i := rfl
@[simp] theorem State.draw_rd (n : RegName) (i : Nat) : (s.draw.2).rd n i = s.rd n i := rfl
@[simp] theorem State.draw_getF (g : Field) (i : Nat) : (s.draw.2).getF g i = s.getF g i := rfl
@[simp] theorem State.draw_flag (g : Field) (i : Nat) : (s.draw.2).flag g i = s.flag g i := rfl
@[simp] theorem State.sramWrite_rd (k a : Nat) (b : Byte) (n : RegName) (i : Nat) : (s.sramWrite k a b).rd n i = s.rd n i := rfl
@[simp] theorem State.sramWrite_getF (k a : Nat) (b : Byte) (g : Field) (i : Nat) : (s.sramWrite k a b).getF g i = s.getF g i := rfl
@[simp] theorem State.sramWrite_flag (k a : Nat) (b : Byte) (g : Field) (i : Nat) : (s.sramWrite k a b).flag g i = s.flag g i := rfl
@[simp] theorem State.modKeys_rd (f : Keys → Keys) (n : RegName) (i : Nat) : (s.modKeys f).rd n i = s.rd n i := rfl
@[simp] theorem State.modKeys_getF (f : Keys → Keys) (g : Field) (i : Nat) : (s.modKeys f).getF g i = s.getF g i := rfl
@[simp] theorem State.modKeys_flag (f : Keys → Keys) (g : Field) (i : Nat) : (s.modKeys f).flag g i = s.flag g i := rfl
@[simp] theorem State.modPort_rd (p : Nat) (f : Port → Port) (n : RegName) (i : Nat) : (s.modPort p f).rd n i = s.rd n i := rfl
@[simp] theorem State.modPort_getF (p : Nat) (f : Port → Port) (g : Field) (i : Nat) : (s.modPort p f).getF g i = s.getF g i := rfl
@[simp] theorem State.modPort_flag (p : Nat) (f : Port → Port) (g : Field) (i : Nat) : (s.modPort p f).flag g i = s.flag g i := rfl
@[simp] theorem State.modBoot_rd (f : Boot → Boot) (n : RegName) (i : Nat) : (s.modBoot f).rd n i = s.rd n i := rfl
@[simp] theorem State.modBoot_getF (f : Boot → Boot) (g : Field) (i : Nat) : (s.modBoot f).getF g i = s.getF g i := rfl
@[simp] theorem State.modBoot_flag (f : Boot → Boot) (g : Field) (i : Nat) : (s.modBoot f).flag g i = s.flag g i := rfl
@[simp] theorem State.modMbx_rd (f : Mbx → Mbx) (n : RegName) (i : Nat) : (s.modMbx f).rd n i = s.rd n i := rfl
@[simp] theorem State.modMbx_getF (f : Mbx → Mbx) (g : Field) (i : Nat) : (s.modMbx f).getF g i = s.getF g i := rfl
@[simp] theorem State.modMbx_flag (f : Mbx → Mbx) (g : Field) (i : Nat) : (s.modMbx f).flag g i = s.flag g i := rfl
@[simp] theorem State.modRv_rd (f : Rv → Rv) (n : RegName) (i : Nat) : (s.modRv f).rd n i = s.rd n i := rfl
@[simp] theorem State.modRv_getF (f : Rv → Rv) (g : Field) (i : Nat) : (s.modRv f).getF g i = s.getF g i := rfl
@[simp] theorem State.modRv_flag (f : Rv → Rv) (g : Field) (i : Nat) : (s.modRv f).flag g i = s.flag g i := rfl
@[simp] theorem State.modFuses_rd (f : Fuses → Fuses) (n : RegName) (i : Nat) : (s.modFuses f).rd n i = s.rd n i := rfl
@[simp] theorem State.modFuses_getF (f : Fuses → Fuses) (g : Field) (i : Nat) : (s.modFuses f).getF g i = s.getF g i := rfl
@[simp] theorem State.modFuses_flag (f : Fuses → Fuses) (g : Field) (i : Nat) : (s.modFuses f).flag g i = s.flag g i := rfl
@[simp] theorem State.modFolio_rd (f : Folio → Folio) (n : RegName) (i : Nat) : (s.modFolio f).rd n i = s.rd n i := rfl
@[simp] theorem State.modFolio_getF (f : Folio → Folio) (g : Field) (i : Nat) : (s.modFolio f).getF g i = s.getF g i := rfl
@[simp] theorem State.modFolio_flag (f : Folio → Folio) (g : Field) (i : Nat) : (s.modFolio f).flag g i = s.flag g i := rfl
@[simp] theorem State.modGuard_rd (f : Guard → Guard) (n : RegName) (i : Nat) : (s.modGuard f).rd n i = s.rd n i := rfl
@[simp] theorem State.modGuard_getF (f : Guard → Guard) (g : Field) (i : Nat) : (s.modGuard f).getF g i = s.getF g i := rfl
@[simp] theorem State.modGuard_flag (f : Guard → Guard) (g : Field) (i : Nat) : (s.modGuard f).flag g i = s.flag g i := rfl
@[simp] theorem State.modVault_rd (f : Vault → Vault) (n : RegName) (i : Nat) : (s.modVault f).rd n i = s.rd n i := rfl
@[simp] theorem State.modVault_getF (f : Vault → Vault) (g : Field) (i : Nat) : (s.modVault f).getF g i = s.getF g i := rfl
@[simp] theorem State.modVault_flag (f : Vault → Vault) (g : Field) (i : Nat) : (s.modVault f).flag g i = s.flag g i := rfl
@[simp] theorem State.modSeq_rd (f : Seq → Seq) (n : RegName) (i : Nat) : (s.modSeq f).rd n i = s.rd n i := rfl
@[simp] theorem State.modSeq_getF (f : Seq → Seq) (g : Field) (i : Nat) : (s.modSeq f).getF g i = s.getF g i := rfl
@[simp] theorem State.modSeq_flag (f : Seq → Seq) (g : Field) (i : Nat) : (s.modSeq f).flag g i = s.flag g i := rfl
@[simp] theorem State.modJtag_rd (f : Jtag → Jtag) (n : RegName) (i : Nat) : (s.modJtag f).rd n i = s.rd n i := rfl
@[simp] theorem State.modJtag_getF (f : Jtag → Jtag) (g : Field) (i : Nat) : (s.modJtag f).getF g i = s.getF g i := rfl
@[simp] theorem State.modJtag_flag (f : Jtag → Jtag) (g : Field) (i : Nat) : (s.modJtag f).flag g i = s.flag g i := rfl

/-! ## Channels, dies, fault queues -/

@[simp] theorem State.wr_ch (m : RegName) (k : Nat) (v : Word) (i : Nat) : (s.wr m k v).ch i = s.ch i := rfl
@[simp] theorem State.wr_die (m : RegName) (k : Nat) (v : Word) (i : Nat) : (s.wr m k v).die i = s.die i := rfl
@[simp] theorem State.wr_queue (m : RegName) (k : Nat) (v : Word) (i : Nat) : (s.wr m k v).queue i = s.queue i := rfl
@[simp] theorem State.setF_ch (f : Field) (k x : Nat) (i : Nat) : (s.setF f k x).ch i = s.ch i := rfl
@[simp] theorem State.setF_die (f : Field) (k x : Nat) (i : Nat) : (s.setF f k x).die i = s.die i := rfl
@[simp] theorem State.setF_queue (f : Field) (k x : Nat) (i : Nat) : (s.setF f k x).queue i = s.queue i := rfl
@[simp] theorem State.setFlag_ch (f : Field) (k : Nat) (b : Bool) (i : Nat) : (s.setFlag f k b).ch i = s.ch i := rfl
@[simp] theorem State.setFlag_die (f : Field) (k : Nat) (b : Bool) (i : Nat) : (s.setFlag f k b).die i = s.die i := rfl
@[simp] theorem State.setFlag_queue (f : Field) (k : Nat) (b : Bool) (i : Nat) : (s.setFlag f k b).queue i = s.queue i := rfl
@[simp] theorem State.orR_ch (m : RegName) (k x : Nat) (i : Nat) : (s.orR m k x).ch i = s.ch i := rfl
@[simp] theorem State.orR_die (m : RegName) (k x : Nat) (i : Nat) : (s.orR m k x).die i = s.die i := rfl
@[simp] theorem State.orR_queue (m : RegName) (k x : Nat) (i : Nat) : (s.orR m k x).queue i = s.queue i := rfl
@[simp] theorem State.clrR_ch (m : RegName) (k x : Nat) (i : Nat) : (s.clrR m k x).ch i = s.ch i := rfl
@[simp] theorem State.clrR_die (m : RegName) (k x : Nat) (i : Nat) : (s.clrR m k x).die i = s.die i := rfl
@[simp] theorem State.clrR_queue (m : RegName) (k x : Nat) (i : Nat) : (s.clrR m k x).queue i = s.queue i := rfl
@[simp] theorem State.swWrite_ch (m : RegName) (k : Nat) (v : Word) (i : Nat) : (s.swWrite m k v).ch i = s.ch i := rfl
@[simp] theorem State.swWrite_die (m : RegName) (k : Nat) (v : Word) (i : Nat) : (s.swWrite m k v).die i = s.die i := rfl
@[simp] theorem State.swWrite_queue (m : RegName) (k : Nat) (v : Word) (i : Nat) : (s.swWrite m k v).queue i = s.queue i := rfl
@[simp] theorem State.swWriteMasked_ch (m : RegName) (k : Nat) (v : Word) (x : Nat) (i : Nat) : (s.swWriteMasked m k v x).ch i = s.ch i := rfl
@[simp] theorem State.swWriteMasked_die (m : RegName) (k : Nat) (v : Word) (x : Nat) (i : Nat) : (s.swWriteMasked m k v x).die i = s.die i := rfl
@[simp] theorem State.swWriteMasked_queue (m : RegName) (k : Nat) (v : Word) (x : Nat) (i : Nat) : (s.swWriteMasked m k v x).queue i = s.queue i := rfl
@[simp] theorem State.modCh_die (k : Nat) (f : Chan → Chan) (i : Nat) : (s.modCh k f).die i = s.die i := rfl
@[simp] theorem State.modCh_queue (k : Nat) (f : Chan → Chan) (i : Nat) : (s.modCh k f).queue i = s.queue i := rfl
@[simp] theorem State.setCh_die (k : Nat) (c : Chan) (i : Nat) : (s.setCh k c).die i = s.die i := rfl
@[simp] theorem State.setCh_queue (k : Nat) (c : Chan) (i : Nat) : (s.setCh k c).queue i = s.queue i := rfl
@[simp] theorem State.modDie_ch (k : Nat) (f : Die → Die) (i : Nat) : (s.modDie k f).ch i = s.ch i := rfl
@[simp] theorem State.modDie_queue (k : Nat) (f : Die → Die) (i : Nat) : (s.modDie k f).queue i = s.queue i := rfl
@[simp] theorem State.setDie_ch (k : Nat) (x : Die) (i : Nat) : (s.setDie k x).ch i = s.ch i := rfl
@[simp] theorem State.setDie_queue (k : Nat) (x : Die) (i : Nat) : (s.setDie k x).queue i = s.queue i := rfl
@[simp] theorem State.emit_ch (o : Output) (i : Nat) : (s.emit o).ch i = s.ch i := rfl
@[simp] theorem State.emit_die (o : Output) (i : Nat) : (s.emit o).die i = s.die i := rfl
@[simp] theorem State.emit_queue (o : Output) (i : Nat) : (s.emit o).queue i = s.queue i := rfl
@[simp] theorem State.setQueue_ch (k : Nat) (q : FaultQueue) (i : Nat) : (s.setQueue k q).ch i = s.ch i := rfl
@[simp] theorem State.setQueue_die (k : Nat) (q : FaultQueue) (i : Nat) : (s.setQueue k q).die i = s.die i := rfl
@[simp] theorem State.fresh_ch (i : Nat) : (s.fresh.2).ch i = s.ch i := rfl
@[simp] theorem State.fresh_die (i : Nat) : (s.fresh.2).die i = s.die i := rfl
@[simp] theorem State.fresh_queue (i : Nat) : (s.fresh.2).queue i = s.queue i := rfl
@[simp] theorem State.draw_ch (i : Nat) : (s.draw.2).ch i = s.ch i := rfl
@[simp] theorem State.draw_die (i : Nat) : (s.draw.2).die i = s.die i := rfl
@[simp] theorem State.draw_queue (i : Nat) : (s.draw.2).queue i = s.queue i := rfl
@[simp] theorem State.sramWrite_ch (k a : Nat) (b : Byte) (i : Nat) : (s.sramWrite k a b).ch i = s.ch i := rfl
@[simp] theorem State.sramWrite_die (k a : Nat) (b : Byte) (i : Nat) : (s.sramWrite k a b).die i = s.die i := rfl
@[simp] theorem State.sramWrite_queue (k a : Nat) (b : Byte) (i : Nat) : (s.sramWrite k a b).queue i = s.queue i := rfl
@[simp] theorem State.modKeys_ch (f : Keys → Keys) (i : Nat) : (s.modKeys f).ch i = s.ch i := rfl
@[simp] theorem State.modKeys_die (f : Keys → Keys) (i : Nat) : (s.modKeys f).die i = s.die i := rfl
@[simp] theorem State.modKeys_queue (f : Keys → Keys) (i : Nat) : (s.modKeys f).queue i = s.queue i := rfl
@[simp] theorem State.modPort_ch (p : Nat) (f : Port → Port) (i : Nat) : (s.modPort p f).ch i = s.ch i := rfl
@[simp] theorem State.modPort_die (p : Nat) (f : Port → Port) (i : Nat) : (s.modPort p f).die i = s.die i := rfl
@[simp] theorem State.modPort_queue (p : Nat) (f : Port → Port) (i : Nat) : (s.modPort p f).queue i = s.queue i := rfl
@[simp] theorem State.modBoot_ch (f : Boot → Boot) (i : Nat) : (s.modBoot f).ch i = s.ch i := rfl
@[simp] theorem State.modBoot_die (f : Boot → Boot) (i : Nat) : (s.modBoot f).die i = s.die i := rfl
@[simp] theorem State.modBoot_queue (f : Boot → Boot) (i : Nat) : (s.modBoot f).queue i = s.queue i := rfl
@[simp] theorem State.modMbx_ch (f : Mbx → Mbx) (i : Nat) : (s.modMbx f).ch i = s.ch i := rfl
@[simp] theorem State.modMbx_die (f : Mbx → Mbx) (i : Nat) : (s.modMbx f).die i = s.die i := rfl
@[simp] theorem State.modMbx_queue (f : Mbx → Mbx) (i : Nat) : (s.modMbx f).queue i = s.queue i := rfl
@[simp] theorem State.modRv_ch (f : Rv → Rv) (i : Nat) : (s.modRv f).ch i = s.ch i := rfl
@[simp] theorem State.modRv_die (f : Rv → Rv) (i : Nat) : (s.modRv f).die i = s.die i := rfl
@[simp] theorem State.modRv_queue (f : Rv → Rv) (i : Nat) : (s.modRv f).queue i = s.queue i := rfl
@[simp] theorem State.modFuses_ch (f : Fuses → Fuses) (i : Nat) : (s.modFuses f).ch i = s.ch i := rfl
@[simp] theorem State.modFuses_die (f : Fuses → Fuses) (i : Nat) : (s.modFuses f).die i = s.die i := rfl
@[simp] theorem State.modFuses_queue (f : Fuses → Fuses) (i : Nat) : (s.modFuses f).queue i = s.queue i := rfl
@[simp] theorem State.modFolio_ch (f : Folio → Folio) (i : Nat) : (s.modFolio f).ch i = s.ch i := rfl
@[simp] theorem State.modFolio_die (f : Folio → Folio) (i : Nat) : (s.modFolio f).die i = s.die i := rfl
@[simp] theorem State.modFolio_queue (f : Folio → Folio) (i : Nat) : (s.modFolio f).queue i = s.queue i := rfl
@[simp] theorem State.modGuard_ch (f : Guard → Guard) (i : Nat) : (s.modGuard f).ch i = s.ch i := rfl
@[simp] theorem State.modGuard_die (f : Guard → Guard) (i : Nat) : (s.modGuard f).die i = s.die i := rfl
@[simp] theorem State.modGuard_queue (f : Guard → Guard) (i : Nat) : (s.modGuard f).queue i = s.queue i := rfl
@[simp] theorem State.modVault_ch (f : Vault → Vault) (i : Nat) : (s.modVault f).ch i = s.ch i := rfl
@[simp] theorem State.modVault_die (f : Vault → Vault) (i : Nat) : (s.modVault f).die i = s.die i := rfl
@[simp] theorem State.modVault_queue (f : Vault → Vault) (i : Nat) : (s.modVault f).queue i = s.queue i := rfl
@[simp] theorem State.modSeq_ch (f : Seq → Seq) (i : Nat) : (s.modSeq f).ch i = s.ch i := rfl
@[simp] theorem State.modSeq_die (f : Seq → Seq) (i : Nat) : (s.modSeq f).die i = s.die i := rfl
@[simp] theorem State.modSeq_queue (f : Seq → Seq) (i : Nat) : (s.modSeq f).queue i = s.queue i := rfl
@[simp] theorem State.modJtag_ch (f : Jtag → Jtag) (i : Nat) : (s.modJtag f).ch i = s.ch i := rfl
@[simp] theorem State.modJtag_die (f : Jtag → Jtag) (i : Nat) : (s.modJtag f).die i = s.die i := rfl
@[simp] theorem State.modJtag_queue (f : Jtag → Jtag) (i : Nat) : (s.modJtag f).queue i = s.queue i := rfl

/-! ## Fields and flags -/

theorem State.rd_setF (f : Field) (n : RegName) (i j x : Nat) (h : n ≠ f.reg) : (s.setF f i x).rd n j = s.rd n j :=
  State.rd_wr_other _ _ _ _ _ _ (Or.inl h)

theorem State.rd_setFlag (f : Field) (n : RegName) (i j : Nat) (b : Bool) (h : n ≠ f.reg) :
    (s.setFlag f i b).rd n j = s.rd n j := State.rd_setF _ _ _ _ _ _ h

/-- A field is below its width. -/
theorem State.getF_lt (f : Field) (i : Nat) : s.getF f i < 2 ^ f.width := bitsOf_lt _ _ _

@[simp] theorem State.getF_mod (f : Field) (i : Nat) : s.getF f i % 2 ^ f.width = s.getF f i :=
  Nat.mod_eq_of_lt (State.getF_lt _ _ _)

/-- A field apart from another reads as before. -/
theorem State.getF_setF_apart (f g : Field) (i j x : Nat) (hf : f.fits)
    (h : g.reg ≠ f.reg ∨ g.lo + g.width ≤ f.lo ∨ f.lo + f.width ≤ g.lo) : (s.setF f i x).getF g j = s.getF g j :=
  State.getF_setF_other _ _ _ _ _ _ hf (h.imp_right Or.inr)

theorem State.getF_setFlag_apart (f g : Field) (i j : Nat) (b : Bool) (hf : f.fits)
    (h : g.reg ≠ f.reg ∨ g.lo + g.width ≤ f.lo ∨ f.lo + f.width ≤ g.lo) : (s.setFlag f i b).getF g j = s.getF g j :=
  State.getF_setF_apart _ _ _ _ _ _ hf h

theorem State.flag_setF_apart (f g : Field) (i j x : Nat) (hf : f.fits)
    (h : g.reg ≠ f.reg ∨ g.lo + g.width ≤ f.lo ∨ f.lo + f.width ≤ g.lo) : (s.setF f i x).flag g j = s.flag g j := by
  unfold State.flag
  rw [State.getF_setF_apart _ _ _ _ _ _ hf h]

theorem State.flag_setFlag_apart (f g : Field) (i j : Nat) (b : Bool) (hf : f.fits)
    (h : g.reg ≠ f.reg ∨ g.lo + g.width ≤ f.lo ∨ f.lo + f.width ≤ g.lo) : (s.setFlag f i b).flag g j = s.flag g j :=
  State.flag_setF_apart _ _ _ _ _ _ hf h

/-- A flag that was set reads what was stored. -/
theorem State.flag_setFlag_same (f : Field) (i : Nat) (b : Bool) (hf : f.fits) (hw : f.width ≠ 0) :
    (s.setFlag f i b).flag f i = b := by
  unfold State.flag State.setFlag
  rw [State.getF_setF_same _ _ _ _ hf]
  have h2 : 1 < 2 ^ f.width := Nat.one_lt_two_pow hw
  cases b
  · simp [b2n]
  · simp [b2n, Nat.mod_eq_of_lt h2]

theorem State.flag_setF_same (f : Field) (i x : Nat) (hf : f.fits) :
    (s.setF f i x).flag f i = decide (x % 2 ^ f.width ≠ 0) := by
  unfold State.flag
  rw [State.getF_setF_same _ _ _ _ hf]

theorem State.getF_setFlag_same (f : Field) (i : Nat) (b : Bool) (hf : f.fits) :
    (s.setFlag f i b).getF f i = b2n b % 2 ^ f.width := State.getF_setF_same _ _ _ _ hf

theorem State.getF_wr_apart (n : RegName) (g : Field) (i j : Nat) (v : Word) (h : g.reg ≠ n) :
    (s.wr n i v).getF g j = s.getF g j := by
  unfold State.getF
  rw [State.rd_wr_other _ _ _ _ _ _ (Or.inl h)]

theorem State.flag_wr_apart (n : RegName) (g : Field) (i j : Nat) (v : Word) (h : g.reg ≠ n) :
    (s.wr n i v).flag g j = s.flag g j := by
  unfold State.flag
  rw [State.getF_wr_apart _ _ _ _ _ _ h]

theorem State.getF_orR_apart (n : RegName) (g : Field) (i j m : Nat) (h : g.reg ≠ n) :
    (s.orR n i m).getF g j = s.getF g j := State.getF_wr_apart _ _ _ _ _ _ h

end Sys2Proof.Machine
end

