-- ==== Sys2Proof/Laws/Reports.lean ====
section
/-! SUPPORT. What an event count and a fault report can do: the counting registers, the fault register of the code, and the
die's due slots and waiting reports; nothing else. -/

namespace Sys2Proof.Machine

/-- `t` is `s` but for registers and dies. -/
def SameRest (s t : State) : Prop := t = { s with regs := t.regs, dies := t.dies }

theorem SameRest.refl (s : State) : SameRest s s := rfl
theorem SameRest.trans {s t u : State} (h1 : SameRest s t) (h2 : SameRest t u) : SameRest s u := by
  unfold SameRest at *
  rw [h2, h1]
theorem SameRest.wr (s : State) (n : RegName) (i : Nat) (v : Word) : SameRest s (s.wr n i v) := rfl
theorem SameRest.setF (s : State) (f : Field) (i x : Nat) : SameRest s (s.setF f i x) := rfl
theorem SameRest.modDie (s : State) (d : Nat) (f : Die → Die) : SameRest s (s.modDie d f) := rfl

theorem SameRest.variant {s t : State} (h : SameRest s t) : t.variant = s.variant := by rw [h]
theorem SameRest.sram {s t : State} (h : SameRest s t) : t.sram = s.sram := by rw [h]
theorem SameRest.chans {s t : State} (h : SameRest s t) : t.chans = s.chans := by rw [h]
theorem SameRest.epoch {s t : State} (h : SameRest s t) : t.epoch = s.epoch := by rw [h]
theorem SameRest.queues {s t : State} (h : SameRest s t) : t.queues = s.queues := by rw [h]
theorem SameRest.reports {s t : State} (h : SameRest s t) : t.reports = s.reports := by rw [h]
theorem SameRest.seq {s t : State} (h : SameRest s t) : t.seq = s.seq := by rw [h]
theorem SameRest.jtag {s t : State} (h : SameRest s t) : t.jtag = s.jtag := by rw [h]
theorem SameRest.ot {s t : State} (h : SameRest s t) : t.ot = s.ot := by rw [h]
theorem SameRest.pcc {s t : State} (h : SameRest s t) : t.pcc = s.pcc := by rw [h]
theorem SameRest.timeDue {s t : State} (h : SameRest s t) : t.timeDue = s.timeDue := by rw [h]
theorem SameRest.cseq {s t : State} (h : SameRest s t) : t.cseq = s.cseq := by rw [h]
theorem SameRest.vault {s t : State} (h : SameRest s t) : t.vault = s.vault := by rw [h]
theorem SameRest.keys {s t : State} (h : SameRest s t) : t.keys = s.keys := by rw [h]
theorem SameRest.ports {s t : State} (h : SameRest s t) : t.ports = s.ports := by rw [h]
theorem SameRest.xip {s t : State} (h : SameRest s t) : t.xip = s.xip := by rw [h]
theorem SameRest.boot {s t : State} (h : SameRest s t) : t.boot = s.boot := by rw [h]
theorem SameRest.hif {s t : State} (h : SameRest s t) : t.hif = s.hif := by rw [h]
theorem SameRest.inbox {s t : State} (h : SameRest s t) : t.inbox = s.inbox := by rw [h]
theorem SameRest.mbx {s t : State} (h : SameRest s t) : t.mbx = s.mbx := by rw [h]
theorem SameRest.rv {s t : State} (h : SameRest s t) : t.rv = s.rv := by rw [h]
theorem SameRest.fuses {s t : State} (h : SameRest s t) : t.fuses = s.fuses := by rw [h]
theorem SameRest.folio {s t : State} (h : SameRest s t) : t.folio = s.folio := by rw [h]
theorem SameRest.guard {s t : State} (h : SameRest s t) : t.guard = s.guard := by rw [h]
theorem SameRest.outputs {s t : State} (h : SameRest s t) : t.outputs = s.outputs := by rw [h]
theorem SameRest.free {s t : State} (h : SameRest s t) : t.free = s.free := by rw [h]
theorem SameRest.pending {s t : State} (h : SameRest s t) : t.pending = s.pending := by rw [h]

/-- Registers but those that count events read as before. -/
def SameBut (s t : State) : Prop := ∀ n i, n.counts = false → t.rd n i = s.rd n i

theorem SameBut.trans {s t u : State} (h1 : SameBut s t) (h2 : SameBut t u) : SameBut s u := fun n i h =>
  (h2 n i h).trans (h1 n i h)
theorem SameBut.wr (s : State) (n : RegName) (i : Nat) (v : Word) (h : n.counts = true) : SameBut s (s.wr n i v) := by
  intro m j hm
  refine State.rd_wr_other _ _ _ _ _ _ (Or.inl ?_)
  rintro rfl
  simp [h] at hm
theorem SameBut.setF (s : State) (f : Field) (i x : Nat) (h : f.reg.counts = true) : SameBut s (s.setF f i x) :=
  SameBut.wr _ _ _ _ h

/-- An effect that only counts: registers that count, and the due slots of die d. -/
def Counted (d : Nat) (s t : State) : Prop :=
  SameRest s t ∧ SameBut s t ∧ (∀ e, e ≠ d → t.die e = s.die e) ∧ t.die d = { s.die d with due := (t.die d).due }

theorem Counted.refl (d : Nat) (s : State) : Counted d s s := ⟨rfl, fun _ _ _ => rfl, fun _ _ => rfl, rfl⟩
theorem Counted.trans {d : Nat} {s t u : State} (h1 : Counted d s t) (h2 : Counted d t u) : Counted d s u := by
  obtain ⟨a1, b1, c1, e1⟩ := h1
  obtain ⟨a2, b2, c2, e2⟩ := h2
  refine ⟨a1.trans a2, b1.trans b2, fun e he => (c2 e he).trans (c1 e he), ?_⟩
  rw [e2, e1]
theorem Counted.setF (d : Nat) (s : State) (f : Field) (i x : Nat) (h : f.reg.counts = true) : Counted d s (s.setF f i x) :=
  ⟨rfl, SameBut.setF _ _ _ _ h, fun _ _ => rfl, rfl⟩
theorem Counted.wr (d : Nat) (s : State) (n : RegName) (i : Nat) (v : Word) (h : n.counts = true) : Counted d s (s.wr n i v) :=
  ⟨rfl, SameBut.wr _ _ _ _ h, fun _ _ => rfl, rfl⟩

theorem State.obSat_counted (s : State) (d e : Nat) : Counted d s (s.obSat d e) := Counted.wr _ _ _ _ _ rfl

theorem State.obCounter_counted (s : State) (d e n : Nat) : Counted d s (s.obCounter d e n) := by
  unfold State.obCounter
  dsimp only
  split
  · split
    · exact Counted.refl _ _
    · split
      · exact ((Counted.setF _ _ _ _ _ rfl).trans (Counted.setF _ _ _ _ _ rfl)).trans (State.obSat_counted _ _ _)
      · exact (Counted.setF _ _ _ _ _ rfl).trans (Counted.setF _ _ _ _ _ rfl)
  · split
    · exact (Counted.setF _ _ _ _ _ rfl).trans (State.obSat_counted _ _ _)
    · exact Counted.setF _ _ _ _ _ rfl

theorem Counted.due (s : State) (d : Nat) (x : Due) :
    Counted d s (s.modDie d fun y => { y with due := y.due ++ [x] }) := by
  refine ⟨rfl, fun _ _ _ => rfl, fun e he => State.die_setDie_other _ _ _ _ he, ?_⟩
  rw [State.die_modDie_same]

theorem State.obWatch_counted (s : State) (d e n : Nat) : Counted d s (s.obWatch d e n) := by
  unfold State.obWatch State.forEach
  dsimp only
  generalize State.us s = us
  generalize State.getF s _ _ = cnt
  generalize List.range 16 = l
  induction l generalizing s with
  | nil => exact Counted.refl _ _
  | cons i t ih =>
    rw [List.foldl_cons]
    refine Counted.trans ?_ (ih _)
    split
    · exact Counted.refl _ _
    · split
      · exact (Counted.setF _ _ _ _ _ rfl).trans (Counted.due _ _ _)
      · exact Counted.setF _ _ _ _ _ rfl

/-- Counting an event changes counting registers and due slots of the die, nothing else. -/
theorem State.count_counted (s : State) (d e n : Nat) : Counted d s (s.count d e n) := by
  unfold State.count
  split
  · exact Counted.refl _ _
  · exact (State.obCounter_counted _ _ _ _).trans (State.obWatch_counted _ _ _ _)

theorem State.count_rd (s : State) (d e k : Nat) (n : RegName) (i : Nat) (h : n.counts = false) :
    (s.count d e k).rd n i = s.rd n i := (s.count_counted d e k).2.1 n i h

theorem State.count_getF (s : State) (d e k : Nat) (f : Field) (i : Nat) (h : f.reg.counts = false) :
    (s.count d e k).getF f i = s.getF f i := by
  unfold State.getF
  rw [State.count_rd _ _ _ _ _ _ h]

@[simp] theorem State.count_variant (s : State) (d e n : Nat) : (s.count d e n).variant = s.variant := (s.count_counted d e n).1.variant
@[simp] theorem State.count_sram (s : State) (d e n : Nat) : (s.count d e n).sram = s.sram := (s.count_counted d e n).1.sram
@[simp] theorem State.count_chans (s : State) (d e n : Nat) : (s.count d e n).chans = s.chans := (s.count_counted d e n).1.chans
@[simp] theorem State.count_epoch (s : State) (d e n : Nat) : (s.count d e n).epoch = s.epoch := (s.count_counted d e n).1.epoch
@[simp] theorem State.count_queues (s : State) (d e n : Nat) : (s.count d e n).queues = s.queues := (s.count_counted d e n).1.queues
@[simp] theorem State.count_reports (s : State) (d e n : Nat) : (s.count d e n).reports = s.reports := (s.count_counted d e n).1.reports
@[simp] theorem State.count_seq (s : State) (d e n : Nat) : (s.count d e n).seq = s.seq := (s.count_counted d e n).1.seq
@[simp] theorem State.count_jtag (s : State) (d e n : Nat) : (s.count d e n).jtag = s.jtag := (s.count_counted d e n).1.jtag
@[simp] theorem State.count_ot (s : State) (d e n : Nat) : (s.count d e n).ot = s.ot := (s.count_counted d e n).1.ot
@[simp] theorem State.count_pcc (s : State) (d e n : Nat) : (s.count d e n).pcc = s.pcc := (s.count_counted d e n).1.pcc
@[simp] theorem State.count_timeDue (s : State) (d e n : Nat) : (s.count d e n).timeDue = s.timeDue := (s.count_counted d e n).1.timeDue
@[simp] theorem State.count_cseq (s : State) (d e n : Nat) : (s.count d e n).cseq = s.cseq := (s.count_counted d e n).1.cseq
@[simp] theorem State.count_vault (s : State) (d e n : Nat) : (s.count d e n).vault = s.vault := (s.count_counted d e n).1.vault
@[simp] theorem State.count_keys (s : State) (d e n : Nat) : (s.count d e n).keys = s.keys := (s.count_counted d e n).1.keys
@[simp] theorem State.count_ports (s : State) (d e n : Nat) : (s.count d e n).ports = s.ports := (s.count_counted d e n).1.ports
@[simp] theorem State.count_xip (s : State) (d e n : Nat) : (s.count d e n).xip = s.xip := (s.count_counted d e n).1.xip
@[simp] theorem State.count_boot (s : State) (d e n : Nat) : (s.count d e n).boot = s.boot := (s.count_counted d e n).1.boot
@[simp] theorem State.count_hif (s : State) (d e n : Nat) : (s.count d e n).hif = s.hif := (s.count_counted d e n).1.hif
@[simp] theorem State.count_inbox (s : State) (d e n : Nat) : (s.count d e n).inbox = s.inbox := (s.count_counted d e n).1.inbox
@[simp] theorem State.count_mbx (s : State) (d e n : Nat) : (s.count d e n).mbx = s.mbx := (s.count_counted d e n).1.mbx
@[simp] theorem State.count_rv (s : State) (d e n : Nat) : (s.count d e n).rv = s.rv := (s.count_counted d e n).1.rv
@[simp] theorem State.count_fuses (s : State) (d e n : Nat) : (s.count d e n).fuses = s.fuses := (s.count_counted d e n).1.fuses
@[simp] theorem State.count_folio (s : State) (d e n : Nat) : (s.count d e n).folio = s.folio := (s.count_counted d e n).1.folio
@[simp] theorem State.count_guard (s : State) (d e n : Nat) : (s.count d e n).guard = s.guard := (s.count_counted d e n).1.guard
@[simp] theorem State.count_outputs (s : State) (d e n : Nat) : (s.count d e n).outputs = s.outputs := (s.count_counted d e n).1.outputs
@[simp] theorem State.count_free (s : State) (d e n : Nat) : (s.count d e n).free = s.free := (s.count_counted d e n).1.free
@[simp] theorem State.count_pending (s : State) (d e n : Nat) : (s.count d e n).pending = s.pending := (s.count_counted d e n).1.pending

theorem State.faultCount_counted (s : State) (d code source : Nat) : Counted d s (s.faultCount d code source) := by
  unfold State.faultCount
  split
  · exact State.count_counted _ _ _ _
  · exact Counted.refl _ _

/-- A report: the register bit, the event count, one more waiting report with the die's next DSEQ. -/
theorem State.report_eq (s : State) (d code source : Nat) :
    ∃ t, Counted d (s.faultMark d code source) t ∧ s.report d code source = t.enqueue d code source :=
  ⟨_, State.faultCount_counted _ _ _ _, rfl⟩

theorem State.faultMark_rest (s : State) (d code source : Nat) : SameRest s (s.faultMark d code source) := by
  unfold State.faultMark
  split
  · rfl
  · rfl

theorem State.report_rest (s : State) (d code source : Nat) : SameRest s (s.report d code source) := by
  obtain ⟨t, h, e⟩ := s.report_eq d code source
  rw [e]
  exact ((s.faultMark_rest d code source).trans h.1).trans rfl

/-- A register that is neither a counting register nor the fault register of the code reads as before. -/
theorem State.report_rd (s : State) (d code source : Nat) (n : RegName) (i : Nat) (h : n.counts = false)
    (hb : ∀ b, faultBit d code source ≠ some (n, i, b)) : (s.report d code source).rd n i = s.rd n i := by
  obtain ⟨t, ht, e⟩ := s.report_eq d code source
  rw [e]
  change t.rd n i = _
  rw [ht.2.1 n i h]
  unfold State.faultMark
  split
  · rename_i m j b hm
    refine State.rd_wr_other _ _ _ _ _ _ ?_
    by_cases h1 : n = m
    · right
      rintro rfl
      exact hb b (by rw [hm, h1])
    · exact Or.inl h1
  · rfl

theorem State.report_getF (s : State) (d code source : Nat) (f : Field) (i : Nat) (h : f.reg.counts = false)
    (hb : ∀ b, faultBit d code source ≠ some (f.reg, i, b)) : (s.report d code source).getF f i = s.getF f i := by
  unfold State.getF
  rw [State.report_rd _ _ _ _ _ _ h hb]

/-- The fault register of the code has its bit set, its other bits as before. -/
theorem State.report_bit (s : State) (d code source : Nat) (n : RegName) (i b : Nat) (h : n.counts = false)
    (hb : faultBit d code source = some (n, i, b)) :
    (s.report d code source).rd n i = s.rd n i ||| BitVec.ofNat 32 (2 ^ b) := by
  obtain ⟨t, ht, e⟩ := s.report_eq d code source
  rw [e]
  change t.rd n i = _
  rw [ht.2.1 n i h]
  unfold State.faultMark
  rw [hb]
  exact State.rd_wr_same _ _ _ _

theorem State.report_die_other (s : State) (d code source e : Nat) (h : e ≠ d) : (s.report d code source).die e = s.die e := by
  obtain ⟨t, ht, e1⟩ := s.report_eq d code source
  rw [e1]
  unfold State.enqueue State.modDie
  rw [State.die_setDie_other _ _ _ _ h, ht.2.2.1 e h]
  unfold State.faultMark
  split <;> rfl

/-- The die that reports has the report waiting under its DSEQ, and its next DSEQ is one more. -/
theorem State.report_die (s : State) (d code source : Nat) : (s.report d code source).die d =
    { s.die d with
      due := ((s.report d code source).die d).due
      inflight := ((s.report d code source).die d).inflight
      dseq := ((s.die d).dseq + 1) % 2 ^ 16 } := by
  obtain ⟨t, ht, e1⟩ := s.report_eq d code source
  have hm : (s.faultMark d code source).die d = s.die d := by
    unfold State.faultMark
    split <;> rfl
  rw [e1]
  unfold State.enqueue
  rw [State.die_modDie_same, ht.2.2.2, hm]

@[simp] theorem State.report_variant (s : State) (d code source : Nat) : (s.report d code source).variant = s.variant := (s.report_rest d code source).variant
@[simp] theorem State.report_sram (s : State) (d code source : Nat) : (s.report d code source).sram = s.sram := (s.report_rest d code source).sram
@[simp] theorem State.report_chans (s : State) (d code source : Nat) : (s.report d code source).chans = s.chans := (s.report_rest d code source).chans
@[simp] theorem State.report_epoch (s : State) (d code source : Nat) : (s.report d code source).epoch = s.epoch := (s.report_rest d code source).epoch
@[simp] theorem State.report_queues (s : State) (d code source : Nat) : (s.report d code source).queues = s.queues := (s.report_rest d code source).queues
@[simp] theorem State.report_reports (s : State) (d code source : Nat) : (s.report d code source).reports = s.reports := (s.report_rest d code source).reports
@[simp] theorem State.report_seq (s : State) (d code source : Nat) : (s.report d code source).seq = s.seq := (s.report_rest d code source).seq
@[simp] theorem State.report_jtag (s : State) (d code source : Nat) : (s.report d code source).jtag = s.jtag := (s.report_rest d code source).jtag
@[simp] theorem State.report_ot (s : State) (d code source : Nat) : (s.report d code source).ot = s.ot := (s.report_rest d code source).ot
@[simp] theorem State.report_pcc (s : State) (d code source : Nat) : (s.report d code source).pcc = s.pcc := (s.report_rest d code source).pcc
@[simp] theorem State.report_timeDue (s : State) (d code source : Nat) : (s.report d code source).timeDue = s.timeDue := (s.report_rest d code source).timeDue
@[simp] theorem State.report_cseq (s : State) (d code source : Nat) : (s.report d code source).cseq = s.cseq := (s.report_rest d code source).cseq
@[simp] theorem State.report_vault (s : State) (d code source : Nat) : (s.report d code source).vault = s.vault := (s.report_rest d code source).vault
@[simp] theorem State.report_keys (s : State) (d code source : Nat) : (s.report d code source).keys = s.keys := (s.report_rest d code source).keys
@[simp] theorem State.report_ports (s : State) (d code source : Nat) : (s.report d code source).ports = s.ports := (s.report_rest d code source).ports
@[simp] theorem State.report_xip (s : State) (d code source : Nat) : (s.report d code source).xip = s.xip := (s.report_rest d code source).xip
@[simp] theorem State.report_boot (s : State) (d code source : Nat) : (s.report d code source).boot = s.boot := (s.report_rest d code source).boot
@[simp] theorem State.report_hif (s : State) (d code source : Nat) : (s.report d code source).hif = s.hif := (s.report_rest d code source).hif
@[simp] theorem State.report_inbox (s : State) (d code source : Nat) : (s.report d code source).inbox = s.inbox := (s.report_rest d code source).inbox
@[simp] theorem State.report_mbx (s : State) (d code source : Nat) : (s.report d code source).mbx = s.mbx := (s.report_rest d code source).mbx
@[simp] theorem State.report_rv (s : State) (d code source : Nat) : (s.report d code source).rv = s.rv := (s.report_rest d code source).rv
@[simp] theorem State.report_fuses (s : State) (d code source : Nat) : (s.report d code source).fuses = s.fuses := (s.report_rest d code source).fuses
@[simp] theorem State.report_folio (s : State) (d code source : Nat) : (s.report d code source).folio = s.folio := (s.report_rest d code source).folio
@[simp] theorem State.report_guard (s : State) (d code source : Nat) : (s.report d code source).guard = s.guard := (s.report_rest d code source).guard
@[simp] theorem State.report_outputs (s : State) (d code source : Nat) : (s.report d code source).outputs = s.outputs := (s.report_rest d code source).outputs
@[simp] theorem State.report_free (s : State) (d code source : Nat) : (s.report d code source).free = s.free := (s.report_rest d code source).free
@[simp] theorem State.report_pending (s : State) (d code source : Nat) : (s.report d code source).pending = s.pending := (s.report_rest d code source).pending

end Sys2Proof.Machine
end

