-- ==== Sys2Proof/Tests/Slice0.lean ====
section
/-! SUPPORT. Small tests of single commands against numbers of the spec, the ill-formed terms that WellFormed refuses, and one
witness theorem for every statement that has hypotheses. -/

namespace Sys2Proof.Tests

open Sys2Proof Sys2Proof.Machine

set_option maxRecDepth 20000
set_option linter.unusedVariables false

/-! ## Helpers -/

/-- The state after one command (the state itself where the command stops). -/
def after (c : Instr) (s : State) : State :=
  match exec c s with
  | .next t => t
  | _ => s

/-- Core 0 of die 0. -/
abbrev core0 : Requester := .sentry 0 0

/-- A frame of one command byte, still open. -/
def fr0 : HostFrame :=
  { cmd := [3], addr := [], mode := none, edges := 8, wdata := [], flash := [], period := 100, delivA := 0, delivB := 0,
    lateGranules := [], noAck := [], badWords := [], csShort := false, refclks := 0, closed := false }

/-- Eight dies that none of the others reaches. -/
def deadDies : Tbl Die := (List.range 8).map fun k => (k, { Die.reset with reachable := false })

/-- A witness command of one operation on tree 0, next leaf and end given. -/
def wc (op next stop : Nat) : WitCmd := { op := op, tree := 0, first := 0, stop := stop, next := next, passed := 0, fail := none }

/-- Forme 0 of die 0 is quoined and its first slug names tree 0. -/
def lockedState : State :=
  ((State.reset.wr .FM_QUOIN_EFF 0 1).wr .FM_ACT 64 0x800000).wr .FM_ACT 65 0x80000000

/-- Gate 0 armed in mode 1 over tree 0, rooted and preloaded. -/
def gateState : State :=
  ((((State.reset.setF Fld.TD_CFG_GATE_EN 0 1).setF Fld.TD_STATE_STATE 0 2).setF Fld.PG_STATUS_ARMED 0 1).setF
    Fld.PG_CTRL_MODE 0 1).modDie 0 fun x => { x with trees := [(0, { preOk := true, changedUs := 0, deliveredUs := 0 })] }

/-- A write round that shows no error. -/
def cr0 : CareRound := { readBack := [] }

/-- A firmware frame with no inbound byte. -/
def ev0 : MpEvent := { owner := 0, sel := false, inbound := [], noStrobe := false, badIn := 0, badOut := false }

/-- A queue entry of one word. -/
def qe (w : Nat) : QEntry := { w0 := w, w1 := 0, w2 := 0 }

/-- Master port 0 with one queue entry, whose word 0 is small. -/
def qState (b : Byte) : State :=
  { ((State.reset.setF Fld.MP_QCTL_SIZE 0 1).setF Fld.MP_QCTL_RUN 0 1).setF Fld.MP_QPTR_TAIL 0 1 with
    sram := if b = 0 then [] else [(0, b)] }

/-- A frame of the firmware queue. -/
def pr0 : PortRun := { owner := 0, sel := false, wr := false, poll := false, count := 1, ev := ev0 }

/-- Region 1 of die 0 with its fill row burnt and supply and digests in order. -/
def finState : State :=
  { State.reset with
    seq := { Seq.reset with vfuseOut := false }
    fuses := { Fuses.reset with rows := [(0xD, { nominal := 0x5EA10001, high := 0x5EA10001, low := 0x5EA10001 })] } }

theorem finDigest : ∀ p ∈ (digestRows 1).zip (finState.regionDigest 0 1),
    (finState.fuseRow 0 p.1).nominal &&& p.2 = (finState.fuseRow 0 p.1).nominal := by
  intro p hp
  have h : ∀ r ∈ digestRows 1, (finState.fuseRow 0 r).nominal = 0 := by decide
  rw [h _ (List.of_mem_zip hp).1, Nat.zero_and]

/-- A bound key unit whose directory names an area in the first block. -/
def dirState : State :=
  { State.reset.setF Fld.MC_STATUS_VAULT 0 1 with sram := [(0x2007, 1)], keys := { Keys.reset with holds0 := true } }

/-- A ring command of some words. -/
def cmdW (w : List Word) : RingCmd := { serial := 0, words := w, begun := false, done := none }

/-- A pair of rings of 16 entries with some commands started. -/
def pairWith (l : List RingCmd) : Pair :=
  { sqBase := 0, cqBase := 0, sqSize := 16, cqSize := 16, sqHead := 0, sqTail := 0, cqTail := 0, cqHead := 0, error := false,
    phase := true, irqEn := false, irqArmed := false, vector := 0, started := l, fetched := none, deleting := none }

/-- A digest with bit 0 of its first byte inverted. -/
def spoilt (l : Digest) : Digest :=
  match l with
  | [] => [0]
  | b :: t => (b ^^^ 1) :: t

theorem spoilt_ne (l : Digest) : l ≠ spoilt l := by
  have h : ∀ b : Byte, b ≠ b ^^^ 1 := by decide
  cases l with
  | nil => simp [spoilt]
  | cons b t => simpa [spoilt] using h b

/-! ## Ill-formed commands -/

theorem test_wf_regWrite_width : wellFormed (.regWrite .pf 0 24 0) = false ∧ wellFormed (.regWrite .pf 0 16 0) = true := by decide

theorem test_wf_regWrite_address :
    wellFormed (.regWrite .pf 0x1000000 32 0) = false ∧ wellFormed (.regWrite .pf 0xFFFFFF 32 0) = true := by decide

theorem test_wf_hostFrame :
    wellFormed (.hostFrame 0 { fr0 with cmd := [0, 0, 0] }) = false ∧
    wellFormed (.hostFrame 0 { fr0 with addr := [0, 0, 0, 0, 0] }) = false ∧
    wellFormed (.hostFrame 0 { fr0 with delivA := 161 }) = false ∧ wellFormed (.hostFrame 0 fr0) = true := by decide

/-- A read that brings less than a granule and has not failed. -/
def shortRead : OwnRead := { data := [] }

/-- Three attempts of one run that fail: bit 0 of its first flit arrives inverted (R199, R203). -/
def lostRun : RunErrors := { run := 0, tries := List.replicate 3 [{ flit := 0, bits := 1 }] }

/-- A read that failed. -/
def lostRead : OwnRead := { data := [], runs := [lostRun] }

/-- A capture entry that took the FETCH slot of a sweep (R143). -/
def sweptSlot : Slot :=
  { ch := 0, granule := 0, tree := 0, leaf := 0, st := .capture, pinned := false, entry := true, host := [(0, 1)], own := [],
    seq := some 0, sweep := some false }

/-- A sweep of the one leaf of tree 0 whose FETCH slot a consumption took. -/
def sweepState : State :=
  ((((((State.reset.wr .SHAPE_ENTRY 3 1).setF Fld.TD_STATE_STATE 0 2).setF Fld.TD_STATE_DEPTH 0 1).setF Fld.TD_LEAVES_LEAF_COUNT 0 1).setF
    Fld.CH_STATUS_STATE_EFF 0 1).setF Fld.HP_STATUS_LANES_OK 0 15).modDie 0 fun x =>
      { x with slots := [sweptSlot], wit := some (wc 3 0 1)
               cache := [{ tree := 0, level := 0, index := 0, data := List.replicate 384 0, trusted := true }] }

/-- The sweep's read of such a leaf goes to the one hash, and the sweep waits (R143). -/
theorem test_sweepDone_shared :
    (match exec (.sweepDone 0 [shortRead]) sweepState with
      | .next t => (t.slot 0 0).map (fun x => decide (x.st = .hash))
      | _ => none) = some true := by decide

/-- A group fetch that brings one byte. -/
def shortFetch : GroupFetch := { first := [{ data := some [0] }] }

/-- A slot of which nothing was read. -/
def shortSlot : SlotInput := { header := [], colophon := none, groups := [], leaf0 := none, trialOk := true, noData := true }

/-- A block of which nothing was read. -/
def shortBlock : BootRead := { data := [], path := [] }

theorem test_wf_reads :
    wellFormed (.completionRead 0 0 shortRead) = false ∧ wellFormed (.completionRead 0 (2 ^ 20) lostRead) = false ∧
    wellFormed (.taintReread 0 0 shortRead) = false ∧ wellFormed (.sweep .pf 0 0 [shortRead]) = false ∧
    wellFormed (.sweepDone 0 [shortRead]) = false ∧ wellFormed (.preload .pf 0 0 [shortRead]) = false ∧
    wellFormed (.preloadPin .pf 0 0 [shortRead]) = false ∧ wellFormed (.twinCheck .pf 0 0 [shortRead] []) = false ∧
    wellFormed (.twinCheck .pf 0 0 [] [[shortFetch]]) = false ∧
    wellFormed (.completionRead 0 0 { lostRead with feeds := 4 }) = false ∧
    wellFormed (.completionRead 0 0 { lostRead with outputs := 4 }) = false ∧
    wellFormed (.completionRead 0 0 { lostRead with hash := { lane := 4 } }) = false ∧
    wellFormed (.completionRead 0 0 { lostRead with hash := { corrupt := some [] } }) = false ∧
    wellFormed (.completionRead 0 0 { lostRead with runs := [lostRun, lostRun] }) = false ∧
    wellFormed (.completionRead 0 0 { lostRead with runs := [{ lostRun with run := 32 }] }) = false ∧
    wellFormed (.completionRead 0 0 { lostRead with lines := [7] }) = false ∧
    wellFormed (.completionRead 0 0 lostRead) = true := by decide

theorem test_wf_witness :
    wellFormed (.loadDone 0 [{ data := some [] }] []) = false ∧ wellFormed (.groupFetchDone 0 0 0 0 shortFetch) = false ∧
    wellFormed (.groupFetchDone 0 0 7 0 {}) = false ∧
    wellFormed (.hashResult 0 0 (2 ^ 16) 0 0 none 0 0) = false ∧ wellFormed (.hashResult 0 0 0 0 0 (some []) 0 0) = false ∧
    wellFormed (.leafVerdict 0 0 (some []) 0 []) = false ∧ wellFormed (.leafVerdict 0 0 none 0 [7]) = false ∧
    wellFormed (.loadDone 0 [] []) = true := by decide

theorem test_wf_vault :
    wellFormed (.vaultRead 0 false false 0 (List.replicate 7 { data := none })) = false ∧
    wellFormed (.vaultDirectoryRead [{ data := some [] }] {} [] []) = false ∧
    wellFormed (.vaultDirectoryRead [] {} [] [{ die := 0, base := 2 ^ 20, count := 1, ch := 0, twin := false }]) = false ∧
    wellFormed (.vaultDirectoryRead [] {} [] []) = true := by decide

theorem test_wf_scrubStep :
    wellFormed (.scrubStep 0 0 shortRead [] [] [] {} 0) = false ∧
    wellFormed (.scrubStep 0 0 lostRead [shortFetch] [] [] {} 0) = false ∧
    wellFormed (.scrubStep 0 0 lostRead [] [{ data := some [] }] [] {} 0) = false ∧
    wellFormed (.scrubStep 0 0 lostRead [] [] [{ data := some [] }] {} 0) = false ∧
    wellFormed (.scrubStep 0 0 lostRead [] [] [] { lane := 4 } 0) = false ∧
    wellFormed (.scrubStep 0 0 lostRead [] [] [] {} 3) = true := by decide

theorem test_wf_careUnit :
    wellFormed (.careUnit 0 { flash := [shortRead], golden := [], twin := [], round1 := cr0, round2 := cr0 }) = false ∧
    wellFormed (.careUnit 0 { flash := [lostRead], golden := [], twin := [], round1 := cr0, round2 := cr0 }) = true := by decide

theorem test_wf_counts :
    wellFormed (.faultReport 0 65536) = false ∧ wellFormed (.fence 0 0 65536) = false ∧ wellFormed (.powerOnReset [16]) = false ∧
    wellFormed (.pcieLinkUp 5 1) = false ∧ wellFormed (.pcieLinkUp 4 3) = false ∧ wellFormed (.vfEnable 256 true) = false ∧
    wellFormed (.faultReport 0 65535) = true ∧ wellFormed (.pcieLinkUp 4 4) = true := by decide

theorem test_wf_boot :
    wellFormed (.xipFillDone 0 shortBlock shortBlock) = false ∧ wellFormed (.romBoot shortSlot shortSlot) = false ∧
    wellFormed (.bootBlockVerified 0 0 shortBlock shortBlock) = false ∧ wellFormed (.checkDone shortSlot []) = false ∧
    wellFormed (.folioOpen [[]] []) = false ∧ wellFormed (.folioOpen [] []) = true := by decide

theorem test_wf_host :
    wellFormed (.spdmChallenge 9 0 []) = false ∧ wellFormed (.spdmGetMeasurements 9 0 false []) = false ∧
    wellFormed (.commandStart 0 0 [] {} (List.replicate 16 0) {}) = false ∧
    wellFormed (.commandStart 0 0 (List.replicate 16 0) {} [] {}) = false ∧
    wellFormed (.mbWrite 0 (List.replicate 65 0) false) = false ∧ wellFormed (.mbWrite 0 [] false) = false ∧
    wellFormed (.mbMsgSend 1 (List.replicate 65 0) false) = false ∧ wellFormed (.mbRescueData 0 [] false) = false ∧
    wellFormed (.mbRescueData 0 [] true) = true ∧
    wellFormed (.mbWrite 0 [0] false) = true := by decide

theorem test_wf_parcel :
    wellFormed (.parcelReceive false
      { type := 0, flags := 0, src := 0, dst := 0, hops := 0, session := 0, seq := 2 ^ 24, lseq := 0, payload := [] } true) = false := by
  decide

/-! ## Single commands -/

/-- R16: a 16-bit write is discarded, a 32-bit write of STATE = 2 is taken. -/
theorem test_register_width :
    (after (.regWrite core0 0x100000 16 2) State.reset).rd .CH_CTRL 0 = 0 ∧
    (after (.regWrite core0 0x100000 32 2) State.reset).rd .CH_CTRL 0 = 2 := by decide

/-- R23: a die that cannot be reached reads as all ones, and its fault 0x5003 is reported once. -/
theorem test_unreachable_die_reads_ones :
    let s := State.reset.modDie 7 fun x => { x with reachable := false }
    (s.readAt core0 0x800000 false).1 = some 0xFFFFFFFF ∧
    ((s.readAt core0 0x800000 false).2.readAt core0 0x800000 false).2.rd .CF_FAULT 0 = 4 := by decide

/-- R84: before any epoch switch every opcode-table entry reads 0x6F. -/
theorem test_formes_at_reset :
    State.reset.rd .FM_ACT 0 = 0x6F6F6F6F ∧ State.reset.rd .FM_ACT 63 = 0x6F6F6F6F ∧ State.reset.rd .FM_ACT 65 = 0 := by decide

/-- R112: a write to a forme window reaches the staging bank and leaves the active one. -/
theorem test_staging_write :
    let t := after (.stagingWrite core0 (.opc 0 0 0) 0x01020304) State.reset
    t.rd .FM_STG 0 = 0x01020304 ∧ t.rd .FM_ACT 0 = 0x6F6F6F6F := by decide

/-- R80: SWAP without a twin is a refused configuration write, fault 0x1005, bit 4. -/
theorem test_swap_without_twin : (after (.swap core0 0 4) State.reset).rd .CH_FAULT 0 = 0x10 := by decide

/-- R165: WIT_CMD written while BUSY reports 0x3009 (bit 8 of WIT_FAULT) and the command runs on. -/
theorem test_load_while_busy :
    let t := after (.load core0 0 0) (State.reset.setF Fld.WIT_CMD_STATUS_BUSY 0 1)
    t.rd .WIT_FAULT 0 = 0x100 ∧ t.flag Fld.WIT_CMD_STATUS_BUSY 0 = true := by decide

/-- R150: a horizon that expires reports 0x3003 (bit 2 of WIT_FAULT) and leaves the consumption open. -/
theorem test_horizon :
    let c : Consumption :=
      { seq := 0, granule := 0, tree := 0, verdict := none, firstUs := 0, overdue := false, reread := false }
    let t := after (.horizonExpire 0 0) ((State.reset.setF Fld.WIT_HORIZON_HORIZON 0 0).modCh 0 fun x => { x with cons := [c] })
    bitOf (t.rd .WIT_FAULT 0).toNat 2 = true ∧ (t.ch 0).cons.length = 1 := by decide

/-- R206: the detecting die numbers its reports one by one. -/
theorem test_dseq :
    (((State.reset.report 3 0x1001 0).report 3 0x1002 0).die 3).inflight.map (fun r => r.dseq) = [0, 1] ∧
    (((State.reset.report 3 0x1001 0).report 3 0x1002 0).die 3).dseq = 2 := by decide

/-- R233: a PLL without lock at count 1,275 sends the sequence back to count 25 and sets PLL_RETRY. -/
theorem test_pll_retry :
    let t := after (.pllRetry [0]) { State.reset with seq := { Seq.reset with phase := .rel 25, part := true } }
    t.seq.phase = .rel 25 ∧ t.flag Fld.RC_CAUSE_PLL_RETRY 0 = true := by decide

/-- R253: a write to MP_QBASE while RUN = 1 is discarded and reports 0x6101 (bit 0 of MP_FAULT). -/
theorem test_queue_base_while_running :
    let t := after (.mpQueueConfigWrite core0 0 false 0x1000) (State.reset.setF Fld.MP_QCTL_RUN 0 1)
    t.rd .MP_QBASE 0 = 0 ∧ t.rd .MP_FAULT 0 = 1 := by decide

/-- The DIE field of FU_CMD (chapter 10): an absent die is refused with RESULT 0x9. -/
theorem test_fuse_absent_die :
    (after (.fuRead core0 0x70) { State.reset with variant := .spg3204 }).getF Fld.FU_STATUS_RESULT 0 = 9 := by decide

/-- R312: PROGRAM of a row that already has a bit FU_WDATA lacks is refused with RESULT 0x4. -/
theorem test_program_over_set_bits :
    let s := { State.reset with fuses := { Fuses.reset with rows := [(0, { nominal := 1, high := 1, low := 1 })] } }
    (after (.fuProgram core0 0) s).getF Fld.FU_STATUS_RESULT 0 = 4 := by decide

/-- R318: REVOKE of a value with bits [31:4] set is refused with RESULT 0x9. -/
theorem test_revoke_range : (after (.fuRevoke core0 0) (State.reset.wr .FU_WDATA 0 16)).getF Fld.FU_STATUS_RESULT 0 = 9 := by decide

/-- R343: a write of KU_CMD from outside die 0 is discarded and reports 0x7006 (bit 5 of KU_FAULT). -/
theorem test_key_unit_from_outside :
    bitOf ((after (.kuDeriveFw .pf []) State.reset).rd .KU_FAULT 0).toNat 5 = true := by decide

/-- R357: with no free completion entry the completion waits. -/
theorem test_full_completion_queue :
    let c : RingCmd := { cmdW [0] with begun := true, done := some (0, 0, 0) }
    let s := { State.reset with hif := { Hif.reset with enabled := [0], cache := [(0, { pairWith [c] with cqHead := 1 })] } }
    (after (.completionWrite 0 0 {}) s).outputs = [] ∧ (after (.completionWrite 0 0 {}) s).hif = s.hif := by decide

/-- R366: RESET_HIF with another key completes with INVALID_FIELD, status 0x02. -/
theorem test_reset_hif_key :
    let s := { State.reset with hif := { Hif.reset with enabled := [0], cache := [(0, pairWith [cmdW [4]])] } }
    let t := after (.resetHif 0 0 0) s
    t.hif.cache.map (fun p => p.2.started.map fun c => c.done.map fun r => r.2.2) = [[some 2]] ∧ t.seq.phase = .run := by decide

/-- R371: HI_FW_TAKE of an empty queue reads VALID = 0. -/
theorem test_empty_inbox : (after (.hiFwTakeRead core0) State.reset).outputs = [.readData 0] := by decide

/-- R394: a part that receives a BREAK sets BROKEN. -/
theorem test_break :
    let x : Parcel := { type := 4, flags := 0, src := 1, dst := 0, hops := 0, session := 0, seq := 0, lseq := 0, payload := [] }
    (after .rvBreak { State.reset with rv := { Rv.reset with inq := [(false, x)] } }).flag Fld.RV_STATUS_BROKEN 0 = true := by
  decide

/-- R11: OT counts seconds and stops at 2^40 - 1. -/
theorem test_ot :
    (after .otTick State.reset).ot = 1 ∧ (after .otTick { State.reset with ot := 2 ^ 40 - 1 }).ot = 2 ^ 40 - 1 := by decide

/-- R432: a counter that is not chained stops at 0xF_FFFF and sets its bit of OB_SAT. -/
theorem test_counter_saturates :
    let t := after (.obCntWrite core0 0 0 0xFFFFE 5) State.reset
    t.getF Fld.OB_CNT_COUNT 0 = 0xFFFFF ∧ t.rd .OB_SAT 0 = 1 := by decide

/-- R434: with its OB_CHAIN bit set, the even counter wraps and each wrap adds one to its neighbour. -/
theorem test_chained_counter :
    let t := ((State.reset.wr .OB_CHAIN 0 1).setF Fld.OB_CNT_COUNT 0 0xFFFFF).count 0 0 1
    t.getF Fld.OB_CNT_COUNT 0 = 0 ∧ t.getF Fld.OB_CNT_COUNT 1 = 1 := by decide

/-- R405: while PLAT is in reset an event is latched once for each source, whatever the number of firings. -/
theorem test_guard_latch :
    (after (.squall 0) (after (.squall 0) { State.reset with seq := { Seq.reset with platReset := true } })).guard.latched =
      [0] := by decide

/-- R199, Table 6.2: the flits that the table writes out: the data bytes A5 and C3, and a command byte 6C alone. -/
theorem test_flit_words : flitOf 3 0xA5 0xC3 = 0xFA5C3#20 ∧ flitOf 0 0x6C 0 = 0x06C00#20 := by decide

/-- R201: 200 bytes from offset 100 of a 128-byte span are runs of 28, 128 and 44 bytes. -/
theorem test_runs : runsOf 100 200 = [(100, 28), (128, 128), (256, 44)] := by decide

/-- R345: the endpoint has SR-IOV and has no PASID. -/
theorem test_pcie_items : PcieItem.sriov.present = true ∧ PcieItem.pasid.present = false := by decide

/-! ## The hypotheses of the statements can be met -/

/-- The nested hypotheses of OnlyDieZeroWrites can be met by each group of registers. -/
theorem witness_OnlyDieZeroWrites_groups :
    (∃ (a : Nat) (r : Reg), a % 4 = 0 ∧ a < 0x100000 ∧ decodeAddr a = some r ∧ r.name ∈ [RegName.FU_CMD, .FU_WDATA] ∧
      State.reset.PlatOpen .pf) ∧
    (∃ (a : Nat) (r : Reg), a % 4 = 0 ∧ a < 0x100000 ∧ decodeAddr a = some r ∧ r.name ∈ [RegName.KU_CMD, .KU_CTRL, .KU_ARG]) ∧
    (∃ (a : Nat) (r : Reg), a % 4 = 0 ∧ a < 0x100000 ∧ decodeAddr a = some r ∧
      r.name ∈ [RegName.GD_CTRL, .GD_SRC_CFG, .GD_CMD, .GD_ARG, .FO_BASE, .FO_SIZE, .FO_CTRL, .FO_CMD, .FO_ARG]) ∧
    (∃ (a : Nat) (r : Reg), a % 4 = 0 ∧ a < 0x100000 ∧ decodeAddr a = some r ∧
      r.name ∈ [RegName.RV_CTRL, .RV_CMD, .RV_TXBASE, .RV_TXPTR, .RV_RXBASE, .RV_RXPTR] ∧ State.reset.RlvOpen .pf) :=
  ⟨⟨28672, ⟨.FU_CMD, 0⟩, by decide⟩, ⟨32780, ⟨.KU_CMD, 0⟩, by decide⟩, ⟨49152, ⟨.GD_CTRL, 0⟩, by decide⟩,
    ⟨45056, ⟨.RV_CTRL, 0⟩, by decide⟩⟩

/-- The hypotheses nested in GuardSources, Lockdown and FuseReads can be met. -/
theorem witness_nested :
    (∃ k : SourceId, k.val < 72 ∧ k.val % 2 = 0) ∧ (∃ k : SourceId, k.val < 72 ∧ k.val % 2 = 1) ∧
    (∃ s : State, s.PlatOpen core0 ∧ s.identity = false) ∧
    (∃ s : State, s.PlatOpen core0 ∧ s.identity = true ∧ s.flag Fld.GD_STATUS_LOCKED 0 = false) :=
  ⟨⟨70, by decide⟩, ⟨71, by decide⟩, ⟨State.reset, by decide⟩,
    ⟨{ State.reset.setF Fld.GD_STATUS_LOCKED 0 0 with keys := { Keys.reset with holds0 := true } }, by decide⟩⟩

/-- The hypotheses of StepRunsTheFrontCommand can be met, clause by clause. -/
theorem witness_StepRunsTheFrontCommand :
    ∃ (s : State),
        s.pending = [] :=
  ⟨State.reset, by decide⟩

/-- The hypotheses of RegisterWrites can be met, clause by clause. -/
theorem witness_RegisterWrites :
    (∃ (req : Requester) (a : Nat) (w : Nat) (v : Word) (s : State),
        (w ≠ 32 ∨ a % 4 ≠ 0)) ∧
    (∃ (req : Requester) (a : Nat) (d : Nat) (v : Word) (r : Reg) (s : State),
        a % 4 = 0 ∧ windowDie a = some d ∧ decodeAddr a = some r ∧
        r.name ∈ [RegName.CH_FAULT, .FM_FAULT, .WIT_FAULT, .MC_FAULT, .CF_FAULT, .IF_FAULT] ∧ s.DieOpen req d) ∧
    (∃ (req : Requester) (a : Nat) (v : Word) (r : Reg) (s : State),
        a % 4 = 0 ∧ a < 0x100000 ∧ decodeAddr a = some r ∧
        r.name ∈ [RegName.KU_FAULT, .FU_FAULT, .HI_FAULT, .MB_FAULT, .GD_FAULT] ∧ s.PlatOpen req ∧ r.name.dom = .plat) ∧
    (∃ (req : Requester) (a : Nat) (d : Nat) (k : Nat) (v : Word) (r : Reg) (s : State),
        a % 4 = 0 ∧ windowDie a = some d ∧ decodeAddr a = some r ∧ r.name.dom = .die k ∧ s.reqOk req = true ∧
        s.present d = true ∧ (s.die d).inReset = true) ∧
    (∃ (req : Requester) (a : Nat) (d : Nat) (k : Nat) (v : Word) (r : Reg) (s : State),
        a % 4 = 0 ∧ windowDie a = some d ∧ decodeAddr a = some r ∧ r.name.dom = .die k ∧ s.reqOk req = true ∧
        s.present d = true ∧ (s.die d).inReset = false ∧ s.reaches req d = false) ∧
    (∃ (req : Requester) (v : Word) (s : State),
        s.PlatOpen req) :=
  ⟨⟨.sentry 0 0, 0, 16, 0, State.reset, by decide⟩,
    ⟨.sentry 0 0, 0x100024, 0, 0, ⟨.CH_FAULT, 0⟩, State.reset, by decide, by decide, by decide, by decide, by decide⟩,
    ⟨.sentry 0 0, 0x8008, 0, ⟨.KU_FAULT, 0⟩, State.reset, by decide, by decide, by decide, by decide, by decide,
     by decide⟩,
    ⟨.mailbox, 0x100024, 0, 8, 0, ⟨.CH_FAULT, 0⟩, (State.reset.modDie 0 fun x => { x with inReset := true }),
     by decide, by decide, by decide, by decide, by decide, by decide, by decide⟩,
    ⟨.sentry 0 0, 0x807024, 7, 8, 0, ⟨.CH_FAULT, 63⟩, (State.reset.modDie 7 fun x => { x with reachable := false }),
     by decide, by decide, by decide, by decide, by decide, by decide, by decide, by decide⟩,
    ⟨.sentry 0 0, 0, State.reset, by decide⟩⟩

/-- The hypotheses of AbsentDiesAreSilent can be met, clause by clause. -/
theorem witness_AbsentDiesAreSilent :
    (∃ (req : Requester) (a : Nat) (d : Nat) (b : Bool) (s : State),
        windowDie a = some d ∧ s.present d = false ∧ s.reqOk req = true) ∧
    (∃ (req : Requester) (a : Nat) (d : Nat) (w : Nat) (v : Word) (s : State),
        windowDie a = some d ∧ s.present d = false) ∧
    (∃ (req : Requester) (a : Nat) (b : Bool) (s : State),
        0x900000 ≤ a ∧ a < 0x1000000 ∧ s.reqFar req = true) ∧
    (∃ (req : Requester) (a : Nat) (w : Nat) (v : Word) (s : State),
        0x900000 ≤ a ∧ a < 0x1000000) :=
  ⟨⟨.sentry 0 0, 0x800000, 7, false, { State.reset with variant := .spg3204 }, by decide, by decide, by decide⟩,
    ⟨.sentry 0 0, 0x800000, 7, 0, 0, { State.reset with variant := .spg3204 }, by decide, by decide⟩,
    ⟨.sentry 0 0, 0x900000, false, State.reset, by decide, by decide, by decide⟩,
    ⟨.sentry 0 0, 0xFFFFFC, 0, 0, State.reset, by decide, by decide⟩⟩

/-- The hypotheses of OnlyDieZeroWrites can be met, clause by clause. -/
theorem witness_OnlyDieZeroWrites :
    ∃ (req : Requester) (a : Nat) (v : Word) (r : Reg) (s : State),
        fromDie0 req = false ∧ a % 4 = 0 ∧ a < 0x100000 ∧ decodeAddr a = some r :=
  ⟨.sentry 1 0, 28672, 0, ⟨.FU_CMD, 0⟩, State.reset, by decide, by decide, by decide, by decide⟩

/-- The hypotheses of ChannelResetAndSwap can be met, clause by clause. -/
theorem witness_ChannelResetAndSwap :
    (∃ (ch : ChanId) (s : State),
        s.chLive ch.val = true ∧ (s.ch ch.val).hrst = false ∧ s.getF Fld.CH_STATUS_STATE_EFF ch.val ≠ 0 ∧
        (s.flag Fld.CH_RESET_PASS ch.val = false ∨ s.getF Fld.CH_STATUS_STATE_EFF ch.val = 1)) ∧
    (∃ (ch : ChanId) (s : State),
        s.chLive ch.val = true ∧ (s.ch ch.val).hrst = false ∧ s.getF Fld.CH_STATUS_STATE_EFF ch.val = 2 ∧
        s.flag Fld.CH_RESET_PASS ch.val = true ∧ (s.ch ch.val).frame = none) ∧
    (∃ (ch : ChanId) (s : State),
        s.chLive ch.val = true ∧ (s.ch ch.val).hrst = true ∧ s.getF Fld.CH_STATUS_STATE_EFF ch.val ≠ 0) ∧
    (∃ (ch : ChanId) (s : State),
        s.chLive ch.val = true ∧ s.flag Fld.CH_RESET_DEFERRED ch.val = true ∧
        s.flag Fld.CH_STATUS_BUSY_SHIELD ch.val = false) ∧
    (∃ (ch : ChanId) (s : State),
        s.chLive ch.val = true ∧ (s.ch ch.val).frstDefer = true ∧
        max 1 (s.getF Fld.CH_RESET_MIN_US ch.val) ≤ s.usSince (s.ch ch.val).frstUs) ∧
    (∃ (req : Requester) (ch : ChanId) (v : Word) (s : State),
        s.DieOpen req (ch.val / 8) ∧ bitOf v.toNat 1 = true ∧ s.flag Fld.CH_RESET_ASSERT ch.val = false ∧
        s.idleCh ch.val = true) ∧
    (∃ (req : Requester) (ch : ChanId) (v : Word) (s : State),
        s.DieOpen req (ch.val / 8) ∧ bitOf v.toNat 1 = true ∧ s.flag Fld.CH_RESET_ASSERT ch.val = false ∧
        s.idleCh ch.val = false) ∧
    (∃ (req : Requester) (ch : ChanId) (v : Word) (s : State),
        s.DieOpen req (ch.val / 8) ∧ bitOf v.toNat 1 = false) ∧
    (∃ (req : Requester) (ch : ChanId) (v : Word) (s : State),
        s.DieOpen req (ch.val / 8) ∧ bitOf v.toNat 2 = true ∧ s.flag Fld.CH_TWIN_PRESENT ch.val = true ∧
        bitOf v.toNat 0 = true) ∧
    (∃ (req : Requester) (ch : ChanId) (v : Word) (s : State),
        s.DieOpen req (ch.val / 8) ∧ bitOf v.toNat 2 = true ∧ s.flag Fld.CH_TWIN_PRESENT ch.val = false ∧
        bitOf v.toNat 0 = false) ∧
    (∃ (ch : ChanId) (s : State),
        s.chLive ch.val = true ∧ s.flag Fld.CH_TWIN_PENDING ch.val = true ∧ s.idleCh ch.val = true) ∧
    (∃ (ch : ChanId) (s : State),
        s.flag Fld.CH_TWIN_PENDING ch.val = true ∧ s.idleCh ch.val = false) :=
  ⟨⟨0, ((State.reset.setF Fld.CH_STATUS_STATE_EFF 0 1).setF Fld.CH_RESET_PASS 0 0), by decide, by decide, by decide,
     by decide⟩,
    ⟨63, ((State.reset.setF Fld.CH_STATUS_STATE_EFF 63 2).setF Fld.CH_RESET_PASS 63 1), by decide, by decide,
     by decide, by decide, by decide⟩,
    ⟨0, ((State.reset.setF Fld.CH_STATUS_STATE_EFF 0 1).modCh 0 fun c => { c with hrst := true }), by decide,
     by decide, by decide⟩,
    ⟨0, (State.reset.setF Fld.CH_RESET_DEFERRED 0 1), by decide, by decide, by decide⟩,
    ⟨0, (State.reset.modCh 0 fun c => { c with frstDefer := true, frstUs := 1 }), by decide, by decide, by decide⟩,
    ⟨.sentry 0 0, 0, 2, State.reset, by decide, by decide, by decide, by decide⟩,
    ⟨.sentry 0 0, 0, 2, (State.reset.setF Fld.CH_STATUS_OWN_OPEN 0 1), by decide, by decide, by decide, by decide⟩,
    ⟨.sentry 0 0, 0, 5, State.reset, by decide, by decide⟩,
    ⟨.sentry 0 0, 0, 5, (State.reset.setF Fld.CH_TWIN_PRESENT 0 1), by decide, by decide, by decide, by decide⟩,
    ⟨.sentry 0 0, 0, 4, State.reset, by decide, by decide, by decide, by decide⟩,
    ⟨0, (State.reset.setF Fld.CH_TWIN_PENDING 0 1), by decide, by decide, by decide⟩,
    ⟨0, ((State.reset.setF Fld.CH_TWIN_PENDING 0 1).setF Fld.CH_STATUS_FRAME_OPEN 0 1), by decide, by decide⟩⟩

/-- The hypotheses of ChannelRegisters can be met, clause by clause. -/
theorem witness_ChannelRegisters :
    (∃ (req : Requester) (ch : ChanId) (v : Word) (s : State),
        s.DieOpen req (ch.val / 8) ∧ bitsOf v.toNat 0 2 ≠ 3 ∧ s.active ch.val = false ∧ s.quoined ch.val = false) ∧
    (∃ (req : Requester) (ch : ChanId) (v : Word) (s : State),
        s.DieOpen req (ch.val / 8) ∧ bitsOf v.toNat 0 2 = 3 ∧ s.active ch.val = true ∧
        bitOf v.toNat 2 = s.flag Fld.CH_CTRL_MODE ch.val ∧ bitOf v.toNat 3 = s.flag Fld.CH_CTRL_SCK_MODE ch.val) ∧
    (∃ (ch : ChanId) (s : State),
        s.chLive ch.val = true ∧ s.idleCh ch.val = true ∧ s.getF Fld.CH_CTRL_STATE ch.val = 1 ∧
        s.getF Fld.CH_STATUS_STATE_EFF ch.val = 0) ∧
    (∃ (ch : ChanId) (s : State),
        s.idleCh ch.val = false) ∧
    (∃ (req : Requester) (ch : ChanId) (v : Word) (s : State),
        s.DieOpen req (ch.val / 8) ∧ s.quoined ch.val = false) ∧
    (∃ (req : Requester) (ch : ChanId) (k : Fin 192) (v : Word) (s : State),
        s.DieOpen req (ch.val / 8)) ∧
    (∃ (req : Requester) (ch : ChanId) (v : Word) (s : State),
        s.DieOpen req (ch.val / 8) ∧ s.active ch.val = false ∧ s.quoined ch.val = false ∧
        s.flag Fld.SHAPE_INDEX_AUTOINC ch.val = false) ∧
    (∃ (req : Requester) (ch : ChanId) (v : Word) (s : State),
        s.DieOpen req (ch.val / 8) ∧ s.active ch.val = false ∧ s.quoined ch.val = false ∧
        s.flag Fld.SHAPE_INDEX_AUTOINC ch.val = true) ∧
    (∃ (req : Requester) (ch : ChanId) (s : State),
        s.DieOpen req (ch.val / 8) ∧ s.flag Fld.SHAPE_INDEX_AUTOINC ch.val = false) ∧
    (∃ (req : Requester) (ch : ChanId) (s : State),
        s.DieOpen req (ch.val / 8)) :=
  ⟨⟨.sentry 0 0, 0, 2, State.reset, by decide, by decide, by decide, by decide⟩,
    ⟨.sentry 0 0, 0, 3, (State.reset.setF Fld.CH_STATUS_STATE_EFF 0 2), by decide, by decide, by decide, by decide,
     by decide⟩,
    ⟨0, (State.reset.setF Fld.CH_CTRL_STATE 0 1), by decide, by decide, by decide, by decide⟩,
    ⟨0, (State.reset.setF Fld.CH_STATUS_FRAME_OPEN 0 1), by decide⟩,
    ⟨.sentry 0 0, 0, 0, State.reset, by decide, by decide⟩,
    ⟨.sentry 0 0, 0, 191, 0, State.reset, by decide⟩,
    ⟨.sentry 0 0, 0, 0, State.reset, by decide, by decide, by decide, by decide⟩,
    ⟨.sentry 0 0, 0, 0, (State.reset.setF Fld.SHAPE_INDEX_AUTOINC 0 1), by decide, by decide, by decide, by decide⟩,
    ⟨.sentry 0 0, 0, State.reset, by decide, by decide⟩,
    ⟨.sentry 0 0, 63, State.reset, by decide⟩⟩

/-- The hypotheses of HostFrames can be met, clause by clause. -/
theorem witness_HostFrames :
    (∃ (ch : ChanId) (f : HostFrame) (s : State),
        s.reached (ch.val / 8) = true ∧ s.getF Fld.CH_STATUS_STATE_EFF ch.val ≠ 0 ∧ (s.ch ch.val).frame = none ∧
        f.csShort = false ∧ f.closed = false) ∧
    (∃ (ch : ChanId) (f : HostFrame) (s : State),
        s.reached (ch.val / 8) = true ∧ s.getF Fld.CH_STATUS_STATE_EFF ch.val = 1 ∧ (s.ch ch.val).frame = none ∧
        (s.ch ch.val).own = none ∧ (s.ch ch.val).assertPend = false ∧ f.csShort = false ∧ f.closed = true) ∧
    (∃ (ch : ChanId) (f : HostFrame) (s : State),
        s.getF Fld.CH_STATUS_STATE_EFF ch.val = 0 ∧ (s.ch ch.val).assertPend = false) ∧
    (∃ (ch : ChanId) (o : OpenFrame) (s : State) (u : State),
        s.chLive ch.val = true ∧ (s.ch ch.val).frame = some o ∧ o.ended = none ∧
        s.frameLimit ch.val ≤ s.usSince o.since ∧
        u = ((s.endFrame ch.val).setFlag Fld.CH_STATUS_STUCK ch.val true).report (ch.val / 8) 0x1001 (ch.val % 8)) :=
  ⟨⟨0, fr0, (State.reset.setF Fld.CH_STATUS_STATE_EFF 0 1), by decide, by decide, by decide, by decide, by decide⟩,
    ⟨0, { fr0 with closed := true }, (State.reset.setF Fld.CH_STATUS_STATE_EFF 0 1), by decide, by decide, by decide,
     by decide, by decide, by decide, by decide⟩,
    ⟨0, fr0, State.reset, by decide, by decide⟩,
    ⟨0, { frame := fr0, st := 1, retimed := false, epoch := 0, shielded := false, ended := none, since := 1 },
     (State.reset.modCh 0 fun c => { c with frame := some { frame := fr0, st := 1, retimed := false, epoch := 0, shielded := false, ended := none, since := 1 } }),
     _, by decide, by decide, by decide, by decide, rfl⟩⟩

/-- The hypotheses of OwnFramesAndShadow can be met, clause by clause. -/
theorem witness_OwnFramesAndShadow :
    (∃ (ch : ChanId) (s : State),
        s.chLive ch.val = true ∧ s.getF Fld.SS_CTRL_PHASE ch.val = 1 ∧
        (s.ch ch.val).shadowFor ≤ s.usSince (s.ch ch.val).shadowUs) ∧
    (∃ (ch : ChanId) (b : Byte) (s : State),
        s.reached (ch.val / 8) = true ∧ s.flag Fld.CH_STATUS_BUSY_SHIELD ch.val = true ∧
        s.flag Fld.CH_STATUS_FRAME_OPEN ch.val = false ∧ (s.ch ch.val).own = none ∧
        s.selRefused ch.val (s.flag Fld.CH_TWIN_SEL ch.val) = false ∧ s.ownUnknown ch.val (s.pollOf ch.val).op = false) ∧
    (∃ (ch : ChanId) (g : Nat) (r : OwnRead) (x : Slot) (s : State),
        s.slot ch.val g = some x ∧ s.completes ch.val x = true ∧ s.ownAllowed ch.val = true ∧
        s.ownUnknown ch.val (s.ownReadOp ch.val) = false ∧ x.missing ≠ [] ∧ r.still = false ∧ r.runs = []) ∧
    (∃ (ch : ChanId) (g : Nat) (r : OwnRead) (x : Slot) (s : State),
        s.slot ch.val g = some x ∧ s.completes ch.val x = true ∧ s.ownAllowed ch.val = true ∧
        s.ownUnknown ch.val (s.ownReadOp ch.val) = false ∧ x.missing ≠ [] ∧ r.still = false ∧ r.failed = true) :=
  ⟨⟨0, (State.reset.setF Fld.SS_CTRL_PHASE 0 1), by decide, by decide, by decide⟩,
    ⟨0, 0,
     ((((State.reset.wr .SHAPE_ENTRY 3 1).setF Fld.CH_STATUS_BUSY_SHIELD 0 1).setF Fld.CR_OPS_STAT_OP 0 3).setF Fld.CH_STATUS_STATE_EFF 0 1),
     by decide, by decide, by decide, by decide, by decide, by decide⟩,
    ⟨0, 0, shortRead,
     { ch := 0, granule := 0, tree := 0, leaf := 0, st := .fetch, pinned := false, entry := true, host := [], own := [], seq := none, sweep := none },
     (((State.reset.wr .SHAPE_ENTRY 3 1).setF Fld.CH_STATUS_STATE_EFF 0 1).modDie 0 fun x => { x with slots := [{ ch := 0, granule := 0, tree := 0, leaf := 0, st := .fetch, pinned := false, entry := true, host := [], own := [], seq := none, sweep := none }] }),
     by decide, by decide, by decide, by decide, by decide, by decide, by decide⟩,
    ⟨0, 0, lostRead,
     { ch := 0, granule := 0, tree := 0, leaf := 0, st := .fetch, pinned := false, entry := true, host := [], own := [], seq := none, sweep := none },
     (((State.reset.wr .SHAPE_ENTRY 3 1).setF Fld.CH_STATUS_STATE_EFF 0 1).modDie 0 fun x => { x with slots := [{ ch := 0, granule := 0, tree := 0, leaf := 0, st := .fetch, pinned := false, entry := true, host := [], own := [], seq := none, sweep := none }] }),
     by decide, by decide, by decide, by decide, by decide, by decide, by decide⟩⟩

/-- The hypotheses of StagingWrites can be met, clause by clause. -/
theorem witness_StagingWrites :
    (∃ (req : Requester) (d : DieId) (f : Fin 32) (k : Fin 64) (v : Word) (s : State),
        s.DieOpen req d.val ∧ s.stageShut d.val = false ∧ s.quoinAsked d.val f.val = false) ∧
    (∃ (req : Requester) (d : DieId) (f : Fin 32) (k : Fin 64) (w : Fin 4) (v : Word) (s : State),
        s.DieOpen req d.val ∧ s.stageShut d.val = false ∧ s.quoinAsked d.val f.val = false) ∧
    (∃ (req : Requester) (d : DieId) (f : Fin 32) (k : Fin 64) (v : Word) (s : State),
        s.DieOpen req d.val ∧ (s.stageShut d.val = true ∨ s.quoinAsked d.val f.val = true)) ∧
    (∃ (req : Requester) (ch : ChanId) (v : Word) (s : State),
        s.DieOpen req (ch.val / 8) ∧ s.stageShut (ch.val / 8) = false ∧
        s.quoinAsked (ch.val / 8) (bindForme (s.rd .BIND_STG (2 * ch.val)).toNat) = false) :=
  ⟨⟨.sentry 0 0, 7, 31, 63, 0, State.reset, by decide, by decide, by decide⟩,
    ⟨.sentry 0 0, 0, 0, 0, 3, 0, State.reset, by decide, by decide, by decide⟩,
    ⟨.sentry 0 0, 0, 0, 0, 0, (State.reset.setF Fld.FM_STATUS_STAGE_LOCK 0 1), by decide, by decide⟩,
    ⟨.sentry 0 0, 0, 0, State.reset, by decide, by decide, by decide⟩⟩

/-- The hypotheses of EpochSwitch can be met, clause by clause. -/
theorem witness_EpochSwitch :
    (∃ (req : Requester) (v : Word) (s : State),
        s.PlatOpen req ∧ s.epoch.phase = .idle) ∧
    (∃ (req : Requester) (v : Word) (s : State),
        s.PlatOpen req ∧ s.epoch.phase ≠ .idle) ∧
    (∃ (e : Nat) (s : State),
        s.platLive = true ∧ s.epoch.phase = .checking e ∧ s.epochChecks e = none ∧ e < 2 ^ 16) ∧
    (∃ (e : Nat) (r : EpochRefusal) (s : State),
        s.platLive = true ∧ s.epoch.phase = .checking e ∧ s.epochChecks e = some r) ∧
    (∃ (ch : ChanId) (e : Nat) (s : State),
        s.chLive ch.val = true ∧ s.epochOn (ch.val / 8) = true ∧ s.epoch.phase = .switching e ∧
        s.epochBoundary ch.val = true ∧ (s.ch ch.val).took = false ∧ ch.val < 32 ∧
        (s.die (ch.val / 8)).care.running = none) ∧
    (∃ (e : Nat) (c : Nat) (l : List Nat) (s : State),
        s.platLive = true ∧ s.epoch.phase = .switching e ∧ s.behind = c :: l ∧ s.epoch.overran = false ∧
        s.epoch.deadline ≤ s.usSince s.epoch.since ∧ s.flag Fld.EPOCH_CTRL_OVERRUN 0 = false) ∧
    (∃ (e : Nat) (s : State),
        s.platLive = true ∧ s.epoch.phase = .switching e ∧ s.epochReady = true ∧ e < 2 ^ 16) ∧
    (∃ (e : Nat) (s : State),
        s.platLive = true ∧ s.epoch.phase = .switching e ∧ s.epochReady = false) ∧
    (∃ (d : DieId) (s : State),
        s.live d.val = true) ∧
    (∃ (req : Requester) (d : DieId) (v : Word) (s : State),
        s.DieOpen req d.val) ∧
    (∃ (req : Requester) (d : DieId) (s : State),
        s.DieOpen req d.val) :=
  ⟨⟨.sentry 0 0, 0, State.reset, by decide, by decide⟩,
    ⟨.sentry 0 0, 0, { State.reset with epoch := { Epoch.reset with phase := .switching 1 } }, by decide, by decide⟩,
    ⟨1, { State.reset with epoch := { Epoch.reset with phase := .checking 1 }, dies := deadDies }, by decide,
     by decide, by decide, by decide⟩,
    ⟨5, { code := 1, die := 0, forme := 0, item := 0, opcode := 0 },
     { State.reset with epoch := { Epoch.reset with phase := .checking 5 } }, by decide, by decide, by decide⟩,
    ⟨31, 1, { State.reset with epoch := { Epoch.reset with phase := .switching 1 } }, by decide, by decide, by decide,
     by decide, by decide, by decide, by decide⟩,
    ⟨1, 0,
     (State.behind { State.reset with epoch := { Epoch.reset with phase := .switching 1 }, regs := [(⟨.EPOCH_MAP_LO, 0⟩, 0), (⟨.EPOCH_MAP_HI, 0⟩, 0)] }).tail,
     { State.reset with epoch := { Epoch.reset with phase := .switching 1 }, regs := [(⟨.EPOCH_MAP_LO, 0⟩, 0), (⟨.EPOCH_MAP_HI, 0⟩, 0)] },
     by decide, by decide, by decide, by decide, by decide, by decide⟩,
    ⟨65535, { State.reset with epoch := { Epoch.reset with phase := .switching 65535 } }, by decide, by decide,
     by decide, by decide⟩,
    ⟨1, { State.reset with epoch := { Epoch.reset with phase := .switching 1 }, regs := [(⟨.EPOCH_MAP_LO, 0⟩, 0)] },
     by decide, by decide, by decide⟩,
    ⟨0, State.reset, by decide⟩,
    ⟨.sentry 0 0, 0, 0, State.reset, by decide⟩,
    ⟨.sentry 0 0, 0, State.reset, by decide⟩⟩

/-- The hypotheses of EpochActivates can be met, clause by clause. -/
theorem witness_EpochActivates :
    ∃ (e : Nat) (d : Nat) (s : State),
        s.platLive = true ∧ s.epoch.phase = .switching e ∧ s.epochReady = true ∧ s.epochOn d = true ∧
        RegFile.wf s.variant s.regs = true :=
  ⟨1, 7, { State.reset with epoch := { Epoch.reset with phase := .switching 1 } }, by decide, by decide, by decide,
    by decide, by decide⟩

/-- The hypotheses of WitnessCommands can be met, clause by clause. -/
theorem witness_WitnessCommands :
    (∃ (req : Requester) (d : DieId) (t : TreeId) (s : State),
        s.DieOpen req d.val ∧ s.flag Fld.WIT_CMD_STATUS_BUSY d.val = true) ∧
    (∃ (req : Requester) (d : DieId) (t : TreeId) (s : State),
        s.DieOpen req d.val ∧ s.flag Fld.WIT_CMD_STATUS_BUSY d.val = false ∧ s.treeLocked d.val t.val = false ∧
        s.treeBusy d.val t.val = false ∧
        (s.getF Fld.TD_STATE_STATE (d.val * 256 + t.val) = 0 ∨ s.getF Fld.TD_STATE_STATE (d.val * 256 + t.val) = 3) ∧
        s.pinnedNow d.val + pinnedLines (s.getF Fld.TD_LEAVES_LEAF_COUNT (d.val * 256 + t.val)) (s.getF Fld.TD_CFG_PIN_LEVELS (d.val * 256 + t.val)) ≤ 1024) ∧
    (∃ (req : Requester) (d : DieId) (t : TreeId) (s : State),
        s.DieOpen req d.val ∧ s.flag Fld.WIT_CMD_STATUS_BUSY d.val = false ∧ s.treeLocked d.val t.val = false ∧
        s.treeBusy d.val t.val = false) ∧
    (∃ (req : Requester) (d : DieId) (t : TreeId) (s : State),
        s.DieOpen req d.val ∧ s.flag Fld.WIT_CMD_STATUS_BUSY d.val = false ∧ s.treeLocked d.val t.val = true) ∧
    (∃ (req : Requester) (d : DieId) (t : TreeId) (reads : List OwnRead) (s : State),
        s.DieOpen req d.val ∧ s.flag Fld.WIT_CMD_STATUS_BUSY d.val = false ∧
        s.getF Fld.TD_STATE_STATE (d.val * 256 + t.val) = 2 ∧ s.getF Fld.WIT_ARG1_COUNT d.val ≠ 0 ∧
        s.getF Fld.WIT_ARG0_FIRST d.val + s.getF Fld.WIT_ARG1_COUNT d.val ≤ s.getF Fld.TD_LEAVES_LEAF_COUNT (d.val * 256 + t.val) ∧
        s.ownUnknown (s.treeCh (d.val * 256 + t.val)) (s.ownReadOp (s.treeCh (d.val * 256 + t.val))) = false) ∧
    (∃ (d : DieId) (w : WitCmd) (s : State),
        s.live d.val = true ∧ (s.die d.val).wit = some w ∧ w.op = 3 ∧ w.stop ≤ w.next) ∧
    (∃ (d : DieId) (w : WitCmd) (s : State),
        s.live d.val = true ∧ (s.die d.val).wit = some w ∧ w.op ≠ 1 ∧ w.next < w.stop) ∧
    (∃ (d : DieId) (w : WitCmd) (n : Nat) (g : Nat) (r : OwnRead) (x : Slot) (s : State),
        s.live d.val = true ∧ (s.die d.val).wit = some w ∧ w.op ≠ 1 ∧ w.next < w.stop ∧
        n = s.treeCh (d.val * 256 + w.tree) ∧ g = s.getF Fld.TD_BASE_BASE (d.val * 256 + w.tree) + w.next ∧
        s.ownAllowed n = true ∧ s.leafTrusted d.val w.tree w.next = true ∧ s.canHash d.val = true ∧
        s.ownUnknown n (s.ownReadOp n) = false ∧ s.slot n g = some x ∧ x.st = .capture ∧ x.sweep.isSome = true ∧
        r.still = false ∧ r.runs = []) :=
  ⟨⟨.sentry 0 0, 0, 0, (State.reset.setF Fld.WIT_CMD_STATUS_BUSY 0 1), by decide, by decide⟩,
    ⟨.sentry 0 0, 0, 255, (State.reset.setF Fld.TD_STATE_STATE 255 3), by decide, by decide, by decide, by decide,
     by decide, by decide⟩,
    ⟨.sentry 0 0, 0, 0, State.reset, by decide, by decide, by decide, by decide⟩,
    ⟨.sentry 0 0, 0, 0, lockedState, by decide, by decide, by decide⟩,
    ⟨.sentry 0 0, 0, 0, [],
     ((((State.reset.wr .SHAPE_ENTRY 3 1).setF Fld.TD_STATE_STATE 0 2).setF Fld.WIT_ARG1_COUNT 0 1).setF Fld.TD_LEAVES_LEAF_COUNT 0 1),
     by decide, by decide, by decide, by decide, by decide, by decide⟩,
    ⟨0, wc 3 1 1, (State.reset.modDie 0 fun x => { x with wit := some (wc 3 1 1) }), by decide, by decide, by decide,
     by decide⟩,
    ⟨0, wc 3 0 1, (State.reset.modDie 0 fun x => { x with wit := some (wc 3 0 1) }), by decide, by decide, by decide,
     by decide⟩,
    ⟨0, wc 3 0 1, 0, 0, shortRead, sweptSlot, sweepState, by decide, by decide, by decide, by decide, by decide,
     by decide, by decide, by decide, by decide, by decide, by decide, by decide, by decide, by decide, by decide⟩⟩

/-- The hypotheses of TreeDescriptorsAndGroups can be met, clause by clause. -/
theorem witness_TreeDescriptorsAndGroups :
    (∃ (req : Requester) (d : DieId) (t : TreeId) (r : TdReg) (v : Word) (s : State),
        s.DieOpen req d.val ∧ s.treeLocked d.val t.val = false ∧
        (s.getF Fld.TD_STATE_STATE (d.val * 256 + t.val) = 0 ∨ s.getF Fld.TD_STATE_STATE (d.val * 256 + t.val) = 3)) ∧
    (∃ (req : Requester) (d : DieId) (t : TreeId) (r : TdReg) (v : Word) (s : State),
        s.DieOpen req d.val ∧ s.treeLocked d.val t.val = true) ∧
    (∃ (d : DieId) (t : TreeId) (l : Nat) (k : Nat) (i : Nat) (raw : List Byte) (second : VaultGet) (mirror : VaultGet) (v : Digest) (s : State),
        i = d.val * 256 + t.val ∧ s.live d.val = true ∧ s.getF Fld.TD_STATE_STATE i = 2 ∧ s.canHash d.val = true ∧
        s.groupNeeded d.val t.val l k = true ∧ s.trusted d.val t.val l k = none ∧ s.vouches d.val t.val l k = some v ∧
        (2 ≤ s.treeDev i → s.reached 1 = true) ∧
        hashOf (nodeMessage (s.rd .TD_REGION i).toNat (l + 1) k (groupBytes (s.getF Fld.TD_LEAVES_LEAF_COUNT i) l k raw)) = v) ∧
    (∃ (d : DieId) (t : TreeId) (l : Nat) (k : Nat) (i : Nat) (raw : List Byte) (raw2 : List Byte) (v : Digest) (s : State),
        i = d.val * 256 + t.val ∧ s.live d.val = true ∧ s.getF Fld.TD_STATE_STATE i = 2 ∧ s.canHash d.val = true ∧
        s.groupNeeded d.val t.val l k = true ∧ s.trusted d.val t.val l k = none ∧ s.vouches d.val t.val l k = some v ∧
        (2 ≤ s.treeDev i → s.reached 1 = true) ∧ s.treeMirror i = false ∧
        hashOf (nodeMessage (s.rd .TD_REGION i).toNat (l + 1) k (groupBytes (s.getF Fld.TD_LEAVES_LEAF_COUNT i) l k raw)) ≠ v ∧
        hashOf (nodeMessage (s.rd .TD_REGION i).toNat (l + 1) k (groupBytes (s.getF Fld.TD_LEAVES_LEAF_COUNT i) l k raw2)) ≠ v) ∧
    (∃ (d : DieId) (t : TreeId) (l : Nat) (k : Nat) (second : VaultGet) (mirror : VaultGet) (s : State),
        s.live d.val = true ∧ s.getF Fld.TD_STATE_STATE (d.val * 256 + t.val) = 2 ∧ s.canHash d.val = true ∧
        s.groupNeeded d.val t.val l k = true ∧ (s.vouches d.val t.val l k).isSome = true) :=
  ⟨⟨.sentry 0 0, 0, 0, .cfg, 0, State.reset, by decide, by decide, by decide⟩,
    ⟨.sentry 0 0, 0, 0, .floor, 0, lockedState, by decide, by decide⟩,
    ⟨0, 0, 0, 0, 0, [], [], [], _,
     (((((State.reset.setF Fld.TD_STATE_STATE 0 2).setF Fld.TD_STATE_DEPTH 0 2).setF Fld.TD_LEAVES_LEAF_COUNT 0 9).setF Fld.HP_STATUS_LANES_OK 0 15).modDie 0 fun x => { x with wit := some (wc 3 0 9), cache := [{ tree := 0, level := 1, index := 0, data := (hashOf (nodeMessage 0 1 0 (groupBytes 9 0 0 []))), trusted := true }] }),
     rfl, by decide, by decide, by decide, by decide, by decide, rfl, by decide, rfl⟩,
    ⟨0, 0, 0, 0, 0, [], [], (spoilt (hashOf (nodeMessage 0 1 0 (groupBytes 9 0 0 [])))),
     (((((State.reset.setF Fld.TD_STATE_STATE 0 2).setF Fld.TD_STATE_DEPTH 0 2).setF Fld.TD_LEAVES_LEAF_COUNT 0 9).setF Fld.HP_STATUS_LANES_OK 0 15).modDie 0 fun x => { x with wit := some (wc 3 0 9), cache := [{ tree := 0, level := 1, index := 0, data := spoilt (hashOf (nodeMessage 0 1 0 (groupBytes 9 0 0 []))), trusted := true }] }),
     rfl, by decide, by decide, by decide, by decide, by decide, rfl, by decide, by decide, spoilt_ne _, spoilt_ne _⟩,
    ⟨0, 0, 0, 0, [], [],
     (((((State.reset.setF Fld.TD_STATE_STATE 0 2).setF Fld.TD_STATE_DEPTH 0 2).setF Fld.TD_LEAVES_LEAF_COUNT 0 9).setF Fld.HP_STATUS_LANES_OK 0 15).modDie 0 fun x => { x with wit := some (wc 3 0 9), cache := [{ tree := 0, level := 1, index := 0, data := [], trusted := true }] }),
     by decide, by decide, by decide, by decide, by decide⟩⟩

/-- The hypotheses of HashVerdicts can be met, clause by clause. -/
theorem witness_HashVerdicts :
    (∃ (ch : ChanId) (g : Nat) (gen : Nat) (e : DieId) (lane : Fin 4) (c : Option Digest) (s : State),
        s.chLive ch.val = true ∧ s.live e.val = true ∧ mem lane.val (s.die e.val).lanesOut = false ∧
        s.awaitedJob ch.val g gen e.val = none) ∧
    (∃ (ch : ChanId) (g : Nat) (gen : Nat) (j : Job) (x : Slot) (e : DieId) (lane : Fin 4) (c : Option Digest) (s : State),
        s.chLive ch.val = true ∧ s.live e.val = true ∧ mem lane.val (s.die e.val).lanesOut = false ∧
        s.awaitedJob ch.val g gen e.val = some j ∧ s.jobSlot j = some x) ∧
    (∃ (ch : ChanId) (g : Nat) (j : Job) (x : Slot) (r : Digest) (second : Option Digest) (again : Nat) (s : State),
        s.chLive ch.val = true ∧ s.hashedJob ch.val g = some j ∧ s.jobSlot j = some x ∧ j.result = some r ∧
        s.getF Fld.TD_STATE_STATE (ch.val / 8 * 256 + x.tree) = 2 ∧ s.leafEntry (ch.val / 8) x.tree x.leaf = some r) ∧
    (∃ (ch : ChanId) (g : Nat) (j : Job) (x : Slot) (r : Digest) (r2 : Digest) (want : Digest) (s : State),
        s.chLive ch.val = true ∧ s.hashedJob ch.val g = some j ∧ s.jobSlot j = some x ∧ j.result = some r ∧
        s.getF Fld.TD_STATE_STATE (ch.val / 8 * 256 + x.tree) = 2 ∧
        s.leafEntry (ch.val / 8) x.tree x.leaf = some want ∧ r ≠ want) ∧
    (∃ (ch : ChanId) (c : Consumption) (l : List Consumption) (v : WVerdict) (s : State),
        s.chLive ch.val = true ∧ (s.ch ch.val).cons = c :: l ∧ c.verdict = some v) ∧
    (∃ (ch : ChanId) (c : Consumption) (l : List Consumption) (s : State),
        (s.ch ch.val).cons = c :: l ∧ c.verdict = none) ∧
    (∃ (ch : ChanId) (q : Word) (c : Consumption) (s : State),
        s.chLive ch.val = true ∧
        ((s.ch ch.val).cons.find? fun c => decide (c.seq = q) && !c.overdue && decide (s.getF Fld.WIT_HORIZON_HORIZON (ch.val / 8) ≤ s.usSince c.firstUs)) = some c) ∧
    (∃ (ch : ChanId) (g : Nat) (c : Consumption) (r : OwnRead) (s : State),
        s.chLive ch.val = true ∧ s.ownAllowed ch.val = true ∧ s.rereadOpen ch.val g = some c ∧
        ((s.die (ch.val / 8)).jobs.any fun j => j.isFor ch.val g && j.reread.isSome) = false ∧
        s.ownUnknown ch.val (s.ownReadOp ch.val) = false ∧ r.still = false ∧ r.runs = []) :=
  ⟨⟨0, 0, 0, 7, 0, none, State.reset, by decide, by decide, by decide, by decide⟩,
    ⟨0, 0, 0, { ch := 0, granule := 0, gen := 0, executor := 0, lane := none, result := none, reread := none },
     { ch := 0, granule := 0, tree := 0, leaf := 0, st := .hash, pinned := false, entry := true, host := [], own := [], seq := none, sweep := none },
     0, 0, none,
     (State.reset.modDie 0 fun x => { x with slots := [{ ch := 0, granule := 0, tree := 0, leaf := 0, st := .hash, pinned := false, entry := true, host := [], own := [], seq := none, sweep := none }], jobs := [{ ch := 0, granule := 0, gen := 0, executor := 0, lane := none, result := none, reread := none }] }),
     by decide, by decide, by decide, by decide, by decide⟩,
    ⟨0, 0,
     { ch := 0, granule := 0, gen := 0, executor := 0, lane := some 0, result := some (List.replicate 48 0), reread := none },
     { ch := 0, granule := 0, tree := 0, leaf := 0, st := .hash, pinned := false, entry := true, host := [], own := [], seq := none, sweep := none },
     (List.replicate 48 0), none, 0,
     ((((State.reset.setF Fld.TD_STATE_STATE 0 2).setF Fld.TD_STATE_DEPTH 0 1).setF Fld.TD_LEAVES_LEAF_COUNT 0 1).modDie 0 fun x => { x with slots := [{ ch := 0, granule := 0, tree := 0, leaf := 0, st := .hash, pinned := false, entry := true, host := [], own := [], seq := none, sweep := none }], jobs := [{ ch := 0, granule := 0, gen := 0, executor := 0, lane := some 0, result := some (List.replicate 48 0), reread := none }], cache := [{ tree := 0, level := 0, index := 0, data := List.replicate 384 0, trusted := true }] }),
     by decide, by decide, by decide, by decide, by decide, by decide⟩,
    ⟨0, 0,
     { ch := 0, granule := 0, gen := 0, executor := 0, lane := some 0, result := some (List.replicate 48 1), reread := none },
     { ch := 0, granule := 0, tree := 0, leaf := 0, st := .hash, pinned := false, entry := true, host := [], own := [], seq := none, sweep := none },
     (List.replicate 48 1), (List.replicate 48 1), (List.replicate 48 0),
     ((((State.reset.setF Fld.TD_STATE_STATE 0 2).setF Fld.TD_STATE_DEPTH 0 1).setF Fld.TD_LEAVES_LEAF_COUNT 0 1).modDie 0 fun x => { x with slots := [{ ch := 0, granule := 0, tree := 0, leaf := 0, st := .hash, pinned := false, entry := true, host := [], own := [], seq := none, sweep := none }], jobs := [{ ch := 0, granule := 0, gen := 0, executor := 0, lane := some 0, result := some (List.replicate 48 1), reread := none }], cache := [{ tree := 0, level := 0, index := 0, data := List.replicate 384 0, trusted := true }] }),
     by decide, by decide, by decide, by decide, by decide, by decide, by decide⟩,
    ⟨0, { seq := 0, granule := 0, tree := 0, verdict := some .pass, firstUs := 0, overdue := false, reread := false },
     [], .pass,
     (State.reset.modCh 0 fun c => { c with cons := [{ seq := 0, granule := 0, tree := 0, verdict := some .pass, firstUs := 0, overdue := false, reread := false }] }),
     by decide, by decide, by decide⟩,
    ⟨0, { seq := 0, granule := 0, tree := 0, verdict := none, firstUs := 0, overdue := false, reread := false }, [],
     (State.reset.modCh 0 fun c => { c with cons := [{ seq := 0, granule := 0, tree := 0, verdict := none, firstUs := 0, overdue := false, reread := false }] }),
     by decide, by decide⟩,
    ⟨0, 0, { seq := 0, granule := 0, tree := 0, verdict := none, firstUs := 0, overdue := false, reread := false },
     ((State.reset.setF Fld.WIT_HORIZON_HORIZON 0 0).modCh 0 fun c => { c with cons := [{ seq := 0, granule := 0, tree := 0, verdict := none, firstUs := 0, overdue := false, reread := false }] }),
     by decide, by decide⟩,
    ⟨0, 0, { seq := 0, granule := 0, tree := 0, verdict := none, firstUs := 0, overdue := false, reread := true },
     shortRead,
     (((State.reset.wr .SHAPE_ENTRY 3 1).setF Fld.CH_STATUS_STATE_EFF 0 1).modCh 0 fun c => { c with cons := [{ seq := 0, granule := 0, tree := 0, verdict := none, firstUs := 0, overdue := false, reread := true }] }),
     by decide, by decide, by decide, by decide, by decide, by decide, by decide⟩⟩

/-- The hypotheses of ReleasePlan can be met, clause by clause. -/
theorem witness_ReleasePlan :
    (∃ (g : LineId) (s : State),
        s.platLive = true ∧ s.getF Fld.PG_STATUS_STATE g.val = 0 ∧ s.flag Fld.PG_STATUS_ARMED g.val = true ∧
        s.gateRooted g.val = true ∧ s.gateReady g.val = true) ∧
    (∃ (g : LineId) (s : State),
        (s.flag Fld.PG_STATUS_ARMED g.val = false ∨ s.gateRooted g.val = false ∨ s.gateReady g.val = false ∨ s.getF Fld.PG_STATUS_STATE g.val ≠ 0)) ∧
    (∃ (req : Requester) (g : LineId) (v : Word) (s : State),
        s.PlatOpen req) ∧
    (∃ (req : Requester) (k : LineId) (v : Word) (s : State),
        s.PlatOpen req ∧ (bitOf v.toNat 2 = false ∨ s.forcedHold = true)) ∧
    (∃ (req : Requester) (k : LineId) (v : Word) (s : State),
        s.PlatOpen req ∧ bitOf v.toNat 2 = true ∧ s.forcedHold = false) ∧
    (∃ (req : Requester) (k : LineId) (v : Word) (s : State),
        s.PlatOpen req) ∧
    (∃ (req : Requester) (ch : ChanId) (v : Word) (s : State),
        s.PlatOpen req) ∧
    (∃ (ch : ChanId) (r : Restart) (s : State),
        s.chLive ch.val = true ∧ s.platLive = true ∧ (s.ch ch.val).restart = some r ∧ r.awaits = [] ∧ r.stuck = [] ∧
        1000 * max 1 (s.getF Fld.WIT_CHCFG_RESTART_MS ch.val) ≤ s.usSince r.sinceUs) ∧
    (∃ (req : Requester) (ch : ChanId) (s : State),
        s.DieOpen req (ch.val / 8)) :=
  ⟨⟨0, gateState, by decide, by decide, by decide, by decide, by decide⟩,
    ⟨0, State.reset, by decide⟩,
    ⟨.sentry 0 0, 0, 0, State.reset, by decide⟩,
    ⟨.sentry 0 0, 0, 0, State.reset, by decide, by decide⟩,
    ⟨.sentry 0 0, 0, 4, (State.reset.setF Fld.GD_STATUS_CROSS_DONE 0 1), by decide, by decide, by decide⟩,
    ⟨.sentry 0 0, 0, 0, State.reset, by decide⟩,
    ⟨.sentry 0 0, 0, 0, State.reset, by decide⟩,
    ⟨0, { sinceUs := 0, lines := 0, awaits := [], stuck := [] },
     ((State.reset.wr .FAULT_US 0 65535000).modCh 0 fun c => { c with restart := some { sinceUs := 0, lines := 0, awaits := [], stuck := [] } }),
     by decide, by decide, by decide, by decide, by decide, by decide⟩,
    ⟨.sentry 0 0, 0, State.reset, by decide⟩⟩

/-- The hypotheses of VaultAccess can be met, clause by clause. -/
theorem witness_VaultAccess :
    (∃ (d : DieId) (port : Bool) (dev : Bool) (addr : Nat) (a : VaultAttempt) (l : List VaultAttempt) (s : State),
        s.live d.val = true ∧ s.attemptLevel (vaultDev port dev) a = 1 ∧ a.runs = []) ∧
    (∃ (d : DieId) (port : Bool) (dev : Bool) (addr : Nat) (a : VaultAttempt) (l : List VaultAttempt) (s : State),
        s.live d.val = true ∧ s.bound d.val = true ∧ s.attemptLevel (vaultDev port dev) a = 2 ∧ a.runs = []) ∧
    (∃ (d : DieId) (port : Bool) (dev : Bool) (addr : Nat) (a : VaultAttempt) (b : VaultAttempt) (c : VaultAttempt) (s : State),
        s.live d.val = true ∧ a.data = none ∧ b.data = none ∧ c.data = none ∧ a.runs = [] ∧ b.runs = [] ∧
        c.runs = [] ∧ s.flag Fld.MC_VCFG_MIRROR (vaultDev port dev) = false) ∧
    (∃ (d : DieId) (port : Bool) (dev : Bool) (b : Nat) (s : State),
        s.live d.val = true ∧ s.bound d.val = true ∧ (port = true → s.reached 1 = true) ∧
        (vaultDev port dev, b) ∈ (s.die d.val).care.weak ∧ s.vaultNand (vaultDev port dev) = false ∧
        s.flag Fld.MC_VCFG_MIRROR (vaultDev port dev) = true) ∧
    (∃ (d : DieId) (port : Bool) (dev : Bool) (b : Nat) (p : Nat) (rest : List Nat) (s : State),
        s.live d.val = true ∧ s.bound d.val = true ∧ (port = true → s.reached 1 = true) ∧
        (vaultDev port dev, b) ∈ (s.die d.val).care.weak ∧ s.vaultNand (vaultDev port dev) = true ∧
        s.spares (vaultDev port dev) = p :: rest) ∧
    (∃ (u : List Byte) (scan : VaultScan) (gens : List (DieId × Nat × Nat)) (intents : List Intent) (s : State),
        s.platLive = true ∧ s.getF Fld.MC_VCFG_TYPE 0 ≠ 0 ∧
        (∃ d, d < s.nDies ∧ s.live d = true ∧ (s.die d).care.started = false)) ∧
    (∃ (get : VaultGet) (scan : VaultScan) (gens : List (DieId × Nat × Nat)) (intents : List Intent) (s : State),
        s.platLive = true ∧ (s.getF Fld.MC_VCFG_TYPE 0 = 0 ∨ get = [])) :=
  ⟨⟨0, false, false, 0, { data := some [] }, [], State.reset, by decide, by decide, by decide⟩,
    ⟨0, false, false, 0, { data := some [], pages := [2] }, [],
     (((((State.reset.setF Fld.MC_STATUS_VAULT 0 3).setF Fld.MC_VCFG_TYPE 0 2).setF Fld.MC_VCFG_ECC_REF 0 1).setF Fld.MC_VCFG_ECC_UNC 0 3).setF Fld.MC_VCFG_ECC_LSB 0 0),
     by decide, by decide, by decide, by decide⟩,
    ⟨0, false, false, 0, { data := none }, { data := none }, { data := none }, State.reset, by decide, by decide,
     by decide, by decide, by decide, by decide, by decide, by decide⟩,
    ⟨0, false, false, 0,
     ((((State.reset.setF Fld.MC_STATUS_VAULT 0 3).setF Fld.MC_VCFG_MIRROR 0 1).setF Fld.MC_VCFG_TYPE 0 0).modDie 0 fun x => { x with care := { Care.reset with weak := [(0, 0)] } }),
     by decide, by decide, by decide, by decide, by decide, by decide⟩,
    ⟨0, false, false, 0, 5, _,
     { (((State.reset.setF Fld.MC_STATUS_VAULT 0 3).setF Fld.MC_VCFG_TYPE 0 2).modDie 0 fun x => { x with care := { Care.reset with weak := [(0, 0)] } }) with vault := { Vault.reset with freed := [(0, [5])] } },
     by decide, by decide, by decide, by decide, by decide, rfl⟩,
    ⟨[], {}, [], [], (State.reset.setF Fld.MC_VCFG_TYPE 0 1), by decide, by decide, ⟨0, by decide⟩⟩,
    ⟨[], {}, [], [], State.reset, by decide, by decide⟩⟩

/-- The hypotheses of CareByTime can be met, clause by clause. -/
theorem witness_CareByTime :
    (∃ (d : DieId) (r : RegionId) (i : Nat) (n : Nat) (g : Nat) (x : OwnRead) (p : List GroupFetch) (gold : VaultGet) (co : VaultGet) (h : LaneRun) (b : Byte) (s : State) (u : State),
        i = d.val * 32 + r.val ∧ n = s.regionCh i ∧ g = s.regionBase i + s.getF Fld.CR_STATE_CURSOR i ∧
        s.live d.val = true ∧ s.flag Fld.CR_CFG_VALID i = true ∧ s.flag Fld.CR_CFG_TREE_EN i = true ∧
        s.scrubDue i = true ∧ s.getF Fld.TD_STATE_STATE (d.val * 256 + s.getF Fld.CR_CFG_TREE i) = 2 ∧
        s.ownUnknown n (s.ownReadOp n) = false ∧
        (s.flag Fld.CR_CFG_NAND_ECC i = true → s.ownUnknown n (s.getF Fld.CR_OPS_STAT_OP i) = false) ∧
        s.ownAllowed n = true ∧ s.canHash d.val = true ∧ s.unitFill n g = false ∧ s.unitFirst d.val = false ∧
        (∀ y ∈ (s.die d.val).slots, y.ch = n → s.completes n y = false) ∧ x.still = false ∧ s.takeSlot d.val = some u) ∧
    (∃ (d : DieId) (r : RegionId) (x : OwnRead) (p : List GroupFetch) (gold : VaultGet) (co : VaultGet) (h : LaneRun) (b : Byte) (s : State),
        (s.scrubDue (d.val * 32 + r.val) = false ∨ s.flag Fld.CR_CFG_VALID (d.val * 32 + r.val) = false)) ∧
    (∃ (i : Nat) (s : State),
        i ∉ (s.die (i / 32)).care.scrubAll ∧
        (s.flag Fld.MC_CTRL_SCRUB_EN (i / 32) = false ∨ s.getF Fld.CR_SCRUB_PERIOD_H i = 0)) ∧
    (∃ (d : DieId) (r : RegionId) (s : State),
        s.live d.val = true ∧ s.flag Fld.CR_CFG_VALID (d.val * 32 + r.val) = true ∧
        s.flag Fld.CR_CFG_TREE_EN (d.val * 32 + r.val) = true ∧
        s.getF Fld.CR_SCRUB_PERIOD_H (d.val * 32 + r.val) ≠ 0 ∧ s.flag Fld.MC_CTRL_SCRUB_EN d.val = true ∧
        2 * 3600 * s.getF Fld.CR_SCRUB_PERIOD_H (d.val * 32 + r.val) ≤ s.ot - Tbl.get (s.die d.val).care.passOt (d.val * 32 + r.val) 0 ∧
        d.val * 32 + r.val ∉ (s.die d.val).care.lates) ∧
    (∃ (d : DieId) (r : RegionId) (k : Nat) (s : State),
        s.live d.val = true ∧
        s.inRegion (d.val * 32 + r.val) (s.regionCh (d.val * 32 + r.val)) (s.regionBase (d.val * 32 + r.val) + k) = true ∧
        (s.health (s.regionCh (d.val * 32 + r.val)) (s.regionBase (d.val * 32 + r.val) + k)).due = false ∧
        s.getF Fld.CR_REFRESH_AGE_D (d.val * 32 + r.val) ≠ 0 ∧
        s.getF Fld.CR_REFRESH_AGE_D (d.val * 32 + r.val) * 86400 ≤ s.ot - (s.health (s.regionCh (d.val * 32 + r.val)) (s.regionBase (d.val * 32 + r.val) + k)).writtenOt) ∧
    (∃ (d : DieId) (run : CareRun) (u : CareUnit) (rep : Bool) (s : State) (v : State),
        s.live d.val = true ∧ (s.die d.val).care.twinWait = none ∧ s.nextUnit d.val = some (u, rep, v) ∧
        v.unitRefusal u = none ∧ v.unitMay u = true ∧ v.canHash d.val = true) ∧
    (∃ (d : DieId) (run : CareRun) (u : CareUnit) (rep : Bool) (r : Nat) (s : State) (v : State),
        s.live d.val = true ∧ (s.die d.val).care.twinWait = none ∧ s.nextUnit d.val = some (u, rep, v) ∧
        v.unitRefusal u = some r) ∧
    (∃ (d : DieId) (run : CareRun) (u : CareUnit) (s : State) (v : State),
        s.live d.val = true ∧ (s.die d.val).care.twinWait = none ∧ s.nextUnit d.val = some (u, false, v) ∧
        v.unitRefusal u = none ∧ v.unitMay u = false) ∧
    (∃ (d : DieId) (run : CareRun) (s : State),
        (s.die d.val).care.twinWait = none ∧ (s.die d.val).care.running = none ∧ (s.die d.val).care.queue = []) ∧
    (∃ (d : DieId) (u : CareUnit) (b : List (List Byte)) (ok : Bool) (s : State),
        s.live d.val = true ∧ u.ch / 8 = d.val ∧ (s.die d.val).care.running = some (u, .written b ok) ∧
        (u.twin = true ∨ s.flag Fld.CH_STATUS_BUSY_SHIELD u.ch = false)) ∧
    (∃ (d : DieId) (u : CareUnit) (b : List (List Byte)) (ok : Bool) (ws : List Bool) (s : State),
        (s.die d.val).care.running = some (u, .written b ok) ∧ u.twin = false ∧
        s.flag Fld.CH_STATUS_BUSY_SHIELD u.ch = true) :=
  ⟨⟨0, 0, 0, 0, 0, shortRead, [], [], [], {}, 0,
     (((((((State.reset.wr .SHAPE_ENTRY 3 1).setF Fld.CR_CFG_VALID 0 1).setF Fld.CR_CFG_TREE_EN 0 1).setF Fld.TD_STATE_STATE 0 2).setF Fld.CH_STATUS_STATE_EFF 0 1).setF Fld.HP_STATUS_LANES_OK 0 15).modDie 0 fun x => { x with care := { Care.reset with scrubAll := [0] } }),
     _, rfl, rfl, rfl, by decide, by decide, by decide, by decide, by decide, by decide, by decide, by decide,
     by decide, by decide, by decide, by decide, by decide, rfl⟩,
    ⟨0, 0, shortRead, [], [], [], {}, 0, State.reset, by decide⟩,
    ⟨0, State.reset, by decide, by decide⟩,
    ⟨0, 0,
     { (((((State.reset.wr .SHAPE_ENTRY 3 1).setF Fld.CR_CFG_VALID 0 1).setF Fld.CR_CFG_TREE_EN 0 1).setF Fld.CR_SCRUB_PERIOD_H 0 1).setF Fld.MC_CTRL_SCRUB_EN 0 1) with ot := 7200 },
     by decide, by decide, by decide, by decide, by decide, by decide, by decide⟩,
    ⟨0, 0, 0,
     ({ (((State.reset.setF Fld.CR_CFG_VALID 0 1).setF Fld.CR_COUNT_COUNT 0 1).setF Fld.CR_REFRESH_AGE_D 0 1) with ot := 86400 }.modDie 0 fun x => { x with care := { Care.reset with health := [(0, { Health.absent with erases := 1 })] } }),
     by decide, by decide, by decide, by decide, by decide⟩,
    ⟨0, { flash := [], golden := [], twin := [], round1 := cr0, round2 := cr0 },
     { region := 0, ch := 0, base := 0, recovery := false, twin := false, command := false }, false,
     { ((((((((((State.reset.wr .SHAPE_ENTRY 3 1).setF Fld.CR_CFG_UNW_OK 0 1).setF Fld.MC_STATUS_VAULT 0 3).setF Fld.CR_OPS_WREN_OP 0 3).setF Fld.CR_OPS_PROG_OP 0 3).setF Fld.CR_OPS_ERASE_OP 0 3).setF Fld.CR_OPS_STAT_OP 0 3).setF Fld.HP_STATUS_LANES_OK 0 15).setF Fld.CH_STATUS_STATE_EFF 0 1).modDie 0 fun x => { x with care := { Care.reset with running := some ({ region := 0, ch := 0, base := 0, recovery := false, twin := false, command := false }, .waiting false) } }) with keys := { Keys.reset with cdi0 := some [], holds0 := true, sealing := [0] } },
     _, by decide, by decide, rfl, by decide, by decide, by decide⟩,
    ⟨0, { flash := [], golden := [], twin := [], round1 := cr0, round2 := cr0 },
     { region := 0, ch := 0, base := 0, recovery := false, twin := false, command := false }, false, 6,
     (State.reset.modDie 0 fun x => { x with care := { Care.reset with running := some ({ region := 0, ch := 0, base := 0, recovery := false, twin := false, command := false }, .waiting false) } }),
     _, by decide, by decide, rfl, by decide⟩,
    ⟨0, { flash := [], golden := [], twin := [], round1 := cr0, round2 := cr0 },
     { region := 0, ch := 0, base := 0, recovery := false, twin := false, command := false },
     { (((((((((State.reset.wr .SHAPE_ENTRY 3 1).setF Fld.CR_CFG_UNW_OK 0 1).setF Fld.MC_STATUS_VAULT 0 3).setF Fld.CR_OPS_WREN_OP 0 3).setF Fld.CR_OPS_PROG_OP 0 3).setF Fld.CR_OPS_ERASE_OP 0 3).setF Fld.CR_OPS_STAT_OP 0 3).setF Fld.HP_STATUS_LANES_OK 0 15).modDie 0 fun x => { x with care := { Care.reset with running := some ({ region := 0, ch := 0, base := 0, recovery := false, twin := false, command := false }, .waiting false) } }) with keys := { Keys.reset with cdi0 := some [], holds0 := true, sealing := [0] } },
     _, by decide, by decide, rfl, by decide, by decide⟩,
    ⟨0, { flash := [], golden := [], twin := [], round1 := cr0, round2 := cr0 }, State.reset, by decide, by decide,
     by decide⟩,
    ⟨0, { region := 0, ch := 0, base := 0, recovery := false, twin := false, command := false }, [], true,
     (State.reset.modDie 0 fun x => { x with care := { Care.reset with running := some ({ region := 0, ch := 0, base := 0, recovery := false, twin := false, command := false }, .written [] true) } }),
     by decide, by decide, by decide, by decide⟩,
    ⟨0, { region := 0, ch := 0, base := 0, recovery := false, twin := false, command := false }, [], true, [],
     ((State.reset.setF Fld.CH_STATUS_BUSY_SHIELD 0 1).modDie 0 fun x => { x with care := { Care.reset with running := some ({ region := 0, ch := 0, base := 0, recovery := false, twin := false, command := false }, .written [] true) } }),
     by decide, by decide, by decide⟩⟩

/-- The hypotheses of CareCommands can be met, clause by clause. -/
theorem witness_CareCommands :
    (∃ (req : Requester) (d : DieId) (v : Word) (ws : List Bool) (s : State),
        s.DieOpen req d.val ∧ s.flag Fld.MC_CMD_STATUS_BUSY d.val = true) ∧
    (∃ (req : Requester) (d : DieId) (v : Word) (s : State),
        s.DieOpen req d.val ∧ s.flag Fld.MC_CMD_STATUS_BUSY d.val = false ∧ s.canFlush d.val = true) ∧
    (∃ (req : Requester) (d : DieId) (v : Word) (ws : List Bool) (s : State),
        s.DieOpen req d.val ∧ s.flag Fld.MC_CMD_STATUS_BUSY d.val = false ∧ s.canFlush d.val = false) ∧
    (∃ (req : Requester) (d : DieId) (v : Word) (s : State),
        s.DieOpen req d.val ∧ s.flag Fld.MC_CMD_STATUS_BUSY d.val = false ∧
        s.flag Fld.CR_CFG_VALID (d.val * 32 + Fld.MC_CMD_REGION.of v) = true) ∧
    (∃ (req : Requester) (d : DieId) (v : Word) (s : State),
        s.DieOpen req d.val ∧ s.flag Fld.MC_CMD_STATUS_BUSY d.val = false ∧
        s.flag Fld.CR_CFG_VALID (d.val * 32 + Fld.MC_CMD_REGION.of v) = false) ∧
    (∃ (req : Requester) (d : DieId) (v : Word) (s : State),
        s.DieOpen req d.val ∧ s.flag Fld.MC_CMD_STATUS_BUSY d.val = false ∧
        s.flag Fld.CR_CFG_VALID (d.val * 32 + Fld.MC_CMD_REGION.of v) = true ∧ s.canSeal d.val = true ∧
        s.careArgs d.val (d.val * 32 + Fld.MC_CMD_REGION.of v) = true) ∧
    (∃ (req : Requester) (d : DieId) (v : Word) (r : Nat) (n : Nat) (blocks : List (List Byte)) (s : State),
        s.DieOpen req d.val ∧ r = d.val * 32 + Fld.MC_CMD_REGION.of v ∧ n = s.regionCh r ∧
        s.flag Fld.MC_CMD_STATUS_BUSY d.val = false ∧ s.flag Fld.CR_CFG_VALID r = true ∧ s.careArgs d.val r = true ∧
        s.ownUnknown n (s.ownReadOp n) = false ∧ (s.ch n).own = none ∧ s.ownMay n (!s.flag Fld.CH_TWIN_SEL n) = true ∧
        s.canHash d.val = true ∧
        (∀ k p, k < s.getF Fld.MC_ARG1_COUNT d.val → s.witnessed r (s.regionBase r + s.getF Fld.MC_ARG0_FIRST d.val + k) = some p → s.leafTrusted d.val p.1 p.2 = true)) ∧
    (∃ (req : Requester) (d : DieId) (v : Word) (r : Nat) (n : Nat) (reads : List OwnRead) (paths : List (List GroupFetch)) (s : State),
        s.DieOpen req d.val ∧ r = d.val * 32 + Fld.MC_CMD_REGION.of v ∧ n = s.regionCh r ∧
        s.flag Fld.MC_CMD_STATUS_BUSY d.val = false ∧ s.flag Fld.CR_CFG_VALID r = true ∧ s.careArgs d.val r = true ∧
        s.ownUnknown n (s.ownReadOp n) = false ∧ s.selRefused n (!s.flag Fld.CH_TWIN_SEL n) = true) ∧
    (∃ (req : Requester) (d : DieId) (r : RegionId) (g : CrReg) (v : Word) (s : State),
        s.DieOpen req d.val ∧ (∃ u ∈ (s.die d.val).care.queue, u.region = d.val * 32 + r.val)) ∧
    (∃ (req : Requester) (d : DieId) (r : RegionId) (g : CrReg) (v : Word) (s : State) (u : State),
        s.DieOpen req d.val ∧
        (s.flag Fld.MC_STATUS_BUSY d.val = false ∨ s.getF Fld.MC_STATUS_BUSY_REGION d.val ≠ r.val) ∧
        (∀ u ∈ (s.die d.val).care.queue, u.region ≠ d.val * 32 + r.val) ∧
        u = s.swWrite (crRegName g) (d.val * 32 + r.val) (if g = .gaddr then v &&& ~~~ 0xFFF#32 else v) ∧
        (s.flag Fld.CR_CFG_VALID (d.val * 32 + r.val) = true ∨ u.flag Fld.CR_CFG_VALID (d.val * 32 + r.val) = false)) ∧
    (∃ (req : Requester) (d : DieId) (r : RegionId) (v : Word) (s : State),
        s.DieOpen req d.val ∧
        (s.flag Fld.MC_STATUS_BUSY d.val = false ∨ s.getF Fld.MC_STATUS_BUSY_REGION d.val ≠ r.val) ∧
        (∀ u ∈ (s.die d.val).care.queue, u.region ≠ d.val * 32 + r.val) ∧
        s.flag Fld.CR_CFG_VALID (d.val * 32 + r.val) = false ∧ Fld.CR_CFG_VALID.of v = 1) :=
  ⟨⟨.sentry 0 0, 0, 0, [], (State.reset.setF Fld.MC_CMD_STATUS_BUSY 0 1), by decide, by decide⟩,
    ⟨.sentry 0 0, 0, 5,
     { (State.reset.setF Fld.MC_STATUS_VAULT 0 3) with keys := { Keys.reset with cdi0 := some [], holds0 := true, sealing := [0] }, vault := { Vault.reset with directory := [0, 0, 0, 0, 0, 0, 0x10, 0] } },
     by decide, by decide, by decide⟩,
    ⟨.sentry 0 0, 0, 0, [], State.reset, by decide, by decide, by decide⟩,
    ⟨.sentry 0 0, 0, 0, (State.reset.setF Fld.CR_CFG_VALID 0 1), by decide, by decide, by decide⟩,
    ⟨.sentry 0 0, 0, 0, State.reset, by decide, by decide, by decide⟩,
    ⟨.sentry 0 0, 0, 0,
     { ((((State.reset.setF Fld.CR_CFG_VALID 0 1).setF Fld.MC_STATUS_VAULT 0 3).setF Fld.MC_ARG1_COUNT 0 1).setF Fld.CR_COUNT_COUNT 0 1) with keys := { Keys.reset with cdi0 := some [], holds0 := true, sealing := [0] } },
     by decide, by decide, by decide, by decide, by decide⟩,
    ⟨.sentry 0 0, 0, 0, 0, _, [],
     (((((((State.reset.wr .SHAPE_ENTRY 3 1).setF Fld.CR_CFG_VALID 0 1).setF Fld.MC_ARG1_COUNT 0 1).setF Fld.CR_COUNT_COUNT 0 1).setF Fld.CH_TWIN_PRESENT 0 1).setF Fld.CH_STATUS_STATE_EFF 0 1).setF Fld.HP_STATUS_LANES_OK 0 15),
     by decide, rfl, rfl, by decide, by decide, by decide, by decide, by decide, by decide, by decide,
     fun _ _ _ h => nomatch (show (none : Option (Nat × Nat)) = some _ from h)⟩,
    ⟨.sentry 0 0, 0, 0, 0, _, [], [],
     ((((State.reset.wr .SHAPE_ENTRY 3 1).setF Fld.CR_CFG_VALID 0 1).setF Fld.MC_ARG1_COUNT 0 1).setF Fld.CR_COUNT_COUNT 0 1),
     by decide, rfl, rfl, by decide, by decide, by decide, by decide, by decide⟩,
    ⟨.sentry 0 0, 0, 0, .cfg, 0,
     (State.reset.modDie 0 fun x => { x with care := { Care.reset with queue := [{ region := 0, ch := 0, base := 0, recovery := false, twin := false, command := false }] } }),
     by decide, by decide⟩,
    ⟨.sentry 0 0, 0, 0, .gaddr, 0xFFF, State.reset, _, by decide, by decide, by decide, rfl, by decide⟩,
    ⟨.sentry 0 0, 0, 0, 8, State.reset, by decide, by decide, by decide, by decide, by decide⟩⟩

/-- The hypotheses of FaultReportsArriveInOrder can be met, clause by clause. -/
theorem witness_FaultReportsArriveInOrder :
    (∃ (d : DieId) (q : Nat) (r : Report) (s : State),
        s.platLive = true ∧ s.reached d.val = true ∧ (s.queue d.val).unreach = false ∧
        ((s.die d.val).inflight.find? fun r => decide (r.dseq = q)) = some r ∧ r.dseq = (s.queue d.val).next ∧
        (s.queue d.val).held = [] ∧ (s.queue d.val).tokens ≠ 0 ∧ (s.queue d.val).storm = false ∧
        ((s.queue d.val).entries.any fun e => e.is r.code r.source) = true) ∧
    (∃ (d : DieId) (q : Nat) (r : Report) (s : State),
        s.platLive = true ∧ s.reached d.val = true ∧ (s.queue d.val).unreach = false ∧
        ((s.die d.val).inflight.find? fun r => decide (r.dseq = q)) = some r ∧ r.dseq = (s.queue d.val).next ∧
        (s.queue d.val).held = [] ∧ (s.queue d.val).tokens ≠ 0 ∧ (s.queue d.val).storm = false ∧
        ((s.queue d.val).entries.any fun e => e.is r.code r.source) = false ∧
        ((s.queue d.val).entries.filter fun e => decide (e.code ≠ 0x5301) && decide (e.code ≠ 0x5302)).length < 30) ∧
    (∃ (d : DieId) (q : Nat) (r : Report) (s : State),
        s.platLive = true ∧ s.reached d.val = true ∧ (s.queue d.val).unreach = false ∧
        ((s.die d.val).inflight.find? fun r => decide (r.dseq = q)) = some r ∧ r.dseq ≠ (s.queue d.val).next) :=
  ⟨⟨0, 0, { code := 0x1001, source := 0, dseq := 0, us := 0 },
     ((State.reset.modDie 0 fun x => { x with inflight := [{ code := 0x1001, source := 0, dseq := 0, us := 0 }] }).setQueue 0 { FaultQueue.reset with entries := [{ code := 0x1001, source := 0, dseq := 0, count := 1, first := 0, last := 0 }] }),
     by decide, by decide, by decide, by decide, by decide, by decide, by decide, by decide, by decide⟩,
    ⟨0, 0, { code := 0x1001, source := 0, dseq := 0, us := 0 },
     (State.reset.modDie 0 fun x => { x with inflight := [{ code := 0x1001, source := 0, dseq := 0, us := 0 }] }),
     by decide, by decide, by decide, by decide, by decide, by decide, by decide, by decide, by decide, by decide⟩,
    ⟨0, 0, { code := 0x1001, source := 0, dseq := 0, us := 0 },
     ((State.reset.modDie 0 fun x => { x with inflight := [{ code := 0x1001, source := 0, dseq := 0, us := 0 }] }).setQueue 0 { FaultQueue.reset with next := 1 }),
     by decide, by decide, by decide, by decide, by decide⟩⟩

/-- The hypotheses of FaultQueueHead can be met, clause by clause. -/
theorem witness_FaultQueueHead :
    (∃ (req : Requester) (d : DieId) (e : FaultEntry) (l : List FaultEntry) (s : State),
        s.PlatOpen req ∧ s.present d.val = true ∧ (s.queue d.val).entries = e :: l) ∧
    (∃ (req : Requester) (d : DieId) (s : State),
        s.PlatOpen req ∧ s.present d.val = true ∧ (s.queue d.val).entries = []) ∧
    (∃ (req : Requester) (d : DieId) (v : Word) (e : FaultEntry) (l : List FaultEntry) (s : State),
        s.PlatOpen req ∧ s.present d.val = true ∧ Fld.FQ_POP_POP.of v = 1 ∧ (s.queue d.val).entries = e :: l ∧
        (e.code, e.source) ∉ (s.queue d.val).merged) ∧
    (∃ (req : Requester) (d : DieId) (v : Word) (e : FaultEntry) (l : List FaultEntry) (s : State),
        s.PlatOpen req ∧ s.present d.val = true ∧ Fld.FQ_POP_POP.of v = 1 ∧ (s.queue d.val).entries = e :: l ∧
        (e.code, e.source) ∈ (s.queue d.val).merged) ∧
    (∃ (d : DieId) (s : State),
        s.platLive = true ∧ (s.queue d.val).storm = true ∧ 1000 ≤ (s.queue d.val).tokens) :=
  ⟨⟨.sentry 0 0, 0, { code := 0x1001, source := 0, dseq := 0, count := 1, first := 0, last := 0 }, [],
     (State.reset.setQueue 0 { FaultQueue.reset with entries := [{ code := 0x1001, source := 0, dseq := 0, count := 1, first := 0, last := 0 }] }),
     by decide, by decide, by decide⟩,
    ⟨.sentry 0 0, 0, State.reset, by decide, by decide, by decide⟩,
    ⟨.sentry 0 0, 0, 1, { code := 0x1001, source := 0, dseq := 0, count := 1, first := 0, last := 0 }, [],
     (State.reset.setQueue 0 { FaultQueue.reset with entries := [{ code := 0x1001, source := 0, dseq := 0, count := 1, first := 0, last := 0 }] }),
     by decide, by decide, by decide, by decide, by decide⟩,
    ⟨.sentry 0 0, 0, 1, { code := 0x1001, source := 0, dseq := 0, count := 1, first := 0, last := 0 }, [],
     (State.reset.setQueue 0 { FaultQueue.reset with entries := [{ code := 0x1001, source := 0, dseq := 0, count := 1, first := 0, last := 0 }], merged := [(0x1001, 0)] }),
     by decide, by decide, by decide, by decide, by decide⟩,
    ⟨0, (State.reset.setQueue 0 { FaultQueue.reset with storm := true }), by decide, by decide, by decide⟩⟩

/-- The hypotheses of ReportSetsItsBitAndWaits can be met, clause by clause. -/
theorem witness_ReportSetsItsBitAndWaits :
    ∃ (d : Nat) (code : Nat) (source : Nat) (n : RegName) (i : Nat) (b : Nat) (s : State),
        faultBit d code source = some (n, i, b) ∧ n.counts = false :=
  ⟨0, 0x1001, 0, .CH_FAULT, 0, 0, State.reset, by decide, by decide⟩

/-- The hypotheses of FabricAndHashPool can be met, clause by clause. -/
theorem witness_FabricAndHashPool :
    (∃ (d : DieId) (s : State),
        s.platLive = true ∧ d.val ≠ 0 ∧ s.reached d.val = true) ∧
    (∃ (d : DieId) (s : State),
        s.reached d.val = false) ∧
    (∃ (d : DieId) (s : State),
        s.platLive = true ∧ s.present d.val = true ∧ (s.die d.val).reachable = false ∧ (s.die d.val).inReset = false) ∧
    (∃ (d : DieId) (s : State),
        s.live d.val = true ∧ s.flag Fld.FB_STATUS_UP_OK d.val = true ∧ 3 ≤ (Tbl.get (s.die d.val).hopRuns 0 (0, 0)).2) ∧
    (∃ (d : DieId) (s : State),
        s.live d.val = true ∧ s.flag Fld.FB_STATUS_DN_OK d.val = true ∧ 3 ≤ (Tbl.get (s.die d.val).hopRuns 1 (0, 0)).2) ∧
    (∃ (d : DieId) (w : Bool) (run : Nat) (s : State),
        s.live d.val = true ∧ s.flag (if w then Fld.FB_STATUS_DN_OK else Fld.FB_STATUS_UP_OK) d.val = true ∧
        ((Tbl.get (s.die d.val).hopRuns (b2n w) (0, 0)).1 ≠ run ∨ (Tbl.get (s.die d.val).hopRuns (b2n w) (0, 0)).2 < 3)) ∧
    (∃ (d : DieId) (k : Nat) (s : State),
        s.reached d.val = true) ∧
    (∃ (ch : ChanId) (g : Nat) (e : DieId) (j : Job) (s : State),
        s.chLive ch.val = true ∧ s.jobAt ch.val g e.val = some j ∧
        s.getF Fld.HP_CTRL_JOB_TIMEOUT (ch.val / 8) ≤ s.usSince j.since) ∧
    (∃ (ch : ChanId) (g : Nat) (e : DieId) (s : State),
        (∀ j, s.jobAt ch.val g e.val = some j → s.usSince j.since < s.getF Fld.HP_CTRL_JOB_TIMEOUT (ch.val / 8))) ∧
    (∃ (e : DieId) (o : DieId) (k : Nat) (s : State),
        s.reached e.val = true ∧ (∃ f ∈ (s.die o.val).fences, f.executor = e.val ∧ f.gen = k ∧ f.got = false)) ∧
    (∃ (o : DieId) (e : DieId) (f : Fence) (s : State),
        s.reached o.val = true ∧ ((s.die o.val).fences.find? fun f => decide (f.executor = e.val) && f.got) = some f ∧
        (∀ g ∈ (s.die e.val).guests, g.owner = o.val → g.started.isSome = true → genOlder g.gen f.gen = false) ∧
        s.flag Fld.HP_STATUS_FENCE_STALL o.val = false) ∧
    (∃ (o : DieId) (e : DieId) (f : Fence) (s : State),
        s.reached o.val = true ∧ (s.die o.val).fences = [f] ∧ f.executor = e.val ∧ f.got = true ∧
        (∀ g ∈ (s.die e.val).guests, g.owner = o.val → g.started.isSome = true → genOlder g.gen f.gen = false)) ∧
    (∃ (o : DieId) (e : DieId) (s : State),
        (∀ f ∈ (s.die o.val).fences, f.executor = e.val → f.got = false)) ∧
    (∃ (d : DieId) (l : Fin 4) (s : State),
        s.live d.val = true ∧ l.val ∉ (s.die d.val).lanesOut ∧
        bitOf (s.getF Fld.HP_STATUS_LANES_OK d.val) l.val = false) ∧
    (∃ (d : DieId) (l : Fin 4) (s : State),
        s.live d.val = true) :=
  ⟨⟨7, State.reset, by decide, by decide, by decide⟩,
    ⟨0, (State.reset.modDie 0 fun x => { x with reachable := false }), by decide⟩,
    ⟨0, (State.reset.modDie 0 fun x => { x with reachable := false }), by decide, by decide, by decide, by decide⟩,
    ⟨0, ((State.reset.setF Fld.FB_STATUS_UP_OK 0 1).modDie 0 fun x => { x with hopRuns := [(0, (0, 3))] }), by decide,
     by decide, by decide⟩,
    ⟨0, ((State.reset.setF Fld.FB_STATUS_DN_OK 0 1).modDie 0 fun x => { x with hopRuns := [(1, (0, 3))] }), by decide,
     by decide, by decide⟩,
    ⟨0, false, 0, (State.reset.setF Fld.FB_STATUS_UP_OK 0 1), by decide, by decide, by decide⟩,
    ⟨0, 0, State.reset, by decide⟩,
    ⟨0, 0, 0, { ch := 0, granule := 0, gen := 0, executor := 0, lane := none, result := none, reread := none },
     ((State.reset.setF Fld.HP_CTRL_JOB_TIMEOUT 0 0).modDie 0 fun x => { x with jobs := [{ ch := 0, granule := 0, gen := 0, executor := 0, lane := none, result := none, reread := none }] }),
     by decide, by decide, by decide⟩,
    ⟨0, 0, 0, State.reset, fun _ h => nomatch (show (none : Option Job) = some _ from h)⟩,
    ⟨1, 0, 0, (State.reset.modDie 0 fun x => { x with fences := [{ executor := 1, gen := 0 }] }), by decide, by decide⟩,
    ⟨0, 1, { executor := 1, gen := 0, got := true },
     (State.reset.modDie 0 fun x => { x with fences := [{ executor := 1, gen := 0, got := true }] }), by decide,
     by decide, by decide, by decide⟩,
    ⟨0, 1, { executor := 1, gen := 0, got := true },
     (State.reset.modDie 0 fun x => { x with fences := [{ executor := 1, gen := 0, got := true }] }), by decide,
     by decide, by decide, by decide, by decide⟩,
    ⟨0, 0, State.reset, by decide⟩,
    ⟨0, 3, (State.reset.setF Fld.HP_STATUS_LANES_OK 0 0), by decide, by decide, by decide⟩,
    ⟨0, 3, State.reset, by decide⟩⟩

/-- The hypotheses of ResetSources can be met, clause by clause. -/
theorem witness_ResetSources :
    (∃ (s : State),
        s.seq.rstN = false ∧ s.seq.aonHeld = false ∧ s.seq.frozen = false ∧ s.seq.phase = .run) ∧
    (∃ (s : State),
        s.seq.perstN = false ∧ s.seq.frozen = false ∧ s.seq.phase = .run ∧ s.seq.part = false ∧ s.seq.dies = []) ∧
    (∃ (s : State),
        s.hifLive = true ∧ s.seq.frozen = false ∧ s.seq.phase = .run ∧ s.seq.part = false ∧ s.seq.dies = []) ∧
    (∃ (f : FnId) (s : State),
        s.hifLive = true ∧ s.fnLive f.val = true ∧ f.val ≠ 0) ∧
    (∃ (req : Requester) (v : Word) (d : DieId) (s : State),
        s.PlatOpen req ∧ s.seq.phase = .run ∧ bitOf v.toNat d.val = true ∧ s.present d.val = true) ∧
    (∃ (d : DieId) (k : CoreId) (s : State),
        s.platLive = true ∧ s.live d.val = true ∧ s.flag Fld.SN_WDT_RUNNING (4 * d.val + k.val) = true ∧
        ¬ (d.val = 0 ∧ k.val = 0) ∧ bitsOf (s.rd .RC_WDT_ESC 0).toNat (2 * d.val) 2 = 0 ∧
        1000 * (s.core d.val k.val).period ≤ s.usSince (s.core d.val k.val).kickUs) ∧
    (∃ (s : State),
        s.platLive = true ∧ s.live 0 = true ∧ s.flag Fld.SN_WDT_RUNNING 0 = true ∧ s.seq.phase = .run ∧
        s.romKicks = false ∧ 1000 * (s.core 0 0).period ≤ s.usSince (s.core 0 0).kickUs) ∧
    (∃ (s : State),
        s.platLive = true ∧ s.guard.resetDue = true ∧ s.seq.phase = .run ∧
        ((s.guard.burn = none ∧ s.folio.staged = []) ∨ 2000 ≤ s.usSince s.guard.resetUs)) :=
  ⟨⟨State.reset, by decide, by decide, by decide, by decide⟩,
    ⟨State.reset, by decide, by decide, by decide, by decide, by decide⟩,
    ⟨State.reset, by decide, by decide, by decide, by decide, by decide⟩,
    ⟨255, { State.reset with hif := { Hif.reset with vfEnable := true, numVfs := 255 } }, by decide, by decide,
     by decide⟩,
    ⟨.sentry 0 0, 128, 7, State.reset, by decide, by decide, by decide, by decide⟩,
    ⟨7, 3, ((State.reset.setF Fld.SN_WDT_RUNNING 31 1).modCore 7 3 fun c => { c with kickUs := 1, period := 1 }),
     by decide, by decide, by decide, by decide, by decide, by decide⟩,
    ⟨((State.reset.setF Fld.SN_WDT_RUNNING 0 1).modCore 0 0 fun c => { c with kickUs := 1, period := 1 }), by decide,
     by decide, by decide, by decide, by decide, by decide⟩,
    ⟨{ State.reset with guard := { Guard.reset with resetDue := true } }, by decide, by decide, by decide, by decide⟩⟩

/-- The hypotheses of ResetsTakeHold can be met, clause by clause. -/
theorem witness_ResetsTakeHold :
    (∃ (rc : Fin 501) (s : State),
        s.seq.phase = .deferred ∧ s.seq.frozen = false ∧ s.seq.wait = false ∧ s.seq.part = true ∧ s.fuses.run = none ∧
        s.portsBusy = false) ∧
    (∃ (rc : Fin 501) (s : State),
        s.seq.phase = .deferred ∧ s.seq.frozen = false ∧ s.seq.wait = false ∧ s.seq.part = true ∧ s.fuses.run = none ∧
        s.portsBusy = false ∧ s.seq.refclkLost = false ∧ (∀ n, (s.ch n).frame = none)) ∧
    (∃ (rc : Fin 501) (s : State),
        s.seq.phase = .deferred ∧ s.seq.frozen = false ∧ s.seq.wait = false ∧ s.seq.part = true ∧
        bitOf s.seq.causes 1 = false ∧ bitOf s.seq.causes 7 = false ∧ bitOf s.seq.causes 8 = false ∧
        (s.fuses.run.isSome = true ∨ s.portsBusy = true)) ∧
    (∃ (rc : Fin 501) (s : State),
        s.seq.phase = .deferred ∧ s.seq.frozen = false ∧ s.seq.wait = true ∧ s.seq.part = true ∧ s.pulseNow = false ∧
        s.portsBusy = false) ∧
    (∃ (rc : Fin 501) (s : State),
        s.seq.phase = .deferred ∧ s.seq.frozen = false ∧ s.seq.wait = true ∧ (s.pulseNow = true ∨ s.portsBusy = true)) ∧
    (∃ (rc : Fin 501) (s : State),
        s.seq.phase = .deferred ∧ s.seq.frozen = false ∧ s.seq.wait = false ∧ s.seq.part = false ∧ s.seq.dies = [] ∧
        s.seq.hif = true ∧ s.seq.next = none) ∧
    (∃ (s : State),
        s.seq.phase = .deferred ∧ s.seq.frozen = false ∧ s.seq.wait = true ∧ s.pulseNow = false ∧ s.seq.part = true) ∧
    (∃ (rc : Fin 501) (s : State),
        s.seq.phase ≠ .deferred ∧ s.seq.next = none) ∧
    (∃ (rc : Fin 501) (s : State),
        s.seq.phase = .hold ∧ s.seq.frozen = false ∧ s.fuses.run = none ∧ s.portsBusy = false ∧ s.seq.next = none) ∧
    (∃ (rc : Fin 501) (s : State),
        s.seq.phase = .run) ∧
    (∃ (rc : Fin 501) (s : State),
        s.seq.refclkLost = false ∧ s.seq.aonHeld = false ∧ s.seq.frozen = false) ∧
    (∃ (s : State),
        s.seq.refclkLost = true ∧ s.seq.aonHeld = false ∧ s.seq.frozen = false ∧ s.seq.phase = .hold) :=
  ⟨⟨0, { State.reset with seq := { Seq.reset with phase := .deferred, part := true } }, by decide, by decide,
     by decide, by decide, by decide, by decide⟩,
    ⟨0, { State.reset with seq := { Seq.reset with phase := .deferred, part := true } }, by decide, by decide,
     by decide, by decide, by decide, by decide, by decide, fun _ => rfl⟩,
    ⟨0,
     { { State.reset with seq := { Seq.reset with phase := .deferred, part := true } } with fuses := { Fuses.reset with run := some { op := 3, die := 0, region := 1, wdata := 1, todo := [{ die := 0, row := 0, place := some 0, value := 1 }], tries := 2, tamper := false } } },
     by decide, by decide, by decide, by decide, by decide, by decide, by decide, by decide⟩,
    ⟨0, { State.reset with seq := { Seq.reset with phase := .deferred, part := true, wait := true } }, by decide,
     by decide, by decide, by decide, by decide, by decide⟩,
    ⟨0,
     { { State.reset with seq := { Seq.reset with phase := .deferred, part := true, wait := true, pulse := true } } with fuses := { Fuses.reset with run := some { op := 3, die := 0, region := 1, wdata := 1, todo := [{ die := 0, row := 0, place := some 0, value := 1 }], tries := 2, tamper := false } } },
     by decide, by decide, by decide, by decide⟩,
    ⟨0, { State.reset with seq := { Seq.reset with phase := .deferred, hif := true } }, by decide, by decide,
     by decide, by decide, by decide, by decide, by decide⟩,
    ⟨{ State.reset with seq := { Seq.reset with phase := .deferred, part := true, wait := true } }, by decide,
     by decide, by decide, by decide, by decide⟩,
    ⟨0, State.reset, by decide, by decide⟩,
    ⟨0, { State.reset with seq := { Seq.reset with phase := .hold } }, by decide, by decide, by decide, by decide,
     by decide⟩,
    ⟨0, State.reset, by decide⟩,
    ⟨0, State.reset, by decide, by decide, by decide⟩,
    ⟨{ State.reset with seq := { Seq.reset with phase := .hold, refclkLost := true } }, by decide, by decide,
     by decide, by decide⟩⟩

/-- The hypotheses of ReleaseSequence can be met, clause by clause. -/
theorem witness_ReleaseSequence :
    (∃ (s : State),
        s.seq.phase = .hold ∧ s.seq.frozen = false ∧ s.seq.levels = [] ∧ s.seq.badSupplies = [] ∧
        s.seq.refclkLost = false) ∧
    (∃ (s : State),
        s.seq.phase = .hold ∧ (s.seq.levels ≠ [] ∨ s.seq.badSupplies ≠ [])) ∧
    (∃ (d : DieId) (s : State),
        s.seq.phase = .rel 25 ∧ s.seq.frozen = false ∧ d.val ∈ s.scopeDies) ∧
    (∃ (s : State),
        s.seq.phase = .rel 25 ∧ s.seq.frozen = false ∧ s.seq.part = true) ∧
    (∃ (s : State),
        s.seq.phase = .rel 1300 ∧ s.seq.frozen = false) ∧
    (∃ (l : List DieId) (d : DieId) (s : State),
        s.seq.phase = .rel 2600 ∧ s.seq.frozen = false ∧ d ∈ l ∧ d.val ≠ 0 ∧ d.val ∈ s.scopeDies) ∧
    (∃ (s : State),
        s.seq.phase = .rel 2600 ∧ s.seq.frozen = false) ∧
    (∃ (s : State),
        s.seq.phase = .rel 2900 ∧ s.seq.frozen = false ∧ s.seq.part = false ∧ s.seq.pll = true) ∧
    (∃ (a : Nat) (b : Nat) (s : State),
        s.hifLive = true ∧ s.seq.perstN = false) :=
  ⟨⟨{ State.reset with seq := { Seq.reset with phase := .hold, part := true } }, by decide, by decide, by decide,
     by decide, by decide⟩,
    ⟨{ State.reset with seq := { Seq.reset with phase := .hold, levels := [.rstN] } }, by decide, by decide⟩,
    ⟨7, { State.reset with seq := { Seq.reset with phase := .rel 25, part := true } }, by decide, by decide, by decide⟩,
    ⟨{ State.reset with seq := { Seq.reset with phase := .rel 25, part := true } }, by decide, by decide, by decide⟩,
    ⟨{ State.reset with seq := { Seq.reset with phase := .rel 1300, part := true } }, by decide, by decide⟩,
    ⟨[7], 7, { State.reset with seq := { Seq.reset with phase := .rel 2600, part := true } }, by decide, by decide,
     by decide, by decide, by decide⟩,
    ⟨{ State.reset with seq := { Seq.reset with phase := .rel 2600, part := true } }, by decide, by decide⟩,
    ⟨{ State.reset with seq := { Seq.reset with phase := .rel 2900, pll := true } }, by decide, by decide, by decide,
     by decide⟩,
    ⟨4, 4, State.reset, by decide, by decide⟩⟩

/-- The hypotheses of FreezeAndTap can be met, clause by clause. -/
theorem witness_FreezeAndTap :
    (∃ (s : State),
        s.seq.frozen = false ∧ s.seq.aonHeld = false) ∧
    (∃ (s : State),
        s.seq.frozen = false ∧ s.seq.aonHeld = false ∧ s.lc = 1) ∧
    (∃ (s : State),
        s.lc = 3) ∧
    (∃ (op : Fin 4) (a : Word) (s : State),
        s.seq.aonHeld = false ∧ s.seq.frozen = true ∧ op.val ≠ 1) ∧
    (∃ (a : Word) (s : State),
        s.seq.aonHeld = false ∧ s.seq.frozen = true ∧ a.toNat % 4 = 0 ∧ 0x7000 ≤ a.toNat ∧ a.toNat < 0x9000 ∧ 1 < s.lc) ∧
    (∃ (a : Word) (s : State),
        s.seq.aonHeld = false ∧ s.seq.frozen = true ∧ a.toNat = 0x2000) ∧
    (∃ (c : List Bool) (s : State),
        s.seq.aonHeld = false ∧ s.seq.frozen = false ∧ s.lc ≤ 1) ∧
    (∃ (c : List Bool) (s : State),
        1 < s.lc) ∧
    (∃ (c : List Bool) (s : State),
        s.seq.aonHeld = false ∧ s.lc ≤ 4) ∧
    (∃ (s : State),
        s.seq.aonHeld = false) ∧
    (∃ (s : State),
        s.seq.frozen = false ∧ s.seq.aonHeld = false ∧ bitOf s.seq.causes 2 = false ∧
        (∀ c ∈ s.pending, endsFreeze c = false)) ∧
    (∃ (s : State),
        s.seq.frozen = false ∧ s.seq.aonHeld = false ∧ (s.lc ≤ 1 ∨ s.lc = 4) ∧ bitOf s.seq.causes 2 = false ∧
        (∀ c ∈ s.pending, endsFreeze c = false)) ∧
    (∃ (s : State),
        s.seq.frozen = true ∧ s.seq.aonHeld = false ∧ s.seq.rstN = false ∧ s.seq.phase = .run) ∧
    (∃ (rc : Fin 501) (s : State),
        s.seq.frozen = true ∧ s.seq.phase = .deferred ∧ s.seq.part = true ∧ s.seq.wait = false ∧
        bitOf s.seq.causes 2 = true ∧ bitOf s.seq.causes 8 = true) :=
  ⟨⟨State.reset, by decide, by decide⟩,
    ⟨(State.reset.setF Fld.FU_LC_CURRENT 0 1), by decide, by decide, by decide⟩,
    ⟨(State.reset.setF Fld.FU_LC_CURRENT 0 3), by decide⟩,
    ⟨3, 0, { State.reset with seq := { Seq.reset with frozen := true } }, by decide, by decide, by decide⟩,
    ⟨0x8FFC, { (State.reset.setF Fld.FU_LC_CURRENT 0 2) with seq := { Seq.reset with frozen := true } }, by decide,
     by decide, by decide, by decide, by decide, by decide⟩,
    ⟨0x2000, { State.reset with seq := { Seq.reset with frozen := true } }, by decide, by decide, by decide⟩,
    ⟨[], State.reset, by decide, by decide, by decide⟩,
    ⟨[], (State.reset.setF Fld.FU_LC_CURRENT 0 2), by decide⟩,
    ⟨[], (State.reset.setF Fld.FU_LC_CURRENT 0 4), by decide, by decide⟩,
    ⟨State.reset, by decide⟩,
    ⟨State.reset, by decide, by decide, by decide, by decide⟩,
    ⟨(State.reset.setF Fld.FU_LC_CURRENT 0 4), by decide, by decide, by decide, by decide, by decide⟩,
    ⟨{ State.reset with seq := { Seq.reset with frozen := true } }, by decide, by decide, by decide, by decide⟩,
    ⟨0, { State.reset with seq := { Seq.reset with frozen := true, phase := .deferred, part := true, causes := 260 } },
     by decide, by decide, by decide, by decide, by decide, by decide⟩⟩

/-- The hypotheses of MasterPortQueue can be met, clause by clause. -/
theorem witness_MasterPortQueue :
    (∃ (req : Requester) (p : PortId) (v : Word) (l : Stores) (s : State),
        s.PortOpen req p.val) ∧
    (∃ (req : Requester) (p : PortId) (v : Word) (s : State),
        s.PortOpen req p.val) ∧
    (∃ (req : Requester) (p : PortId) (v : Word) (s : State),
        s.PortOpen req p.val ∧ s.flag Fld.MP_QCTL_RUN p.val = false) ∧
    (∃ (p : PortId) (ev : MpEvent) (es : List QEntry) (e : QEntry) (s : State),
        s.portLive p.val = true ∧ (s.port p.val).run = none ∧ s.deferring = false ∧ ev.rivals.any ev.yields = false ∧
        ev.owner = 0 ∧ s.flag Fld.MP_QCTL_RUN p.val = true ∧ (s.port p.val).polling = none ∧
        s.headFrame p.val = some (e :: es) ∧ s.frameRefused p.val (e :: es) = false) ∧
    (∃ (p : PortId) (ev : MpEvent) (es : List QEntry) (e : QEntry) (s : State),
        s.portLive p.val = true ∧ (s.port p.val).run = none ∧ s.deferring = false ∧ ev.rivals.any ev.yields = false ∧
        ev.owner = 0 ∧ s.flag Fld.MP_QCTL_RUN p.val = true ∧ (s.port p.val).polling = none ∧
        s.headFrame p.val = some (e :: es) ∧ s.frameRefused p.val (e :: es) = true) ∧
    (∃ (p : PortId) (r : PortRun) (s : State),
        s.portLive p.val = true ∧ (s.port p.val).run = some r) ∧
    (∃ (p : PortId) (s : State),
        (s.port p.val).run = none) ∧
    (∃ (p : PortId) (ev : MpEvent) (q : Nat × Word) (es : List QEntry) (e : QEntry) (s : State),
        s.portLive p.val = true ∧ (s.port p.val).run = none ∧ s.deferring = false ∧ (s.port p.val).polling = some q ∧
        s.usSince q.2 < s.pollLimitUs p.val ∧
        max 1 (s.getF Fld.MP_CTRL_POLL_US p.val) ≤ s.usSince (s.port p.val).pollUs ∧
        s.headFrame p.val = some (e :: es) ∧ s.frameRefused p.val (e :: es) = false) ∧
    (∃ (p : PortId) (q : Nat × Word) (es : List QEntry) (s : State),
        s.portLive p.val = true ∧ (s.port p.val).run = none ∧ (s.port p.val).polling = some q ∧
        s.pollLimitUs p.val ≤ s.usSince q.2 ∧ s.headFrame p.val = some es) ∧
    (∃ (p : PortId) (b : Bool) (s : State),
        s.portLive p.val = true ∧ bitOf (s.getF Fld.MP_STATUS_WAIT_WR p.val) (b2n b) = true ∧
        s.pollLimitUs p.val ≤ s.usSince (Tbl.get (s.port p.val).waitUs (b2n b) 0)) :=
  ⟨⟨.sentry 0 0, 2, 0, [], State.reset, by decide⟩,
    ⟨.sentry 0 0, 1, 0, State.reset, by decide⟩,
    ⟨.sentry 0 0, 0, 0, State.reset, by decide, by decide⟩,
    ⟨0, ev0, [], qe 0, qState 0, by decide, by decide, by decide, by decide, by decide, by decide, by decide,
     by decide, by decide⟩,
    ⟨0, ev0, [], qe 3, qState 3, by decide, by decide, by decide, by decide, by decide, by decide, by decide,
     by decide, by decide⟩,
    ⟨0, pr0, (State.reset.modPort 0 fun x => { x with run := some pr0 }), by decide, by decide⟩,
    ⟨0, State.reset, by decide⟩,
    ⟨0, ev0, (0, 0), [], qe 0, ((qState 0).modPort 0 fun x => { x with polling := some (0, 0), pollUs := 1 }),
     by decide, by decide, by decide, by decide, by decide, by decide, by decide, by decide⟩,
    ⟨0, (0, 1), [qe 0], ((qState 0).modPort 0 fun x => { x with polling := some (0, 1) }), by decide, by decide,
     by decide, by decide, by decide⟩,
    ⟨1, true, ((State.reset.setF Fld.MP_STATUS_WAIT_WR 1 2).modPort 1 fun x => { x with waitUs := [(1, 1)] }),
     by decide, by decide, by decide⟩⟩

/-- The hypotheses of XipWindow can be met, clause by clause. -/
theorem witness_XipWindow :
    (∃ (d : DieId) (k : CoreId) (a : Nat) (p : Nat × List Byte) (s : State),
        s.platLive = true ∧ s.reached d.val = true ∧ 0x60000000 ≤ a ∧ a < 0x64000000 ∧
        s.flag Fld.XIP_CTRL_ENABLE 0 = true ∧ (a - 0x60000000) / 4096 < s.getF Fld.XIP_LEAVES_LEAF_COUNT 0 ∧
        (a - 0x60000000) / 4096 ∉ s.xip.failed ∧
        (s.xip.lines.find? fun p => decide (p.1 = (a - 0x60000000) / 4096)) = some p) ∧
    (∃ (d : DieId) (k : CoreId) (a : Nat) (s : State),
        s.platLive = true ∧ s.reached d.val = true ∧ 0x60000000 ≤ a ∧ a < 0x64000000 ∧
        s.flag Fld.XIP_CTRL_ENABLE 0 = false) ∧
    (∃ (d : DieId) (k : CoreId) (a : Nat) (s : State),
        s.platLive = true ∧ s.reached d.val = true ∧ 0x60000000 ≤ a ∧ a < 0x64000000 ∧
        s.flag Fld.XIP_CTRL_ENABLE 0 = true ∧ (a - 0x60000000) / 4096 < s.getF Fld.XIP_LEAVES_LEAF_COUNT 0 ∧
        (a - 0x60000000) / 4096 ∉ s.xip.failed ∧
        (s.xip.lines.find? fun p => decide (p.1 = (a - 0x60000000) / 4096)) = none) ∧
    (∃ (leaf : Nat) (x : BootRead) (y : BootRead) (f : XipFill) (s : State) (u : State),
        s.platLive = true ∧ (s.xip.fills.find? fun f => decide (f.leaf = leaf)) = some f ∧
        u = s.modXip (fun x => { x with fills := x.fills.filter fun g => decide (g.leaf ≠ leaf) })) ∧
    (∃ (leaf : Nat) (f : XipFill) (s : State),
        s.platLive = true ∧
        ((s.xip.fills ++ s.xip.queued).find? fun f => decide (f.leaf = leaf) && s.xipSlow f) = some f ∧ f.waiters ≠ []) ∧
    (∃ (d : DieId) (k : CoreId) (a : Nat) (s : State),
        s.platLive = true ∧ s.reached d.val = true) ∧
    (∃ (req : Requester) (v : Word) (s : State),
        s.PlatOpen req ∧ s.flag Fld.XIP_CTRL_ENABLE 0 = false ∧ s.flag Fld.XIP_STATUS_ROOTED 0 = false) ∧
    (∃ (req : Requester) (v : Word) (s : State),
        s.PlatOpen req ∧ s.flag Fld.XIP_CTRL_ENABLE 0 = true ∧ Fld.XIP_CTRL_ENABLE.of v = 0) ∧
    (∃ (req : Requester) (v : Word) (s : State),
        s.PlatOpen req ∧ s.flag Fld.XIP_STATUS_ROOTED 0 = true ∧ s.flag Fld.XIP_CTRL_ENABLE 0 = false ∧
        Fld.XIP_CTRL_ENABLE.of v = 1) :=
  ⟨⟨0, 0, 0x60000FFF, (0, []),
     { ((State.reset.setF Fld.XIP_CTRL_ENABLE 0 1).setF Fld.XIP_LEAVES_LEAF_COUNT 0 1) with xip := { Xip.reset with lines := [(0, [])] } },
     by decide, by decide, by decide, by decide, by decide, by decide, by decide, by decide⟩,
    ⟨0, 0, 0x63FFFFFF, State.reset, by decide, by decide, by decide, by decide, by decide⟩,
    ⟨0, 0, 0x60000000, ((State.reset.setF Fld.XIP_CTRL_ENABLE 0 1).setF Fld.XIP_LEAVES_LEAF_COUNT 0 1), by decide,
     by decide, by decide, by decide, by decide, by decide, by decide, by decide⟩,
    ⟨0, { data := [], path := [] }, { data := [], path := [] },
     { leaf := 0, waiters := [{ die := 0, core := 1, addr := 0x60000000, kind := .load }] },
     { ((State.reset.setF Fld.XIP_CTRL_ENABLE 0 1).setF Fld.XIP_LEAVES_LEAF_COUNT 0 1) with xip := { Xip.reset with fills := [{ leaf := 0, waiters := [{ die := 0, core := 1, addr := 0x60000000, kind := .load }] }] } },
     _, by decide, by decide, rfl⟩,
    ⟨0, { leaf := 0, waiters := [{ die := 0, core := 1, addr := 0x60000000, kind := .load }], since := some 1 },
     { ((State.reset.setF Fld.XIP_CTRL_ENABLE 0 1).setF Fld.XIP_LEAVES_LEAF_COUNT 0 1) with xip := { Xip.reset with fills := [{ leaf := 0, waiters := [{ die := 0, core := 1, addr := 0x60000000, kind := .load }], since := some 1 }] } },
     by decide, by decide, by decide⟩,
    ⟨0, 0, 0x60000000, State.reset, by decide, by decide⟩,
    ⟨.sentry 0 0, 1, State.reset, by decide, by decide, by decide⟩,
    ⟨.sentry 0 0, 0, (State.reset.setF Fld.XIP_CTRL_ENABLE 0 1), by decide, by decide, by decide⟩,
    ⟨.sentry 0 0, 1, (State.reset.setF Fld.XIP_STATUS_ROOTED 0 1), by decide, by decide, by decide, by decide⟩⟩

/-- The hypotheses of BootControl can be met, clause by clause. -/
theorem witness_BootControl :
    (∃ (a : SlotInput) (b : SlotInput) (s : State),
        s.romRuns = true ∧ s.boot.ran = false ∧ 2 ≤ s.lc ∧ s.lc ≤ 4) ∧
    (∃ (a : SlotInput) (b : SlotInput) (s : State),
        s.romRuns = true ∧ s.boot.ran = false ∧ s.lc < 2) ∧
    (∃ (a : SlotInput) (b : SlotInput) (s : State),
        s.boot.ran = true) ∧
    (∃ (d : DieId) (leaf : Nat) (x : BootRead) (y : BootRead) (im : Image) (s : State),
        s.platLive = true ∧ s.reached d.val = true ∧ s.boot.force = false ∧ (d.val, leaf) ∈ s.boot.left ∧
        (d.val, leaf) ∉ s.boot.failed ∧ s.boot.image = some im) ∧
    (∃ (l : List DieId) (im : Image) (s : State),
        s.romRuns = true ∧ s.boot.image = some im ∧ s.stage1Done im = true ∧ im.slot < 2) ∧
    (∃ (s : State),
        s.romRuns = true ∧ s.boot.inWait = true ∧ s.boot.rescue = none ∧ s.boot.waitLeft = 0) ∧
    (∃ (req : Requester) (ok : Bool) (slot : Bool) (d : DieId) (s : State),
        s.PlatOpen req ∧ fromDie0 req = false) ∧
    (∃ (req : Requester) (s : State),
        s.PlatOpen req ∧ fromDie0 req = true ∧ s.flag Fld.BT_STATUS_PENDING 0 = true) ∧
    (∃ (req : Requester) (s : State),
        s.PlatOpen req ∧ fromDie0 req = true ∧ s.flag Fld.BT_STATUS_PENDING 0 = true) ∧
    (∃ (req : Requester) (ok : Bool) (s : State),
        s.PlatOpen req ∧ fromDie0 req = true ∧ s.flag Fld.BT_STATUS_PENDING 0 = false) ∧
    (∃ (s : State),
        s.platLive = true ∧ s.flag Fld.BT_STATUS_PENDING 0 = true ∧ s.getF Fld.BT_CONFIRM_LEFT_S 0 = 0 ∧
        s.boot.force = false) ∧
    (∃ (req : Requester) (slot : Bool) (s : State),
        s.PlatOpen req ∧ fromDie0 req = true) ∧
    (∃ (x : SlotInput) (l : List (List Byte)) (s : State) (u : State),
        s.platLive = true ∧ s.flag Fld.BT_CHECK_BUSY 0 = true ∧
        u = (if x.colophon.isSome then s.coReads (x.colophon.getD []) false else s)) ∧
    (∃ (req : Requester) (d : DieId) (im : Image) (s : State),
        s.PlatOpen req ∧ fromDie0 req = true ∧ s.boot.image = some im ∧ s.getF Fld.BT_STATUS_SLOT 0 ≠ 2 ∧
        s.reached d.val = true ∧ ((copyList s.nDies im.sections).filter fun p => decide (p.1 = d.val)) ≠ []) :=
  ⟨⟨{ header := [], colophon := none, groups := [], leaf0 := none, trialOk := true, noData := true },
     { header := [], colophon := none, groups := [], leaf0 := none, trialOk := true, noData := true },
     (State.reset.setF Fld.FU_LC_CURRENT 0 4), by decide, by decide, by decide, by decide⟩,
    ⟨{ header := [], colophon := none, groups := [], leaf0 := none, trialOk := true, noData := true },
     { header := [], colophon := none, groups := [], leaf0 := none, trialOk := true, noData := true }, State.reset,
     by decide, by decide, by decide⟩,
    ⟨{ header := [], colophon := none, groups := [], leaf0 := none, trialOk := true, noData := true },
     { header := [], colophon := none, groups := [], leaf0 := none, trialOk := true, noData := true },
     { State.reset with boot := { Boot.reset with ran := true } }, by decide⟩,
    ⟨0, 0, { data := [], path := [] }, { data := [], path := [] },
     { slot := 1, message := [], version := 1, leaves := 1, pending := false, confirmS := 0, entryPc := 0, sections := [{ first := 0, length := 4096, dest := 0, dies := 1, xip := false, stage1 := true }] },
     { State.reset with boot := { Boot.reset with left := [(0, 0)], image := some { slot := 1, message := [], version := 1, leaves := 1, pending := false, confirmS := 0, entryPc := 0, sections := [{ first := 0, length := 4096, dest := 0, dies := 1, xip := false, stage1 := true }] } } },
     by decide, by decide, by decide, by decide, by decide, by decide⟩,
    ⟨[],
     { slot := 1, message := [], version := 1, leaves := 1, pending := false, confirmS := 0, entryPc := 0, sections := [{ first := 0, length := 4096, dest := 0, dies := 1, xip := false, stage1 := true }] },
     { State.reset with boot := { Boot.reset with image := some { slot := 1, message := [], version := 1, leaves := 1, pending := false, confirmS := 0, entryPc := 0, sections := [{ first := 0, length := 4096, dest := 0, dies := 1, xip := false, stage1 := true }] } } },
     by decide, by decide, by decide, by decide⟩,
    ⟨{ State.reset with boot := { Boot.reset with inWait := true } }, by decide, by decide, by decide, by decide⟩,
    ⟨.pf, false, false, 0, State.reset, by decide, by decide⟩,
    ⟨.sentry 0 0, (State.reset.setF Fld.BT_STATUS_PENDING 0 1), by decide, by decide, by decide⟩,
    ⟨.sentry 0 0, (State.reset.setF Fld.BT_STATUS_PENDING 0 1), by decide, by decide, by decide⟩,
    ⟨.sentry 0 0, false, State.reset, by decide, by decide, by decide⟩,
    ⟨(State.reset.setF Fld.BT_STATUS_PENDING 0 1), by decide, by decide, by decide, by decide⟩,
    ⟨.sentry 0 0, false, State.reset, by decide, by decide⟩,
    ⟨{ header := [], colophon := none, groups := [], leaf0 := none, trialOk := true, noData := true }, [],
     (State.reset.setF Fld.BT_CHECK_BUSY 0 1), _, by decide, by decide, rfl⟩,
    ⟨.sentry 0 0, 0,
     { slot := 1, message := [], version := 1, leaves := 1, pending := false, confirmS := 0, entryPc := 0, sections := [{ first := 0, length := 4096, dest := 0, dies := 1, xip := false, stage1 := true }] },
     { State.reset with boot := { Boot.reset with image := some { slot := 1, message := [], version := 1, leaves := 1, pending := false, confirmS := 0, entryPc := 0, sections := [{ first := 0, length := 4096, dest := 0, dies := 1, xip := false, stage1 := true }] } } },
     by decide, by decide, by decide, by decide, by decide, by decide⟩⟩

/-- The hypotheses of SentryCores can be met, clause by clause. -/
theorem witness_SentryCores :
    (∃ (req : Requester) (d : DieId) (v : Word) (s : State),
        s.DieOpen req d.val ∧ fromDie0 req = false) ∧
    (∃ (req : Requester) (d : DieId) (k : CoreId) (s : State),
        s.DieOpen req d.val ∧ fromDie0 req = true ∧ bitOf (s.getF Fld.BT_STATUS_DIE_DONE 0) d.val = true ∧
        bitOf (s.getF Fld.SN_CORE_RELEASE_RELEASE d.val) k.val = false) ∧
    (∃ (req : Requester) (d : DieId) (v : Word) (k : CoreId) (s : State),
        s.DieOpen req d.val ∧ fromDie0 req = true ∧ bitOf (s.getF Fld.BT_STATUS_DIE_DONE 0) d.val = false ∧
        bitOf v.toNat k.val = true ∧ bitOf (s.getF Fld.SN_CORE_RELEASE_RELEASE d.val) k.val = false) ∧
    (∃ (e : DieId) (d : DieId) (j : CoreId) (k : CoreId) (v : Word) (s : State),
        s.DieOpen (.sentry e j) d.val ∧ Fld.SN_WDT_KICK_KICK.of v = 0xA5 ∧
        ¬ (d.val = 0 ∧ k.val = 0 ∧ s.boot.force = true) ∧ s.flag Fld.SN_WDT_RUNNING (4 * d.val + k.val) = true) ∧
    (∃ (e : DieId) (d : DieId) (j : CoreId) (k : CoreId) (v : Word) (s : State),
        s.DieOpen (.sentry e j) d.val ∧ Fld.SN_WDT_KICK_KICK.of v ≠ 0xA5) ∧
    (∃ (d : DieId) (k : CoreId) (kind : AccessKind) (a : Word) (s : State),
        s.live d.val = true) ∧
    (∃ (d : DieId) (k : CoreId) (a : Word) (s : State),
        s.live d.val = true ∧ s.flag Fld.SN_TRAP_MCK_ACTIVE (4 * d.val + k.val) = false) ∧
    (∃ (d : DieId) (k : CoreId) (a : Word) (s : State),
        s.live d.val = true ∧ ¬ (d.val = 0 ∧ k.val = 0) ∧ s.flag Fld.SN_TRAP_MCK_ACTIVE (4 * d.val + k.val) = true) :=
  ⟨⟨.mailbox, 0, 0, State.reset, by decide, by decide⟩,
    ⟨.sentry 0 0, 0, 3, (State.reset.setF Fld.BT_STATUS_DIE_DONE 0 1), by decide, by decide, by decide, by decide⟩,
    ⟨.sentry 0 0, 0, 8, 3, State.reset, by decide, by decide, by decide, by decide, by decide⟩,
    ⟨0, 0, 0, 3, 0xA5, (State.reset.setF Fld.SN_WDT_RUNNING 3 1), by decide, by decide, by decide, by decide⟩,
    ⟨0, 0, 0, 0, 0, State.reset, by decide, by decide⟩,
    ⟨0, 0, .store, 0, State.reset, by decide⟩,
    ⟨0, 0, 0, State.reset, by decide, by decide⟩,
    ⟨7, 3, 0, (State.reset.setF Fld.SN_TRAP_MCK_ACTIVE 31 1), by decide, by decide, by decide⟩⟩

/-- The hypotheses of FuseReads can be met, clause by clause. -/
theorem witness_FuseReads :
    (∃ (req : Requester) (v : Word) (s : State),
        s.FuseOpen req ∧ s.present (Fld.FU_CMD_DIE.of v) = true ∧ Fld.FU_CMD_ROW.of v < fuseRows (Fld.FU_CMD_DIE.of v)) ∧
    (∃ (req : Requester) (v : Word) (s : State),
        s.FuseOpen req ∧ s.present (Fld.FU_CMD_DIE.of v) = true ∧
        Fld.FU_CMD_ROW.of v < fuseRows (Fld.FU_CMD_DIE.of v) ∧
        fuseAssigned (Fld.FU_CMD_DIE.of v) (Fld.FU_CMD_ROW.of v) = true) ∧
    (∃ (req : Requester) (v : Word) (s : State),
        s.FuseOpen req ∧ s.present (Fld.FU_CMD_DIE.of v) = true ∧ fuseRows (Fld.FU_CMD_DIE.of v) ≤ Fld.FU_CMD_ROW.of v) ∧
    (∃ (req : Requester) (v : Word) (s : State),
        s.FuseOpen req ∧ s.present (Fld.FU_CMD_DIE.of v) = true) ∧
    (∃ (req : Requester) (v : Word) (s : State),
        s.PlatOpen req ∧ (fromDie0 req = false ∨ s.flag Fld.FU_STATUS_BUSY 0 = true)) ∧
    (∃ (w : Word) (c : Word) (s : State),
        s.platLive = true ∧ 2 < s.lc) ∧
    (∃ (w : Word) (c : Word) (s : State),
        s.platLive = true ∧ s.lc ≤ 2 ∧ s.flag Fld.FU_STATUS_BUSY 0 = false ∧ s.fuses.run = none ∧
        s.present (Fld.FU_CMD_DIE.of c) = true ∧ Fld.FU_CMD_OP.of c = 1 ∧
        Fld.FU_CMD_ROW.of c < fuseRows (Fld.FU_CMD_DIE.of c)) ∧
    (∃ (w : Word) (c : Word) (s : State),
        s.platLive = true ∧ s.lc ≤ 2 ∧ s.flag Fld.FU_STATUS_BUSY 0 = true) ∧
    (∃ (s : State),
        s.platLive = true ∧ s.lc ≤ 2) :=
  ⟨⟨.sentry 0 0, 0xFFC00, State.reset, by decide, by decide, by decide⟩,
    ⟨.sentry 0 0, 0xFFC00, State.reset, by decide, by decide, by decide, by decide⟩,
    ⟨.sentry 0 0, 0x40010, State.reset, by decide, by decide, by decide⟩,
    ⟨.sentry 0 0, 0, State.reset, by decide, by decide⟩,
    ⟨.sentry 0 0, 0, (State.reset.setF Fld.FU_STATUS_BUSY 0 1), by decide, by decide⟩,
    ⟨0, 0, (State.reset.setF Fld.FU_LC_CURRENT 0 3), by decide, by decide⟩,
    ⟨0, 1, (State.reset.setF Fld.FU_LC_CURRENT 0 2), by decide, by decide, by decide, by decide, by decide, by decide,
     by decide⟩,
    ⟨0, 0, (State.reset.setF Fld.FU_STATUS_BUSY 0 1), by decide, by decide, by decide⟩,
    ⟨(State.reset.setF Fld.FU_LC_CURRENT 0 2), by decide, by decide⟩⟩

/-- The hypotheses of FuseBurns can be met, clause by clause. -/
theorem witness_FuseBurns :
    (∃ (req : Requester) (v : Word) (d : Nat) (row : Nat) (s : State),
        s.FuseOpen req ∧ s.vfuseOk = true ∧ d = Fld.FU_CMD_DIE.of v ∧ row = Fld.FU_CMD_ROW.of v ∧ s.present d = true ∧
        row < fuseRows d ∧ fuseAssigned d row = true ∧ isDataRow d row = true ∧
        s.programState (fuseRegion d row) = true ∧ s.finalised d (fuseRegion d row) = false ∧
        (s.fuseRow d row).nominal &&& (s.rd .FU_WDATA 0).toNat = (s.fuseRow d row).nominal) ∧
    (∃ (req : Requester) (v : Word) (d : Nat) (g : Nat) (s : State),
        s.FuseOpen req ∧ s.vfuseOk = true ∧ d = Fld.FU_CMD_DIE.of v ∧ g = Fld.FU_CMD_REGION.of v ∧
        s.present d = true ∧ g ≠ 0 ∧ (d = 0 ∨ g = 1) ∧ s.programState g = true ∧
        (s.fuseRow d (fillRow g)).nominal = 0x5EA10000 + g ∧ (∀ x ∈ dataRows g, (s.fuseRow d x).marginal = false) ∧
        (∀ p ∈ (digestRows g).zip (s.regionDigest d g), (s.fuseRow d p.1).nominal &&& p.2 = (s.fuseRow d p.1).nominal)) ∧
    (∃ (req : Requester) (v : Word) (s : State),
        s.FuseOpen req ∧ s.vfuseOk = true ∧ s.present (Fld.FU_CMD_DIE.of v) = true ∧ s.lc = 2 ∧
        s.finalised 0 2 = false) ∧
    (∃ (req : Requester) (v : Word) (s : State),
        s.FuseOpen req ∧ s.vfuseOk = true ∧ s.present (Fld.FU_CMD_DIE.of v) = true ∧ (s.lc = 2 ∨ s.lc = 3) ∧
        s.getF Fld.FU_COUNTS_ROLLBACK 0 < (s.rd .FU_WDATA 0).toNat ∧ (s.rd .FU_WDATA 0).toNat ≤ 256 ∧
        s.rollbackBarred (s.rd .FU_WDATA 0).toNat = false) ∧
    (∃ (req : Requester) (v : Word) (s : State),
        s.FuseOpen req ∧ s.vfuseOk = true ∧ s.present (Fld.FU_CMD_DIE.of v) = true ∧ 2 ≤ s.lc ∧ s.lc ≤ 4 ∧
        s.getF Fld.FU_COUNTS_TAMPER 0 < (s.rd .FU_WDATA 0).toNat ∧ (s.rd .FU_WDATA 0).toNat ≤ 512) ∧
    (∃ (req : Requester) (v : Word) (s : State),
        s.FuseOpen req ∧ s.vfuseOk = true ∧ s.present (Fld.FU_CMD_DIE.of v) = true ∧ (s.lc = 2 ∨ s.lc = 3) ∧
        (s.rd .FU_WDATA 0).toNat < 16) ∧
    (∃ (req : Requester) (v : Word) (s : State),
        s.FuseOpen req ∧ s.vfuseOk = true ∧ s.present (Fld.FU_CMD_DIE.of v) = true ∧
        lcPath s.lc (s.rd .FU_WDATA 0).toNat true = true ∧ s.lcReady (s.rd .FU_WDATA 0).toNat = true) ∧
    (∃ (req : Requester) (v : Word) (d : Nat) (row : Nat) (s : State),
        s.FuseOpen req ∧ d = Fld.FU_CMD_DIE.of v ∧ row = Fld.FU_CMD_ROW.of v ∧ s.present d = true) ∧
    (∃ (req : Requester) (v : Word) (d : Nat) (g : Nat) (s : State),
        s.FuseOpen req ∧ d = Fld.FU_CMD_DIE.of v ∧ g = Fld.FU_CMD_REGION.of v ∧ s.present d = true ∧ g ≠ 0 ∧
        (d = 0 ∨ g = 1) ∧ s.programState g = true ∧ (s.fuseRow d (fillRow g)).nominal ≠ 0x5EA10000 + g) ∧
    (∃ (req : Requester) (v : Word) (s : State),
        s.FuseOpen req ∧ s.present (Fld.FU_CMD_DIE.of v) = true ∧ s.lc = 3 ∧ s.getF Fld.FU_COUNTS_TAMPER 0 < 512 ∧
        (s.rd .FU_WDATA 0).toNat ≤ s.getF Fld.FU_COUNTS_TAMPER 0) ∧
    (∃ (req : Requester) (v : Word) (s : State),
        s.FuseOpen req ∧ s.present (Fld.FU_CMD_DIE.of v) = true ∧ (s.lc = 2 ∨ s.lc = 3) ∧
        s.getF Fld.FU_COUNTS_ROLLBACK 0 = 256) ∧
    (∃ (req : Requester) (v : Word) (s : State),
        s.FuseOpen req ∧ s.present (Fld.FU_CMD_DIE.of v) = true ∧ 16 ≤ (s.rd .FU_WDATA 0).toNat) ∧
    (∃ (req : Requester) (v : Word) (s : State),
        s.FuseOpen req ∧ s.present (Fld.FU_CMD_DIE.of v) = true ∧ (s.rd .FU_WDATA 0).toNat < 4 ∧
        s.lc ≠ (s.rd .FU_WDATA 0).toNat) :=
  ⟨⟨.sentry 0 0, 0, _, _, { State.reset with seq := { Seq.reset with vfuseOut := false } }, by decide, by decide, rfl,
     rfl, by decide, by decide, by decide, by decide, by decide, by decide, by decide⟩,
    ⟨.sentry 0 0, 0x80, _, _, finState, by decide, by decide, rfl, rfl, by decide, by decide, by decide, by decide,
     by decide, by decide, finDigest⟩,
    ⟨.sentry 0 0, 0, { (State.reset.setF Fld.FU_LC_CURRENT 0 2) with seq := { Seq.reset with vfuseOut := false } },
     by decide, by decide, by decide, by decide, by decide⟩,
    ⟨.sentry 0 0, 0,
     { (((State.reset.setF Fld.FU_LC_CURRENT 0 2).wr .FU_WDATA 0 1).wr .BT_SLOT_B 0 0x01000000) with seq := { Seq.reset with vfuseOut := false } },
     by decide, by decide, by decide, by decide, by decide, by decide, by decide⟩,
    ⟨.sentry 0 0, 0,
     { ((State.reset.setF Fld.FU_LC_CURRENT 0 2).wr .FU_WDATA 0 512) with seq := { Seq.reset with vfuseOut := false } },
     by decide, by decide, by decide, by decide, by decide, by decide, by decide⟩,
    ⟨.sentry 0 0, 0,
     { ((State.reset.setF Fld.FU_LC_CURRENT 0 3).wr .FU_WDATA 0 15) with seq := { Seq.reset with vfuseOut := false } },
     by decide, by decide, by decide, by decide, by decide⟩,
    ⟨.sentry 0 0, 0,
     { ((State.reset.setF Fld.FU_LC_CURRENT 0 3).wr .FU_WDATA 0 4) with seq := { Seq.reset with vfuseOut := false } },
     by decide, by decide, by decide, by decide, by decide⟩,
    ⟨.sentry 0 0, 0, _, _, State.reset, by decide, rfl, rfl, by decide⟩,
    ⟨.sentry 0 0, 0x80, _, _, State.reset, by decide, rfl, rfl, by decide, by decide, by decide, by decide, by decide⟩,
    ⟨.sentry 0 0, 0, (State.reset.setF Fld.FU_LC_CURRENT 0 3), by decide, by decide, by decide, by decide, by decide⟩,
    ⟨.sentry 0 0, 0, ((State.reset.setF Fld.FU_LC_CURRENT 0 2).setF Fld.FU_COUNTS_ROLLBACK 0 256), by decide,
     by decide, by decide, by decide⟩,
    ⟨.sentry 0 0, 0, (State.reset.wr .FU_WDATA 0 16), by decide, by decide, by decide⟩,
    ⟨.sentry 0 0, 0, (State.reset.setF Fld.FU_LC_CURRENT 0 1), by decide, by decide, by decide, by decide⟩⟩

/-- The hypotheses of FusePulses can be met, clause by clause. -/
theorem witness_FusePulses :
    (∃ (q : PulseResult) (r : FuseRun) (x : FuseTask) (l : List FuseTask) (b : Nat) (bs : List Nat) (s : State),
        s.platLive = true ∧ s.deferring = false ∧ s.fuses.run = some r ∧ r.todo = x :: l ∧ s.taskBits x = b :: bs ∧
        q.high = true) ∧
    (∃ (low : Bool) (r : FuseRun) (x : FuseTask) (l : List FuseTask) (b : Nat) (bs : List Nat) (s : State),
        s.platLive = true ∧ s.deferring = false ∧ s.vfuseOk = true ∧ s.fuses.run = some r ∧ r.todo = x :: l ∧
        s.taskBits x = b :: bs ∧ r.tries < 2) ∧
    (∃ (q : PulseResult) (r : FuseRun) (x : FuseTask) (l : List FuseTask) (b : Nat) (bs : List Nat) (s : State),
        s.platLive = true ∧ s.deferring = false ∧ s.fuses.run = some r ∧ r.todo = x :: l ∧ s.taskBits x = b :: bs ∧
        r.tries = 2 ∧ r.tamper = false ∧ q.high = false ∧ x.place.isSome = true ∧ s.fuses.queued = none) ∧
    (∃ (s : State),
        s.platLive = true ∧ s.fuses.run = none) ∧
    (∃ (r : FuseRun) (s : State),
        s.platLive = true ∧ s.fuses.run = some r ∧ r.tamper = false ∧ s.fuses.queued = none) :=
  ⟨⟨{ nominal := true, high := true, low := true },
     { op := 3, die := 0, region := 1, wdata := 1, todo := [{ die := 0, row := 0, place := none, value := 1 }], tries := 0, tamper := false },
     { die := 0, row := 0, place := none, value := 1 }, [], 0, [],
     { State.reset with fuses := { Fuses.reset with run := some { op := 3, die := 0, region := 1, wdata := 1, todo := [{ die := 0, row := 0, place := none, value := 1 }], tries := 0, tamper := false } } },
     by decide, by decide, by decide, by decide, by decide, by decide⟩,
    ⟨false,
     { op := 3, die := 0, region := 1, wdata := 1, todo := [{ die := 0, row := 0, place := none, value := 1 }], tries := 1, tamper := false },
     { die := 0, row := 0, place := none, value := 1 }, [], 0, [],
     { State.reset with seq := { Seq.reset with vfuseOut := false }, fuses := { Fuses.reset with run := some { op := 3, die := 0, region := 1, wdata := 1, todo := [{ die := 0, row := 0, place := none, value := 1 }], tries := 1, tamper := false } } },
     by decide, by decide, by decide, by decide, by decide, by decide, by decide⟩,
    ⟨{ nominal := false, high := false, low := false },
     { op := 3, die := 0, region := 1, wdata := 1, todo := [{ die := 0, row := 0, place := some 0, value := 1 }], tries := 2, tamper := false },
     { die := 0, row := 0, place := some 0, value := 1 }, [], 0, [],
     { State.reset with fuses := { Fuses.reset with run := some { op := 3, die := 0, region := 1, wdata := 1, todo := [{ die := 0, row := 0, place := some 0, value := 1 }], tries := 2, tamper := false } } },
     by decide, by decide, by decide, by decide, by decide, by decide, by decide, by decide, by decide, by decide⟩,
    ⟨State.reset, by decide, by decide⟩,
    ⟨{ op := 3, die := 0, region := 1, wdata := 1, todo := [{ die := 0, row := 0, place := none, value := 1 }], tries := 0, tamper := false },
     { State.reset with fuses := { Fuses.reset with run := some { op := 3, die := 0, region := 1, wdata := 1, todo := [{ die := 0, row := 0, place := none, value := 1 }], tries := 0, tamper := false } } },
     by decide, by decide, by decide, by decide⟩⟩

/-- The hypotheses of KeyUnit can be met, clause by clause. -/
theorem witness_KeyUnit :
    (∃ (req : Requester) (s : State),
        s.PlatOpen req) ∧
    (∃ (req : Requester) (l : Stores) (c : Digest) (s : State) (u : State),
        s.PlatOpen req ∧ fromDie0 req = true ∧ u = s.stores l ∧ s.keys.cdi1 = some c ∧ s.identity = true) ∧
    (∃ (req : Requester) (l : Stores) (s : State),
        s.PlatOpen req ∧ fromDie0 req = true ∧ (s.keys.cdi1 = none ∨ s.identity = false)) ∧
    (∃ (req : Requester) (l : Stores) (e : List Bool) (w : List Bool) (x : List (Fin 4 × Nat)) (s : State),
        s.PlatOpen req ∧ fromDie0 req = false) ∧
    (∃ (d : DieId) (s : State),
        s.platLive = true ∧ s.present d.val = true ∧ d.val ∉ s.keys.bad) ∧
    (∃ (req : Requester) (l : Stores) (e : List Bool) (w : List Bool) (x : List (Fin 4 × Nat)) (s : State),
        s.PlatOpen req ∧ fromDie0 req = true ∧ s.identity = false) ∧
    (∃ (req : Requester) (l : Stores) (e : List Bool) (w : List Bool) (x : List (Fin 4 × Nat)) (s : State),
        s.PlatOpen req ∧ fromDie0 req = true ∧ s.identity = true ∧
        (s.getF Fld.MC_STATUS_VAULT 0 = 0 ∨ s.getF Fld.MC_STATUS_VAULT 0 = 3)) ∧
    (∃ (req : Requester) (l : Stores) (x : List (Fin 4 × Nat)) (dir : List Byte) (key : List Byte) (s : State) (u : State),
        s.PlatOpen req ∧ fromDie0 req = true ∧ u = s.stores l ∧
        dir = u.sramBytes 0 ((s.rd .KU_ARG 0).toNat + 0x2000) 128 ∧ s.identity = true ∧
        s.getF Fld.MC_STATUS_VAULT 0 = 1 ∧ s.directoryBad dir = false ∧ s.sealKey 0 = some key) ∧
    (∃ (req : Requester) (l : Stores) (x : List (Fin 4 × Nat)) (dir : List Byte) (key : List Byte) (s : State) (u : State),
        s.PlatOpen req ∧ fromDie0 req = true ∧ u = s.stores l ∧
        dir = u.sramBytes 0 ((s.rd .KU_ARG 0).toNat + 0x2000) 128 ∧ s.identity = true ∧
        s.getF Fld.MC_STATUS_VAULT 0 = 1 ∧ s.directoryBad dir = false ∧ s.sealKey 0 = some key ∧ s.vaultNand 0 = false) ∧
    (∃ (req : Requester) (l : Stores) (e : List Bool) (w : List Bool) (x : List (Fin 4 × Nat)) (s : State) (u : State),
        s.PlatOpen req ∧ fromDie0 req = true ∧ u = s.stores l ∧ s.identity = true ∧ s.getF Fld.MC_STATUS_VAULT 0 = 1 ∧
        s.directoryBad (u.sramBytes 0 ((s.rd .KU_ARG 0).toNat + 0x2000) 128) = true) :=
  ⟨⟨.sentry 0 0, State.reset, by decide⟩,
    ⟨.sentry 0 0, [], [], { State.reset with keys := { Keys.reset with cdi1 := some [], holds1 := true } }, _,
     by decide, by decide, rfl, by decide, by decide⟩,
    ⟨.sentry 0 0, [], State.reset, by decide, by decide, by decide⟩,
    ⟨.pf, [], [], [], [], State.reset, by decide, by decide⟩,
    ⟨7, State.reset, by decide, by decide, by decide⟩,
    ⟨.sentry 0 0, [], [], [], [], State.reset, by decide, by decide, by decide⟩,
    ⟨.sentry 0 0, [], [], [], [], { State.reset with keys := { Keys.reset with holds0 := true } }, by decide,
     by decide, by decide, by decide⟩,
    ⟨.sentry 0 0, [], [], _, sealKeyOf [],
     { (State.reset.setF Fld.MC_STATUS_VAULT 0 1) with keys := { Keys.reset with cdi0 := some [], holds0 := true, sealing := [0] } },
     _, by decide, by decide, rfl, rfl, by decide, by decide, by decide, rfl⟩,
    ⟨.sentry 0 0, [], [], _, sealKeyOf [],
     { (State.reset.setF Fld.MC_STATUS_VAULT 0 1) with keys := { Keys.reset with cdi0 := some [], holds0 := true, sealing := [0] } },
     _, by decide, by decide, rfl, rfl, by decide, by decide, by decide, rfl, by decide⟩,
    ⟨.sentry 0 0, [], [], [], [], dirState, _, by decide, by decide, rfl, by decide, by decide, by decide⟩⟩

/-- The hypotheses of MctpAndSigning can be met, clause by clause. -/
theorem witness_MctpAndSigning :
    (∃ (e : Byte) (s : State),
        s.mctpLive = true ∧ e ≠ 0 ∧ e ≠ 0xFF) ∧
    (∃ (e : Byte) (s : State),
        s.mctpLive = true ∧ (e = 0 ∨ e = 0xFF)) ∧
    (∃ (s : State),
        s.mctpLive = true) ∧
    (∃ (s : State),
        s.mctpLive = true) ∧
    (∃ (s : State),
        s.mctpLive = true) ∧
    (∃ (m : MemAccess) (s : State),
        s.platLive = true ∧ s.keys.queue = []) ∧
    (∃ (a : MemAccess) (e : Byte) (i : Nat) (n : List Byte) (p : List Byte) (c : Digest) (s : State),
        s.platLive = true ∧ s.hifLive = true ∧ s.keys.queue = [{ kind := .measure e i n, snap := some p }] ∧
        s.keys.cdi0 = some c ∧ s.identity = true ∧ (s.conn e).isSome = true) ∧
    (∃ (a : MemAccess) (e : Byte) (m : Nat) (n : List Byte) (p : List Byte) (c : Digest) (s : State),
        s.platLive = true ∧ s.hifLive = true ∧ s.keys.queue = [{ kind := .challenge e m n, snap := some p }] ∧
        s.keys.cdi0 = some c ∧ s.identity = true ∧ (s.conn e).isSome = true) ∧
    (∃ (a : MemAccess) (e : Byte) (m : Nat) (n : List Byte) (p : List Byte) (s : State),
        s.platLive = true ∧ s.keys.queue = [{ kind := .challenge e m n, snap := some p }] ∧ s.identity = false) :=
  ⟨⟨8, State.reset, by decide, by decide, by decide⟩,
    ⟨0xFF, State.reset, by decide, by decide⟩,
    ⟨State.reset, by decide⟩,
    ⟨State.reset, by decide⟩,
    ⟨State.reset, by decide⟩,
    ⟨{}, State.reset, by decide, by decide⟩,
    ⟨{}, 9, 0, [], [], [],
     { State.reset with keys := { Keys.reset with cdi0 := some [], holds0 := true, conns := [{ eid := 9, stage := 3, later := none }], queue := [{ kind := .measure 9 0 [], snap := some [] }] } },
     by decide, by decide, by decide, by decide, by decide, by decide⟩,
    ⟨{}, 9, 0, [], [], [],
     { State.reset with keys := { Keys.reset with cdi0 := some [], holds0 := true, conns := [{ eid := 9, stage := 3, later := none }], queue := [{ kind := .challenge 9 0 [], snap := some [] }] } },
     by decide, by decide, by decide, by decide, by decide, by decide⟩,
    ⟨{}, 9, 0, [], [],
     { State.reset with keys := { Keys.reset with queue := [{ kind := .challenge 9 0 [], snap := some [] }] } },
     by decide, by decide, by decide⟩⟩

/-- The hypotheses of SpdmRequests can be met, clause by clause. -/
theorem witness_SpdmRequests :
    (∃ (e : Byte) (s : State),
        s.mctpLive = true ∧ s.flag Fld.KU_CTRL_SPDM_EN 0 = true ∧ ((s.conn e).isSome = true ∨ s.keys.conns.length < 4)) ∧
    (∃ (e : Byte) (s : State),
        s.mctpLive = true ∧ s.flag Fld.KU_CTRL_SPDM_EN 0 = true ∧ s.conn e = none ∧ 4 ≤ s.keys.conns.length) ∧
    (∃ (e : Byte) (c : SpdmConn) (s : State),
        s.mctpLive = true ∧ s.flag Fld.KU_CTRL_SPDM_EN 0 = true ∧ s.conn e = some c) ∧
    (∃ (e : Byte) (c : SpdmConn) (s : State),
        s.mctpLive = true ∧ s.flag Fld.KU_CTRL_SPDM_EN 0 = true ∧ s.conn e = some c) ∧
    (∃ (e : Byte) (x : Byte) (y : Byte) (g : Bool) (n : List Byte) (s : State),
        s.mctpLive = true ∧ s.flag Fld.KU_CTRL_SPDM_EN 0 = false) ∧
    (∃ (e : Byte) (y : Byte) (n : List Byte) (c : SpdmConn) (s : State),
        s.mctpLive = true ∧ s.flag Fld.KU_CTRL_SPDM_EN 0 = true ∧ s.conn e = some c ∧ c.stage = 3 ∧
        (y = 0 ∨ y = 0xFF ∨ y.toNat ∈ s.blockIndexes)) ∧
    (∃ (e : Byte) (y : Byte) (n : List Byte) (c : SpdmConn) (s : State),
        s.mctpLive = true ∧ s.flag Fld.KU_CTRL_SPDM_EN 0 = true ∧ s.conn e = some c ∧ c.stage = 3 ∧ y ≠ 0 ∧ y ≠ 0xFF ∧
        y.toNat ∉ s.blockIndexes) ∧
    (∃ (e : Byte) (x : Byte) (n : List Byte) (c : SpdmConn) (s : State),
        s.mctpLive = true ∧ s.flag Fld.KU_CTRL_SPDM_EN 0 = true ∧ s.conn e = some c ∧ c.stage = 3 ∧
        (x = 0 ∨ x = 1 ∨ x = 0xFF) ∧ s.identity = true ∧ s.snapBlocked = false ∧ s.keys.queue = []) ∧
    (∃ (e : Byte) (x : Byte) (n : List Byte) (c : SpdmConn) (s : State),
        s.mctpLive = true ∧ s.flag Fld.KU_CTRL_SPDM_EN 0 = true ∧ s.conn e = some c ∧ c.stage = 3 ∧
        (x = 0 ∨ x = 1 ∨ x = 0xFF) ∧ s.identity = true ∧ s.snapBlocked = true) ∧
    (∃ (e : Byte) (x : Byte) (n : List Byte) (c : SpdmConn) (s : State),
        s.mctpLive = true ∧ s.flag Fld.KU_CTRL_SPDM_EN 0 = true ∧ s.conn e = some c ∧ c.stage = 3 ∧
        (x = 0 ∨ x = 1 ∨ x = 0xFF) ∧ s.identity = false) ∧
    (∃ (e : Byte) (c : SpdmConn) (k : SignKind) (s : State),
        s.mctpLive = true ∧ s.flag Fld.KU_CTRL_SPDM_EN 0 = true ∧ s.conn e = some c ∧ c.later = some k ∧
        s.identity = true ∧ s.snapBlocked = false ∧ s.keys.queue = []) :=
  ⟨⟨9, (State.reset.setF Fld.KU_CTRL_SPDM_EN 0 1), by decide, by decide, by decide⟩,
    ⟨9,
     { (State.reset.setF Fld.KU_CTRL_SPDM_EN 0 1) with keys := { Keys.reset with conns := [{ eid := 1, stage := 1, later := none }, { eid := 2, stage := 1, later := none }, { eid := 3, stage := 1, later := none }, { eid := 4, stage := 1, later := none }] } },
     by decide, by decide, by decide, by decide⟩,
    ⟨9, { eid := 9, stage := 3, later := none },
     { (State.reset.setF Fld.KU_CTRL_SPDM_EN 0 1) with keys := { Keys.reset with conns := [{ eid := 9, stage := 3, later := none }] } },
     by decide, by decide, by decide⟩,
    ⟨9, { eid := 9, stage := 3, later := none },
     { (State.reset.setF Fld.KU_CTRL_SPDM_EN 0 1) with keys := { Keys.reset with conns := [{ eid := 9, stage := 3, later := none }] } },
     by decide, by decide, by decide⟩,
    ⟨0, 0, 0, false, [], (State.reset.setF Fld.KU_CTRL_SPDM_EN 0 0), by decide, by decide⟩,
    ⟨9, 0xFF, [], { eid := 9, stage := 3, later := none },
     { (State.reset.setF Fld.KU_CTRL_SPDM_EN 0 1) with keys := { Keys.reset with conns := [{ eid := 9, stage := 3, later := none }] } },
     by decide, by decide, by decide, by decide, by decide⟩,
    ⟨9, 0x18, [], { eid := 9, stage := 3, later := none },
     { (State.reset.setF Fld.KU_CTRL_SPDM_EN 0 1) with keys := { Keys.reset with conns := [{ eid := 9, stage := 3, later := none }] } },
     by decide, by decide, by decide, by decide, by decide, by decide, by decide⟩,
    ⟨9, 1, [], { eid := 9, stage := 3, later := none },
     { (State.reset.setF Fld.KU_CTRL_SPDM_EN 0 1) with keys := { Keys.reset with conns := [{ eid := 9, stage := 3, later := none }], holds0 := true } },
     by decide, by decide, by decide, by decide, by decide, by decide, by decide, by decide⟩,
    ⟨9, 1, [], { eid := 9, stage := 3, later := none },
     { ((State.reset.setF Fld.KU_CTRL_SPDM_EN 0 1).setF Fld.EPOCH_STATUS_SWITCHING 0 1) with keys := { Keys.reset with conns := [{ eid := 9, stage := 3, later := none }], holds0 := true } },
     by decide, by decide, by decide, by decide, by decide, by decide, by decide⟩,
    ⟨9, 0xFF, [], { eid := 9, stage := 3, later := none },
     { (State.reset.setF Fld.KU_CTRL_SPDM_EN 0 1) with keys := { Keys.reset with conns := [{ eid := 9, stage := 3, later := none }] } },
     by decide, by decide, by decide, by decide, by decide, by decide⟩,
    ⟨9, { eid := 9, stage := 3, later := some (.challenge 9 0 []) }, .challenge 9 0 [],
     { (State.reset.setF Fld.KU_CTRL_SPDM_EN 0 1) with keys := { Keys.reset with conns := [{ eid := 9, stage := 3, later := some (.challenge 9 0 []) }], holds0 := true } },
     by decide, by decide, by decide, by decide, by decide, by decide, by decide⟩⟩

/-- The hypotheses of Leases can be met, clause by clause. -/
theorem witness_Leases :
    (∃ (f : FnId) (q : PairId) (n : Nat) (c : RingCmd) (g : Nat) (m : Nat) (s : State),
        s.hifLive = true ∧ s.platLive = true ∧ s.ringCmd f.val q.val n (fun op => decide (op = 0x09)) = some c ∧
        g = bitsOf (subArg c.words 0) 0 8 ∧ m = subArg c.words 1 + 2 ^ 32 * subArg c.words 2 ∧ g ≠ 0 ∧
        s.fnLive g = true ∧ m < 2 ^ (8 * s.nDies) ∧ s.leaseOf g = none) ∧
    (∃ (f : FnId) (q : PairId) (n : Nat) (c : RingCmd) (s : State),
        s.hifLive = true ∧ s.platLive = true ∧ s.ringCmd f.val q.val n (fun op => decide (op = 0x09)) = some c ∧
        s.fnLive (bitsOf (subArg c.words 0) 0 8) = true ∧ bitsOf (subArg c.words 0) 0 8 ≠ 0 ∧
        subArg c.words 1 + 2 ^ 32 * subArg c.words 2 < 2 ^ (8 * s.nDies) ∧
        (s.leaseOf (bitsOf (subArg c.words 0) 0 8)).isSome = true) ∧
    (∃ (f : FnId) (q : PairId) (n : Nat) (c : RingCmd) (s : State),
        s.hifLive = true ∧ s.platLive = true ∧ s.ringCmd f.val q.val n (fun op => decide (op = 0x09)) = some c ∧
        2 ^ (8 * s.nDies) ≤ subArg c.words 1 + 2 ^ 32 * subArg c.words 2) ∧
    (∃ (f : FnId) (q : PairId) (n : Nat) (c : RingCmd) (s : State),
        s.hifLive = true ∧ s.platLive = true ∧ s.ringCmd f.val q.val n (fun op => decide (op = 0x0A)) = some c ∧
        s.keys.queue = [] ∧ (s.leaseOf (bitsOf (subArg c.words 0) 0 8)).isSome = true) ∧
    (∃ (f : FnId) (q : PairId) (n : Nat) (c : RingCmd) (s : State),
        s.hifLive = true ∧ s.platLive = true ∧ s.ringCmd f.val q.val n (fun op => decide (op = 0x0A)) = some c ∧
        s.leaseOf (bitsOf (subArg c.words 0) 0 8) = none) ∧
    (∃ (f : FnId) (q : PairId) (n : Nat) (c : RingCmd) (s : State),
        s.hifLive = true ∧ s.platLive = true ∧ s.ringCmd f.val q.val n (fun op => decide (op = 0x0B)) = some c ∧
        bufOk c.words 4992 = true ∧ f.val ≠ 0 ∧ (s.leaseOf f.val).isSome = true ∧ s.identity = false) ∧
    (∃ (f : FnId) (q : PairId) (n : Nat) (c : RingCmd) (s : State),
        s.hifLive = true ∧ s.platLive = true ∧ s.ringCmd f.val q.val n (fun op => decide (op = 0x0B)) = some c ∧
        bufOk c.words 4992 = true ∧ f.val ≠ 0 ∧ (s.leaseOf f.val).isSome = true ∧ s.identity = true ∧
        s.sigsBad (bitsOf (subArg c.words 1) 0 2) = false ∧ s.keys.queue = [] ∧ s.snapBlocked = false) :=
  ⟨⟨0, 0, 0, (cmdW [9, 0, 0, 0, 0, 0, 255, 0xFFFFFFFF, 0xFFFFFFFF]), _, _,
     { State.reset with hif := { Hif.reset with enabled := [0], cache := [(0, pairWith [(cmdW [9, 0, 0, 0, 0, 0, 255, 0xFFFFFFFF, 0xFFFFFFFF])])], vfEnable := true, numVfs := 255 } },
     by decide, by decide, by decide, rfl, rfl, by decide, by decide, by decide, by decide⟩,
    ⟨0, 0, 0, (cmdW [9, 0, 0, 0, 0, 0, 1, 1, 0]),
     { State.reset with hif := { Hif.reset with enabled := [0], cache := [(0, pairWith [(cmdW [9, 0, 0, 0, 0, 0, 1, 1, 0])])], vfEnable := true, numVfs := 255 }, keys := { Keys.reset with leases := [{ fn := 1, id := 1, mask := 1, otOpen := 0, otMark := 0, marks := 0 }] } },
     by decide, by decide, by decide, by decide, by decide, by decide, by decide⟩,
    ⟨0, 0, 0, (cmdW [9, 0, 0, 0, 0, 0, 1, 0, 1]),
     { { State.reset with variant := .spg3204 } with hif := { Hif.reset with enabled := [0], cache := [(0, pairWith [(cmdW [9, 0, 0, 0, 0, 0, 1, 0, 1])])], vfEnable := true, numVfs := 255 } },
     by decide, by decide, by decide, by decide⟩,
    ⟨0, 0, 0, (cmdW [10, 0, 0, 0, 0, 0, 1]),
     { State.reset with hif := { Hif.reset with enabled := [0], cache := [(0, pairWith [(cmdW [10, 0, 0, 0, 0, 0, 1])])], vfEnable := true, numVfs := 255 }, keys := { Keys.reset with leases := [{ fn := 1, id := 1, mask := 1, otOpen := 0, otMark := 0, marks := 0 }] } },
     by decide, by decide, by decide, by decide, by decide⟩,
    ⟨0, 0, 0, (cmdW [10, 0, 0, 0, 0, 0, 1]),
     { State.reset with hif := { Hif.reset with enabled := [0], cache := [(0, pairWith [(cmdW [10, 0, 0, 0, 0, 0, 1])])], vfEnable := true, numVfs := 255 } },
     by decide, by decide, by decide, by decide⟩,
    ⟨1, 0, 0, (cmdW [11, 0, 0, 0, 4992, 0, 0, 1]),
     { State.reset with hif := { Hif.reset with enabled := [128], cache := [(128, pairWith [(cmdW [11, 0, 0, 0, 4992, 0, 0, 1])])], vfEnable := true, numVfs := 255 }, keys := { Keys.reset with leases := [{ fn := 1, id := 1, mask := 1, otOpen := 0, otMark := 0, marks := 0 }] } },
     by decide, by decide, by decide, by decide, by decide, by decide, by decide⟩,
    ⟨1, 0, 0, (cmdW [11, 0, 0, 0, 4992, 0, 0, 1]),
     { (State.reset.setF Fld.KU_CTRL_EVID_MIN 0 1) with hif := { Hif.reset with enabled := [128], cache := [(128, pairWith [(cmdW [11, 0, 0, 0, 4992, 0, 0, 1])])], vfEnable := true, numVfs := 255 }, keys := { Keys.reset with leases := [{ fn := 1, id := 1, mask := 1, otOpen := 0, otMark := 0, marks := 0 }], holds0 := true } },
     by decide, by decide, by decide, by decide, by decide, by decide, by decide, by decide, by decide, by decide⟩⟩

/-- The hypotheses of DoorbellsAndCompletions can be met, clause by clause. -/
theorem witness_DoorbellsAndCompletions :
    (∃ (f : FnId) (q : PairId) (v : Word) (x : Pair) (s : State),
        s.hifLive = true ∧ s.fnLive f.val = true ∧ s.pairOn (pairNo f.val q.val) = true ∧
        s.pair (pairNo f.val q.val) = some x ∧ x.error = false ∧ x.deleting = none) ∧
    (∃ (f : FnId) (q : PairId) (v : Word) (x : Pair) (n : Nat) (h : Nat) (s : State),
        s.hifLive = true ∧ s.fnLive f.val = true ∧ s.pairOn (pairNo f.val q.val) = true ∧
        s.pair (pairNo f.val q.val) = some x ∧ x.error = false ∧ n = ringLen x.cqSize ∧ h = bitsOf v.toNat 0 16) ∧
    (∃ (f : FnId) (q : PairId) (v : Word) (s : State),
        s.hifLive = true ∧ s.pairOn (pairNo f.val q.val) = false) ∧
    (∃ (f : FnId) (q : PairId) (v : Word) (s : State),
        s.hifLive = true ∧ s.fnLive f.val = true ∧ s.pairOn (pairNo f.val q.val) = true ∧
        s.pair (pairNo f.val q.val) = none) ∧
    (∃ (f : FnId) (q : PairId) (m : MemAccess) (x : Pair) (c : RingCmd) (l : List RingCmd) (r : Word × Word × Nat) (s : State),
        s.hifLive = true ∧ (s.hostAccess m).1 = true ∧ s.pair (pairNo f.val q.val) = some x ∧ x.started = c :: l ∧
        c.done = some r ∧ x.error = false ∧ x.deleting = none ∧ (x.cqTail + 1) % ringLen x.cqSize ≠ x.cqHead) ∧
    (∃ (f : FnId) (q : PairId) (m : MemAccess) (x : Pair) (c : RingCmd) (l : List RingCmd) (s : State),
        s.hifLive = true ∧ s.pair (pairNo f.val q.val) = some x ∧ x.started = c :: l ∧ x.error = false ∧
        (c.done = none ∨ (x.cqTail + 1) % ringLen x.cqSize = x.cqHead)) ∧
    (∃ (f : FnId) (q : PairId) (m : MemAccess) (x : Pair) (c : RingCmd) (l : List RingCmd) (r : Word × Word × Nat) (s : State),
        s.hifLive = true ∧ (s.hostAccess m).1 = false ∧ s.pair (pairNo f.val q.val) = some x ∧ x.started = c :: l ∧
        c.done = some r ∧ x.error = false ∧ x.deleting = none ∧ (x.cqTail + 1) % ringLen x.cqSize ≠ x.cqHead) ∧
    (∃ (f : FnId) (q : PairId) (m : MemAccess) (x : Pair) (c : RingCmd) (l : List RingCmd) (r : Word × Word × Nat) (s : State),
        s.hifLive = true ∧ s.pair (pairNo f.val q.val) = some x ∧ x.started = c :: l ∧ c.done = some r ∧
        x.error = true ∧ x.deleting = none) :=
  ⟨⟨0, 0, 0, pairWith [], { State.reset with hif := { Hif.reset with enabled := [0], cache := [(0, pairWith [])] } },
     by decide, by decide, by decide, by decide, by decide, by decide⟩,
    ⟨0, 0, 0xFFFF, pairWith [], _, _,
     { State.reset with hif := { Hif.reset with enabled := [0], cache := [(0, pairWith [])] } }, by decide, by decide,
     by decide, by decide, by decide, rfl, rfl⟩,
    ⟨0, 0, 0, State.reset, by decide, by decide⟩,
    ⟨0, 0, 0, { State.reset with hif := { Hif.reset with enabled := [0] } }, by decide, by decide, by decide, by decide⟩,
    ⟨0, 0, {}, pairWith [{ cmdW [0] with begun := true, done := some (1, 2, 0) }],
     { cmdW [0] with begun := true, done := some (1, 2, 0) }, [], (1, 2, 0),
     { State.reset with hif := { Hif.reset with enabled := [0], cache := [(0, (pairWith [{ cmdW [0] with begun := true, done := some (1, 2, 0) }]))] } },
     by decide, by decide, by decide, by decide, by decide, by decide, by decide, by decide⟩,
    ⟨0, 0, {}, pairWith [(cmdW [0])], (cmdW [0]), [],
     { State.reset with hif := { Hif.reset with enabled := [0], cache := [(0, (pairWith [(cmdW [0])]))] } },
     by decide, by decide, by decide, by decide, by decide⟩,
    ⟨0, 0, { linkOk := false }, pairWith [{ cmdW [0] with begun := true, done := some (1, 2, 0) }],
     { cmdW [0] with begun := true, done := some (1, 2, 0) }, [], (1, 2, 0),
     { State.reset with hif := { Hif.reset with enabled := [0], cache := [(0, (pairWith [{ cmdW [0] with begun := true, done := some (1, 2, 0) }]))] } },
     by decide, by decide, by decide, by decide, by decide, by decide, by decide, by decide⟩,
    ⟨0, 0, {}, { pairWith [{ cmdW [0] with begun := true, done := some (1, 2, 0) }] with error := true },
     { cmdW [0] with begun := true, done := some (1, 2, 0) }, [], (1, 2, 0),
     { State.reset with hif := { Hif.reset with enabled := [0], cache := [(0, { pairWith [{ cmdW [0] with begun := true, done := some (1, 2, 0) }] with error := true })] } },
     by decide, by decide, by decide, by decide, by decide, by decide⟩⟩

/-- The hypotheses of RingSetupAndStart can be met, clause by clause. -/
theorem witness_RingSetupAndStart :
    (∃ (f : FnId) (q : PairId) (k : List Word) (w : List Word) (a : MemAccess) (m : MemAccess) (x : Pair) (s : State),
        s.hifLive = true ∧ s.pairOn (pairNo f.val q.val) = true ∧ s.flag Fld.HI_CTX_CTRL_EN 0 = true ∧
        s.pair (pairNo f.val q.val) = some x ∧ x.error = false ∧ x.deleting = none ∧ x.fetched = none ∧
        x.started.length < 16 ∧ x.sqHead ≠ x.sqTail ∧ (s.hostAccess m).1 = true ∧
        (x.started = [] ∨ subWaits w = false)) ∧
    (∃ (f : FnId) (q : PairId) (k : List Word) (w : List Word) (a : MemAccess) (m : MemAccess) (x : Pair) (s : State),
        s.hifLive = true ∧ s.pairOn (pairNo f.val q.val) = true ∧ s.flag Fld.HI_CTX_CTRL_EN 0 = true ∧
        s.pair (pairNo f.val q.val) = some x ∧ x.error = false ∧ x.deleting = none ∧ x.fetched = none ∧
        x.started.length < 16 ∧ x.sqHead ≠ x.sqTail ∧ (s.hostAccess m).1 = true ∧ x.started ≠ [] ∧ subWaits w = true) ∧
    (∃ (f : FnId) (q : PairId) (k : List Word) (w : List Word) (a : MemAccess) (m : MemAccess) (x : Pair) (s : State),
        s.hifLive = true ∧ s.pairOn (pairNo f.val q.val) = true ∧ s.flag Fld.HI_CTX_CTRL_EN 0 = true ∧
        s.pair (pairNo f.val q.val) = some x ∧ x.error = false ∧ x.deleting = none ∧ x.fetched = none ∧
        x.started.length < 16 ∧ x.sqHead ≠ x.sqTail ∧ (s.hostAccess m).1 = false) ∧
    (∃ (f : FnId) (q : PairId) (k : List Word) (w : List Word) (a : MemAccess) (m : MemAccess) (s : State),
        s.pairOn (pairNo f.val q.val) = false) ∧
    (∃ (req : Requester) (v : Word) (s : State),
        s.HifOpen req ∧ s.hif.enabled ≠ [] ∧ Fld.HI_CTX_CTRL_EN.of v = 0) ∧
    (∃ (req : Requester) (v : Word) (s : State),
        s.HifOpen req ∧ (s.hif.enabled = [] ∨ Fld.HI_CTX_CTRL_EN.of v = 1)) ∧
    (∃ (f : FnId) (v : Word) (s : State),
        s.hifLive = true ∧ s.fnLive f.val = true ∧ s.flag Fld.FN_ACTRL_EN f.val = false ∧ Fld.FN_ACTRL_EN.of v = 1 ∧
        s.flag Fld.HI_CTX_CTRL_EN 0 = true ∧ s.getF Fld.FN_ASIZE_SQ_SIZE f.val ≠ 1 ∧
        s.getF Fld.FN_ASIZE_CQ_SIZE f.val ≠ 1 ∧ s.hif.cache.length < 2048) ∧
    (∃ (f : FnId) (v : Word) (s : State),
        s.hifLive = true ∧ s.fnLive f.val = true ∧ s.flag Fld.FN_ACTRL_EN f.val = false ∧ Fld.FN_ACTRL_EN.of v = 1 ∧
        (s.flag Fld.HI_CTX_CTRL_EN 0 = false ∨ s.getF Fld.FN_ASIZE_SQ_SIZE f.val = 1)) ∧
    (∃ (n : Nat) (e : Bool) (s : State),
        s.hifLive = true ∧ s.hif.vfEnable = false) ∧
    (∃ (n : Nat) (s : State),
        s.hifLive = true ∧ s.hif.vfEnable = true) :=
  ⟨⟨0, 0, [], [], {}, {}, { pairWith [] with sqTail := 1 },
     { (State.reset.setF Fld.HI_CTX_CTRL_EN 0 1) with hif := { Hif.reset with enabled := [0], cache := [(0, { pairWith [] with sqTail := 1 })] } },
     by decide, by decide, by decide, by decide, by decide, by decide, by decide, by decide, by decide, by decide,
     by decide⟩,
    ⟨0, 0, [], [0x100], {}, {}, { pairWith [(cmdW [0])] with sqTail := 1 },
     { (State.reset.setF Fld.HI_CTX_CTRL_EN 0 1) with hif := { Hif.reset with enabled := [0], cache := [(0, { pairWith [(cmdW [0])] with sqTail := 1 })] } },
     by decide, by decide, by decide, by decide, by decide, by decide, by decide, by decide, by decide, by decide,
     by decide, by decide⟩,
    ⟨0, 0, [], [], {}, { linkOk := false }, { pairWith [] with sqTail := 1 },
     { (State.reset.setF Fld.HI_CTX_CTRL_EN 0 1) with hif := { Hif.reset with enabled := [0], cache := [(0, { pairWith [] with sqTail := 1 })] } },
     by decide, by decide, by decide, by decide, by decide, by decide, by decide, by decide, by decide, by decide⟩,
    ⟨0, 0, [], [], {}, {}, State.reset, by decide⟩,
    ⟨.pf, 0, { State.reset with hif := { Hif.reset with enabled := [0], cache := [(0, pairWith [])] } }, by decide,
     by decide, by decide⟩,
    ⟨.pf, 1, State.reset, by decide, by decide⟩,
    ⟨0, 1, (State.reset.setF Fld.HI_CTX_CTRL_EN 0 1), by decide, by decide, by decide, by decide, by decide, by decide,
     by decide, by decide⟩,
    ⟨0, 1, State.reset, by decide, by decide, by decide, by decide, by decide⟩,
    ⟨255, false, State.reset, by decide, by decide⟩,
    ⟨0, { State.reset with hif := { Hif.reset with vfEnable := true } }, by decide, by decide⟩⟩

/-- The hypotheses of RingCommands can be met, clause by clause. -/
theorem witness_RingCommands :
    (∃ (f : FnId) (q : PairId) (n : Nat) (c : RingCmd) (s : State),
        s.hifLive = true ∧ s.ringCmd f.val q.val n (fun op => decide (op = 0x00)) = some c) ∧
    (∃ (f : FnId) (q : PairId) (n : Nat) (k : Nat) (c : RingCmd) (s : State),
        s.hifLive = true ∧ q.val = 0 ∧ s.ringCmd f.val q.val n (fun op => decide (op = 0x01)) = some c ∧
        k = bitsOf (subArg c.words 0) 0 7 ∧ k ≠ 0 ∧ k < s.qpMax f.val ∧ s.pairOn (pairNo f.val k) = false ∧
        bitsOf (subArg c.words 5) 0 16 ≠ 1 ∧ bitsOf (subArg c.words 5) 16 16 ≠ 1 ∧
        (subArg c.words 1 + 2 ^ 32 * subArg c.words 2) % 4096 = 0 ∧
        (subArg c.words 3 + 2 ^ 32 * subArg c.words 4) % 4096 = 0 ∧ s.hif.cache.length < 2048) ∧
    (∃ (f : FnId) (q : PairId) (n : Nat) (k : Nat) (c : RingCmd) (s : State),
        s.hifLive = true ∧ s.ringCmd f.val q.val n (fun op => decide (op = 0x01)) = some c ∧
        k = bitsOf (subArg c.words 0) 0 7 ∧
        (k = 0 ∨ s.qpMax f.val ≤ k ∨ s.pairOn (pairNo f.val k) = true ∨ bitsOf (subArg c.words 5) 0 16 = 1)) ∧
    (∃ (f : FnId) (q : PairId) (n : Nat) (k : Nat) (c : RingCmd) (x : Pair) (s : State),
        s.hifLive = true ∧ q.val = 0 ∧ s.ringCmd f.val q.val n (fun op => decide (op = 0x02)) = some c ∧
        k = bitsOf (subArg c.words 0) 0 7 ∧ k ≠ 0 ∧ s.pairOn (pairNo f.val k) = true ∧
        s.pair (pairNo f.val k) = some x ∧ x.started = [] ∧ x.fetched = none ∧ x.deleting = none) ∧
    (∃ (f : FnId) (q : PairId) (n : Nat) (k : Nat) (c : RingCmd) (x : Pair) (s : State),
        s.hifLive = true ∧ q.val = 0 ∧ s.ringCmd f.val q.val n (fun op => decide (op = 0x02)) = some c ∧
        k = bitsOf (subArg c.words 0) 0 7 ∧ k ≠ 0 ∧ s.pairOn (pairNo f.val k) = true ∧
        s.pair (pairNo f.val k) = some x ∧ x.started ≠ [] ∧ x.fetched = none ∧ x.deleting = none) ∧
    (∃ (f : FnId) (q : PairId) (n : Nat) (k : Nat) (c : RingCmd) (s : State),
        s.hifLive = true ∧ s.ringCmd f.val q.val n (fun op => decide (op = 0x02)) = some c ∧
        k = bitsOf (subArg c.words 0) 0 7 ∧ (k = 0 ∨ s.pairOn (pairNo f.val k) = false)) ∧
    (∃ (f : FnId) (q : PairId) (n : Nat) (m : MemAccess) (c : RingCmd) (s : State),
        s.hifLive = true ∧ s.ringCmd f.val q.val n (fun op => decide (op = 0x03)) = some c) ∧
    (∃ (f : FnId) (q : PairId) (n : Nat) (d : Nat) (e : Nat) (m : Nat) (a : MemAccess) (c : RingCmd) (s : State),
        s.hifLive = true ∧ f.val = 0 ∧ s.ringCmd f.val q.val n (fun op => decide (op = 0x10)) = some c ∧
        d = bitsOf (subArg c.words 0) 0 3 ∧ e = bitsOf (subArg c.words 1) 0 10 ∧ m = bitsOf (subArg c.words 2) 0 11 ∧
        s.present d = true ∧ m ≠ 0 ∧ e + m ≤ 1024 ∧ bufOk c.words (8 * m) = true ∧ (s.hostAccess a).1 = true) ∧
    (∃ (f : FnId) (q : PairId) (n : Nat) (m : Nat) (a : MemAccess) (c : RingCmd) (s : State),
        s.hifLive = true ∧ f.val ≠ 0 ∧ s.ringCmd f.val q.val n (fun op => decide (op = 0x10)) = some c ∧
        s.present (bitsOf (subArg c.words 0) 0 3) = true ∧ m = bitsOf (subArg c.words 2) 0 11 ∧ m ≠ 0 ∧
        bitsOf (subArg c.words 1) 0 10 + m ≤ 1024 ∧ bufOk c.words (8 * m) = true ∧ s.leaseOf f.val = none) :=
  ⟨⟨0, 0, 0, (cmdW [0, 0, 0, 0, 0, 0]),
     { State.reset with hif := { Hif.reset with enabled := [0], cache := [(0, pairWith [(cmdW [0, 0, 0, 0, 0, 0])])], vfEnable := true, numVfs := 255 } },
     by decide, by decide⟩,
    ⟨0, 0, 0, _, (cmdW [1, 0, 0, 0, 0, 0, 1, 0, 0, 0, 0, 0]),
     { State.reset with hif := { Hif.reset with enabled := [0], cache := [(0, pairWith [(cmdW [1, 0, 0, 0, 0, 0, 1, 0, 0, 0, 0, 0])])], vfEnable := true, numVfs := 255 } },
     by decide, by decide, by decide, rfl, by decide, by decide, by decide, by decide, by decide, by decide,
     by decide, by decide⟩,
    ⟨0, 0, 0, _, (cmdW [1, 0, 0, 0, 0, 0, 0]),
     { State.reset with hif := { Hif.reset with enabled := [0], cache := [(0, pairWith [(cmdW [1, 0, 0, 0, 0, 0, 0])])], vfEnable := true, numVfs := 255 } },
     by decide, by decide, rfl, by decide⟩,
    ⟨0, 0, 0, _, (cmdW [2, 0, 0, 0, 0, 0, 1]), pairWith [],
     { State.reset with hif := { Hif.reset with enabled := [0, 1], cache := [(0, pairWith [(cmdW [2, 0, 0, 0, 0, 0, 1])]), (1, pairWith [])] } },
     by decide, by decide, by decide, rfl, by decide, by decide, by decide, by decide, by decide, by decide⟩,
    ⟨0, 0, 0, _, (cmdW [2, 0, 0, 0, 0, 0, 1]), pairWith [(cmdW [0])],
     { State.reset with hif := { Hif.reset with enabled := [0, 1], cache := [(0, pairWith [(cmdW [2, 0, 0, 0, 0, 0, 1])]), (1, pairWith [(cmdW [0])])] } },
     by decide, by decide, by decide, rfl, by decide, by decide, by decide, by decide, by decide, by decide⟩,
    ⟨0, 0, 0, _, (cmdW [2, 0, 0, 0, 0, 0, 0]),
     { State.reset with hif := { Hif.reset with enabled := [0], cache := [(0, pairWith [(cmdW [2, 0, 0, 0, 0, 0, 0])])], vfEnable := true, numVfs := 255 } },
     by decide, by decide, rfl, by decide⟩,
    ⟨0, 0, 0, {}, (cmdW [3, 0, 0, 0, 4096, 0]),
     { State.reset with hif := { Hif.reset with enabled := [0], cache := [(0, pairWith [(cmdW [3, 0, 0, 0, 4096, 0])])], vfEnable := true, numVfs := 255 } },
     by decide, by decide⟩,
    ⟨0, 0, 0, _, _, _, {}, (cmdW [16, 0, 0, 0, 8, 0, 7, 1023, 1]),
     { State.reset with hif := { Hif.reset with enabled := [0], cache := [(0, pairWith [(cmdW [16, 0, 0, 0, 8, 0, 7, 1023, 1])])], vfEnable := true, numVfs := 255 } },
     by decide, by decide, by decide, rfl, rfl, rfl, by decide, by decide, by decide, by decide, by decide⟩,
    ⟨255, 0, 0, _, {}, (cmdW [16, 0, 0, 0, 8, 0, 7, 1023, 1]),
     { State.reset with hif := { Hif.reset with enabled := [32640], cache := [(32640, pairWith [(cmdW [16, 0, 0, 0, 8, 0, 7, 1023, 1])])], vfEnable := true, numVfs := 255 } },
     by decide, by decide, by decide, by decide, rfl, by decide, by decide, by decide, by decide⟩⟩

/-- The hypotheses of FirmwareInbox can be met, clause by clause. -/
theorem witness_FirmwareInbox :
    (∃ (f : FnId) (q : PairId) (n : Nat) (k : Nat) (c : RingCmd) (x : List Byte) (m : MemAccess) (s : State),
        s.hifLive = true ∧ s.platLive = true ∧ s.reached 0 = true ∧
        s.ringCmd f.val q.val n (fun op => decide (0x40 ≤ op)) = some c ∧ subIn c.words = false ∧
        subOut c.words = false ∧ s.inbox.freeSlot = some k) ∧
    (∃ (f : FnId) (q : PairId) (n : Nat) (c : RingCmd) (x : List Byte) (m : MemAccess) (s : State),
        s.hifLive = true ∧ s.platLive = true ∧ s.reached 0 = true ∧
        s.ringCmd f.val q.val n (fun op => decide (0x40 ≤ op)) = some c ∧ subIn c.words = false ∧
        subOut c.words = false ∧ s.inbox.freeSlot = none) ∧
    (∃ (req : Requester) (k : Nat) (l : List Nat) (x : InSlot) (s : State),
        s.PlatOpen req ∧ fromDie0 req = true ∧ s.inbox.queue = k :: l ∧
        (s.inbox.slots.find? fun y => decide (y.1 = k)) = some (k, x)) ∧
    (∃ (req : Requester) (s : State),
        s.PlatOpen req ∧ s.inbox.queue = []) ∧
    (∃ (req : Requester) (v : Word) (l : Stores) (m : MemAccess) (k : Nat) (x : InSlot) (s : State),
        s.PlatOpen req ∧ fromDie0 req = true ∧ s.hifLive = true ∧ k = Fld.HI_FW_DONE_SLOT.of v ∧
        (s.inbox.slots.find? fun y => decide (y.1 = k)) = some (k, x) ∧ x.tag = Fld.HI_FW_DONE_TAG.of v ∧
        subOut x.words = false ∧ s.ringHeld x.pair x.serial = true) ∧
    (∃ (req : Requester) (v : Word) (l : Stores) (m : MemAccess) (x : InSlot) (s : State),
        s.PlatOpen req ∧
        (s.inbox.slots.find? fun y => decide (y.1 = Fld.HI_FW_DONE_SLOT.of v)) = some (Fld.HI_FW_DONE_SLOT.of v, x) ∧
        x.tag ≠ Fld.HI_FW_DONE_TAG.of v) ∧
    (∃ (k : Fin 16) (x : InSlot) (s : State),
        s.platLive = true ∧ (s.inbox.slots.find? fun y => decide (y.1 = k.val)) = some (k.val, x) ∧
        1000 * max 1 (s.getF Fld.HI_CTRL_FW_TIMEOUT_MS 0) ≤ s.usSince x.us ∧ s.ringHeld x.pair x.serial = true) :=
  ⟨⟨0, 0, 0, 0, (cmdW [0xFF]), [], {},
     { State.reset with hif := { Hif.reset with enabled := [0], cache := [(0, pairWith [(cmdW [0xFF])])], vfEnable := true, numVfs := 255 } },
     by decide, by decide, by decide, by decide, by decide, by decide, by decide⟩,
    ⟨0, 0, 0, (cmdW [0xFF]), [], {},
     { { State.reset with hif := { Hif.reset with enabled := [0], cache := [(0, pairWith [(cmdW [0xFF])])], vfEnable := true, numVfs := 255 } } with inbox := { Inbox.reset with slots := (List.range 16).map fun k => (k, { tag := 1, pair := 0, serial := 0, words := [0x40], us := 0 }) } },
     by decide, by decide, by decide, by decide, by decide, by decide, by decide⟩,
    ⟨.sentry 0 0, 15, [], { tag := 1, pair := 0, serial := 0, words := [0x40], us := 0 },
     { State.reset with inbox := { Inbox.reset with slots := [(15, { tag := 1, pair := 0, serial := 0, words := [0x40], us := 0 })], queue := [15] } },
     by decide, by decide, by decide, by decide⟩,
    ⟨.sentry 0 0, State.reset, by decide, by decide⟩,
    ⟨.sentry 0 0, 0x10, [], {}, _, { tag := 1, pair := 0, serial := 0, words := [0x40], us := 0 },
     { { State.reset with hif := { Hif.reset with enabled := [0], cache := [(0, pairWith [(cmdW [0xFF])])], vfEnable := true, numVfs := 255 } } with inbox := { Inbox.reset with slots := [(0, { tag := 1, pair := 0, serial := 0, words := [0x40], us := 0 })], queue := [] } },
     by decide, by decide, by decide, rfl, by decide, by decide, by decide, by decide⟩,
    ⟨.sentry 0 0, 0, [], {}, { tag := 1, pair := 0, serial := 0, words := [0x40], us := 0 },
     { State.reset with inbox := { Inbox.reset with slots := [(0, { tag := 1, pair := 0, serial := 0, words := [0x40], us := 0 })] } },
     by decide, by decide, by decide⟩,
    ⟨0, { tag := 1, pair := 0, serial := 0, words := [0x40], us := 1 },
     { { State.reset with hif := { Hif.reset with enabled := [0], cache := [(0, pairWith [(cmdW [0xFF])])], vfEnable := true, numVfs := 255 } } with inbox := { Inbox.reset with slots := [(0, { tag := 1, pair := 0, serial := 0, words := [0x40], us := 1 })] } },
     by decide, by decide, by decide, by decide⟩⟩

/-- The hypotheses of MailboxReadsAndWrites can be met, clause by clause. -/
theorem witness_MailboxReadsAndWrites :
    (∃ (a : Word) (l : List Word) (s : State),
        s.platLive = true ∧ s.mbx.busy = false ∧ s.flag Fld.MB_CTRL_WR_EN 0 = true ∧ l.length ≤ 64 ∧
        l.length ≤ (0x1000 - a.toNat / 4 * 4 % 0x1000) / 4) ∧
    (∃ (a : Word) (l : List Word) (b : Bool) (s : State),
        s.platLive = true ∧ (s.mbx.busy = true ∨ s.flag Fld.MB_CTRL_WR_EN 0 = false)) ∧
    (∃ (a : Word) (n : Byte) (s : State),
        s.platLive = true ∧ s.mbx.busy = false) ∧
    (∃ (b : Bool) (a : Nat) (n : Nat) (s : State),
        s.platLive = true ∧ s.mbx.req = some (a, n)) ∧
    (∃ (b : Bool) (s : State),
        s.mbx.req = none) ∧
    (∃ (n : Nat) (s : State),
        s.platLive = true ∧ s.mbx.ready = true ∧ n ≤ (beWords s.mbx.words).length) ∧
    (∃ (n : Nat) (s : State),
        s.platLive = true ∧ s.mbx.ready = false) ∧
    (∃ (s : State),
        s.platLive = true) :=
  ⟨⟨0xF00, List.replicate 64 0, (State.reset.setF Fld.MB_CTRL_WR_EN 0 1), by decide, by decide, by decide, by decide,
     by decide⟩,
    ⟨0, [], false, { State.reset with mbx := { Mbx.reset with busy := true } }, by decide, by decide⟩,
    ⟨0, 0, State.reset, by decide, by decide⟩,
    ⟨false, 0, 0, { State.reset with mbx := { Mbx.reset with busy := true, req := some (0, 0) } }, by decide, by decide⟩,
    ⟨false, State.reset, by decide⟩,
    ⟨0, { State.reset with mbx := { Mbx.reset with ready := true } }, by decide, by decide, by decide⟩,
    ⟨0, State.reset, by decide, by decide⟩,
    ⟨State.reset, by decide⟩⟩

/-- The hypotheses of MailboxControl can be met, clause by clause. -/
theorem witness_MailboxControl :
    (∃ (s : State),
        s.platLive = true) ∧
    (∃ (s : State),
        s.platLive = true) ∧
    (∃ (a : Byte) (k : Word) (s : State),
        s.platLive = true ∧ k ≠ 0x52535421) ∧
    (∃ (s : State),
        s.platLive = true) ∧
    (∃ (s : State),
        s.platLive = true ∧ s.flag Fld.MB_CTRL_RESET_EN 0 = true) ∧
    (∃ (s : State),
        s.platLive = true ∧ s.flag Fld.MB_CTRL_RESET_EN 0 = false) ∧
    (∃ (n : Byte) (l : List Word) (s : State),
        s.platLive = true ∧ s.mbx.busy = false ∧ s.flag Fld.MB_INLEN_FULL 0 = false ∧ n ≠ 0 ∧ n.toNat ≤ 64 ∧
        n.toNat ≤ l.length) ∧
    (∃ (n : Byte) (l : List Word) (b : Bool) (s : State),
        s.platLive = true ∧ s.flag Fld.MB_INLEN_FULL 0 = true) ∧
    (∃ (n : Nat) (s : State),
        s.platLive = true ∧ s.flag Fld.MB_OUTLEN_FULL 0 = true ∧ n = 1 + 4 * s.outWords) ∧
    (∃ (n : Nat) (s : State),
        s.platLive = true ∧ s.flag Fld.MB_OUTLEN_FULL 0 = true ∧ n < 1 + 4 * s.outWords) ∧
    (∃ (req : Requester) (v : Word) (s : State),
        s.PlatOpen req ∧ fromDie0 req = true ∧ Fld.MB_OUTLEN_FULL.of v = 1) ∧
    (∃ (req : Requester) (v : Word) (s : State),
        s.PlatOpen req ∧ fromDie0 req = true ∧ Fld.MB_INLEN_FULL.of v = 1) ∧
    (∃ (req : Requester) (v : Word) (s : State),
        s.PlatOpen req ∧ fromDie0 req = false) ∧
    (∃ (o : Word) (b : List Byte) (x : Rescue) (s : State),
        s.platLive = true ∧ s.mbx.busy = false ∧ s.mbRescue = true ∧ 256 ≤ b.length ∧ s.boot.rescue = some x ∧
        o.toNat = x.next ∧ x.buf.length + 256 < x.unit) ∧
    (∃ (b : List Byte) (s : State),
        s.platLive = true ∧ s.mbx.busy = false ∧ s.mbRescue = true ∧ 256 ≤ b.length ∧ s.boot.rescue = none) ∧
    (∃ (o : Word) (b : List Byte) (x : Rescue) (s : State),
        s.platLive = true ∧ s.mbx.busy = false ∧ s.mbRescue = true ∧ 256 ≤ b.length ∧ s.boot.rescue = some x ∧
        o.toNat < x.next) ∧
    (∃ (o : Word) (b : List Byte) (c : Bool) (s : State),
        s.platLive = true ∧ (s.mbx.busy = true ∨ s.mbRescue = false)) ∧
    (∃ (x : Rescue) (s : State),
        s.platLive = true ∧ s.boot.rescue = some x ∧ x.ralver = false ∧ 10000000 ≤ s.usSince x.since) :=
  ⟨⟨State.reset, by decide⟩,
    ⟨State.reset, by decide⟩,
    ⟨0, 0, State.reset, by decide, by decide⟩,
    ⟨State.reset, by decide⟩,
    ⟨(State.reset.setF Fld.MB_CTRL_RESET_EN 0 1), by decide, by decide⟩,
    ⟨(State.reset.setF Fld.MB_CTRL_RESET_EN 0 0), by decide, by decide⟩,
    ⟨64, List.replicate 64 0, State.reset, by decide, by decide, by decide, by decide, by decide, by decide⟩,
    ⟨0, [], false, (State.reset.setF Fld.MB_INLEN_FULL 0 1), by decide, by decide⟩,
    ⟨_, ((State.reset.setF Fld.MB_OUTLEN_FULL 0 1).setF Fld.MB_OUTLEN_WORDS 0 64), by decide, by decide, rfl⟩,
    ⟨256, ((State.reset.setF Fld.MB_OUTLEN_FULL 0 1).setF Fld.MB_OUTLEN_WORDS 0 64), by decide, by decide, by decide⟩,
    ⟨.sentry 0 0, 0x80, State.reset, by decide, by decide, by decide⟩,
    ⟨.sentry 0 0, 0x80, State.reset, by decide, by decide, by decide⟩,
    ⟨.pf, 0, State.reset, by decide, by decide⟩,
    ⟨0, List.replicate 256 0, { next := 0, buf := [], colophon := [], groups := [], image := none, ralver := false },
     { (State.reset) with boot := { Boot.reset with rescue := some { next := 0, buf := [], colophon := [], groups := [], image := none, ralver := false } } },
     by decide, by decide, by decide, by decide, by decide, by decide, by decide⟩,
    ⟨List.replicate 256 0, { (State.reset) with boot := { Boot.reset with rescue := none } }, by decide, by decide,
     by decide, by decide, by decide⟩,
    ⟨0, List.replicate 256 0, { next := 256, buf := [], colophon := [], groups := [], image := none, ralver := false },
     { (State.reset) with boot := { Boot.reset with rescue := some { next := 256, buf := [], colophon := [], groups := [], image := none, ralver := false } } },
     by decide, by decide, by decide, by decide, by decide, by decide⟩,
    ⟨0, [], false, { State.reset with mbx := { Mbx.reset with busy := true } }, by decide, by decide⟩,
    ⟨{ next := 0, buf := [], colophon := [], groups := [], image := none, ralver := false, since := 1 },
     { State.reset with boot := { Boot.reset with rescue := some { next := 0, buf := [], colophon := [], groups := [], image := none, ralver := false, since := 1 } } },
     by decide, by decide, by decide, by decide⟩⟩

/-- The hypotheses of RalverLink can be met, clause by clause. -/
theorem witness_RalverLink :
    (∃ (p : Bool) (s : State),
        s.rlvLive = true ∧ (s.rvPort p).up = false) ∧
    (∃ (p : Bool) (s : State),
        s.rlvLive = true ∧ (s.rvPort p).up = true) ∧
    (∃ (p : Bool) (x : Parcel) (s : State),
        s.rlvLive = true ∧ (s.rvPort p).up = true ∧ x.lseq.toNat = (s.rvPort p).rx ∧ s.rvStale x = false ∧
        rvKnown x.type.toNat = true) ∧
    (∃ (p : Bool) (x : Parcel) (s : State),
        s.rlvLive = true ∧ (s.rvPort p).up = true ∧ x.lseq.toNat = (s.rvPort p).rx ∧ s.rvStale x = true) ∧
    (∃ (p : Bool) (c : Bool) (x : Parcel) (s : State),
        s.rlvLive = true ∧ (s.rvPort p).up = true ∧ (c = false ∨ x.lseq.toNat ≠ (s.rvPort p).rx) ∧
        (s.rvPort p).discard = false) ∧
    (∃ (p : Bool) (c : Bool) (x : Parcel) (s : State),
        s.rlvLive = true ∧ (s.rvPort p).up = true ∧ (c = false ∨ x.lseq.toNat ≠ (s.rvPort p).rx) ∧
        (s.rvPort p).discard = true) ∧
    (∃ (p : Bool) (x : Parcel) (l : List Parcel) (s : State),
        s.rlvLive = true ∧ (s.rvPort p).up = true ∧ (s.rvPort p).kept = x :: l) ∧
    (∃ (p : Bool) (x : Parcel) (l : List Parcel) (s : State),
        s.rlvLive = true ∧ (s.rvPort p).up = true ∧ (s.rvPort p).kept = x :: l ∧
        ((s.rvPort p).resent (x :: l) s.us).spent (x :: l) = false) ∧
    (∃ (p : Bool) (x : Parcel) (l : List Parcel) (s : State),
        s.rlvLive = true ∧ (s.rvPort p).up = true ∧ (s.rvPort p).kept = x :: l ∧
        ((s.rvPort p).resent (x :: l) s.us).spent (x :: l) = true) :=
  ⟨⟨false, State.reset, by decide, by decide⟩,
    ⟨false, { State.reset with rv := { Rv.reset with portUp := { RvPort.reset with up := true } } }, by decide,
     by decide⟩,
    ⟨false,
     { type := 0x30, flags := 0, src := 0, dst := 0, hops := 0, session := 0, seq := 0, lseq := 0, payload := [] },
     { State.reset with rv := { Rv.reset with portUp := { RvPort.reset with up := true } } }, by decide, by decide,
     by decide, by decide, by decide⟩,
    ⟨false,
     { type := 0x30, flags := 0, src := 0, dst := 0, hops := 1024, session := 0, seq := 0, lseq := 0, payload := [] },
     { State.reset with rv := { Rv.reset with portUp := { RvPort.reset with up := true } } }, by decide, by decide,
     by decide, by decide⟩,
    ⟨false, false,
     { type := 0, flags := 0, src := 0, dst := 0, hops := 0, session := 0, seq := 0, lseq := 255, payload := [] },
     { State.reset with rv := { Rv.reset with portUp := { RvPort.reset with up := true } } }, by decide, by decide,
     by decide, by decide⟩,
    ⟨false, false,
     { type := 0, flags := 0, src := 0, dst := 0, hops := 0, session := 0, seq := 0, lseq := 0, payload := [] },
     { State.reset with rv := { Rv.reset with portUp := { RvPort.reset with up := true, discard := true } } },
     by decide, by decide, by decide, by decide⟩,
    ⟨false, { type := 0, flags := 0, src := 0, dst := 0, hops := 0, session := 0, seq := 0, lseq := 0, payload := [] },
     [],
     { State.reset with rv := { Rv.reset with portUp := { RvPort.reset with up := true, kept := [{ type := 0, flags := 0, src := 0, dst := 0, hops := 0, session := 0, seq := 0, lseq := 0, payload := [] }] } } },
     by decide, by decide, by decide⟩,
    ⟨false, { type := 0, flags := 0, src := 0, dst := 0, hops := 0, session := 0, seq := 0, lseq := 0, payload := [] },
     [],
     { State.reset with rv := { Rv.reset with portUp := { RvPort.reset with up := true, kept := [{ type := 0, flags := 0, src := 0, dst := 0, hops := 0, session := 0, seq := 0, lseq := 0, payload := [] }] } } },
     by decide, by decide, by decide, by decide⟩,
    ⟨false, { type := 0, flags := 0, src := 0, dst := 0, hops := 0, session := 0, seq := 0, lseq := 0, payload := [] },
     [],
     { State.reset with rv := { Rv.reset with portUp := { RvPort.reset with up := true, kept := [{ type := 0, flags := 0, src := 0, dst := 0, hops := 0, session := 0, seq := 0, lseq := 0, payload := [] }], resends := [0, 0, 0, 0] } } },
     by decide, by decide, by decide, by decide⟩⟩

/-- The hypotheses of RollCall can be met, clause by clause. -/
theorem witness_RollCall :
    (∃ (req : Requester) (v : Word) (s : State),
        s.RlvOpen req ∧ fromDie0 req = true ∧ ((s.rvPort false).up = false ∨ s.flag Fld.RV_CTRL_HEAD 0 = true) ∧
        (s.rvPort true).up = true) ∧
    (∃ (req : Requester) (v : Word) (s : State),
        s.RlvOpen req ∧ fromDie0 req = true ∧ (s.rvPort false).up = false ∧ (s.rvPort true).up = false) ∧
    (∃ (req : Requester) (v : Word) (s : State),
        s.RlvOpen req ∧ fromDie0 req = true ∧ (s.rvPort false).up = true ∧ s.flag Fld.RV_CTRL_HEAD 0 = false) ∧
    (∃ (x : Parcel) (l : List (Bool × Parcel)) (n : Nat) (s : State),
        s.rlvLive = true ∧ s.rv.inq = (false, x) :: l ∧ x.type = 0x02 ∧ s.flag Fld.RV_CTRL_HEAD 0 = false ∧
        n = ofBe (sliceB x.payload 0 2) ∧ n < 1024) ∧
    (∃ (x : Parcel) (l : List (Bool × Parcel)) (s : State),
        s.rlvLive = true ∧ s.rv.inq = (false, x) :: l ∧ x.type = 0x02 ∧ s.flag Fld.RV_CTRL_HEAD 0 = false ∧
        1024 ≤ ofBe (sliceB x.payload 0 2)) ∧
    (∃ (x : Parcel) (l : List (Bool × Parcel)) (n : Nat) (s : State),
        s.rlvLive = true ∧ s.rv.inq = (false, x) :: l ∧ x.type = 0x02 ∧ s.flag Fld.RV_CTRL_HEAD 0 = true ∧
        sliceB x.payload 4 48 = s.deviceId ∧ n = ofBe (sliceB x.payload 0 2)) ∧
    (∃ (p : Bool) (x : Parcel) (l : List (Bool × Parcel)) (s : State),
        s.rlvLive = true ∧ s.rv.inq = (p, x) :: l ∧ x.type = 0x03) ∧
    (∃ (p : Bool) (x : Parcel) (l : List (Bool × Parcel)) (s : State),
        s.rlvLive = true ∧ s.rv.inq = (p, x) :: l ∧ x.type = 0x04) :=
  ⟨⟨.sentry 0 0, 0, { State.reset with rv := { Rv.reset with portDn := { RvPort.reset with up := true } } },
     by decide, by decide, by decide, by decide⟩,
    ⟨.sentry 0 0, 0, State.reset, by decide, by decide, by decide, by decide⟩,
    ⟨.sentry 0 0, 0, { State.reset with rv := { Rv.reset with portUp := { RvPort.reset with up := true } } },
     by decide, by decide, by decide, by decide⟩,
    ⟨{ type := 0x02, flags := 0, src := 0, dst := 0, hops := 0, session := 0, seq := 0, lseq := 0, payload := [0x03, 0xFF] },
     [], _,
     { State.reset with rv := { Rv.reset with inq := [(false, { type := 0x02, flags := 0, src := 0, dst := 0, hops := 0, session := 0, seq := 0, lseq := 0, payload := [0x03, 0xFF] })] } },
     by decide, by decide, by decide, by decide, rfl, by decide⟩,
    ⟨{ type := 0x02, flags := 0, src := 0, dst := 0, hops := 0, session := 0, seq := 0, lseq := 0, payload := [0x04, 0x00] },
     [],
     { State.reset with rv := { Rv.reset with inq := [(false, { type := 0x02, flags := 0, src := 0, dst := 0, hops := 0, session := 0, seq := 0, lseq := 0, payload := [0x04, 0x00] })] } },
     by decide, by decide, by decide, by decide, by decide⟩,
    ⟨{ type := 0x02, flags := 0, src := 0, dst := 0, hops := 0, session := 0, seq := 0, lseq := 0, payload := [0x03, 0xFF] },
     [], _,
     { (State.reset.setF Fld.RV_CTRL_HEAD 0 1) with rv := { Rv.reset with inq := [(false, { type := 0x02, flags := 0, src := 0, dst := 0, hops := 0, session := 0, seq := 0, lseq := 0, payload := [0x03, 0xFF] })] } },
     by decide, by decide, by decide, by decide, by decide, rfl⟩,
    ⟨false,
     { type := 0x03, flags := 0, src := 0, dst := 0, hops := 0, session := 0, seq := 0, lseq := 0, payload := [] },
     [],
     { State.reset with rv := { Rv.reset with inq := [(false, { type := 0x03, flags := 0, src := 0, dst := 0, hops := 0, session := 0, seq := 0, lseq := 0, payload := [] })] } },
     by decide, by decide, by decide⟩,
    ⟨false,
     { type := 0x04, flags := 0, src := 0, dst := 0, hops := 0, session := 0, seq := 0, lseq := 0, payload := [] },
     [],
     { State.reset with rv := { Rv.reset with inq := [(false, { type := 0x04, flags := 0, src := 0, dst := 0, hops := 0, session := 0, seq := 0, lseq := 0, payload := [] })] } },
     by decide, by decide, by decide⟩⟩

/-- The hypotheses of FirmwareParcels can be met, clause by clause. -/
theorem witness_FirmwareParcels :
    (∃ (p : Bool) (x : Parcel) (l : List (Bool × Parcel)) (n : Nat) (a : Nat) (c : Instr) (s : State),
        s.rlvLive = true ∧ s.rv.inq = (p, x) :: l ∧ x.payload.length ≤ 4096 ∧ pBcast x = false ∧
        s.isHere x.dst = true ∧ n = s.rvRxSize ∧ a = s.getF Fld.RV_RXPTR_TAIL 0 % n ∧
        (a + 1) % n ≠ s.getF Fld.RV_RXPTR_HEAD 0 % n ∧
        (c, x.type) ∈ [(Instr.resendReq, 0x15#8), (.rvBusy, 0x16#8), (.rvReply, 0x21#8), (.rvMessage, 0x30#8)]) ∧
    (∃ (p : Bool) (x : Parcel) (l : List (Bool × Parcel)) (n : Nat) (c : Instr) (s : State),
        s.rlvLive = true ∧ s.rv.inq = (p, x) :: l ∧ pBcast x = false ∧ s.isHere x.dst = true ∧ n = s.rvRxSize ∧
        (s.getF Fld.RV_RXPTR_TAIL 0 % n + 1) % n = s.getF Fld.RV_RXPTR_HEAD 0 % n ∧
        (c, x.type) ∈ [(Instr.resendReq, 0x15#8), (.rvBusy, 0x16#8), (.rvReply, 0x21#8), (.rvMessage, 0x30#8)]) ∧
    (∃ (p : Bool) (x : Parcel) (l : List (Bool × Parcel)) (c : Instr) (s : State),
        s.rlvLive = true ∧ s.rv.inq = (p, x) :: l ∧ pBcast x = false ∧ s.isHere x.dst = false ∧
        (s.rvPort !p).up = true ∧
        (c, x.type) ∈ [(Instr.resendReq, 0x15#8), (.rvBusy, 0x16#8), (.rvReply, 0x21#8), (.rvMessage, 0x30#8)]) ∧
    (∃ (p : Bool) (x : Parcel) (l : List (Bool × Parcel)) (s : State),
        s.rlvLive = true ∧ s.rv.inq = (p, x) :: l ∧ x.type = 0x01 ∧ s.folio.opened = false) ∧
    (∃ (req : Requester) (v : Word) (l : Stores) (x : Parcel) (h : Nat) (p : Bool) (s : State) (u : State),
        s.RlvOpen req ∧ fromDie0 req = true ∧ u = s.stores l ∧ h = s.getF Fld.RV_TXPTR_HEAD 0 ∧
        Fld.RV_TXPTR_TAIL.of v = (h + 1) % 32 ∧ x = u.txParcel h ∧ x.type = 0x30 ∧ pBcast x = false ∧
        p = decide (s.rvPos < x.dst) ∧ (s.rvPort p).up = true) ∧
    (∃ (req : Requester) (v : Word) (l : Stores) (s : State),
        s.RlvOpen req ∧ fromDie0 req = false) ∧
    (∃ (p : Bool) (x : Parcel) (l : List (Bool × Parcel)) (s : State),
        s.rlvLive = true ∧ s.rv.inq = (p, x) :: l ∧ x.type = 0x20 ∧ pBcast x = false ∧ s.isHere x.dst = true ∧
        x.seq = 0) ∧
    (∃ (p : Bool) (x : Parcel) (h : Parcel) (c : List Byte) (l : List (Bool × Parcel)) (s : State),
        s.rlvLive = true ∧ s.rv.inq = (p, x) :: l ∧ x.type = 0x20 ∧ pBcast x = false ∧ s.isHere x.dst = true ∧
        x.seq = 1 ∧ (s.rv.halves.find? fun h => decide (h.src = x.src)) = some h ∧ c = h.payload ++ x.payload ∧
        c.length = 8192 ∧ sliceB c 0x10 48 = s.deviceId ∧ (s.identity = false ∨ s.flag Fld.RV_CTRL_CMD_EN 0 = false) ∧
        (s.rvPort p).up = true) ∧
    (∃ (p : Bool) (x : Parcel) (h : Parcel) (c : List Byte) (l : List (Bool × Parcel)) (s : State),
        s.rlvLive = true ∧ s.rv.inq = (p, x) :: l ∧ x.type = 0x20 ∧ pBcast x = false ∧ s.isHere x.dst = true ∧
        x.seq = 1 ∧ (s.rv.halves.find? fun h => decide (h.src = x.src)) = some h ∧ c = h.payload ++ x.payload ∧
        c.length = 8192 ∧ sliceB c 0x10 48 = s.deviceId ∧ s.identity = true ∧ s.flag Fld.RV_CTRL_CMD_EN 0 = true ∧
        s.flag Fld.RV_CTRL_RESET_EN 0 = true ∧ (ofBe (sliceB c 0x40 4) ≠ s.pcc ∨ ofBe (sliceB c 0x48 8) ≤ s.cseq) ∧
        (s.rvPort p).up = true) ∧
    (∃ (p : Bool) (x : Parcel) (h : Parcel) (c : List Byte) (l : List (Bool × Parcel)) (s : State),
        s.rlvLive = true ∧ s.rv.inq = (p, x) :: l ∧ x.type = 0x20 ∧ pBcast x = false ∧ s.isHere x.dst = true ∧
        x.seq = 1 ∧ (s.rv.halves.find? fun h => decide (h.src = x.src)) = some h ∧ c = h.payload ++ x.payload ∧
        c.length = 8192 ∧ sliceB c 0x10 48 = s.deviceId) ∧
    (∃ (req : Requester) (s : State),
        s.reqFar req = true) :=
  ⟨⟨false,
     { type := 0x30, flags := 0, src := 0, dst := 0, hops := 0, session := 0, seq := 0, lseq := 0, payload := [] },
     [], _, _, .rvMessage,
     { ((State.reset.setF Fld.RV_STATUS_POS_VALID 0 1).setF Fld.RV_RXPTR_SIZE 0 9) with rv := { Rv.reset with inq := [(false, { type := 0x30, flags := 0, src := 0, dst := 0, hops := 0, session := 0, seq := 0, lseq := 0, payload := [] })] } },
     by decide, by decide, by decide, by decide, by decide, rfl, rfl, by decide, by decide⟩,
    ⟨false,
     { type := 0x15, flags := 0, src := 0, dst := 0, hops := 0, session := 0, seq := 0, lseq := 0, payload := [] },
     [], _, .resendReq,
     { ((State.reset.setF Fld.RV_STATUS_POS_VALID 0 1).setF Fld.RV_RXPTR_HEAD 0 1) with rv := { Rv.reset with inq := [(false, { type := 0x15, flags := 0, src := 0, dst := 0, hops := 0, session := 0, seq := 0, lseq := 0, payload := [] })] } },
     by decide, by decide, by decide, by decide, rfl, by decide, by decide⟩,
    ⟨false,
     { type := 0x21, flags := 0, src := 0, dst := 0, hops := 0, session := 0, seq := 0, lseq := 0, payload := [] },
     [], .rvReply,
     { State.reset with rv := { Rv.reset with inq := [(false, { type := 0x21, flags := 0, src := 0, dst := 0, hops := 0, session := 0, seq := 0, lseq := 0, payload := [] })], portDn := { RvPort.reset with up := true } } },
     by decide, by decide, by decide, by decide, by decide, by decide⟩,
    ⟨false,
     { type := 0x01, flags := 0, src := 0, dst := 0, hops := 0, session := 0, seq := 0, lseq := 0, payload := [] },
     [],
     { State.reset with rv := { Rv.reset with inq := [(false, { type := 0x01, flags := 0, src := 0, dst := 0, hops := 0, session := 0, seq := 0, lseq := 0, payload := [] })] } },
     by decide, by decide, by decide, by decide⟩,
    ⟨.sentry 0 0, 1, [(0, 0, 0x30), (0, 5, 1)], _, _, true,
     { State.reset with rv := { Rv.reset with portDn := { RvPort.reset with up := true } } }, _, by decide, by decide,
     rfl, rfl, by decide, rfl, by decide, by decide, rfl, by decide⟩,
    ⟨.pf, 0, [], State.reset, by decide, by decide⟩,
    ⟨false,
     { type := 0x20, flags := 0, src := 0, dst := 0, hops := 0, session := 0, seq := 0, lseq := 0, payload := [] },
     [],
     { (State.reset.setF Fld.RV_STATUS_POS_VALID 0 1) with rv := { Rv.reset with inq := [(false, { type := 0x20, flags := 0, src := 0, dst := 0, hops := 0, session := 0, seq := 0, lseq := 0, payload := [] })] } },
     by decide, by decide, by decide, by decide, by decide, by decide⟩,
    ⟨false,
     { type := 0x20, flags := 0, src := 0, dst := 0, hops := 0, session := 0, seq := 1, lseq := 0, payload := (List.replicate 4096 0) },
     { type := 0x20, flags := 0, src := 0, dst := 0, hops := 0, session := 0, seq := 0, lseq := 0, payload := (List.replicate 4096 0) },
     _, [],
     { (State.reset.setF Fld.RV_STATUS_POS_VALID 0 1) with rv := { Rv.reset with inq := [(false, { type := 0x20, flags := 0, src := 0, dst := 0, hops := 0, session := 0, seq := 1, lseq := 0, payload := (List.replicate 4096 0) })], halves := [{ type := 0x20, flags := 0, src := 0, dst := 0, hops := 0, session := 0, seq := 0, lseq := 0, payload := (List.replicate 4096 0) }], portUp := { RvPort.reset with up := true } } },
     by decide, by decide, by decide, by decide, by decide, by decide, by decide, rfl, by decide +kernel,
     by decide +kernel, by decide, by decide⟩,
    ⟨false,
     { type := 0x20, flags := 0, src := 0, dst := 0, hops := 0, session := 0, seq := 1, lseq := 0, payload := (List.replicate 4096 0) },
     { type := 0x20, flags := 0, src := 0, dst := 0, hops := 0, session := 0, seq := 0, lseq := 0, payload := (List.replicate 4096 0) },
     _, [],
     { { (((State.reset.setF Fld.RV_STATUS_POS_VALID 0 1).setF Fld.RV_CTRL_CMD_EN 0 1).setF Fld.RV_CTRL_RESET_EN 0 1) with rv := { Rv.reset with inq := [(false, { type := 0x20, flags := 0, src := 0, dst := 0, hops := 0, session := 0, seq := 1, lseq := 0, payload := (List.replicate 4096 0) })], halves := [{ type := 0x20, flags := 0, src := 0, dst := 0, hops := 0, session := 0, seq := 0, lseq := 0, payload := (List.replicate 4096 0) }], portUp := { RvPort.reset with up := true } } } with keys := { Keys.reset with holds0 := true } },
     by decide, by decide, by decide, by decide, by decide, by decide, by decide, rfl, by decide +kernel,
     by decide +kernel, by decide, by decide, by decide, by decide, by decide⟩,
    ⟨false,
     { type := 0x20, flags := 0, src := 0, dst := 0, hops := 0, session := 0, seq := 1, lseq := 0, payload := (List.replicate 4096 0) },
     { type := 0x20, flags := 0, src := 0, dst := 0, hops := 0, session := 0, seq := 0, lseq := 0, payload := (List.replicate 4096 0) },
     _, [],
     { (State.reset.setF Fld.RV_STATUS_POS_VALID 0 1) with rv := { Rv.reset with inq := [(false, { type := 0x20, flags := 0, src := 0, dst := 0, hops := 0, session := 0, seq := 1, lseq := 0, payload := (List.replicate 4096 0) })], halves := [{ type := 0x20, flags := 0, src := 0, dst := 0, hops := 0, session := 0, seq := 0, lseq := 0, payload := (List.replicate 4096 0) }], portUp := { RvPort.reset with up := true } } },
     by decide, by decide, by decide, by decide, by decide, by decide, by decide, rfl, by decide +kernel,
     by decide +kernel⟩,
    ⟨.sentry 0 0, State.reset, by decide⟩⟩

/-- The hypotheses of ImageSessions can be met, clause by clause. -/
theorem witness_ImageSessions :
    (∃ (p : Bool) (x : Parcel) (l : List (Bool × Parcel)) (n : Nat) (s : State),
        s.rlvLive = true ∧ s.rv.inq = (p, x) :: l ∧ x.type = 0x10 ∧ s.rv.session = none ∧ x.seq = 0 ∧
        n = ofBe (sliceB x.payload 4 4) ∧ n ≠ 0 ∧ n ≤ 16384 ∧ pRescue x = false) ∧
    (∃ (p : Bool) (x : Parcel) (l : List (Bool × Parcel)) (y : RvSession) (s : State),
        s.rlvLive = true ∧ s.rv.inq = (p, x) :: l ∧ x.type = 0x10 ∧ s.rv.session = some y ∧ y.has x = false ∧
        (s.rvPort p).up = true) ∧
    (∃ (p : Bool) (x : Parcel) (l : List (Bool × Parcel)) (y : RvSession) (s : State),
        s.rlvLive = true ∧ s.rv.inq = (p, x) :: l ∧ x.type = 0x11 ∧ s.sessionNext x = some y ∧ y.held = []) ∧
    (∃ (p : Bool) (x : Parcel) (l : List (Bool × Parcel)) (y : RvSession) (h : Option Bool × Parcel) (s : State),
        s.rlvLive = true ∧ s.rv.inq = (p, x) :: l ∧ x.type = 0x11 ∧ s.sessionNext x = some y ∧ y.held = [h] ∧
        (h.2.payload ++ x.payload).length ≠ 8192) ∧
    (∃ (p : Bool) (x : Parcel) (l : List (Bool × Parcel)) (y : RvSession) (gs : List (Nat × Nat)) (s : State),
        s.rlvLive = true ∧ s.rv.inq = (p, x) :: l ∧ x.type = 0x12 ∧ pResend x = false ∧ s.sessionNext x = some y ∧
        y.rescue = false ∧ treeAt y.leaves x.seq = some gs ∧ (∀ g ∈ gs, g.1 = 0) ∧ gs ≠ []) ∧
    (∃ (p : Bool) (x : Parcel) (l : List (Bool × Parcel)) (y : RvSession) (leaf : Nat) (s : State),
        s.rlvLive = true ∧ s.rv.inq = (p, x) :: l ∧ x.type = 0x13 ∧ pResend x = false ∧ s.sessionNext x = some y ∧
        y.rescue = false ∧ leafAt y.leaves x.seq = some leaf ∧ blockEnds y.leaves leaf = false) ∧
    (∃ (p : Bool) (x : Parcel) (l : List (Bool × Parcel)) (y : RvSession) (leaf : Nat) (s : State),
        s.rlvLive = true ∧ s.rv.inq = (p, x) :: l ∧ x.type = 0x13 ∧ pResend x = false ∧ s.sessionNext x = some y ∧
        y.rescue = false ∧ leafAt y.leaves x.seq = some leaf ∧ blockEnds y.leaves leaf = true) ∧
    (∃ (p : Bool) (x : Parcel) (l : List (Bool × Parcel)) (y : RvSession) (s : State),
        s.rlvLive = true ∧ s.rv.inq = (p, x) :: l ∧ x.type = 0x14 ∧ s.rv.session = some y ∧ y.has x = true ∧
        s.boot.rescue = none) ∧
    (∃ (req : Requester) (v : Word) (y : RvSession) (s : State),
        s.RlvOpen req ∧ fromDie0 req = true ∧ s.rv.session = some y) ∧
    (∃ (y : RvSession) (s : State),
        s.rlvLive = true ∧ s.rv.session = some y ∧
        1000000 * max 1 (s.getF Fld.RV_CTRL_SESSION_S 0) ≤ s.usSince y.since) ∧
    (∃ (s : State),
        s.rv.session = none) :=
  ⟨⟨false,
     { type := 0x10, flags := 0, src := 0, dst := 0, hops := 0, session := 0, seq := 0, lseq := 0, payload := (List.replicate 7 0 ++ [1]) },
     [], _,
     { State.reset with rv := { Rv.reset with inq := [(false, { type := 0x10, flags := 0, src := 0, dst := 0, hops := 0, session := 0, seq := 0, lseq := 0, payload := (List.replicate 7 0 ++ [1]) })] } },
     by decide, by decide, by decide, by decide, by decide, rfl, by decide, by decide, by decide⟩,
    ⟨false,
     { type := 0x10, flags := 0, src := 0, dst := 0, hops := 0, session := 1, seq := 0, lseq := 0, payload := [] },
     [],
     { number := 0, origin := 0, rescue := false, low := 0, high := 0, leaves := 1, depth := 1, next := 0, colophon := [], held := [], groups := [], block := [], again := [] },
     { State.reset with rv := { Rv.reset with inq := [(false, { type := 0x10, flags := 0, src := 0, dst := 0, hops := 0, session := 1, seq := 0, lseq := 0, payload := [] })], session := some { number := 0, origin := 0, rescue := false, low := 0, high := 0, leaves := 1, depth := 1, next := 0, colophon := [], held := [], groups := [], block := [], again := [] }, portUp := { RvPort.reset with up := true } } },
     by decide, by decide, by decide, by decide, by decide, by decide⟩,
    ⟨false,
     { type := 0x11, flags := 0, src := 0, dst := 0, hops := 0, session := 0, seq := 1, lseq := 0, payload := [] },
     [],
     { number := 0, origin := 0, rescue := false, low := 0, high := 0, leaves := 1, depth := 1, next := 1, colophon := [], held := [], groups := [], block := [], again := [] },
     { State.reset with rv := { Rv.reset with inq := [(false, { type := 0x11, flags := 0, src := 0, dst := 0, hops := 0, session := 0, seq := 1, lseq := 0, payload := [] })], session := some { number := 0, origin := 0, rescue := false, low := 0, high := 0, leaves := 1, depth := 1, next := 1, colophon := [], held := [], groups := [], block := [], again := [] } } },
     by decide, by decide, by decide, by decide, by decide⟩,
    ⟨false,
     { type := 0x11, flags := 0, src := 0, dst := 0, hops := 0, session := 0, seq := 2, lseq := 0, payload := [] },
     [],
     { number := 0, origin := 0, rescue := false, low := 0, high := 0, leaves := 1, depth := 1, next := 2, colophon := [], held := [(none, { type := 0, flags := 0, src := 0, dst := 0, hops := 0, session := 0, seq := 0, lseq := 0, payload := [] })], groups := [], block := [], again := [] },
     (none, { type := 0, flags := 0, src := 0, dst := 0, hops := 0, session := 0, seq := 0, lseq := 0, payload := [] }),
     { State.reset with rv := { Rv.reset with inq := [(false, { type := 0x11, flags := 0, src := 0, dst := 0, hops := 0, session := 0, seq := 2, lseq := 0, payload := [] })], session := some { number := 0, origin := 0, rescue := false, low := 0, high := 0, leaves := 1, depth := 1, next := 2, colophon := [], held := [(none, { type := 0, flags := 0, src := 0, dst := 0, hops := 0, session := 0, seq := 0, lseq := 0, payload := [] })], groups := [], block := [], again := [] } } },
     by decide, by decide, by decide, by decide, by decide, by decide⟩,
    ⟨false,
     { type := 0x12, flags := 0, src := 0, dst := 0, hops := 0, session := 0, seq := 3, lseq := 0, payload := [] },
     [],
     { number := 0, origin := 0, rescue := false, low := 0, high := 0, leaves := 1, depth := 1, next := 3, colophon := [], held := [], groups := [], block := [], again := [] },
     [(0, 0)],
     { State.reset with rv := { Rv.reset with inq := [(false, { type := 0x12, flags := 0, src := 0, dst := 0, hops := 0, session := 0, seq := 3, lseq := 0, payload := [] })], session := some { number := 0, origin := 0, rescue := false, low := 0, high := 0, leaves := 1, depth := 1, next := 3, colophon := [], held := [], groups := [], block := [], again := [] } } },
     by decide, by decide, by decide, by decide, by decide, by decide, by decide, by decide, by decide⟩,
    ⟨false,
     { type := 0x13, flags := 0, src := 0, dst := 0, hops := 0, session := 0, seq := 4, lseq := 0, payload := [] },
     [],
     { number := 0, origin := 0, rescue := false, low := 0, high := 0, leaves := 2, depth := 1, next := 4, colophon := [], held := [], groups := [], block := [], again := [] },
     0,
     { State.reset with rv := { Rv.reset with inq := [(false, { type := 0x13, flags := 0, src := 0, dst := 0, hops := 0, session := 0, seq := 4, lseq := 0, payload := [] })], session := some { number := 0, origin := 0, rescue := false, low := 0, high := 0, leaves := 2, depth := 1, next := 4, colophon := [], held := [], groups := [], block := [], again := [] } } },
     by decide, by decide, by decide, by decide, by decide, by decide, by decide, by decide⟩,
    ⟨false,
     { type := 0x13, flags := 0, src := 0, dst := 0, hops := 0, session := 0, seq := 4, lseq := 0, payload := [] },
     [],
     { number := 0, origin := 0, rescue := false, low := 0, high := 0, leaves := 1, depth := 1, next := 4, colophon := [], held := [], groups := [], block := [], again := [] },
     0,
     { State.reset with rv := { Rv.reset with inq := [(false, { type := 0x13, flags := 0, src := 0, dst := 0, hops := 0, session := 0, seq := 4, lseq := 0, payload := [] })], session := some { number := 0, origin := 0, rescue := false, low := 0, high := 0, leaves := 1, depth := 1, next := 4, colophon := [], held := [], groups := [], block := [], again := [] } } },
     by decide, by decide, by decide, by decide, by decide, by decide, by decide, by decide⟩,
    ⟨false,
     { type := 0x14, flags := 0, src := 0, dst := 0, hops := 0, session := 0, seq := 0, lseq := 0, payload := [] },
     [],
     { number := 0, origin := 0, rescue := false, low := 0, high := 0, leaves := 1, depth := 1, next := 0, colophon := [], held := [], groups := [], block := [], again := [], since := 1 },
     { State.reset with rv := { Rv.reset with inq := [(false, { type := 0x14, flags := 0, src := 0, dst := 0, hops := 0, session := 0, seq := 0, lseq := 0, payload := [] })], session := some { number := 0, origin := 0, rescue := false, low := 0, high := 0, leaves := 1, depth := 1, next := 0, colophon := [], held := [], groups := [], block := [], again := [], since := 1 } } },
     by decide, by decide, by decide, by decide, by decide, by decide⟩,
    ⟨.sentry 0 0, 0,
     { number := 0, origin := 0, rescue := false, low := 0, high := 0, leaves := 1, depth := 1, next := 0, colophon := [], held := [], groups := [], block := [], again := [] },
     { State.reset with rv := { Rv.reset with session := some { number := 0, origin := 0, rescue := false, low := 0, high := 0, leaves := 1, depth := 1, next := 0, colophon := [], held := [], groups := [], block := [], again := [] } } },
     by decide, by decide, by decide⟩,
    ⟨{ number := 0, origin := 0, rescue := false, low := 0, high := 0, leaves := 1, depth := 1, next := 0, colophon := [], held := [], groups := [], block := [], again := [], since := 1 },
     { State.reset with rv := { Rv.reset with session := some { number := 0, origin := 0, rescue := false, low := 0, high := 0, leaves := 1, depth := 1, next := 0, colophon := [], held := [], groups := [], block := [], again := [], since := 1 } } },
     by decide, by decide, by decide⟩,
    ⟨State.reset, by decide⟩⟩

/-- The hypotheses of GuardSources can be met, clause by clause. -/
theorem witness_GuardSources :
    (∃ (k : SourceId) (s : State),
        k.val < 72 ∧ s.sourcePresent k.val = true ∧ s.seq.aonHeld = false ∧
        (s.takable k.val = true ∨ k.val ∉ s.guard.latched)) ∧
    (∃ (k : SourceId) (s : State),
        k.val ∈ s.guard.latched ∧ s.takable k.val = false) ∧
    (∃ (p : Fin 16) (b : Bool) (s : State),
        s.seq.aonHeld = false ∧ bitOf (s.getF Fld.GD_PSNS_FILTERED 0) p.val ≠ b) ∧
    (∃ (p : Fin 16) (b : Bool) (s : State),
        bitOf (s.getF Fld.GD_PSNS_FILTERED 0) p.val = b) ∧
    (∃ (k : SourceId) (r : Nat) (n : Nat) (s : State),
        s.platLive = true ∧ s.takable k.val = true ∧ n = s.guard.latched.count k.val ∧ n ≠ 0 ∧
        s.flag Fld.GD_SRC_CFG_ENABLE k.val = true ∧ Tbl.get s.guard.windows k.val 0 = 0 ∧
        r = s.getF Fld.GD_SRC_CFG_RESP k.val ∧ r ≠ 0) ∧
    (∃ (k : SourceId) (n : Nat) (s : State),
        s.platLive = true ∧ s.takable k.val = true ∧ n = s.guard.latched.count k.val ∧
        s.flag Fld.GD_SRC_CFG_ENABLE k.val = true ∧ Tbl.get s.guard.windows k.val 0 ≠ 0) ∧
    (∃ (k : SourceId) (s : State),
        s.platLive = true ∧ s.takable k.val = true ∧ k.val ∈ s.guard.latched ∧
        s.flag Fld.GD_SRC_CFG_ENABLE k.val = false) ∧
    (∃ (k : SourceId) (s : State),
        s.platLive = true ∧ Tbl.get s.guard.windows k.val 0 ≠ 0 ∧
        1000 * max 1 (s.getF Fld.GD_CTRL_HOLDOFF_MS 0) ≤ s.usSince (Tbl.get s.guard.windowUs k.val 0)) ∧
    (∃ (req : Requester) (k : SourceId) (s : State),
        s.PlatOpen req) :=
  ⟨⟨71, State.reset, by decide, by decide, by decide, by decide⟩,
    ⟨0, { State.reset with guard := { Guard.reset with latched := [0] }, seq := { Seq.reset with platReset := true } },
     by decide, by decide⟩,
    ⟨15, true, State.reset, by decide, by decide⟩,
    ⟨0, false, State.reset, by decide⟩,
    ⟨87, _, 1,
     { ((State.reset.setF Fld.GD_SRC_CFG_ENABLE 87 1).setF Fld.GD_SRC_CFG_RESP 87 5) with guard := { Guard.reset with latched := [87] } },
     by decide, by decide, rfl, by decide, by decide, by decide, rfl, by decide⟩,
    ⟨0, 1,
     { (State.reset.setF Fld.GD_SRC_CFG_ENABLE 0 1) with guard := { Guard.reset with latched := [0], windows := [(0, 1)] } },
     by decide, by decide, rfl, by decide, by decide⟩,
    ⟨0, { (State.reset.setF Fld.GD_SRC_CFG_ENABLE 0 0) with guard := { Guard.reset with latched := [0] } }, by decide,
     by decide, by decide, by decide⟩,
    ⟨0, { State.reset with guard := { Guard.reset with windows := [(0, 1)], windowUs := [(0, 1)] } }, by decide,
     by decide, by decide⟩,
    ⟨.sentry 0 0, 0, State.reset, by decide⟩⟩

/-- The hypotheses of Lockdown can be met, clause by clause. -/
theorem witness_Lockdown :
    (∃ (req : Requester) (v : Word) (s : State),
        s.PlatOpen req ∧ fromDie0 req = true ∧ s.flag Fld.GD_STATUS_LOCKED 0 = false) ∧
    (∃ (req : Requester) (v : Word) (s : State),
        s.PlatOpen req ∧ fromDie0 req = true ∧ s.flag Fld.GD_STATUS_LOCKED 0 = true) ∧
    (∃ (req : Requester) (v : Word) (l : Stores) (s : State),
        s.PlatOpen req ∧ fromDie0 req = true) ∧
    (∃ (req : Requester) (v : Word) (l : Stores) (s : State),
        s.PlatOpen req ∧ fromDie0 req = true) ∧
    (∃ (req : Requester) (s : State),
        s.PlatOpen req) ∧
    (∃ (req : Requester) (v : Word) (l : Stores) (s : State),
        s.PlatOpen req ∧ fromDie0 req = false) :=
  ⟨⟨.sentry 0 0, 0, (State.reset.setF Fld.GD_STATUS_LOCKED 0 0), by decide, by decide, by decide⟩,
    ⟨.sentry 0 0, 0, (State.reset.setF Fld.GD_STATUS_LOCKED 0 1), by decide, by decide, by decide⟩,
    ⟨.sentry 0 0, 0, [], State.reset, by decide, by decide⟩,
    ⟨.sentry 0 0, 0, [], State.reset, by decide, by decide⟩,
    ⟨.sentry 0 0, State.reset, by decide⟩,
    ⟨.mailbox, 0, [], State.reset, by decide, by decide⟩⟩

/-- The hypotheses of Folio can be met, clause by clause. -/
theorem witness_Folio :
    (∃ (a : List (List Byte)) (b : List (List Byte)) (s : State),
        s.platLive = true ∧ s.folio.sizeSet = true ∧ s.getF Fld.FO_STATUS_STATE 0 = 1 ∧
        s.flag Fld.BT_LOCK_ROM_LOCKED 0 = true) ∧
    (∃ (a : List (List Byte)) (b : List (List Byte)) (s : State),
        (s.folio.sizeSet = false ∨ s.getF Fld.FO_STATUS_STATE 0 ≠ 1 ∨ s.flag Fld.BT_LOCK_ROM_LOCKED 0 = false)) ∧
    (∃ (req : Requester) (v : Word) (s : State),
        s.PlatOpen req ∧ fromDie0 req = true ∧ s.getF Fld.FO_STATUS_STATE 0 = 4) ∧
    (∃ (req : Requester) (v : Word) (s : State),
        s.PlatOpen req ∧ fromDie0 req = true ∧ s.getF Fld.FO_STATUS_STATE 0 ≠ 4) ∧
    (∃ (req : Requester) (v : Word) (l : Stores) (s : State),
        s.PlatOpen req ∧ fromDie0 req = true ∧ 0x40 ≤ Fld.FO_CMD_TYPE.of v ∧ Fld.FO_CMD_TYPE.of v ≤ 0xEF ∧
        Fld.FO_CMD_LEN.of v ≤ 4080 ∧ Fld.FO_CMD_LEN.of v % 16 = 0 ∧
        s.folio.stagedBytes + 16 + Fld.FO_CMD_LEN.of v ≤ 65536) ∧
    (∃ (req : Requester) (v : Word) (l : Stores) (s : State),
        s.PlatOpen req ∧ fromDie0 req = true ∧
        (Fld.FO_CMD_TYPE.of v < 0x40 ∨ 0xEF < Fld.FO_CMD_TYPE.of v ∨ 4080 < Fld.FO_CMD_LEN.of v)) ∧
    (∃ (a : List Bool) (b : List Bool) (x : StagedRec) (l : List StagedRec) (s : State),
        s.platLive = true ∧ s.folio.opened = true ∧ s.deferring = false ∧ s.folio.staged = x :: l ∧
        s.flag Fld.FO_STATUS_FULL 0 = false ∧ s.folio.dropped = 0 ∧ s.getF Fld.FO_STATUS_DEV_LOST 0 = 0) ∧
    (∃ (b : List Bool) (x : StagedRec) (l : List StagedRec) (s : State),
        s.platLive = true ∧ s.folio.opened = true ∧ s.deferring = false ∧ s.folio.staged = x :: l ∧
        s.flag Fld.FO_STATUS_FULL 0 = false ∧ s.folio.dropped = 0 ∧ s.getF Fld.FO_STATUS_DEV_LOST 0 = 0) ∧
    (∃ (x : StagedRec) (l : List StagedRec) (s : State),
        s.platLive = true ∧ s.folio.opened = true ∧ s.deferring = false ∧ s.folio.staged = x :: l ∧
        s.flag Fld.FO_STATUS_FULL 0 = false ∧ s.getF Fld.FO_STATUS_DEV_LOST 0 = 0) ∧
    (∃ (a : List Bool) (b : List Bool) (s : State),
        s.getF Fld.FO_STATUS_DEV_LOST 0 = 3) ∧
    (∃ (s : State),
        s.platLive = true ∧ s.folio.opened = true ∧ s.getF Fld.FO_CTRL_TICK_S 0 ≤ s.ot - s.folio.visibleOt ∧
        s.folio.stagedBytes + 16 ≤ 65536) ∧
    (∃ (s : State),
        (s.folio.opened = false ∨ s.ot - s.folio.visibleOt < s.getF Fld.FO_CTRL_TICK_S 0)) ∧
    (∃ (req : Requester) (s : State),
        s.PlatOpen req) :=
  ⟨⟨[], [],
     { ((State.reset.setF Fld.FO_STATUS_STATE 0 1).setF Fld.BT_LOCK_ROM_LOCKED 0 1) with folio := { Folio.reset with sizeSet := true } },
     by decide, by decide, by decide, by decide⟩,
    ⟨[], [], State.reset, by decide⟩,
    ⟨.sentry 0 0, 0, (State.reset.setF Fld.FO_STATUS_STATE 0 4), by decide, by decide, by decide⟩,
    ⟨.sentry 0 0, 0, State.reset, by decide, by decide, by decide⟩,
    ⟨.sentry 0 0, 0x0FF04000, [], State.reset, by decide, by decide, by decide, by decide, by decide, by decide,
     by decide⟩,
    ⟨.sentry 0 0, 0, [], State.reset, by decide, by decide, by decide⟩,
    ⟨[], [], { sector := 0, off := 0, entry := { typ := 0x40, seq := 0, ot := 0, pcc := 1, body := [] } }, [],
     { State.reset with folio := { Folio.reset with opened := true, staged := [{ sector := 0, off := 0, entry := { typ := 0x40, seq := 0, ot := 0, pcc := 1, body := [] } }] } },
     by decide, by decide, by decide, by decide, by decide, by decide, by decide⟩,
    ⟨[], { sector := 0, off := 0, entry := { typ := 0x40, seq := 0, ot := 0, pcc := 1, body := [] } }, [],
     { State.reset with folio := { Folio.reset with opened := true, staged := [{ sector := 0, off := 0, entry := { typ := 0x40, seq := 0, ot := 0, pcc := 1, body := [] } }] } },
     by decide, by decide, by decide, by decide, by decide, by decide, by decide⟩,
    ⟨{ sector := 0, off := 0, entry := { typ := 0x40, seq := 0, ot := 0, pcc := 1, body := [] } }, [],
     { State.reset with folio := { Folio.reset with opened := true, staged := [{ sector := 0, off := 0, entry := { typ := 0x40, seq := 0, ot := 0, pcc := 1, body := [] } }] } },
     by decide, by decide, by decide, by decide, by decide, by decide⟩,
    ⟨[], [], (State.reset.setF Fld.FO_STATUS_DEV_LOST 0 3), by decide⟩,
    ⟨{ { (State.reset.setF Fld.FO_CTRL_TICK_S 0 60) with folio := { Folio.reset with opened := true } } with ot := 60 },
     by decide, by decide, by decide, by decide⟩,
    ⟨State.reset, by decide⟩,
    ⟨.sentry 0 0, State.reset, by decide⟩⟩

/-- The hypotheses of TimeCounts can be met, clause by clause. -/
theorem witness_TimeCounts :
    (∃ (s : State),
        s.seq.aonHeld = false) ∧
    (∃ (s : State),
        s.seq.aonHeld = true) ∧
    (∃ (s : State),
        s.stopped = false) ∧
    (∃ (s : State),
        s.stopped = true) :=
  ⟨⟨State.reset, by decide⟩,
    ⟨{ State.reset with seq := { Seq.reset with aonHeld := true } }, by decide⟩,
    ⟨State.reset, by decide⟩,
    ⟨{ State.reset with seq := { Seq.reset with frozen := true } }, by decide⟩⟩

/-- The hypotheses of ObservationRegisters can be met, clause by clause. -/
theorem witness_ObservationRegisters :
    (∃ (req : Requester) (d : DieId) (e : Fin 1024) (s : State),
        s.DieOpen req d.val) ∧
    (∃ (req : Requester) (d : DieId) (e : Fin 1024) (v : Word) (s : State),
        s.DieOpen req d.val ∧ obAssigned d.val e.val = true) ∧
    (∃ (req : Requester) (d : DieId) (e : Fin 1024) (v : Word) (n : Nat) (s : State),
        s.DieOpen req d.val ∧ obAssigned d.val e.val = true ∧ s.obPaired d.val (e.val - e.val % 2) = false ∧ n ≠ 0) ∧
    (∃ (req : Requester) (d : DieId) (e : Fin 1024) (v : Word) (n : Nat) (s : State),
        s.DieOpen req d.val ∧ obAssigned d.val e.val = false) ∧
    (∃ (req : Requester) (d : DieId) (m : Fin 16) (v : Word) (s : State),
        s.DieOpen req d.val) ∧
    (∃ (req : Requester) (d : DieId) (k : Fin 16) (v : Word) (s : State),
        s.DieOpen req d.val) ∧
    (∃ (req : Requester) (d : DieId) (k : Fin 16) (v : Word) (s : State),
        s.DieOpen req d.val) ∧
    (∃ (req : Requester) (d : DieId) (c : Instr) (r : RegName) (s : State),
        s.DieOpen req d.val ∧
        (c, r) ∈ [(Instr.obPrecLostRead req d, RegName.OB_PREC_LOST), (.hpStaleRead req d, .HP_STALE), (.hpMigratedRead req d, .HP_MIGRATED)]) :=
  ⟨⟨.sentry 0 0, 0, 1023, State.reset, by decide⟩,
    ⟨.sentry 0 0, 0, 0x3F6, 0, State.reset, by decide, by decide⟩,
    ⟨.sentry 0 0, 0, 0x30A, 0, 0xFFFFF, State.reset, by decide, by decide, by decide, by decide⟩,
    ⟨.sentry 0 0, 0, 0x30B, 0, 1, State.reset, by decide, by decide⟩,
    ⟨.sentry 0 0, 0, 15, 0, State.reset, by decide⟩,
    ⟨.sentry 0 0, 0, 15, 0, State.reset, by decide⟩,
    ⟨.sentry 0 0, 0, 15, 0, State.reset, by decide⟩,
    ⟨.sentry 0 0, 0, .hpStaleRead (.sentry 0 0) 0, .HP_STALE, State.reset, by decide, by decide⟩⟩

/-- The hypotheses of WatchSlots can be met, clause by clause. -/
theorem witness_WatchSlots :
    (∃ (d : DieId) (k : Fin 16) (pc : Word) (w : Word) (y : Word) (z : Word) (x : Due) (l : List Due) (s : State),
        s.live d.val = true ∧ (s.die d.val).due = x :: l ∧ s.dueWaits d.val x = false ∧ x.slot = k.val ∧
        Fld.OB_WATCH_CFG_ACTION.of x.cfg = 1) ∧
    (∃ (d : DieId) (k : Fin 16) (pc : Word) (w : Word) (y : Word) (z : Word) (x : Due) (l : List Due) (s : State),
        s.live d.val = true ∧ (s.die d.val).due = x :: l ∧ x.slot = k.val ∧ Fld.OB_WATCH_CFG_ACTION.of x.cfg = 3 ∧
        0x3A0 ≤ Fld.OB_WATCH_CFG_EVENT.of x.cfg ∧ Fld.OB_WATCH_CFG_EVENT.of x.cfg < 0x3E0 ∧ (s.die d.val).unread < 255) ∧
    (∃ (d : DieId) (k : Fin 16) (pc : Word) (w : Word) (y : Word) (z : Word) (x : Due) (l : List Due) (s : State),
        s.live d.val = true ∧ (s.die d.val).due = x :: l ∧ x.slot = k.val ∧ Fld.OB_WATCH_CFG_ACTION.of x.cfg = 3 ∧
        0x3A0 ≤ Fld.OB_WATCH_CFG_EVENT.of x.cfg ∧ Fld.OB_WATCH_CFG_EVENT.of x.cfg < 0x3E0 ∧
        256 ≤ (s.die d.val).unread ∧ s.flag Fld.OB_PREC_CTRL_WRAP d.val = false) ∧
    (∃ (d : DieId) (k : Fin 16) (pc : Word) (w : Word) (y : Word) (z : Word) (s : State),
        (s.die d.val).due = []) ∧
    (∃ (req : Requester) (d : DieId) (v : Word) (s : State),
        s.DieOpen req d.val ∧ Fld.OB_PREC_PTR_READ.of v ≠ s.getF Fld.OB_PREC_PTR_READ d.val) :=
  ⟨⟨0, 0, 0, 0, 0, 0, { slot := 0, cfg := 0x400, us := 0, counter := 0, frame := none }, [],
     (State.reset.modDie 0 fun x => { x with due := [{ slot := 0, cfg := 0x400, us := 0, counter := 0, frame := none }] }),
     by decide, by decide, by decide, by decide, by decide⟩,
    ⟨0, 0, 0, 0, 0, 0, { slot := 0, cfg := 0xFA0, us := 0, counter := 0, frame := none }, [],
     (State.reset.modDie 0 fun x => { x with due := [{ slot := 0, cfg := 0xFA0, us := 0, counter := 0, frame := none }], unread := 254 }),
     by decide, by decide, by decide, by decide, by decide, by decide, by decide⟩,
    ⟨0, 0, 0, 0, 0, 0, { slot := 0, cfg := 0xFA0, us := 0, counter := 0, frame := none }, [],
     ((State.reset.setF Fld.OB_PREC_CTRL_WRAP 0 0).modDie 0 fun x => { x with due := [{ slot := 0, cfg := 0xFA0, us := 0, counter := 0, frame := none }], unread := 256 }),
     by decide, by decide, by decide, by decide, by decide, by decide, by decide, by decide⟩,
    ⟨0, 0, 0, 0, 0, 0, State.reset, by decide⟩,
    ⟨.sentry 0 0, 0, 0xFF00, State.reset, by decide, by decide⟩⟩

/-- The hypotheses of CountersSaturate can be met, clause by clause. -/
theorem witness_CountersSaturate :
    (∃ (d : Nat) (e : Nat) (n : Nat) (s : State),
        d < 8 ∧ e < 1024 ∧ obAssigned d e = true ∧ n ≠ 0 ∧ s.obPaired d (e - e % 2) = false) ∧
    (∃ (d : Nat) (e : Nat) (n : Nat) (s : State),
        d < 8 ∧ e < 1024 ∧ obAssigned d e = true ∧ n ≠ 0 ∧ e % 2 = 0 ∧ s.obPaired d e = true) ∧
    (∃ (d : Nat) (e : Nat) (n : Nat) (s : State),
        d < 8 ∧ e < 1024 ∧ e % 2 = 1 ∧ s.obPaired d (e - 1) = true) :=
  ⟨⟨7, 0x30A, 0xFFFFF, State.reset, by decide, by decide, by decide, by decide, by decide⟩,
    ⟨0, 0, 1, (State.reset.wr .OB_CHAIN 0 1), by decide, by decide, by decide, by decide, by decide, by decide⟩,
    ⟨0, 1, 1, (State.reset.wr .OB_CHAIN 0 1), by decide, by decide, by decide, by decide⟩⟩

/-- The hypotheses of FreezeHolds can be met, clause by clause. -/
theorem witness_FreezeHolds :
    ∃ (s : State) (t : State),
        s.Frozen :=
  ⟨{ State.reset with seq := { Seq.reset with frozen := true } }, State.reset, ⟨rfl, by decide, by decide⟩⟩

/-- The hypotheses of IdcodeReads can be met, clause by clause. -/
theorem witness_IdcodeReads :
    ∃ (s : State),
        s.seq.aonHeld = false :=
  ⟨State.reset, by decide⟩

/-- The hypotheses of ResetHifIsFenced can be met, clause by clause. -/
theorem witness_ResetHifIsFenced :
    (∃ (f : FnId) (q : PairId) (k : List Word) (w : List Word) (a : MemAccess) (m : MemAccess) (x : Pair) (s : State),
        s.hifLive = true ∧ s.pairOn (pairNo f.val q.val) = true ∧ s.flag Fld.HI_CTX_CTRL_EN 0 = true ∧
        s.pair (pairNo f.val q.val) = some x ∧ x.error = false ∧ x.deleting = none ∧ x.fetched = none ∧
        x.started.length < 16 ∧ x.sqHead ≠ x.sqTail ∧ (s.hostAccess m).1 = true ∧ x.started ≠ [] ∧ subOp w = 0x04) ∧
    (∃ (f : FnId) (q : PairId) (n : Nat) (c : RingCmd) (s : State),
        s.hifLive = true ∧ s.seq.frozen = false ∧ s.ringCmd f.val q.val n (fun op => decide (op = 0x04)) = some c ∧
        subArg c.words 0 = 0x48494652 ∧ s.seq.phase = .run ∧ s.seq.part = false ∧ s.seq.dies = []) ∧
    (∃ (f : FnId) (q : PairId) (n : Nat) (c : RingCmd) (s : State),
        s.hifLive = true ∧ s.ringCmd f.val q.val n (fun op => decide (op = 0x04)) = some c ∧
        subArg c.words 0 ≠ 0x48494652) :=
  ⟨⟨0, 0, [], [4], {}, {}, { pairWith [(cmdW [0])] with sqTail := 1 },
     { (State.reset.setF Fld.HI_CTX_CTRL_EN 0 1) with hif := { Hif.reset with enabled := [0], cache := [(0, { pairWith [(cmdW [0])] with sqTail := 1 })] } },
     by decide, by decide, by decide, by decide, by decide, by decide, by decide, by decide, by decide, by decide,
     by decide, by decide⟩,
    ⟨0, 0, 0, (cmdW [4, 0, 0, 0, 0, 0, 0x48494652]),
     { State.reset with hif := { Hif.reset with enabled := [0], cache := [(0, pairWith [(cmdW [4, 0, 0, 0, 0, 0, 0x48494652])])], vfEnable := true, numVfs := 255 } },
     by decide, by decide, by decide, by decide, by decide, by decide, by decide⟩,
    ⟨0, 0, 0, (cmdW [4, 0, 0, 0, 0, 0, 0]),
     { State.reset with hif := { Hif.reset with enabled := [0], cache := [(0, pairWith [(cmdW [4, 0, 0, 0, 0, 0, 0])])], vfEnable := true, numVfs := 255 } },
     by decide, by decide, by decide⟩⟩

/-- The hypotheses of PublicKeyLayout can be met, clause by clause. -/
theorem witness_PublicKeyLayout :
    (∃ (f : FnId) (q : PairId) (n : Nat) (a : MemAccess) (c : RingCmd) (k : Digest) (s : State),
        s.hifLive = true ∧ s.platLive = true ∧ s.ringCmd f.val q.val n (fun op => decide (op = 0x08)) = some c ∧
        bufOk c.words 2720 = true ∧ s.keys.cdi0 = some k ∧ s.identity = true ∧ (s.hostAccess a).1 = true) ∧
    (∃ (f : FnId) (q : PairId) (n : Nat) (a : MemAccess) (c : RingCmd) (s : State),
        s.hifLive = true ∧ s.platLive = true ∧ s.ringCmd f.val q.val n (fun op => decide (op = 0x08)) = some c ∧
        bufOk c.words 2720 = true ∧ s.identity = false) :=
  ⟨⟨0, 0, 0, {}, (cmdW [8, 0, 0, 0, 2720, 0]), [],
     { State.reset with hif := { Hif.reset with enabled := [0], cache := [(0, pairWith [(cmdW [8, 0, 0, 0, 2720, 0])])], vfEnable := true, numVfs := 255 }, keys := { Keys.reset with cdi0 := some [], holds0 := true } },
     by decide, by decide, by decide, by decide, by decide, by decide, by decide⟩,
    ⟨0, 0, 0, {}, (cmdW [8, 0, 0, 0, 2720, 0]),
     { State.reset with hif := { Hif.reset with enabled := [0], cache := [(0, pairWith [(cmdW [8, 0, 0, 0, 2720, 0])])], vfEnable := true, numVfs := 255 } },
     by decide, by decide, by decide, by decide, by decide⟩⟩

/-- The hypotheses of FlitsAndRuns can be met, clause by clause. -/
theorem witness_FlitsAndRuns :
    (∃ (ph : Nat) (a : Byte) (b : Byte),
        ph < 4) ∧
    (∃ (w : Flit) (k : Nat),
        flitOk w = true ∧ k < 20) ∧
    (∃ (ph : Nat) (l : List Byte) (a : Byte),
        l.length % 2 = 0) ∧
    (∃ (x : PcieItem) (n : Nat) (on : Bool) (s : State),
        x ∈ [PcieItem.ats, .pri, .pasid, .tph, .resizableBar, .intx, .msi]) :=
  ⟨⟨0, 0, 0, by decide⟩,
    ⟨0xFA5C3, 0, by decide, by decide⟩,
    ⟨0, [], 0, by decide⟩,
    ⟨.ats, 0, false, State.reset, by decide⟩⟩

end Sys2Proof.Tests
end

namespace Sys2Proof.Machine

/-! # The register map (R6, R16, R81, R126, R164, R197) -/

/-! ## Where an address lies -/

/-- A domain of registers that lie on the dies. -/
def Dom.onDie : Dom → Bool
  | .die _ => true
  | _ => false

theorem Dom.onDie_iff (x : Dom) : x.onDie = true ↔ ∃ k, x = .die k := by
  cases x <;> simp [Dom.onDie]

/-- An offset that a map answers carries the name of one of its rows. -/
theorem lookupMap_mem {l : List MapRow} {o : Nat} {n : RegName} {k c : Nat} (h : lookupMap l o = some (n, k, c)) :
    ∃ r ∈ l, r.name = n := by
  induction l with
  | nil => simp [lookupMap] at h
  | cons r l ih =>
    rw [lookupMap] at h
    split at h
    · simp only [Option.some.injEq, Prod.mk.injEq] at h
      exact ⟨r, by simp, h.1⟩
    · obtain ⟨q, hq, e⟩ := ih h
      exact ⟨q, by simp [hq], e⟩

theorem channelMap_onDie : ∀ r ∈ channelMap, r.name.dom.onDie = true := by decide

theorem dieMap_onDie : ∀ r ∈ dieMap, r.name.dom.onDie = true := by decide

theorem formeReg_onDie {d o : Nat} {m : Bool} {r : Reg} (h : formeReg d m o = some r) : r.name.dom.onDie = true := by
  unfold formeReg at h
  dsimp only at h
  split at h
  · cases h; rfl
  · split at h
    · cases h; rfl
    · cases h

theorem tdReg_onDie {q : Nat} {n : RegName} (h : tdReg q = some n) : n.dom.onDie = true := by
  unfold tdReg at h
  split at h <;> cases h <;> rfl

theorem crReg_onDie {q : Nat} {n : RegName} (h : crReg q = some n) : n.dom.onDie = true := by
  unfold crReg at h
  split at h <;> cases h <;> rfl

/-- Every register of a die window lies in the domain of its die. -/
theorem dieReg_onDie {d o : Nat} {r : Reg} (h : dieReg d o = some r) : r.name.dom.onDie = true := by
  unfold dieReg at h
  dsimp only at h
  split at h
  · split at h
    · rename_i n k c hl
      cases h
      obtain ⟨q, hq, rfl⟩ := lookupMap_mem hl
      exact channelMap_onDie q hq
    · cases h
  split at h
  · exact formeReg_onDie h
  split at h
  · exact formeReg_onDie h
  split at h
  · split at h
    · cases h; rfl
    · obtain ⟨n, hn, rfl⟩ := Option.map_eq_some_iff.mp h
      exact tdReg_onDie hn
  split at h
  · obtain ⟨n, hn, rfl⟩ := Option.map_eq_some_iff.mp h
    exact crReg_onDie hn
  split at h
  · rename_i n k c hl
    cases h
    obtain ⟨q, hq, rfl⟩ := lookupMap_mem hl
    exact dieMap_onDie q hq
  · cases h

theorem windowDie_range {a d : Nat} (h : windowDie a = some d) : 0x100000 ≤ a ∧ a < 0x900000 := by
  unfold windowDie at h
  split at h
  · assumption
  · cases h

theorem not_bar2Base_le {a : Nat} (h : a < 0x1000000) : ¬ bar2Base ≤ a := by
  unfold bar2Base
  omega

/-- Beyond the die windows BAR0 names no register and no die (R6). -/
theorem decodeAddr_unassigned {a : Nat} (h1 : 0x900000 ≤ a) (h2 : a < 0x1000000) : decodeAddr a = none := by
  unfold decodeAddr bar2Base
  rw [if_neg (by omega), if_neg (by omega), if_neg (by omega)]

theorem windowDie_unassigned {a : Nat} (h : 0x900000 ≤ a) : windowDie a = none := by
  unfold windowDie
  rw [if_neg (by omega)]

/-- What an address in a die window names lies on the die (R6). -/
theorem decodeAddr_window {a d : Nat} {r : Reg} (hw : windowDie a = some d) (hr : decodeAddr a = some r) :
    ∃ k, r.name.dom = .die k := by
  obtain ⟨h1, h2⟩ := windowDie_range hw
  unfold decodeAddr at hr
  rw [if_neg (by omega), if_pos h2] at hr
  exact (Dom.onDie_iff _).mp (dieReg_onDie hr)

/-! ## Accesses to a die window -/

/-- A write in a die window is an access to its die. -/
theorem State.writeAt_window {a d : Nat} (s : State) (req : Requester) (v : Word) (hw : windowDie a = some d) :
    s.writeAt req a v =
      s.dieAccess req d fun s => (decodeAddr a).elim s fun r => s.writeDieReg req r.name r.i v := by
  have hb := not_bar2Base_le (a := a) (by have := windowDie_range hw; omega)
  unfold State.writeAt
  cases hr : decodeAddr a with
  | none => simp only [hw]; rfl
  | some r =>
    obtain ⟨k, hk⟩ := decodeAddr_window hw hr
    simp only [if_neg hb, hk, hw, Option.getD_some, Option.elim_some]

/-- A read in a die window is an access to its die. -/
theorem State.readAt_window {a d : Nat} (s : State) (req : Requester) (b : Bool) (hw : windowDie a = some d) :
    ∃ f, s.readAt req a b = s.dieFetch req d f := by
  have hb := not_bar2Base_le (a := a) (by have := windowDie_range hw; omega)
  unfold State.readAt
  cases hr : decodeAddr a with
  | none => simp only [hw]; exact ⟨_, rfl⟩
  | some r =>
    obtain ⟨k, hk⟩ := decodeAddr_window hw hr
    simp only [if_neg hb, hk, hw, Option.getD_some]
    exact ⟨_, rfl⟩

theorem State.dieAccess_absent (s : State) (req : Requester) (d : Nat) (f : State → State) (h : s.present d = false) :
    s.dieAccess req d f = s := by
  simp [State.dieAccess, h]

theorem State.dieFetch_absent (s : State) (req : Requester) (d : Nat) (f : State → Word × State)
    (hp : s.present d = false) (hr : s.reqOk req = true) : s.dieFetch req d f = (some 0, s) := by
  simp [State.dieFetch, hp, hr]

/-! ## Accesses to the unassigned range (R6) -/

theorem State.writeAt_unassigned (s : State) (req : Requester) (a : Nat) (v : Word) (h1 : 0x900000 ≤ a)
    (h2 : a < 0x1000000) : s.writeAt req a v = s := by
  unfold State.writeAt
  simp only [decodeAddr_unassigned h1 h2, windowDie_unassigned h1]
  rw [if_neg (by omega)]

theorem State.readUnlisted_unassigned (s : State) (a : Nat) (h : 0x900000 ≤ a) : s.readUnlisted a = (0, s) := by
  have hs : silentOffset a = false := by
    unfold silentOffset
    rw [if_neg (by omega), decide_eq_false (by omega), Bool.false_and]
  rw [State.readUnlisted, hs, if_neg (by decide)]

theorem State.readAt_unassigned (s : State) (req : Requester) (a : Nat) (b : Bool) (h1 : 0x900000 ≤ a)
    (h2 : a < 0x1000000) (hr : s.reqFar req = true) : s.readAt req a b = (some 0, s) := by
  unfold State.readAt
  simp only [decodeAddr_unassigned h1 h2, windowDie_unassigned h1]
  rw [if_neg (by omega), State.aonFetch_open _ hr, if_pos h2, State.readUnlisted_unassigned _ _ h1]
  rfl

/-! ## REG_WRITE (R16) -/

/-- A write that is narrower than a register, or unaligned, is discarded. -/
theorem exec_regWrite_discard (req : Requester) (a w : Nat) (v : Word) (s : State) (h : w ≠ 32 ∨ a % 4 ≠ 0) :
    exec (.regWrite req a w v) s = .next s :=
  congrArg Host.Outcome.next (if_pos h)

/-- An aligned write of 32 bits in BAR0 is the register's own. -/
theorem exec_regWrite_bar0 (req : Requester) (a : Nat) (v : Word) (s : State) (h4 : a % 4 = 0) (hb : a < 0x1000000) :
    exec (.regWrite req a 32 v) s = .next (s.writeAt req a v) := by
  have h1 : ¬ ((32 : Nat) ≠ 32 ∨ a % 4 ≠ 0) := by omega
  have h2 := not_bar2Base_le hb
  refine congrArg Host.Outcome.next ((if_neg h1).trans (if_neg ?_))
  exact fun h => h2 h.2.1

/-- A write of any form in BAR0 whose effect at its register would be none has none. -/
theorem exec_regWrite_none (req : Requester) (a w : Nat) (v : Word) (s : State) (hb : a < 0x1000000)
    (h : s.writeAt req a v = s) : exec (.regWrite req a w v) s = .next s := by
  by_cases hd : w ≠ 32 ∨ a % 4 ≠ 0
  · exact exec_regWrite_discard _ _ _ _ _ hd
  · obtain ⟨rfl, h4⟩ : w = 32 ∧ a % 4 = 0 := by omega
    rw [exec_regWrite_bar0 _ _ _ _ h4 hb, h]

/-- Settles O4: an address in a die window is an access to the die, which an absent die answers with zero or nothing; the
unassigned range names no register. -/
theorem absentDiesAreSilent : Obligations.AbsentDiesAreSilent := by
  refine ⟨fun req a d b s hw hp hr => ?_, fun req a d w v s hw hp => ?_, fun req a b s h1 h2 hr => ?_,
    fun req a w v s h1 h2 => ?_⟩
  · obtain ⟨f, hf⟩ := s.readAt_window req b hw
    rw [hf, State.dieFetch_absent _ _ _ _ hp hr]
  · have hr := windowDie_range hw
    refine exec_regWrite_none _ _ _ _ _ (by omega) ?_
    rw [State.writeAt_window _ _ _ hw, State.dieAccess_absent _ _ _ _ hp]
  · exact s.readAt_unassigned req a b h1 h2 hr
  · exact exec_regWrite_none _ _ _ _ _ h2 (s.writeAt_unassigned req a v h1 h2)

/-! # Core SRAM across a step that leaves it alone -/

/-- Core SRAM reads as before where its bytes, the dies' reset counts and the ROM's lock are as before (R280, R285). -/
theorem State.sameSram_of {s t : State} (hm : t.sram = s.sram) (hg : ∀ d, (t.die d).generation = (s.die d).generation)
    (hl : t.rd .BT_LOCK 0 = s.rd .BT_LOCK 0) : s.SameSram t := by
  intro d a
  have hz : t.sramZero d a = s.sramZero d a := by
    unfold State.sramZero State.flag State.getF
    rw [hg, hl]
  unfold State.sramRead State.sramUnlisted
  rw [hm, hz, hg]

/-! # Fault reports (R14, R206, R225) -/

/-- The registers of Table 6.7. -/
def faultRegs : List RegName :=
  [.CH_FAULT, .FM_FAULT, .WIT_FAULT, .MC_FAULT, .CF_FAULT, .IF_FAULT, .MP_FAULT, .SN_FAULT, .BT_FAULT, .KU_FAULT,
    .HI_FAULT, .MB_FAULT, .FU_FAULT, .RC_FAULT, .GD_FAULT, .RV_FAULT]

/-- The bit of a fault code lies in a fault register, whichever unit the code names. -/
theorem faultBit_reg {d code source i b : Nat} {n : RegName} (h : faultBit d code source = some (n, i, b)) :
    n ∈ faultRegs := by
  unfold faultBit at h
  dsimp only at h
  repeat' split at h
  all_goals simp_all [faultRegs]

/-- A report leaves every register but the fault registers and those that count as before. -/
theorem State.report_rd_plain (s : State) (d code source : Nat) (n : RegName) (i : Nat) (h : n.counts = false)
    (hn : n ∉ faultRegs) : (s.report d code source).rd n i = s.rd n i :=
  s.report_rd d code source n i h fun _ hb => hn (faultBit_reg hb)

@[simp] theorem State.faultMark_die (s : State) (d code source e : Nat) : (s.faultMark d code source).die e = s.die e := by
  unfold State.faultMark
  split <;> rfl

/-- The mark of a fault leaves the time as it was. -/
theorem State.faultMark_us (s : State) (d code source : Nat) : (s.faultMark d code source).us = s.us := by
  unfold State.faultMark
  split
  · rename_i n i b hb
    refine State.rd_wr_other _ _ _ _ _ _ (Or.inl ?_)
    rintro rfl
    exact absurd (faultBit_reg hb) (by decide)
  · rfl

/-- The report waits on its die behind the others, under the die's DSEQ and at the time of FAULT_US. -/
theorem State.report_inflight (s : State) (d code source : Nat) : ((s.report d code source).die d).inflight =
    (s.die d).inflight ++ [{ code := code, source := source, dseq := (s.die d).dseq, us := s.us }] := by
  obtain ⟨t, ⟨-, hbut, -, hdie⟩, e⟩ := s.report_eq d code source
  have hus : t.us = s.us := (hbut .FAULT_US 0 rfl).trans (s.faultMark_us d code source)
  rw [e, State.enqueue, State.die_modDie_same, hdie, State.faultMark_die, hus]

theorem State.report_dseq (s : State) (d code source : Nat) :
    ((s.report d code source).die d).dseq = ((s.die d).dseq + 1) % 2 ^ 16 := by
  rw [State.report_die]

/-- A report resets no die. -/
theorem State.report_generation (s : State) (d code source e : Nat) :
    ((s.report d code source).die e).generation = (s.die e).generation := by
  by_cases h : e = d
  · rw [h, State.report_die]
  · rw [State.report_die_other _ _ _ _ _ h]

theorem State.report_sameSram (s : State) (d code source : Nat) : s.SameSram (s.report d code source) :=
  State.sameSram_of (s.report_sram d code source) (s.report_generation d code source)
    (s.report_rd_plain d code source .BT_LOCK 0 rfl (by decide))

/-- Settles O22, from what the shared operation does: the mark, the count and the entry on the die's waiting reports. -/
theorem reportSetsItsBitAndWaits : Obligations.ReportSetsItsBitAndWaits := by
  intro d code source n i b s hb hn
  refine ⟨s.report_bit d code source n i b hn hb, s.report_dseq d code source, ⟨s.us, s.report_inflight d code source⟩,
    fun m j hm hne => ?_, s.report_sameSram d code source⟩
  refine s.report_rd d code source m j hm fun c hc => ?_
  rw [hb] at hc
  cases hc
  exact hne.elim (fun h => h rfl) fun h => h rfl

/-! # The queue (R16, R22) -/

/-- Settles O1: the queue by the definition of a step, and each command by its arm of the dispatch. -/
theorem stepRunsTheFrontCommand : Obligations.StepRunsTheFrontCommand := by
  refine ⟨fun _ _ _ => rfl, fun s h => ?_, fun c s => ?_⟩
  · unfold step
    rw [h]
  · cases c <;> exact ⟨_, rfl⟩

/-! # Reset (R7, R81, R126, R249, R298, R323, R343, R402, R427) -/

/-- After reset every register holds its reset value. -/
theorem State.rd_reset (n : RegName) (i : Nat) : State.reset.rd n i = Reg.resetOn .spg6408 ⟨n, i⟩ := rfl

/-- Settles O2: the register file lists nothing after reset, so each register reads the value of its table, and what stands
beside the registers is the reset state itself. -/
theorem resetState : Obligations.ResetState := by
  refine ⟨rfl, ⟨rfl, rfl⟩, rfl, fun n _ => ⟨rfl, rfl, rfl, rfl⟩, rfl, rfl, rfl, rfl, rfl, rfl, rfl, rfl, rfl, rfl, rfl, rfl⟩

/-! # Register writes (R16, R17, R23, R225, R237) -/

/-- A register whose fields are all W1C keeps the bits that the write does not carry as 1 (R17). -/
theorem RegName.written_w1c (n : RegName) (old v : Word) (hrw : n.rwMask = 0) (hs : n.w1sMask = 0) :
    n.written old v = old &&& ~~~ (v &&& BitVec.ofNat 32 n.w1cMask) := by
  have h1 : ~~~ BitVec.ofNat 32 0 = BitVec.allOnes 32 := rfl
  unfold RegName.written
  simp only [hrw, hs, h1, BitVec.and_allOnes, BitVec.and_zero, BitVec.or_zero]

/-- The write of a register changes that register only. -/
theorem State.onlyRegs_wr (s : State) (n : RegName) (i : Nat) (v : Word) :
    s.OnlyRegs (s.wr n i v) fun m j => decide (m = n) && decide (j = i) := by
  refine ⟨rfl, fun m j h => s.rd_wr_other n m i j v ?_⟩
  by_cases hm : m = n
  · exact Or.inr fun hj => by simp [hm, hj] at h
  · exact Or.inl hm

/-- What the software write of a W1C register does. -/
theorem State.swWrite_w1c (s : State) (n : RegName) (i : Nat) (v : Word) (hrw : n.rwMask = 0) (hs : n.w1sMask = 0) :
    (s.swWrite n i v).rd n i = s.rd n i &&& ~~~ (v &&& BitVec.ofNat 32 n.w1cMask) ∧
      s.OnlyRegs (s.swWrite n i v) fun m j => decide (m = n) && decide (j = i) := by
  refine ⟨?_, s.onlyRegs_wr n i _⟩
  rw [State.swWrite, State.rd_wr_same, n.written_w1c _ _ hrw hs]

/-- A write in a die window that reaches its register. -/
theorem exec_regWrite_die {req : Requester} {a d : Nat} {r : Reg} {s : State} (v : Word) (h4 : a % 4 = 0)
    (hw : windowDie a = some d) (hr : decodeAddr a = some r) :
    exec (.regWrite req a 32 v) s = .next (s.dieAccess req d fun s => s.writeDieReg req r.name r.i v) := by
  have hb := windowDie_range hw
  rw [exec_regWrite_bar0 _ _ _ _ h4 (by omega), State.writeAt_window _ _ _ hw, hr]
  rfl

/-- A write of a package register in PLAT. -/
theorem exec_regWrite_plat {req : Requester} {a : Nat} {r : Reg} {s : State} (v : Word) (h4 : a % 4 = 0)
    (ha : a < 0x100000) (hr : decodeAddr a = some r) (hd : r.name.dom = .plat) (ho : s.PlatOpen req) :
    exec (.regWrite req a 32 v) s = .next (s.writePlatReg req r.name r.i v) := by
  rw [exec_regWrite_bar0 _ _ _ _ h4 (by omega), State.writeAt, hr]
  simp only [if_neg (not_bar2Base_le (a := a) (by omega)), hd]
  rw [State.platAccess_open _ ho]

/-- The fault registers of a die have no rule of their own. -/
theorem State.writeDieReg_fault (s : State) (req : Requester) (n : RegName) (i : Nat) (v : Word)
    (h : n ∈ [RegName.CH_FAULT, .FM_FAULT, .WIT_FAULT, .MC_FAULT, .CF_FAULT, .IF_FAULT]) :
    s.writeDieReg req n i v = s.swWrite n i v ∧ n.rwMask = 0 ∧ n.w1sMask = 0 := by
  simp only [List.mem_cons, List.not_mem_nil, or_false] at h
  rcases h with rfl | rfl | rfl | rfl | rfl | rfl <;> exact ⟨rfl, rfl, rfl⟩

/-- The fault registers of the package in PLAT have none either. -/
theorem State.writePlatReg_fault (s : State) (req : Requester) (n : RegName) (i : Nat) (v : Word)
    (h : n ∈ [RegName.KU_FAULT, .FU_FAULT, .HI_FAULT, .MB_FAULT, .GD_FAULT]) :
    s.writePlatReg req n i v = s.swWrite n i v ∧ n.rwMask = 0 ∧ n.w1sMask = 0 := by
  simp only [List.mem_cons, List.not_mem_nil, or_false] at h
  rcases h with rfl | rfl | rfl | rfl | rfl <;> exact ⟨rfl, rfl, rfl⟩

/-! ## A die in reset, a die out of reach -/

theorem State.dieAccess_inReset {s : State} {req : Requester} {d : Nat} (f : State → State) (hq : s.reqOk req = true)
    (hp : s.present d = true) (hr : (s.die d).inReset = true) : s.dieAccess req d f = s.isoErr d := by
  simp [State.dieAccess, hq, hp, hr]

theorem State.dieAccess_unreached {s : State} {req : Requester} {d : Nat} (f : State → State) (hq : s.reqOk req = true)
    (hp : s.present d = true) (hr : (s.die d).inReset = false) (hu : s.reaches req d = false) :
    s.dieAccess req d f = s.lossFault d := by
  simp [State.dieAccess, hq, hp, hr, hu]

/-- A report leaves what the dies remember of isolation and loss alone. -/
theorem State.report_seen (s : State) (d code source e : Nat) :
    ((s.report d code source).die e).isoSeen = (s.die e).isoSeen ∧
      ((s.report d code source).die e).lossSeen = (s.die e).lossSeen := by
  by_cases h : e = d
  · rw [h, State.report_die]
    exact ⟨rfl, rfl⟩
  · rw [State.report_die_other _ _ _ _ _ h]
    exact ⟨rfl, rfl⟩

/-- The isolation wrapper speaks once for each reset of the die. -/
theorem State.isoErr_of_seen {s : State} {d : Nat} (h : (s.die d).isoSeen = true) : s.isoErr d = s := if_pos h

theorem State.isoErr_of_unseen {s : State} {d : Nat} (h : (s.die d).isoSeen = false) :
    s.isoErr d = (s.modDie d fun x => { x with isoSeen := true }).report 0 0xA001 d := by
  rw [State.isoErr, h, if_neg (by decide)]

theorem State.isoErr_isoSeen (s : State) (d : Nat) : ((s.isoErr d).die d).isoSeen = true := by
  cases h : (s.die d).isoSeen with
  | true => rw [State.isoErr_of_seen h, h]
  | false => rw [State.isoErr_of_unseen h, (State.report_seen _ _ _ _ _).1, State.die_modDie_same]

/-- Its report is a fault of the reset controller; no other register but those that count changes. -/
theorem State.isoErr_rd (s : State) (d : Nat) (n : RegName) (i : Nat) (h : n.counts = false) (hn : n ≠ .RC_FAULT) :
    (s.isoErr d).rd n i = s.rd n i := by
  cases hs : (s.die d).isoSeen with
  | true => rw [State.isoErr_of_seen hs]
  | false =>
    rw [State.isoErr_of_unseen hs, State.report_rd _ _ _ _ _ _ h, State.modDie_rd]
    rintro b hb
    cases hb
    exact hn rfl

/-- The loss of a die is reported at the first access that meets it. -/
theorem State.lossFault_of_seen {s : State} {d : Nat} (h : (s.die d).reachable = true ∨ (s.die d).lossSeen = true) :
    s.lossFault d = s := by
  rw [State.lossFault, if_pos (by simpa using h)]

theorem State.lossFault_of_unseen {s : State} {d : Nat} (hr : (s.die d).reachable = false) (hl : (s.die d).lossSeen = false) :
    s.lossFault d = (s.modDie d fun x => { x with lossSeen := true }).report 0 0x5003 d := by
  rw [State.lossFault, hr, hl, if_neg (by decide)]

theorem State.lossFault_lossSeen (s : State) (d : Nat) (h : (s.die d).reachable = false) :
    ((s.lossFault d).die d).lossSeen = true := by
  cases hl : (s.die d).lossSeen with
  | true => rw [State.lossFault_of_seen (Or.inr hl), hl]
  | false => rw [State.lossFault_of_unseen h hl, (State.report_seen _ _ _ _ _).2, State.die_modDie_same]

/-- Settles O3: an aligned write in BAR0 is an access to its die, or to PLAT, and the state of the die decides between the
register's own write, the isolation wrapper and the loss fault. -/
theorem registerWrites : Obligations.RegisterWrites := by
  refine ⟨exec_regWrite_discard, fun req a d v r s h4 hw hr hn ho => ?_, fun req a v r s h4 ha hr hn ho hd => ?_,
    fun req a d k v r s h4 hw hr _ hq hp hres => ?_, fun req a d k v r s h4 hw hr _ hq hp hres hu => ?_,
    fun req v s ho => exec_regWrite_plat (r := ⟨.EPOCH_CTRL, 0⟩) v (by decide) (by decide) rfl rfl ho⟩
  · obtain ⟨hs, hrw, hw1s⟩ := s.writeDieReg_fault req r.name r.i v hn
    refine ⟨_, exec_regWrite_die v h4 hw hr, ?_⟩
    rw [State.dieAccess_open _ ho, hs]
    exact s.swWrite_w1c _ _ _ hrw hw1s
  · obtain ⟨hs, hrw, hw1s⟩ := s.writePlatReg_fault req r.name r.i v hn
    refine ⟨_, exec_regWrite_plat v h4 ha hr hd ho, ?_⟩
    rw [hs]
    exact s.swWrite_w1c _ _ _ hrw hw1s
  · refine ⟨?_, State.isoErr_of_seen, s.isoErr_isoSeen d, s.isoErr_rd d⟩
    rw [exec_regWrite_die v h4 hw hr, State.dieAccess_inReset _ hq hp hres]
  · refine ⟨?_, State.lossFault_of_seen, s.lossFault_lossSeen d⟩
    rw [exec_regWrite_die v h4 hw hr, State.dieAccess_unreached _ hq hp hres hu]

/-! # Staging (R18, R112, R119, R121) -/

theorem bankIx_lane_ne (d f w : Nat) : bankIx d 0 f w ≠ bankIx d 1 f w := by
  unfold bankIx
  omega

theorem stageMask_opc {w : Nat} (h : w < 64) : stageMask w = 0x7F7F7F7F := if_pos h

theorem stageMask_slug (k w : Nat) : stageMask (64 + 4 * k + w) = stageMask (64 + w) := by
  unfold stageMask
  rw [if_neg (by omega), if_neg (by omega), show (64 + 4 * k + w) % 4 = (64 + w) % 4 by omega]

/-- Two registers of one name are written and the event is counted: both read back, and every other register but those that
count reads as before. -/
theorem State.rd_pair_count (s : State) (n : RegName) (i j : Nat) (v : Word) (d e : Nat) (hn : n.counts = false)
    (hij : i ≠ j) :
    (((s.wr n i v).wr n j v).count d e 1).rd n i = v ∧ (((s.wr n i v).wr n j v).count d e 1).rd n j = v ∧
      ∀ m k, m.counts = false → (m ≠ n ∨ (k ≠ i ∧ k ≠ j)) → (((s.wr n i v).wr n j v).count d e 1).rd m k = s.rd m k := by
  refine ⟨?_, ?_, fun m k hm h => ?_⟩
  · rw [State.count_rd _ _ _ _ _ _ hn, State.rd_wr_other _ _ _ _ _ _ (Or.inr hij), State.rd_wr_same]
  · rw [State.count_rd _ _ _ _ _ _ hn, State.rd_wr_same]
  · rw [State.count_rd _ _ _ _ _ _ hm, State.rd_wr_other _ _ _ _ _ _ (h.imp_right And.right),
      State.rd_wr_other _ _ _ _ _ _ (h.imp_right And.left)]

/-- A staging write that is taken goes to both lanes and is counted (R112). -/
theorem State.writeStage_taken {s : State} {d f : Nat} (w : Nat) (v : Word) (hs : s.stageShut d = false)
    (hq : s.quoinAsked d f = false) :
    s.writeStage d f w v = ((s.wr .FM_STG (bankIx d 0 f w) (v &&& BitVec.ofNat 32 (stageMask w))).wr .FM_STG
      (bankIx d 1 f w) (v &&& BitVec.ofNat 32 (stageMask w))).count d 0x30D 1 := by
  rw [State.writeStage, hs, hq, if_neg (by decide)]

/-- One that is rejected is a report and nothing else (R119, R121). -/
theorem State.writeStage_rejected {s : State} {d f : Nat} (w : Nat) (v : Word)
    (h : s.stageShut d = true ∨ s.quoinAsked d f = true) : s.writeStage d f w v = s.report d 0x2009 (8 * f) := by
  rw [State.writeStage, if_pos (by simpa using h), State.stageReject, Nat.zero_add]

theorem State.writeBind_taken {s : State} {n : Nat} (v : Word) (hs : s.stageShut (n / 8) = false)
    (hq : s.quoinAsked (n / 8) (bindForme (s.rd .BIND_STG (2 * n)).toNat) = false) :
    s.writeBind n v = ((s.wr .BIND_STG (2 * n) (RegName.FM_BIND.written (s.rd .BIND_STG (2 * n)) v)).wr .BIND_STG
      (2 * n + 1) (RegName.FM_BIND.written (s.rd .BIND_STG (2 * n)) v)).count (n / 8) 0x30D 1 := by
  simp [State.writeBind, hs, hq]

/-- A STAGING_WRITE that reaches its die. -/
theorem exec_stagingWrite_open {req : Requester} {t : StagingTarget} {s : State} (v : Word)
    (h : s.DieOpen req (stagingDie t)) : exec (.stagingWrite req t v) s = .next (s.writeStaging t v) :=
  congrArg Host.Outcome.next (State.dieAccess_open _ h)

/-- Settles O10: a staging write that is taken is two register writes and a count, one that is rejected is a report. -/
theorem stagingWrites : Obligations.StagingWrites := by
  refine ⟨fun req d f k v s ho hs hq => ⟨_, exec_stagingWrite_open v ho, ?_⟩,
    fun req d f k w v s ho hs hq => ⟨_, exec_stagingWrite_open v ho, ?_⟩,
    fun req d f k v s ho h => ?_, fun req ch v s ho hs hq => ⟨_, exec_stagingWrite_open v ho, ?_⟩⟩
  · rw [State.writeStaging, State.writeStage_taken _ _ hs hq, stageMask_opc k.isLt]
    obtain ⟨h0, h1, hother⟩ := s.rd_pair_count .FM_STG _ _ (v &&& 0x7F7F7F7F) d.val 0x30D rfl
      (bankIx_lane_ne d.val f.val k.val)
    exact ⟨h0, h1, State.count_sram _ _ _ _, State.count_outputs _ _ _ _, hother⟩
  · rw [State.writeStaging, State.writeStage_taken _ _ hs hq, stageMask_slug]
    obtain ⟨h0, h1, -⟩ := s.rd_pair_count .FM_STG _ _ (v &&& BitVec.ofNat 32 (stageMask (64 + w.val))) d.val 0x30D rfl
      (bankIx_lane_ne d.val f.val (64 + 4 * k.val + w.val))
    exact ⟨h0, h1⟩
  · rw [exec_stagingWrite_open v ho, State.writeStaging, State.writeStage_rejected _ _ h]
  · rw [State.writeStaging, State.writeBind_taken v hs hq]
    obtain ⟨h0, h1, -⟩ := s.rd_pair_count .BIND_STG (2 * ch.val) (2 * ch.val + 1)
      (RegName.FM_BIND.written (s.rd .BIND_STG (2 * ch.val)) v) (ch.val / 8) 0x30D rfl (by omega)
    exact ⟨h0, h1⟩

/-! # Time (R11, R291, R429) -/

/-- A relation that one pass of a loop gives, and that chains, is given by the loop. -/
theorem State.forEach_rel {R : State → State → Prop} (hrefl : ∀ s, R s s) (htrans : ∀ s t u, R s t → R t u → R s u)
    (f : State → Nat → State) (hf : ∀ s k, R s (f s k)) (l : List Nat) (s : State) : R s (s.forEach l f) := by
  induction l generalizing s with
  | nil => exact hrefl s
  | cons k l ih => exact htrans _ _ _ (hf s k) (ih (f s k))

/-- A microsecond's additions leave alone: core SRAM, what was sent out, the channels, and the registers but those that count. -/
structure Ticked (s t : State) : Prop where
  sram : t.sram = s.sram
  outputs : t.outputs = s.outputs
  chans : t.chans = s.chans
  regs : SameBut s t
  generation : ∀ d, (t.die d).generation = (s.die d).generation

theorem Ticked.refl (s : State) : Ticked s s := ⟨rfl, rfl, rfl, fun _ _ _ => rfl, fun _ => rfl⟩

theorem Ticked.trans {s t u : State} (h1 : Ticked s t) (h2 : Ticked t u) : Ticked s u where
  sram := h2.sram.trans h1.sram
  outputs := h2.outputs.trans h1.outputs
  chans := h2.chans.trans h1.chans
  regs := h1.regs.trans h2.regs
  generation d := (h2.generation d).trans (h1.generation d)

theorem Counted.ticked {d : Nat} {s t : State} (h : Counted d s t) : Ticked s t := by
  obtain ⟨hrest, hbut, hother, hdie⟩ := h
  refine ⟨hrest.sram, hrest.outputs, hrest.chans, hbut, fun e => ?_⟩
  by_cases he : e = d
  · rw [he, hdie]
  · rw [hother e he]

/-- Loops of additions add. -/
theorem Ticked.forEach {f : State → Nat → State} (hf : ∀ s k, Ticked s (f s k)) (l : List Nat) (s : State) :
    Ticked s (s.forEach l f) :=
  State.forEach_rel Ticked.refl (fun _ _ _ => Ticked.trans) f hf l s

theorem State.dieMicrosecond_ticked (s : State) (d : Nat) : Ticked s (s.dieMicrosecond d) :=
  (State.count_counted _ _ _ _).ticked.trans
    (Ticked.forEach (fun _ _ => (State.count_counted _ _ _ _).ticked) _ _)

theorem State.modQueue_ticked (s : State) (d : Nat) (f : FaultQueue → FaultQueue) : Ticked s (s.modQueue d f) :=
  ⟨rfl, rfl, rfl, fun _ _ _ => rfl, fun _ => rfl⟩

/-- A microsecond: FAULT_US goes on by one, and then the dies and the queues add. -/
theorem exec_addedEachMicrosecond_ticks {s : State} (h : s.stopped = false) :
    ∃ t, exec .addedEachMicrosecond s = .next t ∧ Ticked (s.wr .FAULT_US 0 (s.us + 1)) t := by
  refine ⟨_, rfl, ?_⟩
  rw [h, Bool.not_false, State.when_true]
  have hdies := Ticked.forEach State.dieMicrosecond_ticked
    (numsBelow (s.wr .FAULT_US 0 (s.us + 1)).nDies (s.wr .FAULT_US 0 (s.us + 1)).live) (s.wr .FAULT_US 0 (s.us + 1))
  dsimp only
  split
  · exact hdies.trans (Ticked.forEach (fun _ _ => State.modQueue_ticked _ _ _) _ _)
  · exact hdies

theorem exec_addedEachMicrosecond_stopped {s : State} (h : s.stopped = true) :
    exec .addedEachMicrosecond s = .next s := by
  change Host.Outcome.next _ = _
  rw [h, Bool.not_true, State.when_false]

/-- The boot block's part of a second: the ROM's wait runs down (R291). -/
def State.waitTick (s : State) : State :=
  if s.platLive && s.boot.inWait && s.boot.rescue.isNone then s.modBoot fun b => { b with waitLeft := b.waitLeft - 1 } else s

/-- The confirmation window runs down (R289). -/
def State.confirmTick (s : State) : State :=
  if s.platLive && s.flag Fld.BT_STATUS_PENDING 0 then
    s.setF Fld.BT_CONFIRM_LEFT_S 0 (s.getF Fld.BT_CONFIRM_LEFT_S 0 - 1)
  else s

theorem exec_otTick_running {s : State} (h : s.seq.aonHeld = false) :
    exec .otTick s = .next ({ s with ot := min (s.ot + 1) (2 ^ 40 - 1) } : State).waitTick.confirmTick := by
  change Host.Outcome.next _ = _
  rw [h, Bool.not_false, State.when_true]
  rfl

theorem exec_otTick_held {s : State} (h : s.seq.aonHeld = true) : exec .otTick s = .next s := by
  change Host.Outcome.next _ = _
  rw [h, Bool.not_true, State.when_false]

theorem State.waitTick_eq (s : State) : s.waitTick = { s with boot := { s.boot with waitLeft :=
    if s.platLive && s.boot.inWait && s.boot.rescue.isNone then s.boot.waitLeft - 1 else s.boot.waitLeft } } := by
  unfold State.waitTick
  split <;> rfl

/-- The confirmation window is a field of BT_CONFIRM. -/
theorem State.confirmTick_eq (s : State) : ∃ f, s.confirmTick = { s with regs := f } ∧
    ∀ n i, n ≠ .BT_CONFIRM → ({ s with regs := f } : State).rd n i = s.rd n i := by
  unfold State.confirmTick
  split
  · exact ⟨_, rfl, fun n i h => State.rd_setF _ _ _ _ _ _ h⟩
  · exact ⟨s.regs, rfl, fun _ _ _ => rfl⟩

/-- Settles O52: a second moves OT, the ROM's wait and BT_CONFIRM; a microsecond moves FAULT_US and what the dies and the fault
queues add. -/
theorem timeCounts : Obligations.TimeCounts := by
  refine ⟨fun s h => ⟨_, exec_otTick_running h, ?_⟩, fun s h => exec_otTick_held h, fun s h => ?_,
    fun s h => exec_addedEachMicrosecond_stopped h⟩
  · obtain ⟨f, he, hrd⟩ := State.confirmTick_eq { s with ot := min (s.ot + 1) (2 ^ 40 - 1) }.waitTick
    rw [State.waitTick_eq] at he hrd
    rw [State.waitTick_eq, he]
    exact ⟨rfl, rfl, rfl, hrd⟩
  · obtain ⟨t, ht, hk⟩ := exec_addedEachMicrosecond_ticks h
    refine ⟨t, ht, ?_, hk.outputs, State.sameSram_of hk.sram hk.generation ?_, hk.chans⟩
    · rw [hk.regs .FAULT_US 0 rfl, State.rd_wr_same]
      rfl
    · rw [hk.regs .BT_LOCK 0 rfl, State.rd_wr_name _ _ _ _ _ _ (by decide)]

end Sys2Proof.Machine

namespace Sys2Proof.Machine

/-! # A change of one die -/

/-- A change of one die leaves what it does not touch, on that die and on every other. -/
theorem State.die_modDie_field {α : Type} (p : Die → α) {f : Die → Die} (hf : ∀ x, p (f x) = p x) (s : State) (d e : Nat) :
    p ((s.modDie d f).die e) = p (s.die e) := by
  by_cases h : e = d
  · rw [h, State.die_modDie_same, hf]
  · rw [State.modDie, State.die_setDie_other _ _ _ _ h]

/-! # What the fabric shows (R23, R207, R212, R225)

Many effects of the part touch neither what the fabric reaches nor what has been recorded of it. Each shared operation is
taken once, in the form "what was kept up to here is kept after it too", so that a proof about a command reads as the
chain of its operations. -/

/-- The registers that show the state of the fabric: the dies' states and the fabric faults. -/
def RegName.fabric (n : RegName) : Bool :=
  match n with
  | .RC_DIE_STATE | .CF_FAULT => true
  | _ => false

/-- From `s` to `t` no die is lost or found, no fabric fault is cleared, and no report comes to be held at die 0. -/
structure FabricKept (s t : State) : Prop where
  reachable : ∀ d, (t.die d).reachable = (s.die d).reachable
  held : ∀ d, (t.queue d).held.Sublist (s.queue d).held
  dieState : t.rd .RC_DIE_STATE 0 = s.rd .RC_DIE_STATE 0
  faults : ∀ d b, bitOf (s.rd .CF_FAULT d).toNat b = true → bitOf (t.rd .CF_FAULT d).toNat b = true

namespace FabricKept

variable {r s t : State}

theorem refl (s : State) : FabricKept s s := ⟨fun _ => rfl, fun _ => .refl _, rfl, fun _ _ h => h⟩

theorem trans (h1 : FabricKept r s) (h2 : FabricKept s t) : FabricKept r t where
  reachable d := (h2.reachable d).trans (h1.reachable d)
  held d := (h2.held d).trans (h1.held d)
  dieState := h2.dieState.trans h1.dieState
  faults d b h := h2.faults d b (h1.faults d b h)

theorem ite {c : Prop} [Decidable c] (h1 : FabricKept r s) (h2 : FabricKept r t) : FabricKept r (if c then s else t) := by
  split
  · exact h1
  · exact h2

/-! ## The named updates -/

/-- The state outside registers, dies and queues may change. -/
theorem same (h : FabricKept r s) (hregs : t.regs = s.regs) (hvar : t.variant = s.variant) (hdies : t.dies = s.dies)
    (hqueues : t.queues = s.queues) : FabricKept r t := by
  have hrd := State.rd_congr hregs hvar
  refine h.trans ⟨fun d => ?_, fun d => ?_, hrd _ _, fun d b hb => by rwa [hrd]⟩
  · rw [State.die, hdies, State.die]
  · rw [State.queue, hqueues, State.queue]

theorem emit (h : FabricKept r s) {o : Output} : FabricKept r (s.emit o) := h.same rfl rfl rfl rfl

theorem mark (h : FabricKept r s) {m : Nat} : FabricKept r (s.mark m) := h.same rfl rfl rfl rfl

theorem modFolio (h : FabricKept r s) {f : Folio → Folio} : FabricKept r (s.modFolio f) := h.same rfl rfl rfl rfl

theorem modGuard (h : FabricKept r s) {f : Guard → Guard} : FabricKept r (s.modGuard f) := h.same rfl rfl rfl rfl

theorem modFuses (h : FabricKept r s) {f : Fuses → Fuses} : FabricKept r (s.modFuses f) := h.same rfl rfl rfl rfl

theorem wr (h : FabricKept r s) {n : RegName} {i : Nat} {v : Word} (hn : n.fabric = false) :
    FabricKept r (s.wr n i v) := by
  have hother : ∀ m j, m.fabric = true → (s.wr n i v).rd m j = s.rd m j := by
    intro m j hm
    refine State.rd_wr_name _ _ _ _ _ _ ?_
    rintro rfl
    rw [hn] at hm
    cases hm
  exact h.trans ⟨fun _ => rfl, fun _ => .refl _, hother _ _ rfl, fun d b hb => by rwa [hother .CF_FAULT d rfl]⟩

theorem setF (h : FabricKept r s) {f : Field} {i x : Nat} (hn : f.reg.fabric = false) :
    FabricKept r (s.setF f i x) := h.wr hn

theorem setFlag (h : FabricKept r s) {f : Field} {i : Nat} {b : Bool} (hn : f.reg.fabric = false) :
    FabricKept r (s.setFlag f i b) := h.wr hn

theorem modDie (h : FabricKept r s) {d : Nat} {f : Die → Die} (hf : ∀ x, (f x).reachable = x.reachable) :
    FabricKept r (s.modDie d f) :=
  h.trans ⟨State.die_modDie_field Die.reachable hf s d, fun _ => .refl _, rfl, fun _ _ hb => hb⟩

theorem modQueue (h : FabricKept r s) {d : Nat} {f : FaultQueue → FaultQueue}
    (hf : ∀ q, (f q).held.Sublist q.held) : FabricKept r (s.modQueue d f) := by
  refine h.trans ⟨fun _ => rfl, fun e => ?_, rfl, fun _ _ hb => hb⟩
  by_cases he : e = d
  · rw [he, State.modQueue, State.queue_setQueue_same]
    exact hf _
  · rw [State.modQueue, State.setQueue, State.queue, Tbl.get_set_other _ _ _ _ _ he]
    exact .refl _

theorem foldl (h : FabricKept r s) {α : Type} {f : State → α → State} {l : List α}
    (hf : ∀ {s : State} a, FabricKept r s → FabricKept r (f s a)) : FabricKept r (l.foldl f s) :=
  List.foldlRecOn l f h fun _ hs a _ => hf a hs

theorem forEach (h : FabricKept r s) {f : State → Nat → State} {l : List Nat}
    (hf : ∀ {s : State} k, FabricKept r s → FabricKept r (f s k)) : FabricKept r (s.forEach l f) := h.foldl hf

/-! ## Counts and reports -/

theorem count (h : FabricKept r s) {d e n : Nat} : FabricKept r (s.count d e n) := by
  obtain ⟨hrest, hbut, hother, hdie⟩ := s.count_counted d e n
  refine h.trans ⟨fun x => ?_, fun x => ?_, hbut _ _ rfl, fun x b hb => by rwa [hbut .CF_FAULT x rfl]⟩
  · by_cases hx : x = d
    · rw [hx, hdie]
    · rw [hother x hx]
  · rw [State.queue, hrest.queues, State.queue]

end FabricKept

/-- A register that takes further bits keeps those it has. -/
theorem bitOf_or_of_left {v w : Word} {b : Nat} (h : bitOf v.toNat b = true) : bitOf (v ||| w).toNat b = true := by
  unfold bitOf at *
  rw [BitVec.toNat_or, Nat.testBit_or, h, Bool.true_or]

/-- A report keeps every bit of every register but those that count. -/
theorem State.report_keepsBits (s : State) (d code source : Nat) (n : RegName) (i b : Nat) (hn : n.counts = false)
    (h : bitOf (s.rd n i).toNat b = true) : bitOf ((s.report d code source).rd n i).toNat b = true := by
  by_cases hb : ∃ c, faultBit d code source = some (n, i, c)
  · obtain ⟨c, hc⟩ := hb
    rw [s.report_bit d code source n i c hn hc]
    exact bitOf_or_of_left h
  · rwa [s.report_rd d code source n i hn (not_exists.mp hb)]

theorem State.report_reachable (s : State) (d code source e : Nat) :
    ((s.report d code source).die e).reachable = (s.die e).reachable := by
  by_cases h : e = d
  · rw [h, State.report_die]
  · rw [State.report_die_other _ _ _ _ _ h]

namespace FabricKept

variable {r s : State}

theorem report (h : FabricKept r s) {d code source : Nat} : FabricKept r (s.report d code source) := by
  refine h.trans ⟨s.report_reachable d code source, fun e => ?_, s.report_rd_plain _ _ _ _ _ rfl (by decide),
    fun e b => s.report_keepsBits _ _ _ _ _ _ rfl⟩
  rw [State.queue, State.report_queues, State.queue]

/-! ## Records of the folio (R418 to R424) -/

theorem take (h : FabricKept r s) {typ ot pcc : Nat} {body : List Byte} : FabricKept r (s.take typ body ot pcc) :=
  h.modFolio.setF rfl

theorem sealed (h : FabricKept r s) : FabricKept r s.seal := h.take

theorem accept (h : FabricKept r s) {fuel typ ot pcc : Nat} {body : List Byte} :
    FabricKept r (s.accept fuel typ body ot pcc) := by
  induction fuel generalizing s typ ot pcc body with
  | zero =>
    unfold State.accept
    refine ite h.take (ite (sealed (take ?room)) (take ?room))
    exact ite h h.sealed.modFolio
  | succ k ih =>
    have hcarry : ∀ {s : State} (x : FoRec), FabricKept r s → FabricKept r (s.accept k 0x0F (x.bytes []) s.ot s.pcc) :=
      fun _ hs => ih hs
    unfold State.accept
    refine ite h.take (ite (sealed (take ?space)) (take ?space))
    exact ite h (ite h.sealed.modFolio (ite (h.sealed.modFolio.setFlag rfl).report (h.sealed.modFolio.foldl hcarry)))

theorem append (h : FabricKept r s) {typ : Nat} {body : List Byte} : FabricKept r (s.append typ body) := by
  unfold State.append
  exact ite h.modFolio h.accept

theorem faultRecord (h : FabricKept r s) {d kind : Nat} {e : FaultEntry} : FabricKept r (s.faultRecord d kind e) := h.append

/-! ## The fault queues (R207 to R215) -/

theorem bump (h : FabricKept r s) {n : RegName} {i : Nat} (hn : n.fabric = false) : FabricKept r (s.bump n i) := by
  unfold State.bump
  exact ite h (h.wr hn)

theorem holdLines (h : FabricKept r s) {n : Nat} : FabricKept r (s.holdLines n) :=
  mark (h.forEach fun _ hs => hs.setFlag rfl)

theorem mergeInto (h : FabricKept r s) {d code source : Nat} {us : Word} : FabricKept r (s.mergeInto d code source us) := by
  unfold State.mergeInto
  exact h.modQueue (by intro; rfl)

theorem createEntry (h : FabricKept r s) {d kind : Nat} {e : FaultEntry} : FabricKept r (s.createEntry d kind e) :=
  (h.modQueue (by intro; rfl)).faultRecord

theorem bumpStorm (h : FabricKept r s) {d kind dseq : Nat} {us : Word} : FabricKept r (s.bumpStorm d kind dseq us) := by
  unfold State.bumpStorm
  exact ite (h.modQueue (by intro; rfl)) h.createEntry

theorem newEntry (h : FabricKept r s) {d : Nat} {x : Report} : FabricKept r (s.newEntry d x) := by
  unfold State.newEntry
  exact ite h.createEntry (ite h.mergeInto h.createEntry)

theorem stormBegins (h : FabricKept r s) {d : Nat} {x : Report} : FabricKept r (s.stormBegins d x) := by
  have hbegun : ∀ {us : Word}, FabricKept r
      ((s.modQueue d fun q => { q with storm := true, stormHeld := true, irqUs := none }).bumpStorm d 2 x.dseq us) :=
    (h.modQueue (by intro; rfl)).bumpStorm
  unfold State.stormBegins
  refine ite (forEach ?storm fun _ hs => hs.holdLines) ?storm
  refine ite ?_ hbegun
  split
  · exact hbegun.faultRecord
  · exact hbegun

theorem raiseFault (h : FabricKept r s) {d : Nat} : FabricKept r (s.raiseFault d) := by
  unfold State.raiseFault
  exact ite h.emit (ite (h.modQueue (by intro; rfl)).emit h)

theorem placeReport (h : FabricKept r s) {d : Nat} {x : Report} : FabricKept r (s.placeReport d x) := by
  have hopened : FabricKept r (if (s.queue d).tokens = 0 ∧ !(s.queue d).storm then (s.bump .FQ_TOTAL d).stormBegins d x
      else s.bump .FQ_TOTAL d) := ite (h.bump rfl).stormBegins (h.bump rfl)
  unfold State.placeReport
  refine raiseFault (ite (mergeInto ?taken) (ite (bumpStorm ?taken) (newEntry ?taken)))
  exact hopened.modQueue (by intro; rfl)

theorem placeRest (h : FabricKept r s) {d k : Nat} : FabricKept r (s.placeRest d k) := by
  induction k generalizing s with
  | zero => exact h
  | succ k ih =>
    unfold State.placeRest
    split
    · exact h
    · exact ih (h.modQueue fun _ => List.filter_sublist).placeReport

/-! ## Gates, jobs and fences (R156, R219, R221) -/

theorem gateLeaves (h : FabricKept r s) {g : Nat} : FabricKept r (s.gateLeaves g) := by
  unfold State.gateLeaves
  exact ite (h.forEach fun _ hs => (hs.modDie (by intro; rfl)).setFlag rfl) h

theorem gateLost (h : FabricKept r s) {g : Nat} : FabricKept r (s.gateLost g) := by
  unfold State.gateLost
  exact ite h (h.gateLeaves.setF rfl)

theorem newGen (h : FabricKept r s) {d : Nat} : FabricKept r (s.newGen d) := by
  unfold State.newGen
  exact ite (ite h (h.setFlag rfl).report) ((h.bump rfl).count.setF rfl)

theorem sendFence (h : FabricKept r s) {d e : Nat} : FabricKept r (s.sendFence d e) := by
  unfold State.sendFence
  exact ite h (h.modDie (by intro; rfl))

theorem setJob (h : FabricKept r s) {j k : Job} : FabricKept r (s.setJob j k) := by
  unfold State.setJob
  exact h.modDie (by intro; rfl)

theorem placeJob (h : FabricKept r s) {d n g gen : Nat} : FabricKept r (s.placeJob d n g gen).2.2 := by
  unfold State.placeJob
  dsimp only
  split
  · exact h
  · dsimp only
    exact h.count.count.modDie (by intro; rfl)

theorem replaceJob (h : FabricKept r s) {j : Job} : FabricKept r (s.replaceJob j) := by
  unfold State.replaceJob
  exact ite h.newGen.setJob (setJob h.newGen.sendFence.setJob.placeJob)

theorem replaceAll (h : FabricKept r s) {l : List Job} : FabricKept r (s.replaceAll l) := h.foldl fun _ hs => hs.replaceJob

end FabricKept

/-! # Losing a die (R23, R24, R156, R212, R219) -/

theorem FaultQueue.soonest_mem {q : FaultQueue} {x : Report} (h : q.soonest = some x) : x ∈ q.held := by
  unfold FaultQueue.soonest at h
  dsimp only at h
  split at h
  · cases h
  · rename_i a l hq
    rw [hq, ← Option.some.inj h]
    refine List.foldlRecOn l _ List.mem_cons_self fun b hb c hc => ?_
    split
    · exact List.mem_cons_of_mem _ hc
    · exact hb

theorem FaultQueue.held_of_soonest_none {q : FaultQueue} (h : q.soonest = none) : q.held = [] := by
  unfold FaultQueue.soonest at h
  dsimp only at h
  split at h
  · assumption
  · cases h

/-- To place a report adds none to those held. -/
theorem State.placeReport_held_length (s : State) (d : Nat) (x : Report) :
    ((s.placeReport d x).queue d).held.length ≤ (s.queue d).held.length :=
  ((FabricKept.refl s).placeReport.held d).length_le

/-- Each report placed leaves the queue's held reports, so as many turns as there are of them place them all (R210). -/
theorem State.placeRest_held (d k : Nat) (s : State) (h : (s.queue d).held.length ≤ k) :
    ((s.placeRest d k).queue d).held = [] := by
  induction k generalizing s with
  | zero => exact List.eq_nil_of_length_eq_zero (Nat.le_zero.mp h)
  | succ k ih =>
    unfold State.placeRest
    split
    case h_1 hnone => exact FaultQueue.held_of_soonest_none hnone
    case h_2 x hx =>
      have hfewer : ((s.queue d).held.filter fun y => decide (y.dseq ≠ x.dseq)).length < (s.queue d).held.length :=
        List.length_filter_lt_length_iff_exists.mpr ⟨x, FaultQueue.soonest_mem hx, by simp⟩
      refine ih _ (Nat.le_of_lt_succ (Nat.lt_of_lt_of_le (Nat.lt_of_le_of_lt (State.placeReport_held_length _ d x) ?_) h))
      rw [State.modQueue, State.queue_setQueue_same]
      exact hfewer

/-- What becomes of the reports of a die that is lost: those that had reached die 0 are placed (R210). -/
def State.placeLost (s : State) (d : Nat) : State :=
  (s.modDie d fun x => { x with lostGates := some (((s.die d).lostGates.getD 0) ||| s.dieGates d) }).placeRest d
    (s.queue d).held.length

theorem State.placeLost_held (s : State) (d : Nat) : ((s.placeLost d).queue d).held = [] :=
  State.placeRest_held _ _ _ (Nat.le_refl _)

/-- The gates, leases, fences and jobs of a lost die leave the fabric as it is. -/
theorem State.loseDie_fabricKept (s : State) (d : Nat) : FabricKept (s.placeLost d) (s.loseDie d) := by
  unfold State.loseDie
  refine FabricKept.replaceAll (FabricKept.forEach (FabricKept.forEach (FabricKept.refl _).mark ?_) ?_)
  · exact fun _ hs => hs.gateLost.report
  · exact fun _ hs => FabricKept.ite ((hs.modDie (by intro; rfl)).setFlag rfl) (hs.modDie (by intro; rfl))

/-- A lost die has no report left to place, and the fabric is as it was before. -/
theorem State.loseDie_spec (s : State) (d : Nat) : FabricKept s (s.loseDie d) ∧ ((s.loseDie d).queue d).held = [] :=
  ⟨((FabricKept.refl s).modDie (by intro; rfl)).placeRest.trans (s.loseDie_fabricKept d),
    List.sublist_nil.mp (s.placeLost_held d ▸ (s.loseDie_fabricKept d).held d)⟩

/-! # Finding a die again: what the guard's responses keep (R317, R407 to R412) -/

namespace FabricKept

variable {r s : State}

/-! ## Fuse runs -/

theorem setRegion (h : FabricKept r s) {k v : Nat} : FabricKept r (s.setRegion k v) := h.wr rfl

theorem degrade (h : FabricKept r s) {k : Nat} {c : Bool} : FabricKept r (s.degrade k c) := by
  unfold State.degrade
  exact ite h.setRegion h

theorem fuseFault (h : FabricKept r s) {code d row : Nat} : FabricKept r (s.fuseFault code d row) := h.report

theorem voteFaults (h : FabricKept r s) {v : Vote} {row : Nat} : FabricKept r (s.voteFaults v row) := by
  unfold State.voteFaults
  exact ite (fuseFault (ite h.fuseFault h)) (ite h.fuseFault h)

theorem loadRevoked (h : FabricKept r s) : FabricKept r s.loadRevoked := (h.voteFaults.setF rfl).degrade

theorem loadRollback (h : FabricKept r s) : FabricKept r s.loadRollback := (h.voteFaults.setF rfl).degrade

theorem loadTamper (h : FabricKept r s) : FabricKept r s.loadTamper := (h.voteFaults.setF rfl).degrade

theorem showSpares (h : FabricKept r s) : FabricKept r s.showSpares := (h.setF rfl).setFlag rfl

theorem burnEnds (h : FabricKept r s) {kind : Nat} : FabricKept r (s.burnEnds kind) := by
  unfold State.burnEnds
  split
  · exact h
  · refine ite (append (setFlag ?burn rfl)) (report (append ?burn))
    exact h.same rfl rfl rfl rfl

theorem fuseEnds (h : FabricKept r s) {result : Nat} : FabricKept r (s.fuseEnds result) := by
  unfold State.fuseEnds
  split
  · exact h
  · exact ite h.modFuses.burnEnds (((h.modFuses.setFlag rfl).setFlag rfl).setF rfl)

theorem fuseFinish (h : FabricKept r s) {x : FuseRun} : FabricKept r (s.fuseFinish x) := by
  unfold State.fuseFinish
  split
  · exact ite h.setRegion h
  · exact h.loadRollback
  · exact h.loadTamper
  · exact h.loadRevoked
  · exact h.setF rfl
  · exact h

theorem fuseGo (h : FabricKept r s) : FabricKept r s.fuseGo := by
  unfold State.fuseGo
  split
  · exact h
  · refine ite (showSpares (fuseEnds (fuseFinish ?done))) (ite (fuseEnds (fuseFault ?done)) (modFuses ?done))
    exact h.foldl fun _ hs => hs.fuseFault

theorem fuseStartRun (h : FabricKept r s) {x : FuseRun} : FabricKept r (s.fuseStartRun x) := by
  unfold State.fuseStartRun
  exact fuseGo (ite h.modFuses (h.modFuses.setFlag rfl))

theorem tamperGo (h : FabricKept r s) : FabricKept r s.tamperGo := by
  unfold State.tamperGo
  split
  · exact ite h.modFuses.burnEnds (ite h.modFuses.fuseFault.burnEnds (ite h.modFuses.burnEnds h.modFuses.fuseStartRun))
  · exact h

/-! ## Responses of the guard -/

theorem tamperStart (h : FabricKept r s) {k : Nat} : FabricKept r (s.tamperStart k) := by
  unfold State.tamperStart
  exact ite h h.modGuard.modFuses.tamperGo

theorem guardRecord (h : FabricKept r s) {k merged : Nat} : FabricKept r (s.guardRecord k merged) := h.append

theorem sourceTake (h : FabricKept r s) {k : Nat} : FabricKept r (s.sourceTake k).1 := by
  have hseen : ∀ {x y : Nat}, FabricKept r
      (((s.setF Fld.GD_SRC_CNT_COUNT k x).setF Fld.GD_STATUS_LAST_SOURCE 0 y).count 0 0x3F5 1) :=
    ((h.setF rfl).setF rfl).count
  unfold State.sourceTake
  dsimp only
  split
  · exact h
  · split
    · dsimp only
      exact hseen.modGuard
    · split
      · exact hseen
      · exact ite hseen.modGuard.guardRecord.report.tamperStart hseen.modGuard.guardRecord.report

theorem holdAll (h : FabricKept r s) : FabricKept r s.holdAll := mark (h.forEach fun _ hs => hs.setFlag rfl)

theorem lockdown (h : FabricKept r s) {cause : Nat} : FabricKept r (s.lockdown cause) := by
  unfold State.lockdown
  exact ite h (h.setFlag rfl).append.modFolio.report

theorem putBytes (h : FabricKept r s) {n : RegName} {i words : Nat} {b : List Byte} (hn : n.fabric = false) :
    FabricKept r (s.putBytes n i words b) := h.forEach fun _ hs => hs.wr hn

theorem showKeys (h : FabricKept r s) : FabricKept r s.showKeys := by
  unfold State.showKeys
  dsimp only
  split
  · refine ite (putBytes (putBytes ?flags rfl) rfl) (putBytes (putBytes ?flags rfl) rfl)
    exact (h.setFlag rfl).setFlag rfl
  · exact (((h.setFlag rfl).setFlag rfl).putBytes rfl).putBytes rfl

theorem zeroise (h : FabricKept r s) : FabricKept r s.zeroise :=
  showKeys (h.same rfl rfl rfl rfl)

theorem guardRespond (h : FabricKept r s) {k x : Nat} : FabricKept r (s.guardRespond k x) := by
  unfold State.guardRespond
  refine ite (modGuard ?zeroised) ?zeroised
  refine ite (zeroise ?locked) ?locked
  refine ite (lockdown ?held) ?held
  refine ite (holdAll ?told) ?told
  exact ite (h.same rfl rfl rfl rfl) h

theorem guardTake (h : FabricKept r s) {l : List Nat} : FabricKept r (s.guardTake l) := by
  unfold State.guardTake
  refine guardRespond ?_
  exact List.foldlRecOn (motive := fun (a : State × Nat × Nat) => FabricKept r a.1) l _ h fun _ ha _ _ => ha.sourceTake

theorem takeLatched (h : FabricKept r s) {l : List Nat} : FabricKept r (s.takeLatched l) := h.modGuard.guardTake

end FabricKept

/-! # Settling the fabric and the hash pool -/

/-! ## Dies (R23, R212, R409) -/

/-- RC_DIE_STATE shows for a die what was set for it. -/
theorem State.dieState_setF (s : State) (d : DieId) {x : Nat} (hx : x < 4) :
    bitsOf ((s.setF { reg := .RC_DIE_STATE, lo := 2 * d.val, width := 2 } 0 x).rd .RC_DIE_STATE 0).toNat (2 * d.val) 2 = x := by
  have hfits : Field.fits { reg := .RC_DIE_STATE, lo := 2 * d.val, width := 2 } := by
    change 2 * d.val + 2 ≤ 32
    omega
  exact (s.getF_setF_same _ 0 x hfits).trans (Nat.mod_eq_of_lt hx)

/-- Die 0 notes that it reaches die d no more: the reports on their way are lost, the loss is a fault, RC_DIE_STATE shows it. -/
def State.lossNoted (s : State) (d : Nat) : State :=
  ((s.modDie d fun x => { x with reachable := false, lossSeen := false, inflight := [] }).report 0 0x5003 d).setF
    { reg := .RC_DIE_STATE, lo := 2 * d, width := 2 } 0 3

theorem State.lossNoted_reachable (s : State) (d : Nat) : ((s.lossNoted d).die d).reachable = false := by
  rw [State.lossNoted, State.setF_die, State.report_reachable, State.die_modDie_same]

theorem State.lossNoted_fault (s : State) (d : Nat) : bitOf ((s.lossNoted d).rd .CF_FAULT 0).toNat 2 = true := by
  rw [State.lossNoted, State.rd_setF _ _ _ _ _ _ (by simp), State.report_bit _ _ _ _ .CF_FAULT 0 2 rfl rfl, BitVec.or_comm]
  exact bitOf_or_of_left (by decide)

theorem State.lossNoted_dieState (s : State) (d : DieId) :
    bitsOf ((s.lossNoted d.val).rd .RC_DIE_STATE 0).toNat (2 * d.val) 2 = 3 := State.dieState_setF _ d (by decide)

/-- What the loss of die d brings with it: marks on its leases, what hung on the die, UNREACH, and its outputs floated. -/
def State.lossFollows (s : State) (d : Nat) : State :=
  (((s.mark (0xFF * 2 ^ (8 * d))).loseDie d).modQueue d fun q => { q with unreach := true }).emit (.floated (.die 1) d)

theorem State.lossFollows_fabricKept (s : State) (d : Nat) : FabricKept s (s.lossFollows d) :=
  (((FabricKept.refl s).mark.trans (State.loseDie_spec _ d).1).modQueue (by intro; rfl)).emit

theorem State.lossFollows_unreach (s : State) (d : Nat) : ((s.lossFollows d).queue d).unreach = true := by
  rw [State.lossFollows, State.emit_queue, State.modQueue, State.queue_setQueue_same]

theorem State.lossFollows_held (s : State) (d : Nat) : ((s.lossFollows d).queue d).held = [] := by
  rw [State.lossFollows, State.emit_queue, State.modQueue, State.queue_setQueue_same]
  dsimp only
  exact (State.loseDie_spec _ d).2

theorem State.lossFollows_outputs (s : State) (d : Nat) : Output.floated (.die 1) d ∈ (s.lossFollows d).outputs := by
  rw [State.lossFollows, State.emit]
  exact List.mem_append_right _ List.mem_cons_self

theorem exec_dieUnreachable {d : DieId} {s : State} (hp : s.platLive = true) (hd : d.val ≠ 0) (hr : s.reached d.val = true) :
    exec (.dieUnreachable d) s = .next ((s.lossNoted d.val).lossFollows d.val) :=
  congrArg Host.Outcome.next (s.when_of _ _ (by simp [hp, hd, hr]))

theorem exec_dieUnreachable_unreached {d : DieId} {s : State} (hr : s.reached d.val = false) :
    exec (.dieUnreachable d) s = .next s := by
  change Host.Outcome.next (s.when _ _) = _
  rw [hr, Bool.and_false, State.when_false]

/-- The fabric reaches die d again, and RC_DIE_STATE shows it. -/
def State.foundNoted (s : State) (d : Nat) : State :=
  (s.modDie d fun x => { x with reachable := true, lossSeen := false }).setF
    { reg := .RC_DIE_STATE, lo := 2 * d, width := 2 } 0 2

theorem State.foundNoted_reachable (s : State) (d : Nat) : ((s.foundNoted d).die d).reachable = true := by
  rw [State.foundNoted, State.setF_die, State.die_modDie_same]

theorem State.foundNoted_dieState (s : State) (d : DieId) :
    bitsOf ((s.foundNoted d.val).rd .RC_DIE_STATE 0).toNat (2 * d.val) 2 = 2 := State.dieState_setF _ d (by decide)

theorem exec_dieReachable {d : DieId} {s : State} (hl : s.platLive = true) (hp : s.present d.val = true)
    (hu : (s.die d.val).reachable = false) (hr : (s.die d.val).inReset = false) :
    exec (.dieReachable d) s = .next ((s.foundNoted d.val).takeLatched ((List.range 8).map fun j => 8 * d.val + j)) :=
  congrArg Host.Outcome.next (s.when_of _ _ (by simp [hl, hp, hu, hr]))

/-! ## Hops (R202, R207) -/

theorem exec_hopDown {d : DieId} {w : Bool} {s : State} (hl : s.live d.val = true)
    (hup : s.flag (if w then Fld.FB_STATUS_DN_OK else Fld.FB_STATUS_UP_OK) d.val = true)
    (h3 : 3 ≤ (Tbl.get (s.die d.val).hopRuns (b2n w) (0, 0)).2) :
    exec (.hopDown d w) s = .next (((((s.modDie d.val fun x =>
      { x with hopRuns := Tbl.set x.hopRuns (b2n w) (0, 0) (0, 0) }).setFlag
      (if w then Fld.FB_STATUS_DN_OK else Fld.FB_STATUS_UP_OK) d.val false).setFlag
      (if w then Fld.FB_STATUS_UP_OK else Fld.FB_STATUS_DN_OK) (s.hopPeer d.val w) false).report
      d.val 0x5209 d.val).report d.val 0x5002 (b2n w)) :=
  congrArg Host.Outcome.next (s.when_of _ _ (by simp [hl, hup, h3]))

/-- The attempts of a run on a hop, with the one that fails now. -/
def State.hopTries (s : State) (d : Nat) (w : Bool) (run : Nat) : Nat :=
  if (Tbl.get (s.die d).hopRuns (b2n w) (0, 0)).1 = run then (Tbl.get (s.die d).hopRuns (b2n w) (0, 0)).2 + 1 else 1

theorem State.hopTries_le {s : State} {d run : Nat} {w : Bool}
    (h : (Tbl.get (s.die d).hopRuns (b2n w) (0, 0)).1 ≠ run ∨ (Tbl.get (s.die d).hopRuns (b2n w) (0, 0)).2 < 3) :
    s.hopTries d w run ≤ 3 := by
  unfold State.hopTries
  split
  case isTrue hsame => exact h.resolve_left (not_not_intro hsame)
  case isFalse => decide

theorem exec_hopCheck {d : DieId} {w : Bool} {run : Nat} {s : State} (hl : s.live d.val = true)
    (hup : s.flag (if w then Fld.FB_STATUS_DN_OK else Fld.FB_STATUS_UP_OK) d.val = true) (h3 : s.hopTries d.val w run ≤ 3) :
    exec (.hopCheck d w run) s = .next ((s.modDie d.val fun x =>
      { x with hopRuns := Tbl.set x.hopRuns (b2n w) (run, s.hopTries d.val w run) (0, 0) }).report d.val 0x5001 (b2n w)) :=
  congrArg Host.Outcome.next (s.when_of _ _ (by
    rw [hl, hup]
    exact decide_eq_true h3))

/-! ## Jobs and fences (R219, R221) -/

theorem exec_jobTimeout_due {ch : ChanId} {g : Nat} {e : DieId} {j : Job} {s : State} (hl : s.chLive ch.val = true)
    (hj : s.jobAt ch.val g e.val = some j) (ht : s.getF Fld.HP_CTRL_JOB_TIMEOUT (ch.val / 8) ≤ s.usSince j.since) :
    exec (.jobTimeout ch g e) s = .next ((s.report (ch.val / 8) 0x5005 e.val).replaceJob j) := by
  refine congrArg Host.Outcome.next ((s.when_of _ _ hl).trans ?_)
  rw [hj]
  exact if_pos ht

theorem exec_jobTimeout_early {ch : ChanId} {g : Nat} {e : DieId} {s : State}
    (h : ∀ j, s.jobAt ch.val g e.val = some j → s.usSince j.since < s.getF Fld.HP_CTRL_JOB_TIMEOUT (ch.val / 8)) :
    exec (.jobTimeout ch g e) s = .next s := by
  refine congrArg Host.Outcome.next ?_
  rcases s.when_cases (s.chLive ch.val) _ with ⟨-, hw⟩ | ⟨-, hw⟩
  · rw [hw]
    cases hj : s.jobAt ch.val g e.val with
    | none => rfl
    | some j => exact if_neg (Nat.not_le_of_lt (h j hj))
  · exact hw

theorem modFirst_mem {α : Type} {p : α → Bool} {x : α} {l : List α} (f : α → α) (hx : x ∈ l) (hp : p x = true) :
    ∃ y ∈ l, p y = true ∧ f y ∈ modFirst p f l := by
  induction l with
  | nil => cases hx
  | cons a l ih =>
    cases ha : p a with
    | true => exact ⟨a, List.mem_cons_self, ha, by simp [modFirst, ha]⟩
    | false =>
      have hxl : x ∈ l := (List.mem_cons.mp hx).resolve_left (by rintro rfl; rw [hp] at ha; cases ha)
      obtain ⟨y, hy, hpy, hm⟩ := ih hxl
      exact ⟨y, List.mem_cons_of_mem _ hy, hpy, by simp [modFirst, ha, hm]⟩

/-- A fence of generation `k` that is on its way to executor `e`. -/
def Fence.toward (e k : Nat) (f : Fence) : Bool := decide (f.executor = e) && decide (f.gen = k) && !f.got

/-- The owner's fence has reached its executor. -/
def State.fenceGot (s : State) (e o k : Nat) : State :=
  s.modDie o fun x => { x with fences := modFirst (Fence.toward e k) (fun f => { f with got := true }) x.fences }

theorem State.fenceGot_fences (s : State) (e o k : Nat) : ((s.fenceGot e o k).die o).fences =
    modFirst (Fence.toward e k) (fun f => { f with got := true }) (s.die o).fences := by
  rw [State.fenceGot, State.die_modDie_same]

theorem State.fenceGot_guests (s : State) (e o k d : Nat) : ((s.fenceGot e o k).die d).guests = (s.die d).guests :=
  State.die_modDie_field Die.guests (by intro; rfl) _ _ _

/-- The executor drops the owner's waiting guests that are older than generation `k`. -/
def State.fenceDrops (s : State) (e o k : Nat) : State :=
  s.modDie e fun x => { x with
    guests := x.guests.filter fun g => decide (g.owner ≠ o) || g.started.isSome || !genOlder g.gen k }

theorem State.fenceDrops_guests (s : State) (e o k : Nat) : ((s.fenceDrops e o k).die e).guests =
    (s.die e).guests.filter fun g => decide (g.owner ≠ o) || g.started.isSome || !genOlder g.gen k := by
  rw [State.fenceDrops, State.die_modDie_same]

theorem State.fenceDrops_fences (s : State) (e o k d : Nat) : ((s.fenceDrops e o k).die d).fences = (s.die d).fences :=
  State.die_modDie_field Die.fences (by intro; rfl) _ _ _

theorem exec_fence {e o : DieId} {k : Nat} {s : State} (hr : s.reached e.val = true)
    (hf : (s.die o.val).fences.any (Fence.toward e.val k) = true) :
    exec (.fence e o k) s = .next ((s.fenceGot e.val o.val k).fenceDrops e.val o.val k) :=
  congrArg Host.Outcome.next (s.when_of _ _ (by
    rw [hr]
    exact hf))

/-- The owner's oldest fence that has reached an executor is acknowledged. -/
def State.fenceAcked (s : State) (o e : Nat) : State :=
  s.modDie o fun x => { x with fences := x.fences.eraseP fun f => decide (f.executor = e) && f.got }

/-- A fence stall ends where the limit holds again. -/
def State.stallEnds (s : State) (o : Nat) : State :=
  if s.flag Fld.HP_STATUS_FENCE_STALL o ∧ !s.fenceLimit o then s.setFlag Fld.HP_STATUS_FENCE_STALL o false else s

theorem State.stallEnds_of_no_stall {s : State} {o : Nat} (h : s.flag Fld.HP_STATUS_FENCE_STALL o = false) :
    s.stallEnds o = s := by
  rw [State.stallEnds, h, if_neg (by simp)]

theorem State.stallEnds_die (s : State) (o d : Nat) : (s.stallEnds o).die d = s.die d := by
  unfold State.stallEnds
  split <;> rfl

/-- Without a fence under way there is no limit to reach, and no stall outlasts that. -/
theorem State.stallEnds_of_no_fences {s : State} {o : Nat} (h : (s.die o).fences = []) :
    (s.stallEnds o).flag Fld.HP_STATUS_FENCE_STALL o = false := by
  have hlimit : s.fenceLimit o = false := by
    rw [State.fenceLimit, h]
    rfl
  cases hs : s.flag Fld.HP_STATUS_FENCE_STALL o with
  | false => rw [State.stallEnds_of_no_stall hs, hs]
  | true =>
    rw [State.stallEnds, hs, hlimit, if_pos (by decide)]
    exact State.flag_setFlag_same _ _ _ _ (by decide) (by decide)

/-- The executor holds no started guest that the fence would wait for. -/
theorem no_guest_awaited {l : List Guest} {o gen : Nat}
    (h : ∀ g ∈ l, g.owner = o → g.started.isSome = true → genOlder g.gen gen = false) :
    (l.any fun g => decide (g.owner = o) && g.started.isSome && genOlder g.gen gen) = false := by
  rw [List.any_eq_false]
  intro g hg hawaited
  simp only [Bool.and_eq_true, decide_eq_true_eq] at hawaited
  obtain ⟨⟨howner, hstarted⟩, holder⟩ := hawaited
  rw [h g hg howner hstarted] at holder
  cases holder

theorem exec_fenceAck {o e : DieId} {f : Fence} {s : State} (hr : s.reached o.val = true)
    (hf : ((s.die o.val).fences.find? fun f => decide (f.executor = e.val) && f.got) = some f)
    (hclear : ∀ g ∈ (s.die e.val).guests, g.owner = o.val → g.started.isSome = true → genOlder g.gen f.gen = false) :
    exec (.fenceAck o e) s = .next ((s.fenceAcked o.val e.val).stallEnds o.val) := by
  refine congrArg Host.Outcome.next (s.when_of _ _ ?_)
  rw [hr, hf]
  exact congrArg Bool.not (no_guest_awaited hclear)

theorem exec_fenceAck_none {o e : DieId} {s : State} (h : ∀ f ∈ (s.die o.val).fences, f.executor = e.val → f.got = false) :
    exec (.fenceAck o e) s = .next s := by
  have hf : ((s.die o.val).fences.find? fun f => decide (f.executor = e.val) && f.got) = none := by
    rw [List.find?_eq_none]
    intro f hf hit
    simp only [Bool.and_eq_true, decide_eq_true_eq] at hit
    rw [h f hf hit.1] at hit
    cases hit.2
  change Host.Outcome.next (s.when _ _) = _
  rw [hf, Bool.and_false, State.when_false]

theorem State.fenceAcked_last {s : State} {o e : Nat} {f : Fence} (hf : (s.die o).fences = [f]) (he : f.executor = e)
    (hg : f.got = true) : ((s.fenceAcked o e).die o).fences = [] := by
  rw [State.fenceAcked, State.die_modDie_same]
  simp [hf, he, hg]

/-! ## Lanes (R222) -/

theorem mem_eq_false {x : Nat} {l : List Nat} (h : x ∉ l) : mem x l = false :=
  List.any_eq_false.mpr fun _ hy he => h (of_decide_eq_true he ▸ hy)

theorem exec_laneKat {d : DieId} {l : Fin 4} {pass : Bool} {s : State} (hl : s.live d.val = true) :
    exec (.laneKat d l pass) s = .next (s.laneKat d.val l.val pass) :=
  congrArg Host.Outcome.next (s.when_of _ _ hl)

theorem State.laneKat_passed {s : State} {d l : Nat} (hout : l ∉ (s.die d).lanesOut)
    (hbit : bitOf (s.getF Fld.HP_STATUS_LANES_OK d) l = false) :
    s.laneKat d l true = s.setF Fld.HP_STATUS_LANES_OK d (s.getF Fld.HP_STATUS_LANES_OK d + 2 ^ l) := by
  simp [State.laneKat, mem_eq_false hout, hbit]

/-! ## The statement -/

/-- Settles O23: a lost die by what the loss notes and what follows keeps, a die found again by what the guard's responses
keep, and the hops, jobs, fences and lanes by what each command does where its condition holds. -/
theorem fabricAndHashPool : Obligations.FabricAndHashPool := by
  refine ⟨fun d s hp hd hr => ⟨_, exec_dieUnreachable hp hd hr, ?_⟩, fun d s hr => exec_dieUnreachable_unreached hr,
    fun d s hl hp hu hr => ⟨_, exec_dieReachable hl hp hu hr, ?_⟩,
    fun d s hl hup h3 => exec_hopDown (w := false) hl hup h3, fun d s hl hdn h3 => exec_hopDown (w := true) hl hdn h3,
    fun d w run s hl hup h3 => ⟨_, exec_hopCheck hl hup (State.hopTries_le h3), ?_⟩,
    fun d k s hr => congrArg Host.Outcome.next (s.when_of _ _ hr),
    fun ch g e j s hl hj ht => exec_jobTimeout_due hl hj ht, fun ch g e s h => exec_jobTimeout_early h,
    fun e o k s hr hf => ?_, fun o e f s hr hf hclear hstall => ?_,
    fun o e f s hr hf he hg hclear => ⟨_, exec_fenceAck hr ?_ hclear, ?_⟩,
    fun o e s h => exec_fenceAck_none h, fun d l s hl hout hbit => ?_, fun d l s hl => exec_laneKat hl⟩
  · have hkept := (s.lossNoted d.val).lossFollows_fabricKept d.val
    refine ⟨(hkept.reachable d.val).trans (s.lossNoted_reachable d.val), State.lossFollows_unreach _ _,
      hkept.faults 0 2 (s.lossNoted_fault d.val), State.lossFollows_held _ _, State.lossFollows_outputs _ _, ?_⟩
    rw [hkept.dieState, State.lossNoted_dieState]
  · have hkept := (FabricKept.refl (s.foundNoted d.val)).takeLatched (l := (List.range 8).map fun j => 8 * d.val + j)
    refine ⟨(hkept.reachable d.val).trans (s.foundNoted_reachable d.val), ?_⟩
    rw [hkept.dieState, State.foundNoted_dieState]
  · refine ⟨?_, State.report_bit _ _ _ _ .CF_FAULT d.val 0 rfl rfl, State.report_sram _ _ _ _, State.report_outputs _ _ _ _,
      fun n i hn hother => ?_⟩
    · rw [State.report_die, State.die_modDie_same]
      exact Tbl.get_set_same _ _ _ _
    · refine State.report_rd _ _ _ _ _ _ hn fun b hb => ?_
      cases hb
      exact hother.elim (fun h => h rfl) (fun h => h rfl)
  · obtain ⟨f, hmem, hexec, hgen, hgot⟩ := hf
    have htoward : f.toward e.val k = true := by simp [Fence.toward, hexec, hgen, hgot]
    refine ⟨_, exec_fence hr (List.any_eq_true.mpr ⟨f, hmem, htoward⟩), rfl, rfl, ?_, ?_⟩
    · rw [State.fenceDrops_guests, State.fenceGot_guests]
    · obtain ⟨y, -, hy, hgot⟩ := modFirst_mem (fun f : Fence => { f with got := true }) hmem htoward
      simp only [Fence.toward, Bool.and_eq_true, decide_eq_true_eq] at hy
      rw [State.fenceDrops_fences, State.fenceGot_fences]
      exact ⟨_, hgot, hy.1.1, hy.1.2, rfl⟩
  · exact (exec_fenceAck hr hf hclear).trans (congrArg Host.Outcome.next (State.stallEnds_of_no_stall hstall))
  · simp [hf, he, hg]
  · have hnone := State.fenceAcked_last hf he hg
    exact ⟨by rw [State.stallEnds_die, hnone], State.stallEnds_of_no_fences hnone⟩
  · rw [exec_laneKat hl, State.laneKat_passed hout hbit]

end Sys2Proof.Machine

namespace Sys2Proof.Machine

/-! # What a channel's registers decide (R41, R121) -/

theorem State.flag_congr {s t : State} {f : Field} {i : Nat} (h : t.rd f.reg i = s.rd f.reg i) : t.flag f i = s.flag f i := by
  rw [State.flag, State.getF, h, State.flag, State.getF]

theorem State.active_congr {s t : State} {n : Nat} (h : t.rd .CH_STATUS n = s.rd .CH_STATUS n) : t.active n = s.active n := by
  rw [State.active, State.getF, h, State.active, State.getF]

theorem State.idleCh_congr {s t : State} {n : Nat} (h : t.rd .CH_STATUS n = s.rd .CH_STATUS n) : t.idleCh n = s.idleCh n := by
  unfold State.idleCh
  rw [State.flag_congr (f := Fld.CH_STATUS_FRAME_OPEN) h, State.flag_congr (f := Fld.CH_STATUS_OWN_OPEN) h]

theorem State.quoined_congr {s t : State} {n : Nat} (hq : t.rd .FM_QUOIN_EFF (n / 8) = s.rd .FM_QUOIN_EFF (n / 8))
    (hb : t.rd .BIND_ACT (2 * n) = s.rd .BIND_ACT (2 * n)) : t.quoined n = s.quoined n := by
  rw [State.quoined, hq, hb, State.quoined]

/-- A requester that reaches a die's registers reaches a die that runs: a stopped part has no requester (R22, R242). -/
theorem State.live_of_dieOpen {s : State} {req : Requester} {d : Nat} (h : s.DieOpen req d) : s.live d = true := by
  obtain ⟨hreq, hpresent, hreset, -⟩ := h
  have hrun : s.stopped = false := by
    cases req <;> simp [State.reqOk, State.hifLive, State.platLive, State.live] at hreq <;> simp [hreq]
  simp [State.live, hpresent, hreset, hrun]

/-- A guarded effect that changes nothing changes nothing under any guard. -/
theorem State.when_same {s : State} (c : Bool) {f : State → State} (h : f s = s) : s.when c f = s := by
  cases c
  · rfl
  · exact h

/-! # Writes of registers one after another -/

theorem State.OnlyRegs.refl (s : State) (p : RegName → Nat → Bool) : s.OnlyRegs s p := ⟨rfl, fun _ _ _ => rfl⟩

/-- One more write, of a register among those that may change. -/
theorem State.OnlyRegs.wr {s t : State} {p : RegName → Nat → Bool} (h : s.OnlyRegs t p) {n : RegName} {i : Nat} {v : Word}
    (hp : p n i = true) : s.OnlyRegs (t.wr n i v) p := by
  obtain ⟨hrest, hrd⟩ := h
  refine ⟨by rw [hrest]; rfl, fun m j hm => ?_⟩
  rw [State.rd_wr_other, hrd m j hm]
  by_contra hne
  obtain ⟨rfl, rfl⟩ : m = n ∧ j = i := by simpa [not_or] using hne
  rw [hp] at hm
  cases hm

theorem State.OnlyRegs.setF {s t : State} {p : RegName → Nat → Bool} (h : s.OnlyRegs t p) {f : Field} {i x : Nat}
    (hp : p f.reg i = true) : s.OnlyRegs (t.setF f i x) p := h.wr hp

theorem State.OnlyRegs.setFlag {s t : State} {p : RegName → Nat → Bool} (h : s.OnlyRegs t p) {f : Field} {i : Nat} {b : Bool}
    (hp : p f.reg i = true) : s.OnlyRegs (t.setFlag f i b) p := h.wr hp

/-! # Channel configuration (R41, R47, R53, R54, R81, R122) -/

/-! ## CH_CTRL -/

/-- A write of CH_CTRL that is taken whole (R53, R54). -/
theorem State.writeChCtrl_taken {s : State} {n : Nat} {v : Word} (hst : bitsOf v.toNat 0 2 ≠ 3) (ha : s.active n = false)
    (hq : s.quoined n = false) :
    s.writeChCtrl n v = ((((s.setF Fld.CH_CTRL_STATE n (bitsOf v.toNat 0 2)).setFlag Fld.CH_CTRL_TIMEOUT_HOLD n
      (bitOf v.toNat 4)).setFlag Fld.CH_CTRL_MODE n (bitOf v.toNat 2)).setFlag Fld.CH_CTRL_SCK_MODE n
      (bitOf v.toNat 3)).setFlag Fld.CH_STATUS_MODE_EFF n (bitOf v.toNat 2) := by
  have hrd : ∀ m i, m ≠ .CH_CTRL → ((s.setF Fld.CH_CTRL_STATE n (bitsOf v.toNat 0 2)).setFlag Fld.CH_CTRL_TIMEOUT_HOLD n
      (bitOf v.toNat 4)).rd m i = s.rd m i := fun m i hm => by rw [State.rd_setFlag _ _ _ _ _ _ hm, State.rd_setF _ _ _ _ _ _ hm]
  have hact := (State.active_congr (hrd .CH_STATUS n (by decide))).trans ha
  have hquo := (State.quoined_congr (hrd .FM_QUOIN_EFF (n / 8) (by decide)) (hrd .BIND_ACT (2 * n) (by decide))).trans hq
  unfold State.writeChCtrl
  simp only [if_neg hst, hact, hquo, Bool.or_false, Bool.false_eq_true, if_false]

/-- One on an ACTIVE channel that asks for no change of MODE or SCK_MODE, with the STATE that is ignored (R54, R81). -/
theorem State.writeChCtrl_active {s : State} {n : Nat} {v : Word} (hst : bitsOf v.toNat 0 2 = 3) (ha : s.active n = true)
    (hm : bitOf v.toNat 2 = s.flag Fld.CH_CTRL_MODE n) (hk : bitOf v.toNat 3 = s.flag Fld.CH_CTRL_SCK_MODE n) :
    s.writeChCtrl n v = s.setFlag Fld.CH_CTRL_TIMEOUT_HOLD n (bitOf v.toNat 4) := by
  have hact := (State.active_congr (s.rd_setFlag Fld.CH_CTRL_TIMEOUT_HOLD .CH_STATUS n n (bitOf v.toNat 4) (by decide))).trans ha
  unfold State.writeChCtrl
  simp only [if_pos hst, hact, Bool.true_or, if_true]
  refine if_neg (not_or.mpr ⟨not_not.mpr ?_, not_not.mpr ?_⟩)
  · rw [hm, State.flag_setFlag_apart _ _ _ _ _ _ (by decide) (by decide)]
  · rw [hk, State.flag_setFlag_apart _ _ _ _ _ _ (by decide) (by decide)]

theorem exec_chCtrlWrite_open {req : Requester} {ch : ChanId} {s : State} (v : Word) (h : s.DieOpen req (ch.val / 8)) :
    exec (.chCtrlWrite req ch v) s = .next (s.writeChCtrl ch.val v) :=
  congrArg Host.Outcome.next (State.dieAccess_open _ h)

/-! ## STATE_CHANGE -/

theorem State.stateChange_of_busy {s : State} {n : Nat} (h : s.idleCh n = false) : s.stateChange n = s :=
  if_pos (Or.inr (by rw [h]; rfl))

/-- A DISABLED channel that is asked for ISOLATE shows it, in STATE_EFF and on its pins (Table 2.1). -/
theorem State.stateChange_isolates {s : State} {n : Nat} (hi : s.idleCh n = true)
    (hreq : s.getF Fld.CH_CTRL_STATE n = 1) (heff : s.getF Fld.CH_STATUS_STATE_EFF n = 0) :
    s.stateChange n = (s.setF Fld.CH_STATUS_STATE_EFF n 1).emit
      (.chanPins n ((s.setF Fld.CH_STATUS_STATE_EFF n 1).pinsOf n ((s.setF Fld.CH_STATUS_STATE_EFF n 1).ch n).frst)) := by
  simp [State.stateChange, hi, hreq, heff]

/-! ## The shadow window and the shape table -/

theorem exec_channelConfigWrite_open {req : Requester} {ch : ChanId} {s : State} (r : ChanCfgReg) (v : Word)
    (h : s.DieOpen req (ch.val / 8)) :
    exec (.channelConfigWrite req ch r v) s = .next (s.writeChannelConfig ch.val r v) :=
  congrArg Host.Outcome.next (State.dieAccess_open _ h)

/-- A configuration write that R54 protects: a quoined channel takes the value it has, and another one is a fault there and on
an ACTIVE channel (R54, R122). -/
theorem State.cfgWrite_protected (s : State) (n : Nat) (r : RegName) (i : Nat) (v : Word) :
    s.cfgWrite n r i v true =
      if s.quoined n ∧ r.written (s.rd r i) v = s.rd r i then s
      else if s.quoined n ∨ s.active n then s.report (n / 8) 0x1005 (n % 8)
      else s.wr r i (r.written (s.rd r i) v) := by
  unfold State.cfgWrite State.chFault State.swWrite
  cases s.quoined n <;> cases s.active n <;> simp

/-- One that R54 leaves open, on a channel that is not quoined (R54, R122). -/
theorem State.cfgWrite_open {s : State} {n : Nat} (r : RegName) (i : Nat) (v : Word) (hq : s.quoined n = false) :
    s.cfgWrite n r i v false = s.wr r i (r.written (s.rd r i) v) := by
  simp [State.cfgWrite, hq, State.swWrite]

theorem exec_shapeDataAccess_write {req : Requester} {ch : ChanId} {s : State} (v : Word) (h : s.DieOpen req (ch.val / 8)) :
    exec (.shapeDataAccess req ch (some v)) s = .next (s.writeShapeData ch.val v) :=
  congrArg Host.Outcome.next (State.dieAccess_open _ h)

theorem exec_shapeDataAccess_read {req : Requester} {ch : ChanId} {s : State} (h : s.DieOpen req (ch.val / 8)) :
    exec (.shapeDataAccess req ch none) s = .next (State.answer (s.readShapeData ch.val)) :=
  congrArg Host.Outcome.next (State.dieRead_open _ h)

theorem exec_chLastopRead_open {req : Requester} {ch : ChanId} {s : State} (h : s.DieOpen req (ch.val / 8)) :
    exec (.chLastopRead req ch) s = .next (State.answer (s.readLastop ch.val)) :=
  congrArg Host.Outcome.next (State.dieRead_open _ h)

theorem State.shapeAdvance_off {s : State} {n : Nat} (h : s.flag Fld.SHAPE_INDEX_AUTOINC n = false) : s.shapeAdvance n = s :=
  if_neg (by rw [h]; decide)

theorem State.shapeAdvance_on {s : State} {n : Nat} (h : s.flag Fld.SHAPE_INDEX_AUTOINC n = true) :
    s.shapeAdvance n = s.setF Fld.SHAPE_INDEX_OPCODE n (s.getF Fld.SHAPE_INDEX_OPCODE n + 1) := if_pos h

/-- A shape entry is written where the channel is neither quoined nor ACTIVE, and the index moves on (R47, R54). -/
theorem State.writeShapeData_taken {s : State} {n : Nat} (v : Word) (ha : s.active n = false) (hq : s.quoined n = false) :
    s.writeShapeData n v = (s.wr .SHAPE_ENTRY (s.shapeIx n) (v &&& 0x3FFFFF)).shapeAdvance n := by
  simp [State.writeShapeData, ha, hq]

/-- Settles O7: a write that is taken is the writes of its fields, one that is discarded is the report of 0x1005, and reads and
writes of SHAPE_DATA are followed by the move of SHAPE_INDEX. -/
theorem channelRegisters : Obligations.ChannelRegisters := by
  refine ⟨fun req ch v s ho hst ha hq => ⟨_, exec_chCtrlWrite_open v ho, ?ctrl⟩,
    fun req ch v s ho hst ha hm hk => (exec_chCtrlWrite_open v ho).trans
      (congrArg Host.Outcome.next (State.writeChCtrl_active hst ha hm hk)),
    fun ch s hl hi hreq heff => congrArg Host.Outcome.next
      ((State.when_of _ _ _ hl).trans (State.stateChange_isolates hi hreq heff)),
    fun ch s hi => congrArg Host.Outcome.next (State.when_same _ (State.stateChange_of_busy hi)),
    fun req ch v s ho hq => (exec_channelConfigWrite_open _ v ho).trans
      (congrArg Host.Outcome.next (State.cfgWrite_open _ _ v hq)),
    fun req ch k v s ho => (exec_channelConfigWrite_open _ v ho).trans
      (congrArg Host.Outcome.next (State.cfgWrite_protected _ _ _ _ v)),
    fun req ch v s ho ha hq hoff => ?writeStays, fun req ch v s ho ha hq hon => ⟨_, exec_shapeDataAccess_write v ho, ?writeMoves⟩,
    fun req ch s ho hoff => ?read, fun req ch s ho => exec_chLastopRead_open ho⟩
  case ctrl =>
    rw [State.writeChCtrl_taken hst ha hq]
    simp (disch := decide) only [State.getF_setFlag_apart, State.flag_setFlag_apart, State.flag_setFlag_same,
      State.getF_setF_apart, State.getF_setF_same, true_and]
    refine ⟨Nat.mod_eq_of_lt (bitsOf_lt _ _ _), ?_⟩
    exact (((((State.OnlyRegs.refl s _).setF (by simp)).setFlag (by simp)).setFlag (by simp)).setFlag (by simp)).setFlag (by simp)
  case writeStays =>
    rw [exec_shapeDataAccess_write v ho, State.writeShapeData_taken v ha hq, State.shapeAdvance_off]
    · rfl
    · rw [State.flag_wr_apart _ _ _ _ _ _ (by decide), hoff]
  case writeMoves =>
    rw [State.writeShapeData_taken v ha hq, State.shapeAdvance_on (by rw [State.flag_wr_apart _ _ _ _ _ _ (by decide), hon]),
      State.getF_wr_apart _ _ _ _ _ _ (by decide)]
    refine ⟨?_, State.getF_setF_same _ _ _ _ (by decide), ((State.OnlyRegs.refl s _).wr ?_).setF (by simp)⟩
    · rw [State.rd_setF _ _ _ _ _ _ (by decide)]
      exact State.rd_wr_same _ _ _ _
    · simp [State.shapeIx]
  case read =>
    rw [exec_shapeDataAccess_read ho, State.readShapeData, State.shapeAdvance_off hoff]
    rfl

end Sys2Proof.Machine

namespace Sys2Proof.Machine

/-! # CHn_FRST_N (R76 to R78, R97, R111) -/

@[simp] theorem State.count_ch (s : State) (d e k n : Nat) : (s.count d e k).ch n = s.ch n := by
  rw [State.ch, State.count_chans, State.ch]

@[simp] theorem State.report_ch (s : State) (d code source n : Nat) : (s.report d code source).ch n = s.ch n := by
  rw [State.ch, State.report_chans, State.ch]

theorem State.count_generation (s : State) (d e k x : Nat) : ((s.count d e k).die x).generation = (s.die x).generation :=
  (s.count_counted d e k).ticked.generation x

/-- A rise of the assertion disarms shadow status, forgets the SPI-NAND cache row and is counted (R97, R111). -/
def State.frstRises (s : State) (n : Nat) : State :=
  ((s.shadowDisarm n).modCh n fun c => { c with cacheRow := none }).countCh n 0x2B 1

/-- The new assertion, and what the pin shows of the change: nothing in DISABLED (Table 2.1). -/
def State.frstChange (s : State) (n : Nat) (f : Chan → Chan) : State :=
  { s.modCh n f with outputs := s.outputs ++
      if (s.ch n).frst = (f (s.ch n)).frst ∨ s.getF Fld.CH_STATUS_STATE_EFF n = 0 then [] else [.frst n (f (s.ch n)).frst] }

theorem State.frstChange_hidden {s : State} {n : Nat} {f : Chan → Chan}
    (h : (s.ch n).frst = (f (s.ch n)).frst ∨ s.getF Fld.CH_STATUS_STATE_EFF n = 0) : s.frstChange n f = s.modCh n f := by
  rw [State.frstChange, if_pos h, List.append_nil]
  rfl

theorem State.frstChange_shown {s : State} {n : Nat} {f : Chan → Chan}
    (h : ¬ ((s.ch n).frst = (f (s.ch n)).frst ∨ s.getF Fld.CH_STATUS_STATE_EFF n = 0)) :
    s.frstChange n f = (s.modCh n f).emit (.frst n (f (s.ch n)).frst) := by
  rw [State.frstChange, if_neg h]
  rfl

/-- A change of the assertion is that, and a rise where the pin was released before. -/
theorem State.setFrst_cases (s : State) (n : Nat) (f : Chan → Chan) :
    s.setFrst n f = s.frstChange n f ∨
      ((s.ch n).frst = false ∧ s.setFrst n f = (s.frstChange n f).frstRises n) := by
  unfold State.setFrst
  dsimp only
  rw [State.ch_modCh_same, State.modCh_getF]
  by_cases hsame : (s.ch n).frst = (f (s.ch n)).frst
  · rw [if_pos hsame, State.frstChange_hidden (Or.inl hsame)]
    exact Or.inl rfl
  have hchange : (if s.getF Fld.CH_STATUS_STATE_EFF n = 0 then s.modCh n f
      else (s.modCh n f).emit (.frst n (f (s.ch n)).frst)) = s.frstChange n f := by
    split
    next he => rw [State.frstChange_hidden (Or.inr he)]
    next he => rw [State.frstChange_shown (not_or.mpr ⟨hsame, he⟩)]
  rw [if_neg hsame, hchange]
  split
  next hnew => exact Or.inr ⟨Bool.eq_false_iff.mpr fun hold => hsame (hold.trans hnew.symm), rfl⟩
  next => exact Or.inl rfl

theorem State.frstChange_ch (s : State) (n : Nat) (f : Chan → Chan) : (s.frstChange n f).ch n = f (s.ch n) :=
  s.ch_modCh_same n f

theorem State.frstRises_ch {α : Type} (p : Chan → α) (hp : ∀ c, p { c with cacheRow := none } = p c) (s : State) (n : Nat) :
    p ((s.frstRises n).ch n) = p (s.ch n) := by
  rw [State.frstRises, State.countCh, State.count_ch, State.ch_modCh_same]
  exact hp _

theorem State.frstRises_rd (s : State) (n : Nat) (m : RegName) (i : Nat) (hc : m.counts = false) (hm : m ≠ .SS_CTRL) :
    (s.frstRises n).rd m i = s.rd m i := by
  rw [State.frstRises, State.countCh, State.count_rd _ _ _ _ _ _ hc, State.modCh_rd, State.shadowDisarm,
    State.rd_setF _ _ _ _ _ _ hm, State.rd_setFlag _ _ _ _ _ _ hm]

/-- What a change of the assertion makes of the channel, apart from its SPI-NAND cache row. -/
theorem State.setFrst_ch {α : Type} (p : Chan → α) (hp : ∀ c, p { c with cacheRow := none } = p c) (s : State) (n : Nat)
    (f : Chan → Chan) : p ((s.setFrst n f).ch n) = p (f (s.ch n)) := by
  obtain h | ⟨-, h⟩ := s.setFrst_cases n f
  · rw [h, State.frstChange_ch]
  · rw [h, State.frstRises_ch p hp, State.frstChange_ch]

/-- The pin shows the change, where there is one and the channel is not DISABLED. -/
theorem State.setFrst_outputs (s : State) (n : Nat) (f : Chan → Chan) (he : s.getF Fld.CH_STATUS_STATE_EFF n ≠ 0) :
    (s.setFrst n f).outputs =
      s.outputs ++ if (s.ch n).frst = (f (s.ch n)).frst then [] else [.frst n (f (s.ch n)).frst] := by
  have hout : (s.setFrst n f).outputs = (s.frstChange n f).outputs := by
    obtain h | ⟨-, h⟩ := s.setFrst_cases n f
    · rw [h]
    · rw [h, State.frstRises, State.countCh, State.count_outputs]
      rfl
  simp only [hout, State.frstChange, he, or_false]

/-- A change that can only release the pin shows a release or nothing. -/
theorem State.setFrst_outputs_of_release (s : State) (n : Nat) (f : Chan → Chan)
    (h : s.getF Fld.CH_STATUS_STATE_EFF n ≠ 0) (hf : (f (s.ch n)).frst = true → (s.ch n).frst = true) :
    (s.setFrst n f).outputs =
      s.outputs ++ if (s.ch n).frst = (f (s.ch n)).frst then [] else [.frst n false] := by
  rw [State.setFrst_outputs _ _ _ h]
  cases hnew : (f (s.ch n)).frst with
  | false => rfl
  | true => rw [hf hnew, if_pos rfl, if_pos rfl]

/-- Of the registers, it concerns shadow status, and the count of assertions. -/
theorem State.setFrst_rd (s : State) (n : Nat) (f : Chan → Chan) (m : RegName) (i : Nat) (hc : m.counts = false)
    (hm : m ≠ .SS_CTRL) : (s.setFrst n f).rd m i = s.rd m i := by
  obtain h | ⟨-, h⟩ := s.setFrst_cases n f
  · rw [h]
    rfl
  · rw [h, State.frstRises_rd _ _ _ _ hc hm]
    rfl

/-- An assertion that stood before has no rise, and changes no register. -/
theorem State.setFrst_regs_of_asserted (s : State) (n : Nat) (f : Chan → Chan) (hs : (s.ch n).frst = true) :
    (s.setFrst n f).regs = s.regs := by
  obtain h | ⟨hlow, -⟩ := s.setFrst_cases n f
  · rw [h]
    rfl
  · rw [hs] at hlow
    cases hlow

theorem State.setFrst_sram (s : State) (n : Nat) (f : Chan → Chan) : (s.setFrst n f).sram = s.sram := by
  obtain h | ⟨-, h⟩ := s.setFrst_cases n f
  · rw [h]
    rfl
  · rw [h, State.frstRises, State.countCh, State.count_sram]
    rfl

/-- It resets no die. -/
theorem State.setFrst_generation (s : State) (n : Nat) (f : Chan → Chan) (d : Nat) :
    ((s.setFrst n f).die d).generation = (s.die d).generation := by
  obtain h | ⟨-, h⟩ := s.setFrst_cases n f
  · rw [h]
    rfl
  · rw [h, State.frstRises, State.countCh, State.count_generation]
    rfl

/-! # Host resets (R76, R77) -/

/-- The fall of CHn_HRST_N is noted. -/
def State.hrstTaken (s : State) (n : Nat) : State :=
  (s.modCh n fun c => { c with hrst := true }).setFlag Fld.CH_RESET_HRST_LEVEL n false

theorem State.hrstTaken_ch (s : State) (n : Nat) : (s.hrstTaken n).ch n = { s.ch n with hrst := true } :=
  s.ch_modCh_same n fun c => { c with hrst := true }

theorem State.hrstTaken_rd (s : State) (n : Nat) (m : RegName) (i : Nat) (h : m ≠ .CH_RESET) :
    (s.hrstTaken n).rd m i = s.rd m i := by
  rw [State.hrstTaken, State.rd_setFlag _ _ _ _ _ _ h, State.modCh_rd]

theorem State.hrstTaken_level (s : State) (n : Nat) : (s.hrstTaken n).flag Fld.CH_RESET_HRST_LEVEL n = false :=
  State.flag_setFlag_same _ _ _ _ (by decide) (by decide)

/-- Whether the fall only shows is decided as the channel stood before it. -/
theorem State.hrstTaken_guard (s : State) (n : Nat) :
    (!(s.hrstTaken n).flag Fld.CH_RESET_PASS n || decide ((s.hrstTaken n).getF Fld.CH_STATUS_STATE_EFF n ≠ 2)) =
      (!s.flag Fld.CH_RESET_PASS n || decide (s.getF Fld.CH_STATUS_STATE_EFF n ≠ 2)) := by
  rw [State.hrstTaken, State.flag_setFlag_apart _ _ _ _ _ _ (by decide) (by decide),
    State.getF_setFlag_apart _ _ _ _ _ _ (by decide) (by decide), State.modCh_flag, State.modCh_getF]

/-- A fall only shows where PASS = 0 and where the channel is not ACTIVE (R76). -/
theorem exec_hrstAssert_shown {ch : ChanId} {s : State} (hl : s.chLive ch.val = true) (hh : (s.ch ch.val).hrst = false)
    (he : s.getF Fld.CH_STATUS_STATE_EFF ch.val ≠ 0)
    (h : s.flag Fld.CH_RESET_PASS ch.val = false ∨ s.getF Fld.CH_STATUS_STATE_EFF ch.val ≠ 2) :
    exec (.hrstAssert ch) s = .next (s.hrstTaken ch.val) :=
  congrArg Host.Outcome.next ((State.when_of _ _ _ (by simp [hl, hh, he])).trans
    (if_pos ((s.hrstTaken_guard ch.val).trans (by simpa using h))))

/-- From `s` to `t` channel n has returned to its boot protocol, with continuous read disarmed (R77). -/
structure BootProtocol (n : Nat) (s t : State) : Prop where
  cur : t.getF Fld.CH_PROTO_CUR n = s.getF Fld.CH_PROTO_BOOT n
  addr4 : t.getF Fld.CH_PROTO_ADDR4 n = s.getF Fld.CH_PROTO_BOOT_ADDR4 n
  disarmed : t.flag Fld.CH_PROTO_CRM_ARMED n = false

/-- It is a matter of CH_PROTO alone. -/
theorem BootProtocol.congr {n : Nat} {r s t u : State} (h : BootProtocol n s t) (hs : r.rd .CH_PROTO n = s.rd .CH_PROTO n)
    (ht : u.rd .CH_PROTO n = t.rd .CH_PROTO n) : BootProtocol n r u where
  cur := by simpa only [State.getF, hs, ht] using h.cur
  addr4 := by simpa only [State.getF, hs, ht] using h.addr4
  disarmed := (State.flag_congr ht).trans h.disarmed

section NoFrame

variable {s : State} {n : Nat} (h : (s.ch n).frame = none)
include h

theorem State.endFrame_of_no_frame : s.endFrame n = s := by
  rw [State.endFrame, h]

theorem State.dropArm_ch_of_no_frame : (s.dropArm n).ch n = s.ch n := by
  rw [State.dropArm, State.ch_modCh_same, h, Option.map_none, ← h]

/-- With no frame open a host reset writes CH_PROTO and nothing else (R77). -/
theorem State.hostReset_of_no_frame : s.hostReset n =
    (((s.dropArm n).setF Fld.CH_PROTO_CUR n (s.getF Fld.CH_PROTO_BOOT n)).setF Fld.CH_PROTO_ADDR4 n
      (s.getF Fld.CH_PROTO_BOOT_ADDR4 n)).setFlag Fld.CH_PROTO_CRM_ARMED n false := by
  unfold State.hostReset
  rw [State.endFrame_of_no_frame h]
  rfl

theorem State.hostReset_ch : (s.hostReset n).ch n = s.ch n := by
  rw [State.hostReset_of_no_frame h, State.setFlag_ch, State.setF_ch, State.setF_ch, State.dropArm_ch_of_no_frame h]

theorem State.hostReset_outputs : (s.hostReset n).outputs = s.outputs := by
  rw [State.hostReset_of_no_frame h]
  rfl

theorem State.hostReset_rd (m : RegName) (i : Nat) (hm : m ≠ .CH_PROTO) : (s.hostReset n).rd m i = s.rd m i := by
  rw [State.hostReset_of_no_frame h, State.rd_setFlag _ _ _ _ _ _ hm, State.rd_setF _ _ _ _ _ _ hm,
    State.rd_setF _ _ _ _ _ _ hm]
  rfl

theorem State.hostReset_boots : BootProtocol n s (s.hostReset n) := by
  rw [State.hostReset_of_no_frame h]
  refine ⟨?_, ?_, State.flag_setFlag_same _ _ _ _ (by decide) (by decide)⟩
  · rw [State.getF_setFlag_apart _ _ _ _ _ _ (by decide) (by decide),
      State.getF_setF_apart _ _ _ _ _ _ (by decide) (by decide), State.getF_setF_same _ _ _ _ (by decide)]
    exact s.getF_mod Fld.CH_PROTO_BOOT n
  · rw [State.getF_setFlag_apart _ _ _ _ _ _ (by decide) (by decide), State.getF_setF_same _ _ _ _ (by decide)]
    exact s.getF_mod Fld.CH_PROTO_BOOT_ADDR4 n

end NoFrame

/-- The busy shield defers the assertion of CHn_FRST_N under a report (R77, step 3). -/
def State.deferFrst (s : State) (n : Nat) : State := (s.setFlag Fld.CH_RESET_DEFERRED n true).chFault n 0x1009

theorem State.deferFrst_ch (s : State) (n : Nat) : (s.deferFrst n).ch n = s.ch n := State.report_ch _ _ _ _ _

theorem State.deferFrst_outputs (s : State) (n : Nat) : (s.deferFrst n).outputs = s.outputs := State.report_outputs _ _ _ _

theorem State.deferFrst_rd (s : State) (n : Nat) (m : RegName) (i : Nat) (hc : m.counts = false) (hf : m ∉ faultRegs)
    (hm : m ≠ .CH_RESET) : (s.deferFrst n).rd m i = s.rd m i := by
  rw [State.deferFrst, State.chFault, State.report_rd_plain _ _ _ _ _ _ hc hf, State.rd_setFlag _ _ _ _ _ _ hm]

theorem State.deferFrst_chReset (s : State) (n : Nat) :
    (s.deferFrst n).rd .CH_RESET n = (s.setFlag Fld.CH_RESET_DEFERRED n true).rd .CH_RESET n :=
  State.report_rd_plain _ _ _ _ _ _ rfl (by decide)

theorem State.deferFrst_deferred (s : State) (n : Nat) : (s.deferFrst n).flag Fld.CH_RESET_DEFERRED n = true :=
  (State.flag_congr (s.deferFrst_chReset n)).trans (State.flag_setFlag_same _ _ _ _ (by decide) (by decide))

/-- The register bit of a channel fault lies in the register of its channel (Table 6.7). -/
theorem faultBit_channel (n k : Nat) (h : k < 0x1000) :
    faultBit (n / 8) (0x1000 + k) (n % 8) = some (.CH_FAULT, n, k - 1) := by
  have hdiv : (0x1000 + k) / 0x1000 = 1 := by omega
  have hmod : (0x1000 + k) % 0x1000 = k := by omega
  have hch : 8 * (n / 8) + n % 8 % 8 = n := by omega
  simp only [faultBit, hdiv, hmod, hch]

theorem State.deferFrst_fault (s : State) (n : Nat) : bitOf ((s.deferFrst n).rd .CH_FAULT n).toNat 8 = true := by
  rw [State.deferFrst, State.chFault, State.report_bit _ _ _ _ .CH_FAULT n 8 rfl (faultBit_channel n 9 (by decide)),
    BitVec.or_comm]
  exact bitOf_or_of_left (by decide)

/-- The fall of CHn_HRST_N is noted and passed on, up to the assertion of CHn_FRST_N (R77, steps 1 and 2). -/
def State.hrstPassed (s : State) (n : Nat) : State := (s.hrstTaken n).hostReset n

/-- From `s` to `t` channel n has taken a fall of CHn_HRST_N and returned to its boot protocol (R76, R77). -/
structure HrstFallen (n : Nat) (s t : State) : Prop where
  hrst : (t.ch n).hrst = true
  level : t.flag Fld.CH_RESET_HRST_LEVEL n = false
  boot : BootProtocol n s t

/-- A further effect that keeps the sampled pin, its level bit and CH_PROTO. -/
theorem HrstFallen.keeps {n : Nat} {s t u : State} (h : HrstFallen n s t) (hh : (u.ch n).hrst = (t.ch n).hrst)
    (hl : u.flag Fld.CH_RESET_HRST_LEVEL n = t.flag Fld.CH_RESET_HRST_LEVEL n) (hp : u.rd .CH_PROTO n = t.rd .CH_PROTO n) :
    HrstFallen n s u :=
  ⟨hh.trans h.hrst, hl.trans h.level, h.boot.congr rfl hp⟩

theorem HrstFallen.deferFrst {n : Nat} {s t : State} (h : HrstFallen n s t) : HrstFallen n s (t.deferFrst n) := by
  refine h.keeps (congrArg Chan.hrst (t.deferFrst_ch n)) ?_ (t.deferFrst_rd _ _ _ rfl (by decide) (by decide))
  exact (State.flag_congr (t.deferFrst_chReset n)).trans (State.flag_setFlag_apart _ _ _ _ _ _ (by decide) (by decide))

theorem HrstFallen.setFrst {n : Nat} {s t : State} (h : HrstFallen n s t) {f : Chan → Chan}
    (hf : ∀ c, (f c).hrst = c.hrst) : HrstFallen n s (t.setFrst n f) :=
  h.keeps ((State.setFrst_ch Chan.hrst (fun _ => rfl) t n f).trans (hf _))
    (State.flag_congr (t.setFrst_rd n f _ _ rfl (by decide))) (t.setFrst_rd n f _ _ rfl (by decide))

section NoFrame

variable {s : State} {n : Nat} (h : (s.ch n).frame = none)
include h

theorem State.hrstTaken_no_frame : ((s.hrstTaken n).ch n).frame = none := by
  rw [State.hrstTaken_ch, h]

theorem State.hrstPassed_ch : (s.hrstPassed n).ch n = { s.ch n with hrst := true } :=
  (State.hostReset_ch (State.hrstTaken_no_frame h)).trans (s.hrstTaken_ch n)

theorem State.hrstPassed_outputs : (s.hrstPassed n).outputs = s.outputs :=
  State.hostReset_outputs (State.hrstTaken_no_frame h)

theorem State.hrstPassed_status : (s.hrstPassed n).rd .CH_STATUS n = s.rd .CH_STATUS n :=
  (State.hostReset_rd (State.hrstTaken_no_frame h) _ _ (by decide)).trans (s.hrstTaken_rd _ _ _ (by decide))

theorem State.hrstPassed_fallen : HrstFallen n s (s.hrstPassed n) where
  hrst := by rw [State.hrstPassed_ch h]
  level := (State.flag_congr (State.hostReset_rd (State.hrstTaken_no_frame h) _ _ (by decide))).trans (s.hrstTaken_level n)
  boot := (State.hostReset_boots (State.hrstTaken_no_frame h)).congr (s.hrstTaken_rd _ _ _ (by decide)).symm rfl

end NoFrame

/-- CHn_FRST_N follows the host's reset input (R77, step 3). -/
def Chan.hrstFollowed (c : Chan) : Chan := { c with frstPass := true }

theorem Chan.frst_hrstFollowed (c : Chan) : c.hrstFollowed.frst = true := rfl

/-- On an ACTIVE channel with PASS = 1 a fall is passed on, and the busy shield defers CHn_FRST_N alone (R76, R77). -/
theorem exec_hrstAssert_passed {ch : ChanId} {s : State} (hl : s.chLive ch.val = true) (hh : (s.ch ch.val).hrst = false)
    (he : s.getF Fld.CH_STATUS_STATE_EFF ch.val = 2) (hp : s.flag Fld.CH_RESET_PASS ch.val = true) :
    exec (.hrstAssert ch) s = .next (
      if (s.hrstPassed ch.val).flag Fld.CH_STATUS_BUSY_SHIELD ch.val then (s.hrstPassed ch.val).deferFrst ch.val
      else (s.hrstPassed ch.val).setFrst ch.val Chan.hrstFollowed) :=
  congrArg Host.Outcome.next ((State.when_of _ _ _ (by simp [hl, hh, he])).trans
    (if_neg (Bool.eq_false_iff.mp ((s.hrstTaken_guard ch.val).trans (by simp [hp, he])))))

theorem exec_hrstAssert_deferred {ch : ChanId} {s : State} (hl : s.chLive ch.val = true) (hh : (s.ch ch.val).hrst = false)
    (he : s.getF Fld.CH_STATUS_STATE_EFF ch.val = 2) (hp : s.flag Fld.CH_RESET_PASS ch.val = true)
    (hf : (s.ch ch.val).frame = none) (hb : s.flag Fld.CH_STATUS_BUSY_SHIELD ch.val = true) :
    exec (.hrstAssert ch) s = .next ((s.hrstPassed ch.val).deferFrst ch.val) := by
  rw [exec_hrstAssert_passed hl hh he hp, if_pos ((State.flag_congr (State.hrstPassed_status hf)).trans hb)]

theorem exec_hrstAssert_followed {ch : ChanId} {s : State} (hl : s.chLive ch.val = true) (hh : (s.ch ch.val).hrst = false)
    (he : s.getF Fld.CH_STATUS_STATE_EFF ch.val = 2) (hp : s.flag Fld.CH_RESET_PASS ch.val = true)
    (hf : (s.ch ch.val).frame = none) (hb : s.flag Fld.CH_STATUS_BUSY_SHIELD ch.val = false) :
    exec (.hrstAssert ch) s = .next ((s.hrstPassed ch.val).setFrst ch.val Chan.hrstFollowed) := by
  rw [exec_hrstAssert_passed hl hh he hp,
    if_neg (Bool.eq_false_iff.mp ((State.flag_congr (State.hrstPassed_status hf)).trans hb))]

/-- The host's reset input has risen: the part no longer passes it on. -/
def Chan.hrstReleased (c : Chan) : Chan := { c with hrst := false, frstPass := false }

theorem Chan.frst_hrstReleased (c : Chan) : c.hrstReleased.frst = (c.frstDefer || c.frstAssert) := rfl

theorem Chan.frst_of_hrstReleased {c : Chan} (h : c.hrstReleased.frst = true) : c.frst = true := by
  rw [Chan.frst_hrstReleased] at h
  rw [Chan.frst, Bool.or_assoc, h, Bool.or_true]

theorem exec_hrstRelease_taken {ch : ChanId} {s : State} (hl : s.chLive ch.val = true) (hh : (s.ch ch.val).hrst = true)
    (he : s.getF Fld.CH_STATUS_STATE_EFF ch.val ≠ 0) :
    exec (.hrstRelease ch) s =
      .next ((s.setFlag Fld.CH_RESET_HRST_LEVEL ch.val true).setFrst ch.val Chan.hrstReleased) :=
  congrArg Host.Outcome.next (State.when_of _ _ _ (by simp [hl, hh, he]))

theorem exec_deferredResetAssert_taken {ch : ChanId} {s : State} (hl : s.chLive ch.val = true)
    (hd : s.flag Fld.CH_RESET_DEFERRED ch.val = true) (hb : s.flag Fld.CH_STATUS_BUSY_SHIELD ch.val = false) :
    exec (.deferredResetAssert ch) s = .next (s.deferredReset ch.val) :=
  congrArg Host.Outcome.next (State.when_of _ _ _ (by simp [hl, hd, hb]))

theorem exec_deferredResetEnd_taken {ch : ChanId} {s : State} (hl : s.chLive ch.val = true)
    (hd : (s.ch ch.val).frstDefer = true)
    (hu : max 1 (s.getF Fld.CH_RESET_MIN_US ch.val) ≤ s.usSince (s.ch ch.val).frstUs) :
    exec (.deferredResetEnd ch) s = .next (s.setFrst ch.val fun c => { c with frstDefer := false }) :=
  congrArg Host.Outcome.next (State.when_of _ _ _ (by simp only [hl, hd, decide_eq_true hu, Bool.and_self]))

theorem State.deferredReset_sameSram (s : State) (n : Nat) : s.SameSram (s.deferredReset n) :=
  State.sameSram_of (State.setFrst_sram _ _ _) (State.setFrst_generation _ _ _)
    ((State.setFrst_rd _ _ _ _ _ rfl (by decide)).trans (State.rd_setFlag _ _ _ _ _ _ (by decide)))

/-! # CH_RESET.ASSERT (R78, R81) -/

theorem State.flag_eq_bit {f : Field} (hw : f.width = 1) (s : State) (i : Nat) : s.flag f i = bitOf (s.rd f.reg i).toNat f.lo := by
  unfold State.flag State.getF Field.of bitsOf bitOf
  rw [hw, Nat.testBit_eq_decide_div_mod_eq]
  exact decide_eq_decide.mpr (by omega)

/-- A masked write leaves a flag outside its mask. -/
theorem State.flag_swWriteMasked {f : Field} (hw : f.width = 1) (hf : f.fits) (s : State) (i m : Nat) (v : Word)
    (hm : m.testBit f.lo = false) : (s.swWriteMasked f.reg i v m).flag f i = s.flag f i := by
  have hlo : f.lo < 32 := by unfold Field.fits at hf; omega
  have hbit : (BitVec.ofNat 32 m)[f.lo] = false := by
    rw [BitVec.getElem_eq_testBit_toNat, BitVec.toNat_ofNat, Nat.testBit_mod_two_pow, hm, Bool.and_false]
  rw [State.flag_eq_bit hw, State.flag_eq_bit hw, State.swWriteMasked, State.rd_wr_same]
  change BitVec.getLsbD _ _ = BitVec.getLsbD _ _
  simp [hlo, hbit]

theorem State.assertApply_waits {s : State} {n : Nat} (h : s.idleCh n = false) : s.assertApply n = s :=
  if_neg (by simp [h])

theorem State.assertApply_applies {s : State} {n : Nat} (hp : (s.ch n).assertPend = true) (hl : s.live (n / 8) = true)
    (hi : s.idleCh n = true) : s.assertApply n =
      (s.setFrst n fun c => { c with assertPend := false, frstAssert := true }).setFlag Fld.CH_RESET_ASSERT n true :=
  if_pos ⟨hp, hl, hi⟩

/-- A write of CH_RESET asks for ASSERT: its other fields are stored, and the assertion waits for a boundary. -/
def State.assertAsked (s : State) (n : Nat) (v : Word) : State :=
  (s.swWriteMasked .CH_RESET n v 0xFF1).modCh n fun c => { c with assertPend := true }

theorem State.assertAsked_ch (s : State) (n : Nat) (v : Word) :
    (s.assertAsked n v).ch n = { s.ch n with assertPend := true } :=
  (s.swWriteMasked .CH_RESET n v 0xFF1).ch_modCh_same n fun c => { c with assertPend := true }

theorem State.assertAsked_idleCh (s : State) (n : Nat) (v : Word) : (s.assertAsked n v).idleCh n = s.idleCh n :=
  State.idleCh_congr (State.rd_wr_name _ _ _ _ _ _ (by decide))

theorem State.assertAsked_assert (s : State) (n : Nat) (v : Word) :
    (s.assertAsked n v).flag Fld.CH_RESET_ASSERT n = s.flag Fld.CH_RESET_ASSERT n :=
  State.flag_swWriteMasked (f := Fld.CH_RESET_ASSERT) rfl (by decide) s n 0xFF1 v (by decide)

theorem State.writeChReset_asks {s : State} {n : Nat} {v : Word} (hv : bitOf v.toNat 1 = true)
    (ha : s.flag Fld.CH_RESET_ASSERT n = false) : s.writeChReset n v = (s.assertAsked n v).assertApply n :=
  (if_pos hv).trans (if_neg (Bool.eq_false_iff.mp ((s.assertAsked_assert n v).trans ha)))

theorem State.writeChReset_ends {s : State} {n : Nat} {v : Word} (hv : bitOf v.toNat 1 = false) : s.writeChReset n v =
    ((s.swWriteMasked .CH_RESET n v 0xFF1).setFlag Fld.CH_RESET_ASSERT n false).setFrst n fun c =>
      { c with assertPend := false, frstAssert := false } :=
  if_neg (by rw [hv]; decide)

theorem exec_chResetAssert_open {req : Requester} {ch : ChanId} {s : State} (v : Word) (h : s.DieOpen req (ch.val / 8)) :
    exec (.chResetAssert req ch v) s = .next (s.writeChReset ch.val v) :=
  congrArg Host.Outcome.next (State.dieAccess_open _ h)

/-! # Twin flashes (R80, R122, R142) -/

theorem exec_swap_open {req : Requester} {ch : ChanId} {s : State} (v : Word) (h : s.DieOpen req (ch.val / 8)) :
    exec (.swap req ch v) s = .next (s.writeChTwin ch.val v) :=
  congrArg Host.Outcome.next (State.dieAccess_open _ h)

/-- A swap that is asked for with PRESENT as it stands waits where there is a twin, and is a fault where there is none. -/
theorem State.writeChTwin_swap {s : State} {n : Nat} {v : Word} (hs : bitOf v.toNat 2 = true)
    (hp : bitOf v.toNat 0 = s.flag Fld.CH_TWIN_PRESENT n) :
    s.writeChTwin n v = if s.flag Fld.CH_TWIN_PRESENT n then s.setFlag Fld.CH_TWIN_PENDING n true
      else s.report (n / 8) 0x1005 (n % 8) := by
  unfold State.writeChTwin State.chFault
  dsimp only
  rw [if_pos hp, hs]
  cases s.flag Fld.CH_TWIN_PRESENT n <;> rfl

theorem State.swapApply_waits {s : State} {n : Nat} (h : s.idleCh n = false) : s.swapApply n = s :=
  if_pos (Or.inr (by rw [h]; rfl))

/-- Settles O6: what a change of CHn_FRST_N does is said once, and each command is that change with the registers it writes
before or after it. -/
theorem channelResetAndSwap : Obligations.ChannelResetAndSwap := by
  refine ⟨fun ch s hl hh he h => exec_hrstAssert_shown hl hh he (h.imp_right (by omega)),
    fun ch s hl hh he hp hf => ?fall,
    fun ch s hl hh he => ⟨_, exec_hrstRelease_taken hl hh he, ?rise⟩,
    fun ch s hl hd hb => ⟨_, exec_deferredResetAssert_taken hl hd hb, ?deferred⟩,
    fun ch s hl hd hu => ⟨_, exec_deferredResetEnd_taken hl hd hu, ?ended⟩,
    fun req ch v s ho hv ha hi => ⟨_, exec_chResetAssert_open v ho, ?asserted⟩,
    fun req ch v s ho hv ha hi => ⟨_, exec_chResetAssert_open v ho, ?waits⟩,
    fun req ch v s ho hv => ⟨_, exec_chResetAssert_open v ho, ?released⟩,
    fun req ch v s ho hs hp hv => ?pends, fun req ch v s ho hs hp hv => ?refused,
    fun ch s hl hp hi => congrArg Host.Outcome.next ((State.when_of _ _ _ hl).trans (if_neg (by simp [hp, hi]))),
    fun ch s hp hi => congrArg Host.Outcome.next (State.when_same _ (State.swapApply_waits hi))⟩
  case fall =>
    have hfallen := State.hrstPassed_fallen hf
    have hch := State.hrstPassed_ch hf
    cases hb : s.flag Fld.CH_STATUS_BUSY_SHIELD ch.val with
    | true =>
      obtain ⟨hhrst, hlevel, hcur, haddr4, hdisarmed⟩ := hfallen.deferFrst
      refine ⟨_, exec_hrstAssert_deferred hl hh he hp hf hb, hhrst, hlevel, hcur, haddr4, hdisarmed,
        fun _ => ⟨State.deferFrst_deferred _ _, ?_, State.deferFrst_fault _ _,
          (State.deferFrst_outputs _ _).trans (State.hrstPassed_outputs hf)⟩, fun h => by cases h⟩
      rw [State.deferFrst_ch, hch]
      rfl
    | false =>
      obtain ⟨hhrst, hlevel, hcur, haddr4, hdisarmed⟩ := hfallen.setFrst (f := Chan.hrstFollowed) fun _ => rfl
      have heff : (s.hrstPassed ch.val).getF Fld.CH_STATUS_STATE_EFF ch.val ≠ 0 := by
        rw [State.getF, State.hrstPassed_status hf]
        exact he.trans_ne (by decide)
      refine ⟨_, exec_hrstAssert_followed hl hh he hp hf hb, hhrst, hlevel, hcur, haddr4, hdisarmed, fun h => (by cases h),
        fun _ => ⟨State.setFrst_ch Chan.frst (fun _ => rfl) _ _ _, ?_⟩⟩
      rw [State.setFrst_outputs _ _ _ heff, State.hrstPassed_outputs hf, hch, Chan.frst_hrstFollowed]
      rfl
  case rise =>
    have hfrst := State.setFrst_ch Chan.frst (fun _ => rfl) (s.setFlag Fld.CH_RESET_HRST_LEVEL ch.val true) ch.val
      Chan.hrstReleased
    refine ⟨State.setFrst_ch Chan.hrst (fun _ => rfl) _ _ _, State.setFrst_ch Chan.frstPass (fun _ => rfl) _ _ _,
      ?_, hfrst, ?_⟩
    · exact (State.flag_congr (State.setFrst_rd _ _ _ _ _ rfl (by decide))).trans
        (State.flag_setFlag_same _ _ _ _ (by decide) (by decide))
    · rw [hfrst, State.setFrst_outputs_of_release _ _ _ _ Chan.frst_of_hrstReleased]
      · rfl
      · rwa [State.getF_setFlag_apart _ _ _ _ _ _ (by decide) (by decide)]
  case deferred =>
    refine ⟨State.setFrst_ch Chan.frstDefer (fun _ => rfl) _ _ _, State.setFrst_ch Chan.frstPass (fun _ => rfl) _ _ _, ?_, ?_,
      s.deferredReset_sameSram ch.val⟩
    · exact (State.flag_congr (State.setFrst_rd _ _ _ _ _ rfl (by decide))).trans
        (State.flag_setFlag_same _ _ _ _ (by decide) (by decide))
    · exact (State.setFrst_rd _ _ _ _ _ rfl (by decide)).trans (State.rd_setFlag _ _ _ _ _ _ (by decide))
  case ended =>
    refine ⟨State.setFrst_ch Chan.frstDefer (fun _ => rfl) _ _ _, ?_,
      State.setFrst_regs_of_asserted _ _ _ (by simp [Chan.frst, hd])⟩
    rw [State.setFrst_ch Chan.frst fun _ => rfl]
    simp [Chan.frst]
  case asserted =>
    have happlies := State.assertApply_applies (s := s.assertAsked ch.val v) (by rw [State.assertAsked_ch])
      (State.live_of_dieOpen ho) ((s.assertAsked_idleCh ch.val v).trans hi)
    rw [State.writeChReset_asks hv ha, happlies]
    exact ⟨State.flag_setFlag_same _ _ _ _ (by decide) (by decide), State.setFrst_ch Chan.frstAssert (fun _ => rfl) _ _ _,
      State.setFrst_ch Chan.assertPend (fun _ => rfl) _ _ _⟩
  case waits =>
    rw [State.writeChReset_asks hv ha, State.assertApply_waits ((s.assertAsked_idleCh ch.val v).trans hi)]
    exact ⟨(s.assertAsked_assert ch.val v).trans ha, by rw [State.assertAsked_ch], rfl⟩
  case released =>
    rw [State.writeChReset_ends hv]
    exact ⟨(State.flag_congr (State.setFrst_rd _ _ _ _ _ rfl (by decide))).trans
      (State.flag_setFlag_same _ _ _ _ (by decide) (by decide)), State.setFrst_ch Chan.assertPend (fun _ => rfl) _ _ _,
      State.setFrst_ch Chan.frstAssert (fun _ => rfl) _ _ _⟩
  case pends =>
    rw [exec_swap_open v ho, State.writeChTwin_swap hs (hv.trans hp.symm), if_pos hp]
  case refused =>
    rw [exec_swap_open v ho, State.writeChTwin_swap hs (hv.trans hp.symm), hp]
    rfl

end Sys2Proof.Machine

namespace Sys2Proof.Machine

/-! # Loops -/

/-- What the pass for `x` establishes and every other pass keeps holds after a loop with a pass for `x`. -/
theorem foldl_establishes {α β : Type} {inv goal : β → Prop} {f : β → α → β} {x : α}
    (hinv : ∀ b a, inv b → inv (f b a)) (hdone : ∀ b, inv b → goal (f b x)) (hkeep : ∀ b a, inv b → goal b → goal (f b a))
    {l : List α} {b : β} (hx : x ∈ l) (hb : inv b) : goal (l.foldl f b) := by
  induction l generalizing b with
  | nil => cases hx
  | cons a l ih =>
    obtain rfl | hx := List.mem_cons.mp hx
    · have hboth : inv (l.foldl f (f b x)) ∧ goal (l.foldl f (f b x)) :=
        List.foldlRecOn (motive := fun c => inv c ∧ goal c) l f ⟨hinv b x hb, hdone b hb⟩
          fun c hc a _ => ⟨hinv c a hc.1, hkeep c a hc.1 hc.2⟩
      exact hboth.2
    · exact ih hx (hinv b a hb)

/-! # The register file, entry by entry -/

theorem RegFile.find_filter (p : Reg → Bool) (f : RegFile) (r : Reg) :
    RegFile.find (f.filter fun e => p e.1) r = if p r then RegFile.find f r else none := by
  induction f with
  | nil => simp [RegFile.find]
  | cons e t ih =>
    obtain ⟨q, w⟩ := e
    by_cases hq : q = r
    · subst hq
      cases hp : p q <;> simp [List.filter, RegFile.find, hp, ih]
    · cases hp : p q <;> simp [List.filter, RegFile.find, hp, hq, ih]

theorem RegFile.find_eq_none {f : RegFile} {r : Reg} (h : r ∉ f.map Prod.fst) : RegFile.find f r = none := by
  induction f with
  | nil => rfl
  | cons e t ih =>
    obtain ⟨hne, ht⟩ := not_or.mp (List.mem_cons.not.mp h)
    rw [RegFile.find, if_neg (Ne.symm hne), ih ht]

/-- No register is listed twice. -/
def RegFile.Distinct (f : RegFile) : Prop := (f.map Prod.fst).Nodup

theorem Reg.lt_trans {a b c : Reg} (h1 : Reg.lt a b = true) (h2 : Reg.lt b c = true) : Reg.lt a c = true := by
  simp only [Reg.lt, Bool.or_eq_true, Bool.and_eq_true, decide_eq_true_eq] at *
  obtain h1 | ⟨e1, h1⟩ := h1 <;> obtain h2 | ⟨e2, h2⟩ := h2
  · exact Or.inl (h1.trans h2)
  · exact Or.inl (e2 ▸ h1)
  · exact Or.inl (e1 ▸ h2)
  · exact Or.inr ⟨e1.trans e2, h1.trans h2⟩

theorem Reg.ne_of_lt {a b : Reg} (h : Reg.lt a b = true) : a ≠ b := by
  rintro rfl
  simp [Reg.lt] at h

/-- A register file in canonical form lists its registers in rising order, so none twice. -/
theorem RegFile.distinct_of_wf {v : Variant} {f : RegFile} (h : RegFile.wf v f = true) : f.Distinct := by
  have hchain : (f.map Prod.fst).IsChain fun a b => Reg.lt a b = true := by
    induction f with
    | nil => exact .nil
    | cons e t ih =>
      cases t with
      | nil => exact .singleton _
      | cons e' t =>
        simp only [RegFile.wf, Bool.and_eq_true] at h
        exact .cons_cons h.1.2 (ih h.2)
  have htrans : Trans (fun a b => Reg.lt a b = true) (fun a b => Reg.lt a b = true) fun a b => Reg.lt a b = true :=
    ⟨Reg.lt_trans⟩
  exact (List.isChain_iff_pairwise.mp hchain).imp Reg.ne_of_lt

theorem RegFile.Distinct.filter {f : RegFile} (h : f.Distinct) (p : Reg × Word → Bool) :
    RegFile.Distinct (f.filter p) := List.Nodup.sublist (List.filter_sublist.map _) h

theorem RegFile.insert_perm (f : RegFile) (r : Reg) (v : Word) : (RegFile.insert f r v).Perm ((r, v) :: f) := by
  induction f with
  | nil => exact .refl _
  | cons e t ih =>
    rw [RegFile.insert]
    split
    · exact .refl _
    · exact (ih.cons e).trans (.swap _ _ _)

/-- Writing a register keeps the list without a repetition: the register's old entry is dropped first. -/
theorem RegFile.Distinct.put {f : RegFile} (h : f.Distinct) (v : Variant) (r : Reg) (w : Word) :
    (RegFile.put f v r w).Distinct := by
  have hdrop : RegFile.Distinct (RegFile.drop f fun x => decide (x = r)) := h.filter _
  unfold RegFile.put
  dsimp only
  split
  · exact hdrop
  · refine ((RegFile.insert_perm _ r w).map Prod.fst).nodup_iff.mpr (List.nodup_cons.mpr ⟨fun hr => ?_, hdrop⟩)
    obtain ⟨e, he, rfl⟩ := List.mem_map.mp hr
    simpa using (List.mem_filter.mp he).2

theorem State.wr_distinct {s : State} (h : s.regs.Distinct) (n : RegName) (i : Nat) (v : Word) :
    (s.wr n i v).regs.Distinct := h.put _ _ _

theorem State.setF_distinct {s : State} (h : s.regs.Distinct) (f : Field) (i x : Nat) : (s.setF f i x).regs.Distinct :=
  State.wr_distinct h _ _ _

theorem State.setFlag_distinct {s : State} (h : s.regs.Distinct) (f : Field) (i : Nat) (b : Bool) :
    (s.setFlag f i b).regs.Distinct := State.wr_distinct h _ _ _

theorem State.obSat_distinct {s : State} (h : s.regs.Distinct) (d e : Nat) : (s.obSat d e).regs.Distinct :=
  State.wr_distinct h _ _ _

theorem State.obCounter_distinct {s : State} (h : s.regs.Distinct) (d e n : Nat) : (s.obCounter d e n).regs.Distinct := by
  unfold State.obCounter
  dsimp only
  split
  · split
    · exact h
    · split
      · exact State.obSat_distinct (State.setF_distinct (State.setF_distinct h _ _ _) _ _ _) _ _
      · exact State.setF_distinct (State.setF_distinct h _ _ _) _ _ _
  · split
    · exact State.obSat_distinct (State.setF_distinct h _ _ _) _ _
    · exact State.setF_distinct h _ _ _

theorem State.obWatch_distinct {s : State} (h : s.regs.Distinct) (d e n : Nat) : (s.obWatch d e n).regs.Distinct := by
  refine List.foldlRecOn (motive := fun t : State => t.regs.Distinct) _ _ h fun t ht i _ => ?_
  dsimp only
  split
  · exact ht
  · split <;> exact State.setF_distinct ht _ _ _

theorem State.count_distinct {s : State} (h : s.regs.Distinct) (d e n : Nat) : (s.count d e n).regs.Distinct := by
  unfold State.count
  split
  · exact h
  · exact State.obWatch_distinct (State.obCounter_distinct h _ _ _) _ _ _

/-! # The copy of a die's bank and bindings (R112, R115, R119) -/

/-- The register to which an entry of the source bank or bindings goes. -/
def bankTarget (fromB toB toD : RegName) (r : Reg) : Reg := ⟨if r.name = fromB then toB else toD, r.i⟩

/-- The words of listed registers go to the registers that `g` names. -/
def State.copyEntries (s : State) (g : Reg → Reg) (l : RegFile) : State :=
  l.foldl (fun t e => t.wr (g e.1).name (g e.1).i e.2) s

theorem State.bankCopy_eq (s : State) (d : Nat) (fromB fromD toB toD : RegName) : s.bankCopy d fromB fromD toB toD =
    ({ s with regs := RegFile.drop s.regs fun r => bankOfDie d r toB toD } : State).copyEntries (bankTarget fromB toB toD)
      (s.regs.filter fun e => bankOfDie d e.1 fromB fromD) := rfl

theorem State.copyEntries_rest (s : State) (g : Reg → Reg) (l : RegFile) : ∃ f, s.copyEntries g l = { s with regs := f } :=
  List.foldlRecOn (motive := fun t : State => ∃ f, t = { s with regs := f }) l _ ⟨s.regs, rfl⟩
    fun _ ⟨_, ht⟩ _ _ => ht ▸ ⟨_, rfl⟩

theorem State.copyEntries_distinct {s : State} (h : s.regs.Distinct) (g : Reg → Reg) (l : RegFile) :
    (s.copyEntries g l).regs.Distinct :=
  List.foldlRecOn (motive := fun t : State => t.regs.Distinct) l _ h fun _ ht _ _ => State.wr_distinct ht _ _ _

theorem State.copyEntries_rd_other (s : State) (g : Reg → Reg) {l : RegFile} {n : RegName} {i : Nat}
    (h : ∀ e ∈ l, g e.1 ≠ ⟨n, i⟩) : (s.copyEntries g l).rd n i = s.rd n i := by
  refine List.foldlRecOn (motive := fun t : State => t.rd n i = s.rd n i) l _ rfl fun t ht e he => ?_
  rw [State.rd_wr, if_neg, ht]
  rintro ⟨rfl, rfl⟩
  exact h e he rfl

/-- A register's copy reads the word that the list gives the register, where it gives one. -/
theorem State.copyEntries_rd (s : State) (g : Reg → Reg) {l : RegFile} (hl : l.Distinct) (r : Reg)
    (hg : ∀ e ∈ l, g e.1 = g r → e.1 = r) :
    (s.copyEntries g l).rd (g r).name (g r).i = (RegFile.find l r).getD (s.rd (g r).name (g r).i) := by
  induction l generalizing s with
  | nil => rfl
  | cons e t ih =>
    obtain ⟨hnot, ht⟩ := List.nodup_cons.mp hl
    refine (ih (s.wr (g e.1).name (g e.1).i e.2) ht fun x hx => hg x (List.mem_cons_of_mem e hx)).trans ?_
    by_cases he : e.1 = r
    · subst he
      rw [RegFile.find_eq_none hnot, RegFile.find, if_pos rfl, Option.getD_none, State.rd_wr_same, Option.getD_some]
    · have hne : ¬ ((g r).name = (g e.1).name ∧ (g r).i = (g e.1).i) := fun ⟨hn, hi⟩ => by
        refine he (hg e List.mem_cons_self ?_)
        cases hgr : g r
        cases hge : g e.1
        simp_all
      rw [State.rd_wr, if_neg hne, RegFile.find, if_neg he]

theorem State.bankCopy_rest (s : State) (d : Nat) (fromB fromD toB toD : RegName) :
    ∃ f, s.bankCopy d fromB fromD toB toD = { s with regs := f } := by
  rw [State.bankCopy_eq]
  exact State.copyEntries_rest _ _ _

theorem State.bankCopy_distinct {s : State} (h : s.regs.Distinct) (d : Nat) (fromB fromD toB toD : RegName) :
    (s.bankCopy d fromB fromD toB toD).regs.Distinct := by
  rw [State.bankCopy_eq]
  exact State.copyEntries_distinct (h.filter _) _ _

section BankCopy

variable {d : Nat} {fromB fromD toB toD : RegName}

theorem bankOfDie_iff {r : Reg} {n b : RegName} :
    bankOfDie d r n b = true ↔ (r.name = n ∧ r.i / 32768 = d) ∨ (r.name = b ∧ r.i / 16 = d) := by
  simp [bankOfDie]

theorem bankTarget_bank (i : Nat) : bankTarget fromB toB toD ⟨fromB, i⟩ = ⟨toB, i⟩ := by
  rw [bankTarget, if_pos rfl]

theorem bankTarget_bind (hfrom : fromD ≠ fromB) (i : Nat) : bankTarget fromB toB toD ⟨fromD, i⟩ = ⟨toD, i⟩ := by
  rw [bankTarget, if_neg hfrom]

/-- The copy of a register of the die's source is a register of the die's target. -/
theorem bankOfDie_bankTarget (hfrom : fromD ≠ fromB) {r : Reg} (h : bankOfDie d r fromB fromD = true) :
    bankOfDie d (bankTarget fromB toB toD r) toB toD = true := by
  obtain ⟨n, i⟩ := r
  rw [bankOfDie_iff] at h ⊢
  obtain ⟨rfl, hi⟩ | ⟨rfl, hi⟩ := h
  · exact Or.inl ⟨congrArg Reg.name (bankTarget_bank i), hi⟩
  · exact Or.inr ⟨congrArg Reg.name (bankTarget_bind hfrom i), hi⟩

/-- No two registers of the source go to one. -/
theorem bankTarget_injOn (hfrom : fromD ≠ fromB) (hto : toD ≠ toB) {q r : Reg} (hq : bankOfDie d q fromB fromD = true)
    (hr : bankOfDie d r fromB fromD = true) (h : bankTarget fromB toB toD q = bankTarget fromB toB toD r) : q = r := by
  obtain ⟨hname, hi⟩ := Reg.mk.inj h
  have hsame : q.name = r.name := by
    obtain ⟨hq, -⟩ | ⟨hq, -⟩ := bankOfDie_iff.mp hq <;> obtain ⟨hr, -⟩ | ⟨hr, -⟩ := bankOfDie_iff.mp hr
    · exact hq.trans hr.symm
    · rw [hq, hr, if_pos rfl, if_neg hfrom] at hname
      exact absurd hname.symm hto
    · rw [hq, hr, if_pos rfl, if_neg hfrom] at hname
      exact absurd hname hto
    · exact hq.trans hr.symm
  cases q
  cases r
  exact congrArg₂ Reg.mk hsame hi

/-- A copy leaves every register outside its target as it was. -/
theorem State.bankCopy_rd_other (s : State) (hfrom : fromD ≠ fromB) {n : RegName} {i : Nat}
    (h : bankOfDie d ⟨n, i⟩ toB toD = false) : (s.bankCopy d fromB fromD toB toD).rd n i = s.rd n i := by
  rw [State.bankCopy_eq, State.copyEntries_rd_other]
  · unfold State.rd RegFile.drop
    rw [RegFile.find_filter (fun r => !bankOfDie d r toB toD), h]
    rfl
  · intro e he hne
    have htarget := bankOfDie_bankTarget (toB := toB) (toD := toD) hfrom (List.mem_filter.mp he).2
    rw [hne, h] at htarget
    cases htarget

/-- The copy of a register of the source reads what the register reads: a word that is not listed is at its reset value in both
places. -/
theorem State.bankCopy_rd_target {s : State} (hs : s.regs.Distinct) (hfrom : fromD ≠ fromB) (hto : toD ≠ toB) {r q : Reg}
    (hq : bankTarget fromB toB toD r = q) (hr : bankOfDie d r fromB fromD = true)
    (hreset : Reg.resetOn s.variant q = Reg.resetOn s.variant r) :
    (s.bankCopy d fromB fromD toB toD).rd q.name q.i = s.rd r.name r.i := by
  subst hq
  have htarget := bankOfDie_bankTarget (toB := toB) (toD := toD) hfrom hr
  rw [State.bankCopy_eq]
  refine (State.copyEntries_rd _ (bankTarget fromB toB toD) (hs.filter _) r fun e he heq =>
    bankTarget_injOn hfrom hto (List.mem_filter.mp he).2 hr heq).trans ?_
  unfold State.rd RegFile.drop
  rw [RegFile.find_filter fun q => bankOfDie d q fromB fromD, RegFile.find_filter fun q => !bankOfDie d q toB toD, if_pos hr,
    if_neg (by rw [htarget]; decide), ← hreset]
  rfl

theorem State.bankCopy_rd_bank {s : State} (hs : s.regs.Distinct) (hfrom : fromD ≠ fromB) (hto : toD ≠ toB)
    (hreset : ∀ v i, Reg.resetOn v ⟨toB, i⟩ = Reg.resetOn v ⟨fromB, i⟩) {i : Nat} (hi : i / 32768 = d) :
    (s.bankCopy d fromB fromD toB toD).rd toB i = s.rd fromB i :=
  State.bankCopy_rd_target hs hfrom hto (bankTarget_bank i) (bankOfDie_iff.mpr (Or.inl ⟨rfl, hi⟩)) (hreset _ _)

theorem State.bankCopy_rd_bind {s : State} (hs : s.regs.Distinct) (hfrom : fromD ≠ fromB) (hto : toD ≠ toB)
    (hreset : ∀ v i, Reg.resetOn v ⟨toD, i⟩ = Reg.resetOn v ⟨fromD, i⟩) {i : Nat} (hi : i / 16 = d) :
    (s.bankCopy d fromB fromD toB toD).rd toD i = s.rd fromD i :=
  State.bankCopy_rd_target hs hfrom hto (bankTarget_bind hfrom i) (bankOfDie_iff.mpr (Or.inr ⟨rfl, hi⟩)) (hreset _ _)

end BankCopy

end Sys2Proof.Machine

namespace Sys2Proof.Machine

/-! # What a switch leaves alone (R115, R119) -/

/-- The epoch machinery, core SRAM and the registers outside `p`, but those that count, are as before. -/
structure KeptBut (p : Reg → Bool) (s t : State) : Prop where
  epoch : t.epoch = s.epoch
  sram : t.sram = s.sram
  rd : ∀ n i, n.counts = false → p ⟨n, i⟩ = false → t.rd n i = s.rd n i

namespace KeptBut

variable {p : Reg → Bool} {r s t : State}

theorem refl (s : State) : KeptBut p s s := ⟨rfl, rfl, fun _ _ _ _ => rfl⟩

theorem trans (h1 : KeptBut p r s) (h2 : KeptBut p s t) : KeptBut p r t where
  epoch := h2.epoch.trans h1.epoch
  sram := h2.sram.trans h1.sram
  rd n i hn hp := (h2.rd n i hn hp).trans (h1.rd n i hn hp)

theorem mono {q : Reg → Bool} (h : KeptBut q s t) (hqp : ∀ x, q x = true → p x = true) : KeptBut p s t :=
  ⟨h.epoch, h.sram, fun n i hn hp => h.rd n i hn (Bool.eq_false_iff.mpr fun hq => Bool.eq_false_iff.mp hp (hqp _ hq))⟩

theorem forEach (h : KeptBut p r s) {f : State → Nat → State} (hf : ∀ s k, KeptBut p s (f s k)) (l : List Nat) :
    KeptBut p r (s.forEach l f) :=
  h.trans (State.forEach_rel KeptBut.refl (fun _ _ _ => KeptBut.trans) f hf l s)

theorem wr (h : KeptBut p r s) {n : RegName} {i : Nat} (v : Word) (hp : p ⟨n, i⟩ = true) : KeptBut p r (s.wr n i v) := by
  refine h.trans ⟨rfl, rfl, fun m j _ hm => ?_⟩
  rw [State.rd_wr, if_neg]
  rintro ⟨rfl, rfl⟩
  rw [hp] at hm
  cases hm

theorem count (h : KeptBut p r s) (d e n : Nat) : KeptBut p r (s.count d e n) :=
  h.trans ⟨s.count_epoch d e n, s.count_sram d e n, fun m i hm _ => s.count_rd d e n m i hm⟩

theorem modDie (h : KeptBut p r s) (d : Nat) (f : Die → Die) : KeptBut p r (s.modDie d f) :=
  h.trans ⟨rfl, rfl, fun _ _ _ _ => rfl⟩

theorem bankCopy (h : KeptBut p r s) {d : Nat} {fromB fromD toB toD : RegName} (hfrom : fromD ≠ fromB)
    (hp : ∀ x, bankOfDie d x toB toD = true → p x = true) : KeptBut p r (s.bankCopy d fromB fromD toB toD) := by
  obtain ⟨f, hf⟩ := s.bankCopy_rest d fromB fromD toB toD
  refine h.trans ⟨by rw [hf], by rw [hf], fun n i _ hn => s.bankCopy_rd_other hfrom ?_⟩
  exact Bool.eq_false_iff.mpr fun hto => Bool.eq_false_iff.mp hn (hp _ hto)

end KeptBut

/-! # The switch completes on a die (R119, R121) -/

/-- Leases whose channel the switch concerns are marked (Table 11.6). -/
def State.epochMarks (s : State) (d : Nat) : State :=
  s.forEach ((List.range 8).map fun c => 8 * d + c) fun s n => if s.epochChanges n then s.markCh n else s

/-- The die's channels have the next switch before them. -/
def State.awaitTake (s : State) (d : Nat) : State :=
  s.forEach ((List.range 8).map fun c => 8 * d + c) fun s n => s.modCh n fun c => { c with took := false }

/-- The NEXT bank becomes the ACTIVE one. -/
def State.nextActive (s : State) (d : Nat) : State :=
  (((s.epochMarks d).bankCopy d .FM_NXT .BIND_NXT .FM_ACT .BIND_ACT).awaitTake d).modDie d fun x =>
    { x with deadWords := (x.deadWords.filter fun w => w.1).map fun w => (false, w.2) }

/-- The ACTIVE bank is copied to staging, under the lock. -/
def State.activeStaged (s : State) (d : Nat) : State :=
  (s.setFlag Fld.FM_STATUS_STAGE_LOCK d true).bankCopy d .FM_ACT .BIND_ACT .FM_STG .BIND_STG

/-- The quoins asked for before the checks take effect, and are counted. -/
def State.quoinsTaken (s : State) (d : Nat) : State :=
  (s.wr .FM_QUOIN_EFF d (BitVec.ofNat 32 ((s.rd .FM_QUOIN_EFF d).toNat ||| Tbl.get s.epoch.quoinReq d 0))).count d 0x30F
    (bitsSet ((s.rd .FM_QUOIN_EFF d).toNat ||| Tbl.get s.epoch.quoinReq d 0) 32 - bitsSet (s.rd .FM_QUOIN_EFF d).toNat 32)

theorem State.epochDie_eq (s : State) (d : Nat) : s.epochDie d = ((s.nextActive d).activeStaged d).quoinsTaken d := rfl

theorem State.epochMarks_rest (s : State) (d : Nat) : ∃ k, s.epochMarks d = { s with keys := k } := by
  refine List.foldlRecOn (motive := fun t : State => ∃ k, t = { s with keys := k }) _ _ ⟨s.keys, rfl⟩ fun t ht n _ => ?_
  obtain ⟨k, rfl⟩ := ht
  split <;> exact ⟨_, rfl⟩

@[simp] theorem State.epochMarks_rd (s : State) (d : Nat) (n : RegName) (i : Nat) : (s.epochMarks d).rd n i = s.rd n i := by
  obtain ⟨k, hk⟩ := s.epochMarks_rest d
  rw [hk]
  rfl

theorem State.epochMarks_ch (s : State) (d n : Nat) : (s.epochMarks d).ch n = s.ch n := by
  obtain ⟨k, hk⟩ := s.epochMarks_rest d
  rw [hk]
  rfl

theorem State.epochMarks_distinct {s : State} (h : s.regs.Distinct) (d : Nat) : (s.epochMarks d).regs.Distinct := by
  obtain ⟨k, hk⟩ := s.epochMarks_rest d
  rwa [hk]

theorem State.awaitTake_rest (s : State) (d : Nat) : ∃ c, s.awaitTake d = { s with chans := c } :=
  List.foldlRecOn (motive := fun t : State => ∃ c, t = { s with chans := c }) _ _ ⟨s.chans, rfl⟩
    fun _ ⟨_, ht⟩ _ _ => ht ▸ ⟨_, rfl⟩

@[simp] theorem State.awaitTake_rd (s : State) (d : Nat) (n : RegName) (i : Nat) : (s.awaitTake d).rd n i = s.rd n i := by
  obtain ⟨c, hc⟩ := s.awaitTake_rest d
  rw [hc]
  rfl

theorem State.awaitTake_distinct {s : State} (h : s.regs.Distinct) (d : Nat) : (s.awaitTake d).regs.Distinct := by
  obtain ⟨c, hc⟩ := s.awaitTake_rest d
  rwa [hc]

/-- Clearing the mark of any channel keeps a cleared mark cleared. -/
theorem State.untake_keeps {s : State} {n : Nat} (h : (s.ch n).took = false) (k : Nat) :
    ((s.modCh k fun c => { c with took := false }).ch n).took = false := by
  by_cases hn : n = k
  · rw [hn, State.ch_modCh_same]
  · rw [State.modCh, State.ch_setCh_other _ _ _ _ hn, h]

theorem State.awaitTake_keeps {s : State} {n : Nat} (h : (s.ch n).took = false) (d : Nat) :
    ((s.awaitTake d).ch n).took = false :=
  List.foldlRecOn (motive := fun t : State => (t.ch n).took = false) _ _ h fun _ ht k _ => State.untake_keeps ht k

theorem State.awaitTake_took (s : State) (d : Nat) {c : Nat} (hc : c < 8) : ((s.awaitTake d).ch (8 * d + c)).took = false :=
  foldl_establishes (inv := fun _ => True) (goal := fun t : State => (t.ch (8 * d + c)).took = false)
    (fun _ _ _ => trivial) (fun t _ => by rw [State.ch_modCh_same]) (fun _ k _ h => State.untake_keeps h k)
    (List.mem_map_of_mem (List.mem_range.mpr hc)) trivial

theorem State.bankCopy_ch (s : State) (d : Nat) (fromB fromD toB toD : RegName) (n : Nat) :
    (s.bankCopy d fromB fromD toB toD).ch n = s.ch n := by
  obtain ⟨f, hf⟩ := s.bankCopy_rest d fromB fromD toB toD
  rw [hf]
  rfl

theorem State.nextActive_rd (s : State) (d : Nat) (n : RegName) (i : Nat) :
    (s.nextActive d).rd n i = ((s.epochMarks d).bankCopy d .FM_NXT .BIND_NXT .FM_ACT .BIND_ACT).rd n i := by
  rw [State.nextActive, State.modDie_rd, State.awaitTake_rd]

theorem State.nextActive_distinct {s : State} (h : s.regs.Distinct) (d : Nat) : (s.nextActive d).regs.Distinct := by
  rw [State.nextActive, State.modDie_regs]
  exact State.awaitTake_distinct (State.bankCopy_distinct (State.epochMarks_distinct h d) _ _ _ _ _) d

theorem State.epochDie_distinct {s : State} (h : s.regs.Distinct) (d : Nat) : (s.epochDie d).regs.Distinct := by
  rw [State.epochDie_eq]
  exact State.count_distinct (State.wr_distinct
    (State.bankCopy_distinct (State.setFlag_distinct (State.nextActive_distinct h d) _ _ _) _ _ _ _ _) _ _ _) _ _ _

/-- Of a channel, the switch-over of its die changes the mark that it has taken the switch. -/
theorem State.epochDie_ch (s : State) (d n : Nat) : (s.epochDie d).ch n =
    (((s.epochMarks d).bankCopy d .FM_NXT .BIND_NXT .FM_ACT .BIND_ACT).awaitTake d).ch n := by
  rw [State.epochDie_eq, State.quoinsTaken, State.count_ch, State.wr_ch, State.activeStaged, State.bankCopy_ch,
    State.setFlag_ch, State.nextActive, State.modDie_ch]

/-- The registers that the switch-over of a die writes: its ACTIVE and staging banks, its lock and its quoins. -/
def switchReg (d : Nat) (r : Reg) : Bool :=
  bankOfDie d r .FM_ACT .BIND_ACT || bankOfDie d r .FM_STG .BIND_STG || decide (r = ⟨.FM_STATUS, d⟩) ||
    decide (r = ⟨.FM_QUOIN_EFF, d⟩)

theorem State.epochMarks_kept (s : State) (d : Nat) (p : Reg → Bool) : KeptBut p s (s.epochMarks d) := by
  obtain ⟨k, hk⟩ := s.epochMarks_rest d
  rw [hk]
  exact ⟨rfl, rfl, fun _ _ _ _ => rfl⟩

theorem State.awaitTake_kept (s : State) (d : Nat) (p : Reg → Bool) : KeptBut p s (s.awaitTake d) := by
  obtain ⟨c, hc⟩ := s.awaitTake_rest d
  rw [hc]
  exact ⟨rfl, rfl, fun _ _ _ _ => rfl⟩

theorem State.epochDie_kept (s : State) (d : Nat) : KeptBut (switchReg d) s (s.epochDie d) := by
  have hcopied := (s.epochMarks_kept d (switchReg d)).bankCopy (d := d) (fromB := .FM_NXT) (fromD := .BIND_NXT)
    (toB := .FM_ACT) (toD := .BIND_ACT) (by decide) fun x hx => by simp [switchReg, hx]
  have hactive : KeptBut (switchReg d) s (s.nextActive d) := (hcopied.trans (State.awaitTake_kept _ d _)).modDie _ _
  have hstaged : KeptBut (switchReg d) s ((s.nextActive d).activeStaged d) :=
    (hactive.wr (n := .FM_STATUS) (i := d) _ (by simp [switchReg])).bankCopy (by decide) fun x hx => by simp [switchReg, hx]
  rw [State.epochDie_eq]
  exact (hstaged.wr (n := .FM_QUOIN_EFF) _ (by simp [switchReg])).count _ _ _

/-- The switch has been completed on die d: its NEXT bank is ACTIVE and in staging, staging is locked, and no channel of it has
taken a further switch. -/
structure DieSwitched (d : Nat) (s t : State) : Prop where
  lock : t.flag Fld.FM_STATUS_STAGE_LOCK d = true
  bank : ∀ i, i / 32768 = d → t.rd .FM_ACT i = s.rd .FM_NXT i ∧ t.rd .FM_STG i = s.rd .FM_NXT i
  bind : ∀ i, i / 16 = d → t.rd .BIND_ACT i = s.rd .BIND_NXT i ∧ t.rd .BIND_STG i = s.rd .BIND_NXT i
  took : ∀ c, c < 8 → (t.ch (8 * d + c)).took = false

theorem bankOfDie_apart {d i : Nat} {m n b : RegName} (hn : m ≠ n) (hb : m ≠ b) : bankOfDie d ⟨m, i⟩ n b = false :=
  Bool.eq_false_iff.mpr fun h => (bankOfDie_iff.mp h).elim (fun h => hn h.1) fun h => hb h.1

/-- The new ACTIVE bank of the die is its NEXT bank. -/
theorem State.nextActive_bank {s : State} (hs : s.regs.Distinct) {d i : Nat} (hi : i / 32768 = d) :
    (s.nextActive d).rd .FM_ACT i = s.rd .FM_NXT i := by
  rw [State.nextActive_rd, State.bankCopy_rd_bank (State.epochMarks_distinct hs d) (by decide) (by decide)
    (by intro _ _; rfl) hi, State.epochMarks_rd]

theorem State.nextActive_bind {s : State} (hs : s.regs.Distinct) {d i : Nat} (hi : i / 16 = d) :
    (s.nextActive d).rd .BIND_ACT i = s.rd .BIND_NXT i := by
  rw [State.nextActive_rd, State.bankCopy_rd_bind (State.epochMarks_distinct hs d) (by decide) (by decide)
    (by intro _ _; rfl) hi, State.epochMarks_rd]

/-- The staging bank is then the ACTIVE bank. -/
theorem State.activeStaged_bank {s : State} (hs : s.regs.Distinct) {d i : Nat} (hi : i / 32768 = d) :
    (s.activeStaged d).rd .FM_STG i = s.rd .FM_ACT i := by
  rw [State.activeStaged, State.bankCopy_rd_bank (State.setFlag_distinct hs _ _ _) (by decide) (by decide)
    (by intro _ _; rfl) hi, State.rd_setFlag _ _ _ _ _ _ (by decide)]

theorem State.activeStaged_bind {s : State} (hs : s.regs.Distinct) {d i : Nat} (hi : i / 16 = d) :
    (s.activeStaged d).rd .BIND_STG i = s.rd .BIND_ACT i := by
  rw [State.activeStaged, State.bankCopy_rd_bind (State.setFlag_distinct hs _ _ _) (by decide) (by decide)
    (by intro _ _; rfl) hi, State.rd_setFlag _ _ _ _ _ _ (by decide)]

theorem State.activeStaged_rd_other (s : State) (d : Nat) {n : RegName} (i : Nat) (hn : n ∉ [.FM_STG, .BIND_STG, .FM_STATUS]) :
    (s.activeStaged d).rd n i = s.rd n i := by
  simp only [List.mem_cons, List.not_mem_nil, or_false, not_or] at hn
  obtain ⟨hbank, hbind, hlock⟩ := hn
  rw [State.activeStaged, State.bankCopy_rd_other _ (by decide) (bankOfDie_apart hbank hbind), State.rd_setFlag _ _ _ _ _ _ hlock]

theorem State.activeStaged_lock (s : State) (d : Nat) : (s.activeStaged d).flag Fld.FM_STATUS_STAGE_LOCK d = true :=
  (State.flag_congr (State.bankCopy_rd_other _ (by decide) (bankOfDie_apart (by decide) (by decide)))).trans
    (State.flag_setFlag_same _ _ _ _ (by decide) (by decide))

theorem State.quoinsTaken_rd (s : State) (d : Nat) {n : RegName} (i : Nat) (hc : n.counts = false) (hn : n ≠ .FM_QUOIN_EFF) :
    (s.quoinsTaken d).rd n i = s.rd n i := by
  rw [State.quoinsTaken, State.count_rd _ _ _ _ _ _ hc, State.rd_wr_name _ _ _ _ _ _ hn]

theorem State.epochDie_switched {s : State} (hs : s.regs.Distinct) (d : Nat) : DieSwitched d s (s.epochDie d) where
  lock := by
    rw [State.epochDie_eq]
    exact (State.flag_congr (State.quoinsTaken_rd _ _ _ rfl (by decide))).trans (State.activeStaged_lock _ _)
  bank i hi := by
    rw [State.epochDie_eq, State.quoinsTaken_rd _ _ _ rfl (by decide), State.quoinsTaken_rd _ _ _ rfl (by decide),
      State.activeStaged_bank (State.nextActive_distinct hs d) hi, State.activeStaged_rd_other _ _ _ (by decide),
      State.nextActive_bank hs hi]
    exact ⟨rfl, rfl⟩
  bind i hi := by
    rw [State.epochDie_eq, State.quoinsTaken_rd _ _ _ rfl (by decide), State.quoinsTaken_rd _ _ _ rfl (by decide),
      State.activeStaged_bind (State.nextActive_distinct hs d) hi, State.activeStaged_rd_other _ _ _ (by decide),
      State.nextActive_bind hs hi]
    exact ⟨rfl, rfl⟩
  took c hc := by
    rw [State.epochDie_ch]
    exact State.awaitTake_took _ _ hc

/-- The switch-over of another die leaves this one's alone. -/
theorem DieSwitched.epochDie_other {d e : Nat} {s t : State} (h : DieSwitched d s t) (he : e ≠ d) :
    DieSwitched d s (t.epochDie e) where
  lock := (State.flag_congr ((t.epochDie_kept e).rd _ _ rfl (by simp [switchReg, bankOfDie, he.symm]))).trans h.lock
  bank i hi := by
    rw [(t.epochDie_kept e).rd .FM_ACT i rfl (by simp [switchReg, bankOfDie, hi, he.symm]),
      (t.epochDie_kept e).rd .FM_STG i rfl (by simp [switchReg, bankOfDie, hi, he.symm])]
    exact h.bank i hi
  bind i hi := by
    rw [(t.epochDie_kept e).rd .BIND_ACT i rfl (by simp [switchReg, bankOfDie, hi, he.symm]),
      (t.epochDie_kept e).rd .BIND_STG i rfl (by simp [switchReg, bankOfDie, hi, he.symm])]
    exact h.bind i hi
  took c hc := by
    rw [State.epochDie_ch]
    refine State.awaitTake_keeps ?_ e
    rw [State.bankCopy_ch, State.epochMarks_ch]
    exact h.took c hc

/-- Part way through the dies: no register is listed twice, and the NEXT banks are as the switch found them. -/
structure SwitchUnderWay (s t : State) : Prop where
  distinct : t.regs.Distinct
  bank : ∀ i, t.rd .FM_NXT i = s.rd .FM_NXT i
  bind : ∀ i, t.rd .BIND_NXT i = s.rd .BIND_NXT i

theorem SwitchUnderWay.epochDie {s t : State} (h : SwitchUnderWay s t) (d : Nat) : SwitchUnderWay s (t.epochDie d) where
  distinct := State.epochDie_distinct h.distinct d
  bank i := ((t.epochDie_kept d).rd _ _ rfl (by simp [switchReg, bankOfDie])).trans (h.bank i)
  bind i := ((t.epochDie_kept d).rd _ _ rfl (by simp [switchReg, bankOfDie])).trans (h.bind i)

theorem SwitchUnderWay.switched {s t : State} (h : SwitchUnderWay s t) (d : Nat) : DieSwitched d s (t.epochDie d) := by
  obtain ⟨hlock, hbank, hbind, htook⟩ := State.epochDie_switched h.distinct d
  simp only [h.bank, h.bind] at hbank hbind
  exact ⟨hlock, hbank, hbind, htook⟩

/-- A switch that completes on a list of dies has completed on each of them. -/
theorem State.forEach_epochDie_switched {s : State} (hs : s.regs.Distinct) {d : Nat} {l : List Nat} (hd : d ∈ l) :
    DieSwitched d s (s.forEach l State.epochDie) := by
  refine foldl_establishes (inv := SwitchUnderWay s) (goal := DieSwitched d s) (fun _ e h => h.epochDie e)
    (fun _ h => h.switched d) (fun t e ht h => ?_) hd ⟨hs, fun _ => rfl, fun _ => rfl⟩
  obtain rfl | he := eq_or_ne e d
  · exact ht.switched e
  · exact h.epochDie_other he

/-! # EPOCH_SWITCH_COMPLETE (R119) -/

/-- What the switch's end shows in the package registers. -/
def State.switchShown (s : State) (e : Nat) : State :=
  ((s.setF Fld.EPOCH_CUR_CURRENT 0 e).setFlag Fld.EPOCH_STATUS_SWITCHING 0 false).setFlag Fld.EPOCH_STATUS_DONE 0 true

/-- The epoch machinery rests again. -/
def State.epochRests (s : State) : State := { s with epoch := { s.epoch with phase := .idle, lost := [] } }

theorem exec_epochSwitchComplete_ready {s : State} {e : Nat} (hl : s.platLive = true) (hp : s.epoch.phase = .switching e)
    (hr : s.epochReady = true) : exec .epochSwitchComplete s =
      .next ((s.switchShown e).forEach (numsBelow s.nDies s.epochOn) State.epochDie).epochRests := by
  change Host.Outcome.next _ = _
  rw [State.when_of _ _ _ hl, hp]
  dsimp only
  rw [hr]
  rfl

theorem State.epochOn_lt {s : State} {d : Nat} (h : s.epochOn d = true) : d < s.nDies := by
  simp only [State.epochOn, State.reached, State.live, State.present, Bool.and_eq_true, decide_eq_true_eq] at h
  exact h.1.1.1.1

theorem State.mem_epochOn {s : State} {d : Nat} (h : s.epochOn d = true) : d ∈ numsBelow s.nDies s.epochOn :=
  List.mem_filter.mpr ⟨List.mem_range.mpr (State.epochOn_lt h), h⟩

/-- The registers of the banks do not tell of the switch's end. -/
theorem State.switchShown_rd (s : State) (e : Nat) {n : RegName} (i : Nat) (hc : n ≠ .EPOCH_CUR) (hs : n ≠ .EPOCH_STATUS) :
    (s.switchShown e).rd n i = s.rd n i := by
  rw [State.switchShown, State.rd_setFlag _ _ _ _ _ _ hs, State.rd_setFlag _ _ _ _ _ _ hs, State.rd_setF _ _ _ _ _ _ hc]

/-- Settles O12: the switch-over of a die copies its NEXT bank twice, and the switch-over of the others leaves it alone. -/
theorem epochActivates : Obligations.EpochActivates := by
  intro e d s hl hp hr hon hwf
  refine ⟨_, exec_epochSwitchComplete_ready hl hp hr, ?_⟩
  have hdistinct : (s.switchShown e).regs.Distinct :=
    State.setFlag_distinct (State.setFlag_distinct (State.setF_distinct (RegFile.distinct_of_wf hwf) _ _ _) _ _ _) _ _ _
  obtain ⟨hlock, hbank, hbind, htook⟩ := State.forEach_epochDie_switched hdistinct (State.mem_epochOn hon)
  have hnext : ∀ i, (s.switchShown e).rd .FM_NXT i = s.rd .FM_NXT i ∧ (s.switchShown e).rd .BIND_NXT i = s.rd .BIND_NXT i :=
    fun i => ⟨s.switchShown_rd e i (by decide) (by decide), s.switchShown_rd e i (by decide) (by decide)⟩
  simp only [hnext] at hbank hbind
  exact ⟨hlock, hbank, hbind, htook⟩

end Sys2Proof.Machine

namespace Sys2Proof.Machine

theorem State.getF_eq_of_rd {s t : State} {f : Field} {i : Nat} (h : t.rd f.reg i = s.rd f.reg i) : t.getF f i = s.getF f i :=
  congrArg f.of h

/-! # EPOCH_GO (R114, R121) -/

theorem exec_epochGo_open {req : Requester} {s : State} (v : Word) (h : s.PlatOpen req) :
    exec (.epochGo req v) s = .next (s.writeEpochGo v) :=
  congrArg Host.Outcome.next (State.platAccess_open _ h)

/-- The quoins asked for on each die, as a GO takes them. -/
def State.quoinsAsked (s : State) : Tbl Nat :=
  (List.range s.nDies).foldl (fun t d => Tbl.set t d (s.rd .FM_QUOIN d).toNat 0) []

theorem State.get_quoinsAsked (s : State) {d : Nat} (hd : d < s.nDies) :
    Tbl.get s.quoinsAsked d 0 = (s.rd .FM_QUOIN d).toNat := by
  refine foldl_establishes (inv := fun _ => True) (goal := fun t : Tbl Nat => Tbl.get t d 0 = (s.rd .FM_QUOIN d).toNat)
    (x := d) (fun _ _ _ => trivial) (fun _ _ => Tbl.get_set_same _ _ _ _) (fun t e _ h => ?_) (List.mem_range.mpr hd) trivial
  obtain rfl | he := eq_or_ne d e
  · exact Tbl.get_set_same _ _ _ _
  · rw [Tbl.get_set_other _ _ _ _ _ he, h]

theorem State.writeEpochGo_idle {s : State} (v : Word) (h : s.epoch.phase = .idle) : s.writeEpochGo v =
    { s with epoch := { s.epoch with
        phase := .checking (bitsOf v.toNat 0 16), overran := false, quoinReq := s.quoinsAsked } } :=
  if_neg (not_not.mpr h)

theorem State.writeEpochGo_busy {s : State} (v : Word) (h : s.epoch.phase ≠ .idle) :
    s.writeEpochGo v = s.epochRefuse { code := 2, die := 0, forme := 0, item := 0, opcode := 0 } := if_pos h

/-! ## A refusal (R114) -/

/-- A report whose code has no register bit leaves every register but those that count as it was (Table 6.7). -/
theorem State.report_rd_unmarked (s : State) {d code source : Nat} (hb : faultBit d code source = none) {n : RegName} (i : Nat)
    (hn : n.counts = false) : (s.report d code source).rd n i = s.rd n i :=
  s.report_rd d code source n i hn fun b h => by
    rw [hb] at h
    cases h

/-- The refusal as EPOCH_STATUS shows it. -/
def State.refusalShown (s : State) (r : EpochRefusal) : State :=
  ((((s.setFlag Fld.EPOCH_STATUS_REFUSED 0 true).setF Fld.EPOCH_STATUS_REFUSE_CODE 0 r.code).setF
    Fld.EPOCH_STATUS_REFUSE_DIE 0 r.die).setF Fld.EPOCH_STATUS_REFUSE_FORME 0 r.forme).setF
    Fld.EPOCH_STATUS_REFUSE_ITEM 0 r.item |>.setF Fld.EPOCH_STATUS_REFUSE_OPCODE 0 r.opcode

theorem State.epochRefuse_eq (s : State) (r : EpochRefusal) :
    s.epochRefuse r = (s.refusalShown r).report 0 0x2007 (8 * r.forme + 256 * r.die) := rfl

theorem State.epochRefuse_status (s : State) (r : EpochRefusal) :
    (s.epochRefuse r).rd .EPOCH_STATUS 0 = (s.refusalShown r).rd .EPOCH_STATUS 0 := by
  rw [State.epochRefuse_eq, State.report_rd_unmarked _ rfl _ rfl]

theorem State.epochRefuse_refused (s : State) (r : EpochRefusal) :
    (s.epochRefuse r).flag Fld.EPOCH_STATUS_REFUSED 0 = true := by
  rw [State.flag_congr (s.epochRefuse_status r), State.refusalShown]
  simp (disch := decide) only [State.flag_setF_apart, State.flag_setFlag_same]

theorem State.epochRefuse_code (s : State) (r : EpochRefusal) :
    (s.epochRefuse r).getF Fld.EPOCH_STATUS_REFUSE_CODE 0 = r.code % 16 := by
  rw [State.getF_eq_of_rd (s.epochRefuse_status r), State.refusalShown]
  simp (disch := decide) only [State.getF_setF_apart, State.getF_setF_same]
  rfl

theorem State.epochRefuse_rd (s : State) (r : EpochRefusal) {n : RegName} (i : Nat) (hc : n.counts = false)
    (hn : n ≠ .EPOCH_STATUS) : (s.epochRefuse r).rd n i = s.rd n i := by
  rw [State.epochRefuse_eq, State.report_rd_unmarked _ rfl _ hc, State.refusalShown]
  simp (disch := exact hn) only [State.rd_setF, State.rd_setFlag]

theorem State.epochRefuse_epoch (s : State) (r : EpochRefusal) : (s.epochRefuse r).epoch = s.epoch := by
  rw [State.epochRefuse_eq, State.report_epoch, State.refusalShown, State.setF_epoch, State.setF_epoch, State.setF_epoch,
    State.setF_epoch, State.setF_epoch, State.setFlag_epoch]

/-! # EPOCH_CHECKS_COMPLETE (R114, R115) -/

theorem exec_epochChecksComplete_refused {s : State} {e : Nat} {r : EpochRefusal} (hl : s.platLive = true)
    (hp : s.epoch.phase = .checking e) (hr : s.epochChecks e = some r) :
    exec .epochChecksComplete s = .next ({ s with epoch := { s.epoch with phase := .idle } }.epochRefuse r) := by
  change Host.Outcome.next _ = _
  rw [State.when_of _ _ _ hl, hp]
  dsimp only
  rw [hr]

theorem exec_epochChecksComplete_passed {s : State} {e : Nat} (hl : s.platLive = true)
    (hp : s.epoch.phase = .checking e) (hr : s.epochChecks e = none) :
    exec .epochChecksComplete s = .next (s.epochPass e) := by
  change Host.Outcome.next _ = _
  rw [State.when_of _ _ _ hl, hp]
  dsimp only
  rw [hr]

/-- What the switch's start shows in the package registers. -/
def State.switchAnnounced (s : State) (e : Nat) : State :=
  ((((s.setF Fld.EPOCH_CUR_TARGET 0 e).setFlag Fld.EPOCH_STATUS_SWITCHING 0 true).wr .EPOCH_MAP_LO 0 0).wr
    .EPOCH_MAP_HI 0 0).wr .EPOCH_LATE_LO 0 0 |>.wr .EPOCH_LATE_HI 0 0

theorem State.switchAnnounced_target (s : State) {e : Nat} (he : e < 2 ^ 16) :
    (s.switchAnnounced e).getF Fld.EPOCH_CUR_TARGET 0 = e := by
  rw [State.switchAnnounced]
  simp (disch := decide) only [State.getF_wr_apart, State.getF_setFlag_apart, State.getF_setF_same]
  exact Nat.mod_eq_of_lt he

theorem State.switchAnnounced_switching (s : State) (e : Nat) :
    (s.switchAnnounced e).flag Fld.EPOCH_STATUS_SWITCHING 0 = true := by
  rw [State.switchAnnounced]
  simp (disch := decide) only [State.flag_wr_apart, State.flag_setFlag_same]

/-- EPOCH_MAP and EPOCH_LATE begin with no channel. -/
theorem State.switchAnnounced_clears (s : State) (e : Nat) :
    (s.switchAnnounced e).rd .EPOCH_LATE_LO 0 = 0 ∧ (s.switchAnnounced e).rd .EPOCH_LATE_HI 0 = 0 ∧
      (s.switchAnnounced e).rd .EPOCH_MAP_LO 0 = 0 ∧ (s.switchAnnounced e).rd .EPOCH_MAP_HI 0 = 0 := by
  rw [State.switchAnnounced]
  simp (disch := decide) only [State.rd_wr_name, State.rd_wr_same, and_self]

theorem State.switchAnnounced_sram (s : State) (e : Nat) : (s.switchAnnounced e).sram = s.sram := by
  rw [State.switchAnnounced, State.wr_sram, State.wr_sram, State.wr_sram, State.wr_sram, State.setFlag_sram, State.setF_sram]

/-- The switch under way: its deadline, its start and the dies it leaves behind (R117, R118). -/
def State.switchStarted (s : State) (e : Nat) : State :=
  { s with epoch := { s.epoch with
      phase := .switching e, deadline := max 1 (s.getF Fld.EPOCH_CTRL_DEADLINE 0), since := s.us,
      lost := numsBelow s.nDies fun d => !s.reached d } }

/-- The new bank goes to a die (R115). -/
def State.nextStaged (s : State) (d : Nat) : State :=
  ((s.awaitTake d).bankCopy d .FM_STG .BIND_STG .FM_NXT .BIND_NXT).count d 0x30E 1

@[simp] theorem State.switchStarted_rd (s : State) (e : Nat) (n : RegName) (i : Nat) : (s.switchStarted e).rd n i = s.rd n i := rfl

@[simp] theorem State.switchStarted_sram (s : State) (e : Nat) : (s.switchStarted e).sram = s.sram := rfl

theorem State.epochPass_eq (s : State) (e : Nat) : s.epochPass e =
    ((s.switchAnnounced e).switchStarted e).forEach (numsBelow ((s.switchAnnounced e).switchStarted e).nDies
      ((s.switchAnnounced e).switchStarted e).reached) State.nextStaged := rfl

/-- The registers of the NEXT banks. -/
def nextReg (r : Reg) : Bool := decide (r.name = .FM_NXT) || decide (r.name = .BIND_NXT)

theorem State.nextStaged_kept (s : State) (d : Nat) : KeptBut nextReg s (s.nextStaged d) := by
  refine ((s.awaitTake_kept d nextReg).bankCopy (by decide) fun x hx => ?_).count _ _ _
  obtain ⟨hx, -⟩ | ⟨hx, -⟩ := bankOfDie_iff.mp hx <;> simp [nextReg, hx]

/-- After the checks have passed the package registers are as the switch's start shows them. -/
theorem State.epochPass_kept (s : State) (e : Nat) :
    KeptBut nextReg ((s.switchAnnounced e).switchStarted e) (s.epochPass e) := by
  rw [State.epochPass_eq]
  exact (KeptBut.refl _).forEach State.nextStaged_kept _

theorem State.epochPass_rd (s : State) (e : Nat) {n : RegName} (i : Nat) (hc : n.counts = false)
    (hn : nextReg ⟨n, i⟩ = false) : (s.epochPass e).rd n i = (s.switchAnnounced e).rd n i :=
  ((s.epochPass_kept e).rd n i hc hn).trans (State.switchStarted_rd _ _ _ _)

/-! # The switch's end (R119) -/

theorem State.switchShown_current (s : State) {e : Nat} (he : e < 2 ^ 16) :
    (s.switchShown e).getF Fld.EPOCH_CUR_CURRENT 0 = e := by
  rw [State.switchShown]
  simp (disch := decide) only [State.getF_setFlag_apart, State.getF_setF_same]
  exact Nat.mod_eq_of_lt he

theorem State.switchShown_switching (s : State) (e : Nat) : (s.switchShown e).flag Fld.EPOCH_STATUS_SWITCHING 0 = false := by
  rw [State.switchShown]
  simp (disch := decide) only [State.flag_setFlag_apart, State.flag_setFlag_same]

theorem State.switchShown_done (s : State) (e : Nat) : (s.switchShown e).flag Fld.EPOCH_STATUS_DONE 0 = true :=
  State.flag_setFlag_same _ _ _ _ (by decide) (by decide)

theorem State.epochDies_kept (s : State) (l : List Nat) :
    KeptBut (fun r => decide (r.name ∈ [RegName.FM_ACT, .BIND_ACT, .FM_STG, .BIND_STG, .FM_STATUS, .FM_QUOIN_EFF])) s
      (s.forEach l State.epochDie) := by
  refine (KeptBut.refl _).forEach (fun s d => (s.epochDie_kept d).mono fun r hr => ?_) l
  simp only [switchReg, bankOfDie, Bool.or_eq_true, Bool.and_eq_true, decide_eq_true_eq] at hr
  obtain (((⟨h, -⟩ | ⟨h, -⟩) | (⟨h, -⟩ | ⟨h, -⟩)) | rfl) | rfl := hr <;> simp [*]

theorem exec_epochSwitchComplete_waits {s : State} {e : Nat} (hl : s.platLive = true) (hp : s.epoch.phase = .switching e)
    (hr : s.epochReady = false) : exec .epochSwitchComplete s = .next s := by
  change Host.Outcome.next _ = _
  rw [State.when_of _ _ _ hl, hp]
  dsimp only
  rw [hr]
  rfl

/-! # A channel takes the switch (R115, R116, R118) -/

/-- The channel's own mark, and its bit of EPOCH_MAP. -/
def State.switchTaken (s : State) (n : Nat) : State :=
  (s.modCh n fun c => { c with took := true, epoch := s.getF Fld.EPOCH_CUR_TARGET 0 }).orR .EPOCH_MAP_LO 0 (2 ^ n)

theorem State.switchTaken_ch (s : State) (n : Nat) :
    (s.switchTaken n).ch n = { s.ch n with took := true, epoch := s.getF Fld.EPOCH_CUR_TARGET 0 } := by
  rw [State.switchTaken, State.orR_ch, State.ch_modCh_same]

theorem State.takeEpoch_low {s : State} {n e : Nat} (hp : s.epoch.phase = .switching e) (ht : (s.ch n).took = false)
    (ho : s.epochOn (n / 8) = true) (hn : n < 32) :
    s.takeEpoch n = ((s.switchTaken n).countCh n 0x2F 1).coverCheck n := by
  obtain ⟨hreach, hlost⟩ : s.reached (n / 8) = true ∧ mem (n / 8) s.epoch.lost = false := by
    simpa [State.epochOn] using ho
  unfold State.takeEpoch
  rw [hp]
  simp only [ht, hreach, hlost, hn, Bool.not_true, Bool.false_eq_true, or_self, if_false, if_true]
  rfl

/-- With no care unit running, cover is not tested (R191). -/
theorem State.coverCheck_of_no_unit {s : State} {n : Nat} (h : (s.die (n / 8)).care.running = none) : s.coverCheck n = s := by
  rw [State.coverCheck, h]

theorem State.count_running (s : State) (d e k : Nat) (x : Nat) :
    ((s.count d e k).die x).care.running = (s.die x).care.running := by
  obtain ⟨-, -, hother, hdie⟩ := s.count_counted d e k
  obtain rfl | hx := eq_or_ne x d
  · rw [hdie]
  · rw [hother x hx]

theorem State.takeEpoch_taken {s : State} {n e : Nat} (hp : s.epoch.phase = .switching e) (ht : (s.ch n).took = false)
    (ho : s.epochOn (n / 8) = true) (hn : n < 32) (hc : (s.die (n / 8)).care.running = none) :
    s.takeEpoch n = (s.switchTaken n).countCh n 0x2F 1 := by
  rw [State.takeEpoch_low hp ht ho hn]
  exact State.coverCheck_of_no_unit ((State.count_running _ _ _ _ _).trans hc)

theorem exec_channelTakeEpoch_boundary {ch : ChanId} {s : State} (hl : s.chLive ch.val = true)
    (hb : s.epochBoundary ch.val = true) : exec (.channelTakeEpoch ch) s = .next (s.takeEpoch ch.val) :=
  congrArg Host.Outcome.next (State.when_of _ _ _ (by rw [hl, hb]; rfl))

/-! # EPOCH_DEADLINE (R117) -/

/-- Channel n is late: its bit of EPOCH_LATE. -/
def State.markLate (s : State) (n : Nat) : State :=
  if n < 32 then s.orR .EPOCH_LATE_LO 0 (2 ^ n) else s.orR .EPOCH_LATE_HI 0 (2 ^ (n - 32))

/-- The overrun as EPOCH_STATUS and EPOCH_LATE show it, for the channels that are behind. -/
def State.overrunShown (s : State) (late : List Nat) : State :=
  ({ s with epoch := { s.epoch with overran := true } }.setFlag Fld.EPOCH_STATUS_OVERRAN 0 true).forEach late State.markLate

theorem State.markLate_rest (s : State) (n : Nat) : ∃ f, s.markLate n = { s with regs := f } := by
  unfold State.markLate
  split <;> exact ⟨_, rfl⟩

theorem State.markLate_rd (s : State) (n : Nat) {m : RegName} (i : Nat) (hlo : m ≠ .EPOCH_LATE_LO) (hhi : m ≠ .EPOCH_LATE_HI) :
    (s.markLate n).rd m i = s.rd m i := by
  unfold State.markLate
  split
  · exact State.rd_wr_name _ _ _ _ _ _ hlo
  · exact State.rd_wr_name _ _ _ _ _ _ hhi

/-- The mark of a channel keeps the marks there are. -/
theorem State.markLate_keeps {s : State} {k : Nat} (h : bitOf (s.rd .EPOCH_LATE_LO 0).toNat k = true) (n : Nat) :
    bitOf ((s.markLate n).rd .EPOCH_LATE_LO 0).toNat k = true := by
  unfold State.markLate
  split
  · rw [State.orR, State.rd_wr_same]
    exact bitOf_or_of_left h
  · rwa [State.orR, State.rd_wr_name _ _ _ _ _ _ (by decide)]

theorem State.markLate_same (s : State) {k : Nat} (hk : k < 32) :
    bitOf ((s.markLate k).rd .EPOCH_LATE_LO 0).toNat k = true := by
  have hlt : 2 ^ k < 2 ^ 32 := Nat.pow_lt_pow_right (by decide) hk
  rw [State.markLate, if_pos hk, State.orR, State.rd_wr_same, bitOf, BitVec.toNat_or, Nat.testBit_or, BitVec.toNat_ofNat,
    Nat.mod_eq_of_lt hlt, Nat.testBit_two_pow_self, Bool.or_true]

theorem State.overrunShown_rest (s : State) (late : List Nat) :
    ∃ f, s.overrunShown late = { s with regs := f, epoch := { s.epoch with overran := true } } := by
  refine List.foldlRecOn (motive := fun t : State => ∃ f, t = { s with regs := f, epoch := { s.epoch with overran := true } })
    late _ ⟨_, rfl⟩ fun t ht n _ => ?_
  obtain ⟨f, rfl⟩ := ht
  exact State.markLate_rest _ n

theorem State.overrunShown_rd (s : State) (late : List Nat) {m : RegName} (i : Nat) (hlo : m ≠ .EPOCH_LATE_LO)
    (hhi : m ≠ .EPOCH_LATE_HI) : (s.overrunShown late).rd m i = (s.setFlag Fld.EPOCH_STATUS_OVERRAN 0 true).rd m i :=
  List.foldlRecOn (motive := fun t : State => t.rd m i = (s.setFlag Fld.EPOCH_STATUS_OVERRAN 0 true).rd m i) late _ rfl
    fun _ ht n _ => (State.markLate_rd _ n i hlo hhi).trans ht

theorem State.overrunShown_late (s : State) {late : List Nat} {k : Nat} (hk : k ∈ late) (h32 : k < 32) :
    bitOf ((s.overrunShown late).rd .EPOCH_LATE_LO 0).toNat k = true :=
  foldl_establishes (inv := fun _ => True) (goal := fun t : State => bitOf (t.rd .EPOCH_LATE_LO 0).toNat k = true)
    (fun _ _ _ => trivial) (fun t _ => t.markLate_same h32) (fun _ n _ h => State.markLate_keeps h n) hk trivial

/-- A deadline that finds a channel behind, where OVERRUN leaves the channels their frames. -/
theorem exec_epochDeadline_overrun {s : State} {e c : Nat} {l : List Nat} (hl : s.platLive = true)
    (hp : s.epoch.phase = .switching e) (hb : s.behind = c :: l) (ho : s.epoch.overran = false)
    (hd : s.epoch.deadline ≤ s.usSince s.epoch.since) (hc : s.flag Fld.EPOCH_CTRL_OVERRUN 0 = false) :
    exec .epochDeadline s = .next ((s.overrunShown (c :: l)).report 0 0x2008 c) := by
  have hctrl : ((s.overrunShown (c :: l)).report 0 0x2008 c).flag Fld.EPOCH_CTRL_OVERRUN 0 = false := by
    rw [State.flag_congr (State.report_rd_unmarked _ rfl _ rfl), State.flag_congr (s.overrunShown_rd _ _ (by decide) (by decide)),
      State.flag_setFlag_apart _ _ _ _ _ _ (by decide) (by decide), hc]
  have hdue : ¬ (s.epoch.overran = true ∨ s.usSince s.epoch.since < s.epoch.deadline) := by
    rw [ho]
    exact not_or.mpr ⟨Bool.false_ne_true, Nat.not_lt.mpr hd⟩
  change Host.Outcome.next _ = _
  rw [State.when_of _ _ _ hl, hp, hb]
  refine congrArg Host.Outcome.next ((if_neg hdue).trans (if_pos ?_))
  exact congrArg Bool.not hctrl

/-! # Staging, quoins and lockstep information (R119, R121, R126) -/

theorem exec_fmQuoinWrite_open {req : Requester} {d : DieId} {s : State} (v : Word) (h : s.DieOpen req d.val) :
    exec (.fmQuoinWrite req d v) s = .next (s.orR .FM_QUOIN d.val v.toNat) :=
  congrArg Host.Outcome.next (State.dieAccess_open _ h)

theorem exec_fmLsinfoRead_open {req : Requester} {d : DieId} {s : State} (h : s.DieOpen req d.val) :
    exec (.fmLsinfoRead req d) s = .next (State.answer (s.readLsinfo d.val)) :=
  congrArg Host.Outcome.next (State.dieRead_open _ h)

/-- Settles O11: what each command of a switch shows in the package registers, and that the loops over dies and channels leave
those registers alone. -/
theorem epochSwitch : Obligations.EpochSwitch := by
  refine ⟨fun req v s ho hi => ⟨_, exec_epochGo_open v ho, ?go⟩, fun req v s ho hb => ⟨_, exec_epochGo_open v ho, ?again⟩,
    fun e s hl hp hr he => ⟨_, exec_epochChecksComplete_passed hl hp hr, ?passed⟩,
    fun e r s hl hp hr => ⟨_, exec_epochChecksComplete_refused hl hp hr, ?refused⟩,
    fun ch e s hl ho hp hb ht hn hc => ⟨_, exec_channelTakeEpoch_boundary hl hb, ?takes⟩,
    fun e c l s hl hp hb ho hd hc => ⟨_, exec_epochDeadline_overrun hl hp hb ho hd hc, ?overruns⟩,
    fun e s hl hp hr he => ⟨_, exec_epochSwitchComplete_ready hl hp hr, ?completes⟩,
    fun e s hl hp hr => exec_epochSwitchComplete_waits hl hp hr,
    fun d s hl => congrArg Host.Outcome.next (State.when_of _ _ _ hl), fun req d v s ho => ?quoin,
    fun req d s ho => exec_fmLsinfoRead_open ho⟩
  case go =>
    rw [State.writeEpochGo_idle v hi]
    exact ⟨rfl, rfl, rfl, rfl, rfl, fun d hd => s.get_quoinsAsked hd⟩
  case again =>
    rw [State.writeEpochGo_busy v hb]
    exact ⟨s.epochRefuse_refused _, s.epochRefuse_code _, s.epochRefuse_epoch _,
      fun n i hc hn _ => s.epochRefuse_rd _ i hc hn⟩
  case passed =>
    obtain ⟨hepoch, hsram, -⟩ := s.epochPass_kept e
    obtain ⟨hlateLo, hlateHi, hmapLo, hmapHi⟩ := s.switchAnnounced_clears e
    have hrd {n : RegName} (hc : n.counts = false) (hn : nextReg ⟨n, 0⟩ = false) := s.epochPass_rd e 0 hc hn
    exact ⟨congrArg Epoch.phase hepoch, (State.getF_eq_of_rd (hrd rfl rfl)).trans (s.switchAnnounced_target he),
      (State.flag_congr (hrd rfl rfl)).trans (s.switchAnnounced_switching e), (hrd rfl rfl).trans hlateLo,
      (hrd rfl rfl).trans hlateHi, (hrd rfl rfl).trans hmapLo, (hrd rfl rfl).trans hmapHi,
      (hsram.trans (State.switchStarted_sram _ _)).trans (s.switchAnnounced_sram e)⟩
  case refused =>
    have hregs {n : RegName} (i : Nat) (hc : n.counts = false) (hn : n ≠ .EPOCH_STATUS) :=
      State.epochRefuse_rd { s with epoch := { s.epoch with phase := .idle } } r i hc hn
    exact ⟨congrArg Epoch.phase (State.epochRefuse_epoch _ r), State.epochRefuse_refused _ r, State.epochRefuse_code _ r,
      hregs _ rfl (by decide), fun i => ⟨hregs _ rfl (by decide), hregs _ rfl (by decide)⟩⟩
  case takes =>
    rw [State.takeEpoch_taken hp ht ho hn hc, State.countCh]
    have hch := (State.count_ch _ (ch.val / 8) (0x40 * (ch.val % 8) + 0x2F) 1 _).trans (s.switchTaken_ch ch.val)
    refine ⟨congrArg Chan.took hch, congrArg Chan.epoch hch, ?_, fun n i hn hm => ?_⟩
    · rw [State.count_rd _ _ _ _ _ _ rfl]
      exact State.rd_wr_same _ _ _ _
    · rw [State.count_rd _ _ _ _ _ _ hn]
      exact State.rd_wr_name _ _ _ _ _ _ hm
  case overruns =>
    obtain ⟨f, hf⟩ := s.overrunShown_rest (c :: l)
    refine ⟨?_, ?_, ?_, fun k hk h32 => ?_⟩
    · rw [State.report_epoch, hf]
    · rw [State.flag_congr (State.report_rd_unmarked _ rfl _ rfl),
        State.flag_congr (s.overrunShown_rd _ _ (by decide) (by decide)), State.flag_setFlag_same _ _ _ _ (by decide) (by decide)]
    · rw [State.report_chans, hf]
    · rw [State.report_rd_unmarked _ rfl _ rfl]
      exact s.overrunShown_late hk h32
  case completes =>
    have hkept := State.epochDies_kept (s.switchShown e) (numsBelow s.nDies s.epochOn)
    have hstatus := hkept.rd .EPOCH_STATUS 0 rfl rfl
    have hcurrent := hkept.rd .EPOCH_CUR 0 rfl rfl
    exact ⟨rfl, (State.getF_eq_of_rd hcurrent).trans (s.switchShown_current he),
      (State.flag_congr hstatus).trans (s.switchShown_switching e), (State.flag_congr hstatus).trans (s.switchShown_done e)⟩
  case quoin =>
    rw [exec_fmQuoinWrite_open v ho, State.orR, BitVec.ofNat_toNat, BitVec.setWidth_eq]

end Sys2Proof.Machine

namespace Sys2Proof.Machine

/-! # What the witness engine leaves alone

Most effects of the engine touch neither core SRAM, nor what has been sent out, nor the channels, nor the galley's slots, and of
the registers only a few. Each shared operation is taken once, in the form "what was kept up to here is kept after it too". -/

/-- Core SRAM, what was sent out, the channels, the galley's slots and the registers outside `p` are as before. -/
structure WitnessKept (p : RegName → Nat → Bool) (s t : State) : Prop where
  sram : t.sram = s.sram
  outputs : t.outputs = s.outputs
  chans : t.chans = s.chans
  slots : ∀ d, (t.die d).slots = (s.die d).slots
  rd : ∀ n i, p n i = false → t.rd n i = s.rd n i

namespace WitnessKept

variable {p : RegName → Nat → Bool} {r s t : State}

theorem refl (s : State) : WitnessKept p s s := ⟨rfl, rfl, rfl, fun _ => rfl, fun _ _ _ => rfl⟩

theorem trans (h1 : WitnessKept p r s) (h2 : WitnessKept p s t) : WitnessKept p r t where
  sram := h2.sram.trans h1.sram
  outputs := h2.outputs.trans h1.outputs
  chans := h2.chans.trans h1.chans
  slots d := (h2.slots d).trans (h1.slots d)
  rd n i hp := (h2.rd n i hp).trans (h1.rd n i hp)

/-- The state outside registers, dies and channels may change. -/
theorem same (h : WitnessKept p r s) (hregs : t.regs = s.regs) (hvar : t.variant = s.variant) (hdies : t.dies = s.dies)
    (hsram : t.sram = s.sram) (hout : t.outputs = s.outputs) (hchans : t.chans = s.chans) : WitnessKept p r t := by
  refine h.trans ⟨hsram, hout, hchans, fun d => ?_, fun n i _ => State.rd_congr hregs hvar n i⟩
  rw [State.die, hdies, State.die]

theorem wr (h : WitnessKept p r s) {n : RegName} {i : Nat} {v : Word} (hp : p n i = true) : WitnessKept p r (s.wr n i v) := by
  refine h.trans ⟨rfl, rfl, rfl, fun _ => rfl, fun m j hm => s.rd_wr_other n m i j v ?_⟩
  by_contra hne
  obtain ⟨rfl, rfl⟩ : m = n ∧ j = i := by simpa [not_or] using hne
  rw [hp] at hm
  cases hm

theorem setF (h : WitnessKept p r s) {f : Field} {i x : Nat} (hp : p f.reg i = true) : WitnessKept p r (s.setF f i x) := h.wr hp

theorem setFlag (h : WitnessKept p r s) {f : Field} {i : Nat} {b : Bool} (hp : p f.reg i = true) :
    WitnessKept p r (s.setFlag f i b) := h.wr hp

theorem modDie (h : WitnessKept p r s) {d : Nat} {f : Die → Die} (hf : ∀ x, (f x).slots = x.slots) :
    WitnessKept p r (s.modDie d f) :=
  h.trans ⟨rfl, rfl, rfl, State.die_modDie_field Die.slots hf s d, fun _ _ _ => rfl⟩

theorem forEach (h : WitnessKept p r s) {f : State → Nat → State} {l : List Nat}
    (hf : ∀ {s : State} k, WitnessKept p r s → WitnessKept p r (f s k)) : WitnessKept p r (s.forEach l f) :=
  List.foldlRecOn l f h fun _ hs k _ => hf k hs

theorem ite {c : Prop} [Decidable c] (h1 : WitnessKept p r s) (h2 : WitnessKept p r t) :
    WitnessKept p r (if c then s else t) := by
  split
  · exact h1
  · exact h2

theorem mark (h : WitnessKept p r s) {m : Nat} : WitnessKept p r (s.mark m) := h.same rfl rfl rfl rfl rfl rfl

theorem count (h : WitnessKept p r s) {d e k : Nat} (hp : ∀ n i, n.counts = true → p n i = true) :
    WitnessKept p r (s.count d e k) := by
  obtain ⟨-, hbut, hother, hdie⟩ := s.count_counted d e k
  refine h.trans ⟨s.count_sram d e k, s.count_outputs d e k, s.count_chans d e k, fun x => ?_, fun n i hn => hbut n i ?_⟩
  · by_cases hx : x = d
    · rw [hx, hdie]
    · rw [hother x hx]
  · cases hc : n.counts with
    | false => rfl
    | true => rw [hp n i hc] at hn; cases hn

theorem treeReport (h : WitnessKept p r s) {d t : Nat} : WitnessKept p r (s.treeReport d t) := by
  unfold State.treeReport
  exact ite h (h.same rfl rfl rfl rfl rfl rfl)

theorem chReports (h : WitnessKept p r s) {n : Nat} : WitnessKept p r (s.chReports n) := h.forEach fun _ hs => hs.treeReport

end WitnessKept

/-! # The release plan (R151 to R155, R160, R167) -/

/-! ## Gates -/

/-- A gate that leaves OPEN changes TD_STATE of its trees and nothing else of the registers. -/
theorem WitnessKept.gateLeaves {p : RegName → Nat → Bool} {r s : State} (h : WitnessKept p r s) {g : Nat}
    (hp : ∀ t, p .TD_STATE t = true) : WitnessKept p r (s.gateLeaves g) := by
  unfold State.gateLeaves
  exact ite (h.forEach fun t hs => (hs.modDie (by intro; rfl)).setFlag (hp t)) h

theorem exec_gateOpen (g : LineId) (s : State) : exec (.gateOpen g) s = .next (s.when
    (s.platLive && decide (s.getF Fld.PG_STATUS_STATE g.val = 0) && s.flag Fld.PG_STATUS_ARMED g.val &&
      s.gateRooted g.val && s.gateReady g.val) fun s => s.setF Fld.PG_STATUS_STATE g.val 1) := rfl

theorem exec_pgCtrlWrite_open {req : Requester} {g : LineId} {s : State} (v : Word) (h : s.PlatOpen req) :
    exec (.pgCtrlWrite req g v) s = .next (s.writePgCtrl g.val v) :=
  congrArg Host.Outcome.next (State.platAccess_open _ h)

/-- What a write of PG_CTRL stores: a MODE of 0b11 as 0b00, and ARM as 0 (R153, R167). -/
def pgCtrlValue (old v : Word) : Word :=
  Fld.PG_CTRL_ARM.put (RegName.PG_CTRL.written old (if Fld.PG_CTRL_MODE.of v = 3 then Fld.PG_CTRL_MODE.put v 0 else v)) 0

/-- The first part of a write of PG_CTRL: the word is stored, and MODE 0b00 closes the gate. -/
def State.pgStored (s : State) (g : Nat) (v : Word) : State :=
  let s := s.wr .PG_CTRL g (pgCtrlValue (s.rd .PG_CTRL g) v)
  if s.getF Fld.PG_CTRL_MODE g = 0 then (s.gateLeaves g).setF Fld.PG_STATUS_STATE g 0 else s

/-- ARM takes a FAILED gate to CLOSED. -/
def State.pgRetried (s : State) (g : Nat) : State :=
  if s.getF Fld.PG_STATUS_STATE g = 2 then s.setF Fld.PG_STATUS_STATE g 0 else s

/-- The second part: ARM arms the gate, unless a level is to do so. -/
def State.pgArmed (s : State) (g : Nat) (v : Word) : State :=
  if Fld.PG_CTRL_ARM.of v = 0 then s
  else if (s.pgRetried g).getF Fld.PG_CTRL_ARM_SRC g = 1 then s.pgRetried g
  else (s.pgRetried g).setFlag Fld.PG_STATUS_ARMED g true

theorem State.writePgCtrl_eq (s : State) (g : Nat) (v : Word) :
    s.writePgCtrl g v = ((s.pgStored g v).pgArmed g v).gateArm g := rfl

/-- A field of read-write bits takes what a software write carries (R17). -/
theorem RegName.of_written {f : Field} {n : RegName} (hf : f.fits) (hrw : ∀ k < f.width, n.rwMask.testBit (f.lo + k) = true)
    (hc : ∀ k < f.width, n.w1cMask.testBit (f.lo + k) = false) (hs : ∀ k < f.width, n.w1sMask.testBit (f.lo + k) = false)
    (old v : Word) : f.of (n.written old v) = f.of v := by
  refine Nat.eq_of_testBit_eq fun k => ?_
  rw [Field.of, Field.of, testBit_bitsOf, testBit_bitsOf]
  by_cases hk : k < f.width
  · have hlo : f.lo + k < 32 := by unfold Field.fits at hf; omega
    change (_ && BitVec.getLsbD _ _) = (_ && BitVec.getLsbD _ _)
    have hmask (m : Nat) : (BitVec.ofNat 32 m)[f.lo + k] = m.testBit (f.lo + k) := by
      rw [BitVec.getElem_eq_testBit_toNat, BitVec.toNat_ofNat, Nat.testBit_mod_two_pow, decide_eq_true hlo, Bool.true_and]
    simp [RegName.written, hlo, hk, hmask, hrw k hk, hc k hk, hs k hk]
  · simp [hk]

theorem pgCtrlValue_arm (old v : Word) : Fld.PG_CTRL_ARM.of (pgCtrlValue old v) = 0 := by
  rw [pgCtrlValue, Field.of_put_same _ _ _ (by decide), Nat.zero_mod]

theorem pgCtrlValue_mode (old v : Word) : Fld.PG_CTRL_MODE.of (pgCtrlValue old v) =
    if Fld.PG_CTRL_MODE.of v = 3 then 0 else Fld.PG_CTRL_MODE.of v := by
  rw [pgCtrlValue, Field.of_put_other _ _ _ _ (by decide) (by decide),
    RegName.of_written (by decide) (by decide) (by decide) (by decide)]
  split
  · exact Field.of_put_same _ _ _ (by decide)
  · rfl

theorem pgCtrlValue_armSrc (old v : Word) : Fld.PG_CTRL_ARM_SRC.of (pgCtrlValue old v) = Fld.PG_CTRL_ARM_SRC.of v := by
  rw [pgCtrlValue, Field.of_put_other _ _ _ _ (by decide) (by decide),
    RegName.of_written (by decide) (by decide) (by decide) (by decide)]
  split
  · exact Field.of_put_other _ _ _ _ (by decide) (by decide)
  · rfl

/-- The registers that arming and closing gate g write: its status, and TD_STATE of its trees. -/
def gateReg (g : Nat) (n : RegName) (i : Nat) : Bool := decide (n = .TD_STATE) || (decide (n = .PG_STATUS) && decide (i = g))

theorem gateReg_status (g : Nat) : gateReg g .PG_STATUS g = true := by simp [gateReg]

/-- The write of PG_CTRL's own word. -/
def State.pgWritten (s : State) (g : Nat) (v : Word) : State := s.wr .PG_CTRL g (pgCtrlValue (s.rd .PG_CTRL g) v)

theorem State.pgStored_kept (s : State) (g : Nat) (v : Word) : WitnessKept (gateReg g) (s.pgWritten g v) (s.pgStored g v) :=
  .ite (((WitnessKept.refl _).gateLeaves fun t => by simp [gateReg]).setF (gateReg_status g)) (.refl _)

theorem State.pgRetried_kept (s : State) (g : Nat) : WitnessKept (gateReg g) s (s.pgRetried g) :=
  .ite ((WitnessKept.refl s).setF (gateReg_status g)) (.refl s)

theorem State.pgArmed_kept (s : State) (g : Nat) (v : Word) : WitnessKept (gateReg g) s (s.pgArmed g v) :=
  .ite (.refl s) (.ite (s.pgRetried_kept g) ((s.pgRetried_kept g).setFlag (gateReg_status g)))

theorem State.gateArm_kept (s : State) (g : Nat) : WitnessKept (gateReg g) s (s.gateArm g) :=
  .ite ((WitnessKept.refl s).setFlag (gateReg_status g)) (.refl s)

/-- Behind the word it stores, a write of PG_CTRL changes the gate's status and its trees alone. -/
theorem State.writePgCtrl_kept (s : State) (g : Nat) (v : Word) :
    WitnessKept (gateReg g) (s.pgWritten g v) (s.writePgCtrl g v) :=
  ((s.pgStored_kept g v).trans (State.pgArmed_kept _ g v)).trans (State.gateArm_kept _ g)

/-- PG_CTRL reads the word the write stores, at once and at the end. -/
theorem State.pgWritten_ctrl {s t : State} {g : Nat} {v : Word} (h : WitnessKept (gateReg g) (s.pgWritten g v) t) :
    t.rd .PG_CTRL g = pgCtrlValue (s.rd .PG_CTRL g) v := by
  rw [h.rd _ _ (by simp [gateReg]), State.pgWritten, State.rd_wr_same]

theorem State.writePgCtrl_getF (s : State) (g : Nat) (v : Word) {f : Field} (hf : f.reg = .PG_CTRL) :
    (s.writePgCtrl g v).getF f g = f.of (pgCtrlValue (s.rd .PG_CTRL g) v) := by
  rw [State.getF, hf, State.pgWritten_ctrl (s.writePgCtrl_kept g v)]

/-- Arming does not move a CLOSED gate. -/
theorem State.pgArmed_closed {s : State} {g : Nat} (v : Word) (h : s.getF Fld.PG_STATUS_STATE g = 0) :
    (s.pgArmed g v).getF Fld.PG_STATUS_STATE g = 0 := by
  have hretried : s.pgRetried g = s := if_neg (by rw [h]; decide)
  rw [State.pgArmed, hretried]
  split
  · exact h
  split
  · exact h
  · rw [State.getF_setFlag_apart _ _ _ _ _ _ (by decide) (by decide), h]

theorem State.gateArm_state (s : State) (g : Nat) : (s.gateArm g).getF Fld.PG_STATUS_STATE g = s.getF Fld.PG_STATUS_STATE g := by
  unfold State.gateArm
  split
  · exact State.getF_setFlag_apart _ _ _ _ _ _ (by decide) (by decide)
  · rfl

/-- MODE 0b00 closes the gate. -/
theorem State.writePgCtrl_closed {s : State} {g : Nat} {v : Word} (h : Fld.PG_CTRL_MODE.of v = 0) :
    (s.writePgCtrl g v).getF Fld.PG_STATUS_STATE g = 0 := by
  have hmode : (s.pgWritten g v).getF Fld.PG_CTRL_MODE g = 0 := by
    rw [State.getF, State.pgWritten_ctrl (.refl _), pgCtrlValue_mode, h, if_neg (by decide)]
  have hstored : (s.pgStored g v).getF Fld.PG_STATUS_STATE g = 0 := by
    rw [State.pgStored]
    exact (congrArg (fun t : State => t.getF Fld.PG_STATUS_STATE g) (if_pos hmode)).trans
      (State.getF_setF_same _ _ _ _ (by decide))
  rw [State.writePgCtrl_eq, State.gateArm_state, State.pgArmed_closed v hstored]

theorem State.gateArm_armed {s : State} {g : Nat} (h : s.flag Fld.PG_STATUS_ARMED g = true) :
    (s.gateArm g).flag Fld.PG_STATUS_ARMED g = true := by
  unfold State.gateArm
  split
  · exact State.flag_setFlag_same _ _ _ _ (by decide) (by decide)
  · exact h

/-- ARM arms a gate whose ARM_SRC is 0b00. -/
theorem State.writePgCtrl_armed {s : State} {g : Nat} {v : Word} (ha : Fld.PG_CTRL_ARM.of v = 1)
    (hs : Fld.PG_CTRL_ARM_SRC.of v = 0) : (s.writePgCtrl g v).flag Fld.PG_STATUS_ARMED g = true := by
  have hsrc : ((s.pgStored g v).pgRetried g).getF Fld.PG_CTRL_ARM_SRC g = 0 := by
    rw [State.getF, State.pgWritten_ctrl ((s.pgStored_kept g v).trans (State.pgRetried_kept _ g)), pgCtrlValue_armSrc, hs]
  rw [State.writePgCtrl_eq]
  refine State.gateArm_armed ?_
  rw [State.pgArmed, ha, hsrc, if_neg (by decide), if_neg (by decide)]
  exact State.flag_setFlag_same _ _ _ _ (by decide) (by decide)

/-! ## Lines and clients -/

theorem exec_rpLineWrite_open {req : Requester} {k : LineId} {s : State} (v : Word) (h : s.PlatOpen req) :
    exec (.rpLineWrite req k v) s = .next (s.writeRpLine k.val v) :=
  congrArg Host.Outcome.next (State.platAccess_open _ h)

/-- REQUEST does not bear on a forced hold. -/
theorem State.forcedHold_setRequest (s : State) (k : Nat) (b : Bool) :
    (s.setFlag Fld.RP_LINE_REQUEST k b).forcedHold = s.forcedHold := by
  rw [State.forcedHold, State.flag_setFlag_apart _ _ _ _ _ _ (by decide) (by decide),
    State.flag_setFlag_apart _ _ _ _ _ _ (by decide) (by decide), State.forcedHold]

/-- A write of RP_LINE that asks for no release of HOLD, or under a forced hold, changes REQUEST alone (R152, R412, R423). -/
theorem State.writeRpLine_request {s : State} {k : Nat} {v : Word} (h : bitOf v.toNat 2 = false ∨ s.forcedHold = true) :
    s.writeRpLine k v = s.setFlag Fld.RP_LINE_REQUEST k (bitOf v.toNat 0) := by
  refine if_neg ?_
  rw [State.forcedHold_setRequest]
  rintro ⟨hbit, hfree⟩
  obtain h | h := h
  · rw [h] at hbit
    cases hbit
  · rw [h] at hfree
    cases hfree

theorem State.writeRpLine_release {s : State} {k : Nat} {v : Word} (hv : bitOf v.toNat 2 = true) (hf : s.forcedHold = false) :
    s.writeRpLine k v = (s.setFlag Fld.RP_LINE_REQUEST k (bitOf v.toNat 0)).setFlag Fld.RP_LINE_HOLD k false :=
  if_pos ⟨hv, by rw [State.forcedHold_setRequest, hf]; rfl⟩

theorem exec_releasePlanWrite_open {req : Requester} {r : PlanReg} {s : State} (v : Word) (h : s.PlatOpen req) :
    exec (.releasePlanWrite req r v) s = .next (match r with
      | .gates k => s.wr .RP_GATES k.val v
      | .client ch => s.wr .RP_CLIENT ch.val v) := congrArg Host.Outcome.next (State.platAccess_open _ h)

theorem exec_witConsumedRead_open {req : Requester} {ch : ChanId} {s : State} (h : s.DieOpen req (ch.val / 8)) :
    exec (.witConsumedRead req ch) s = .next (State.answer (s.readConsumed ch.val)) :=
  congrArg Host.Outcome.next (State.dieRead_open _ h)

/-! ## The end of a RESTART (R160, steps 4 and 5) -/

theorem exec_restartClear_due {ch : ChanId} {r : Restart} {s : State} (hl : s.chLive ch.val = true) (hp : s.platLive = true)
    (hr : (s.ch ch.val).restart = some r) (ha : r.awaits = []) (hs : r.stuck = [])
    (ht : 1000 * max 1 (s.getF Fld.WIT_CHCFG_RESTART_MS ch.val) ≤ s.usSince r.sinceUs) :
    exec (.restartClear ch) s = .next (s.restartEnd ch.val) := by
  refine congrArg Host.Outcome.next ((State.when_of _ _ _ (by rw [hl, hp]; rfl)).trans ?_)
  rw [hr]
  exact if_pos ⟨ha, hs, ht⟩

/-- The channel's RESTART is over, and WIT_CHSTAT shows it. -/
def State.restartShown (s : State) (n : Nat) : State :=
  (s.modCh n fun c => { c with restart := none }).setFlag Fld.WIT_CHSTAT_RESTARTING n false

/-- Behind that, the end of a RESTART changes RP_LINE alone. -/
theorem State.restartEnd_kept {s : State} {n : Nat} {r : Restart} (h : (s.ch n).restart = some r) :
    WitnessKept (fun m _ => decide (m = .RP_LINE)) (s.restartShown n) (s.restartEnd n) := by
  unfold State.restartEnd
  rw [h]
  exact ((WitnessKept.refl _).forEach fun _ hs => hs.setFlag rfl).chReports

theorem State.restartEnd_restart {s : State} {n : Nat} {r : Restart} (h : (s.ch n).restart = some r) :
    ((s.restartEnd n).ch n).restart = none := by
  rw [State.ch, (State.restartEnd_kept h).chans]
  exact congrArg Chan.restart (s.ch_modCh_same n fun c => { c with restart := none })

/-- Settles O16: a gate opens by its condition alone; a write of PG_CTRL is the word it stores and what follows at the gate; the
other registers of the plan are written as they stand; the end of a RESTART is WIT_CHSTAT and RP_LINE. -/
theorem releasePlan : Obligations.ReleasePlan := by
  refine ⟨fun g s hp hs ha hr hc => ?opens, fun g s h => ?stays, fun req g v s ho => ⟨_, exec_pgCtrlWrite_open v ho, ?ctrl⟩,
    fun req k v s ho h => ?_, fun req k v s ho hv hf => ?_, fun req k v s ho => exec_releasePlanWrite_open v ho,
    fun req ch v s ho => exec_releasePlanWrite_open v ho,
    fun ch r s hl hp hr ha hs ht => ⟨_, exec_restartClear_due hl hp hr ha hs ht, ?cleared⟩,
    fun req ch s ho => exec_witConsumedRead_open ho⟩
  case opens =>
    rw [exec_gateOpen, State.when_of]
    simp only [hp, hs, ha, hr, hc, decide_true, Bool.and_self]
  case stays =>
    have hshut : (s.platLive && decide (s.getF Fld.PG_STATUS_STATE g.val = 0) && s.flag Fld.PG_STATUS_ARMED g.val &&
        s.gateRooted g.val && s.gateReady g.val) = false := by
      obtain h | h | h | h := h <;> simp [h]
    rw [exec_gateOpen, hshut, State.when_false]
  case ctrl =>
    have hkept := s.writePgCtrl_kept g.val v
    refine ⟨?_, ?_, State.writePgCtrl_closed, State.writePgCtrl_armed, fun h hne => ⟨?_, ?_⟩, hkept.sram, hkept.outputs⟩
    · rw [State.writePgCtrl_getF _ _ _ rfl, pgCtrlValue_arm]
    · rw [State.writePgCtrl_getF _ _ _ rfl, pgCtrlValue_mode]
    · rw [hkept.rd _ _ (by simp [gateReg]), State.pgWritten, State.rd_wr_other _ _ _ _ _ _ (Or.inr hne)]
    · rw [hkept.rd _ _ (by simp [gateReg, hne]), State.pgWritten, State.rd_wr_name _ _ _ _ _ _ (by decide)]
  case cleared =>
    have hkept := State.restartEnd_kept hr
    refine ⟨State.restartEnd_restart hr, ?_, hkept.outputs, fun n i hstat hline => ?_⟩
    · exact (State.flag_congr (hkept.rd _ _ rfl)).trans (State.flag_setFlag_same _ _ _ _ (by decide) (by decide))
    · rw [hkept.rd _ _ (by simp [hline]), State.restartShown, State.rd_setFlag _ _ _ _ _ _ hstat, State.modCh_rd]
  · rw [exec_rpLineWrite_open v ho, State.writeRpLine_request h]
  · rw [exec_rpLineWrite_open v ho, State.writeRpLine_release hv hf]

end Sys2Proof.Machine

namespace Sys2Proof.Machine

/-! # Registers that events count, and a few more -/

/-- The registers that count events, and those of a list. -/
def countsOr (l : List RegName) (n : RegName) (_ : Nat) : Bool := n.counts || decide (n ∈ l)

theorem countsOr_counts {l : List RegName} (n : RegName) (i : Nat) (h : n.counts = true) : countsOr l n i = true := by
  rw [countsOr, h, Bool.true_or]

theorem countsOr_mem {l : List RegName} {n : RegName} {i : Nat} (h : n ∈ l) : countsOr l n i = true := by
  rw [countsOr, decide_eq_true h, Bool.or_true]

theorem countsOr_eq_false {l : List RegName} {n : RegName} {i : Nat} (hc : n.counts = false) (h : n ∉ l) :
    countsOr l n i = false := by
  rw [countsOr, hc, decide_eq_false h, Bool.or_false]

theorem countsOr_mono {l m : List RegName} (h : l ⊆ m) (n : RegName) (i : Nat) (hn : countsOr l n i = true) :
    countsOr m n i = true := by
  cases hc : n.counts with
  | true => exact countsOr_counts n i hc
  | false =>
    rw [countsOr, hc, Bool.false_or, decide_eq_true_eq] at hn
    exact countsOr_mem (h hn)

namespace WitnessKept

variable {p : RegName → Nat → Bool} {l : List RegName} {r s t : State}

theorem mono {q : RegName → Nat → Bool} (h : WitnessKept q s t) (hqp : ∀ n i, q n i = true → p n i = true) :
    WitnessKept p s t :=
  ⟨h.sram, h.outputs, h.chans, h.slots, fun n i hp => h.rd n i (Bool.eq_false_iff.mpr fun hq =>
    Bool.eq_false_iff.mp hp (hqp n i hq))⟩

theorem counted {d : Nat} (h : WitnessKept (countsOr l) r s) (hc : Counted d s t) : WitnessKept (countsOr l) r t := by
  obtain ⟨hrest, hbut, hother, hdie⟩ := hc
  refine h.trans ⟨hrest.sram, hrest.outputs, hrest.chans, fun x => ?_, fun n i hn => hbut n i ?_⟩
  · by_cases hx : x = d
    · rw [hx, hdie]
    · rw [hother x hx]
  · exact Bool.eq_false_iff.mpr fun hc => Bool.eq_false_iff.mp hn (countsOr_counts n i hc)

/-- A report writes the fault register of its code. -/
theorem report {d code source : Nat} (h : WitnessKept (countsOr l) r s)
    (hb : ∀ n i b, faultBit d code source = some (n, i, b) → n ∈ l) : WitnessKept (countsOr l) r (s.report d code source) := by
  refine h.trans ⟨s.report_sram _ _ _, s.report_outputs _ _ _, s.report_chans _ _ _, fun e => ?_, fun n i hn => ?_⟩
  · by_cases he : e = d
    · rw [he, State.report_die]
    · rw [State.report_die_other _ _ _ _ _ he]
  · refine s.report_rd d code source n i (Bool.eq_false_iff.mpr fun hc => Bool.eq_false_iff.mp hn (countsOr_counts n i hc))
      fun b hm => Bool.eq_false_iff.mp hn (countsOr_mem (hb n i b hm))

end WitnessKept

/-! # Tree descriptors (R135, R166) -/

theorem exec_descriptorWrite_open {req : Requester} {d : DieId} {t : TreeId} {r : TdReg} {s : State} (v : Word)
    (h : s.DieOpen req d.val) : exec (.descriptorWrite req d t r v) s = .next (s.writeTd d.val t.val r v) :=
  congrArg Host.Outcome.next (State.dieAccess_open _ h)

/-- New health records change no register and no slot. -/
theorem WitnessKept.makeRecords {p : RegName → Nat → Bool} {r s : State} (h : WitnessKept p r s) {d : Nat} :
    WitnessKept p r (s.makeRecords d) := by
  refine h.forEach fun k hs => ?_
  split
  · exact hs.modDie (by intro; rfl)
  · exact hs

/-- The value a descriptor write would store. -/
def State.tdNew (s : State) (d t : Nat) (r : TdReg) (v : Word) : Word :=
  tdValue r (s.rd (tdRegName r) (d * 256 + t)) v

theorem State.writeTd_free {s : State} {d t : Nat} (r : TdReg) (v : Word) (hl : s.treeLocked d t = false)
    (hs : s.getF Fld.TD_STATE_STATE (d * 256 + t) = 0 ∨ s.getF Fld.TD_STATE_STATE (d * 256 + t) = 3) :
    s.writeTd d t r v = (s.wr (tdRegName r) (d * 256 + t) (s.tdNew d t r v)).makeRecords d := by
  unfold State.writeTd
  simp only [hl, Bool.false_eq_true, if_false, if_pos hs]
  rfl

theorem State.writeTd_locked {s : State} {d t : Nat} (r : TdReg) (v : Word) (hl : s.treeLocked d t = true) :
    s.writeTd d t r v = (if s.tdNew d t r v = s.rd (tdRegName r) (d * 256 + t) then s
      else s.witFault d t (s.treeCh (d * 256 + t)) 0x3009).makeRecords d := by
  unfold State.writeTd
  simp only [hl, if_true]
  rfl

/-! ## Witness faults (Table 6.7) -/

theorem faultBit_wit {code : Nat} (hc : code / 0x1000 = 3) (d source : Nat) :
    faultBit d code source = some (.WIT_FAULT, d, code % 0x1000 - 1) := by
  unfold faultBit
  simp only [hc]

theorem WitnessKept.witFault {l : List RegName} {r s : State} (h : WitnessKept (countsOr l) r s) {d t c code : Nat}
    (hc : code / 0x1000 = 3) (hl : .WIT_FAULT ∈ l) : WitnessKept (countsOr l) r (s.witFault d t c code) := by
  refine h.report fun n i b hb => ?_
  rw [faultBit_wit hc] at hb
  cases hb
  exact hl

theorem State.witFault_bit (s : State) (d t c : Nat) {code : Nat} (hc : code / 0x1000 = 3) :
    (s.witFault d t c code).rd .WIT_FAULT d = s.rd .WIT_FAULT d ||| BitVec.ofNat 32 (2 ^ (code % 0x1000 - 1)) :=
  s.report_bit d code _ .WIT_FAULT d _ rfl (faultBit_wit hc d _)

/-! # Vault reads (R172, R173) -/

theorem State.count_zero (s : State) (d e : Nat) : s.count d e 0 = s := if_pos (Or.inl rfl)

/-- What bears on whether the fabric reaches a die. -/
theorem State.reached_congr {s t : State} {e : Nat} (hv : t.variant = s.variant) (hq : t.seq = s.seq)
    (hi : (t.die e).inReset = (s.die e).inReset) (hr : (t.die e).reachable = (s.die e).reachable) :
    t.reached e = s.reached e := by
  unfold State.reached State.live State.present State.nDies State.stopped
  rw [hv, hq, hi, hr]

theorem Counted.reached {d e : Nat} {s t : State} (h : Counted d s t) : t.reached e = s.reached e := by
  obtain ⟨hrest, -, hother, hdie⟩ := h
  by_cases he : e = d
  · exact State.reached_congr hrest.variant hrest.seq (by rw [he, hdie]) (by rw [he, hdie])
  · exact State.reached_congr hrest.variant hrest.seq (by rw [hother e he]) (by rw [hother e he])

/-- An attempt that delivers its bytes without a check that failed and without page status is good, where the device's die is in
reach. -/
theorem State.attemptLevel_plain {s : State} {v : Nat} (raw : List Byte) (h : 2 ≤ v → s.reached 1 = true) :
    s.attemptLevel v { data := some raw } = 1 := by
  simp [State.attemptLevel, runLost]
  exact h

theorem State.attemptLevel_none (s : State) (v : Nat) : s.attemptLevel v { data := none } = 0 := by
  simp [State.attemptLevel]

/-- A device that delivers at the first attempt is asked once. -/
theorem State.vaultTry_plain {s : State} {v : Nat} (raw : List Byte) (l : VaultGet) (h : 2 ≤ v → s.reached 1 = true) :
    s.attempts v ({ data := some raw } :: l) = [{ data := some raw }] ∧
      s.vaultTry v ({ data := some raw } :: l) = (some (raw, false), s) := by
  have hlevel := State.attemptLevel_plain raw h
  have hone : s.attempts v ({ data := some raw } :: l) = [{ data := some raw }] := by
    simp [State.attempts, hlevel]
  refine ⟨hone, ?_⟩
  rw [State.vaultTry, hone]
  simp [hlevel, State.attemptChecks, runFails, runLost, State.forEach]

/-- A device that nothing is heard of fails three times, and no check of what arrived fails. -/
theorem State.vaultTry_nil (s : State) (v : Nat) : s.vaultTry v [] = (none, s) := by
  simp [State.vaultTry, State.attempts, State.attemptLevel_none, State.attemptChecks, runFails, runLost, State.forEach,
    List.replicate]

/-- A vault read that its first attempt delivers is one counted read. -/
theorem State.vaultGet_plain {s : State} (d : Nat) {v : Nat} (addr : Nat) (raw : List Byte) (l : VaultGet)
    (h : 2 ≤ v → s.reached 1 = true) :
    s.vaultGet d v addr ({ data := some raw } :: l) = (some raw, s.count d 0x353 1) := by
  have hcounted : 2 ≤ v → (s.count d 0x353 1).reached 1 = true := fun hv => (s.count_counted _ _ _).reached.trans (h hv)
  rw [State.vaultGet, (State.vaultTry_plain raw l h).1, (State.vaultTry_plain raw l hcounted).2]
  simp [State.count_zero]

/-- One that nothing is heard of fails on the device and on its mirror: counts, and the report of 0x4004 (R173). -/
theorem State.vaultGet_nil (s : State) (d v addr : Nat) :
    ∃ t, Counted d s t ∧ s.vaultGet d v addr [] = (none, t.report d 0x4004 (vaultSource v)) := by
  rw [State.vaultGet, State.vaultTry_nil]
  dsimp only
  split
  · exact ⟨_, (s.count_counted _ _ _).trans (State.count_counted _ _ _ _), rfl⟩
  · rw [List.drop_nil, State.vaultTry_nil]
    exact ⟨_, (s.count_counted _ _ _).trans (State.count_counted _ _ _ _), rfl⟩

/-! # The check of a group (R130, R148) -/

theorem State.trusted_congr {s t : State} {d : Nat} (h : (t.die d).cache = (s.die d).cache) (x l k : Nat) :
    t.trusted d x l k = s.trusted d x l k := by
  rw [State.trusted, h, State.trusted]

/-- Moving to the front of a list the members that pass a test leaves the first that passes another, where the first test holds of
all that pass the second, or of none. -/
theorem find?_filter_front {α : Type} {p q : α → Bool} (h : (∀ a, q a = true → p a = true) ∨ ∀ a, q a = true → p a = false)
    (l : List α) : (l.filter p ++ l.filter fun a => !p a).find? q = l.find? q := by
  have hnone : l.find? (fun _ => false) = none := List.find?_eq_none.mpr (by simp)
  rw [List.find?_append, List.find?_filter, List.find?_filter]
  obtain h | h := h
  · have hfront : (fun a => decide (p a = true ∧ q a = true)) = q := by
      funext a
      cases hq : q a <;> simp [h, hq]
    have hback : (fun a => decide ((!p a) = true ∧ q a = true)) = fun _ => false := by
      funext a
      cases hq : q a <;> simp [h, hq]
    rw [hfront, hback, hnone, Option.or_none]
  · have hfront : (fun a => decide (p a = true ∧ q a = true)) = fun _ => false := by
      funext a
      cases hq : q a <;> simp [h, hq]
    have hback : (fun a => decide ((!p a) = true ∧ q a = true)) = q := by
      funext a
      cases hq : q a <;> simp [h, hq]
    rw [hfront, hback, hnone, Option.none_or]

theorem Line.isAt_iff {y : Line} {t l k : Nat} : y.isAt t l k = true ↔ y.tree = t ∧ y.level = l ∧ y.index = k := by
  simp [Line.isAt, and_assoc]

/-- The use of a line does not change which lines are trusted (R137). -/
theorem State.useLine_trusted (s : State) (d t l k e x m j : Nat) :
    (s.useLine d t l k).trusted e x m j = s.trusted e x m j := by
  by_cases he : e = d
  · subst he
    rw [State.trusted, State.useLine, State.die_modDie_same]
    refine find?_filter_front ?_ _
    by_cases hkey : x = t ∧ m = l ∧ j = k
    · obtain ⟨rfl, rfl, rfl⟩ := hkey
      exact Or.inl fun y hy => (Bool.and_eq_true_iff.mp hy).1
    · refine Or.inr fun y hy => Bool.eq_false_iff.mpr fun hused => hkey ?_
      obtain ⟨rfl, rfl, rfl⟩ := Line.isAt_iff.mp (Bool.and_eq_true_iff.mp hy).1
      exact Line.isAt_iff.mp hused
  · refine State.trusted_congr ?_ _ _ _
    rw [State.useLine, State.modDie, State.die_setDie_other _ _ _ _ he]

theorem State.report_trusted (s : State) (d code source e x l k : Nat) :
    (s.report d code source).trusted e x l k = s.trusted e x l k := by
  refine State.trusted_congr ?_ x l k
  by_cases he : e = d
  · rw [he, State.report_die]
  · rw [State.report_die_other _ _ _ _ _ he]

theorem State.report_reached (s : State) (d code source e : Nat) : (s.report d code source).reached e = s.reached e := by
  refine State.reached_congr (s.report_variant _ _ _) (s.report_seq _ _ _) ?_ (s.report_reachable _ _ _ _)
  by_cases he : e = d
  · rw [he, State.report_die]
  · rw [State.report_die_other _ _ _ _ _ he]

/-- The registers that a group's fetch and check may write: those of the die's lanes, and the fault of a fence stall. -/
def fetchRegs : List RegName := [.CF_FAULT, .HP_MIGRATED, .HP_STATUS]

/-- What a group's fetch and check leave alone while they go on: the tree's descriptor and the lines that are trusted, what the
fabric reaches, and what the engine's other work leaves alone. -/
structure FetchKept (s t : State) : Prop where
  kept : WitnessKept (countsOr fetchRegs) s t
  trusted : ∀ d x l k, t.trusted d x l k = s.trusted d x l k
  reached : ∀ e, t.reached e = s.reached e

namespace FetchKept

variable {r s t : State}

theorem refl (s : State) : FetchKept s s := ⟨.refl s, fun _ _ _ _ => rfl, fun _ => rfl⟩

theorem trans (h1 : FetchKept r s) (h2 : FetchKept s t) : FetchKept r t where
  kept := h1.kept.trans h2.kept
  trusted d x l k := (h2.trusted d x l k).trans (h1.trusted d x l k)
  reached e := (h2.reached e).trans (h1.reached e)

theorem counted {d : Nat} (h : FetchKept r s) (hc : Counted d s t) : FetchKept r t := by
  refine h.trans ⟨(WitnessKept.refl s).counted hc, fun e x l k => State.trusted_congr ?_ x l k, fun e => hc.reached⟩
  obtain ⟨-, -, hother, hdie⟩ := hc
  by_cases he : e = d
  · rw [he, hdie]
  · rw [hother e he]

theorem wr (h : FetchKept r s) {n : RegName} {i : Nat} {v : Word} (hn : n ∈ fetchRegs) :
    FetchKept r (s.wr n i v) :=
  h.trans ⟨(WitnessKept.refl s).wr (countsOr_mem hn), fun _ _ _ _ => rfl, fun _ => rfl⟩

theorem setF (h : FetchKept r s) {f : Field} {i x : Nat} (hn : f.reg ∈ fetchRegs) :
    FetchKept r (s.setF f i x) := h.wr hn

theorem setFlag (h : FetchKept r s) {f : Field} {i : Nat} {b : Bool} (hn : f.reg ∈ fetchRegs) :
    FetchKept r (s.setFlag f i b) := h.wr hn

theorem report (h : FetchKept r s) {d code source : Nat}
    (hb : ∀ n i b, faultBit d code source = some (n, i, b) → n ∈ fetchRegs) :
    FetchKept r (s.report d code source) := by
  refine h.trans ⟨(WitnessKept.refl s).report hb, fun e x l k => ?_, fun e => ?_⟩
  · exact State.report_trusted ..
  · exact State.report_reached ..

theorem useLine (h : FetchKept r s) {d t l k : Nat} : FetchKept r (s.useLine d t l k) := by
  refine h.trans ⟨(WitnessKept.refl s).modDie (by intro; rfl), s.useLine_trusted d t l k, fun e => ?_⟩
  exact State.reached_congr rfl rfl (State.die_modDie_field Die.inReset (by intro; rfl) _ _ _)
    (State.die_modDie_field Die.reachable (by intro; rfl) _ _ _)

/-- A mismatch is confirmed under a new generation (R223). -/
theorem newGen (h : FetchKept r s) {d : Nat} : FetchKept r (s.newGen d) := by
  unfold State.newGen
  split
  · split
    · exact h
    · refine (h.setFlag (by decide)).report fun n i b hb => ?_
      cases hb
      decide
  · refine setF (counted (d := d) ?_ (State.count_counted _ _ _ _)) (by decide)
    unfold State.bump
    dsimp only
    split
    · exact h
    · exact h.wr (by decide)

end FetchKept

/-- The fault of a group whose check failed comes on top. -/
theorem FetchKept.witFault {s u : State} (h : FetchKept s u) {d t c code : Nat} (hc : code / 0x1000 = 3) :
    WitnessKept (countsOr (.WIT_FAULT :: fetchRegs)) s (u.witFault d t c code) :=
  (h.kept.mono (countsOr_mono (List.subset_cons_self _ _))).witFault hc List.mem_cons_self

/-! # GROUP_FETCH_DONE (R139, R148) -/

/-- The group as a fetch that returns `raw` gives it: the zero digests beyond the level stand for themselves (R129). -/
def State.groupOf (s : State) (d t l k : Nat) (raw : List Byte) : List Byte :=
  groupBytes (s.getF Fld.TD_LEAVES_LEAF_COUNT (d * 256 + t)) l k raw

/-- The message that a group hashes as (R128). -/
def State.groupMessage (s : State) (d t l k : Nat) (raw : List Byte) : List Byte :=
  nodeMessage (s.rd .TD_REGION (d * 256 + t)).toNat (l + 1) k (s.groupOf d t l k raw)

/-- A group that is to be fetched: no copy of it is trusted, and `v` vouches for it. -/
structure GroupAwaited (s : State) (d t l k : Nat) (v : Digest) : Prop where
  untrusted : s.trusted d t l k = none
  vouched : s.vouches d t l k = some v

section FetchView

variable {s u : State} (h : FetchKept s u)
include h

theorem FetchKept.rd_eq {n : RegName} (i : Nat) (hc : n.counts = false) (hn : n ∉ fetchRegs) :
    u.rd n i = s.rd n i := h.kept.rd n i (countsOr_eq_false hc hn)

theorem FetchKept.groupOf (d t l k : Nat) (raw : List Byte) : u.groupOf d t l k raw = s.groupOf d t l k raw := by
  rw [State.groupOf, State.getF, h.rd_eq _ rfl (by decide), State.groupOf, State.getF]

theorem FetchKept.groupMessage (d t l k : Nat) (raw : List Byte) : u.groupMessage d t l k raw = s.groupMessage d t l k raw := by
  rw [State.groupMessage, h.rd_eq _ rfl (by decide), h.groupOf, State.groupMessage]

theorem FetchKept.vouches (d t l k : Nat) : u.vouches d t l k = s.vouches d t l k := by
  have hroot : u.treeRoot (d * 256 + t) = s.treeRoot (d * 256 + t) := by
    unfold State.treeRoot
    simp only [h.rd_eq _ rfl (by decide : RegName.TD_ROOT ∉ fetchRegs)]
  unfold State.vouches State.getF
  simp only [h.rd_eq _ rfl (by decide : Fld.TD_STATE_DEPTH.reg ∉ fetchRegs), hroot,
    h.trusted]

theorem FetchKept.awaited {d t l k : Nat} {v : Digest} (ha : GroupAwaited s d t l k v) : GroupAwaited u d t l k v :=
  ⟨(h.trusted d t l k).trans ha.untrusted, (h.vouches d t l k).trans ha.vouched⟩

end FetchView

theorem State.hashCheck_match {s : State} {m : List Byte} {want : Digest} (d : Nat) (h : hashOf m = want) :
    s.hashCheck d m want {} = (true, s) := by
  simp [State.hashCheck, State.forEach, h]

theorem State.hashCheck_mismatch {s : State} {m : List Byte} {want : Digest} (d : Nat) (h : hashOf m ≠ want) :
    s.hashCheck d m want {} = (false, s.newGen d) := by
  simp [State.hashCheck, State.forEach, State.confirmRun, h]

/-- A fetched group whose hash is the digest that vouches for it is cached. -/
theorem groupTry_pass {s : State} {d t l k : Nat} {v : Digest} {raw : List Byte} (ha : GroupAwaited s d t l k v)
    (h : hashOf (s.groupMessage d t l k raw) = v) : State.groupTry d t l k {} (some raw, s) =
      (some true, (s.useLine d t (l + 1) (k / 8)).cacheGroup d t l k (s.groupOf d t l k raw)) := by
  have hcheck : s.groupCheck d t l k (s.groupOf d t l k raw) {} = (true, s.useLine d t (l + 1) (k / 8)) := by
    rw [State.groupCheck, ha.untrusted, ha.vouched]
    exact State.hashCheck_match d h
  unfold State.groupTry
  dsimp only
  rw [← State.groupOf, hcheck]
  rfl

/-- Another one is not, and the check has taken a new generation. -/
theorem groupTry_fail {s : State} {d t l k : Nat} {v : Digest} {raw : List Byte} (ha : GroupAwaited s d t l k v)
    (h : hashOf (s.groupMessage d t l k raw) ≠ v) : State.groupTry d t l k {} (some raw, s) =
      (some false, (s.useLine d t (l + 1) (k / 8)).newGen d) := by
  have hcheck : s.groupCheck d t l k (s.groupOf d t l k raw) {} = (false, (s.useLine d t (l + 1) (k / 8)).newGen d) := by
    rw [State.groupCheck, ha.untrusted, ha.vouched]
    exact State.hashCheck_mismatch d h
  unfold State.groupTry
  dsimp only
  rw [← State.groupOf, hcheck]
  rfl

/-- One counted fetch of a group, which its first attempt delivers. -/
def State.groupRead (s : State) (d : Nat) : State := (s.count d 0x321 1).count d 0x353 1

theorem State.groupRead_kept (s : State) (d : Nat) : FetchKept s (s.groupRead d) :=
  ((FetchKept.refl s).counted (s.count_counted _ _ _)).counted (State.count_counted _ _ _ _)

theorem State.groupRead_counted (s : State) (d : Nat) (l : List RegName) : WitnessKept (countsOr l) s (s.groupRead d) :=
  ((WitnessKept.refl s).counted (s.count_counted _ _ _)).counted (State.count_counted _ _ _ _)

theorem State.groupRead_eq {s : State} (d : Nat) {v : Nat} (addr : Nat) (raw : List Byte) (h : 2 ≤ v → s.reached 1 = true) :
    (s.count d 0x321 1).vaultGet d v addr [{ data := some raw }] = (some raw, s.groupRead d) :=
  State.vaultGet_plain d addr raw [] fun hv => (s.count_counted _ _ _).reached.trans (h hv)

/-- The group's check has failed once: a fetch, and a generation for the confirmation. -/
def State.groupMissed (s : State) (d t l k : Nat) : State := ((s.groupRead d).useLine d t (l + 1) (k / 8)).newGen d

theorem State.groupMissed_kept (s : State) (d t l k : Nat) : FetchKept s (s.groupMissed d t l k) :=
  (s.groupRead_kept d).useLine.newGen

theorem State.groupFetch_first {s : State} {d t l k : Nat} {v : Digest} {raw : List Byte} (second mirror : VaultGet)
    (ha : GroupAwaited s d t l k v) (hv : 2 ≤ s.treeDev (d * 256 + t) → s.reached 1 = true)
    (h : hashOf (s.groupMessage d t l k raw) = v) :
    s.groupFetch d t l k { first := [{ data := some raw }], second := second, mirror := mirror } =
      (⟨true, false, false⟩, ((s.groupRead d).useLine d t (l + 1) (k / 8)).cacheGroup d t l k (s.groupOf d t l k raw)) := by
  have hkept := s.groupRead_kept d
  unfold State.groupFetch
  dsimp only
  rw [State.groupRead_eq d _ raw hv]
  have htry := groupTry_pass (hkept.awaited ha) (raw := raw) (by rw [hkept.groupMessage, h])
  simp only [List.getD_nil, htry, hkept.groupOf]

theorem State.treeDev_congr {s t : State} {i : Nat} (h : t.rd .TD_CFG i = s.rd .TD_CFG i) : t.treeDev i = s.treeDev i := by
  rw [State.treeDev, State.getF, State.getF, h, State.treeDev, State.getF, State.getF]

theorem State.treeMirror_congr {s t : State} {i : Nat} (h : t.rd .TD_CFG i = s.rd .TD_CFG i)
    (hv : ∀ j, t.rd .MC_VCFG j = s.rd .MC_VCFG j) : t.treeMirror i = s.treeMirror i := by
  rw [State.treeMirror, State.treeDev_congr h, State.flag_congr (hv _), State.treeMirror]

/-- Where both copies fail their check and there is no mirror, the fault is 0x3002. -/
theorem State.groupFetch_twice {s : State} {d t l k : Nat} {v : Digest} {raw raw2 : List Byte}
    (ha : GroupAwaited s d t l k v) (hv : 2 ≤ s.treeDev (d * 256 + t) → s.reached 1 = true)
    (hm : s.treeMirror (d * 256 + t) = false) (h : hashOf (s.groupMessage d t l k raw) ≠ v)
    (h2 : hashOf (s.groupMessage d t l k raw2) ≠ v) :
    ∃ c, s.groupFetch d t l k { first := [{ data := some raw }], second := [{ data := some raw2 }] } =
      (⟨false, true, false⟩, ((s.groupMissed d t l k).groupMissed d t l k).witFault d t c 0x3002) := by
  have hread := s.groupRead_kept d
  have hmissed := s.groupMissed_kept d t l k
  have hread2 := (s.groupMissed d t l k).groupRead_kept d
  have hmissed2 := hmissed.trans ((s.groupMissed d t l k).groupMissed_kept d t l k)
  have hv2 : 2 ≤ s.treeDev (d * 256 + t) → (s.groupMissed d t l k).reached 1 = true := fun h => (hmissed.reached 1).trans (hv h)
  have htry := groupTry_fail (hread.awaited ha) (raw := raw) (by rw [hread.groupMessage]; exact h)
  have htry2 := groupTry_fail ((hmissed.trans hread2).awaited ha) (raw := raw2) (by rw [(hmissed.trans hread2).groupMessage]; exact h2)
  have hmirror : (((s.groupMissed d t l k).groupMissed d t l k).witFault d t
      (((s.groupMissed d t l k).groupMissed d t l k).treeCh (d * 256 + t)) 0x3002).treeMirror (d * 256 + t) = false := by
    have hfault := hmissed2.witFault (code := 0x3002) (d := d) (t := t)
      (c := ((s.groupMissed d t l k).groupMissed d t l k).treeCh (d * 256 + t)) rfl
    rw [State.treeMirror_congr (hfault.rd _ _ rfl) fun i => hfault.rd _ _ rfl, hm]
  refine ⟨((s.groupMissed d t l k).groupMissed d t l k).treeCh (d * 256 + t), ?_⟩
  unfold State.groupFetch
  dsimp only
  rw [State.groupRead_eq d _ raw hv]
  simp only [List.getD_nil, htry]
  rw [← State.groupMissed, State.groupRead_eq d _ raw2 hv2]
  simp only [htry2]
  rw [← State.groupMissed]
  simp only [hmirror, Bool.not_false, if_true]

/-- Where nothing is heard of the vault the fetch has failed, under 0x4004, and the second copy is not tried (R173). -/
theorem State.groupFetch_unread (s : State) (d t l k : Nat) (second mirror : VaultGet) : ∃ u, Counted d s u ∧
    s.groupFetch d t l k { first := [], second := second, mirror := mirror } =
      (⟨false, false, false⟩, u.report d 0x4004 (vaultSource (s.treeDev (d * 256 + t)))) := by
  obtain ⟨u, hu, hget⟩ := (s.count d 0x321 1).vaultGet_nil d (s.treeDev (d * 256 + t))
    (groupAddr (s.rd .TD_VADDR (d * 256 + t)).toNat (s.getF Fld.TD_LEAVES_LEAF_COUNT (d * 256 + t)) l k)
  refine ⟨u, (s.count_counted _ _ _).trans hu, ?_⟩
  unfold State.groupFetch
  dsimp only
  rw [hget]
  rfl

/-- A group that a verification needs has been fetched, of a tree that is ROOTED, and a lane can hash it. -/
theorem exec_groupFetchDone_needed {d : DieId} {t : TreeId} {l k : Nat} {s : State} (f : GroupFetch) (hf : f.parentBad = 0)
    (hl : s.live d.val = true) (hs : s.getF Fld.TD_STATE_STATE (d.val * 256 + t.val) = 2) (hc : s.canHash d.val = true)
    (hn : s.groupNeeded d.val t.val l k = true) (hv : (s.vouches d.val t.val l k).isSome = true) :
    exec (.groupFetchDone d t l k f) s = .next (if (s.groupFetch d.val t.val l k f).1.ok
      then (s.groupFetch d.val t.val l k f).2 else (s.groupFetch d.val t.val l k f).2.groupLost d.val t.val l k) := by
  refine congrArg Host.Outcome.next ((State.when_of _ _ _ ?_).trans (if_neg fun h => h.1 hf))
  simp only [hl, hs, hc, hn, hv, decide_true, Bool.and_self]

/-- A group that is cached is trusted. -/
theorem State.cacheGroup_trusted (s : State) (d t l k : Nat) (g : List Byte) : (s.cacheGroup d t l k g).trusted d t l k =
    some { tree := t, level := l, index := k, data := g, trusted := true } := by
  rw [State.trusted, State.cacheGroup, State.die_modDie_same]
  exact List.find?_cons_of_pos (by simp [Line.isAt])

theorem WitnessKept.useLine {p : RegName → Nat → Bool} {r s : State} (h : WitnessKept p r s) {d t l k : Nat} :
    WitnessKept p r (s.useLine d t l k) := by
  unfold State.useLine
  exact h.modDie (by intro; rfl)

theorem WitnessKept.cacheGroup {p : RegName → Nat → Bool} {r s : State} (h : WitnessKept p r s) {d t l k : Nat}
    {g : List Byte} : WitnessKept p r (s.cacheGroup d t l k g) := by
  unfold State.cacheGroup
  exact h.modDie (by intro; rfl)

/-- Settles O14: a descriptor write is the write of one register, or a fault; a group's fetch is a counted read and a check, and
what it leaves alone is said once for each of its parts. -/
theorem treeDescriptorsAndGroups : Obligations.TreeDescriptorsAndGroups := by
  refine ⟨fun req d t r v s ho hl hs => ⟨_, exec_descriptorWrite_open v ho, ?free⟩,
    fun req d t r v s ho hl => ⟨_, exec_descriptorWrite_open v ho, ?locked⟩,
    fun d t l k i raw second mirror v s hi hl hs hc hn hu hv hd hh => ?trusted,
    fun d t l k i raw raw2 v s hi hl hs hc hn hu hv hd hm hh hh2 => ?lost,
    fun d t l k second mirror s hl hs hc hn hv => ?unread⟩
  case free =>
    have hkept := WitnessKept.makeRecords (d := d.val) (.refl (p := fun _ _ => false)
      (s.wr (tdRegName r) (d.val * 256 + t.val) (s.tdNew d.val t.val r v)))
    rw [State.writeTd_free r v hl hs]
    refine ⟨?_, hkept.outputs, hkept.sram, fun n j hne => ?_⟩
    · rw [hkept.rd _ _ rfl, State.rd_wr_same, State.tdNew]
    · rw [hkept.rd _ _ rfl, State.rd_wr_other _ _ _ _ _ _ hne]
  case locked =>
    rw [State.writeTd_locked r v hl]
    by_cases hsame : s.tdNew d.val t.val r v = s.rd (tdRegName r) (d.val * 256 + t.val)
    · have hkept := WitnessKept.makeRecords (d := d.val) (.refl (p := fun _ _ => false) s)
      rw [if_pos hsame]
      refine ⟨hkept.outputs, hkept.sram, fun n j _ _ => hkept.rd n j rfl, ?_⟩
      rw [hkept.rd _ _ rfl]
      exact (congrArg _ (if_pos hsame)).trans (BitVec.or_zero) |>.symm
    · have hfault := (WitnessKept.refl (p := countsOr [.WIT_FAULT]) s).witFault (d := d.val) (t := t.val)
        (c := s.treeCh (d.val * 256 + t.val)) (code := 0x3009) rfl (by decide)
      have hrecords := WitnessKept.makeRecords (d := d.val) (.refl (p := fun _ _ => false)
        (s.witFault d.val t.val (s.treeCh (d.val * 256 + t.val)) 0x3009))
      rw [if_neg hsame]
      refine ⟨hrecords.outputs.trans hfault.outputs, hrecords.sram.trans hfault.sram, fun n j hn hw => ?_, ?_⟩
      · exact (hrecords.rd n j rfl).trans (hfault.rd n j (countsOr_eq_false hn (by simpa using hw)))
      · rw [hrecords.rd _ _ rfl, State.witFault_bit _ _ _ _ rfl]
        exact congrArg _ (if_neg hsame).symm
  case trusted =>
    subst hi
    have ha : GroupAwaited s d.val t.val l k v := ⟨hu, hv⟩
    have hkept := (s.groupRead_counted d.val []).useLine (d := d.val) (t := t.val) (l := l + 1) (k := k / 8)
      |>.cacheGroup (d := d.val) (t := t.val) (l := l) (k := k) (g := s.groupOf d.val t.val l k raw)
    refine ⟨_, exec_groupFetchDone_needed _ rfl hl hs hc hn (by rw [hv]; rfl), ?_⟩
    rw [State.groupFetch_first second mirror ha hd hh]
    exact ⟨congrArg (Option.map Line.data) (State.cacheGroup_trusted _ _ _ _ _ _), hkept.outputs, hkept.sram, hkept.slots _,
      fun n j hcount => hkept.rd n j (countsOr_eq_false hcount (List.not_mem_nil))⟩
  case lost =>
    subst hi
    have ha : GroupAwaited s d.val t.val l k v := ⟨hu, hv⟩
    obtain ⟨c, hf⟩ := State.groupFetch_twice ha hd hm hh hh2
    have hmissed := (s.groupMissed_kept d.val t.val l k).trans (State.groupMissed_kept _ d.val t.val l k)
    have hkept := hmissed.witFault (d := d.val) (t := t.val) (c := c) (code := 0x3002) rfl
    refine ⟨_, (exec_groupFetchDone_needed _ rfl hl hs hc hn (by rw [hv]; rfl)).trans (by rw [hf]; rfl), ?_, ?_,
      hkept.slots _, hkept.chans, hkept.outputs, hkept.sram⟩
    · exact (State.report_trusted ..).trans ((hmissed.trusted _ _ _ _).trans hu)
    · rw [State.witFault_bit _ _ _ _ rfl, hmissed.rd_eq _ rfl (by decide)]
      rfl
  case unread =>
    obtain ⟨u, hu, hf⟩ := s.groupFetch_unread d.val t.val l k second mirror
    have hcounted := (WitnessKept.refl (p := countsOr [.MC_FAULT]) s).counted hu
    have hkept := hcounted.report (d := d.val) (code := 0x4004) (source := vaultSource (s.treeDev (d.val * 256 + t.val)))
      fun n i b hb => by cases hb; decide
    refine ⟨_, (exec_groupFetchDone_needed _ rfl hl hs hc hn hv).trans (by rw [hf]; rfl), ?_, hkept.slots _, hkept.chans,
      hkept.outputs, hkept.sram, fun n i hn hm => hkept.rd n i (countsOr_eq_false hn (by simpa using hm))⟩
    rw [State.report_bit _ _ _ _ .MC_FAULT d.val 3 rfl rfl, hu.2.1 _ _ rfl]
    rfl

end Sys2Proof.Machine

namespace Sys2Proof.Machine

/-! # Hash results (R218 to R220) -/

theorem exec_hashResult_open {ch : ChanId} {g gen : Nat} {e : DieId} {lane : Fin 4} {c : Option Digest} {s : State}
    (hl : s.chLive ch.val = true) (he : s.live e.val = true) (ho : mem lane.val (s.die e.val).lanesOut = false) :
    exec (.hashResult ch g gen e lane c 0 0) s = .next (s.hashResult ch.val g gen e.val lane.val c 0 0) :=
  congrArg Host.Outcome.next (State.when_of _ _ _ (by rw [hl, he, ho]; rfl))

namespace WitnessKept

variable {p : RegName → Nat → Bool} {r s : State}

theorem guestDone (h : WitnessKept p r s) {e d n g gen : Nat} : WitnessKept p r (s.guestDone e d n g gen) := by
  unfold State.guestDone
  exact ite h (h.modDie (by intro; rfl))

theorem bump (h : WitnessKept p r s) {n : RegName} {i : Nat} (hp : p n i = true) : WitnessKept p r (s.bump n i) := by
  unfold State.bump
  exact ite h (h.wr hp)

theorem setJob (h : WitnessKept p r s) {j k : Job} : WitnessKept p r (s.setJob j k) := by
  unfold State.setJob
  exact h.modDie (by intro; rfl)

theorem laneNext (h : WitnessKept p r s) {e : Nat} : WitnessKept p r (s.laneNext e) := by
  unfold State.laneNext
  split
  · exact h
  · refine ite (h.modDie (by intro; rfl)) ?_
    split
    · exact h
    · exact (h.modDie (by intro; rfl)).modDie (by intro; rfl)

end WitnessKept

/-- The guest that gave a result leaves the jobs alone. -/
theorem State.guestDone_jobs (s : State) (e d n g gen x : Nat) : ((s.guestDone e d n g gen).die x).jobs = (s.die x).jobs := by
  unfold State.guestDone
  dsimp only
  split
  · rfl
  · exact State.die_modDie_field Die.jobs (by intro; rfl) _ _ _

theorem State.guestDone_awaitedJob (s : State) (x d n g gen m h k e : Nat) :
    (s.guestDone x d n g gen).awaitedJob m h k e = s.awaitedJob m h k e := by
  rw [State.awaitedJob, State.guestDone_jobs, State.awaitedJob]

/-- A counter register counts, and stays at its last value. -/
theorem State.bump_rd (s : State) (n : RegName) (i : Nat) :
    (s.bump n i).rd n i = if s.rd n i = 0xFFFFFFFF#32 then 0xFFFFFFFF#32 else s.rd n i + 1 := by
  have hfull : (s.rd n i).toNat = 2 ^ 32 - 1 ↔ s.rd n i = 0xFFFFFFFF#32 := ⟨fun h => BitVec.eq_of_toNat_eq h, fun h => by rw [h]; rfl⟩
  unfold State.bump
  simp only [hfull]
  split
  · assumption
  · rw [State.rd_wr_same]
    bv_omega

/-- A result that no job awaits is counted, and the lane goes on (R220). -/
theorem State.hashResult_stale {s : State} {n g gen e : Nat} (lane : Nat) (c : Option Digest)
    (h : s.awaitedJob n g gen e = none) : s.hashResult n g gen e lane c 0 0 =
      (((s.guestDone e (n / 8) n g gen).bump .HP_STALE (n / 8)).count (n / 8) 0x366 1).laneNext e := by
  unfold State.hashResult
  simp only [State.guestDone_awaitedJob, h]

/-- A job whose result has been accepted. -/
def Job.hashed (j : Job) (lane : Nat) (r : Digest) : Job := { j with lane := some (Fin.ofNat 4 lane), result := some r }

theorem State.guestDone_slot (s : State) (e d n g gen m h : Nat) : (s.guestDone e d n g gen).slot m h = s.slot m h := by
  rw [State.slot, (WitnessKept.refl (p := fun _ _ => false) s).guestDone.slots, State.slot]

theorem State.guestDone_jobSlot (s : State) (e d n g gen : Nat) (j : Job) :
    (s.guestDone e d n g gen).jobSlot j = s.jobSlot j := by
  rw [State.jobSlot, State.guestDone_slot, State.jobSlot]

theorem State.guestDone_jobMessage (s : State) (e d n g gen : Nat) (j : Job) :
    (s.guestDone e d n g gen).jobMessage j = s.jobMessage j := by
  unfold State.jobMessage State.leafBytes
  rw [State.guestDone_jobSlot]
  simp only [(WitnessKept.refl (p := fun _ _ => false) s).guestDone.rd _ _ rfl]

/-- An awaited result is kept for its job (R220). -/
theorem State.hashResult_accepted {s : State} {n g gen e : Nat} {j : Job} {x : Slot} (lane : Nat) (c : Option Digest)
    (h : s.awaitedJob n g gen e = some j) (hx : s.jobSlot j = some x) : s.hashResult n g gen e lane c 0 0 =
      (((((s.guestDone e (n / 8) n g gen).count e (0x360 + lane) 1).count (n / 8) 0x320 1).setJob j
        (j.hashed lane (c.getD (hashOf (s.jobMessage j)))))).laneNext e := by
  unfold State.hashResult
  simp only [State.forEach, List.range_zero, List.foldl_nil, State.guestDone_awaitedJob, h, State.guestDone_jobSlot, hx,
    State.guestDone_jobMessage, (by decide : (0 : Nat) ≠ 3), if_false, Job.hashed]

/-! ## The jobs of a die -/

/-- A change of the first member that passes a test keeps the members that do not pass it. -/
theorem mem_modFirst {α : Type} {p : α → Bool} {f : α → α} {x : α} (hp : p x = false) {l : List α} (hx : x ∈ l) :
    x ∈ modFirst p f l := by
  induction l with
  | nil => cases hx
  | cons a l ih =>
    obtain rfl | hx := List.mem_cons.mp hx
    · simp [modFirst, hp]
    · unfold modFirst
      split
      · exact List.mem_cons_of_mem _ hx
      · exact List.mem_cons_of_mem _ (ih hx)

/-- A change of a die's jobs that keeps those with a result keeps each die's. -/
theorem State.hashed_modDie {s : State} {d x : Nat} {j : Job} {f : Die → Die} (hf : ∀ y : Die, j ∈ y.jobs → j ∈ (f y).jobs)
    (h : j ∈ (s.die x).jobs) : j ∈ ((s.modDie d f).die x).jobs := by
  by_cases hx : x = d
  · rw [hx, State.die_modDie_same]
    exact hf _ (hx ▸ h)
  · rwa [State.modDie, State.die_setDie_other _ _ _ _ hx]

/-- A lane that goes on takes no job that has its result. -/
theorem State.laneNext_hashed {s : State} {e x : Nat} {j : Job} (hr : j.result.isSome = true) (h : j ∈ (s.die x).jobs) :
    j ∈ ((s.laneNext e).die x).jobs := by
  have hopen : j.result.isNone = false := by rw [← Option.not_isSome, hr]; rfl
  unfold State.laneNext
  split
  · exact h
  dsimp only
  split
  · exact State.hashed_modDie (fun y hy => mem_modFirst (by simp [hopen]) hy) h
  split
  · exact h
  · exact State.hashed_modDie (fun y hy => mem_modFirst (by simp [hopen]) hy) (State.hashed_modDie (fun y hy => hy) h)

theorem Counted.jobs {d x : Nat} {s t : State} (h : Counted d s t) : (t.die x).jobs = (s.die x).jobs := by
  obtain ⟨-, -, hother, hdie⟩ := h
  by_cases hx : x = d
  · rw [hx, hdie]
  · rw [hother x hx]

/-- The job that awaits a result is one of its channel's die. -/
theorem State.awaitedJob_spec {s : State} {n g gen e : Nat} {j : Job} (h : s.awaitedJob n g gen e = some j) :
    j ∈ (s.die (n / 8)).jobs ∧ j.ch = n := by
  have hj := List.find?_some h
  simp only [Job.isFor, Bool.and_eq_true, decide_eq_true_eq] at hj
  exact ⟨List.mem_of_find?_eq_some h, hj.1.1.1.1⟩

/-- A job that is replaced is there in its new form. -/
theorem State.setJob_mem {s : State} {d : Nat} {j : Job} (k : Job) (hd : j.ch / 8 = d) (h : j ∈ (s.die d).jobs) :
    k ∈ ((s.setJob j k).die d).jobs := by
  subst hd
  rw [State.setJob, State.die_modDie_same]
  exact List.mem_map.mpr ⟨j, h, if_pos (by simp [Job.isFor])⟩

/-! ## Verdicts -/

namespace WitnessKept

variable {p : RegName → Nat → Bool} {r s : State}

theorem placeJob (h : WitnessKept p r s) {d n g gen : Nat} (hp : ∀ n i, n.counts = true → p n i = true) :
    WitnessKept p r (s.placeJob d n g gen).2.2 := by
  unfold State.placeJob
  dsimp only
  split
  · exact h
  · exact ((h.count hp).count hp).modDie (d := s.jobPlace d) (f := fun x => { x with
      guests := x.guests ++ [{ owner := d, gen := gen, ch := n, granule := g, started := s.freeLane (s.jobPlace d) }]
      advert := x.advert - 1 }) (by intro; rfl)

theorem addJob (h : WitnessKept p r s) {n g : Nat} {x : Option Slot} (hp : ∀ n i, n.counts = true → p n i = true) :
    WitnessKept p r (s.addJob n g x) := by
  unfold State.addJob
  exact (h.placeJob hp).modDie (by intro; rfl)

end WitnessKept

/-- A new job is one of its channel's die. -/
theorem State.addJob_mem (s : State) (n g : Nat) (x : Option Slot) :
    ∃ j ∈ ((s.addJob n g x).die (n / 8)).jobs, j.isFor n g = true ∧ j.result = none ∧ j.reread = x := by
  unfold State.addJob
  dsimp only
  rw [State.die_modDie_same]
  exact ⟨_, List.mem_append_right _ (List.mem_singleton_self _), by simp [Job.isFor], rfl, rfl⟩

theorem exec_leafVerdict_open {ch : ChanId} {g again : Nat} {second : Option Digest} {l : List Nat} {s : State}
    (h : s.chLive ch.val = true) :
    exec (.leafVerdict ch g second again l) s = .next (s.leafVerdict ch.val g second again l) :=
  congrArg Host.Outcome.next (State.when_of _ _ _ h)

/-- A leaf whose digest is the tree's entry passes (R148). -/
theorem State.leafVerdict_match {s : State} {n g : Nat} {j : Job} {x : Slot} {r : Digest} (second : Option Digest) (again : Nat)
    (hj : s.hashedJob n g = some j) (hx : s.jobSlot j = some x) (hr : j.result = some r)
    (htree : s.getF Fld.TD_STATE_STATE (n / 8 * 256 + x.tree) = 2) (he : s.leafEntry (n / 8) x.tree x.leaf = some r) :
    s.leafVerdict n g second again [] = (let u := s.useLine (n / 8) x.tree 0 (x.leaf / 8)
      if j.reread.isSome then u.rereadPass x else u.slotPass x) := by
  unfold State.leafVerdict
  simp only [hj, hx, hr, State.dropLines, State.forEach, List.eraseDups_nil, List.foldl_nil, htree, he, ne_eq, not_true, if_false,
    if_true]

/-- A leaf whose digest is not the tree's entry is hashed again on another lane, and that digest decides (R148, R223). -/
theorem State.leafVerdict_mismatch {s : State} {n g : Nat} {j : Job} {x : Slot} {r want : Digest} (r2 : Digest)
    (hj : s.hashedJob n g = some j) (hx : s.jobSlot j = some x) (hr : j.result = some r)
    (htree : s.getF Fld.TD_STATE_STATE (n / 8 * 256 + x.tree) = 2) (he : s.leafEntry (n / 8) x.tree x.leaf = some want)
    (hne : r ≠ want) : s.leafVerdict n g (some r2) 0 [] = (
      let u := ((s.useLine (n / 8) x.tree 0 (x.leaf / 8)).newGen (n / 8)).sendFence (n / 8) j.executor
      if r2 = want then
        let v := u.laneOut j.executor ((j.lane.map fun l => l.val).getD 0)
        if j.reread.isSome then v.rereadPass x else v.slotPass x
      else if j.reread.isSome then u.rereadFail n g x.tree else u.slotFail x) := by
  unfold State.leafVerdict
  simp only [hj, hx, hr, State.dropLines, State.forEach, List.eraseDups_nil, List.foldl_nil, htree, he, hne, ne_eq, not_true,
    if_false, State.confirmRun, Option.getD_some]

/-! ## Verdicts are reported -/

/-- Core SRAM, what was sent out, the registers that count nothing, and what channel n has open and last reported are as before. -/
structure ReportedKept (n : Nat) (s t : State) : Prop where
  sram : t.sram = s.sram
  outputs : t.outputs = s.outputs
  rd : ∀ m i, m.counts = false → t.rd m i = s.rd m i
  cons : (t.ch n).cons = (s.ch n).cons
  reported : (t.ch n).reported = (s.ch n).reported

namespace ReportedKept

variable {n : Nat} {r s t : State}

theorem refl (s : State) : ReportedKept n s s := ⟨rfl, rfl, fun _ _ _ => rfl, rfl, rfl⟩

theorem witness (h : ReportedKept n r s) (hw : WitnessKept (countsOr []) s t) : ReportedKept n r t := by
  have hch : t.ch n = s.ch n := by rw [State.ch, hw.chans, State.ch]
  exact ⟨hw.sram.trans h.sram, hw.outputs.trans h.outputs,
    fun m i hm => (hw.rd m i (countsOr_eq_false hm List.not_mem_nil)).trans (h.rd m i hm), by rw [hch, h.cons], by rw [hch, h.reported]⟩

theorem count (h : ReportedKept n r s) {d e k : Nat} : ReportedKept n r (s.count d e k) :=
  h.witness ((WitnessKept.refl s).count countsOr_counts)

theorem modRestart (h : ReportedKept n r s) {f : Restart → Restart} : ReportedKept n r (s.modRestart n f) where
  sram := h.sram
  outputs := h.outputs
  rd := h.rd
  cons := by rw [State.modRestart, State.ch_modCh_same]; exact h.cons
  reported := by rw [State.modRestart, State.ch_modCh_same]; exact h.reported

theorem verdictWait (h : ReportedKept n r s) (c : Consumption) (v : WVerdict) : ReportedKept n r (s.verdictWait n c v) := by
  have hdone : ReportedKept n r (s.awaitDone n c.seq) := h.modRestart
  cases v with
  | pass => exact hdone.count.modRestart
  | withdrawn => exact hdone
  | void | nodefail | fail => exact hdone.count

end ReportedKept

/-- The oldest open consumption of a channel is reported: it is open no more, and its number is the last one reported. -/
def State.consReported (s : State) (n : Nat) (c : Consumption) (l : List Consumption) : State :=
  (s.modCh n fun x => { x with cons := l, reported := c.seq }).setFlag Fld.WIT_CHSTAT_TAINT_OPEN n (l.any fun x => x.reread)

/-- A report of a verdict takes the oldest open consumption and goes on with waits, counts and the levels of the trees (R149). -/
theorem State.verdictReport_kept {s : State} {n : Nat} {c : Consumption} {l : List Consumption} {v : WVerdict}
    (h : (s.ch n).cons = c :: l) (hv : c.verdict = some v) :
    ReportedKept n (s.consReported n c l) (s.verdictReport n) := by
  unfold State.verdictReport
  simp only [h, hv]
  exact (((ReportedKept.refl _).verdictWait c v).count).witness (WitnessKept.refl _).chReports

theorem State.verdictReport_open {s : State} {n : Nat} {c : Consumption} {l : List Consumption} (h : (s.ch n).cons = c :: l)
    (hv : c.verdict = none) : s.verdictReport n = s := by
  unfold State.verdictReport
  simp only [h, hv]

/-! ## A tainted granule is read again (R161) -/

/-- The registers that count nothing, but for those of the channels' states, read as before. -/
def State.SamePlain (s t : State) : Prop := ∀ n i, n.counts = false → n ≠ RegName.CH_STATUS → t.rd n i = s.rd n i

/-- The phases of an own frame do not depend on what its channel is doing. -/
theorem State.SamePlain.ownPhases {s t : State} (h : s.SamePlain t) (n op addr : Nat) (data : List Byte) :
    t.ownPhases n op addr data = s.ownPhases n op addr data := by
  unfold State.ownPhases State.ownFraming State.shape
  simp only [State.flag, State.getF, h .CH_TIMING n rfl (by decide), h .CH_OWN n rfl (by decide),
    h .CH_PROTO n rfl (by decide), h .SHAPE_ENTRY _ rfl (by decide)]
  rfl

theorem State.samePlain_yielded (s : State) (n : Nat) (b : Bool) : s.SamePlain (s.setFlag Fld.CH_STATUS_YIELDED n b) :=
  fun _ _ _ hm => s.rd_setFlag _ _ _ _ _ hm

/-- The own frame that reads a granule. -/
def State.granuleFrame (s : State) (n g : Nat) (sel : Bool) : Output :=
  .ownFrame n sel (s.ownReadOp n) (g * 4096) [] (s.ownPhases n (s.ownReadOp n) (g * 4096) [])

/-- An own read of a block that meets no error, on a channel with no own frame open: one frame, and what it counts (R72, R473). -/
theorem State.ownBlock_plain {s : State} {n : Nat} {r : OwnRead} (sel : Bool) (g : Nat) (ho : (s.ch n).own = none)
    (hr : r.runs = []) : s.ownBlock n sel g r =
      (((s.setFlag Fld.CH_STATUS_YIELDED n false).countCh n 0x36 1).emit (s.granuleFrame n g sel)).countCh n 0x30 4096 := by
  have hframe : s.ownFrame n (s.ownReadOf n sel (g * 4096)) [] =
      ((s.setFlag Fld.CH_STATUS_YIELDED n false).countCh n 0x36 1).emit (s.granuleFrame n g sel) := by
    rw [State.ownFrame, if_neg (by simp [ho])]
    exact congrArg (fun l => ((s.setFlag Fld.CH_STATUS_YIELDED n false).countCh n 0x36 1).emit
      (.ownFrame n sel (s.ownReadOp n) (g * 4096) [] l)) ((s.samePlain_yielded n false).ownPhases n (s.ownReadOp n) (g * 4096) [])
  rw [State.ownBlock, State.ownReads, State.ownErrors, hr, List.foldl_nil, List.foldl_cons, List.foldl_nil, Nat.add_zero, hframe]

/-- What one own frame of a read, and its counts, leave. -/
theorem State.framed_of {s u : State} {n : Nat} {o : Output}
    (h : u = (((s.setFlag Fld.CH_STATUS_YIELDED n false).countCh n 0x36 1).emit o).countCh n 0x30 4096) :
    u.flag Fld.CH_STATUS_YIELDED n = false ∧ u.sram = s.sram ∧ u.outputs = s.outputs ++ [o] ∧ u.ch n = s.ch n := by
  refine ⟨?_, ?_, ?_, ?_⟩
  · rw [h, State.countCh, State.flag_congr (State.count_rd _ _ _ _ _ _ rfl), State.emit_flag, State.countCh,
      State.flag_congr (State.count_rd _ _ _ _ _ _ rfl), State.flag_setFlag_same _ _ _ _ (by decide) (by decide)]
  · simp only [h, State.countCh, State.count_sram, State.emit_sram, State.setFlag_sram]
  · simp only [h, State.countCh, State.count_outputs, State.emit_outputs, State.setFlag_outputs]
  · simp only [h, State.countCh, State.count_ch, State.emit_ch, State.setFlag_ch]

/-- The leaf of a tainted granule, as its re-read hashes it. -/
def State.taintLeaf (s : State) (n g t : Nat) (r : OwnRead) : Slot :=
  { ch := n, granule := g, tree := t, leaf := g - s.getF Fld.TD_BASE_BASE (n / 8 * 256 + t), st := .hash, pinned := false,
    entry := false, host := [], own := sliceB r.data 0 4096, seq := none, sweep := none }

theorem State.taintRead_plain {s : State} {n : Nat} {r : OwnRead} (g t : Nat) (hr : r.runs = []) : s.taintRead n g t r =
    (s.ownBlock n (s.flag Fld.CH_TWIN_SEL n) g r).addJob n g
      (some ((s.ownBlock n (s.flag Fld.CH_TWIN_SEL n) g r).taintLeaf n g t r)) := by
  have hf : r.failed = false := by rw [OwnRead.failed, hr]; rfl
  unfold State.taintRead
  simp only [hf, Bool.false_eq_true, if_false, State.taintLeaf]

theorem exec_taintReread_open {ch : ChanId} {g : Nat} {c : Consumption} {r : OwnRead} {s : State} (hl : s.chLive ch.val = true)
    (ho : s.ownAllowed ch.val = true) (hc : s.rereadOpen ch.val g = some c)
    (hj : ((s.die (ch.val / 8)).jobs.any fun j => j.isFor ch.val g && j.reread.isSome) = false)
    (hu : s.ownUnknown ch.val (s.ownReadOp ch.val) = false) (hs : r.still = false) :
    exec (.taintReread ch g r) s = .next (s.taintRead ch.val g c.tree r) := by
  rw [State.ownAllowed, Bool.and_eq_true] at ho
  have hturn : s.ownTurn ch.val (s.ownReadOf ch.val (s.flag Fld.CH_TWIN_SEL ch.val) (g * 4096)) = true := by
    rw [State.ownTurn, ho.1]
    exact ho.2
  refine congrArg Host.Outcome.next ((State.when_of _ _ _ (by rw [hl, hturn]; rfl)).trans ?_)
  simp only [hc, hj, hs, State.ownReadOf, hu, Bool.false_eq_true, if_false]

/-- Settles O15: each kind of hash result and verdict is one branch of its instruction; what it leaves alone is kept by the shared
operations it goes through. -/
theorem hashVerdicts : Obligations.HashVerdicts := by
  unfold Obligations.HashVerdicts
  refine ⟨fun ch g gen e lane c s hl he ho hj => ?_, fun ch g gen j x e lane c s hl he ho hj hx => ?_,
    fun ch g j x r second again s hl hj hx hr ht hle => ?_, fun ch g j x r r2 want s hl hj hx hr ht hle hne => ?_,
    fun ch c l v s hl hc hv => ?_, fun ch c l s hc hv => ?_, fun ch q c s hl hq => ?_,
    fun ch g c r s hl ho hc hj hu hs hr => ?_⟩
  · have hguest : WitnessKept (fun _ _ => false) s (s.guestDone e.val (ch.val / 8) ch.val g gen) := (WitnessKept.refl s).guestDone
    have hkept : WitnessKept (fun n i => n.counts || decide (n = .HP_STALE ∧ i = ch.val / 8)) s
        (s.hashResult ch.val g gen e.val lane.val c 0 0) := by
      rw [State.hashResult_stale _ _ hj]
      exact (((WitnessKept.refl s).guestDone.bump (by simp)).count (fun n i hn => by simp [hn])).laneNext
    refine ⟨_, exec_hashResult_open hl he ho, ?_, hkept.chans, hkept.sram, hkept.outputs, fun n i hn hne => hkept.rd n i ?_⟩
    · rw [State.hashResult_stale _ _ hj, (WitnessKept.refl (p := fun _ _ => false) _).laneNext.rd _ _ rfl,
        State.count_rd _ _ _ _ _ _ rfl, State.bump_rd, hguest.rd _ _ rfl]
    · simpa [hn, imp_iff_not_or] using hne
  · obtain ⟨hmem, hch⟩ := State.awaitedJob_spec hj
    have hkept : WitnessKept (countsOr []) s (s.hashResult ch.val g gen e.val lane.val c 0 0) := by
      rw [State.hashResult_accepted _ _ hj hx]
      exact ((((WitnessKept.refl s).guestDone.count countsOr_counts).count countsOr_counts).setJob).laneNext
    refine ⟨_, exec_hashResult_open hl he ho, ?_, hkept.chans, hkept.sram, hkept.outputs,
      fun n i hn => hkept.rd n i (countsOr_eq_false hn List.not_mem_nil)⟩
    rw [State.hashResult_accepted _ _ hj hx]
    have hlane : j.hashed lane.val (c.getD (hashOf (s.jobMessage j))) =
        { j with lane := some lane, result := some (c.getD (hashOf (s.jobMessage j))) } := by
      rw [Job.hashed, Fin.ofNat_val_eq_self]
    rw [← hlane]
    refine State.laneNext_hashed rfl (State.setJob_mem _ (by rw [hch]) ?_)
    rw [Counted.jobs (State.count_counted ..), Counted.jobs (State.count_counted ..), State.guestDone_jobs]
    exact hmem
  · rw [exec_leafVerdict_open hl, State.leafVerdict_match second again hj hx hr ht hle]
  · rw [exec_leafVerdict_open hl, State.leafVerdict_mismatch r2 hj hx hr ht hle hne]
  · have hkept := State.verdictReport_kept hc hv
    have hreg (n : RegName) (i : Nat) (hne : n ≠ .WIT_CHSTAT ∨ i ≠ ch.val) : (s.consReported ch.val c l).rd n i = s.rd n i := by
      rw [State.consReported, State.setFlag, State.setF, State.rd_wr_other _ _ _ _ _ _ hne, State.modCh_rd]
    refine ⟨_, congrArg Host.Outcome.next (State.when_of _ _ _ hl), ?_, ?_, ?_, hkept.sram, hkept.outputs, fun n i hn hne => ?_⟩
    · rw [hkept.cons, State.consReported, State.setFlag_ch, State.ch_modCh_same]
    · rw [hkept.reported, State.consReported, State.setFlag_ch, State.ch_modCh_same]
    · rw [State.flag_congr (hkept.rd _ _ rfl), State.consReported, State.flag_setFlag_same _ _ _ _ (by decide) (by decide)]
    · rw [hkept.rd n i hn, hreg n i hne]
  · exact congrArg Host.Outcome.next (State.when_same _ (State.verdictReport_open hc hv))
  · refine congrArg Host.Outcome.next ((State.when_of _ _ _ hl).trans ?_)
    simp only [hq, State.modCh_getF]
  · have hown : (s.ch ch.val).own = none := by
      rw [State.ownAllowed, Bool.and_eq_true, Option.isNone_iff_eq_none] at ho
      exact ho.1
    refine ⟨_, exec_taintReread_open hl ho hc hj hu hs, ?_⟩
    rw [State.taintRead_plain g c.tree hr]
    have hread := State.ownBlock_plain (s.flag Fld.CH_TWIN_SEL ch.val) g hown hr
    generalize s.ownBlock ch.val (s.flag Fld.CH_TWIN_SEL ch.val) g r = u at hread ⊢
    obtain ⟨hflag, hsram, hout, hch⟩ := State.framed_of hread
    have hkept : WitnessKept (countsOr []) u (u.addJob ch.val g (some (u.taintLeaf ch.val g c.tree r))) :=
      (WitnessKept.refl u).addJob countsOr_counts
    refine ⟨(State.flag_congr (hkept.rd _ _ rfl)).trans hflag, hkept.sram.trans hsram, hkept.outputs.trans hout, ?_, ?_⟩
    · rw [State.ch, hkept.chans, ← State.ch, hch]
    · obtain ⟨j, hmem, hfor, hres, hre⟩ := u.addJob_mem ch.val g (some (u.taintLeaf ch.val g c.tree r))
      exact ⟨j, hmem, hfor, hres, u.taintLeaf ch.val g c.tree r, by rw [State.jobSlot, hre]; rfl, rfl, rfl⟩

end Sys2Proof.Machine

namespace Sys2Proof.Machine

/-! # Witness commands (R132, R136, R158, R164, R165) -/

/-! ## What the commands share -/

theorem Fld.of_witWord {op t : Nat} (hop : op < 16) (ht : t < 256) :
    Fld.WIT_CMD_OP.of (witWord op t) = op ∧ Fld.WIT_CMD_TREE.of (witWord op t) = t := by
  have hw : (witWord op t).toNat = op + 256 * t := by
    rw [witWord, BitVec.toNat_ofNat, Nat.mod_eq_of_lt (by omega)]
  constructor
  · rw [Field.of, hw]
    change (op + 256 * t) / 2 ^ 0 % 2 ^ 4 = op
    omega
  · rw [Field.of, hw]
    change (op + 256 * t) / 2 ^ 8 % 2 ^ 8 = t
    omega

/-- The command register takes no command while one runs (R165). -/
theorem State.writeWitCmd_busy {s : State} {d t op : Nat} (reads : List OwnRead) (hop : op < 16) (ht : t < 256)
    (h : s.flag Fld.WIT_CMD_STATUS_BUSY d = true) :
    s.writeWitCmd d (witWord op t) reads = s.witFault d t (s.treeCh (d * 256 + t)) 0x3009 := by
  unfold State.writeWitCmd
  simp only [(Fld.of_witWord hop ht).2, h, if_true]

/-- A command that is taken is noted with its tree. -/
def State.witTaken (s : State) (d t : Nat) : State := s.setF Fld.WIT_CMD_STATUS_TREE d t

section
variable {s : State} {d t : Nat} (reads : List OwnRead) (ht : t < 256) (h : s.flag Fld.WIT_CMD_STATUS_BUSY d = false)
include ht h

theorem State.writeWitCmd_load : s.writeWitCmd d (witWord 1 t) reads = (s.witTaken d t).witLoad d t := by
  unfold State.writeWitCmd
  simp only [Fld.of_witWord (op := 1) (by decide) ht, h, Bool.false_eq_true, if_false, State.witTaken]

theorem State.writeWitCmd_unload : s.writeWitCmd d (witWord 2 t) reads = (s.witTaken d t).witUnload d t := by
  unfold State.writeWitCmd
  simp only [Fld.of_witWord (op := 2) (by decide) ht, h, Bool.false_eq_true, if_false, State.witTaken]

theorem State.writeWitCmd_sweep : s.writeWitCmd d (witWord 3 t) reads = (s.witTaken d t).witRange d t 3 reads := by
  unfold State.writeWitCmd
  simp only [Fld.of_witWord (op := 3) (by decide) ht, h, Bool.false_eq_true, if_false, State.witTaken]

theorem State.writeWitCmd_preload : s.writeWitCmd d (witWord 4 t) reads = (s.witTaken d t).witRange d t 4 reads := by
  unfold State.writeWitCmd
  simp only [Fld.of_witWord (op := 4) (by decide) ht, h, Bool.false_eq_true, if_false, State.witTaken]

theorem State.writeWitCmd_preloadPin : s.writeWitCmd d (witWord 5 t) reads = (s.witTaken d t).witRange d t 5 reads := by
  unfold State.writeWitCmd
  simp only [Fld.of_witWord (op := 5) (by decide) ht, h, Bool.false_eq_true, if_false, State.witTaken]

theorem State.writeWitCmd_unpin : s.writeWitCmd d (witWord 6 t) reads = (s.witTaken d t).witRange d t 6 [] := by
  unfold State.writeWitCmd
  simp only [Fld.of_witWord (op := 6) (by decide) ht, h, Bool.false_eq_true, if_false, State.witTaken]

end

/-! ## What a command that is taken does not change -/

theorem State.witTaken_rd (s : State) (d t : Nat) {n : RegName} (i : Nat) (h : n ≠ .WIT_CMD_STATUS) :
    (s.witTaken d t).rd n i = s.rd n i := s.rd_setF _ _ _ _ _ h

theorem State.witTaken_getF (s : State) (d t : Nat) {f : Field} (i : Nat) (h : f.reg ≠ .WIT_CMD_STATUS) :
    (s.witTaken d t).getF f i = s.getF f i := State.getF_eq_of_rd (s.witTaken_rd d t i h)

theorem State.witTaken_flag (s : State) (d t : Nat) {f : Field} (i : Nat) (h : f.reg ≠ .WIT_CMD_STATUS) :
    (s.witTaken d t).flag f i = s.flag f i := State.flag_congr (s.witTaken_rd d t i h)

theorem State.witTaken_treeCh (s : State) (d t i : Nat) : (s.witTaken d t).treeCh i = s.treeCh i := by
  rw [State.treeCh, s.witTaken_getF d t i (by decide), State.treeCh]

theorem State.laneSlugs_congr {s t : State} {v : LaneView} (h : ∀ i, t.rd v.bank i = s.rd v.bank i) :
    t.laneSlugs v = s.laneSlugs v := by
  unfold State.laneSlugs State.laneSlug State.laneWord
  simp only [h]

theorem State.witTaken_treeLocked (s : State) (d t e x : Nat) : (s.witTaken d t).treeLocked e x = s.treeLocked e x := by
  unfold State.treeLocked
  simp (disch := decide) only [s.witTaken_rd]
  have hslugs (f : Nat) : (s.witTaken d t).laneSlugs { bank := .FM_ACT, die := e, lane := 0, forme := f, bad := [] } =
      s.laneSlugs { bank := .FM_ACT, die := e, lane := 0, forme := f, bad := [] } :=
    State.laneSlugs_congr fun i => s.witTaken_rd d t i (show RegName.FM_ACT ≠ _ by decide)
  simp only [hslugs]

theorem State.witTaken_treeBusy (s : State) (d t e x : Nat) : (s.witTaken d t).treeBusy e x = s.treeBusy e x := by
  unfold State.treeBusy State.treeCons State.treeHas
  simp (disch := decide) only [State.witTaken_getF, State.witTaken_flag, State.witTaken_treeCh]
  rfl

theorem State.witTaken_pinnedNow (s : State) (d t e : Nat) : (s.witTaken d t).pinnedNow e = s.pinnedNow e := by
  unfold State.pinnedNow State.linePinned State.pinnedLevel
  simp (disch := decide) only [State.witTaken_getF]
  rfl

theorem State.witTaken_ownUnknown (s : State) (d t n op : Nat) : (s.witTaken d t).ownUnknown n op = s.ownUnknown n op := by
  unfold State.ownUnknown State.shape
  simp (disch := decide) only [State.witTaken_getF, State.witTaken_rd]

theorem State.witTaken_ownReadOp (s : State) (d t n : Nat) : (s.witTaken d t).ownReadOp n = s.ownReadOp n := by
  unfold State.ownReadOp
  simp (disch := decide) only [State.witTaken_getF]

/-! ## How a command ends -/

theorem State.witEnd_rd (s : State) (d r : Nat) {n : RegName} (i : Nat) (h : n ≠ .WIT_CMD_STATUS) :
    (s.witEnd d r).rd n i = s.rd n i := by
  rw [State.witEnd, State.rd_setF _ _ _ _ _ _ h, State.rd_setFlag _ _ _ _ _ _ h, State.rd_setFlag _ _ _ _ _ _ h, State.modDie_rd]

theorem State.witEnd_busy (s : State) (d r : Nat) : (s.witEnd d r).flag Fld.WIT_CMD_STATUS_BUSY d = false := by
  rw [State.witEnd, State.flag_setF_apart _ _ _ _ _ _ (by decide) (by decide),
    State.flag_setFlag_apart _ _ _ _ _ _ (by decide) (by decide), State.flag_setFlag_same _ _ _ _ (by decide) (by decide)]

theorem State.witEnd_done (s : State) (d r : Nat) : (s.witEnd d r).flag Fld.WIT_CMD_STATUS_DONE d = true := by
  rw [State.witEnd, State.flag_setF_apart _ _ _ _ _ _ (by decide) (by decide),
    State.flag_setFlag_same _ _ _ _ (by decide) (by decide)]

theorem State.witEnd_result (s : State) (d r : Nat) : (s.witEnd d r).getF Fld.WIT_CMD_STATUS_RESULT d = r % 16 :=
  State.getF_setF_same _ _ _ _ (by decide)

theorem State.witEnd_wit (s : State) (d r : Nat) : ((s.witEnd d r).die d).wit = none := by
  simp only [State.witEnd, State.setF_die, State.setFlag_die, State.die_modDie_same]

namespace WitnessKept

variable {p : RegName → Nat → Bool} {r s : State}

theorem witEnd (h : WitnessKept p r s) {d x : Nat} (hp : p .WIT_CMD_STATUS d = true) : WitnessKept p r (s.witEnd d x) :=
  (((h.modDie (by intro; rfl)).setFlag hp).setFlag hp).setF hp

theorem witStart (h : WitnessKept p r s) {d : Nat} {w : WitCmd} (hp : p .WIT_CMD_STATUS d = true) :
    WitnessKept p r (s.witStart d w) := (h.modDie (by intro; rfl)).setFlag hp

theorem treeState (h : WitnessKept p r s) {d t x : Nat} (hp : p .TD_STATE (d * 256 + t) = true) :
    WitnessKept p r (s.treeState d t x) := ((h.setF hp).modDie (by intro; rfl)).treeReport

theorem cacheDrop (h : WitnessKept p r s) {d : Nat} {q : Line → Bool} : WitnessKept p r (s.cacheDrop d q) :=
  h.modDie (by intro; rfl)

theorem putDigest (h : WitnessKept p r s) {n : RegName} {i : Nat} {x : Digest} (hp : ∀ k, p n k = true) :
    WitnessKept p r (s.putDigest n i x) := h.forEach fun _ hs => hs.wr (hp _)

end WitnessKept

/-- A tree that changes its state reads its new state, and every register otherwise as before (R154). -/
theorem State.treeState_rd (s : State) (d t x : Nat) (n : RegName) (i : Nat) :
    (s.treeState d t x).rd n i = (s.setF Fld.TD_STATE_STATE (d * 256 + t) x).rd n i :=
  ((WitnessKept.refl (p := fun _ _ => false) (s.setF Fld.TD_STATE_STATE (d * 256 + t) x)).modDie (by intro; rfl)).treeReport.rd n i rfl

theorem State.treeState_state (s : State) (d t x : Nat) :
    (s.treeState d t x).getF Fld.TD_STATE_STATE (d * 256 + t) = x % 8 := by
  rw [State.getF_eq_of_rd (s.treeState_rd d t x _ _)]
  exact State.getF_setF_same _ _ _ _ (by decide)

/-- The flags of a tree stay as its state changes. -/
theorem State.treeState_flag (s : State) (d t x : Nat) {f : Field} (i : Nat) (h : f.reg ≠ .TD_STATE ∨ 3 ≤ f.lo) :
    (s.treeState d t x).flag f i = s.flag f i := by
  rw [State.flag_congr (s.treeState_rd d t x _ _), State.flag_setF_apart _ _ _ _ _ _ (by decide) (h.imp_right Or.inr)]

theorem State.treeReport_die (s : State) (d t x : Nat) : (s.treeReport d t).die x = s.die x := by
  unfold State.treeReport
  split
  · rfl
  · rfl

theorem State.treeState_wit (s : State) (d t x e : Nat) : ((s.treeState d t x).die e).wit = (s.die e).wit := by
  unfold State.treeState
  rw [State.treeReport_die, State.die_modDie_field Die.wit (by intro; rfl), State.setF_die]

/-! ## LOAD (R132) -/

/-- A LOAD before anything has been read. -/
def loadCmd (t : Nat) : WitCmd := { op := 1, tree := t, first := 0, stop := 0, next := 0, passed := 0, fail := none }

/-- A LOAD of a tree that nothing holds starts its fetch (R132). -/
theorem State.witLoad_starts {s : State} {d t : Nat} (hl : s.treeLocked d t = false) (hb : s.treeBusy d t = false)
    (hs : s.getF Fld.TD_STATE_STATE (d * 256 + t) = 0 ∨ s.getF Fld.TD_STATE_STATE (d * 256 + t) = 3)
    (hp : s.pinnedNow d + pinnedLines (s.getF Fld.TD_LEAVES_LEAF_COUNT (d * 256 + t))
      (s.getF Fld.TD_CFG_PIN_LEVELS (d * 256 + t)) ≤ 1024) :
    ∃ n, s.witLoad d t = ((s.witStart d (loadCmd t)).treeState d t 1).markCh n := by
  have hstate : ¬ (s.getF Fld.TD_STATE_STATE (d * 256 + t) ≠ 0 ∧ s.getF Fld.TD_STATE_STATE (d * 256 + t) ≠ 3) := by omega
  unfold State.witLoad
  simp only [hl, hb, hstate, Nat.not_lt.mpr hp, Bool.false_eq_true, if_false]
  exact ⟨_, rfl⟩

/-! ## UNLOAD (R136) -/

/-- What an UNLOAD leaves: no line, no slot, no root of the tree, and no sweep of it done. -/
def State.treeEmptied (s : State) (d t : Nat) : State :=
  let s := s.cacheDrop d fun x => decide (x.tree = t)
  let s := s.setSlots d ((s.die d).slots.filter fun x => decide (x.tree ≠ t))
  let s := s.putDigest .TD_ROOT ((d * 256 + t) * 12) []
  (s.modDie d fun x => x.modTree t fun y => { y with preOk := false }).setFlag Fld.TD_STATE_SWEEP_DONE (d * 256 + t) false

theorem State.witUnload_empties {s : State} {d t : Nat} (hl : s.treeLocked d t = false) (hb : s.treeBusy d t = false) :
    ∃ n, s.witUnload d t = (((s.treeEmptied d t).treeState d t 0).markCh n).witEnd d 0 := by
  unfold State.witUnload
  simp only [hl, hb, Bool.false_eq_true, if_false]
  exact ⟨_, rfl⟩

theorem State.witUnload_locked {s : State} {d t : Nat} (hl : s.treeLocked d t = true) : s.witUnload d t = s.witEnd d 0xB := by
  unfold State.witUnload
  simp only [hl, if_true]

theorem State.treeEmptied_sram (s : State) (d t : Nat) : (s.treeEmptied d t).sram = s.sram := by
  have h : WitnessKept (fun _ _ => true) ((s.cacheDrop d fun x => decide (x.tree = t)).setSlots d
      (((s.cacheDrop d fun x => decide (x.tree = t)).die d).slots.filter fun x => decide (x.tree ≠ t))) (s.treeEmptied d t) :=
    (((WitnessKept.refl _).putDigest fun _ => rfl).modDie (by intro; rfl)).setFlag rfl
  exact h.sram

/-- No slot of a tree that was emptied is left. -/
theorem State.treeEmptied_slots (s : State) (d t : Nat) : ∀ x ∈ ((s.treeEmptied d t).die d).slots, x.tree ≠ t := by
  have h : WitnessKept (fun _ _ => true) ((s.cacheDrop d fun x => decide (x.tree = t)).setSlots d
      (((s.cacheDrop d fun x => decide (x.tree = t)).die d).slots.filter fun x => decide (x.tree ≠ t))) (s.treeEmptied d t) :=
    (((WitnessKept.refl _).putDigest fun _ => rfl).modDie (by intro; rfl)).setFlag rfl
  intro x hx
  rw [h.slots, State.setSlots, State.die_modDie_same] at hx
  exact of_decide_eq_true (List.mem_filter.mp hx).2

/-! ## SWEEP, PRELOAD, PRELOAD_PIN and UNPIN (R158, R164) -/

/-- The leaves that the arguments select, of a ROOTED tree. -/
structure RangeOk (s : State) (d t : Nat) : Prop where
  rooted : s.getF Fld.TD_STATE_STATE (d * 256 + t) = 2
  count : s.getF Fld.WIT_ARG1_COUNT d ≠ 0
  inside : s.getF Fld.WIT_ARG0_FIRST d + s.getF Fld.WIT_ARG1_COUNT d ≤ s.getF Fld.TD_LEAVES_LEAF_COUNT (d * 256 + t)

theorem RangeOk.taken {s : State} {d t : Nat} (h : RangeOk s d t) (e x : Nat) : RangeOk (s.witTaken e x) d t := by
  obtain ⟨hr, hc, hi⟩ := h
  constructor
  · rw [s.witTaken_getF _ _ _ (by decide)]; exact hr
  · rw [s.witTaken_getF _ _ _ (by decide)]; exact hc
  · rw [s.witTaken_getF _ _ _ (by decide), s.witTaken_getF _ _ _ (by decide), s.witTaken_getF _ _ _ (by decide)]; exact hi

theorem State.witTaken_rangeCmd (s : State) (e x d t op : Nat) : (s.witTaken e x).rangeCmd d t op = s.rangeCmd d t op := by
  unfold State.rangeCmd
  simp (disch := decide) only [State.witTaken_getF]

/-- A slot of the leaves that the arguments select is pinned no more. -/
def State.unpinned (s : State) (d t : Nat) (x : Slot) : Slot :=
  let first := s.getF Fld.WIT_ARG0_FIRST d
  if x.tree = t ∧ first ≤ x.leaf ∧ x.leaf < first + s.getF Fld.WIT_ARG1_COUNT d then { x with pinned := false } else x

theorem State.witRange_unpin {s : State} {d t : Nat} (h : RangeOk s d t) (reads : List OwnRead) :
    s.witRange d t 6 reads = (s.setSlots d ((s.die d).slots.map (s.unpinned d t))).witEnd d 0 := by
  obtain ⟨hr, hc, hi⟩ := h
  unfold State.witRange
  simp only [hr, hc, Nat.not_lt.mpr hi, ne_eq, not_true, if_false, or_self, if_true]
  rfl

/-- No slot of the leaves that the arguments select is pinned after UNPIN. -/
theorem State.unpinned_slots {s : State} {d t r : Nat} {x : Slot}
    (hx : x ∈ (((s.setSlots d ((s.die d).slots.map (s.unpinned d t))).witEnd d r).die d).slots) (ht : x.tree = t)
    (hlo : s.getF Fld.WIT_ARG0_FIRST d ≤ x.leaf)
    (hhi : x.leaf < s.getF Fld.WIT_ARG0_FIRST d + s.getF Fld.WIT_ARG1_COUNT d) : x.pinned = false := by
  rw [((WitnessKept.refl (p := fun _ _ => true) _).witEnd rfl).slots, State.setSlots, State.die_modDie_same] at hx
  obtain ⟨y, -, rfl⟩ := List.mem_map.mp hx
  by_cases hin : y.tree = t ∧ s.getF Fld.WIT_ARG0_FIRST d ≤ y.leaf ∧
      y.leaf < s.getF Fld.WIT_ARG0_FIRST d + s.getF Fld.WIT_ARG1_COUNT d
  · rw [State.unpinned, if_pos hin]
  · rw [State.unpinned, if_neg hin] at ht hlo hhi
    exact absurd ⟨ht, hlo, hhi⟩ hin

/-- A command over a range of leaves of a ROOTED tree starts, where there is room for what it pins. -/
theorem State.witRange_starts {s : State} {d t op : Nat} (h : RangeOk s d t) (reads : List OwnRead) (hop : op ≠ 6)
    (hu : s.ownUnknown (s.treeCh (d * 256 + t)) (s.ownReadOp (s.treeCh (d * 256 + t))) = false)
    (hpin : op = 5 → s.pinnedSlots d + s.getF Fld.WIT_ARG1_COUNT d ≤ 1536) :
    s.witRange d t op reads =
      (if op = 3 then (s.witStart d (s.rangeCmd d t op)).setFlag Fld.TD_STATE_SWEEP_BUSY (d * 256 + t) true
        else s.witStart d (s.rangeCmd d t op)).sweepOn d reads := by
  obtain ⟨hr, hc, hi⟩ := h
  have hroom (k : Nat) : ¬ (op = 5 ∧ 1536 < s.pinnedSlots d + s.getF Fld.WIT_ARG1_COUNT d - k) := by
    rintro ⟨h5, hlt⟩
    have := hpin h5
    omega
  unfold State.witRange
  simp only [hr, hc, Nat.not_lt.mpr hi, ne_eq, not_true, if_false, or_self, hop, hu, hroom, Bool.false_eq_true]
  rfl

/-- A command over a range that has been taken starts as its arguments say. -/
theorem State.witRange_taken {s : State} {d t op : Nat} (h : RangeOk s d t) (reads : List OwnRead) (hop : op ≠ 6)
    (hu : s.ownUnknown (s.treeCh (d * 256 + t)) (s.ownReadOp (s.treeCh (d * 256 + t))) = false)
    (hpin : op = 5 → s.pinnedSlots d + s.getF Fld.WIT_ARG1_COUNT d ≤ 1536) :
    (s.witTaken d t).witRange d t op reads =
      (if op = 3 then ((s.witTaken d t).witStart d (s.rangeCmd d t op)).setFlag Fld.TD_STATE_SWEEP_BUSY (d * 256 + t) true
        else (s.witTaken d t).witStart d (s.rangeCmd d t op)).sweepOn d reads := by
  rw [State.witRange_starts (h.taken d t) reads hop, State.witTaken_rangeCmd]
  · rw [State.witTaken_treeCh, State.witTaken_ownReadOp, State.witTaken_ownUnknown, hu]
  · intro h5
    rw [s.witTaken_getF _ _ _ (by decide)]
    exact hpin h5

/-! ## LOAD_DONE (R133) -/

/-- How a load ends: its command is done with a result, and the tree is in a state. -/
structure LoadEnded (d t state result : Nat) (u : State) : Prop where
  state : u.getF Fld.TD_STATE_STATE (d * 256 + t) = state
  result : u.getF Fld.WIT_CMD_STATUS_RESULT d = result
  busy : u.flag Fld.WIT_CMD_STATUS_BUSY d = false
  done : u.flag Fld.WIT_CMD_STATUS_DONE d = true
  wit : (u.die d).wit = none

theorem LoadEnded.of_witEnd {s : State} {d t x : Nat} (r : Nat) (h : s.getF Fld.TD_STATE_STATE (d * 256 + t) = x) :
    LoadEnded d t x (r % 16) (s.witEnd d r) where
  state := (State.getF_eq_of_rd (s.witEnd_rd d r _ (by decide))).trans h
  result := s.witEnd_result d r
  busy := s.witEnd_busy d r
  done := s.witEnd_done d r
  wit := s.witEnd_wit d r

theorem State.loadRefused_ended (s : State) (d t r : Nat) : LoadEnded d t 3 (r % 16) (s.loadRefused d t r) := by
  refine LoadEnded.of_witEnd r ?_
  rw [State.witFault, State.report_getF _ _ _ _ _ _ rfl, State.treeState_state]
  intro b hb
  rw [faultBit_wit rfl] at hb
  cases hb

/-- A refused load is fault 0x3007. -/
theorem State.loadRefused_fault (s : State) (d t r : Nat) :
    bitOf ((s.loadRefused d t r).rd .WIT_FAULT d).toNat 6 = true := by
  rw [State.loadRefused, State.witEnd_rd _ _ _ _ (by decide), State.witFault_bit _ _ _ _ rfl,
    BitVec.or_comm]
  exact bitOf_or_of_left (by decide)

/-- The tree that a load has rooted, before its command ends. -/
def State.treeRooted (s : State) (d t : Nat) : State :=
  let s := s.modDie d fun x => x.modTree t fun y => { y with preOk := false }
  ((s.setFlag Fld.TD_STATE_SWEEP_DONE (d * 256 + t) false).setFlag Fld.TD_STATE_SWEEP_FAIL (d * 256 + t) false).treeState d t 2

theorem State.treeRooted_kept (s : State) (d t : Nat) : WitnessKept (fun n _ => decide (n = .TD_STATE)) s (s.treeRooted d t) :=
  ((((WitnessKept.refl s).modDie (by intro; rfl)).setFlag rfl).setFlag rfl).treeState rfl

theorem State.treeRooted_done (s : State) (d t : Nat) :
    (s.treeRooted d t).flag Fld.TD_STATE_SWEEP_DONE (d * 256 + t) = false := by
  rw [State.treeRooted, State.treeState_flag _ _ _ _ _ (by decide), State.flag_setFlag_apart _ _ _ _ _ _ (by decide) (by decide),
    State.flag_setFlag_same _ _ _ _ (by decide) (by decide)]

theorem State.treeRooted_fail (s : State) (d t : Nat) :
    (s.treeRooted d t).flag Fld.TD_STATE_SWEEP_FAIL (d * 256 + t) = false := by
  rw [State.treeRooted, State.treeState_flag _ _ _ _ _ (by decide), State.flag_setFlag_same _ _ _ _ (by decide) (by decide)]

theorem State.treeRooted_ended (s : State) (d t : Nat) : LoadEnded d t 2 0 ((s.treeRooted d t).witEnd d 0) :=
  LoadEnded.of_witEnd 0 (State.treeState_state _ _ _ _)

/-- What a load stores of a colophon that passes. -/
def State.colophonStored (s : State) (i : Nat) (c : List Byte) : State :=
  ((s.putDigest .TD_ROOT (i * 12) (coRoot c)).wr .TD_VERSION i (BitVec.ofNat 32 (coVersion c))).setF Fld.TD_STATE_DEPTH i (coDepth c)

section
variable {s v : State} {d : Nat} {w : WitCmd} {get : VaultGet} (p : List GroupFetch) (hw : (s.die d).wit = some w) (hop : w.op = 1)
include hw hop

/-- A colophon that cannot be read refuses the load (R133). -/
theorem State.loadDone_unread (hget : s.vaultGet d (s.treeDev (d * 256 + w.tree)) (s.rd .TD_CADDR (d * 256 + w.tree)).toNat get =
    (none, v)) : s.loadDone d get p = v.loadRefused d w.tree 9 := by
  unfold State.loadDone
  simp only [hw, hop, hget, ne_eq, not_true, if_false]

variable {c : List Byte} (hget : s.vaultGet d (s.treeDev (d * 256 + w.tree)) (s.rd .TD_CADDR (d * 256 + w.tree)).toNat get =
    (some c, v))
include hget

/-- A colophon that a check refuses refuses the load. -/
theorem State.loadDone_refused {r : Nat} (hr : v.treeRefusal d w.tree c = some r) :
    s.loadDone d get p = (v.coReads c false).loadRefused d w.tree r := by
  unfold State.loadDone
  simp only [hw, hop, hget, hr, ne_eq, not_true, if_false]

/-- A colophon that passes is stored, and its pinned groups decide (R133). -/
theorem State.loadDone_passed {u y : State} {ok : Bool} (hr : v.treeRefusal d w.tree c = none)
    (hu : u = (v.coReads c false).colophonStored (d * 256 + w.tree) c)
    (hf : u.fetchAll d w.tree (u.pinnedGroups (d * 256 + w.tree)) p = (ok, y)) :
    s.loadDone d get p = if ok then (y.treeRooted d w.tree).witEnd d 0 else y.loadRefused d w.tree 9 := by
  rw [hu, State.colophonStored] at hf
  unfold State.loadDone
  simp only [hw, hop, hget, hr, ne_eq, not_true, if_false, hf]
  cases ok
  · rfl
  · rfl

end

/-! ## SWEEP_DONE (R153, R158) -/

/-- A sweep or preload with no leaf left reads nothing more. -/
theorem State.sweepFetch_over {s : State} {d : Nat} {w : WitCmd} (hw : (s.die d).wit = some w) (h : w.stop ≤ w.next) :
    s.sweepFetch d = s := by
  unfold State.sweepFetch
  simp only [hw, h, true_or, or_true, if_true]

/-- The next leaf's slot is there: nothing is to be done before its bytes arrive. -/
theorem State.sweepFetch_there {s : State} {d : Nat} {w : WitCmd} (hw : (s.die d).wit = some w)
    (h : (s.slot (s.treeCh (d * 256 + w.tree)) (s.getF Fld.TD_BASE_BASE (d * 256 + w.tree) + w.next)).isSome = true) :
    s.sweepFetch d = s := by
  unfold State.sweepFetch
  simp only [hw, h, or_true, if_true]

theorem Counted.wit {d x : Nat} {s t : State} (h : Counted d s t) : (t.die x).wit = (s.die x).wit := by
  obtain ⟨-, -, hother, hdie⟩ := h
  by_cases hx : x = d
  · rw [hx, hdie]
  · rw [hother x hx]

theorem State.setSlots_wit (s : State) (d x : Nat) (l : List Slot) : ((s.setSlots d l).die x).wit = (s.die x).wit :=
  State.die_modDie_field Die.wit (by intro; rfl) s d x

theorem State.putSlot_wit (s : State) (y : Slot) (x : Nat) : ((s.putSlot y).die x).wit = (s.die x).wit := s.setSlots_wit _ _ _

theorem State.takeSlot_wit {s u : State} {d : Nat} (h : s.takeSlot d = some u) (x : Nat) : (u.die x).wit = (s.die x).wit := by
  unfold State.takeSlot at h
  split at h
  · cases h
    exact (s.count_counted ..).wit
  · split at h
    · cases h
      rw [(State.count_counted ..).wit, (State.count_counted ..).wit, State.setSlots_wit]
    · cases h

theorem State.sweepFetch_wit (s : State) (d x : Nat) : ((s.sweepFetch d).die x).wit = (s.die x).wit := by
  unfold State.sweepFetch
  dsimp only
  split
  · rfl
  · split
    · rfl
    · split
      · rfl
      · next h => rw [State.putSlot_wit, State.takeSlot_wit h]

/-- A sweep whose range is not done waits for its next leaf. -/
theorem State.sweepDone_waits {s : State} {d : Nat} {w : WitCmd} (hw : (s.die d).wit = some w) (h : w.next < w.stop) :
    s.sweepDone d [] = s.sweepFetch d := by
  have hwit : ((s.sweepFetch d).die d).wit = some w := by rw [State.sweepFetch_wit, hw]
  unfold State.sweepDone
  simp only [State.sweepOn, State.sweepReads, hwit, h, or_true, if_true]

/-- The registers of a tree whose sweep ends: what passed, and the first failure. -/
def State.sweepNoted (s : State) (i : Nat) (w : WitCmd) : State :=
  (((s.setFlag Fld.TD_STATE_SWEEP_BUSY i false).setFlag Fld.TD_STATE_SWEEP_FAIL i w.fail.isSome).setF Fld.TD_SWEEP_PASSED i
    w.passed).setF Fld.TD_STATE_FIRST_FAIL i (w.fail.getD 0)

/-- The sweep went over the whole tree. -/
def State.sweepWhole (s : State) (i : Nat) (w : WitCmd) : Bool :=
  decide (w.first = 0) && decide (w.stop = s.getF Fld.TD_LEAVES_LEAF_COUNT i)

/-- The registers of a tree whose sweep ends, with SWEEP_DONE for a whole tree (R153). -/
def State.sweepMarked (s : State) (i : Nat) (w : WitCmd) : State :=
  if s.sweepWhole i w then (s.sweepNoted i w).setFlag Fld.TD_STATE_SWEEP_DONE i true else s.sweepNoted i w

/-- A sweep whose range is done ends, and records what it found (R158). -/
theorem State.sweepDone_ends {s : State} {d : Nat} {w : WitCmd} (hw : (s.die d).wit = some w) (hop : w.op = 3)
    (h : w.stop ≤ w.next) : ∃ u, WitnessKept (fun _ _ => false) (s.sweepMarked (d * 256 + w.tree) w) u ∧
      s.sweepDone d [] = u.witEnd d 0 := by
  have hgo : ¬ (3 = 1 ∨ w.next < w.stop) := by omega
  unfold State.sweepDone
  simp only [State.sweepOn, State.sweepReads, State.sweepFetch_over hw h, hw, hop, hgo, ne_eq, not_true, if_false]
  refine ⟨_, ?_, rfl⟩
  refine WitnessKept.treeReport ?_
  exact WitnessKept.ite ((WitnessKept.refl _).modDie (by intro; rfl)) (WitnessKept.refl _)

theorem State.sweepNoted_busy (s : State) (i : Nat) (w : WitCmd) :
    (s.sweepNoted i w).flag Fld.TD_STATE_SWEEP_BUSY i = false := by
  rw [State.sweepNoted, State.flag_setF_apart _ _ _ _ _ _ (by decide) (by decide),
    State.flag_setF_apart _ _ _ _ _ _ (by decide) (by decide), State.flag_setFlag_apart _ _ _ _ _ _ (by decide) (by decide),
    State.flag_setFlag_same _ _ _ _ (by decide) (by decide)]

theorem State.sweepNoted_fail (s : State) (i : Nat) (w : WitCmd) :
    (s.sweepNoted i w).flag Fld.TD_STATE_SWEEP_FAIL i = w.fail.isSome := by
  rw [State.sweepNoted, State.flag_setF_apart _ _ _ _ _ _ (by decide) (by decide),
    State.flag_setF_apart _ _ _ _ _ _ (by decide) (by decide), State.flag_setFlag_same _ _ _ _ (by decide) (by decide)]

theorem State.sweepNoted_passed (s : State) (i : Nat) (w : WitCmd) :
    (s.sweepNoted i w).getF Fld.TD_SWEEP_PASSED i = w.passed % 2 ^ Fld.TD_SWEEP_PASSED.width := by
  rw [State.sweepNoted, State.getF_setF_apart _ _ _ _ _ _ (by decide) (by decide), State.getF_setF_same _ _ _ _ (by decide)]

theorem State.sweepNoted_firstFail (s : State) (i : Nat) (w : WitCmd) :
    (s.sweepNoted i w).getF Fld.TD_STATE_FIRST_FAIL i = w.fail.getD 0 % 2 ^ Fld.TD_STATE_FIRST_FAIL.width :=
  State.getF_setF_same _ _ _ _ (by decide)

/-- SWEEP_DONE is beside the other fields that a sweep's end writes. -/
theorem State.sweepMarked_getF (s : State) (i : Nat) (w : WitCmd) {f : Field}
    (hf : f.reg ≠ .TD_STATE ∨ f.lo + f.width ≤ 8 ∨ 9 ≤ f.lo) : (s.sweepMarked i w).getF f i = (s.sweepNoted i w).getF f i := by
  unfold State.sweepMarked
  split
  · exact State.getF_setFlag_apart _ _ _ _ _ _ (by decide) hf
  · rfl

theorem State.sweepMarked_flag (s : State) (i : Nat) (w : WitCmd) {f : Field}
    (hf : f.reg ≠ .TD_STATE ∨ f.lo + f.width ≤ 8 ∨ 9 ≤ f.lo) : (s.sweepMarked i w).flag f i = (s.sweepNoted i w).flag f i := by
  rw [State.flag, State.sweepMarked_getF _ _ _ hf, State.flag]

theorem State.sweepMarked_done {s : State} {i : Nat} {w : WitCmd}
    (h : w.first = 0 ∧ w.stop = s.getF Fld.TD_LEAVES_LEAF_COUNT i) :
    (s.sweepMarked i w).flag Fld.TD_STATE_SWEEP_DONE i = true := by
  have hwhole : s.sweepWhole i w = true := by simp [State.sweepWhole, h]
  rw [State.sweepMarked, if_pos hwhole, State.flag_setFlag_same _ _ _ _ (by decide) (by decide)]

theorem State.sweepMarked_sram (s : State) (i : Nat) (w : WitCmd) : (s.sweepMarked i w).sram = s.sram := by
  unfold State.sweepMarked
  split
  · rfl
  · rfl

/-! ## A leaf that a consumption shares (R143) -/

/-- A slot that is put is its granule's. -/
theorem State.putSlot_slot (s : State) (x : Slot) : (s.putSlot x).slot x.ch x.granule = some x := by
  rw [State.slot, State.putSlot, State.setSlots, State.die_modDie_same, List.find?_cons_of_pos (by simp)]

/-- The slot of a granule is for it. -/
theorem State.slot_spec {s : State} {n g : Nat} {x : Slot} (h : s.slot n g = some x) : x.ch = n ∧ x.granule = g := by
  simpa using List.find?_some h

theorem State.addJob_wit (s : State) (n g : Nat) (x : Option Slot) (e : Nat) : ((s.addJob n g x).die e).wit = (s.die e).wit := by
  have hplace (gen : Nat) : ((s.placeJob (n / 8) n g gen).2.2.die e).wit = (s.die e).wit := by
    unfold State.placeJob
    dsimp only
    split
    · rfl
    · rw [State.die_modDie_field Die.wit (by intro; rfl), (State.count_counted ..).wit, (State.count_counted ..).wit]
  unfold State.addJob
  exact (State.die_modDie_field Die.wit (by intro; rfl) _ _ _).trans (hplace _)

/-- A complete block in a slot. -/
def Slot.hashing (x : Slot) : Slot := { x with st := .hash, own := x.block }

theorem Slot.hashing_st (x : Slot) : x.hashing.st = .hash := rfl

theorem Slot.hashing_own (x : Slot) : x.hashing.own = x.block := by rw [Slot.hashing]

/-- What the hash of a slot's block changes before its job is placed. -/
def State.slotHashing (s : State) (x : Slot) : State := (s.dropJob x.ch x.granule).putSlot x.hashing

theorem State.toHash_eq {s : State} {n g : Nat} {x : Slot} (h : s.slot n g = some x) :
    s.toHash n g = (s.slotHashing x).addJob n g none := by
  obtain ⟨rfl, rfl⟩ := State.slot_spec h
  unfold State.toHash
  simp only [h]
  rfl

/-- A block that goes to hashing: its slot, what goes on beside it, and the registers that count nothing (R146). -/
theorem State.toHash_spec {s : State} {n g : Nat} {x : Slot} (h : s.slot n g = some x) :
    (s.toHash n g).slot n g = some x.hashing ∧ (s.toHash n g).outputs = s.outputs ∧
      (∀ e, ((s.toHash n g).die e).wit = (s.die e).wit) ∧ ∀ m i, m.counts = false → (s.toHash n g).rd m i = s.rd m i := by
  have hkept : WitnessKept (countsOr []) (s.slotHashing x) (s.toHash n g) := by
    rw [State.toHash_eq h]
    exact (WitnessKept.refl _).addJob countsOr_counts
  obtain ⟨hn, hg⟩ := State.slot_spec h
  refine ⟨?_, hkept.outputs, fun e => ?_, fun m i hm => hkept.rd m i (countsOr_eq_false hm List.not_mem_nil)⟩
  · rw [State.slot, hkept.slots, ← State.slot, ← hn, ← hg]
    exact State.putSlot_slot _ x.hashing
  · rw [State.toHash_eq h, State.addJob_wit, State.slotHashing, State.putSlot_wit, State.dropJob,
      State.die_modDie_field Die.wit (by intro; rfl)]

/-- What one own frame of a read, and its counts, leave beside the channel. -/
theorem State.framed_rest {s u : State} {n : Nat} {o : Output}
    (h : u = (((s.setFlag Fld.CH_STATUS_YIELDED n false).countCh n 0x36 1).emit o).countCh n 0x30 4096) :
    s.SamePlain u ∧ (∀ e, (u.die e).slots = (s.die e).slots) ∧ ∀ e, (u.die e).wit = (s.die e).wit := by
  have hfirst : WitnessKept (countsOr [.CH_STATUS]) s ((s.setFlag Fld.CH_STATUS_YIELDED n false).countCh n 0x36 1) :=
    ((WitnessKept.refl s).setFlag rfl).count countsOr_counts
  have hsecond (v : State) : WitnessKept (countsOr [.CH_STATUS]) v (v.countCh n 0x30 4096) :=
    (WitnessKept.refl v).count countsOr_counts
  subst h
  refine ⟨fun m i hm hne => ?_, fun e => ?_, fun e => ?_⟩
  · have hp : countsOr [.CH_STATUS] m i = false := countsOr_eq_false hm (by simpa using hne)
    rw [(hsecond _).rd m i hp, State.emit_rd, hfirst.rd m i hp]
  · rw [(hsecond _).slots, State.emit_die, hfirst.slots]
  · rw [State.countCh, (State.count_counted ..).wit, State.emit_die, State.countCh, (State.count_counted ..).wit, State.setFlag_die]

theorem State.SamePlain.granuleFrame {s t : State} (h : s.SamePlain t) (n g : Nat) (sel : Bool) :
    t.granuleFrame n g sel = s.granuleFrame n g sel := by
  have hop : t.ownReadOp n = s.ownReadOp n := by
    unfold State.ownReadOp
    simp only [State.getF, h .WIT_CHCFG n rfl (by decide)]
    rfl
  rw [State.granuleFrame, hop, h.ownPhases, State.granuleFrame]

theorem State.samePlain_count (s : State) (d e k : Nat) : s.SamePlain (s.count d e k) := fun n i hn _ => s.count_rd d e k n i hn

theorem State.SamePlain.trans {s t u : State} (h1 : s.SamePlain t) (h2 : t.SamePlain u) : s.SamePlain u :=
  fun n i hn hne => (h2 n i hn hne).trans (h1 n i hn hne)

/-- The state of a sweep whose leaf a consumption took, as the sweep's own read arrives: all of its bytes are there. -/
def State.sharedRead (s : State) (d : Nat) (x : Slot) (r : OwnRead) : State :=
  (((s.count d 0x326 1).ownBlock x.ch (s.flag Fld.CH_TWIN_SEL x.ch) x.granule r).putSlot
    { x with own := sliceB r.data 0 4096 }).toHash x.ch x.granule

/-- The next leaf of a sweep may be read, and a consumption has taken its slot. -/
structure SharedLeaf (s : State) (d : Nat) (w : WitCmd) (x : Slot) : Prop where
  running : (s.die d).wit = some w
  op : w.op ≠ 1
  left : w.next < w.stop
  ch : x.ch = s.treeCh (d * 256 + w.tree)
  granule : x.granule = s.getF Fld.TD_BASE_BASE (d * 256 + w.tree) + w.next
  allowed : s.ownAllowed x.ch = true
  trusted : s.leafTrusted d w.tree w.next = true
  lane : s.canHash d = true
  shape : s.ownUnknown x.ch (s.ownReadOp x.ch) = false
  slot : s.slot x.ch x.granule = some x
  capture : x.st = .capture
  shared : x.sweep.isSome = true

section
variable {s : State} {d : Nat} {w : WitCmd} {x : Slot} {r : OwnRead} (h : SharedLeaf s d w x) (hs : r.still = false)
  (hr : r.runs = [])
include h hr

/-- A sweep's read of a leaf that a consumption shares has no result of its own (R143). -/
theorem State.sweepLeaf_shared (pin : Bool) : s.sweepLeaf d w.tree w.next r pin = (none, s.sharedRead d x r) := by
  have hf : r.failed = false := by rw [OwnRead.failed, hr]; rfl
  have hslot : (s.count d 0x326 1).slot x.ch x.granule = some x := by
    rw [State.slot, ((WitnessKept.refl s).count countsOr_counts (p := countsOr [])).slots, ← State.slot, h.slot]
  unfold State.sweepLeaf
  simp only [← h.ch, ← h.granule, hslot, Option.filter_some, h.capture, h.shared, decide_true, Bool.and_self, if_true, hf,
    Bool.false_eq_true, if_false, State.sharedRead]

include hs in
theorem State.sweepReads_shared : s.sweepReads d [r] = s.sharedRead d x r := by
  have hturn : s.ownTurn x.ch (s.ownReadOf x.ch (s.flag Fld.CH_TWIN_SEL x.ch) (x.granule * 4096)) = true := by
    have hallowed := h.allowed
    rw [State.ownAllowed, Bool.and_eq_true] at hallowed
    rw [State.ownTurn, hallowed.1]
    exact hallowed.2
  have hshape : s.ownUnknown x.ch (s.ownReadOf x.ch (s.flag Fld.CH_TWIN_SEL x.ch) (x.granule * 4096)).op = false := h.shape
  have hidle : s.sweepHashing x.ch x.granule = false := by
    unfold State.sweepHashing
    simp only [h.slot, h.capture, reduceCtorEq, decide_false, Bool.and_false]
  have hgo : ¬ (w.stop ≤ w.next) := Nat.not_le.mpr h.left
  unfold State.sweepReads
  simp only [h.running, ← h.ch, ← h.granule, hturn, h.trusted, h.lane, hidle, hgo, Bool.not_true, Bool.false_eq_true, or_self,
    if_false, hshape, hs, State.sweepLeaf_shared h hr]

/-- What the sweep's read of a shared leaf leaves (R143). -/
theorem State.sharedRead_spec : s.SamePlain (s.sharedRead d x r) ∧ ((s.sharedRead d x r).die d).wit = some w ∧
    (s.sharedRead d x r).outputs = s.outputs ++ [s.granuleFrame x.ch x.granule (s.flag Fld.CH_TWIN_SEL x.ch)] ∧
    (s.sharedRead d x r).slot x.ch x.granule = some (Slot.hashing { x with own := sliceB r.data 0 4096 }) := by
  have hown : ((s.count d 0x326 1).ch x.ch).own = none := by
    have hallowed := h.allowed
    rw [State.ownAllowed, Bool.and_eq_true, Option.isNone_iff_eq_none] at hallowed
    rw [State.count_ch]
    exact hallowed.1
  have hread := State.ownBlock_plain (s.flag Fld.CH_TWIN_SEL x.ch) x.granule hown hr
  unfold State.sharedRead
  generalize (s.count d 0x326 1).ownBlock x.ch (s.flag Fld.CH_TWIN_SEL x.ch) x.granule r = u at hread ⊢
  obtain ⟨hplain, -, hwit⟩ := State.framed_rest hread
  obtain ⟨-, -, hout, -⟩ := State.framed_of hread
  obtain ⟨hslot, houtputs, hkeeps, hrd⟩ :=
    State.toHash_spec (State.putSlot_slot u { x with own := sliceB r.data 0 4096 })
  refine ⟨fun m i hm hne => ?_, ?_, ?_, hslot⟩
  · exact (hrd m i hm).trans (((s.samePlain_count d 0x326 1).trans hplain) m i hm hne)
  · rw [hkeeps, State.putSlot_wit, hwit, (State.count_counted ..).wit, h.running]
  · exact houtputs.trans (hout.trans (by rw [State.count_outputs, (s.samePlain_count d 0x326 1).granuleFrame]))

end

/-- A sweep whose leaf a consumption took waits for the hash that both share (R143). -/
theorem State.sweepDone_shared {s : State} {d : Nat} {w : WitCmd} {x : Slot} {r : OwnRead} (h : SharedLeaf s d w x)
    (hs : r.still = false) (hr : r.runs = []) : s.sweepDone d [r] = s.sharedRead d x r := by
  obtain ⟨hplain, hwit, -, hslot⟩ := State.sharedRead_spec h hr
  have hch : (s.sharedRead d x r).treeCh (d * 256 + w.tree) = x.ch := by
    rw [State.treeCh, State.getF_eq_of_rd (hplain _ _ rfl (by decide)), h.ch, State.treeCh]
  have hg : (s.sharedRead d x r).getF Fld.TD_BASE_BASE (d * 256 + w.tree) + w.next = x.granule := by
    rw [State.getF_eq_of_rd (hplain _ _ rfl (by decide)), h.granule]
  have hon : s.sweepOn d [r] = s.sharedRead d x r := by
    rw [State.sweepOn, State.sweepReads_shared h hs hr, State.sweepFetch_there hwit (by rw [hch, hg, hslot]; rfl)]
  unfold State.sweepDone
  simp only [hon, hwit, h.left, or_true, if_true]

/-! ## The statement -/

section
variable {req : Requester} {d : DieId} {t : TreeId} {s : State} (h : s.DieOpen req d.val)
include h

theorem exec_load_open : exec (.load req d t) s = .next (s.writeWitCmd d.val (witWord 1 t.val) []) :=
  congrArg Host.Outcome.next (State.dieAccess_open _ h)

theorem exec_unload_open : exec (.unload req d t) s = .next (s.writeWitCmd d.val (witWord 2 t.val) []) :=
  congrArg Host.Outcome.next (State.dieAccess_open _ h)

theorem exec_sweep_open (reads : List OwnRead) :
    exec (.sweep req d t reads) s = .next (s.writeWitCmd d.val (witWord 3 t.val) reads) :=
  congrArg Host.Outcome.next (State.dieAccess_open _ h)

theorem exec_preload_open (reads : List OwnRead) :
    exec (.preload req d t reads) s = .next (s.writeWitCmd d.val (witWord 4 t.val) reads) :=
  congrArg Host.Outcome.next (State.dieAccess_open _ h)

theorem exec_preloadPin_open (reads : List OwnRead) :
    exec (.preloadPin req d t reads) s = .next (s.writeWitCmd d.val (witWord 5 t.val) reads) :=
  congrArg Host.Outcome.next (State.dieAccess_open _ h)

theorem exec_unpin_open : exec (.unpin req d t) s = .next (s.writeWitCmd d.val (witWord 6 t.val) []) :=
  congrArg Host.Outcome.next (State.dieAccess_open _ h)

end

theorem exec_loadDone_live {d : DieId} {s : State} (get : VaultGet) (p : List GroupFetch) (h : s.live d.val = true) :
    exec (.loadDone d get p) s = .next (s.loadDone d.val get p) := congrArg Host.Outcome.next (State.when_of _ _ _ h)

theorem exec_sweepDone_live {d : DieId} {s : State} (reads : List OwnRead) (h : s.live d.val = true) :
    exec (.sweepDone d reads) s = .next (s.sweepDone d.val reads) := congrArg Host.Outcome.next (State.when_of _ _ _ h)

/-- The registers that a LOAD of a tree writes as it starts. -/
def loadRegs (d t : Nat) (n : RegName) (i : Nat) : Bool :=
  decide (n = .WIT_CMD_STATUS ∧ i = d) || decide (n = .TD_STATE ∧ i = d * 256 + t)

/-- A LOAD that is taken and starts (R132). -/
def State.loadStarted (s : State) (d t n : Nat) : State :=
  (((s.witTaken d t).witStart d (loadCmd t)).treeState d t 1).markCh n

theorem State.loadStarted_kept (s : State) (d t n : Nat) : WitnessKept (loadRegs d t) s (s.loadStarted d t n) :=
  ((((WitnessKept.refl s).setF (by simp [loadRegs])).witStart (by simp [loadRegs])).treeState (by simp [loadRegs])).mark

/-- The command's own register, as the LOAD starts. -/
theorem State.loadStarted_status (s : State) (d t n : Nat) (i : Nat) : (s.loadStarted d t n).rd .WIT_CMD_STATUS i =
    ((s.witTaken d t).setFlag Fld.WIT_CMD_STATUS_BUSY d true).rd .WIT_CMD_STATUS i := by
  have hmark : (s.loadStarted d t n).rd .WIT_CMD_STATUS i =
      (((s.witTaken d t).witStart d (loadCmd t)).treeState d t 1).rd .WIT_CMD_STATUS i := rfl
  rw [hmark, State.treeState_rd, State.rd_setF _ _ _ _ _ _ (by decide)]
  rfl

theorem State.loadStarted_busy (s : State) (d t n : Nat) : (s.loadStarted d t n).flag Fld.WIT_CMD_STATUS_BUSY d = true := by
  rw [State.flag_congr (s.loadStarted_status _ _ _ _), State.flag_setFlag_same _ _ _ _ (by decide) (by decide)]

theorem State.loadStarted_tree (s : State) {d t : Nat} (n : Nat) (ht : t < 256) :
    (s.loadStarted d t n).getF Fld.WIT_CMD_STATUS_TREE d = t := by
  rw [State.getF_eq_of_rd (s.loadStarted_status _ _ _ _), State.getF_setFlag_apart _ _ _ _ _ _ (by decide) (by decide),
    State.witTaken, State.getF_setF_same _ _ _ _ (by decide)]
  exact Nat.mod_eq_of_lt ht

theorem State.loadStarted_wit (s : State) (d t n : Nat) : ((s.loadStarted d t n).die d).wit = some (loadCmd t) :=
  (State.treeState_wit _ _ _ _ _).trans (by rw [State.witStart, State.setFlag_die, State.die_modDie_same])

theorem loadRegs_eq_false {d t : Nat} {n : RegName} {i : Nat} (h1 : n ≠ .WIT_CMD_STATUS ∨ i ≠ d)
    (h2 : n ≠ .TD_STATE ∨ i ≠ d * 256 + t) : loadRegs d t n i = false := by
  rw [loadRegs, Bool.or_eq_false_iff, decide_eq_false_iff_not, decide_eq_false_iff_not]
  exact ⟨fun ⟨hm, hi⟩ => h1.elim (· hm) (· hi), fun ⟨hm, hi⟩ => h2.elim (· hm) (· hi)⟩

/-- An UNLOAD that is taken has ended (R136). -/
def State.unloaded (s : State) (d t n : Nat) : State :=
  ((((s.witTaken d t).treeEmptied d t).treeState d t 0).markCh n).witEnd d 0

theorem State.unloaded_kept (s : State) (d t n : Nat) :
    WitnessKept (fun _ _ => true) ((s.witTaken d t).treeEmptied d t) (s.unloaded d t n) :=
  (((WitnessKept.refl _).treeState rfl).mark).witEnd rfl

/-- Beside its state, an unloaded tree's register is as its emptying left it. -/
theorem State.unloaded_sweepDone (s : State) (d t n : Nat) :
    (s.unloaded d t n).flag Fld.TD_STATE_SWEEP_DONE (d * 256 + t) = false := by
  rw [State.unloaded, State.flag_congr (State.witEnd_rd _ _ _ _ (by decide))]
  exact (State.treeState_flag _ _ _ _ _ (by decide)).trans (State.flag_setFlag_same _ _ _ _ (by decide) (by decide))

theorem State.unloaded_state (s : State) (d t n : Nat) : (s.unloaded d t n).getF Fld.TD_STATE_STATE (d * 256 + t) = 0 :=
  (State.getF_eq_of_rd (State.witEnd_rd _ _ _ _ (by decide))).trans (State.treeState_state _ _ _ _)

/-- Settles O13: each command's branch is one equation, and what its operations leave alone is kept by each of them. -/
theorem witnessCommands : Obligations.WitnessCommands := by
  unfold Obligations.WitnessCommands
  refine ⟨fun req d t s ho hb => ⟨?_, ?_, ?_⟩, fun req d t s ho hb hl hbusy hst hp => ?_, fun req d t s ho hb hl hbusy => ?_,
    fun req d t s ho hb hl => ?_, fun req d t reads s ho hb hr hc hi hu => ⟨?_, ?_, fun hp => ?_⟩,
    fun req d t s ho hb hr hc hi => ?_, fun d w get p s v hl hw hop hget => ?_, fun d w c get p s v u hl hw hop hget hu => ?_,
    fun d w s hl hw hop hd => ?_, fun d w s hl hw hop hd => ?_,
    fun d w n g r x s hl hw hop hleft hn hg ha htr hc hu hx hst hsw hs hr => ?_⟩
  · rw [exec_load_open ho, State.writeWitCmd_busy _ (by decide) t.isLt hb]
  · rw [exec_unload_open ho, exec_load_open ho, State.writeWitCmd_busy _ (by decide) t.isLt hb,
      State.writeWitCmd_busy _ (by decide) t.isLt hb]
  · rw [exec_unpin_open ho, exec_load_open ho, State.writeWitCmd_busy _ (by decide) t.isLt hb,
      State.writeWitCmd_busy _ (by decide) t.isLt hb]
  · obtain ⟨n, hstart⟩ := State.witLoad_starts (s := s.witTaken d.val t.val) (d := d.val) (t := t.val)
      (by rw [State.witTaken_treeLocked, hl]) (by rw [State.witTaken_treeBusy, hbusy])
      (by rw [State.witTaken_getF _ _ _ _ (by decide)]; exact hst)
      (by rw [State.witTaken_pinnedNow, State.witTaken_getF _ _ _ _ (by decide), State.witTaken_getF _ _ _ _ (by decide)]
          exact hp)
    have hkept := s.loadStarted_kept d.val t.val n
    exact ⟨s.loadStarted d.val t.val n,
      (exec_load_open ho).trans (congrArg _ ((State.writeWitCmd_load _ t.isLt hb).trans hstart)),
      State.treeState_state _ _ _ _, s.loadStarted_busy _ _ _, s.loadStarted_tree _ t.isLt, s.loadStarted_wit _ _ _, hkept.sram,
      hkept.outputs, fun m i h1 h2 => hkept.rd m i (loadRegs_eq_false h1 h2)⟩
  · obtain ⟨n, hend⟩ := State.witUnload_empties (s := s.witTaken d.val t.val) (d := d.val) (t := t.val)
      (by rw [State.witTaken_treeLocked, hl]) (by rw [State.witTaken_treeBusy, hbusy])
    have hkept := s.unloaded_kept d.val t.val n
    refine ⟨s.unloaded d.val t.val n,
      (exec_unload_open ho).trans (congrArg _ ((State.writeWitCmd_unload _ t.isLt hb).trans hend)), s.unloaded_state _ _ _,
      State.witEnd_busy _ _ _, State.witEnd_done _ _ _, State.witEnd_result _ _ _, ?_, s.unloaded_sweepDone _ _ _,
      hkept.sram.trans (State.treeEmptied_sram _ _ _)⟩
    rw [hkept.slots]
    exact State.treeEmptied_slots _ _ _
  · have hkept : WitnessKept (fun n _ => decide (n = .WIT_CMD_STATUS)) s ((s.witTaken d.val t.val).witEnd d.val 0xB) :=
      ((WitnessKept.refl s).setF rfl).witEnd rfl
    refine ⟨_, (exec_unload_open ho).trans (congrArg _ ((State.writeWitCmd_unload _ t.isLt hb).trans
      (State.witUnload_locked (by rw [State.witTaken_treeLocked, hl])))), State.witEnd_result _ _ _, hkept.slots _,
      fun n i hn => hkept.rd n i (decide_eq_false hn)⟩
  · rw [exec_sweep_open ho, State.writeWitCmd_sweep _ t.isLt hb,
      State.witRange_taken ⟨hr, hc, hi⟩ _ (by decide) hu (fun h5 => absurd h5 (by decide)),
      if_pos rfl, State.witTaken]
  · rw [exec_preload_open ho, State.writeWitCmd_preload _ t.isLt hb,
      State.witRange_taken ⟨hr, hc, hi⟩ _ (by decide) hu (fun h5 => absurd h5 (by decide)), if_neg (by decide), State.witTaken]
  · rw [exec_preloadPin_open ho, State.writeWitCmd_preloadPin _ t.isLt hb,
      State.witRange_taken ⟨hr, hc, hi⟩ _ (by decide) hu (fun _ => hp), if_neg (by decide), State.witTaken]
  · refine ⟨_, (exec_unpin_open ho).trans (congrArg _ ((State.writeWitCmd_unpin _ t.isLt hb).trans
      (State.witRange_unpin (RangeOk.taken ⟨hr, hc, hi⟩ _ _) _))), State.witEnd_result _ _ _, State.witEnd_done _ _ _, rfl, rfl,
      fun x hx ht hlo hhi => ?_⟩
    exact State.unpinned_slots hx ht (by rw [State.witTaken_getF _ _ _ _ (by decide)]; exact hlo)
      (by rw [State.witTaken_getF _ _ _ _ (by decide), State.witTaken_getF _ _ _ _ (by decide)]; exact hhi)
  · obtain ⟨hstate, hresult, hbusy, hdone, hwit⟩ := v.loadRefused_ended d.val w.tree 9
    exact ⟨_, (exec_loadDone_live get p hl).trans (congrArg _ (State.loadDone_unread p hw hop hget)), hstate, hresult, hbusy,
      hdone, hwit, v.loadRefused_fault d.val w.tree 9⟩
  · refine ⟨_, exec_loadDone_live get p hl, ?_⟩
    generalize hf : u.fetchAll d.val w.tree (u.pinnedGroups (d.val * 256 + w.tree)) p = f
    obtain ⟨ok, y⟩ := f
    cases hr : v.treeRefusal d.val w.tree c with
    | some r =>
      obtain ⟨hstate, hresult, hbusy, hdone, hwit⟩ := (v.coReads c false).loadRefused_ended d.val w.tree r
      rw [State.loadDone_refused p hw hop hget hr]
      exact ⟨hbusy, hdone, hwit, hstate, hresult⟩
    | none =>
      rw [State.loadDone_passed p hw hop hget hr hu hf]
      cases ok with
      | false =>
        obtain ⟨hstate, hresult, hbusy, hdone, hwit⟩ := y.loadRefused_ended d.val w.tree 9
        exact ⟨hbusy, hdone, hwit, hstate, hresult⟩
      | true =>
        have hkept := y.treeRooted_kept d.val w.tree
        have htree (i : Nat) := (y.treeRooted d.val w.tree).witEnd_rd d.val 0 (n := .TD_STATE) i (by decide)
        obtain ⟨hstate, hresult, hbusy, hdone, hwit⟩ := y.treeRooted_ended d.val w.tree
        exact ⟨hbusy, hdone, hwit, hstate, hresult, (State.flag_congr (htree _)).trans (y.treeRooted_done _ _),
          (State.flag_congr (htree _)).trans (y.treeRooted_fail _ _), hkept.sram,
          fun n i h1 h2 => (State.witEnd_rd _ _ _ _ h2).trans (hkept.rd n i (decide_eq_false h1))⟩
  · obtain ⟨u, hkept, hend⟩ := State.sweepDone_ends hw hop hd
    have hreg {f : Field} (i : Nat) (hne : f.reg ≠ .WIT_CMD_STATUS) : (u.witEnd d.val 0).rd f.reg i =
        (s.sweepMarked (d.val * 256 + w.tree) w).rd f.reg i := (u.witEnd_rd d.val 0 i hne).trans (hkept.rd _ _ rfl)
    refine ⟨_, (exec_sweepDone_live _ hl).trans (congrArg _ hend), ?_, ?_, ?_, ?_, fun hwhole => ?_, State.witEnd_result _ _ _,
      State.witEnd_wit _ _ _, ?_⟩
    · rw [State.flag_congr (hreg _ (by decide)), State.sweepMarked_flag _ _ _ (by decide), State.sweepNoted_busy]
    · rw [State.flag_congr (hreg _ (by decide)), State.sweepMarked_flag _ _ _ (by decide), State.sweepNoted_fail]
    · rw [State.getF_eq_of_rd (hreg _ (by decide)), State.sweepMarked_getF _ _ _ (by decide), State.sweepNoted_passed]
    · rw [State.getF_eq_of_rd (hreg _ (by decide)), State.sweepMarked_getF _ _ _ (by decide), State.sweepNoted_firstFail]
    · rw [State.flag_congr (hreg _ (by decide)), State.sweepMarked_done hwhole]
    · exact hkept.sram.trans (State.sweepMarked_sram _ _ _)
  · rw [exec_sweepDone_live _ hl, State.sweepDone_waits hw hd]
  · obtain ⟨rfl, rfl⟩ := State.slot_spec hx
    have hleaf : SharedLeaf s d.val w x := ⟨hw, hop, hleft, hn, hg, ha, htr, hc, hu, hx, hst, hsw⟩
    obtain ⟨-, hwit, hout, hslot⟩ := State.sharedRead_spec hleaf hr
    exact ⟨_, (exec_sweepDone_live _ hl).trans (congrArg _ (State.sweepDone_shared hleaf hs hr)), hwit, hout, _, hslot,
      Slot.hashing_st _, Slot.hashing_own _⟩

end Sys2Proof.Machine

namespace Sys2Proof.Machine

/-! # Vault access (R173, R174, R178) -/

/-! ## Attempts on a device (R172, R173) -/

/-- How an attempt ends depends on the device's configuration and on whether its die is reached. -/
theorem State.attemptLevel_congr {s t : State} {v : Nat} (hv : t.rd .MC_VCFG v = s.rd .MC_VCFG v)
    (hr : t.reached 1 = s.reached 1) (a : VaultAttempt) : t.attemptLevel v a = s.attemptLevel v a := by
  unfold State.attemptLevel State.vaultNand State.getF
  rw [hv, hr]

theorem State.count_attemptLevel (s : State) (d e n v : Nat) (a : VaultAttempt) :
    (s.count d e n).attemptLevel v a = s.attemptLevel v a :=
  State.attemptLevel_congr (s.count_rd _ _ _ _ _ rfl) (s.count_counted _ _ _).reached a

/-- An attempt without bytes fails. -/
theorem State.attemptLevel_of_no_data (s : State) (v : Nat) {a : VaultAttempt} (h : a.data = none) : s.attemptLevel v a = 0 :=
  if_pos (Or.inl (by rw [h]; rfl))

theorem State.attempt_delivers {s : State} {v : Nat} {a : VaultAttempt} (h : s.attemptLevel v a ≠ 0) : ∃ b, a.data = some b :=
  Option.ne_none_iff_exists'.mp fun hn => h (s.attemptLevel_of_no_data v hn)

/-- An attempt whose runs all arrived reports nothing. -/
theorem State.attemptChecks_of_no_runs (s : State) (v : Nat) {a : VaultAttempt} (h : a.runs = []) : s.attemptChecks v a = s := by
  rw [State.attemptChecks, h]
  rfl

/-- A device is asked once where the first attempt does not fail. -/
theorem State.attempts_first {s : State} {v : Nat} {a : VaultAttempt} (l : VaultGet) (h : s.attemptLevel v a ≠ 0) :
    s.attempts v (a :: l) = [a] := by
  simp [State.attempts, h]

/-- A device is asked three times where each attempt fails. -/
theorem State.attempts_lost {s : State} {v : Nat} {a b c : VaultAttempt} (ha : a.data = none) (hb : b.data = none)
    (hc : c.data = none) : s.attempts v [a, b, c] = [a, b, c] := by
  simp [State.attempts, State.attemptLevel_of_no_data, ha, hb, hc]

theorem State.vaultTry_first {s : State} {v : Nat} {a : VaultAttempt} {b : List Byte} (l : VaultGet)
    (h : s.attemptLevel v a ≠ 0) (hd : a.data = some b) (hr : a.runs = []) :
    s.vaultTry v (a :: l) = (some (b, decide (s.attemptLevel v a = 2)), s) := by
  rw [State.vaultTry, State.attempts_first l h]
  simp [h, hd, s.attemptChecks_of_no_runs v hr]

theorem State.vaultTry_lost {s : State} {v : Nat} {a b c : VaultAttempt} (ha : a.data = none) (hb : b.data = none)
    (hc : c.data = none) (hra : a.runs = []) (hrb : b.runs = []) (hrc : c.runs = []) :
    s.vaultTry v [a, b, c] = (none, s) := by
  rw [State.vaultTry, State.attempts_lost ha hb hc]
  simp [State.attemptLevel_of_no_data, State.attemptChecks_of_no_runs, ha, hb, hc, hra, hrb, hrc]

/-- A vault read that its first attempt delivers is one counted read, and the repair of the block where it is weak (R173). -/
theorem State.vaultGet_first {s : State} {v : Nat} {a : VaultAttempt} {b : List Byte} (d addr : Nat) (l : VaultGet)
    (h : s.attemptLevel v a ≠ 0) (hd : a.data = some b) (hr : a.runs = []) : s.vaultGet d v addr (a :: l) =
      (some b, if s.attemptLevel v a = 2 then (s.count d 0x353 1).vaultRepair d v addr else s.count d 0x353 1) := by
  have hc := s.count_attemptLevel d 0x353 1 v a
  rw [State.vaultGet, State.attempts_first l h, State.vaultTry_first l (by rwa [hc]) hd hr, hc]
  simp [State.count_zero]

/-- One whose every attempt fails, on a device without a mirror, ends under 0x4004 (R173). -/
theorem State.vaultGet_lost {s : State} {v : Nat} {a b c : VaultAttempt} (d addr : Nat) (ha : a.data = none) (hb : b.data = none)
    (hc : c.data = none) (hra : a.runs = []) (hrb : b.runs = []) (hrc : c.runs = [])
    (hm : s.flag Fld.MC_VCFG_MIRROR v = false) : s.vaultGet d v addr [a, b, c] =
      (none, ((s.count d 0x353 1).count d 0x354 2).report d 0x4004 (vaultSource v)) := by
  have hmirror : (s.count d 0x353 1).flag Fld.MC_VCFG_MIRROR v = false :=
    (State.flag_congr (s.count_rd _ _ _ _ _ rfl)).trans hm
  rw [State.vaultGet, State.attempts_lost ha hb hc, State.vaultTry_lost ha hb hc hra hrb hrc]
  simp [hmirror]

theorem State.vaultRepair_bound {s : State} {d : Nat} (v addr : Nat) (h : s.bound d = true) :
    s.vaultRepair d v addr = (s.vaultWeak d v addr).report d 0x4005 (vaultSource v) := if_pos h

theorem State.count_bound (s : State) (d e n x : Nat) : (s.count d e n).bound x = s.bound x := by
  rw [State.bound, s.count_getF _ _ _ _ _ rfl, State.bound]

theorem exec_vaultRead_live {d : DieId} {s : State} (port dev : Bool) (addr : Nat) (get : VaultGet) (h : s.live d.val = true) :
    exec (.vaultRead d port dev addr get) s = .next (s.vaultGet d.val (vaultDev port dev) addr get).2 :=
  congrArg Host.Outcome.next (State.when_of _ _ _ h)

/-! ## Vault refresh (R171, R174) -/

/-- The block is no longer written down for repair. -/
def State.weakDone (s : State) (d : Nat) (k : Nat × Nat) : State :=
  s.modCare d fun c => { c with weak := c.weak.filter fun x => decide (x ≠ k) }

section
variable {d : DieId} {port dev : Bool} {b : Nat} {s : State} (hl : s.live d.val = true) (hb : s.bound d.val = true)
  (hp : port = true → s.reached 1 = true) (hw : (vaultDev port dev, b) ∈ (s.die d.val).care.weak)
include hl hb hp hw

theorem exec_vaultRefresh_weak (writes : List Bool) : exec (.vaultRefresh d port dev b writes) s =
    .next (if s.vaultNand (vaultDev port dev) then (s.weakDone d.val (vaultDev port dev, b)).moveBlock d.val (vaultDev port dev) b
        writes ((s.weakDone d.val (vaultDev port dev, b)).spares (vaultDev port dev))
      else if s.flag Fld.MC_VCFG_MIRROR (vaultDev port dev) then
        (s.weakDone d.val (vaultDev port dev, b)).rewriteSector d.val (vaultDev port dev) b writes
      else s) := by
  have hany : ((s.die d.val).care.weak.any fun x => decide (x = (vaultDev port dev, b))) = true :=
    List.any_eq_true.mpr ⟨_, hw, decide_eq_true rfl⟩
  have hport : (!port || s.reached 1) = true := by
    cases port
    · rfl
    · exact hp rfl
  exact congrArg Host.Outcome.next (State.when_of _ _ _ (by simp only [hl, hb, hany, hport, Bool.and_self]))

end

/-- A block that has just been mapped lies where it was mapped (R169). -/
theorem State.mapBlock_physBlock (s : State) (v j p : Nat) : (s.mapBlock v j p).physBlock v j = p := by
  have hmap : Tbl.get (s.mapBlock v j p).vault.maps v [] =
      ((Tbl.get s.vault.maps v []).filter fun e => decide (e.1 ≠ j)) ++ [(j, p)] := Tbl.get_set_same _ _ _ _
  have hold : ((Tbl.get s.vault.maps v []).filter fun e => decide (e.1 ≠ j)).find? (fun e => decide (e.1 = j)) = none :=
    List.find?_eq_none.mpr fun e he => by simpa using (List.mem_filter.mp he).2
  rw [State.physBlock, hmap, List.find?_append, hold]
  simp

theorem State.physBlock_congr {s t : State} (h : t.vault.maps = s.vault.maps) (v j : Nat) :
    t.physBlock v j = s.physBlock v j := by
  rw [State.physBlock, h, State.physBlock]

theorem State.report_weak (s : State) (d code source x : Nat) :
    ((s.report d code source).die x).care.weak = (s.die x).care.weak := by
  by_cases hx : x = d
  · rw [hx, State.report_die]
  · rw [State.report_die_other _ _ _ _ _ hx]

/-- A spare that is taken changes neither the map, nor what is weak, nor what was sent out (R171). -/
theorem State.takeSpare_rest (s : State) (d v p : Nat) : (s.takeSpare d v p).vault.maps = s.vault.maps ∧
    (s.takeSpare d v p).outputs = s.outputs ∧ ∀ x, ((s.takeSpare d v p).die x).care.weak = (s.die x).care.weak := by
  unfold State.takeSpare
  dsimp only
  split
  · exact ⟨by rw [State.report_vault]; rfl, State.report_outputs .., State.report_weak _ _ _ _⟩
  · exact ⟨rfl, rfl, fun _ => rfl⟩

/-- The block as it moves into a free spare whose program goes well, before the old block returns to the pool (R174). -/
def State.blockMoved (s : State) (d v j p : Nat) : State :=
  (((s.takeSpare d v p).emit (.vaultCopy v (s.physBlock v j) p)).mapBlock v j p).emit (.vaultBlockErase v (s.physBlock v j))

/-- The old block is a free spare then. -/
theorem State.moveBlock_good (s : State) (d v j p : Nat) (rest : List Nat) : s.moveBlock d v j [] (p :: rest) =
    (s.blockMoved d v j p).modVault fun x =>
      { x with freed := Tbl.set x.freed v (Tbl.get x.freed v [] ++ [s.physBlock v j]) [] } := rfl

theorem State.blockMoved_physBlock (s : State) (d v j p : Nat) : (s.blockMoved d v j p).physBlock v j = p :=
  State.mapBlock_physBlock _ v j p

theorem State.mapBlock_die (s : State) (v j p x : Nat) : (s.mapBlock v j p).die x = s.die x := rfl

/-- Both copies of the map are written (R170). -/
theorem State.mapBlock_outputs (s : State) (v j p : Nat) : ∃ m0 m1, (s.mapBlock v j p).outputs = s.outputs ++ [m0, m1] :=
  ⟨_, _, List.append_assoc _ _ _⟩

theorem State.blockMoved_weak (s : State) (d v j p x : Nat) :
    ((s.blockMoved d v j p).die x).care.weak = (s.die x).care.weak := by
  rw [State.blockMoved, State.emit_die, State.mapBlock_die, State.emit_die]
  exact (s.takeSpare_rest d v p).2.2 x

theorem State.blockMoved_outputs (s : State) (d v j p : Nat) : ∃ m0 m1, (s.blockMoved d v j p).outputs =
    s.outputs ++ [.vaultCopy v (s.physBlock v j) p, m0, m1, .vaultBlockErase v (s.physBlock v j)] := by
  obtain ⟨m0, m1, hmaps⟩ := ((s.takeSpare d v p).emit (.vaultCopy v (s.physBlock v j) p)).mapBlock_outputs v j p
  refine ⟨m0, m1, ?_⟩
  rw [State.blockMoved, State.emit_outputs, hmaps, State.emit_outputs, (s.takeSpare_rest d v p).2.1]
  simp only [List.append_assoc, List.cons_append, List.nil_append]

/-- A move whose writes go well (R174): the block lies where the spare was, and the old one has been erased. -/
theorem State.moveBlock_spec (s : State) (d v j p : Nat) (rest : List Nat) :
    (s.moveBlock d v j [] (p :: rest)).physBlock v j = p ∧
    (∀ x, ((s.moveBlock d v j [] (p :: rest)).die x).care.weak = (s.die x).care.weak) ∧
    ∃ m0 m1, (s.moveBlock d v j [] (p :: rest)).outputs =
      s.outputs ++ [.vaultCopy v (s.physBlock v j) p, m0, m1, .vaultBlockErase v (s.physBlock v j)] := by
  rw [State.moveBlock_good]
  refine ⟨(State.physBlock_congr rfl _ _).trans (s.blockMoved_physBlock d v j p), fun x => ?_, ?_⟩
  · rw [State.modVault_die, State.blockMoved_weak]
  · rw [State.modVault_outputs]
    exact s.blockMoved_outputs d v j p

theorem State.weakDone_weak (s : State) (d : Nat) (k : Nat × Nat) : k ∉ ((s.weakDone d k).die d).care.weak := by
  rw [State.weakDone, State.modCare, State.die_modDie_same]
  simp

/-! ## The start of media care (R170, R177, R178, R183, R195) -/

/-- The maps are read into what the part keeps of the vault, beside the directory (R170). -/
theorem State.readMaps_rest (s : State) (l : List (Fin 4 × List Byte × List Byte)) :
    ∃ y : Vault, l.foldl State.readMap s = { s with vault := y } ∧ y.directory = s.vault.directory := by
  refine List.foldlRecOn (motive := fun t => ∃ y : Vault, t = { s with vault := y } ∧ y.directory = s.vault.directory)
    l State.readMap ⟨s.vault, rfl, rfl⟩ ?_
  rintro _ ⟨y, rfl, hy⟩ m -
  unfold State.readMap
  dsimp only
  split
  · exact ⟨y, rfl, hy⟩
  · exact ⟨_, rfl, hy⟩

theorem State.readDirectory_plain {s : State} (d : Nat) (u : List Byte) (h : s.getF Fld.MC_VCFG_TYPE 0 ≠ 0) :
    s.readDirectory d [{ data := some u }] = (some (sliceB u 0 4096), s.count d 0x353 1) := by
  rw [State.readDirectory, if_neg h, State.vaultGet_plain d 0 u [] fun h2 => absurd h2 (by decide)]
  rfl

/-- Where no device is declared, or nothing is heard of it, there is no directory, and what is kept of the vault and of the keys
stays as it was (R173, R178). -/
theorem State.readDirectory_unread {s : State} (d : Nat) {get : VaultGet} (h : s.getF Fld.MC_VCFG_TYPE 0 = 0 ∨ get = []) :
    (s.readDirectory d get).1 = none ∧ (s.readDirectory d get).2.vault = s.vault ∧
      (s.readDirectory d get).2.keys = s.keys := by
  unfold State.readDirectory
  split
  · exact ⟨rfl, rfl, rfl⟩
  next ht =>
    obtain ⟨t, hcounted, hget⟩ := s.vaultGet_nil d 0 0
    rw [h.resolve_left ht, hget]
    exact ⟨rfl, (State.report_vault ..).trans hcounted.1.vault, (State.report_keys ..).trans hcounted.1.keys⟩

theorem State.vaultState_lt (s : State) (x : Option (List Byte)) : (s.vaultState x).1 < 4 := by
  unfold State.vaultState
  split
  · decide
  · split
    · decide
    · split
      · decide
      · split
        · exact Nat.lt_succ_self 3
        · decide

theorem State.sealKey_congr {s t : State} (h : t.keys = s.keys) (d : Nat) : t.sealKey d = s.sealKey d := by
  rw [State.sealKey, h, State.sealKey]

/-- What the directory's place shows is read with die 0's sealing key (R178). -/
theorem State.vaultState_congr {s t : State} (h : t.keys = s.keys) (x : Option (List Byte)) :
    t.vaultState x = s.vaultState x := by
  unfold State.vaultState
  simp only [State.sealKey_congr h]

/-- A care fault sets a bit of MC_FAULT (Table 6.7). -/
theorem faultBit_care {code : Nat} (hc : code / 0x1000 = 4) (d source : Nat) :
    faultBit d code source = some (.MC_FAULT, d, code % 0x1000 - 1) := by
  unfold faultBit
  simp only [hc]

/-- Media care of die d has started, and the die shows the state `v` of the vault. -/
structure CareStarted (d v : Nat) (s : State) : Prop where
  started : (s.die d).care.started = true
  shown : s.getF Fld.MC_STATUS_VAULT d = v

namespace CareStarted

variable {d v : Nat} {s : State}

theorem setF (h : CareStarted d v s) {f : Field} {i x : Nat} (hf : f.fits)
    (ha : Fld.MC_STATUS_VAULT.reg ≠ f.reg ∨ Fld.MC_STATUS_VAULT.lo + Fld.MC_STATUS_VAULT.width ≤ f.lo ∨
      f.lo + f.width ≤ Fld.MC_STATUS_VAULT.lo) : CareStarted d v (s.setF f i x) :=
  ⟨h.started, (State.getF_setF_apart s f _ i d x hf ha).trans h.shown⟩

theorem setFlag (h : CareStarted d v s) {f : Field} {i : Nat} {b : Bool} (hf : f.fits)
    (ha : Fld.MC_STATUS_VAULT.reg ≠ f.reg ∨ Fld.MC_STATUS_VAULT.lo + Fld.MC_STATUS_VAULT.width ≤ f.lo ∨
      f.lo + f.width ≤ Fld.MC_STATUS_VAULT.lo) : CareStarted d v (s.setFlag f i b) := h.setF hf ha

theorem modCare (h : CareStarted d v s) {e : Nat} {f : Care → Care} (hf : ∀ c, (f c).started = c.started) :
    CareStarted d v (s.modCare e f) :=
  ⟨(State.die_modDie_field (fun x => x.care.started) (fun x => hf x.care) s e d).trans h.started, h.shown⟩

theorem report (h : CareStarted d v s) {e code source : Nat} (hc : code / 0x1000 = 4) :
    CareStarted d v (s.report e code source) := by
  refine ⟨?_, (State.report_getF s e code source Fld.MC_STATUS_VAULT d rfl fun b hb => ?_).trans h.shown⟩
  · by_cases he : d = e
    · subst he
      rw [State.report_die]
      exact h.started
    · rw [State.report_die_other _ _ _ _ _ he]
      exact h.started
  · rw [faultBit_care hc] at hb
    cases hb

theorem openJournal (h : CareStarted d v s) {e : Nat} {x : Intent} : CareStarted d v (s.openJournal e x) := by
  unfold State.openJournal
  have hcare : CareStarted d v (s.modCare e fun c =>
      { c with journal := some { ch := 8 * e + x.ch.val, base := x.base, count := x.count, twin := x.twin } }) :=
    h.modCare fun _ => rfl
  have hopen := hcare.setFlag (f := Fld.MC_STATUS_JOURNAL_OPEN) (i := e) (b := true) (by decide) (by decide)
  have hgranule := hopen.setF (f := Fld.MC_JOPEN_GRANULE) (i := e) (x := x.base) (by decide) (by decide)
  have hchannel := hgranule.setF (f := Fld.MC_JOPEN_CHANNEL) (i := e) (x := x.ch.val) (by decide) (by decide)
  have htarget := hchannel.setFlag (f := Fld.MC_JOPEN_TARGET) (i := e) (b := x.twin) (by decide) (by decide)
  exact (htarget.setFlag (f := Fld.MC_JOPEN_VALID) (by decide) (by decide)).report rfl

end CareStarted

/-- The sealed units of a die that do not open are reported. -/
def State.brokenReported (s : State) (d : Nat) (scan : VaultScan) : State :=
  s.forEach (List.range (brokenOf scan d).length) fun s _ => s.report d 0x400B 0

/-- The health log of a die is indexed (R183). -/
def State.careIndexed (s : State) (d : Nat) (scan : VaultScan) : State :=
  (s.brokenReported d scan).modCare d fun c =>
    { c with health := (s.brokenReported d scan).logIndex d (brokenOf scan d) }

/-- What a die whose vault is BOUND does on top: an open entry of the journal is taken up (R195). -/
def State.careScanned (s : State) (d : Nat) (scan : VaultScan) (intents : List Intent) : State :=
  match intents.find? fun x => decide (x.die.val = d) with
  | none => s.careIndexed d scan
  | some x => (s.careIndexed d scan).openJournal d x

/-- Media care starts on a die: the state of the vault is shown, the write generations are taken up, and a BOUND vault is scanned
(R177, R178). -/
theorem State.careStart_eq (s : State) (d v : Nat) (scan : VaultScan) (gens : List (DieId × Nat × Nat)) (intents : List Intent) :
    ∃ f : Care → Care, (∀ c, (f c).started = true) ∧ s.careStart d v scan gens intents =
      if v ≠ 3 then (s.setF Fld.MC_STATUS_VAULT d v).modCare d f
      else ((s.setF Fld.MC_STATUS_VAULT d v).modCare d f).careScanned d scan intents :=
  ⟨_, fun _ => rfl, rfl⟩

theorem CareStarted.careIndexed {d v : Nat} {s : State} (h : CareStarted d v s) {e : Nat} {scan : VaultScan} :
    CareStarted d v (s.careIndexed e scan) := by
  have hscan : CareStarted d v (s.brokenReported e scan) :=
    List.foldlRecOn (motive := CareStarted d v) _ _ h fun _ hs _ _ => hs.report rfl
  exact hscan.modCare fun _ => rfl

theorem CareStarted.careScanned {d v : Nat} {s : State} (h : CareStarted d v s) {e : Nat} {scan : VaultScan}
    {intents : List Intent} : CareStarted d v (s.careScanned e scan intents) := by
  unfold State.careScanned
  split
  · exact h.careIndexed
  · exact h.careIndexed.openJournal

/-- The die on which media care starts shows what the directory's place showed. -/
theorem State.careStart_started (s : State) (d : Nat) {v : Nat} (hv : v < 4) (scan : VaultScan)
    (gens : List (DieId × Nat × Nat)) (intents : List Intent) : CareStarted d v (s.careStart d v scan gens intents) := by
  obtain ⟨f, hf, hstart⟩ := s.careStart_eq d v scan gens intents
  have hshown : CareStarted d v ((s.setF Fld.MC_STATUS_VAULT d v).modCare d f) := by
    refine ⟨?_, (State.getF_setF_same s _ d v (by decide)).trans (Nat.mod_eq_of_lt hv)⟩
    rw [State.modCare, State.die_modDie_same]
    exact hf _
  rw [hstart]
  split
  · exact hshown
  · exact hshown.careScanned

/-- A die that has started shows the same once others have started. -/
theorem CareStarted.careStart {d v : Nat} {s : State} (h : CareStarted d v s) (hv : v < 4) (e : Nat) (scan : VaultScan)
    (gens : List (DieId × Nat × Nat)) (intents : List Intent) : CareStarted d v (s.careStart e v scan gens intents) := by
  by_cases he : e = d
  · rw [he]
    exact s.careStart_started d hv scan gens intents
  · obtain ⟨f, -, hstart⟩ := s.careStart_eq e v scan gens intents
    have hshown : CareStarted d v ((s.setF Fld.MC_STATUS_VAULT e v).modCare e f) := by
      refine ⟨?_, (State.getF_setF_other s _ _ e d v (by decide) (Or.inr (Or.inl (Ne.symm he)))).trans h.shown⟩
      rw [State.modCare, State.modDie, State.die_setDie_other _ _ _ _ (Ne.symm he)]
      exact h.started
    rw [hstart]
    split
    · exact hshown
    · exact hshown.careScanned

theorem State.careIndexed_vault (s : State) (d : Nat) (scan : VaultScan) : (s.careIndexed d scan).vault = s.vault :=
  List.foldlRecOn (motive := fun t : State => t.vault = s.vault) _ _ rfl fun _ hs _ _ => (State.report_vault ..).trans hs

theorem State.openJournal_vault (s : State) (d : Nat) (x : Intent) : (s.openJournal d x).vault = s.vault := by
  unfold State.openJournal
  dsimp only
  rw [State.report_vault, State.setFlag_vault, State.setFlag_vault, State.setF_vault, State.setF_vault, State.setFlag_vault,
    State.modCare, State.modDie_vault]

theorem State.careScanned_vault (s : State) (d : Nat) (scan : VaultScan) (intents : List Intent) :
    (s.careScanned d scan intents).vault = s.vault := by
  unfold State.careScanned
  split
  · exact s.careIndexed_vault d scan
  · exact (State.openJournal_vault ..).trans (s.careIndexed_vault d scan)

theorem State.careStart_vault (s : State) (d v : Nat) (scan : VaultScan) (gens : List (DieId × Nat × Nat))
    (intents : List Intent) : (s.careStart d v scan gens intents).vault = s.vault := by
  obtain ⟨f, -, hstart⟩ := s.careStart_eq d v scan gens intents
  rw [hstart]
  split
  · rfl
  · exact State.careScanned_vault _ _ _ _

/-- Media care starts on each of some dies. -/
theorem State.careStarts_spec (s : State) (l : List Nat) {v : Nat} (hv : v < 4) (scan : VaultScan)
    (gens : List (DieId × Nat × Nat)) (intents : List Intent) :
    (s.forEach l fun s d => s.careStart d v scan gens intents).vault = s.vault ∧
      ∀ d ∈ l, CareStarted d v (s.forEach l fun s d => s.careStart d v scan gens intents) :=
  ⟨List.foldlRecOn (motive := fun t : State => t.vault = s.vault) l _ rfl fun t ht d _ =>
      (t.careStart_vault d v scan gens intents).trans ht,
    fun d hd => foldl_establishes (inv := fun _ => True) (fun _ _ _ => trivial)
      (fun t _ => t.careStart_started d hv scan gens intents) (fun _ e _ h => h.careStart hv e scan gens intents) hd trivial⟩

/-- The dies that run and have not started their care state (R178). -/
def State.unstarted (s : State) : List Nat := numsBelow s.nDies fun d => s.live d && !(s.die d).care.started

theorem State.mem_unstarted {s : State} {d : Nat} (hd : d < s.nDies) (hl : s.live d = true)
    (hs : (s.die d).care.started = false) : d ∈ s.unstarted :=
  List.mem_filter.mpr ⟨List.mem_range.mpr hd, by rw [hl, hs]; rfl⟩

/-- A directory that verifies is taken (R178). -/
def State.directoryTaken (s : State) (unit : Option (List Byte)) : State :=
  if (s.vaultState unit).1 = 3 then s.modVault fun y => { y with directory := (s.vaultState unit).2 } else s

theorem State.directoryTaken_directory (s : State) (unit : Option (List Byte)) : (s.directoryTaken unit).vault.directory =
    if (s.vaultState unit).1 = 3 then (s.vaultState unit).2 else s.vault.directory := by
  unfold State.directoryTaken
  split <;> rfl

/-- The directory's read, behind that of the maps. -/
def State.directoryRead (s : State) (get : VaultGet) (scan : VaultScan) : Option (List Byte) × State :=
  (scan.maps.foldl State.readMap s).readDirectory (s.unstarted.headD 0) get

section
variable {s : State} (get : VaultGet) (scan : VaultScan) (gens : List (DieId × Nat × Nat)) (intents : List Intent)
  (hp : s.platLive = true)
include hp

/-- Each die that has not started starts with what the read gives (R178). -/
theorem exec_vaultDirectoryRead_due (hd : s.unstarted ≠ []) : exec (.vaultDirectoryRead get scan gens intents) s =
    .next (((s.directoryRead get scan).2.directoryTaken (s.directoryRead get scan).1).forEach s.unstarted fun t d =>
      t.careStart d ((s.directoryRead get scan).2.vaultState (s.directoryRead get scan).1).1 scan gens intents) :=
  congrArg Host.Outcome.next (State.when_of _ _ _ (by rw [hp]; exact decide_eq_true hd))

theorem exec_vaultDirectoryRead_none (hd : s.unstarted = []) : exec (.vaultDirectoryRead get scan gens intents) s = .next s :=
  congrArg Host.Outcome.next (if_neg (by rw [hp, Bool.true_and, decide_eq_true_eq]; exact fun h => h hd))

/-- What a read of the directory gives the dies, by what its place shows. -/
theorem vaultDirectoryRead_spec {unit : Option (List Byte)} (hd : s.unstarted ≠ [])
    (hunit : (s.directoryRead get scan).1 = unit) (hkeys : (s.directoryRead get scan).2.keys = s.keys)
    (hdir : (s.directoryRead get scan).2.vault.directory = s.vault.directory) :
    RunsTo (.vaultDirectoryRead get scan gens intents) s fun t =>
      t.vault.directory = (if (s.vaultState unit).1 = 3 then (s.vaultState unit).2 else s.vault.directory) ∧
      ∀ d, d < s.nDies → s.live d = true → (s.die d).care.started = false →
        (t.die d).care.started = true ∧ t.getF Fld.MC_STATUS_VAULT d = (s.vaultState unit).1 := by
  have hstate : (s.directoryRead get scan).2.vaultState unit = s.vaultState unit := State.vaultState_congr hkeys unit
  refine ⟨_, exec_vaultDirectoryRead_due get scan gens intents hp hd, ?_⟩
  rw [hunit, hstate]
  obtain ⟨hvault, hstarted⟩ := ((s.directoryRead get scan).2.directoryTaken unit).careStarts_spec s.unstarted
    (s.vaultState_lt unit) scan gens intents
  refine ⟨?_, fun d hd hl hs => ?_⟩
  · rw [hvault, State.directoryTaken_directory, hstate, hdir]
  · obtain ⟨hst, hsh⟩ := hstarted d (State.mem_unstarted hd hl hs)
    exact ⟨hst, hsh⟩

end

/-- Settles O17: a vault read is decided by its first attempt, or by three that fail; a refresh is one branch of its instruction,
and the moved block's state is followed through the spare, the map and the erase; each die that starts shows what the read gave. -/
theorem vaultAccess : Obligations.VaultAccess := by
  unfold Obligations.VaultAccess
  refine ⟨fun d port dev addr a l s hl ha hr => ?good, fun d port dev addr a l s hl hb ha hr => ?weak,
    fun d port dev addr a b c s hl ha hb hc hra hrb hrc hm => ?lost, fun d port dev b s hl hb hp hw hn hm => ?sector,
    fun d port dev b p rest s hl hb hp hw hn hs => ?move, fun u scan gens intents s hp ht hd => ?read,
    fun get scan gens intents s hp hn => ?unread⟩
  case good =>
    have hne : s.attemptLevel (vaultDev port dev) a ≠ 0 := by rw [ha]; decide
    obtain ⟨b, hd⟩ := State.attempt_delivers hne
    rw [exec_vaultRead_live port dev addr _ hl, State.vaultGet_first _ _ _ hne hd hr, if_neg (by rw [ha]; decide)]
  case weak =>
    have hne : s.attemptLevel (vaultDev port dev) a ≠ 0 := by rw [ha]; decide
    obtain ⟨b, hd⟩ := State.attempt_delivers hne
    rw [exec_vaultRead_live port dev addr _ hl, State.vaultGet_first _ _ _ hne hd hr, if_pos ha,
      State.vaultRepair_bound _ _ ((s.count_bound _ _ _ _).trans hb)]
  case lost => rw [exec_vaultRead_live port dev addr _ hl, State.vaultGet_lost _ _ ha hb hc hra hrb hrc hm]
  case sector =>
    rw [exec_vaultRefresh_weak hl hb hp hw, hn, if_neg Bool.false_ne_true, if_pos hm]
    rfl
  case move =>
    refine ⟨_, exec_vaultRefresh_weak hl hb hp hw [], ?_⟩
    have hspares : (s.weakDone d.val (vaultDev port dev, b)).spares (vaultDev port dev) = p :: rest := hs
    obtain ⟨hphys, hweak, hout⟩ := (s.weakDone d.val (vaultDev port dev, b)).moveBlock_spec d.val (vaultDev port dev) b p rest
    rw [if_pos hn, hspares]
    refine ⟨hphys, ?_, hout⟩
    rw [hweak]
    exact s.weakDone_weak _ _
  case read =>
    obtain ⟨d, hlt, hl, hs⟩ := hd
    obtain ⟨y, hmaps, hdir⟩ := s.readMaps_rest scan.maps
    have hread : s.directoryRead [{ data := some u }] scan =
        (some (sliceB u 0 4096), ({ s with vault := y } : State).count (s.unstarted.headD 0) 0x353 1) := by
      rw [State.directoryRead, hmaps]
      exact State.readDirectory_plain _ u ht
    refine vaultDirectoryRead_spec _ scan gens intents hp (List.ne_nil_of_mem (State.mem_unstarted hlt hl hs))
      (congrArg Prod.fst hread) ?_ ?_
    · rw [hread, State.count_keys]
    · rw [hread, State.count_vault]
      exact hdir
  case unread =>
    by_cases hd : s.unstarted = []
    · refine ⟨s, exec_vaultDirectoryRead_none get scan gens intents hp hd, rfl, fun d hlt hl hs => ?_⟩
      have hmem := State.mem_unstarted hlt hl hs
      rw [hd] at hmem
      cases hmem
    · obtain ⟨y, hmaps, hdir⟩ := s.readMaps_rest scan.maps
      obtain ⟨hnone, hvault, hkeys⟩ := State.readDirectory_unread (s := { s with vault := y }) (s.unstarted.headD 0) hn
      rw [← hmaps] at hnone hvault hkeys
      refine vaultDirectoryRead_spec get scan gens intents hp hd hnone (hkeys.trans ?_) ((congrArg Vault.directory hvault).trans ?_)
      · rw [hmaps]
      · rw [hmaps]
        exact hdir

end Sys2Proof.Machine

namespace Sys2Proof.Machine

/-! # Care commands (R182, R193, R196, R197) -/

/-! ## How a command is taken and how it ends -/

theorem careWord_op {op : Nat} (v : Word) (h : op < 16) : Fld.MC_CMD_OP.of (careWord op v) = op :=
  (Field.of_put_same _ _ _ (by decide)).trans (Nat.mod_eq_of_lt h)

theorem careWord_region (op : Nat) (v : Word) : Fld.MC_CMD_REGION.of (careWord op v) = Fld.MC_CMD_REGION.of v :=
  Field.of_put_other _ _ _ _ (by decide) (by decide)

theorem careWord_target (op : Nat) (v : Word) : Fld.MC_CMD_TARGET.of (careWord op v) = Fld.MC_CMD_TARGET.of v :=
  Field.of_put_other _ _ _ _ (by decide) (by decide)

theorem careRegion_lt (v : Word) : Fld.MC_CMD_REGION.of v < 32 := bitsOf_lt _ _ _

/-- A command that is taken is noted with its region. -/
def State.careTaken (s : State) (d : Nat) (v : Word) : State := s.setF Fld.MC_CMD_STATUS_REGION d (Fld.MC_CMD_REGION.of v)

theorem State.careTaken_rd (s : State) (d : Nat) (v : Word) {n : RegName} (i : Nat) (h : n ≠ .MC_CMD_STATUS) :
    (s.careTaken d v).rd n i = s.rd n i := s.rd_setF _ _ _ _ _ h

theorem State.careTaken_getF (s : State) (d : Nat) (v : Word) {f : Field} (i : Nat) (h : f.reg ≠ .MC_CMD_STATUS) :
    (s.careTaken d v).getF f i = s.getF f i := State.getF_eq_of_rd (s.careTaken_rd d v i h)

theorem State.careTaken_flag (s : State) (d : Nat) (v : Word) {f : Field} (i : Nat) (h : f.reg ≠ .MC_CMD_STATUS) :
    (s.careTaken d v).flag f i = s.flag f i := State.flag_congr (s.careTaken_rd d v i h)

theorem State.careTaken_ot (s : State) (d : Nat) (v : Word) : (s.careTaken d v).ot = s.ot := rfl

theorem State.careTaken_careArgs (s : State) (d : Nat) (v : Word) (e r : Nat) :
    (s.careTaken d v).careArgs e r = s.careArgs e r := by
  unfold State.careArgs State.regionCount
  simp (disch := decide) only [State.careTaken_getF, State.careTaken_flag]

theorem State.careTaken_regionCh (s : State) (d : Nat) (v : Word) (r : Nat) : (s.careTaken d v).regionCh r = s.regionCh r := by
  unfold State.regionCh State.treeCh
  simp (disch := decide) only [State.careTaken_getF, State.careTaken_flag]

theorem State.careTaken_canSeal (s : State) (d : Nat) (v : Word) (e : Nat) : (s.careTaken d v).canSeal e = s.canSeal e := by
  unfold State.canSeal State.bound
  simp (disch := decide) only [State.careTaken_getF]
  rfl

theorem State.careTaken_canFlush (s : State) (d : Nat) (v : Word) (e : Nat) : (s.careTaken d v).canFlush e = s.canFlush e := by
  rw [State.canFlush, State.careTaken_canSeal]
  rfl

theorem State.careTaken_ownReadOp (s : State) (d : Nat) (v : Word) (n : Nat) : (s.careTaken d v).ownReadOp n = s.ownReadOp n := by
  unfold State.ownReadOp
  simp (disch := decide) only [State.careTaken_getF]

theorem State.careTaken_ownUnknown (s : State) (d : Nat) (v : Word) (n op : Nat) :
    (s.careTaken d v).ownUnknown n op = s.ownUnknown n op := by
  unfold State.ownUnknown State.shape
  simp (disch := decide) only [State.careTaken_getF, State.careTaken_rd]

theorem State.careTaken_selRefused (s : State) (d : Nat) (v : Word) (n : Nat) (sel : Bool) :
    (s.careTaken d v).selRefused n sel = s.selRefused n sel := by
  unfold State.selRefused
  simp (disch := decide) only [State.careTaken_flag]

theorem State.careTaken_clientHeld (s : State) (d : Nat) (v : Word) (n : Nat) :
    (s.careTaken d v).clientHeld n = s.clientHeld n := by
  unfold State.clientHeld State.clientLines State.released State.forcedHold State.lostHold State.gateIsOpen
  simp (disch := decide) only [State.careTaken_flag, State.careTaken_rd, State.careTaken_getF]
  rfl

theorem State.careTaken_govBind (s : State) (d : Nat) (v : Word) (n f : Nat) :
    (s.careTaken d v).govBind n f = s.govBind n f := by
  refine congrArg BitVec.toNat (s.careTaken_rd d v _ ?_)
  split <;> decide

theorem State.careTaken_ownGap (s : State) (d : Nat) (v : Word) (n : Nat) : (s.careTaken d v).ownGap n = s.ownGap n := by
  unfold State.ownGap State.usSince State.us
  simp (disch := decide) only [State.careTaken_flag, State.careTaken_rd, State.careTaken_getF, State.careTaken_govBind]
  rfl

theorem State.careTaken_ownMay (s : State) (d : Nat) (v : Word) (n : Nat) (sel : Bool) :
    (s.careTaken d v).ownMay n sel = s.ownMay n sel := by
  unfold State.ownMay
  simp (disch := decide) only [State.careTaken_flag, State.careTaken_getF, State.careTaken_selRefused,
    State.careTaken_clientHeld, State.careTaken_ownGap]
  rfl

theorem State.careTaken_canHash (s : State) (d : Nat) (v : Word) (e : Nat) : (s.careTaken d v).canHash e = s.canHash e := by
  unfold State.canHash State.spillTarget State.hasLanes
  simp (disch := decide) only [State.careTaken_flag, State.careTaken_getF]
  rfl

theorem State.careEnd_rd (s : State) (d r : Nat) {n : RegName} (i : Nat) (h : n ≠ .MC_CMD_STATUS) :
    (s.careEnd d r).rd n i = s.rd n i := by
  rw [State.careEnd, State.rd_setF _ _ _ _ _ _ h, State.rd_setFlag _ _ _ _ _ _ h, State.rd_setFlag _ _ _ _ _ _ h]

theorem State.careEnd_sram (s : State) (d r : Nat) : (s.careEnd d r).sram = s.sram := rfl
theorem State.careEnd_outputs (s : State) (d r : Nat) : (s.careEnd d r).outputs = s.outputs := rfl
theorem State.careEnd_dies (s : State) (d r : Nat) : (s.careEnd d r).dies = s.dies := rfl
theorem State.careEnd_die (s : State) (d r e : Nat) : (s.careEnd d r).die e = s.die e := rfl

theorem State.careEnd_result (s : State) (d r : Nat) : (s.careEnd d r).getF Fld.MC_CMD_STATUS_RESULT d = r % 16 :=
  State.getF_setF_same _ _ _ _ (by decide)

theorem State.careEnd_done (s : State) (d r : Nat) : (s.careEnd d r).flag Fld.MC_CMD_STATUS_DONE d = true := by
  rw [State.careEnd, State.flag_setF_apart _ _ _ _ _ _ (by decide) (by decide),
    State.flag_setFlag_same _ _ _ _ (by decide) (by decide)]

theorem State.careEnd_region (s : State) (d r : Nat) :
    (s.careEnd d r).getF Fld.MC_CMD_STATUS_REGION d = s.getF Fld.MC_CMD_STATUS_REGION d := by
  rw [State.careEnd, State.getF_setF_apart _ _ _ _ _ _ (by decide) (by decide),
    State.getF_setFlag_apart _ _ _ _ _ _ (by decide) (by decide), State.getF_setFlag_apart _ _ _ _ _ _ (by decide) (by decide)]

/-! ## What MC_CMD does (R197) -/

theorem State.writeMcCmd_busy {s : State} {d : Nat} (op : Nat) (v : Word) (x : CareInput)
    (h : s.flag Fld.MC_CMD_STATUS_BUSY d = true) : s.writeMcCmd d (careWord op v) x =
      s.mcFault d (Fld.MC_CMD_REGION.of v) (s.regionCh (d * 32 + Fld.MC_CMD_REGION.of v)) 0x400C := by
  unfold State.writeMcCmd
  simp only [careWord_region, h, if_true]

section
variable {s : State} {d : Nat} (v : Word) (x : CareInput) (h : s.flag Fld.MC_CMD_STATUS_BUSY d = false)
include h

/-- FLUSH (R182). -/
theorem State.writeMcCmd_flush : s.writeMcCmd d (careWord 5 v) x =
    if s.canFlush d then ((s.careTaken d v).flushTally d x.writes).careEnd d 0 else (s.careTaken d v).careEnd d 6 := by
  unfold State.writeMcCmd
  simp only [careWord_region, careWord_op v (by decide : 5 < 16), h, Bool.false_eq_true, if_false, if_true]
  rw [← State.careTaken, State.careTaken_canFlush]

variable {op : Nat}

/-- The commands on a region, behind the check that it is written. -/
theorem State.writeMcCmd_region (h1 : 1 ≤ op) (h4 : op ≤ 4) : s.writeMcCmd d (careWord op v) x =
    if s.flag Fld.CR_CFG_VALID (d * 32 + Fld.MC_CMD_REGION.of v) = false then (s.careTaken d v).careEnd d 4
    else if op = 4 then ((s.careTaken d v).newPass (d * 32 + Fld.MC_CMD_REGION.of v)).careEnd d 0
    else if s.careArgs d (d * 32 + Fld.MC_CMD_REGION.of v) = false then (s.careTaken d v).careEnd d 5
    else if op = 3 then (s.careTaken d v).twinCheck d (d * 32 + Fld.MC_CMD_REGION.of v) (s.getF Fld.MC_ARG0_FIRST d)
      (s.getF Fld.MC_ARG1_COUNT d) x.reads x.paths
    else if s.canSeal d = false then (s.careTaken d v).careEnd d 6
    else (s.careTaken d v).careQueue d (d * 32 + Fld.MC_CMD_REGION.of v) (decide (op = 1))
      (decide (Fld.MC_CMD_TARGET.of v = 1)) := by
  have hnot5 : op ≠ 5 := by omega
  have hop : ¬ (op = 0 ∨ 5 < op) := by omega
  unfold State.writeMcCmd
  simp only [careWord_region, careWord_target, careWord_op v (by omega : op < 16), h, hnot5, hop, Bool.false_eq_true, if_false]
  rw [← State.careTaken]
  simp (disch := decide) only [State.careTaken_flag, State.careTaken_getF, State.careTaken_careArgs, State.careTaken_canSeal,
    Bool.not_eq_true']

/-- TWIN_CHECK of blocks that lie in their region (R196). -/
theorem State.writeMcCmd_twin (hv : s.flag Fld.CR_CFG_VALID (d * 32 + Fld.MC_CMD_REGION.of v) = true)
    (ha : s.careArgs d (d * 32 + Fld.MC_CMD_REGION.of v) = true) : s.writeMcCmd d (careWord 3 v) x =
      (s.careTaken d v).twinCheck d (d * 32 + Fld.MC_CMD_REGION.of v) (s.getF Fld.MC_ARG0_FIRST d) (s.getF Fld.MC_ARG1_COUNT d)
        x.reads x.paths := by
  rw [State.writeMcCmd_region v x h (by decide) (by decide), hv, ha, if_neg (by decide), if_neg (by decide), if_neg (by decide),
    if_pos rfl]

end

section
variable {req : Requester} {d : DieId} {s : State} (v : Word) (h : s.DieOpen req d.val)
include h

theorem exec_recover_open : exec (.recover req d v) s = .next (s.writeMcCmd d.val (careWord 1 v) {}) :=
  congrArg Host.Outcome.next (State.dieAccess_open _ h)

theorem exec_refresh_open : exec (.refresh req d v) s = .next (s.writeMcCmd d.val (careWord 2 v) {}) :=
  congrArg Host.Outcome.next (State.dieAccess_open _ h)

theorem exec_twinCheck_open (reads : List OwnRead) (paths : List (List GroupFetch)) :
    exec (.twinCheck req d v reads paths) s =
      .next (s.writeMcCmd d.val (careWord 3 v) { reads := reads, paths := paths }) :=
  congrArg Host.Outcome.next (State.dieAccess_open _ h)

theorem exec_scrubRestart_open : exec (.scrubRestart req d v) s = .next (s.writeMcCmd d.val (careWord 4 v) {}) :=
  congrArg Host.Outcome.next (State.dieAccess_open _ h)

theorem exec_flush_open (ws : List Bool) :
    exec (.flush req d v ws) s = .next (s.writeMcCmd d.val (careWord 5 v) { writes := ws }) :=
  congrArg Host.Outcome.next (State.dieAccess_open _ h)

theorem exec_careRegionWrite_open (r : RegionId) (g : CrReg) :
    exec (.careRegionWrite req d r g v) s = .next (s.writeCr d.val r.val g v) :=
  congrArg Host.Outcome.next (State.dieAccess_open _ h)

end

/-! ## Writes of the vault that go well (R171, R176, R183) -/

/-- A write of the vault has gone well, with no result left to use, and die d's records and the time of its last flush are as
before. -/
structure WroteWell (d : Nat) (s : State) (x : Bool × List Bool × State) : Prop where
  ok : x.1 = true
  used : x.2.1 = []
  health : (x.2.2.die d).care.health = (s.die d).care.health
  flushOt : (x.2.2.die d).care.flushOt = (s.die d).care.flushOt

namespace WroteWell

variable {d : Nat} {s t : State} {x y : Bool × List Bool × State}

theorem refl (d : Nat) (s : State) : WroteWell d s (true, [], s) := ⟨rfl, rfl, rfl, rfl⟩

theorem trans (h1 : WroteWell d s x) (h2 : WroteWell d x.2.2 y) : WroteWell d s y :=
  ⟨h2.ok, h2.used, h2.health.trans h1.health, h2.flushOt.trans h1.flushOt⟩

/-- A change of what the part keeps of the vault, or of what was sent out, comes on top. -/
theorem sameDies (h : WroteWell d s x) (ht : t.dies = x.2.2.dies) : WroteWell d s (x.1, x.2.1, t) := by
  refine ⟨h.ok, h.used, ?_, ?_⟩
  · rw [State.die, ht]
    exact h.health
  · rw [State.die, ht]
    exact h.flushOt

/-- The rest of a list of writes, each of which goes well. -/
theorem foldl {α : Type} {f : State → α → List Bool → Bool × List Bool × State} (h : WroteWell d s x)
    (hf : ∀ s a, WroteWell d s (f s a [])) (l : List α) : WroteWell d s (l.foldl (fun (y : Bool × List Bool × State) a =>
      (y.1 && (f y.2.2 a y.2.1).1, (f y.2.2 a y.2.1).2)) x) := by
  refine List.foldlRecOn (motive := WroteWell d s) l _ h fun y hy a _ => ?_
  have hstep := hf y.2.2 a
  rw [hy.used]
  exact hy.trans ⟨by rw [hy.ok, Bool.true_and, hstep.ok], hstep.used, hstep.health, hstep.flushOt⟩

theorem eachDev (s : State) (devs : List Nat) {f : State → Nat → List Bool → Bool × List Bool × State}
    (hf : ∀ s v, WroteWell d s (f s v [])) : WroteWell d s (s.eachDev devs [] f) := (refl d s).foldl hf devs

theorem vaultProgram (s : State) (e v addr : Nat) (bytes : List Byte) : WroteWell d s (s.vaultProgram e v addr bytes []) := by
  rw [State.vaultProgram]
  exact (refl d s).sameDies rfl

theorem eraseSpan (s : State) (e v : Nat) (p : Nat × Nat) : WroteWell d s (s.eraseSpan e v p []) := by
  unfold State.eraseSpan
  dsimp only
  rw [State.eraseBlocks]
  exact (refl d s).sameDies rfl

theorem eraseUnit (s : State) (e : Nat) (journal : Bool) (u : Nat) : WroteWell d s (s.eraseUnit e journal u []) :=
  eachDev s _ fun s v => eraseSpan s e v _

theorem nextGen (s : State) (e kind : Nat) : WroteWell d s (true, [], (s.nextGen e kind).2) := by
  rw [State.nextGen]
  exact ⟨rfl, rfl, State.die_modDie_field (fun x => x.care.health) (by intro; rfl) s e d,
    State.die_modDie_field (fun x => x.care.flushOt) (by intro; rfl) s e d⟩

theorem writeSealed (s : State) (e kind addr : Nat) (plain : List Byte) :
    WroteWell d s (s.writeSealed e kind addr plain []).2 :=
  (nextGen s e kind).trans (eachDev _ _ fun s v => vaultProgram s e v addr _)

theorem writePage (s : State) (e n first : Nat) : WroteWell d s (s.writePage e n first []) := by
  unfold State.writePage
  dsimp only
  exact (writeSealed s e 2 _ _).sameDies rfl

theorem writePages (s : State) (e : Nat) (l : List (Nat × Nat)) : WroteWell d s (s.writePages e l []) := by
  have hfold := (refl d s).foldl (f := fun s (p : Nat × Nat) ws => s.writePage e p.1 p.2 ws) (fun s p => writePage s e p.1 p.2) l
  unfold State.writePages
  exact hfold

theorem dropUnit (s : State) (e u : Nat) : WroteWell d s (s.dropUnit e u []) := (eraseUnit s e false u).sameDies rfl

/-- Room is made at the next place of a die's log (R183). -/
theorem logRoom (e k : Nat) : ∀ s : State, WroteWell d s (s.logRoom e [] k) := by
  induction k with
  | zero => exact refl d
  | succ k ih =>
    intro s
    unfold State.logRoom
    dsimp only
    generalize (if s.places e false / s.unitPlaces < 2 then 0
      else (Tbl.get s.vault.nextPage e 0 / s.unitPlaces + 1) % (s.places e false / s.unitPlaces)) = u
    have hpages (t : State) (l : List (Nat × Nat)) : WroteWell d t (t.writePages e l []) := writePages t e l
    have hdrop (t : State) : WroteWell d t (t.dropUnit e u []) := dropUnit t e u
    split
    · exact refl d s
    · split
      · rw [if_pos (hdrop s).ok, (hdrop s).used]
        exact (hdrop s).trans (hpages _ _)
      · rw [(hpages s _).ok, (hpages s _).used, (hdrop _).ok, (hdrop _).used]
        exact (hpages s _).trans ((hdrop _).trans (ih _))

end WroteWell

/-! ## FLUSH (R182) -/

/-- The page of a record, as channel and first granule. -/
def recordPage (p : Nat × Health) : Nat × Nat := (p.1 / 2 ^ 20, pageFirst (p.1 % 2 ^ 20))

/-- A record whose page has been written is in the log. -/
def pageCleaned (p : Nat × Health) (x : Nat × Nat) : Nat × Health :=
  if decide (p.1 / 2 ^ 20 = x.1) && decide (pageFirst (p.1 % 2 ^ 20) = x.2) then (p.1, { p.2 with dirty := false }) else p

theorem pageCleaned_key (p : Nat × Health) (x : Nat × Nat) : (pageCleaned p x).1 = p.1 := by
  unfold pageCleaned
  split <;> rfl

theorem pageCleaned_same (p : Nat × Health) : (pageCleaned p (recordPage p)).2.dirty = false := by
  simp [pageCleaned, recordPage]

theorem pageCleaned_clean {p : Nat × Health} (h : p.2.dirty = false) (x : Nat × Nat) : (pageCleaned p x).2.dirty = false := by
  unfold pageCleaned
  split
  · rfl
  · exact h

/-- A record of one of the pages that have been written is not dirty any more. -/
theorem pagesCleaned_clean {p : Nat × Health} {l : List (Nat × Nat)} (h : p.2.dirty = true → recordPage p ∈ l) :
    (l.foldl pageCleaned p).2.dirty = false := by
  cases hd : p.2.dirty with
  | false =>
    exact List.foldlRecOn (motive := fun q : Nat × Health => q.2.dirty = false) l _ hd fun q hq x _ => pageCleaned_clean hq x
  | true =>
    refine foldl_establishes (inv := fun q => recordPage q = recordPage p) (goal := fun q => q.2.dirty = false)
      (fun q x hq => ?_) (fun q hq => ?_) (fun q x _ hq => pageCleaned_clean hq x) (h hd) rfl
    · rw [recordPage, pageCleaned_key, ← recordPage, hq]
    · rw [← hq]
      exact pageCleaned_same q

/-- A changed page is appended, and its records are in the log then (R182, R183). -/
theorem State.flushPage_good (s : State) (d n first : Nat) : (s.flushPage d n first []).1 = [] ∧
    ((s.flushPage d n first []).2.die d).care.health = (s.die d).care.health.map (fun p => pageCleaned p (n, first)) ∧
    ((s.flushPage d n first []).2.die d).care.flushOt = (s.die d).care.flushOt := by
  have hroom : WroteWell d s (s.logRoom d [] (s.places d false)) := .logRoom d _ s
  have hpage := hroom.trans (.writePage _ d n first)
  unfold State.flushPage
  dsimp only
  rw [hroom.ok, hroom.used, hpage.ok]
  refine ⟨hpage.used, ?_⟩
  rw [Bool.and_self, if_pos rfl, State.modCare, State.die_modDie_same]
  exact ⟨congrArg _ hpage.health, hpage.flushOt⟩

/-- The pages of a list are written one after another. -/
def State.flushPages (s : State) (d : Nat) (l : List (Nat × Nat)) (ws : List Bool) : List Bool × State :=
  l.foldl (fun (a : List Bool × State) p => a.2.flushPage d p.1 p.2 a.1) (ws, s)

theorem State.flushPages_good (d : Nat) (l : List (Nat × Nat)) : ∀ s : State,
    ((s.flushPages d l []).2.die d).care.health = (s.die d).care.health.map (fun p => l.foldl pageCleaned p) ∧
    ((s.flushPages d l []).2.die d).care.flushOt = (s.die d).care.flushOt := by
  induction l with
  | nil => exact fun s => ⟨(List.map_id _).symm, rfl⟩
  | cons x l ih =>
    intro s
    obtain ⟨hused, hhealth, hot⟩ := s.flushPage_good d x.1 x.2
    have hstep : s.flushPage d x.1 x.2 [] = ([], (s.flushPage d x.1 x.2 []).2) := Prod.ext hused rfl
    have hrest : s.flushPages d (x :: l) [] = (s.flushPage d x.1 x.2 []).2.flushPages d l [] := by
      rw [State.flushPages, List.foldl_cons]
      dsimp only
      rw [hstep]
      rfl
    obtain ⟨hhealth', hot'⟩ := ih (s.flushPage d x.1 x.2 []).2
    rw [hrest, hhealth', hot', hhealth, List.map_map]
    exact ⟨rfl, hot⟩

theorem Counted.care {d x : Nat} {s t : State} (h : Counted d s t) : (t.die x).care = (s.die x).care := by
  obtain ⟨-, -, hother, hdie⟩ := h
  by_cases hx : x = d
  · rw [hx, hdie]
  · rw [hother x hx]

/-- The die notes when it last wrote its tally. -/
def State.flushNoted (s : State) (d : Nat) : State := s.modCare d fun c => { c with flushOt := s.ot }

/-- The tally as a flush whose writes go well leaves it. -/
def State.tallyFlushed (s : State) (d : Nat) : State := ((s.flushNoted d).flushPages d ((s.flushNoted d).dirtyPages d) []).2

theorem State.tallyFlushed_dirty (s : State) (d : Nat) : (s.tallyFlushed d).dirty d = 0 := by
  rw [State.dirty, State.tallyFlushed, (State.flushPages_good d _ _).1, List.length_eq_zero_iff, List.filter_eq_nil_iff]
  intro q hq
  obtain ⟨p, hp, rfl⟩ := List.mem_map.mp hq
  refine Bool.eq_false_iff.mp (pagesCleaned_clean fun hd => ?_)
  exact List.mem_eraseDups.mpr (List.mem_map.mpr ⟨p, List.mem_filter.mpr ⟨hp, hd⟩, rfl⟩)

theorem State.tallyFlushed_flushOt (s : State) (d : Nat) : ((s.tallyFlushed d).die d).care.flushOt = s.ot := by
  rw [State.tallyFlushed, (State.flushPages_good d _ _).2, State.flushNoted, State.modCare, State.die_modDie_same]

/-- A flush whose writes go well leaves no record dirty, and shows it (R182). -/
theorem State.flushTally_good (s : State) (d : Nat) : (s.flushTally d []).getF Fld.MC_STATUS_TALLY d = 0 ∧
    ((s.flushTally d []).die d).care.flushOt = s.ot := by
  have htally : s.flushTally d [] =
      ((s.tallyFlushed d).setF Fld.MC_STATUS_TALLY d ((s.tallyFlushed d).dirty d)).count d 0x355 1 := rfl
  rw [htally, State.tallyFlushed_dirty]
  constructor
  · rw [State.count_getF _ _ _ _ _ _ rfl, State.getF_setF_same _ _ _ _ (by decide), Nat.zero_mod]
  · rw [(State.count_counted ..).care, State.setF_die, State.tallyFlushed_flushOt]

/-! ## TWIN_CHECK (R71, R79, R196) -/

/-- A region lies on a channel of its die. -/
theorem State.regionCh_die (s : State) (r : Nat) : s.regionCh r / 8 = r / 32 := by
  have htree := s.getF_lt Fld.CR_CFG_TREE r
  have hch := s.getF_lt Fld.CR_CFG_CHANNEL r
  have hleaf := s.getF_lt Fld.TD_CFG_CHANNEL (r / 32 * 256 + s.getF Fld.CR_CFG_TREE r)
  unfold State.regionCh State.treeCh
  dsimp only at htree hch hleaf ⊢
  split <;> omega

/-- The registers that a TWIN_CHECK may write while it goes on. -/
def twinRegs : List RegName := .MC_CMD_STATUS :: .CH_STATUS :: fetchRegs

/-- What a TWIN_CHECK leaves alone while it goes on: the regions, the trees, the lines that are trusted, and that no own frame stays
open. -/
structure TwinKept (s t : State) : Prop where
  rd : ∀ n i, n.counts = false → n ∉ twinRegs → t.rd n i = s.rd n i
  trusted : ∀ d x l k, t.trusted d x l k = s.trusted d x l k
  own : ∀ n, (t.ch n).own = (s.ch n).own

namespace TwinKept

variable {r s t : State}

theorem refl (s : State) : TwinKept s s := ⟨fun _ _ _ _ => rfl, fun _ _ _ _ => rfl, fun _ => rfl⟩

theorem trans (h1 : TwinKept r s) (h2 : TwinKept s t) : TwinKept r t where
  rd n i hc hn := (h2.rd n i hc hn).trans (h1.rd n i hc hn)
  trusted d x l k := (h2.trusted d x l k).trans (h1.trusted d x l k)
  own n := (h2.own n).trans (h1.own n)

theorem fetch (h : TwinKept r s) (hf : FetchKept s t) : TwinKept r t := by
  refine h.trans ⟨fun n i hc hn => hf.rd_eq i hc fun hm => hn ?_, hf.trusted, fun n => ?_⟩
  · exact List.mem_cons_of_mem _ (List.mem_cons_of_mem _ hm)
  · rw [State.ch, hf.kept.chans, State.ch]

theorem setF (h : TwinKept r s) {f : Field} {i x : Nat} (hf : f.reg ∈ twinRegs) : TwinKept r (s.setF f i x) :=
  h.trans ⟨fun n j _ hn => s.rd_setF f n i j x fun he => hn (he ▸ hf), fun _ _ _ _ => rfl, fun _ => rfl⟩

theorem setFlag (h : TwinKept r s) {f : Field} {i : Nat} {b : Bool} (hf : f.reg ∈ twinRegs) : TwinKept r (s.setFlag f i b) :=
  h.setF hf

theorem emit (h : TwinKept r s) {o : Output} : TwinKept r (s.emit o) :=
  h.trans ⟨fun _ _ _ _ => rfl, fun _ _ _ _ => rfl, fun _ => rfl⟩

theorem countCh (h : TwinKept r s) {n k x : Nat} : TwinKept r (s.countCh n k x) :=
  h.fetch ((FetchKept.refl s).counted (State.count_counted ..))

theorem careTaken (h : TwinKept r s) {d : Nat} {v : Word} : TwinKept r (s.careTaken d v) := h.setF (by decide)

/-- The own read of a block that meets no error. -/
theorem ownBlock (h : TwinKept r s) {n g : Nat} {sel : Bool} {x : OwnRead} (ho : (s.ch n).own = none) (hx : x.runs = []) :
    TwinKept r (s.ownBlock n sel g x) := by
  rw [State.ownBlock_plain sel g ho hx]
  exact (h.setFlag (by decide)).countCh.emit.countCh

end TwinKept

section TwinView

variable {s u : State} (h : TwinKept s u)
include h

theorem TwinKept.getF {f : Field} (i : Nat) (hc : f.reg.counts = false) (hf : f.reg ∉ twinRegs) : u.getF f i = s.getF f i :=
  State.getF_eq_of_rd (h.rd _ _ hc hf)

theorem TwinKept.flag {f : Field} (i : Nat) (hc : f.reg.counts = false) (hf : f.reg ∉ twinRegs) : u.flag f i = s.flag f i :=
  State.flag_congr (h.rd _ _ hc hf)

theorem TwinKept.regionCh (r : Nat) : u.regionCh r = s.regionCh r := by
  unfold State.regionCh State.treeCh
  simp (disch := decide) only [h.getF, h.flag]

theorem TwinKept.regionBase (r : Nat) : u.regionBase r = s.regionBase r := by
  unfold State.regionBase
  simp (disch := decide) only [h.getF, h.flag]

theorem TwinKept.witnessed (r g : Nat) : u.witnessed r g = s.witnessed r g := by
  unfold State.witnessed State.regionCount
  simp (disch := decide) only [h.getF, h.flag, h.regionBase]

theorem TwinKept.leafTrusted (d t leaf : Nat) : u.leafTrusted d t leaf = s.leafTrusted d t leaf := by
  rw [State.leafTrusted, h.trusted, State.leafTrusted]

theorem TwinKept.leafOk (d t leaf : Nat) (b : List Byte) : u.leafOk d t leaf b = s.leafOk d t leaf b := by
  unfold State.leafOk State.leafEntry State.leafBytes
  simp (disch := decide) only [h.getF, h.rd, h.trusted]

end TwinView

/-- A leaf whose group is trusted lacks no group. -/
theorem State.bringPath_trusted {s : State} {d t leaf : Nat} (h : s.leafTrusted d t leaf = true) : s.bringPath d t leaf [] = s := by
  have hfirst : (s.trusted d t (0 + 0) (leaf / 8 / 8 ^ 0)).isNone = false := by
    rw [pow_zero, Nat.div_one, ← Option.not_isSome, ← State.leafTrusted, h]
    rfl
  have hgaps : s.pathGaps d t leaf = [] := by
    refine List.reverse_eq_nil_iff.mpr (List.takeWhile_eq_nil_iff.mpr fun hl => ?_)
    rw [List.get_eq_getElem, List.getElem_map, List.getElem_range]
    exact Bool.eq_false_iff.mp hfirst
  rw [State.bringPath, hgaps]
  rfl

/-- A leaf's check, where the hash job goes well, says whether the block is the tree's (R130). -/
theorem State.leafCheck_plain (s : State) (d t leaf : Nat) (b : List Byte) :
    ∃ u, FetchKept s u ∧ s.leafCheck d t leaf b {} = (s.leafOk d t leaf b, u) := by
  unfold State.leafCheck State.leafOk
  cases s.leafEntry d t leaf with
  | none => exact ⟨s, .refl s, by simp⟩
  | some want =>
    dsimp only
    by_cases hs : s.getF Fld.TD_STATE_STATE (d * 256 + t) = 2
    · rw [if_neg (not_not_intro hs), decide_eq_true hs, Bool.true_and]
      by_cases hm : hashOf (s.leafBytes d t leaf b) = want
      · exact ⟨_, (FetchKept.refl s).useLine, by rw [State.hashCheck_match d hm, hm, decide_eq_true rfl]⟩
      · exact ⟨_, (FetchKept.refl s).useLine.newGen,
          by rw [State.hashCheck_mismatch d hm, decide_eq_false fun he => hm (Option.some.inj he).symm]⟩
    · exact ⟨s, .refl s, by rw [if_pos hs, decide_eq_false hs, Bool.false_and]⟩

/-- A read that meets no error is one own frame. -/
theorem State.readForHash_plain (s : State) (n g : Nat) (sel : Bool) (b : List Byte) :
    s.readForHash n g sel { data := b } = s.ownBlock n sel g { data := b } := by
  simp [State.readForHash, State.laneDetections, OwnRead.failed, runLost, State.forEach]

theorem State.dropLines_nil (s : State) (n t leaf : Nat) : s.dropLines n t leaf [] = s := rfl

/-- An own read of a block, and its check as the leaf of a tree whose group is trusted, both of which go well (R193). -/
theorem State.flashSource_plain {s : State} {n t leaf : Nat} (g : Nat) (sel : Bool) (b : List Byte) (ho : (s.ch n).own = none)
    (hl : s.leafTrusted (n / 8) t leaf = true) : ∃ u, TwinKept s u ∧
      (s.flashSource n g t leaf sel { data := b } []).1.isSome = s.leafOk (n / 8) t leaf (sliceB b 0 4096) ∧
      (s.flashSource n g t leaf sel { data := b } []).2 = u := by
  have hread : TwinKept s (s.ownBlock n sel g { data := b }) := (TwinKept.refl s).ownBlock ho rfl
  have hpath := State.bringPath_trusted ((hread.leafTrusted _ _ _).trans hl)
  obtain ⟨u, hu, hcheck⟩ := (s.ownBlock n sel g { data := b }).leafCheck_plain (n / 8) t leaf (sliceB b 0 4096)
  have hsource : s.flashSource n g t leaf sel { data := b } [] =
      (if s.leafOk (n / 8) t leaf (sliceB b 0 4096) then some (sliceB b 0 4096) else none, u) := by
    unfold State.flashSource
    dsimp only
    rw [State.readForHash_plain, State.dropLines_nil, hpath, hcheck, hread.leafOk]
    rfl
  refine ⟨u, hread.fetch hu, ?_, ?_⟩
  · rw [hsource]
    cases s.leafOk (n / 8) t leaf (sliceB b 0 4096) <;> rfl
  · rw [hsource]

/-- A block is the tree's: a leaf vouches for it (R196). -/
def State.twinPasses (s : State) (r g : Nat) (b : List Byte) : Bool :=
  match s.witnessed r g with
  | some p => s.leafOk (r / 32) p.1 p.2 (sliceB b 0 4096)
  | none => false

theorem State.twinPasses_iff (s : State) (r g : Nat) (b : List Byte) : s.twinPasses r g b = true ↔
    ∃ p, s.witnessed r g = some p ∧ s.leafOk (r / 32) p.1 p.2 (sliceB b 0 4096) = true := by
  unfold State.twinPasses
  cases s.witnessed r g with
  | none => exact ⟨fun h => (Bool.false_ne_true h).elim, fun ⟨_, hp, _⟩ => nomatch hp⟩
  | some p => exact ⟨fun h => ⟨p, rfl, h⟩, fun ⟨q, hq, h⟩ => by cases hq; exact h⟩

theorem TwinKept.twinPasses {s u : State} (h : TwinKept s u) (r g : Nat) (b : List Byte) :
    u.twinPasses r g b = s.twinPasses r g b := by
  unfold State.twinPasses
  simp only [h.witnessed, h.leafOk]

/-- One block of a TWIN_CHECK, whose read and hash job go well. -/
theorem State.twinBlock_plain {s : State} {r g : Nat} (b : List Byte) (ho : (s.ch (s.regionCh r)).own = none)
    (hl : ∀ p, s.witnessed r g = some p → s.leafTrusted (r / 32) p.1 p.2 = true) :
    (s.twinBlock r g { data := b } []).1 = s.twinPasses r g b ∧ TwinKept s (s.twinBlock r g { data := b } []).2 := by
  unfold State.twinBlock State.twinPasses
  cases hw : s.witnessed r g with
  | none => exact ⟨rfl, (TwinKept.refl s).ownBlock ho rfl⟩
  | some p =>
    rw [← s.regionCh_die]
    obtain ⟨u, hu, hpass, rfl⟩ := State.flashSource_plain g (!s.flag Fld.CH_TWIN_SEL (s.regionCh r)) b ho
      (by rw [s.regionCh_die]; exact hl p hw)
    exact ⟨hpass, hu⟩

/-- The blocks of a TWIN_CHECK, one after another, behind those that went before. -/
def twinBlocks (r first : Nat) (reads : List OwnRead) (paths : List (List GroupFetch)) (l : List Nat) (a : Bool × State) :
    Bool × State :=
  l.foldl (fun (a : Bool × State) k =>
    let b := a.2.twinBlock r (first + k) (reads.getD k { data := [] }) (paths.getD k [])
    (a.1 && b.1, b.2)) a

/-- They all pass where each is the tree's. -/
theorem twinBlocks_plain {s : State} {r first : Nat} (blocks : List (List Byte)) {l : List Nat}
    (ho : (s.ch (s.regionCh r)).own = none)
    (hl : ∀ k ∈ l, ∀ p, s.witnessed r (first + k) = some p → s.leafTrusted (r / 32) p.1 p.2 = true) :
    ∀ a : Bool × State, TwinKept s a.2 → (twinBlocks r first (blocks.map fun b => { data := b }) [] l a).1 =
      (a.1 && l.all fun k => s.twinPasses r (first + k) (blocks.getD k [])) := by
  induction l with
  | nil => exact fun a _ => (Bool.and_true _).symm
  | cons k l ih =>
    intro a ha
    obtain ⟨hpass, hkept⟩ := State.twinBlock_plain (s := a.2) (r := r) (g := first + k) (blocks.getD k [])
      (by rw [ha.regionCh, ha.own, ho])
      fun p hp => (ha.leafTrusted _ _ _).trans (hl k List.mem_cons_self p ((ha.witnessed _ _).symm.trans hp))
    have hread : (blocks.map fun b => ({ data := b } : OwnRead)).getD k { data := [] } = { data := blocks.getD k [] } :=
      List.getD_map ..
    rw [← hread, ha.twinPasses] at hpass
    rw [← hread] at hkept
    refine (ih (fun j hj => hl j (List.mem_cons_of_mem _ hj)) (a.1 && _, _) (ha.trans hkept)).trans ?_
    rw [List.all_cons, ← Bool.and_assoc]
    exact congrArg (fun b => a.1 && b && _) hpass

/-- Where own frames to the twin may run and a lane is to be had, the blocks are read and checked (R196). -/
theorem State.twinCheck_runs {s : State} {d r n first count : Nat} (reads : List OwnRead) (paths : List (List GroupFetch))
    (hn : n = s.regionCh r) (hu : s.ownUnknown n (s.ownReadOp n) = false) (ho : (s.ch n).own = none)
    (hm : s.ownMay n (!s.flag Fld.CH_TWIN_SEL n) = true) (hh : s.canHash d = true) :
    s.twinCheck d r first count reads paths =
      (twinBlocks r (s.regionBase r + first) reads paths (List.range count) (true, s)).2.twinEnds d r
        (twinBlocks r (s.regionBase r + first) reads paths (List.range count) (true, s)).1 := by
  subst hn
  have hsel : s.selRefused (s.regionCh r) (!s.flag Fld.CH_TWIN_SEL (s.regionCh r)) = false := by
    rw [State.ownMay, Bool.and_eq_true, Bool.and_eq_true] at hm
    simpa using hm.1.2
  unfold State.twinCheck
  simp only [hu, hsel, ho, hm, hh, Option.isSome_none, Bool.not_true, Bool.or_self, Bool.false_eq_true, if_false]
  rfl

/-- Where they are refused, no block passes (R79). -/
theorem State.twinCheck_refused {s : State} {d r n : Nat} (first count : Nat) (reads : List OwnRead)
    (paths : List (List GroupFetch)) (hn : n = s.regionCh r) (hu : s.ownUnknown n (s.ownReadOp n) = false)
    (hs : s.selRefused n (!s.flag Fld.CH_TWIN_SEL n) = true) :
    s.twinCheck d r first count reads paths = s.twinEnds d r false := by
  subst hn
  unfold State.twinCheck
  simp only [hu, hs, Bool.false_eq_true, if_false, if_true]

theorem State.twinEnds_ok (s : State) (d r : Nat) (ok : Bool) : (s.twinEnds d r ok).flag Fld.CR_STATE_TWIN_OK r = ok :=
  (State.flag_congr (State.careEnd_rd _ _ _ _ (by decide))).trans (State.flag_setFlag_same _ _ _ _ (by decide) (by decide))

theorem State.twinEnds_outputs (s : State) (d r : Nat) (ok : Bool) : (s.twinEnds d r ok).outputs = s.outputs := by
  rw [State.twinEnds, State.careEnd_outputs, State.setFlag_outputs, State.modCare, State.modDie_outputs]

theorem State.twinEnds_result (s : State) (d r : Nat) (ok : Bool) :
    (s.twinEnds d r ok).getF Fld.MC_CMD_STATUS_RESULT d = 0 := State.careEnd_result _ _ _

theorem State.twinEnds_done (s : State) (d r : Nat) (ok : Bool) :
    (s.twinEnds d r ok).flag Fld.MC_CMD_STATUS_DONE d = true := State.careEnd_done _ _ _

/-- The verdict of a TWIN_CHECK that has just been taken, where every group that vouches for one of its blocks is trusted and the
reads and hash jobs go well: whether each block is the tree's. -/
theorem State.twinCheck_taken {s : State} {d r n first count : Nat} (v : Word) (blocks : List (List Byte)) (hr : r / 32 = d)
    (hn : n = s.regionCh r) (hu : s.ownUnknown n (s.ownReadOp n) = false) (ho : (s.ch n).own = none)
    (hm : s.ownMay n (!s.flag Fld.CH_TWIN_SEL n) = true) (hh : s.canHash d = true)
    (hl : ∀ k p, k < count → s.witnessed r (s.regionBase r + first + k) = some p → s.leafTrusted d p.1 p.2 = true) :
    ∃ (t : State) (ok : Bool),
      (s.careTaken d v).twinCheck d r first count (blocks.map fun b => { data := b }) [] = t.twinEnds d r ok ∧
      (ok = true ↔ ∀ k, k < count → ∃ p, s.witnessed r (s.regionBase r + first + k) = some p ∧
        s.leafOk d p.1 p.2 (sliceB (blocks.getD k []) 0 4096) = true) := by
  have hkept : TwinKept s (s.careTaken d v) := (TwinKept.refl s).careTaken
  refine ⟨_, _, State.twinCheck_runs (n := n) _ _ ?_ ?_ ?_ ?_ ?_, ?_⟩
  · rw [hn, hkept.regionCh]
  · rw [State.careTaken_ownReadOp, State.careTaken_ownUnknown, hu]
  · rw [hkept.own, ho]
  · rw [State.careTaken_flag _ _ _ _ (by decide), State.careTaken_ownMay, hm]
  · rw [State.careTaken_canHash, hh]
  · subst hr hn
    rw [hkept.regionBase, twinBlocks_plain blocks ho (fun k hk p => hl k p (List.mem_range.mp hk)) _ hkept, Bool.true_and,
      List.all_eq_true]
    simp only [List.mem_range, State.twinPasses_iff]

/-! ## Care regions (R180, R197) -/

theorem State.newPass_rd (s : State) (r : Nat) {n : RegName} (i : Nat) (h : n ≠ .CR_STATE) :
    (s.newPass r).rd n i = s.rd n i := s.rd_setF _ _ _ _ _ h

theorem State.newPass_cursor (s : State) (r : Nat) : (s.newPass r).getF Fld.CR_STATE_CURSOR r = 0 := by
  rw [State.newPass, State.modCare, State.modDie_getF, State.getF_setF_same _ _ _ _ (by decide), Nat.zero_mod]

theorem State.newPass_passOt (s : State) {d r : Nat} (h : r / 32 = d) :
    Tbl.get ((s.newPass r).die d).care.passOt r 0 = s.ot := by
  subst h
  rw [State.newPass, State.modCare, State.die_modDie_same]
  exact Tbl.get_set_same _ _ _ _

theorem WitnessKept.newPass {p : RegName → Nat → Bool} {u s : State} (h : WitnessKept p u s) {r : Nat}
    (hp : p .CR_STATE r = true) : WitnessKept p u (s.newPass r) := by
  unfold State.newPass State.modCare
  exact (h.setF hp).modDie (by intro; rfl)

/-- New health records are noted in the die's spans alone (R180). -/
theorem State.makeRecords_care {α : Type} (p : Care → α) (hp : ∀ c l, p { c with spans := l } = p c) (s : State) (d e : Nat) :
    p ((s.makeRecords d).die e).care = p (s.die e).care := by
  refine List.foldlRecOn (motive := fun t : State => p (t.die e).care = p (s.die e).care) _ _ rfl fun t ht k _ => ?_
  split
  · exact (State.die_modDie_field (fun x => p x.care) (by intro x; exact hp x.care _) t d e).trans ht
  · exact ht

theorem State.makeRecords_rd (s : State) (d : Nat) (n : RegName) (i : Nat) : (s.makeRecords d).rd n i = s.rd n i :=
  ((WitnessKept.refl (p := fun _ _ => false) s).makeRecords (d := d)).rd n i rfl

/-- The registers say what a region covers (R184). -/
theorem State.inRegion_congr {s t : State} (h : ∀ n i, t.rd n i = s.rd n i) (r n g : Nat) :
    t.inRegion r n g = s.inRegion r n g := by
  unfold State.inRegion State.regionCh State.treeCh State.regionBase State.regionCount State.flag State.getF
  simp only [h]

/-- A write of a care-region register, as it is stored. -/
def State.crStored (s : State) (i : Nat) (g : CrReg) (v : Word) : State :=
  s.swWrite (crRegName g) i (if g = .gaddr then v &&& ~~~ 0xFFF#32 else v)

/-- A region that holds a block marked FAILED shows it (CR_STATE). -/
def State.failedShown (s : State) (d i : Nat) : State :=
  s.setFlag Fld.CR_STATE_FAILED_OPEN i
    ((s.die d).care.health.any fun p => p.2.failed && s.inRegion i (p.1 / 2 ^ 20) (p.1 % 2 ^ 20))

/-- A region with a unit that waits takes no write (R197). -/
theorem State.writeCr_queued {s : State} {d r : Nat} (g : CrReg) (v : Word)
    (h : ∃ u ∈ (s.die d).care.queue, u.region = d * 32 + r) :
    s.writeCr d r g v = s.mcFault d r (s.regionCh (d * 32 + r)) 0x400C := by
  obtain ⟨u, hu, hr⟩ := h
  have hany : ((s.die d).care.queue.any fun u => decide (u.region = d * 32 + r)) = true :=
    List.any_eq_true.mpr ⟨u, hu, decide_eq_true hr⟩
  exact if_pos (by rw [hany, Bool.or_true])

section
variable {s : State} {d r : Nat} (v : Word)
  (hb : s.flag Fld.MC_STATUS_BUSY d = false ∨ s.getF Fld.MC_STATUS_BUSY_REGION d ≠ r)
  (hq : ∀ u ∈ (s.die d).care.queue, u.region ≠ d * 32 + r)
include hb hq

/-- One whose units neither wait nor run takes it; a region that is now written begins a pass. -/
theorem State.writeCr_free (g : CrReg) : s.writeCr d r g v =
    ((if s.flag Fld.CR_CFG_VALID (d * 32 + r) = false ∧ (s.crStored (d * 32 + r) g v).flag Fld.CR_CFG_VALID (d * 32 + r) = true
      then (s.crStored (d * 32 + r) g v).newPass (d * 32 + r) else s.crStored (d * 32 + r) g v).makeRecords d).failedShown d
        (d * 32 + r) := by
  have hany : ((s.die d).care.queue.any fun u => decide (u.region = d * 32 + r)) = false :=
    List.any_eq_false.mpr fun u hu => by simpa using hq u hu
  have hbusy : (s.flag Fld.MC_STATUS_BUSY d && decide (s.getF Fld.MC_STATUS_BUSY_REGION d = r)) = false := by
    obtain hb | hb := hb
    · rw [hb, Bool.false_and]
    · rw [decide_eq_false hb, Bool.and_false]
  unfold State.writeCr
  simp only [hany, hbusy, Bool.or_self, Bool.false_eq_true, if_false, Bool.not_eq_true']
  cases g <;> rfl

/-- A write after which the region is no newly written one. -/
theorem State.writeCr_kept (g : CrReg) (hv : s.flag Fld.CR_CFG_VALID (d * 32 + r) = true ∨
    (s.crStored (d * 32 + r) g v).flag Fld.CR_CFG_VALID (d * 32 + r) = false) : s.writeCr d r g v =
      ((s.crStored (d * 32 + r) g v).makeRecords d).setFlag Fld.CR_STATE_FAILED_OPEN (d * 32 + r)
        ((s.die d).care.health.any fun p => p.2.failed &&
          (s.crStored (d * 32 + r) g v).inRegion (d * 32 + r) (p.1 / 2 ^ 20) (p.1 % 2 ^ 20)) := by
  have hsame : ¬ (s.flag Fld.CR_CFG_VALID (d * 32 + r) = false ∧
      (s.crStored (d * 32 + r) g v).flag Fld.CR_CFG_VALID (d * 32 + r) = true) := by
    rintro ⟨hold, hnew⟩
    rw [hold, hnew] at hv
    simp at hv
  rw [State.writeCr_free v hb hq, if_neg hsame, State.failedShown, State.makeRecords_care Care.health fun _ _ => rfl]
  simp only [State.inRegion_congr (State.makeRecords_rd _ d)]
  rfl

/-- CR_CFG is written with VALID: the region begins a pass at its first block (R187). -/
theorem State.writeCr_begins (hold : s.flag Fld.CR_CFG_VALID (d * 32 + r) = false) (hv : Fld.CR_CFG_VALID.of v = 1) :
    s.writeCr d r .cfg v =
      (((s.swWrite .CR_CFG (d * 32 + r) v).newPass (d * 32 + r)).makeRecords d).failedShown d (d * 32 + r) := by
  have hnew : (s.swWrite .CR_CFG (d * 32 + r) v).flag Fld.CR_CFG_VALID (d * 32 + r) = true := by
    rw [State.flag, State.getF, State.swWrite, State.rd_wr_same, RegName.of_written (by decide) (by decide) (by decide) (by decide),
      hv]
    rfl
  exact (State.writeCr_free v hb hq .cfg).trans
    (congrArg (fun u : State => (u.makeRecords d).failedShown d (d * 32 + r)) (if_pos ⟨hold, hnew⟩))

end

theorem State.failedShown_rd (s : State) (d i : Nat) {n : RegName} (j : Nat) (h : n ≠ .CR_STATE) :
    (s.failedShown d i).rd n j = s.rd n j := s.rd_setF _ _ _ _ _ h

theorem WitnessKept.failedShown {p : RegName → Nat → Bool} {r s : State} (h : WitnessKept p r s) {d i : Nat}
    (hp : p .CR_STATE i = true) : WitnessKept p r (s.failedShown d i) := h.setFlag hp

theorem State.failedShown_cursor (s : State) (d i : Nat) :
    (s.failedShown d i).getF Fld.CR_STATE_CURSOR i = s.getF Fld.CR_STATE_CURSOR i :=
  State.getF_setFlag_apart _ _ _ _ _ _ (by decide) (by decide)

/-- Settles O19: each command is one branch of MC_CMD; a flush's pages are followed to the last dirty record, and the blocks of a
TWIN_CHECK one by one, with what they leave alone. -/
theorem careCommands : Obligations.CareCommands := by
  unfold Obligations.CareCommands
  refine ⟨fun req d v ws s ho hb => ?busy, fun req d v s ho hb hf => ?flush, fun req d v ws s ho hb hf => ?noFlush,
    fun req d v s ho hb hv => ?restart, fun req d v s ho hb hv => ?unwritten, fun req d v s ho hb hv hs ha => ?queue,
    fun req d v r n blocks s ho hr hn hb hv ha hu hown hm hh hl => ?twin,
    fun req d v r n reads paths s ho hr hn hb hv ha hu hs => ?refused, fun req d r g v s ho hq => ?queued,
    fun req d r g v s u ho hb hq hu hv => ?kept, fun req d r v s ho hb hq hold hv => ?begins⟩
  case busy => rw [exec_flush_open v ho, State.writeMcCmd_busy _ _ _ hb]
  case flush =>
    obtain ⟨htally, hot⟩ := (s.careTaken d.val v).flushTally_good d.val
    refine ⟨_, (exec_flush_open v ho []).trans (congrArg _ ((State.writeMcCmd_flush v _ hb).trans (if_pos hf))),
      State.careEnd_result _ _ _, State.careEnd_done _ _ _, ?_, ?_⟩
    · rw [State.getF_eq_of_rd (State.careEnd_rd _ _ _ _ (by decide)), htally]
    · rw [State.careEnd_die, hot, State.careTaken_ot]
  case noFlush =>
    refine ⟨_, (exec_flush_open v ho ws).trans (congrArg _ ((State.writeMcCmd_flush v _ hb).trans (if_neg ?_))),
      State.careEnd_result _ _ _, State.careEnd_outputs _ _ _, State.careEnd_dies _ _ _⟩
    rw [hf]
    exact Bool.false_ne_true
  case restart =>
    have hcmd : s.writeMcCmd d.val (careWord 4 v) {} =
        ((s.careTaken d.val v).newPass (d.val * 32 + Fld.MC_CMD_REGION.of v)).careEnd d.val 0 := by
      rw [State.writeMcCmd_region v _ hb (by decide) (by decide), hv, if_neg Bool.true_eq_false.mp, if_pos rfl]
    refine ⟨_, (exec_scrubRestart_open v ho).trans (congrArg _ hcmd), ?_, State.careEnd_result _ _ _, State.careEnd_done _ _ _,
      ?_, State.careEnd_sram _ _ _, State.careEnd_outputs _ _ _, fun n i h1 h2 => ?_⟩
    · rw [State.getF_eq_of_rd (State.careEnd_rd _ _ _ _ (by decide)), State.newPass_cursor]
    · rw [State.careEnd_region, State.getF_eq_of_rd (State.newPass_rd _ _ _ (by decide)), State.careTaken,
        State.getF_setF_same _ _ _ _ (by decide)]
      exact Nat.mod_eq_of_lt (careRegion_lt v)
    · rw [State.careEnd_rd _ _ _ _ h1, State.newPass_rd _ _ _ h2, State.careTaken_rd _ _ _ _ h1]
  case unwritten =>
    have hcmd (op : Nat) (x : CareInput) (h1 : 1 ≤ op) (h4 : op ≤ 4) :
        s.writeMcCmd d.val (careWord op v) x = (s.careTaken d.val v).careEnd d.val 4 :=
      (State.writeMcCmd_region v x hb h1 h4).trans (if_pos hv)
    refine ⟨_, (exec_recover_open v ho).trans (congrArg _ (hcmd 1 _ (by decide) (by decide))), State.careEnd_result _ _ _, ?_⟩
    rw [exec_refresh_open v ho, exec_scrubRestart_open v ho, exec_twinCheck_open v ho, hcmd 2 _ (by decide) (by decide),
      hcmd 3 _ (by decide) (by decide), hcmd 4 _ (by decide) (by decide)]
    exact ⟨rfl, rfl, rfl⟩
  case queue =>
    rw [exec_recover_open v ho, exec_refresh_open v ho, State.writeMcCmd_region v _ hb (by decide) (by decide),
      State.writeMcCmd_region v _ hb (by decide) (by decide), hv, ha, hs]
    exact ⟨rfl, rfl⟩
  case twin =>
    have hdie : r / 32 = d.val := by have := careRegion_lt v; omega
    obtain ⟨t, ok, hcheck, hok⟩ := State.twinCheck_taken v blocks hdie hn hu hown hm hh hl
    subst hr
    refine ⟨_, (exec_twinCheck_open v ho _ _).trans (congrArg _ ((State.writeMcCmd_twin v _ hb hv ha).trans hcheck)),
      State.twinEnds_result _ _ _ _, State.twinEnds_done _ _ _ _, ?_⟩
    rw [State.twinEnds_ok]
    exact hok
  case refused =>
    have hcheck := State.twinCheck_refused (s := s.careTaken d.val v) (d := d.val) (r := r) (n := n)
      (s.getF Fld.MC_ARG0_FIRST d.val) (s.getF Fld.MC_ARG1_COUNT d.val) reads paths (by rw [State.careTaken_regionCh, hn])
      (by rw [State.careTaken_ownReadOp, State.careTaken_ownUnknown, hu])
      (by rw [State.careTaken_selRefused, State.careTaken_flag _ _ _ _ (by decide), hs])
    subst hr
    exact ⟨_, (exec_twinCheck_open v ho _ _).trans (congrArg _ ((State.writeMcCmd_twin v _ hb hv ha).trans hcheck)),
      State.twinEnds_result _ _ _ _, State.twinEnds_done _ _ _ _, State.twinEnds_ok _ _ _ _, State.twinEnds_outputs _ _ _ _⟩
  case queued => rw [exec_careRegionWrite_open v ho, State.writeCr_queued g v hq]
  case kept =>
    subst hu
    rw [exec_careRegionWrite_open v ho, State.writeCr_kept v hb hq g hv]
    rfl
  case begins =>
    have hstored : WitnessKept (fun n _ => decide (n = .CR_CFG ∨ n = .CR_STATE)) s (s.swWrite .CR_CFG (d.val * 32 + r.val) v) :=
      (WitnessKept.refl s).wr rfl
    have hkept := ((hstored.newPass (r := d.val * 32 + r.val) rfl).makeRecords (d := d.val)).failedShown
      (d := d.val) (i := d.val * 32 + r.val) rfl
    refine ⟨_, (exec_careRegionWrite_open v ho r .cfg).trans (congrArg _ (State.writeCr_begins v hb hq hold hv)), ?_, ?_, ?_,
      hkept.sram, hkept.outputs, fun n i h1 h2 => hkept.rd n i (decide_eq_false (not_or.mpr ⟨h1, h2⟩))⟩
    · rw [State.failedShown_cursor, State.getF_eq_of_rd (State.makeRecords_rd _ _ _ _), State.newPass_cursor]
    · rw [State.failedShown_rd _ _ _ _ (by decide), State.makeRecords_rd, State.newPass_rd _ _ _ (by decide), State.swWrite,
        State.rd_wr_same]
    · rw [State.failedShown, State.setFlag_die, State.makeRecords_care Care.passOt fun _ _ => rfl]
      exact State.newPass_passOt _ (by have := r.isLt; omega)

end Sys2Proof.Machine

namespace Sys2Proof.Machine

/-! # Flits and runs (R198 to R201)

The parity of a half is linear in the flit: what an inverted bit does to it does not depend on the flit, and the check bits of
a flit are what makes both parities even. -/

/-! ## The parity of a half -/

theorem xor_xor_xor_swap : ∀ a b c d : Bool, ((a ^^ b) ^^ (c ^^ d)) = ((a ^^ c) ^^ (b ^^ d)) := by decide

/-- A running parity splits where what is added splits. -/
theorem foldl_xor_split (f g : Nat → Bool) (l : List Nat) (a b : Bool) :
    l.foldl (fun p k => p ^^ (f k ^^ g k)) (a ^^ b) = (l.foldl (fun p k => p ^^ f k) a ^^ l.foldl (fun p k => p ^^ g k) b) := by
  induction l generalizing a b with
  | nil => rfl
  | cons k l ih => rw [List.foldl_cons, xor_xor_xor_swap, ih, List.foldl_cons, List.foldl_cons]

theorem halfOdd_xor (w c : Flit) (hi : Bool) : halfOdd (w ^^^ c) hi = (halfOdd w hi ^^ halfOdd c hi) := by
  simp only [halfOdd, BitVec.getLsbD_xor]
  rw [xor_xor_xor_swap, foldl_xor_split]

theorem flitOk_iff (w : Flit) : flitOk w = true ↔ ∀ hi, halfOdd w hi = false := by
  simp [flitOk, Bool.forall_bool]

/-- What a change does to a flit that was in order does not depend on the flit. -/
theorem flitOk_xor {w : Flit} (h : flitOk w = true) (c : Flit) : flitOk (w ^^^ c) = flitOk c := by
  rw [flitOk_iff] at h
  simp [flitOk, halfOdd_xor, h]

/-- A single bit makes the half it lies in odd. -/
theorem flitOk_bit : ∀ k < 20, flitOk (BitVec.ofNat 20 (2 ^ k)) = false := by decide

/-! ## What a flit holds (R198, R199) -/

/-- A flit before its check bits: the phase and the two bytes. -/
def flitBody (ph : Nat) (first second : Byte) : Flit := BitVec.ofNat 20 (2 ^ 16 * (ph % 4) + 256 * first.toNat + second.toNat)

/-- The check bits of a flit, one for each half. -/
def flitChecks (lo hi : Bool) : Flit := BitVec.ofNat 20 (2 ^ 18 * b2n lo + 2 ^ 19 * b2n hi)

theorem flitBody_toNat (ph : Nat) (a b : Byte) :
    (flitBody ph a b).toNat = 2 ^ 16 * (ph % 4) + 256 * a.toNat + b.toNat := by
  rw [flitBody, BitVec.toNat_ofNat]
  omega

theorem flitBody_lt (ph : Nat) (a b : Byte) : (flitBody ph a b).toNat < 2 ^ 18 := by
  rw [flitBody_toNat]
  omega

theorem flitChecks_toNat (lo hi : Bool) : (flitChecks lo hi).toNat = 2 ^ 18 * (b2n lo + 2 * b2n hi) := by
  cases lo <;> cases hi <;> rfl

theorem flitChecks_low : ∀ lo hi : Bool, ∀ k < 18, (flitChecks lo hi).getLsbD k = false := by decide

theorem halfOdd_flitChecks (lo hi half : Bool) : halfOdd (flitChecks lo hi) half = if half then hi else lo := by
  revert lo hi half
  decide

theorem flitOf_eq_or (ph : Nat) (a b : Byte) : flitOf ph a b =
    flitBody ph a b ||| flitChecks (halfOdd (flitBody ph a b) false) (halfOdd (flitBody ph a b) true) := rfl

/-- The check bits lie above the body, so that putting them in is the same as inverting zeros. -/
theorem flitOf_eq_xor (ph : Nat) (a b : Byte) : flitOf ph a b =
    flitBody ph a b ^^^ flitChecks (halfOdd (flitBody ph a b) false) (halfOdd (flitBody ph a b) true) := by
  rw [flitOf_eq_or]
  refine BitVec.eq_of_getLsbD_eq fun k _ => ?_
  rw [BitVec.getLsbD_or, BitVec.getLsbD_xor]
  by_cases h : k < 18
  · rw [flitChecks_low _ _ k h, Bool.or_false, Bool.xor_false]
  · have hzero : (flitBody ph a b).getLsbD k = false :=
      Nat.testBit_lt_two_pow (Nat.lt_of_lt_of_le (flitBody_lt ph a b) (Nat.pow_le_pow_right (by decide) (Nat.not_lt.mp h)))
    rw [hzero, Bool.false_or, Bool.false_xor]

/-- A flit's check bits make each of its halves even. -/
theorem flitOk_flitOf (ph : Nat) (a b : Byte) : flitOk (flitOf ph a b) = true := by
  rw [flitOk_iff]
  intro hi
  rw [flitOf_eq_xor, halfOdd_xor, halfOdd_flitChecks]
  cases hi <;> exact Bool.xor_self _

/-- A flit as a number: the check bits, the phase, and the bytes, the earlier first. -/
theorem flitOf_toNat (ph : Nat) (a b : Byte) :
    ∃ ck, (flitOf ph a b).toNat = 2 ^ 18 * ck + (2 ^ 16 * (ph % 4) + 256 * a.toNat + b.toNat) := by
  refine ⟨b2n (halfOdd (flitBody ph a b) false) + 2 * b2n (halfOdd (flitBody ph a b) true), ?_⟩
  rw [flitOf_eq_or, BitVec.toNat_or, flitChecks_toNat, Nat.or_comm, ← Nat.two_pow_add_eq_or_of_lt (flitBody_lt ph a b),
    flitBody_toNat]

theorem flitOf_fields (ph : Nat) (a b : Byte) : bitsOf (flitOf ph a b).toNat 16 2 = ph % 4 ∧
    bitsOf (flitOf ph a b).toNat 8 8 = a.toNat ∧ bitsOf (flitOf ph a b).toNat 0 8 = b.toNat := by
  obtain ⟨ck, h⟩ := flitOf_toNat ph a b
  have ha := a.isLt
  have hb := b.isLt
  rw [h]
  unfold bitsOf
  omega

@[simp] theorem flitPair_flitOf (ph : Nat) (a b : Byte) : flitPair (flitOf ph a b) = [a, b] := by
  have hbyte (lo : Nat) : ((flitOf ph a b).extractLsb' lo 8).toNat = bitsOf (flitOf ph a b).toNat lo 8 := by
    rw [BitVec.extractLsb'_toNat, Nat.shiftRight_eq_div_pow, bitsOf]
  obtain ⟨-, ha, hb⟩ := flitOf_fields ph a b
  rw [flitPair, BitVec.eq_of_toNat_eq ((hbyte 8).trans ha), BitVec.eq_of_toNat_eq ((hbyte 0).trans hb)]

/-! ## The flits of a phase (R200) -/

theorem flitBytes_flitsOf (ph : Nat) (l : List Byte) : flitBytes l.length (flitsOf ph l) = l := by
  induction l using flitsOf.induct with
  | case1 => rfl
  | case2 a => simp [flitBytes, flitsOf]
  | case3 a b t ih =>
    unfold flitBytes at ih
    simp [flitBytes, flitsOf, ih]

theorem flitsOf_length (ph : Nat) (l : List Byte) : (flitsOf ph l).length = (l.length + 1) / 2 := by
  induction l using flitsOf.induct with
  | case1 => rfl
  | case2 a => simp [flitsOf]
  | case3 a b t ih =>
    rw [flitsOf, List.length_cons, ih, List.length_cons, List.length_cons]
    omega

/-- A receiver passes a phase as it was sent. -/
theorem firstBadFrom_flitsOf (ph : Nat) (l : List Byte) (k : Nat) : firstBadFrom k (flitsOf ph l) = none := by
  induction l using flitsOf.induct generalizing k with
  | case1 => rfl
  | case2 a => rw [flitsOf, firstBadFrom, if_pos (flitOk_flitOf ph a 0), firstBadFrom]
  | case3 a b t ih => rw [flitsOf, firstBadFrom, if_pos (flitOk_flitOf ph a b), ih]

/-- The last byte of an odd number of bytes has a flit of its own. -/
theorem flitsOf_append_single (ph : Nat) (a : Byte) (l : List Byte) (h : l.length % 2 = 0) :
    flitsOf ph (l ++ [a]) = flitsOf ph l ++ [flitOf ph a 0] := by
  induction l using flitsOf.induct with
  | case1 => rfl
  | case2 b => cases h
  | case3 b c t ih =>
    have ht : t.length % 2 = 0 := by
      rw [List.length_cons, List.length_cons] at h
      omega
    rw [List.cons_append, List.cons_append, flitsOf, flitsOf, ih ht, List.cons_append]

/-! ## The runs of a transfer (R201) -/

/-- The bytes of a transfer that its first run takes: up to the end of the aligned span of 128. -/
def runLength (a len : Nat) : Nat := min len (128 - a % 128)

@[simp] theorem runsFrom_empty (fuel a : Nat) : runsFrom fuel a 0 = [] := by cases fuel <;> rfl

theorem runsFrom_succ {len : Nat} (fuel a : Nat) (h : len ≠ 0) :
    runsFrom (fuel + 1) a len = (a, runLength a len) :: runsFrom fuel (a + runLength a len) (len - runLength a len) := if_neg h

/-- The first run of a transfer begins where the transfer does. -/
theorem runsFrom_head {fuel a len : Nat} {p : Nat × Nat} (h : p ∈ (runsFrom fuel a len).head?) : p.1 = a := by
  unfold runsFrom at h
  split at h
  · cases h
  · split at h
    · cases h
    · cases h
      rfl

/-- A run lies in one aligned span of 128 bytes. -/
theorem runsFrom_span {fuel a len : Nat} {p : Nat × Nat} (h : p ∈ runsFrom fuel a len) :
    0 < p.2 ∧ p.2 ≤ 128 ∧ p.1 / 128 = (p.1 + p.2 - 1) / 128 := by
  induction fuel generalizing a len with
  | zero => cases h
  | succ fuel ih =>
    by_cases hlen : len = 0
    · rw [hlen, runsFrom_empty] at h
      cases h
    · rw [runsFrom_succ fuel a hlen, List.mem_cons] at h
      obtain rfl | h := h
      · unfold runLength
        dsimp only
        omega
      · exact ih h

/-- Each run begins where the one before it ends. -/
theorem runsFrom_chain (fuel a len : Nat) : (runsFrom fuel a len).IsChain fun p q => q.1 = p.1 + p.2 := by
  induction fuel generalizing a len with
  | zero => exact .nil
  | succ fuel ih =>
    by_cases hlen : len = 0
    · rw [hlen, runsFrom_empty]
      exact .nil
    · rw [runsFrom_succ fuel a hlen, List.isChain_cons]
      exact ⟨fun q hq => runsFrom_head hq, ih _ _⟩

/-- Runs for as many spans as the transfer meets hold all of it. -/
theorem runsFrom_sum {fuel a len : Nat} (h : a % 128 + len ≤ 128 * fuel) : ((runsFrom fuel a len).map fun p => p.2).sum = len := by
  induction fuel generalizing a len with
  | zero =>
    obtain rfl : len = 0 := by omega
    rfl
  | succ fuel ih =>
    by_cases hlen : len = 0
    · rw [hlen, runsFrom_empty]
      rfl
    · have hrest : (a + runLength a len) % 128 + (len - runLength a len) ≤ 128 * fuel ∨ len - runLength a len = 0 := by
        unfold runLength
        omega
      have hle : runLength a len ≤ len := Nat.min_le_left _ _
      have hsum : ((runsFrom fuel (a + runLength a len) (len - runLength a len)).map fun p => p.2).sum =
          len - runLength a len := by
        obtain hrest | hrest := hrest
        · exact ih hrest
        · rw [hrest, runsFrom_empty]
          rfl
      rw [runsFrom_succ fuel a hlen, List.map_cons, List.sum_cons, hsum]
      omega

theorem runsOf_sum (a len : Nat) : ((runsOf a len).map fun p => p.2).sum = len := runsFrom_sum (by omega)

theorem runsOf_head (a len : Nat) : ((runsOf a len).head?.map fun p => p.1) = if len = 0 then none else some a := by
  split
  · rename_i h
    rw [runsOf, h, runsFrom_empty]
    rfl
  · rename_i h
    rw [runsOf, runsFrom_succ _ _ h]
    rfl

/-! ## What the endpoint does not give (R345) -/

theorem State.configEnable_absent {x : PcieItem} (h : x.present = false) (n : Nat) (on : Bool) (s : State) :
    s.configEnable x n on = s := by
  rw [State.configEnable, h, if_neg fun hx => Bool.false_ne_true hx.1]

/-- Settles O60: flits by the linearity of their parities, phases by pairs of bytes, runs by the spans they meet. -/
theorem flitsAndRuns : Obligations.FlitsAndRuns := by
  refine ⟨fun ph a b hph => ⟨flitOk_flitOf ph a b, ?_⟩, fun w k hw hk => (flitOk_xor hw _).trans (flitOk_bit k hk),
    fun ph l => ⟨flitBytes_flitsOf ph l, flitsOf_length ph l, firstBadFrom_flitsOf ph l 0⟩,
    fun ph l a h => flitsOf_append_single ph a l h, fun a len => ⟨runsOf_sum a len, runsOf_head a len, fun p hp => ?_,
    fun p hp ph l hl => ?_, runsFrom_chain _ a len⟩, fun x n on s hx => ?_⟩
  · have h := flitOf_fields ph a b
    rwa [Nat.mod_eq_of_lt hph] at h
  · obtain ⟨hpos, -, hspan⟩ := runsFrom_span hp
    exact ⟨hpos, hspan⟩
  · obtain ⟨-, hle, -⟩ := runsFrom_span hp
    rw [flitsOf_length, hl]
    omega
  · have habsent : ∀ y ∈ [PcieItem.ats, .pri, .pasid, .tph, .resizableBar, .intx, .msi], y.present = false := by decide
    exact ⟨habsent x hx, State.configEnable_absent (habsent x hx) n on s⟩

end Sys2Proof.Machine

namespace Sys2Proof.Machine

/-! # What a folio record leaves alone (R417 to R420)

The writer moves the folio and FO_STATUS, and reports a folio that is full. What these three keep, a record keeps. -/

section

variable {P : State → Prop} (hfolio : ∀ s f, P s → P (s.modFolio f))
  (hstatus : ∀ s f x, f.reg = .FO_STATUS → P s → P (State.setF s f 0 x))
  (hfull : ∀ s, P s → P (s.report 0 0xB006 0))

include hfolio hstatus

theorem State.take_keeps {s : State} (h : P s) (typ : Nat) (body : List Byte) (ot pcc : Nat) : P (s.take typ body ot pcc) :=
  hstatus _ _ _ rfl (hfolio _ _ h)

include hfull

theorem State.accept_keeps (fuel : Nat) {s : State} (h : P s) (typ : Nat) (body : List Byte) (ot pcc : Nat) :
    P (s.accept fuel typ body ot pcc) := by
  have htake := @State.take_keeps P hfolio hstatus
  have hsealed : ∀ {s : State}, P s → P s.seal := fun h => htake h _ _ _ _
  have hite : ∀ {c : Prop} [Decidable c] {s t : State}, P s → P t → P (if c then s else t) := by
    intro c _ s t hs ht
    split
    · exact hs
    · exact ht
  induction fuel generalizing s typ body ot pcc with
  | zero =>
    unfold State.accept
    refine hite (htake h _ _ _ _) (hite (hsealed (htake ?room _ _ _ _)) (htake ?room _ _ _ _))
    exact hite h (hfolio _ _ (hsealed h))
  | succ k ih =>
    have hnext := hfolio _ (fun f => { f with sector := (s.seal.folio.sector + 1) % s.seal.foSectors, off := 0 }) (hsealed h)
    unfold State.accept
    refine hite (htake h _ _ _ _) (hite (hsealed (htake ?space _ _ _ _)) (htake ?space _ _ _ _))
    refine hite h (hite hnext (hite (hfull _ (hstatus _ _ _ rfl hnext)) ?carried))
    exact List.foldlRecOn _ _ hnext fun _ hs _ _ => ih hs _ _ _ _

theorem State.append_keeps {s : State} (h : P s) (typ : Nat) (body : List Byte) : P (s.append typ body) := by
  unfold State.append
  split
  · exact hfolio _ _ h
  · exact State.accept_keeps hfolio hstatus hfull 4 h typ body _ _

end

/-- From `s` to `t` the folio writer has taken records. -/
structure Recorded (s t : State) : Prop where
  rest : t = { s with regs := t.regs, dies := t.dies, folio := t.folio }
  rd : ∀ n i, n.counts = false → n ∉ faultRegs → n ≠ .FO_STATUS → t.rd n i = s.rd n i

namespace Recorded

variable {s t u : State}

theorem refl (s : State) : Recorded s s := ⟨rfl, fun _ _ _ _ _ => rfl⟩

theorem trans (h1 : Recorded s t) (h2 : Recorded t u) : Recorded s u where
  rest := h2.rest.trans (by rw [h1.rest])
  rd n i hc hf hs := (h2.rd n i hc hf hs).trans (h1.rd n i hc hf hs)

theorem report (s : State) (d code source : Nat) : Recorded s (s.report d code source) where
  rest := by rw [s.report_rest d code source]
  rd n i hc hf _ := s.report_rd_plain d code source n i hc hf

theorem faultRecord (s : State) (d kind : Nat) (e : FaultEntry) : Recorded s (s.faultRecord d kind e) :=
  State.append_keeps (P := Recorded s) (fun _ _ h => h.trans ⟨rfl, fun _ _ _ _ _ => rfl⟩)
    (fun t f x hf h => h.trans ⟨rfl, fun n i _ _ hn => State.rd_setF t f n 0 i x (hf ▸ hn)⟩)
    (fun t h => h.trans (.report t 0 0xB006 0)) (refl s) _ _

theorem queue (h : Recorded s t) (d : Nat) : t.queue d = s.queue d := by rw [h.rest, State.queue, State.queue]
theorem outputs (h : Recorded s t) : t.outputs = s.outputs := by rw [h.rest]
theorem sram (h : Recorded s t) : t.sram = s.sram := by rw [h.rest]

end Recorded

/-! # The fault queues (R207 to R215) -/

@[simp] theorem State.queue_modQueue_same (s : State) (d : Nat) (f : FaultQueue → FaultQueue) :
    (s.modQueue d f).queue d = f (s.queue d) := State.queue_setQueue_same _ _ _

theorem State.mem_emit_outputs (s : State) (o : Output) : o ∈ (s.emit o).outputs :=
  List.mem_append_right _ (List.mem_singleton_self o)

/-! ## A report's place in its queue (R207, R208) -/

/-- A report that has reached die 0 waits on its die no more (R207). -/
def State.reportArrived (s : State) (d : Nat) (r : Report) : State :=
  s.modDie d fun x => { x with inflight := x.inflight.filter fun y => decide (y.dseq ≠ r.dseq) }

/-- A report that is placed is counted, takes a token, and its DSEQ is behind the queue (R207, R214). -/
def State.reportTaken (s : State) (d : Nat) (r : Report) : State :=
  (s.bump .FQ_TOTAL d).modQueue d fun q => { q with tokens := q.tokens - 1, next := (r.dseq + 1) % 2 ^ 16 }

/-- A counter register's count is a write of a register. -/
theorem State.bump_eq (s : State) (n : RegName) (i : Nat) : ∃ f, s.bump n i = { s with regs := f } := by
  unfold State.bump
  dsimp only
  split
  · exact ⟨s.regs, rfl⟩
  · exact ⟨_, rfl⟩

theorem State.bump_rd_other (s : State) {n m : RegName} {i j : Nat} (h : m ≠ n ∨ j ≠ i) : (s.bump n i).rd m j = s.rd m j := by
  unfold State.bump
  dsimp only
  split
  · rfl
  · exact s.rd_wr_other n m i j _ h

section

variable (s : State) (d : Nat) (r : Report)

theorem State.reportArrived_outputs : (s.reportArrived d r).outputs = s.outputs := rfl
theorem State.reportArrived_sram : (s.reportArrived d r).sram = s.sram := rfl
theorem State.reportArrived_rd (n : RegName) (i : Nat) : (s.reportArrived d r).rd n i = s.rd n i := rfl
theorem State.reportArrived_inflight : ((s.reportArrived d r).die d).inflight =
    (s.die d).inflight.filter fun y => decide (y.dseq ≠ r.dseq) := by
  rw [State.reportArrived, State.die_modDie_same]

theorem State.reportTaken_queue : (s.reportTaken d r).queue d =
    { s.queue d with tokens := (s.queue d).tokens - 1, next := (r.dseq + 1) % 2 ^ 16 } := by
  obtain ⟨f, h⟩ := s.bump_eq .FQ_TOTAL d
  rw [State.reportTaken, State.queue_modQueue_same, h]
  rfl

theorem State.reportTaken_rest : ∃ f q, s.reportTaken d r = { s with regs := f, queues := q } := by
  obtain ⟨f, h⟩ := s.bump_eq .FQ_TOTAL d
  exact ⟨f, _, by rw [State.reportTaken, h]; rfl⟩

theorem State.reportTaken_outputs : (s.reportTaken d r).outputs = s.outputs := by
  obtain ⟨f, q, h⟩ := s.reportTaken_rest d r
  rw [h]

theorem State.reportTaken_sram : (s.reportTaken d r).sram = s.sram := by
  obtain ⟨f, q, h⟩ := s.reportTaken_rest d r
  rw [h]

theorem State.reportTaken_die (e : Nat) : (s.reportTaken d r).die e = s.die e := by
  obtain ⟨f, q, h⟩ := s.reportTaken_rest d r
  rw [h, State.die, State.die]

theorem State.reportTaken_rd {n : RegName} {i : Nat} (h : n ≠ .FQ_TOTAL ∨ i ≠ d) : (s.reportTaken d r).rd n i = s.rd n i :=
  s.bump_rd_other h

variable (code source : Nat) (us : Word)

theorem State.mergeInto_queue : (s.mergeInto d code source us).queue d =
    { s.queue d with
      entries := (s.queue d).entries.map fun e => if e.is code source then e.merge us else e
      merged := (s.queue d).merged ++ [(code, source)] } := State.queue_modQueue_same _ _ _

theorem State.mergeInto_die (e : Nat) : (s.mergeInto d code source us).die e = s.die e := rfl
theorem State.mergeInto_outputs : (s.mergeInto d code source us).outputs = s.outputs := rfl
theorem State.mergeInto_sram : (s.mergeInto d code source us).sram = s.sram := rfl
theorem State.mergeInto_rd (n : RegName) (i : Nat) : (s.mergeInto d code source us).rd n i = s.rd n i := rfl

end

/-- Outside a storm every placed report raises the interrupt. -/
theorem State.raiseFault_calm {s : State} {d : Nat} (h : (s.queue d).storm = false) : s.raiseFault d = s.emit (.faultIrq d) := by
  rw [State.raiseFault, h, Bool.not_false, if_pos rfl]

section

variable {s : State} {d : Nat} {r : Report}

/-- Outside a storm, and where none begins, a report merges or makes an entry (R208, R210). -/
theorem State.placeReport_calm (ht : (s.queue d).tokens ≠ 0) (hs : (s.queue d).storm = false) : s.placeReport d r =
    (if (s.queue d).entries.any fun e => e.is r.code r.source then (s.reportTaken d r).mergeInto d r.code r.source r.us
      else (s.reportTaken d r).newEntry d r).raiseFault d := by
  have hcalm : ¬((s.queue d).tokens = 0 ∧ (!(s.queue d).storm) = true) := fun h => ht h.1
  have hq := s.reportTaken_queue d r
  unfold State.reportTaken at hq
  unfold State.placeReport State.reportTaken
  dsimp only
  rw [if_neg hcalm, hq]
  dsimp only
  rw [hs, if_neg Bool.false_ne_true]

theorem State.placeReport_merges (ht : (s.queue d).tokens ≠ 0) (hs : (s.queue d).storm = false)
    (hm : ((s.queue d).entries.any fun e => e.is r.code r.source) = true) :
    s.placeReport d r = ((s.reportTaken d r).mergeInto d r.code r.source r.us).emit (.faultIrq d) := by
  rw [State.placeReport_calm ht hs, if_pos hm, State.raiseFault_calm]
  rw [State.mergeInto_queue, State.reportTaken_queue]
  exact hs

/-- The entry that a report makes. -/
def Report.entry (r : Report) : FaultEntry :=
  { code := r.code, source := r.source, dseq := r.dseq, count := 1, first := r.us, last := r.us }

theorem State.createEntry_queue (s : State) (d kind : Nat) (e : FaultEntry) :
    (s.createEntry d kind e).queue d = { s.queue d with entries := (s.queue d).entries ++ [e] } := by
  rw [State.createEntry, (Recorded.faultRecord _ _ _ _).queue, State.queue_modQueue_same]

theorem State.newEntry_room
    (h : ((s.queue d).entries.filter fun e => decide (e.code ≠ 0x5301) && decide (e.code ≠ 0x5302)).length < 30) :
    s.newEntry d r = s.createEntry d 0 r.entry := if_pos h

theorem State.placeReport_creates (ht : (s.queue d).tokens ≠ 0) (hs : (s.queue d).storm = false)
    (hm : ((s.queue d).entries.any fun e => e.is r.code r.source) = false)
    (hn : ((s.queue d).entries.filter fun e => decide (e.code ≠ 0x5301) && decide (e.code ≠ 0x5302)).length < 30) :
    s.placeReport d r = ((s.reportTaken d r).createEntry d 0 r.entry).emit (.faultIrq d) := by
  rw [State.placeReport_calm ht hs, hm, if_neg Bool.false_ne_true, State.newEntry_room, State.raiseFault_calm]
  · rw [State.createEntry_queue, State.reportTaken_queue]
    exact hs
  · rw [State.reportTaken_queue]
    exact hn

/-! ## A report arrives -/

/-- A report that comes in its turn is placed; where none is held behind it, that is all. -/
theorem State.deliverReport_next (hr : r.dseq = (s.queue d).next) (hh : (s.queue d).held = []) :
    s.deliverReport d r = (s.reportArrived d r).placeReport d r := by
  unfold State.deliverReport
  dsimp only
  rw [State.modDie_queue, if_neg (not_not.mpr hr), hh, List.length_nil, State.placeHeld, State.reportArrived]

theorem State.deliverReport_merges (hr : r.dseq = (s.queue d).next) (hh : (s.queue d).held = [])
    (ht : (s.queue d).tokens ≠ 0) (hs : (s.queue d).storm = false)
    (hm : ((s.queue d).entries.any fun e => e.is r.code r.source) = true) : s.deliverReport d r =
      (((s.reportArrived d r).reportTaken d r).mergeInto d r.code r.source r.us).emit (.faultIrq d) :=
  (State.deliverReport_next hr hh).trans (State.placeReport_merges ht hs hm)

theorem State.deliverReport_creates (hr : r.dseq = (s.queue d).next) (hh : (s.queue d).held = [])
    (ht : (s.queue d).tokens ≠ 0) (hs : (s.queue d).storm = false)
    (hm : ((s.queue d).entries.any fun e => e.is r.code r.source) = false)
    (hn : ((s.queue d).entries.filter fun e => decide (e.code ≠ 0x5301) && decide (e.code ≠ 0x5302)).length < 30) :
    s.deliverReport d r = (((s.reportArrived d r).reportTaken d r).createEntry d 0 r.entry).emit (.faultIrq d) :=
  (State.deliverReport_next hr hh).trans (State.placeReport_creates ht hs hm hn)

/-- A report that comes too early is held (R207). -/
theorem State.deliverReport_early (hr : r.dseq ≠ (s.queue d).next) :
    s.deliverReport d r = (s.reportArrived d r).modQueue d fun q => { q with held := q.held ++ [r] } := if_pos hr

theorem exec_faultReport {d : DieId} {q : Nat} {r : Report} {s : State} (hp : s.platLive = true) (hr : s.reached d.val = true)
    (hu : (s.queue d.val).unreach = false) (hf : ((s.die d.val).inflight.find? fun r => decide (r.dseq = q)) = some r) :
    exec (.faultReport d q) s = .next (s.deliverReport d.val r) := by
  change execFaultReport d q s = _
  rw [execFaultReport, hp, hr, hu, Bool.not_false, Bool.and_self, Bool.and_self, State.when_true, hf]

end

/-- Settles O20: a report in its turn merges into its entry or makes one, and one that comes too early is held. -/
theorem faultReportsArriveInOrder : Obligations.FaultReportsArriveInOrder := by
  refine ⟨fun d q r s hp hr hu hf hnext hheld ht hs hm => ⟨_, (exec_faultReport hp hr hu hf).trans
      (congrArg _ (State.deliverReport_merges hnext hheld ht hs hm)), ?_⟩,
    fun d q r s hp hr hu hf hnext hheld ht hs hm hn => ⟨_, (exec_faultReport hp hr hu hf).trans
      (congrArg _ (State.deliverReport_creates hnext hheld ht hs hm hn)), ?_⟩,
    fun d q r s hp hr hu hf hnext => ⟨_, (exec_faultReport hp hr hu hf).trans
      (congrArg _ (State.deliverReport_early hnext)), ?_⟩⟩
  · dsimp only
    rw [State.emit_queue, State.mergeInto_queue, State.reportTaken_queue, State.emit_die, State.mergeInto_die,
      State.reportTaken_die, State.reportArrived_inflight, State.emit_outputs, State.mergeInto_outputs,
      State.reportTaken_outputs, State.reportArrived_outputs, State.emit_sram, State.mergeInto_sram, State.reportTaken_sram,
      State.reportArrived_sram]
    refine ⟨rfl, rfl, rfl, rfl, rfl, rfl, fun n i h => ?_⟩
    rw [State.emit_rd, State.mergeInto_rd, State.reportTaken_rd _ _ _ h, State.reportArrived_rd]
  · dsimp only
    rw [State.emit_queue, State.createEntry_queue, State.reportTaken_queue]
    exact ⟨rfl, rfl, State.mem_emit_outputs _ _⟩
  · dsimp only
    rw [State.queue_modQueue_same]
    exact ⟨rfl, rfl, rfl, rfl⟩

end Sys2Proof.Machine

namespace Sys2Proof.Machine

/-! # The head of a fault queue (R209, R211, R215) -/

/-! ## A read of FQ_HEAD0 -/

theorem FaultEntry.words_first (e : FaultEntry) : e.words.getD 0 0 = e.code + e.source * 2 ^ 16 := by
  rw [FaultEntry.words, List.getD_cons_zero]

theorem FaultEntry.words_second (e : FaultEntry) : e.words.getD 1 0 = e.dseq + e.count * 2 ^ 16 := by
  rw [FaultEntry.words, List.getD_cons_succ, List.getD_cons_zero]

/-- Four words stand in FQ_HEAD. -/
def State.headShown (s : State) (d : Nat) (words : List Nat) : State :=
  (((s.wr .FQ_HEAD0 d (BitVec.ofNat 32 (words.getD 0 0))).wr .FQ_HEAD1 d (BitVec.ofNat 32 (words.getD 1 0))).wr
    .FQ_HEAD2 d (BitVec.ofNat 32 (words.getD 2 0))).wr .FQ_HEAD3 d (BitVec.ofNat 32 (words.getD 3 0))

/-- Four words are captured, and no report has merged since (R209). -/
def State.headCaptured (s : State) (d : Nat) (words : List Nat) : State :=
  (s.headShown d words).modQueue d fun q => { q with merged := [] }

section

variable (s : State) (d : Nat) (words : List Nat)

theorem State.headShown_head0 : (s.headShown d words).rd .FQ_HEAD0 d = BitVec.ofNat 32 (words.getD 0 0) := by
  rw [State.headShown, State.rd_wr_name _ _ _ _ _ _ (by decide), State.rd_wr_name _ _ _ _ _ _ (by decide),
    State.rd_wr_name _ _ _ _ _ _ (by decide), State.rd_wr_same]

theorem State.headShown_head1 : (s.headShown d words).rd .FQ_HEAD1 d = BitVec.ofNat 32 (words.getD 1 0) := by
  rw [State.headShown, State.rd_wr_name _ _ _ _ _ _ (by decide), State.rd_wr_name _ _ _ _ _ _ (by decide), State.rd_wr_same]

theorem State.headShown_head2 : (s.headShown d words).rd .FQ_HEAD2 d = BitVec.ofNat 32 (words.getD 2 0) := by
  rw [State.headShown, State.rd_wr_name _ _ _ _ _ _ (by decide), State.rd_wr_same]

theorem State.headShown_head3 : (s.headShown d words).rd .FQ_HEAD3 d = BitVec.ofNat 32 (words.getD 3 0) := by
  rw [State.headShown, State.rd_wr_same]

theorem State.headShown_queue : (s.headShown d words).queue d = s.queue d := by
  rw [State.headShown, State.wr_queue, State.wr_queue, State.wr_queue, State.wr_queue]

theorem State.headShown_outputs : (s.headShown d words).outputs = s.outputs := by
  rw [State.headShown, State.wr_outputs, State.wr_outputs, State.wr_outputs, State.wr_outputs]

theorem State.headShown_sram : (s.headShown d words).sram = s.sram := by
  rw [State.headShown, State.wr_sram, State.wr_sram, State.wr_sram, State.wr_sram]

theorem State.headCaptured_rd (n : RegName) (i : Nat) : (s.headCaptured d words).rd n i = (s.headShown d words).rd n i := rfl

theorem State.headCaptured_queue : (s.headCaptured d words).queue d = { s.queue d with merged := [] } := by
  rw [State.headCaptured, State.queue_modQueue_same, State.headShown_queue]

theorem State.headCaptured_outputs : (s.headCaptured d words).outputs = s.outputs := s.headShown_outputs d words

theorem State.headCaptured_sram : (s.headCaptured d words).sram = s.sram := s.headShown_sram d words

end

section

variable {s : State} {d : Nat} {e : FaultEntry} {l : List FaultEntry}

/-- A read captures the head entry and answers its first word. -/
theorem State.readHead0_entry (h : (s.queue d).entries = e :: l) :
    s.readHead0 d false = (BitVec.ofNat 32 (e.code + e.source * 2 ^ 16), s.headCaptured d e.words) := by
  have hfirst := s.headShown_head0 d e.words
  rw [e.words_first] at hfirst
  rw [State.readHead0, h]
  simp only [if_neg Bool.false_ne_true]
  exact Prod.ext hfirst rfl

/-- A read of an empty queue captures zeros. -/
theorem State.readHead0_empty (h : (s.queue d).entries = []) : s.readHead0 d false = (0, s.headCaptured d [0, 0, 0, 0]) := by
  rw [State.readHead0, h]
  exact Prod.ext (s.headShown_head0 d [0, 0, 0, 0]) rfl

theorem exec_fqHeadRead_open {req : Requester} {d : DieId} {s : State} (h : s.PlatOpen req) (hp : s.present d.val = true) :
    exec (.fqHeadRead req d false) s = .next (State.answer (s.readHead0 d.val false)) := by
  change execFqHeadRead req d false s = _
  rw [execFqHeadRead, State.platAccess_open _ h, if_pos hp]

theorem exec_fqHeadRead_entry {req : Requester} {d : DieId} {s : State} (h : s.PlatOpen req) (hp : s.present d.val = true)
    (he : (s.queue d.val).entries = e :: l) : exec (.fqHeadRead req d false) s =
      .next ((s.headCaptured d.val e.words).emit (.readData (BitVec.ofNat 32 (e.code + e.source * 2 ^ 16)))) := by
  rw [exec_fqHeadRead_open h hp, State.readHead0_entry he, State.answer]

theorem exec_fqHeadRead_empty {req : Requester} {d : DieId} {s : State} (h : s.PlatOpen req) (hp : s.present d.val = true)
    (he : (s.queue d.val).entries = []) : exec (.fqHeadRead req d false) s =
      .next ((s.headCaptured d.val [0, 0, 0, 0]).emit (.readData 0)) := by
  rw [exec_fqHeadRead_open h hp, State.readHead0_empty he, State.answer]

/-! ## A write of FQ_POP -/

/-- The head entry goes; one that reports have merged into leaves a record (R211). -/
def State.headRemoved (s : State) (d : Nat) (e : FaultEntry) (l : List FaultEntry) : State :=
  if 1 < e.count then (s.modQueue d fun q => { q with entries := l }).faultRecord d 1 e
  else s.modQueue d fun q => { q with entries := l }

theorem State.headRemoved_recorded (s : State) (d : Nat) (e : FaultEntry) (l : List FaultEntry) :
    Recorded (s.modQueue d fun q => { q with entries := l }) (s.headRemoved d e l) := by
  unfold State.headRemoved
  split
  · exact Recorded.faultRecord _ _ _ _
  · exact Recorded.refl _

theorem State.writePop_removes {v : Word} (hv : Fld.FQ_POP_POP.of v = 1) (h : (s.queue d).entries = e :: l)
    (hm : (e.code, e.source) ∉ (s.queue d).merged) : s.writePop d v = s.headRemoved d e l := by
  have hany : ((s.queue d).merged.any fun k => decide (k = (e.code, e.source))) = false := by
    rw [List.any_eq_false]
    rintro k hk heq
    exact hm (of_decide_eq_true heq ▸ hk)
  unfold State.writePop
  rw [hv, if_neg Nat.one_ne_zero, h]
  dsimp only
  rw [hany, if_neg Bool.false_ne_true]
  rfl

theorem State.writePop_stale {v : Word} (hv : Fld.FQ_POP_POP.of v = 1) (h : (s.queue d).entries = e :: l)
    (hm : (e.code, e.source) ∈ (s.queue d).merged) : s.writePop d v = s.setFlag Fld.FQ_STATUS_POP_STALE d true := by
  have hany : ((s.queue d).merged.any fun k => decide (k = (e.code, e.source))) = true :=
    List.any_eq_true.mpr ⟨_, hm, decide_eq_true rfl⟩
  unfold State.writePop
  rw [hv, if_neg Nat.one_ne_zero, h]
  dsimp only
  rw [hany, if_pos rfl]

theorem exec_fqPop_open {req : Requester} {d : DieId} {s : State} (v : Word) (h : s.PlatOpen req)
    (hp : s.present d.val = true) : exec (.fqPop req d v) s = .next (s.writePop d.val v) := by
  change execFqPop req d v s = _
  rw [execFqPop, State.platAccess_open _ h, hp, State.when_true]

/-! ## The end of a storm -/

/-- The storm is over; its entry shows when (R215). -/
def State.stormCalmed (s : State) (d : Nat) : State :=
  s.modQueue d fun q =>
    { q with
      storm := false, stormHeld := false, irqUs := none
      entries := q.entries.map fun e => if e.is 0x5302 0 then { e with last := s.us } else e }

/-- The entry whose count the record of a storm's end gives (R215). -/
def State.stormTotal (s : State) (d : Nat) : FaultEntry :=
  ((s.queue d).entries.find? fun e => e.is 0x5302 0).getD
    { code := 0x5302, source := 0, dseq := 0, count := 0, first := s.us, last := s.us }

theorem exec_stormEnd_full {d : DieId} {s : State} (hp : s.platLive = true) (hs : (s.queue d.val).storm = true)
    (ht : 1000 ≤ (s.queue d.val).tokens) : exec (.stormEnd d) s =
      .next ((s.stormCalmed d.val).faultRecord d.val 3 ((s.stormCalmed d.val).stormTotal d.val)) := by
  change execStormEnd d s = _
  rw [execStormEnd, hp, hs, decide_eq_true ht, Bool.and_self, Bool.and_self, State.when_true]
  rfl

end

/-- Settles O21: what a read captures, what a pop removes, and that the record a pop or a storm's end leaves moves no queue. -/
theorem faultQueueHead : Obligations.FaultQueueHead := by
  refine ⟨fun req d e l s h hp he => ⟨_, exec_fqHeadRead_entry h hp he, ?_⟩,
    fun req d s h hp he => ⟨_, exec_fqHeadRead_empty h hp he, ?_⟩,
    fun req d v e l s h hp hv he hm => ⟨_, (exec_fqPop_open v h hp).trans (congrArg _ (State.writePop_removes hv he hm)), ?_⟩,
    fun req d v e l s h hp hv he hm => (exec_fqPop_open v h hp).trans (congrArg _ (State.writePop_stale hv he hm)),
    fun d s hp hs ht => ⟨_, exec_stormEnd_full hp hs ht, ?_⟩⟩
  case refine_1 =>
    dsimp only
    rw [State.emit_rd, State.emit_rd, State.emit_rd, State.emit_rd, State.headCaptured_rd, State.headCaptured_rd,
      State.headCaptured_rd, State.headCaptured_rd, State.emit_outputs, State.headCaptured_outputs, State.emit_queue,
      State.headCaptured_queue, State.emit_sram, State.headCaptured_sram]
    rw [← e.words_first, ← e.words_second]
    exact ⟨s.headShown_head0 d.val _, s.headShown_head1 d.val _, s.headShown_head2 d.val _, s.headShown_head3 d.val _,
      rfl, he, rfl, rfl⟩
  case refine_2 =>
    dsimp only
    rw [State.emit_outputs, State.headCaptured_outputs, State.emit_rd, State.headCaptured_rd]
    exact ⟨rfl, s.headShown_head3 d.val _⟩
  case refine_3 =>
    have hkept := s.headRemoved_recorded d.val e l
    dsimp only
    rw [hkept.queue, State.queue_modQueue_same]
    exact ⟨rfl, rfl, State.flag_congr (hkept.rd .FQ_STATUS d.val rfl (by decide) (by decide)), hkept.outputs⟩
  case refine_4 =>
    have hkept := Recorded.faultRecord (s.stormCalmed d.val) d.val 3 ((s.stormCalmed d.val).stormTotal d.val)
    dsimp only
    rw [hkept.queue, State.stormCalmed, State.queue_modQueue_same]
    exact ⟨rfl, rfl, rfl, rfl, List.length_map _, hkept.sram⟩

end Sys2Proof.Machine

namespace Sys2Proof.Machine

/-! # Observation (R226, R429, R433 to R441) -/

/-! ## What counting leaves alone, and what a counter shows -/

/-- The watch slots count in OB_WATCH_COUNT alone. -/
theorem State.obWatch_rd (s : State) (d e k : Nat) {n : RegName} (i : Nat) (h : n ≠ .OB_WATCH_COUNT) :
    (s.obWatch d e k).rd n i = s.rd n i := by
  refine State.forEach_rel (R := fun s t => t.rd n i = s.rd n i) (fun _ => rfl) (fun _ _ _ h1 h2 => h2.trans h1) _
    (fun t j => ?_) _ _
  dsimp only
  split
  · rfl
  · split
    · rw [State.modDie_rd, State.rd_setF _ _ _ _ _ _ h]
    · exact State.rd_setF _ _ _ _ _ _ h

theorem State.obSat_rd (s : State) (d e : Nat) {n : RegName} (i : Nat) (h : n ≠ .OB_SAT) : (s.obSat d e).rd n i = s.rd n i :=
  State.rd_wr_name _ _ _ _ _ _ h

/-- A counter of 20 bits adds, up to its last value (R432). -/
theorem State.obCounter_single {s : State} {d e : Nat} (n : Nat) (h : s.obPaired d (e - e % 2) = false) :
    (s.obCounter d e n).getF Fld.OB_CNT_COUNT (d * 1024 + e) = min (s.getF Fld.OB_CNT_COUNT (d * 1024 + e) + n) 0xFFFFF := by
  unfold State.obCounter
  dsimp only
  rw [h, if_neg Bool.false_ne_true]
  split
  · rename_i hfull
    rw [State.getF_eq_of_rd (State.obSat_rd _ _ _ _ (by decide)), State.getF_setF_same _ _ _ _ (by decide),
      Nat.min_eq_right hfull]
    rfl
  · rename_i hroom
    have hlt := Nat.not_le.mp hroom
    rw [State.getF_setF_same _ _ _ _ (by decide), Nat.min_eq_left (Nat.le_of_lt hlt)]
    exact Nat.mod_eq_of_lt (Nat.lt_succ_of_lt hlt)

theorem State.count_single {s : State} {d e n : Nat} (ha : obAssigned d e = true) (hn : n ≠ 0)
    (h : s.obPaired d (e - e % 2) = false) :
    (s.count d e n).getF Fld.OB_CNT_COUNT (d * 1024 + e) = min (s.getF Fld.OB_CNT_COUNT (d * 1024 + e) + n) 0xFFFFF := by
  rw [State.count, if_neg (by simp [hn, ha]), State.getF_eq_of_rd (State.obWatch_rd _ _ _ _ _ (by decide)),
    State.obCounter_single n h]

/-- A software write of a register stores its RW fields. -/
theorem State.swWrite_getF {f : Field} (hf : f.fits) (hrw : ∀ k < f.width, f.reg.rwMask.testBit (f.lo + k) = true)
    (hc : ∀ k < f.width, f.reg.w1cMask.testBit (f.lo + k) = false)
    (hs : ∀ k < f.width, f.reg.w1sMask.testBit (f.lo + k) = false) (s : State) (i : Nat) (v : Word) :
    (s.swWrite f.reg i v).getF f i = f.of v := by
  rw [State.getF, State.swWrite, State.rd_wr_same, RegName.of_written hf hrw hc hs]

/-! ## Counters (R433 to R435) -/

/-- The high half of a pair is kept for the requester's OB_SNAP. -/
def State.snapTaken (s : State) (req : Requester) (d e : Nat) : State :=
  s.modDie d fun x => { x with snaps := Tbl.set x.snaps (snapOf req) (s.getF Fld.OB_CNT_COUNT (d * 1024 + e + 1)) 0 }

/-- What a read of a counter leaves: of a pair, the high half kept. -/
def State.countRead (s : State) (req : Requester) (d e : Nat) : State :=
  if obAssigned d e = true ∧ e % 2 = 0 ∧ s.obPaired d e = true then s.snapTaken req d e else s

section

variable (s : State) (req : Requester) (d e : Nat)

theorem State.readCnt_eq : s.readCnt req d e =
    (if obAssigned d e then s.rd .OB_CNT (d * 1024 + e) else 0, s.countRead req d e) := by
  unfold State.readCnt State.countRead
  by_cases ha : obAssigned d e = true
  · by_cases hp : e % 2 = 0 ∧ s.obPaired d e = true
    · simp [ha, hp, State.snapTaken]
    · simp [ha, hp]
  · simp [ha]

theorem State.countRead_rd (n : RegName) (i : Nat) : (s.countRead req d e).rd n i = s.rd n i := by
  unfold State.countRead
  split <;> rfl

theorem State.countRead_outputs : (s.countRead req d e).outputs = s.outputs := by
  unfold State.countRead
  split <;> rfl

theorem State.snapTaken_generation (x : Nat) : ((s.snapTaken req d e).die x).generation = (s.die x).generation := by
  rw [State.snapTaken]
  exact State.die_modDie_field Die.generation (by intro; rfl) s d x

theorem State.countRead_sameSram : s.SameSram (s.countRead req d e) := by
  unfold State.countRead
  split
  · exact State.sameSram_of rfl (s.snapTaken_generation req d e) rfl
  · exact fun _ _ => rfl

variable {d e}

theorem State.countRead_readSnap (ha : obAssigned d e = true) (he : e % 2 = 0) (hp : s.obPaired d e = true) :
    (s.countRead req d e).readSnap req d = BitVec.ofNat 32 (s.getF Fld.OB_CNT_COUNT (d * 1024 + e + 1)) := by
  rw [State.countRead, if_pos ⟨ha, he, hp⟩, State.readSnap, State.snapTaken, State.die_modDie_same, Tbl.get_set_same]

end

section

variable {s : State} {req : Requester} {d : DieId}

theorem exec_obCntRead_open (e : Fin 1024) (h : s.DieOpen req d.val) : exec (.obCntRead req d e) s =
    .next ((s.countRead req d.val e.val).emit
      (.readData (if obAssigned d.val e.val then s.rd .OB_CNT (d.val * 1024 + e.val) else 0))) := by
  change execObCntRead req d e s = _
  rw [execObCntRead, State.dieRead_open _ h, State.readCnt_eq, State.answer]

theorem exec_obCntWrite_assigned {e : Fin 1024} (v : Word) (n : Nat) (h : s.DieOpen req d.val)
    (ha : obAssigned d.val e.val = true) : exec (.obCntWrite req d e v n) s =
      .next ((s.swWrite .OB_CNT (d.val * 1024 + e.val) v).count d.val e.val n) := by
  change execObCntWrite req d e v n s = _
  rw [execObCntWrite, State.dieAccess_open _ h, State.writeCnt, ha, Bool.not_true, if_neg Bool.false_ne_true]

theorem exec_obCntWrite_unassigned {e : Fin 1024} (v : Word) (n : Nat) (h : s.DieOpen req d.val)
    (ha : obAssigned d.val e.val = false) : exec (.obCntWrite req d e v n) s = .next s := by
  change execObCntWrite req d e v n s = _
  rw [execObCntWrite, State.dieAccess_open _ h, State.writeCnt, ha, Bool.not_false, if_pos rfl]

theorem State.obPaired_swWrite (s : State) (i : Nat) (v : Word) (d e : Nat) :
    (s.swWrite .OB_CNT i v).obPaired d e = s.obPaired d e := by
  rw [State.obPaired, State.swWrite, State.rd_wr_name _ _ _ _ _ _ (by decide), State.obPaired]

theorem State.swWrite_count (s : State) (i : Nat) (v : Word) :
    (s.swWrite .OB_CNT i v).getF Fld.OB_CNT_COUNT i = Fld.OB_CNT_COUNT.of v :=
  State.swWrite_getF (f := Fld.OB_CNT_COUNT) (by decide) (by decide) (by decide) (by decide) s i v

theorem exec_obChainWrite_open (m : Fin 16) (v : Word) (h : s.DieOpen req d.val) :
    exec (.obChainWrite req d m v) s = .next (s.swWrite .OB_CHAIN (d.val * 16 + m.val) v) := by
  change execObChainWrite req d m v s = _
  rw [execObChainWrite, State.dieAccess_open _ h, State.writeChain]

/-! ## Watch slots (R436, R439) -/

/-- A slot begins to count afresh. -/
def State.watchCleared (s : State) (i : Nat) : State := s.setF Fld.OB_WATCH_COUNT_COUNT i 0

theorem State.watchCleared_count (s : State) (i : Nat) : (s.watchCleared i).getF Fld.OB_WATCH_COUNT_COUNT i = 0 := by
  rw [State.watchCleared, State.getF_setF_same _ _ _ _ (by decide), Nat.zero_mod]

/-- A slot's CFG as a write leaves it: PRECISE only for an event that has it. -/
def State.watchStored (s : State) (i : Nat) (v : Word) : State :=
  if Fld.OB_WATCH_CFG_ACTION.of v = 3 ∧ !preciseEvent (Fld.OB_WATCH_CFG_EVENT.of v) then
    (s.swWrite .OB_WATCH_CFG i v).setF Fld.OB_WATCH_CFG_ACTION i 2
  else s.swWrite .OB_WATCH_CFG i v

theorem State.swWrite_event (s : State) (i : Nat) (v : Word) :
    (s.swWrite .OB_WATCH_CFG i v).getF Fld.OB_WATCH_CFG_EVENT i = Fld.OB_WATCH_CFG_EVENT.of v :=
  State.swWrite_getF (f := Fld.OB_WATCH_CFG_EVENT) (by decide) (by decide) (by decide) (by decide) s i v

theorem State.swWrite_action (s : State) (i : Nat) (v : Word) :
    (s.swWrite .OB_WATCH_CFG i v).getF Fld.OB_WATCH_CFG_ACTION i = Fld.OB_WATCH_CFG_ACTION.of v :=
  State.swWrite_getF (f := Fld.OB_WATCH_CFG_ACTION) (by decide) (by decide) (by decide) (by decide) s i v

theorem State.swWrite_period (s : State) (i : Nat) (v : Word) :
    (s.swWrite .OB_WATCH_PERIOD i v).getF Fld.OB_WATCH_PERIOD_PERIOD i = Fld.OB_WATCH_PERIOD_PERIOD.of v :=
  State.swWrite_getF (f := Fld.OB_WATCH_PERIOD_PERIOD) (by decide) (by decide) (by decide) (by decide) s i v

theorem State.watchStored_event (s : State) (i : Nat) (v : Word) :
    (s.watchStored i v).getF Fld.OB_WATCH_CFG_EVENT i = Fld.OB_WATCH_CFG_EVENT.of v := by
  unfold State.watchStored
  split
  · rw [State.getF_setF_other _ _ _ _ _ _ (by decide) (.inr (.inr (by decide))), State.swWrite_event]
  · exact s.swWrite_event i v

theorem State.watchStored_action (s : State) (i : Nat) (v : Word) : (s.watchStored i v).getF Fld.OB_WATCH_CFG_ACTION i =
    if Fld.OB_WATCH_CFG_ACTION.of v = 3 ∧ preciseEvent (Fld.OB_WATCH_CFG_EVENT.of v) = false then 2
    else Fld.OB_WATCH_CFG_ACTION.of v := by
  unfold State.watchStored
  simp only [Bool.not_eq_true']
  split
  · exact State.getF_setF_same _ _ _ _ (by decide)
  · exact s.swWrite_action i v

theorem State.watchStored_rd (s : State) (i : Nat) (v : Word) {n : RegName} (j : Nat) (h : n ≠ .OB_WATCH_CFG) :
    (s.watchStored i v).rd n j = s.rd n j := by
  unfold State.watchStored
  split
  · rw [State.rd_setF _ _ _ _ _ _ h, State.swWrite, State.rd_wr_name _ _ _ _ _ _ h]
  · exact State.rd_wr_name _ _ _ _ _ _ h

theorem State.writeWatch_period (s : State) (d k : Nat) (v : Word) :
    s.writeWatch d k true v = (s.watchCleared (d * 16 + k)).swWrite .OB_WATCH_PERIOD (d * 16 + k) v := rfl

theorem State.writeWatch_config (s : State) (d k : Nat) (v : Word) :
    s.writeWatch d k false v = (s.watchCleared (d * 16 + k)).watchStored (d * 16 + k) v := by
  unfold State.writeWatch
  rw [if_neg Bool.false_ne_true]
  dsimp only
  rw [State.swWrite_action, State.swWrite_event]
  rfl

theorem exec_watchConfigWrite_open (k : Fin 16) (period : Bool) (v : Word) (h : s.DieOpen req d.val) :
    exec (.watchConfigWrite req d k period v) s = .next (s.writeWatch d.val k.val period v) := by
  change execWatchConfigWrite req d k period v s = _
  rw [execWatchConfigWrite, State.dieAccess_open _ h]

/-! ## Counts that a read clears (R226, R441) -/

theorem exec_readClear_open {c : Instr} {r : RegName} (h : s.DieOpen req d.val)
    (hc : (c, r) ∈ [(Instr.obPrecLostRead req d, RegName.OB_PREC_LOST), (.hpStaleRead req d, .HP_STALE),
      (.hpMigratedRead req d, .HP_MIGRATED)]) :
    exec c s = .next ((s.clrR r d.val r.rcMask).emit (.readData (s.rd r d.val))) ∧ r.rcMask = 0xFFFFFFFF := by
  have hread := s.dieRead_open (fun s => s.readClear r d.val) h
  simp only [List.mem_cons, Prod.mk.injEq, List.not_mem_nil, or_false] at hc
  obtain ⟨rfl, rfl⟩ | ⟨rfl, rfl⟩ | ⟨rfl, rfl⟩ := hc
  all_goals exact ⟨congrArg Host.Outcome.next hread, rfl⟩

theorem State.clrR_all (s : State) (n : RegName) (i : Nat) {m : Nat} (h : m = 0xFFFFFFFF) : (s.clrR n i m).rd n i = 0 := by
  rw [State.clrR, State.rd_wr_same, h]
  exact BitVec.and_zero

/-- What is sent out is no register. -/
theorem State.OnlyRegs.emit {s t : State} {p : RegName → Nat → Bool} (h : s.OnlyRegs t p) (o : Output) :
    s.OnlyRegs (t.emit o) p := by
  obtain ⟨hrest, hrd⟩ := h
  exact ⟨by rw [hrest]; rfl, hrd⟩

end

/-- Settles O53, register by register: what a read answers and keeps, and what a write stores and clears. -/
theorem observationRegisters : Obligations.ObservationRegisters := by
  refine ⟨fun req d e s h => ⟨_, exec_obCntRead_open e h, ?read⟩,
    fun req d e v s h ha => ⟨_, exec_obCntWrite_assigned v 0 h ha, ?write⟩,
    fun req d e v n s h ha hp hn => ⟨_, exec_obCntWrite_assigned v n h ha, ?added⟩,
    fun req d e v n s h ha => exec_obCntWrite_unassigned v n h ha,
    fun req d m v s h => ⟨_, exec_obChainWrite_open m v h, State.rd_wr_same _ _ _ _, (State.OnlyRegs.refl s _).wr (by simp)⟩,
    fun req d k v s h => ⟨_, (exec_watchConfigWrite_open k true v h).trans (congrArg _ (s.writeWatch_period d.val k.val v)),
      State.swWrite_period _ _ _, ?period,
      ((State.OnlyRegs.refl s _).setF (by simp)).wr (by simp)⟩,
    fun req d k v s h => ⟨_, (exec_watchConfigWrite_open k false v h).trans (congrArg _ (s.writeWatch_config d.val k.val v)),
      State.watchStored_event _ _ _, State.watchStored_action _ _ _, ?config, ?only⟩,
    fun req d c r s h hc => ?clear⟩
  case read =>
    dsimp only
    rw [State.emit_outputs, State.countRead_outputs]
    exact ⟨s.countRead_rd req d.val e.val, s.countRead_sameSram req d.val e.val, rfl, s.countRead_readSnap req⟩
  case write =>
    rw [State.count_zero]
    exact ⟨s.swWrite_count _ v, (State.OnlyRegs.refl s _).wr (by simp)⟩
  case added =>
    dsimp only
    rw [State.count_single ha hn ((s.obPaired_swWrite _ _ _ _).trans hp), State.swWrite_count]
  case period => exact (State.getF_wr_apart _ _ _ _ _ _ (by decide)).trans (s.watchCleared_count _)
  case config => rw [State.getF_eq_of_rd (State.watchStored_rd _ _ _ _ (by decide)), State.watchCleared_count]
  case only =>
    unfold State.watchStored
    split
    · exact (((State.OnlyRegs.refl s _).setF (by simp)).wr (by simp)).setF (by simp)
    · exact ((State.OnlyRegs.refl s _).setF (by simp)).wr (by simp)
  case clear =>
    obtain ⟨hexec, hmask⟩ := exec_readClear_open h hc
    exact ⟨_, hexec, rfl, s.clrR_all r d.val hmask, ((State.OnlyRegs.refl s _).wr (by simp)).emit _⟩

end Sys2Proof.Machine

namespace Sys2Proof.Machine

/-! # A part that stands still (R242 to R244)

With its clocks stopped the part has no requester, no domain and no die that runs, and frozen without RST_N its reset
controller does not move either. What needs one of these does nothing. -/

/-! ## What does not run -/

section

variable {s : State}

theorem State.when_off {c : Bool} {f : State → State} (h : c = false) : s.when c f = s := by rw [h, State.when_false]

@[simp] theorem State.platLive_stopped (h : s.stopped = true) : s.platLive = false := by simp [State.platLive, h]

@[simp] theorem State.hifLive_stopped (h : s.stopped = true) : s.hifLive = false := by simp [State.hifLive, h]

@[simp] theorem State.rlvLive_stopped (h : s.stopped = true) : s.rlvLive = false := by simp [State.rlvLive, h]

@[simp] theorem State.live_stopped (h : s.stopped = true) (d : Nat) : s.live d = false := by simp [State.live, h]

@[simp] theorem State.chLive_stopped (h : s.stopped = true) (n : Nat) : s.chLive n = false := State.live_stopped h _

@[simp] theorem State.reached_stopped (h : s.stopped = true) (d : Nat) : s.reached d = false := by simp [State.reached, h]

@[simp] theorem State.portLive_stopped (h : s.stopped = true) (p : Nat) : s.portLive p = false := by simp [State.portLive, h]

@[simp] theorem State.romRuns_stopped (h : s.stopped = true) : s.romRuns = false := by simp [State.romRuns, h]

@[simp] theorem State.mctpLive_stopped (h : s.stopped = true) : s.mctpLive = false := by simp [State.mctpLive, h]

@[simp] theorem State.takable_stopped (h : s.stopped = true) (k : Nat) : s.takable k = false := by simp [State.takable, h]

@[simp] theorem State.atRow_still (h : s.sequencing = false) (c : Nat) : s.atRow c = false := by simp [State.atRow, h]

@[simp] theorem State.pastRow_still (h : s.sequencing = false) (c : Nat) : s.pastRow c = false := by
  unfold State.pastRow
  split <;> simp [h]

@[simp] theorem State.pastSentry_still (h : s.sequencing = false) : s.pastSentry = false := State.pastRow_still h _

@[simp] theorem State.pendingReset_still (h : s.sequencing = false) : s.pendingReset = false := by simp [State.pendingReset, h]

/-! ## Accesses and frames -/

@[simp] theorem State.reqOk_stopped (h : s.stopped = true) (req : Requester) : s.reqOk req = false := by
  cases req <;> simp [State.reqOk, h]

@[simp] theorem State.reqFar_stopped (h : s.stopped = true) (req : Requester) : s.reqFar req = false := by
  simp [State.reqFar, h]

theorem State.dieAccess_stopped (h : s.stopped = true) {req : Requester} {d : Nat} {f : State → State} :
    s.dieAccess req d f = s := by simp [State.dieAccess, h]

theorem State.dieRead_stopped (h : s.stopped = true) {req : Requester} {d : Nat} {f : State → Word × State} :
    s.dieRead req d f = s := by simp [State.dieRead, State.dieFetch, State.reply, h]

theorem State.platAccess_stopped (h : s.stopped = true) {req : Requester} {f : State → State} : s.platAccess req f = s :=
  State.when_off (by simp [h])

theorem State.portAccess_stopped (h : s.stopped = true) {req : Requester} {p : Nat} {f : State → State} :
    s.portAccess req p f = s := by
  unfold State.portAccess
  split
  · exact State.dieAccess_stopped h
  · exact State.platAccess_stopped h

theorem State.hifAccess_stopped (h : s.stopped = true) {req : Requester} {f : State → State} : s.hifAccess req f = s := by
  simp [State.hifAccess, h]

theorem State.rlvAccess_stopped (h : s.stopped = true) {req : Requester} {f : State → State} : s.rlvAccess req f = s := by
  simp [State.rlvAccess, h]

theorem State.aonAccess_stopped (h : s.stopped = true) {req : Requester} {f : State → State} : s.aonAccess req f = s :=
  State.when_off (by simp [h])

theorem State.mbFrame_stopped (h : s.stopped = true) {f : State → State} : s.mbFrame f = s := State.when_off (by simp [h])

theorem State.rvTake_stopped (h : s.stopped = true) {typ : Nat} {f : State → Bool → Parcel → State} : s.rvTake typ f = s := by
  have hhead : s.rvHead typ = none := by
    unfold State.rvHead
    split <;> simp [h]
  rw [State.rvTake, hhead]

theorem State.ownTurn_stopped (h : s.stopped = true) (n : Nat) (o : OwnOpen) : s.ownTurn n o = false := by
  simp [State.ownTurn, State.ownMay, h]

theorem State.writeAt_stopped (h : s.stopped = true) (req : Requester) (a : Nat) (v : Word) : s.writeAt req a v = s := by
  unfold State.writeAt
  split
  · split
    · exact State.dieAccess_stopped h
    · split
      · exact State.dieAccess_stopped h
      · rfl
  · split
    · exact State.when_off (by simp [h])
    · split
      · rfl
      · exact State.dieAccess_stopped h
      · exact State.platAccess_stopped h
      · exact State.aonAccess_stopped h
      · exact State.portAccess_stopped h
      · exact State.hifAccess_stopped h
      · exact State.rlvAccess_stopped h

theorem State.hostFrame_stopped (h : s.stopped = true) (n : Nat) (f : HostFrame) : s.hostFrame n f = s := by
  simp [State.hostFrame, h]

theorem State.assertApply_stopped (h : s.stopped = true) (n : Nat) : s.assertApply n = s := by
  simp [State.assertApply, h]

end

end Sys2Proof.Machine

namespace Sys2Proof.Machine

/-! # What a frozen part answers (R243 to R245)

A few commands reach a part whose clocks stand: the test access port, the pins and supplies, the guard's latches, OT, and the
reset controller's view of REFCLK. Every other command finds nothing that runs. -/

/-- The commands that change anything of a frozen part, those that end the freeze included. -/
def reachesFrozen : Instr → Bool
  | .powerOnReset _ | .brownOut .. | .supplyGood _ | .rstNAssert | .levelSourceReleased _ | .resetMerge .. | .pciePerst
  | .refclkLoss _ | .refclkGood | .otTick | .squall _ | .front _ | .psnsChange ..
  | .tapReset | .freeze | .frzread .. | .extest _ | .idcode | .samplePreload _ | .bypass => true
  | _ => false

theorem execRegWrite_stopped {s : State} (h : s.stopped = true) (req : Requester) (a w : Nat) (v : Word) :
    exec (.regWrite req a w v) s = .next s := by
  refine congrArg Host.Outcome.next ?_
  dsimp only
  split
  · rfl
  · split
    · exact State.when_off (by simp [h])
    · exact State.writeAt_stopped h _ _ _

theorem execCompletionRead_stopped {s : State} (h : s.stopped = true) (ch : ChanId) (g : Nat) (r : OwnRead) :
    exec (.completionRead ch g r) s = .next s := by
  refine congrArg Host.Outcome.next ?_
  split
  · rfl
  · simp [State.ownTurn_stopped h]

/-- A command finds nothing of a frozen part that runs, by the kind of what it needs: a domain or a die, a row of the release,
an access, a frame of the mailbox, a parcel, an open channel. -/
theorem exec_frozen {s : State} (hf : s.seq.frozen = true) (hq : s.sequencing = false) {c : Instr}
    (hc : reachesFrozen c = false) : exec c s = .next s := by
  have hs : s.stopped = true := by simp [State.stopped, hf]
  cases c
  case regWrite => exact execRegWrite_stopped hs _ _ _ _
  case completionRead => exact execCompletionRead_stopped hs _ _ _
  case hostFrame ch f =>
    refine congrArg Host.Outcome.next ?_
    rw [State.hostFrame_stopped hs, State.assertApply_stopped hs]
  case frzNAssert => exact congrArg Host.Outcome.next (State.when_off (by simp [hf]))
  case resetTakesHold | deferralLimit | holdEnd | pllRetry | releaseFuse | releaseFabric | trainingDeadline | releaseHashCrypto
      | releaseSentry | releaseDie | releaseHif | releaseRlv =>
    exact congrArg Host.Outcome.next (State.when_off (by simp [hq]))
  case shadowBusyExpire | frameTimeout | hrstAssert | hrstRelease | deferredResetAssert | deferredResetEnd | stateChange
      | swapApply | statusPoll | epochChecksComplete | channelTakeEpoch | epochDeadline | epochSwitchComplete | stageCopyDone
      | loadDone | sweepDone | groupFetchDone | hashResult | leafVerdict | verdictReport | horizonExpire | taintReread
      | restartClear | gateOpen | vaultRead | vaultRefresh | vaultDirectoryRead | tallyFlush | scrubStep | scrubLate
      | refreshDue | careUnit | careUnitComplete | faultReport | stormEnd | dieUnreachable | dieReachable | hopDown | hopCheck
      | capacityAdvert | jobTimeout | fence | fenceAck | laneKat | pcieLinkReset | flr | watchdogExpire | mpFrame | mpFrameDone
      | pollRepeat | pollLimit | writePollTimeout | xipRead | xipFillDone | xipStall | xipStore | romBoot | bootBlockVerified
      | handOver | backoffExpire | confirmWindowExpire | checkDone | busError | machineCheck | fucmd | fustat | fusePulseEnd
      | vfuseExcursion | keyUnitFault | signingComplete | setEndpointId | getEndpointId | getMctpVersionSupport
      | getMessageTypeSupport | spdmGetVersion | spdmGetCapabilities | spdmNegotiateAlgorithms | spdmChallenge
      | spdmGetMeasurements | spdmRespondIfReady | sqTail | cqHead | commandStart | completionWrite | ringNop | createPair
      | deletePair | identify | resetHif | getPubkeys | leaseOpen | leaseClose | leaseEvidence | counterRead | firmwareCommand
      | fwTimeout | fnActrlWrite | mbReadBufferReady | mbReadData | mbMsgRecv | rescueTimeout | mailboxFrameTimeout | portUp
      | portDown | parcelReceive | linkAck | resendTimeout | sessionTimeout | guardEvent | holdoffExpire | guardReset
      | folioOpen | folioRecordWrite | folioTick | watchFire | pcieLinkUp | vfEnable | addedEachMicrosecond =>
    exact congrArg Host.Outcome.next (State.when_off (by simp [hs, State.ownTurn_stopped]))
  case chCtrlWrite | channelConfigWrite | chResetAssert | swap | stagingWrite | fmQuoinWrite | load | unload | sweep | preload
      | preloadPin | unpin | descriptorWrite | recover | refresh | twinCheck | scrubRestart | flush | careRegionWrite
      | snCoreReleaseWrite | wdtKick | obCntWrite | obChainWrite | watchConfigWrite | obPrecPtrWrite =>
    exact congrArg Host.Outcome.next (State.dieAccess_stopped hs)
  case chLastopRead | fmLsinfoRead | witConsumedRead | obCntRead | obPrecLostRead | hpStaleRead | hpMigratedRead =>
    exact congrArg Host.Outcome.next (State.dieRead_stopped hs)
  case shapeDataAccess req ch write =>
    cases write with
    | none => exact congrArg Host.Outcome.next (State.dieRead_stopped hs)
    | some v => exact congrArg Host.Outcome.next (State.dieAccess_stopped hs)
  case epochGo | pgCtrlWrite | rpLineWrite | releasePlanWrite | fqHeadRead | fqPop | rcDieResetWrite | xipCtrlWrite | confirm
      | check | recopy | fuRead | fuReadMargin | fuProgram | fuFinalise | fuGenUds | fuAdvanceRollback | fuAdvanceTamper
      | fuRevoke | fuAdvanceLc | fuMarginScan | kuBind | kuDeriveFw | bindNonceRead | hiFwTakeRead | hiFwDone | mbOutlenWrite
      | mbInlenWrite | gdLock | gdUnlock | unlockNonceRead | gdSrcCntRead | foAppend | foAdopt | foSeqRead =>
    exact congrArg Host.Outcome.next (State.platAccess_stopped hs)
  case mpQptrWrite | mpQueueConfigWrite => exact congrArg Host.Outcome.next (State.portAccess_stopped hs)
  case hiCtxCtrlWrite => exact congrArg Host.Outcome.next (State.hifAccess_stopped hs)
  case transmitParcel | rollcall | sessionAbort => exact congrArg Host.Outcome.next (State.rlvAccess_stopped hs)
  case rvCseqRead => exact congrArg Host.Outcome.next (State.aonAccess_stopped hs)
  case mbWrite | mbReadReq | mbClear | mbSetQuad | mbReset | mbMsgSend | mbRescueData =>
    exact congrArg Host.Outcome.next (State.mbFrame_stopped hs)
  case rvIdent | rollcallParcel | rolldone | rvBreak | rvOpen | rvColophon | rvTree | rvBlock | rvEnd | resendReq | rvBusy
      | rvCommand | rvReply | rvMessage =>
    exact congrArg Host.Outcome.next (State.rvTake_stopped hs)
  all_goals cases hc

/-! ## What such a command leaves alone -/

/-- A frozen part takes no source of a reset but RST_N (R244). -/
theorem State.recognise_frozen {s : State} (hf : s.seq.frozen = true) {src : ResetSource} (hsrc : src ≠ .rstN) (rc : Nat)
    (wdt : List Nat) : s.recognise src rc wdt = s := by
  rw [State.recognise, if_pos (.inr ⟨hf, hsrc⟩)]

/-- From `s` to `t` a frozen part has stayed frozen: of what is not the reset controller's, the test access port's or the part's
own record only OT, the guard's latches and the registers of the clock and of the pins have moved. -/
structure FreezeKept (s t : State) : Prop where
  frozen : t.seq.frozen = s.seq.frozen
  causes : t.seq.causes = s.seq.causes
  rest : t = { s with seq := t.seq, jtag := t.jtag, guard := t.guard, ot := t.ot, regs := t.regs, free := t.free
                      outputs := t.outputs }
  latched : t.guard = { s.guard with latched := t.guard.latched }
  rd : ∀ n i, n ≠ .RC_CLK → n ≠ .GD_PSNS → t.rd n i = s.rd n i
  sent : ∃ l : List Output, t.outputs = s.outputs ++ l ∧ ∀ o ∈ l, (∃ b, o = .tdo b) ∨ ∃ b, o = .pins b

namespace FreezeKept

variable {r s t : State}

theorem refl (s : State) : FreezeKept s s := ⟨rfl, rfl, rfl, rfl, fun _ _ _ _ => rfl, [], by simp⟩

theorem trans (h1 : FreezeKept r s) (h2 : FreezeKept s t) : FreezeKept r t where
  frozen := h2.frozen.trans h1.frozen
  causes := h2.causes.trans h1.causes
  rest := h2.rest.trans (by rw [h1.rest])
  latched := h2.latched.trans (by rw [h1.latched])
  rd n i hc hp := (h2.rd n i hc hp).trans (h1.rd n i hc hp)
  sent := by
    obtain ⟨l, hl, hlo⟩ := h1.sent
    obtain ⟨m, hm, hmo⟩ := h2.sent
    exact ⟨l ++ m, by rw [hm, hl, List.append_assoc], fun o ho => (List.mem_append.mp ho).elim (hlo o) (hmo o)⟩

/-- What is neither a register nor sent out, nor the freeze itself. -/
theorem same (h : FreezeKept r s) (hfrozen : t.seq.frozen = s.seq.frozen) (hcauses : t.seq.causes = s.seq.causes)
    (hlatched : t.guard = { s.guard with latched := t.guard.latched })
    (hrest : t = { s with seq := t.seq, jtag := t.jtag, guard := t.guard, ot := t.ot, free := t.free }) : FreezeKept r t := by
  have hregs : t.regs = s.regs := by rw [hrest]
  have hvar : t.variant = s.variant := by rw [hrest]
  have hout : t.outputs = s.outputs := by rw [hrest]
  refine h.trans ⟨hfrozen, hcauses, ?_, hlatched, fun n i _ _ => State.rd_congr hregs hvar n i, [], by simp [hout]⟩
  rw [hregs, hout]
  exact hrest

theorem modSeq (h : FreezeKept r s) {f : Seq → Seq} (hfrozen : (f s.seq).frozen = s.seq.frozen)
    (hcauses : (f s.seq).causes = s.seq.causes) : FreezeKept r (s.modSeq f) := h.same hfrozen hcauses rfl rfl

theorem modJtag (h : FreezeKept r s) {f : Jtag → Jtag} : FreezeKept r (s.modJtag f) := h.same rfl rfl rfl rfl

theorem fresh (h : FreezeKept r s) : FreezeKept r s.fresh.2 := h.same rfl rfl rfl rfl

theorem setF (h : FreezeKept r s) {f : Field} {i x : Nat} (hf : f.reg = .RC_CLK ∨ f.reg = .GD_PSNS) :
    FreezeKept r (s.setF f i x) :=
  h.trans ⟨rfl, rfl, rfl, rfl, fun _ _ hc hp => State.rd_setF _ _ _ _ _ _
    (hf.elim (fun e => e ▸ hc) fun e => e ▸ hp), [], by simp⟩

theorem emit (h : FreezeKept r s) {o : Output} (ho : (∃ b, o = .tdo b) ∨ ∃ b, o = .pins b) : FreezeKept r (s.emit o) :=
  h.trans ⟨rfl, rfl, rfl, rfl, fun _ _ _ _ => rfl, [o], rfl, fun _ hx => List.mem_singleton.mp hx ▸ ho⟩

theorem ite {c : Prop} [Decidable c] (h1 : FreezeKept r s) (h2 : FreezeKept r t) : FreezeKept r (if c then s else t) := by
  split
  · exact h1
  · exact h2

theorem when (h : FreezeKept r s) {c : Bool} {f : State → State} (hf : FreezeKept r (f s)) : FreezeKept r (s.when c f) := by
  cases c
  · exact h
  · exact hf

/-- A source that fires is latched (R405). -/
theorem fire (h : FreezeKept r s) {k : Nat} : FreezeKept r (s.fire k) := ite (h.same rfl rfl rfl rfl) h

theorem bypass (h : FreezeKept r s) : FreezeKept r s.bypass := h.modJtag.emit (.inl ⟨_, rfl⟩)

theorem releaseAon (h : FreezeKept r s) : FreezeKept r s.releaseAon := h.modSeq rfl rfl

theorem recognise (h : FreezeKept r s) (hf : r.seq.frozen = true) {src : ResetSource} (hsrc : src ≠ .rstN) {rc : Nat}
    {wdt : List Nat} : FreezeKept r (s.recognise src rc wdt) := by
  rw [State.recognise_frozen (h.frozen.trans hf) hsrc]
  exact h

/-! ## Reads through the test access port (R245) -/

theorem frozenRead (h : FreezeKept r s) {a : Nat} : FreezeKept r (s.frozenRead a).2 := by
  unfold State.frozenRead
  split
  · exact h
  · split
    · exact h.fresh
    · exact h

theorem busRead (h : FreezeKept r s) {a n : Nat} : FreezeKept r (busRead State.frozenRead s a n).2 := by
  unfold Machine.busRead
  dsimp only
  split
  · exact h.frozenRead
  · exact h.frozenRead.frozenRead

end FreezeKept

end Sys2Proof.Machine

namespace Sys2Proof.Machine

/-! ## The commands that reach a frozen part -/

section

variable {s : State}

theorem frozen_brownOut (hf : s.seq.frozen = true) {x : Supply} (hx : x ≠ .vddaon) (rc : Fin 501) :
    ∃ t, exec (.brownOut x rc) s = .next t ∧ FreezeKept s t := by
  refine ⟨_, rfl, (FreezeKept.refl s).when ?_⟩
  dsimp only
  rw [if_neg hx]
  exact .ite ((FreezeKept.refl s).modSeq rfl rfl) (((FreezeKept.refl s).modSeq rfl rfl).recognise hf (by decide))

theorem frozen_resetMerge (hf : s.seq.frozen = true) {x : ResetSource} (hpor : x ≠ .por) (hrst : x ≠ .rstN) (rc : Fin 501) :
    ∃ t, exec (.resetMerge x rc) s = .next t ∧ FreezeKept s t := by
  refine ⟨_, rfl, (FreezeKept.refl s).when ?_⟩
  cases x
  case por => exact absurd rfl hpor
  case rstN => exact absurd rfl hrst
  case perst => exact ((FreezeKept.refl s).modSeq rfl rfl).recognise hf (by decide)
  all_goals exact (FreezeKept.refl s).recognise hf (by simp)

theorem frozen_refclk (hf : s.seq.frozen = true) :
    (∀ rc, ∃ t, exec (.refclkLoss rc) s = .next t ∧ FreezeKept s t) ∧ ∃ t, exec .refclkGood s = .next t ∧ FreezeKept s t := by
  refine ⟨fun rc => ⟨_, rfl, (FreezeKept.refl s).when ?_⟩, _, rfl, (FreezeKept.refl s).when ?_⟩
  · dsimp only
    rw [if_pos (by simp [hf])]
    exact ((FreezeKept.refl s).modSeq rfl rfl).setF (.inl rfl)
  · exact .ite (((FreezeKept.refl s).modSeq rfl rfl).setF (.inl rfl)).releaseAon
      (((FreezeKept.refl s).modSeq rfl rfl).recognise hf (by decide))

theorem frozen_otTick (hf : s.seq.frozen = true) : ∃ t, exec .otTick s = .next t ∧ FreezeKept s t := by
  cases ha : s.seq.aonHeld with
  | true => exact ⟨s, exec_otTick_held ha, .refl s⟩
  | false =>
    have hplat : ({ s with ot := min (s.ot + 1) (2 ^ 40 - 1) } : State).platLive = false :=
      State.platLive_stopped (by simp [State.stopped, hf])
    refine ⟨_, exec_otTick_running ha, ?_⟩
    rw [State.waitTick, hplat, if_neg (by simp), State.confirmTick, hplat, if_neg (by simp)]
    exact (FreezeKept.refl s).same rfl rfl rfl rfl

/-- The gates that watch a pin lie in PLAT, which stands still. -/
theorem frozen_psnsChange (hf : s.seq.frozen = true) (p : Fin 16) (level : Bool) :
    ∃ t, exec (.psnsChange p level) s = .next t ∧ FreezeKept s t := by
  refine ⟨_, rfl, (FreezeKept.refl s).when ?_⟩
  have hset : ∀ x y, FreezeKept s ((s.setF Fld.GD_PSNS_FILTERED 0 x).setF Fld.GD_PSNS_RAW 0 y) := fun _ _ =>
    ((FreezeKept.refl s).setF (.inr rfl)).setF (.inr rfl)
  have hgates : ∀ {t : State} {f : State → State}, FreezeKept s t → FreezeKept s (t.when t.platLive f) := fun h => by
    rw [State.when_off (State.platLive_stopped (by simp [State.stopped, h.frozen, hf]))]
    exact h
  exact hgates (.ite (hset _ _).fire (hset _ _))

end

/-- Every command that does not end the freeze keeps it. -/
theorem exec_freezeKept {s : State} (hf : s.seq.frozen = true) (hq : bitOf s.seq.causes 2 = false) {c : Instr}
    (hc : endsFreeze c = false) : ∃ t, exec c s = .next t ∧ FreezeKept s t := by
  have h := FreezeKept.refl s
  cases hreach : reachesFrozen c with
  | false => exact ⟨s, exec_frozen hf (by simp [State.sequencing, hf, hq]) hreach, h⟩
  | true =>
    cases c
    case powerOnReset | rstNAssert => cases hc
    case brownOut x rc => exact frozen_brownOut hf (of_decide_eq_false hc) rc
    case resetMerge x rc =>
      simp only [endsFreeze, Bool.or_eq_false_iff, decide_eq_false_iff_not] at hc
      exact frozen_resetMerge hf hc.1 hc.2 rc
    case supplyGood => exact ⟨_, rfl, (h.modSeq rfl rfl).releaseAon⟩
    case levelSourceReleased => exact ⟨_, rfl, h.modSeq rfl rfl⟩
    case pciePerst => exact ⟨_, rfl, h.when ((h.modSeq rfl rfl).recognise hf (by decide))⟩
    case refclkLoss rc => exact (frozen_refclk hf).1 rc
    case refclkGood => exact (frozen_refclk hf).2
    case otTick => exact frozen_otTick hf
    case squall | front => exact ⟨_, rfl, h.when h.fire⟩
    case psnsChange p level => exact frozen_psnsChange hf p level
    case tapReset => exact ⟨_, rfl, h.modJtag (f := fun _ => Jtag.reset)⟩
    case freeze | extest =>
      refine ⟨_, rfl, h.when (.ite ?_ h.bypass)⟩
      dsimp only
      rw [State.modJtag_seq, if_pos hf]
      exact h.modJtag
    case frzread =>
      refine ⟨_, rfl, h.when (.ite h.bypass (.emit (.modJtag ?_) (.inl ⟨_, rfl⟩)))⟩
      split
      · exact h.busRead
      · exact h
    case idcode => exact ⟨_, rfl, h.when (h.modJtag.emit (.inl ⟨_, rfl⟩))⟩
    case samplePreload => exact ⟨_, rfl, h.when (.ite h.modJtag h.bypass)⟩
    case bypass => exact ⟨_, rfl, h.when h.bypass⟩
    all_goals cases hreach

/-- Settles O56: the queue is worked off from its front, and each of its commands keeps the freeze. -/
theorem freezeHolds : Obligations.FreezeHolds := by
  rintro s t ⟨hf, hq, hp⟩ hstep
  cases hpending : s.pending with
  | nil =>
    rw [step, hpending] at hstep
    cases hstep
    exact ⟨⟨hf, hq, hp⟩, rfl, fun _ _ _ _ => rfl, rfl, [], by simp⟩
  | cons c l =>
    rw [step, hpending] at hstep
    rw [hpending, List.forall_mem_cons] at hp
    obtain ⟨u, hu, hkept⟩ := exec_freezeKept (s := { s with pending := l }) hf hq hp.1
    obtain rfl : u = t := Host.Outcome.next.inj (hu.symm.trans hstep)
    have hl : u.pending = l := by rw [hkept.rest]
    exact ⟨⟨hkept.frozen.trans hf, by rw [hkept.causes]; exact hq, by rw [hl]; exact hp.2⟩, by rw [hkept.rest],
      hkept.rd, hkept.latched, hkept.sent⟩

end Sys2Proof.Machine

namespace Sys2Proof.Machine

/-! # A virtual function's FLR shows in HI_STATUS (R235, R374) -/

/-- A running part whose virtual function 1 is enabled and has its pair 0 ENABLED, which HI_STATUS.PAIRS counts. -/
def State.withVfPair : State :=
  State.reset.modHif fun h => { h with numVfs := 1, vfEnable := true, enabled := [pairNo 1 0] }

theorem State.withVfPair_pairs : State.withVfPair.getF Fld.HI_STATUS_PAIRS 0 = 1 := by decide

/-- The function's FLR disables the pair, so HI_STATUS, which is no register of its page, counts it no more. -/
theorem State.withVfPair_fnReset_pairs : (State.withVfPair.fnReset 1).getF Fld.HI_STATUS_PAIRS 0 = 0 := by decide

theorem exec_flr_withVfPair : exec (.flr 1) State.withVfPair = .next (State.withVfPair.fnReset 1) :=
  congrArg Host.Outcome.next ((State.withVfPair.when_of _ _ (by decide)).trans (if_neg (by decide)))

/-- Refutes O24: the clause on a virtual function's FLR has every register of another index keep its word, but HI_STATUS.PAIRS
(index 0) counts the function's ENABLED pairs, which the FLR disables. -/
theorem not_resetSources : ¬ Obligations.ResetSources := by
  unfold Obligations.ResetSources
  intro h
  obtain ⟨_, _, _, _, _, _, _, hflr, _⟩ := h
  obtain ⟨t, ht, -, -, -, -, -, -, hrd⟩ := hflr 1 State.withVfPair (by decide) (by decide) (by decide)
  obtain rfl : State.withVfPair.fnReset 1 = t := Host.Outcome.next.inj (exec_flr_withVfPair.symm.trans ht)
  have hpairs : (State.withVfPair.fnReset 1).getF Fld.HI_STATUS_PAIRS 0 = State.withVfPair.getF Fld.HI_STATUS_PAIRS 0 :=
    congrArg (fun w : Word => bitsOf w.toNat _ _) (hrd .HI_STATUS 0 (by decide))
  rw [State.withVfPair_pairs, State.withVfPair_fnReset_pairs] at hpairs
  cases hpairs

end Sys2Proof.Machine

namespace Sys2Proof.Machine

/-! # What leaves the reset controller alone

Responses of the guard, the fuse units, reports and the hash pool never touch the reset controller's state: one lemma per
operation, so that a row of the release sequence (Table 7.3) is read off its own update. -/

theorem State.forEach_seq {f : State → Nat → State} (hf : ∀ s k, (f s k).seq = s.seq) (l : List Nat) (s : State) :
    (s.forEach l f).seq = s.seq :=
  State.forEach_rel (R := fun s t => t.seq = s.seq) (fun _ => rfl) (fun _ _ _ h1 h2 => h2.trans h1) f hf l s

theorem State.foldl_seq {α : Type} {f : State → α → State} (hf : ∀ s a, (f s a).seq = s.seq) (l : List α) (s : State) :
    (l.foldl f s).seq = s.seq :=
  List.foldlRecOn (motive := fun t : State => t.seq = s.seq) l f rfl fun t ht a _ => (hf t a).trans ht

section

variable (s : State)

/-! ## Fuse units (R302 to R317) -/

@[simp] theorem State.fuseFault_seq (code d row : Nat) : (s.fuseFault code d row).seq = s.seq := s.report_seq _ _ _

@[simp] theorem State.setRegion_seq (k v : Nat) : (s.setRegion k v).seq = s.seq := rfl

@[simp] theorem State.showSpares_seq : s.showSpares.seq = s.seq := rfl

@[simp] theorem State.degrade_seq (k : Nat) (c : Bool) : (s.degrade k c).seq = s.seq := by
  simp [State.degrade, apply_ite State.seq]

@[simp] theorem State.voteFaults_seq (v : Vote) (row : Nat) : (s.voteFaults v row).seq = s.seq := by
  simp [State.voteFaults, apply_ite State.seq]

@[simp] theorem State.loadRevoked_seq : s.loadRevoked.seq = s.seq := by
  rw [State.loadRevoked, State.degrade_seq, State.setF_seq, State.voteFaults_seq]

@[simp] theorem State.loadRollback_seq : s.loadRollback.seq = s.seq := by
  rw [State.loadRollback, State.degrade_seq, State.setF_seq, State.voteFaults_seq]

@[simp] theorem State.loadTamper_seq : s.loadTamper.seq = s.seq := by
  rw [State.loadTamper, State.degrade_seq, State.setF_seq, State.voteFaults_seq]

@[simp] theorem State.loadLc_seq : s.loadLc.seq = s.seq := by simp [State.loadLc]

@[simp] theorem State.tableCheck_seq (d : Nat) : (s.tableCheck d).seq = s.seq := by
  simp [State.tableCheck, apply_ite State.seq]

@[simp] theorem State.checkTrim_seq (d : Nat) : (s.checkTrim d).seq = s.seq := by
  simp [State.checkTrim, apply_ite State.seq]

@[simp] theorem State.fuseStart_seq : s.fuseStart.seq = s.seq := by
  unfold State.fuseStart
  dsimp only
  rw [State.forEach_seq fun t d => t.checkTrim_seq d, State.loadLc_seq, State.showSpares_seq,
    State.forEach_seq fun t d => t.tableCheck_seq d]

/-! ## The folio and the burn of a tamper fuse (R317, R418) -/

@[simp] theorem State.append_seq (typ : Nat) (body : List Byte) : (s.append typ body).seq = s.seq :=
  State.append_keeps (P := fun t => t.seq = s.seq) (fun _ _ h => h) (fun _ _ _ _ h => h) (fun t h => (t.report_seq _ _ _).trans h)
    rfl typ body

@[simp] theorem State.burnEnds_seq (kind : Nat) : (s.burnEnds kind).seq = s.seq := by
  unfold State.burnEnds
  split <;> simp [apply_ite State.seq]

@[simp] theorem State.fuseEnds_seq (result : Nat) : (s.fuseEnds result).seq = s.seq := by
  unfold State.fuseEnds
  split <;> simp [apply_ite State.seq]

@[simp] theorem State.fuseFinish_seq (x : FuseRun) : (s.fuseFinish x).seq = s.seq := by
  unfold State.fuseFinish
  split <;> simp [apply_ite State.seq]

@[simp] theorem State.fuseGo_seq : s.fuseGo.seq = s.seq := by
  unfold State.fuseGo
  split
  · rfl
  · simp [apply_ite State.seq, State.foldl_seq fun t (x : FuseTask) => t.fuseFault_seq 0x9008 x.die x.row]

@[simp] theorem State.fuseStartRun_seq (x : FuseRun) : (s.fuseStartRun x).seq = s.seq := by
  simp [State.fuseStartRun, apply_ite State.seq]

@[simp] theorem State.tamperGo_seq : s.tamperGo.seq = s.seq := by
  unfold State.tamperGo
  split <;> simp [apply_ite State.seq]

@[simp] theorem State.tamperStart_seq (k : Nat) : (s.tamperStart k).seq = s.seq := by
  simp [State.tamperStart, apply_ite State.seq]

/-! ## Responses of the guard (R406 to R412) -/

@[simp] theorem State.fire_seq (k : Nat) : (s.fire k).seq = s.seq := by simp [State.fire, apply_ite State.seq]

@[simp] theorem State.psnsAtRelease_seq : s.psnsAtRelease.seq = s.seq :=
  State.forEach_seq (fun t p => by simp [apply_ite State.seq]) _ s

@[simp] theorem State.guardRecord_seq (k merged : Nat) : (s.guardRecord k merged).seq = s.seq := s.append_seq _ _

@[simp] theorem State.sourceTake_seq (k : Nat) : (s.sourceTake k).1.seq = s.seq := by
  simp [State.sourceTake, apply_ite Prod.fst, apply_ite State.seq]

@[simp] theorem State.mark_seq (mask : Nat) : (s.mark mask).seq = s.seq := rfl

@[simp] theorem State.holdAll_seq : s.holdAll.seq = s.seq := by
  rw [State.holdAll, State.mark_seq, State.forEach_seq fun t k => t.setFlag_seq _ k _]

@[simp] theorem State.lockdown_seq (cause : Nat) : (s.lockdown cause).seq = s.seq := by
  simp [State.lockdown, apply_ite State.seq]

@[simp] theorem State.putBytes_seq (n : RegName) (i words : Nat) (b : List Byte) : (s.putBytes n i words b).seq = s.seq :=
  State.forEach_seq (fun t _ => t.wr_seq _ _ _) _ s

@[simp] theorem State.showKeys_seq : s.showKeys.seq = s.seq := by
  unfold State.showKeys
  dsimp only
  split <;> simp [apply_ite State.seq]

@[simp] theorem State.zeroise_seq : s.zeroise.seq = s.seq := State.showKeys_seq _

@[simp] theorem State.markAll_seq : s.markAll.seq = s.seq := rfl

@[simp] theorem State.guardRespond_seq (k r : Nat) : (s.guardRespond k r).seq = s.seq := by
  simp [State.guardRespond, apply_ite State.seq]

@[simp] theorem State.guardTake_seq (l : List Nat) : (s.guardTake l).seq = s.seq := by
  unfold State.guardTake
  rw [State.guardRespond_seq]
  exact List.foldlRecOn (motive := fun a : State × Nat × Nat => a.1.seq = s.seq) l _ rfl fun a ha k _ =>
    (a.1.sourceTake_seq k).trans ha

@[simp] theorem State.takeLatched_seq (l : List Nat) : (s.takeLatched l).seq = s.seq := State.guardTake_seq _ _

/-! ## The hash pool (R219 to R222) -/

@[simp] theorem State.bump_seq (n : RegName) (i : Nat) : (s.bump n i).seq = s.seq := by
  simp [State.bump, apply_ite State.seq]

@[simp] theorem State.newGen_seq (d : Nat) : (s.newGen d).seq = s.seq := by simp [State.newGen, apply_ite State.seq]

@[simp] theorem State.sendFence_seq (d e : Nat) : (s.sendFence d e).seq = s.seq := by
  simp [State.sendFence, apply_ite State.seq]

@[simp] theorem State.setJob_seq (j k : Job) : (s.setJob j k).seq = s.seq := rfl

@[simp] theorem State.placeJob_seq (d n g gen : Nat) : (s.placeJob d n g gen).2.2.seq = s.seq := by
  unfold State.placeJob
  dsimp only
  split
  · rfl
  · simp

@[simp] theorem State.replaceJob_seq (j : Job) : (s.replaceJob j).seq = s.seq := by
  simp [State.replaceJob, apply_ite State.seq]

@[simp] theorem State.replaceAll_seq (l : List Job) : (s.replaceAll l).seq = s.seq :=
  State.foldl_seq (fun t j => t.replaceJob_seq j) l s

@[simp] theorem State.laneOut_seq (d lane : Nat) : (s.laneOut d lane).seq = s.seq := by
  simp [State.laneOut, apply_ite State.seq]

@[simp] theorem State.laneKat_seq (d lane : Nat) (pass : Bool) : (s.laneKat d lane pass).seq = s.seq := by
  simp [State.laneKat, apply_ite State.seq]

@[simp] theorem State.agreeTransport_seq (d : Nat) : (s.agreeTransport d).seq = s.seq := by simp [State.agreeTransport]

end

end Sys2Proof.Machine

namespace Sys2Proof.Machine

/-! # The release of a held part (R231 to R234, Table 7.3) -/

theorem State.sequencing_of_running {s : State} (h : s.seq.frozen = false) : s.sequencing = true := by
  simp [State.sequencing, h]

theorem State.atRow_of_running {s : State} {c : Nat} (h : s.seq.phase = .rel c) (hf : s.seq.frozen = false) : s.atRow c = true := by
  simp [State.atRow, h, State.sequencing_of_running hf]

theorem mem_eq_true {x : Nat} {l : List Nat} (h : x ∈ l) : mem x l = true := by simpa [mem] using h

/-! ## The end of the hold (R231) -/

theorem exec_holdEnd_moves {s : State} (hp : s.seq.phase = .hold) (hf : s.seq.frozen = false) (hl : s.seq.levels = [])
    (hb : s.seq.badSupplies = []) (hc : s.seq.refclkLost = false) :
    exec .holdEnd s = .next (s.modSeq fun q => { q with phase := .rel 25 }) :=
  congrArg Host.Outcome.next (s.when_of _ _ (by simp [hp, State.sequencing_of_running hf, hl, hb, hc]))

theorem exec_holdEnd_waits {s : State} (h : s.seq.levels ≠ [] ∨ s.seq.badSupplies ≠ []) : exec .holdEnd s = .next s :=
  congrArg Host.Outcome.next (s.when_off (by
    obtain h | h := h <;> simp [h]))

/-! ## Count 25 (R232, R233) -/

theorem exec_pllRetry_one {d : DieId} {s : State} (hp : s.seq.phase = .rel 25) (hf : s.seq.frozen = false)
    (hd : d.val ∈ s.scopeDies) : exec (.pllRetry [d]) s =
      .next (((s.setFlag Fld.RC_CAUSE_PLL_RETRY 0 true).modSeq fun q => { q with pll := true }).setF
        { reg := .RC_CLK, lo := d.val, width := 1 } 0 0) := by
  have hone : ([d].map fun d => d.val).filter (fun d => mem d s.scopeDies) = [d.val] :=
    List.filter_cons_of_pos (mem_eq_true hd)
  refine congrArg Host.Outcome.next ?_
  dsimp only
  rw [hone]
  exact s.when_of _ _ (by simp [State.atRow_of_running hp hf])

theorem exec_releaseFuse_part {s : State} (hp : s.seq.phase = .rel 25) (hf : s.seq.frozen = false) (hpart : s.seq.part = true) :
    RunsTo .releaseFuse s fun t => t.seq.phase = .rel 1300 ∧ t.seq.platReset = false ∧ t.seq.hifReset = s.seq.hifReset := by
  refine ⟨_, congrArg Host.Outcome.next (s.when_of _ _ (by rw [State.atRow_of_running hp hf, hpart]; rfl)), ?_⟩
  have hclk := State.forEach_seq (fun t d => t.setF_seq { reg := .RC_CLK, lo := d, width := 1 } 0 1)
    (s.toRow 1300).scopeDies (s.toRow 1300)
  dsimp only
  generalize (s.toRow 1300).forEach (s.toRow 1300).scopeDies _ = u at hclk
  rw [if_pos (by rw [hclk]; exact hpart), State.takeLatched_seq, State.psnsAtRelease_seq, State.fuseStart_seq, State.modSeq_seq, hclk]
  exact ⟨rfl, rfl, rfl⟩

/-! ## The hops (R232) -/

/-- Both hops of die d show up. -/
structure State.HopsUp (s : State) (d : Nat) : Prop where
  up : s.flag Fld.FB_STATUS_UP_OK d = true
  dn : s.flag Fld.FB_STATUS_DN_OK d = true

/-- To set a flag clears none of those that share no bit with it, nor itself. -/
theorem State.flag_kept_of_set {s : State} {f g : Field} {i j : Nat} (hf : f.fits) (hw : f.width ≠ 0)
    (h : g = f ∨ g.lo + g.width ≤ f.lo ∨ f.lo + f.width ≤ g.lo) (hg : s.flag g j = true) : (s.setFlag f i true).flag g j = true := by
  obtain rfl | h := h
  · by_cases hij : j = i
    · rw [hij, State.flag_setFlag_same _ _ _ _ hf hw]
    · rw [State.flag, State.setFlag, State.getF_setF_other _ _ _ _ _ _ hf (.inr (.inl hij))]
      exact hg
  · rw [State.flag_setFlag_apart _ _ _ _ _ _ hf (.inr h)]
    exact hg

theorem State.HopsUp.setUp {s : State} {d : Nat} (h : s.HopsUp d) (e : Nat) : (s.setFlag Fld.FB_STATUS_UP_OK e true).HopsUp d :=
  ⟨State.flag_kept_of_set (by decide) (by decide) (by decide) h.up, State.flag_kept_of_set (by decide) (by decide) (by decide) h.dn⟩

theorem State.HopsUp.setDn {s : State} {d : Nat} (h : s.HopsUp d) (e : Nat) : (s.setFlag Fld.FB_STATUS_DN_OK e true).HopsUp d :=
  ⟨State.flag_kept_of_set (by decide) (by decide) (by decide) h.up, State.flag_kept_of_set (by decide) (by decide) (by decide) h.dn⟩

theorem State.hopsOf_up (s : State) (d : Nat) : (s.hopsOf d true).HopsUp d := by
  have hboth : ((s.setFlag Fld.FB_STATUS_UP_OK d true).setFlag Fld.FB_STATUS_DN_OK d true).HopsUp d :=
    ⟨State.flag_kept_of_set (by decide) (by decide) (by decide) (State.flag_setFlag_same _ _ _ _ (by decide) (by decide)),
      State.flag_setFlag_same _ _ _ _ (by decide) (by decide)⟩
  exact (hboth.setDn _).setUp _

theorem State.HopsUp.hopsOf {s : State} {d : Nat} (h : s.HopsUp d) (e : Nat) : (s.hopsOf e true).HopsUp d :=
  (((h.setUp _).setDn _).setDn _).setUp _

/-- The registers of the hops. -/
def RegName.hops (n : RegName) (_ : Nat) : Bool := decide (n = .FB_STATUS)

theorem State.OnlyRegs.hopsOf {s t : State} (h : s.OnlyRegs t RegName.hops) (d : Nat) (up : Bool) :
    s.OnlyRegs (t.hopsOf d up) RegName.hops :=
  (((h.setFlag rfl).setFlag rfl).setFlag rfl).setFlag rfl

theorem State.forEach_hopsOf_onlyRegs (l : List Nat) (s : State) :
    s.OnlyRegs (s.forEach l fun s d => s.hopsOf d true) RegName.hops :=
  List.foldlRecOn (motive := fun t => s.OnlyRegs t RegName.hops) l _ (.refl s _) fun _ ht d _ => ht.hopsOf d true

theorem State.forEach_hopsOf_up {l : List Nat} {d : Nat} (hd : d ∈ l) (s : State) :
    (s.forEach l fun s d => s.hopsOf d true).HopsUp d :=
  foldl_establishes (inv := fun _ => True) (goal := fun t : State => t.HopsUp d) (f := fun (s : State) d => s.hopsOf d true)
    (fun _ _ _ => trivial) (fun t _ => t.hopsOf_up d) (fun _ e _ h => h.hopsOf e) hd trivial

theorem exec_releaseFabric_trains {s : State} (hp : s.seq.phase = .rel 1300) (hf : s.seq.frozen = false) :
    RunsTo .releaseFabric s fun t => t.seq.phase = .rel 2600 ∧ t.dies = s.dies ∧ t.sram = s.sram ∧
      (∀ d ∈ s.scopeDies, t.flag Fld.FB_STATUS_UP_OK d = true ∧ t.flag Fld.FB_STATUS_DN_OK d = true) ∧
      ∀ n i, n ≠ .FB_STATUS → t.rd n i = s.rd n i := by
  refine ⟨_, congrArg Host.Outcome.next (s.when_of _ _ (State.atRow_of_running hp hf)), ?_⟩
  obtain ⟨hrest, hrd⟩ := (s.toRow 2600).forEach_hopsOf_onlyRegs s.scopeDies
  have hup := fun d (hd : d ∈ s.scopeDies) => State.forEach_hopsOf_up hd (s.toRow 2600)
  generalize (s.toRow 2600).forEach s.scopeDies _ = t at *
  refine ⟨?_, ?_, ?_, fun d hd => ⟨(hup d hd).up, (hup d hd).dn⟩, fun n i hn => hrd n i (decide_eq_false hn)⟩ <;> rw [hrest] <;> rfl

end Sys2Proof.Machine

namespace Sys2Proof.Machine

/-! ## Training (R212, R232) -/

/-- A die that no hop reached at the training deadline. -/
def State.leftUntrained (s : State) (d : Nat) : State :=
  ((((s.hopsOf d false).dieState d 3).modDie d fun x => { x with reachable := false, lossSeen := false }).report 0 0x5003 d).modQueue d
    fun q => { q with unreach := true }

/-- The field of RC_DIE_STATE that shows die d. -/
abbrev stateField (d : Nat) : Field := { reg := .RC_DIE_STATE, lo := 2 * d, width := 2 }

theorem stateField_fits (d : DieId) : (stateField d.val).fits := by
  change 2 * d.val + 2 ≤ 32
  omega

/-- Die d shows unreachable in its state, its queue and RC_DIE_STATE. -/
structure State.ShownLost (s : State) (d : DieId) : Prop where
  reachable : (s.die d.val).reachable = false
  unreach : (s.queue d.val).unreach = true
  state : s.getF (stateField d.val) 0 = 3

theorem State.leftUntrained_seq (s : State) (d : Nat) : (s.leftUntrained d).seq = s.seq := by
  rw [State.leftUntrained, State.modQueue, State.setQueue_seq, State.report_seq]
  rfl

/-- What an untrained die changes of RC_DIE_STATE. -/
theorem State.leftUntrained_getF (s : State) (d e : Nat) :
    (s.leftUntrained d).getF (stateField e) 0 = ((s.hopsOf d false).dieState d 3).getF (stateField e) 0 := by
  have hrd : (s.leftUntrained d).rd .RC_DIE_STATE 0 = ((s.hopsOf d false).dieState d 3).rd .RC_DIE_STATE 0 :=
    (State.report_rd_plain _ 0 0x5003 d .RC_DIE_STATE 0 rfl (by decide))
  exact congrArg (fun w : Word => bitsOf w.toNat (2 * e) 2) hrd

theorem State.leftUntrained_reachable (s : State) (d e : Nat) : ((s.leftUntrained d).die e).reachable =
    ((s.modDie d fun x => { x with reachable := false, lossSeen := false }).die e).reachable := by
  rw [State.leftUntrained, State.modQueue, State.setQueue_die, State.report_reachable]
  rfl

theorem State.leftUntrained_shown (s : State) (d : DieId) : (s.leftUntrained d.val).ShownLost d where
  reachable := by rw [State.leftUntrained_reachable, State.die_modDie_same]
  unreach := by rw [State.leftUntrained, State.queue_modQueue_same]
  state := by
    rw [State.leftUntrained_getF]
    exact State.dieState_setF _ d (by decide)

theorem State.ShownLost.leftUntrained {s : State} {d : DieId} (h : s.ShownLost d) (e : DieId) : (s.leftUntrained e.val).ShownLost d := by
  by_cases hde : d = e
  · rw [hde]
    exact s.leftUntrained_shown e
  · have hval : d.val ≠ e.val := fun h => hde (Fin.ext h)
    refine ⟨?_, ?_, ?_⟩
    · rw [State.leftUntrained_reachable, State.modDie, State.die_setDie_other _ _ _ _ hval]
      exact h.reachable
    · rw [State.leftUntrained, State.modQueue, State.setQueue, State.queue, Tbl.get_set_other _ _ _ _ _ hval, State.report_queues]
      exact h.unreach
    · have hapart : (stateField d.val).lo + (stateField d.val).width ≤ (stateField e.val).lo ∨
          (stateField e.val).lo + (stateField e.val).width ≤ (stateField d.val).lo := by
        change 2 * d.val + 2 ≤ 2 * e.val ∨ 2 * e.val + 2 ≤ 2 * d.val
        omega
      rw [State.leftUntrained_getF, State.dieState, State.getF_setF_apart _ _ _ _ _ _ (stateField_fits e) (.inr hapart)]
      have hhops := ((State.OnlyRegs.refl s RegName.hops).hopsOf e.val false).2 .RC_DIE_STATE 0 rfl
      exact (congrArg (fun w : Word => bitsOf w.toNat (2 * d.val) 2) hhops).trans h.state

/-- The dies of a sequence that are not reached, die 0 never being one. -/
def State.untrainedOf (s : State) (l : List DieId) : List DieId :=
  l.filter ((fun d => decide (d ≠ 0) && mem d s.scopeDies) ∘ fun d : DieId => d.val)

theorem exec_trainingDeadline (l : List DieId) {s : State} (hp : s.seq.phase = .rel 2600) (hf : s.seq.frozen = false) :
    exec (.trainingDeadline l) s =
      .next ((((s.toRow 2850).modSeq fun q => { q with untrained := (s.untrainedOf l).map fun d => d.val })).forEach
        ((s.untrainedOf l).map fun d => d.val) State.leftUntrained) := by
  refine congrArg Host.Outcome.next ((s.when_of _ _ (State.atRow_of_running hp hf)).trans ?_)
  dsimp only
  rw [List.filter_map]
  rfl

theorem State.forEach_leftUntrained_shown {l : List DieId} {d : DieId} (hd : d ∈ l) (s : State) :
    (s.forEach (l.map fun d => d.val) State.leftUntrained).ShownLost d := by
  rw [State.forEach, List.foldl_map]
  exact foldl_establishes (inv := fun _ => True) (goal := fun t : State => t.ShownLost d)
    (f := fun (s : State) (e : DieId) => s.leftUntrained e.val) (fun _ _ _ => trivial) (fun t _ => t.leftUntrained_shown d) (fun _ e _ h => h.leftUntrained e) hd trivial

theorem exec_trainingDeadline_lost {l : List DieId} {d : DieId} {s : State} (hp : s.seq.phase = .rel 2600)
    (hf : s.seq.frozen = false) (hl : d ∈ l) (h0 : d.val ≠ 0) (hd : d.val ∈ s.scopeDies) :
    RunsTo (.trainingDeadline l) s fun t => t.seq.phase = .rel 2850 ∧ d.val ∈ t.seq.untrained ∧
      (t.die d.val).reachable = false ∧ (t.queue d.val).unreach = true ∧
      bitsOf (t.rd .RC_DIE_STATE 0).toNat (2 * d.val) 2 = 3 := by
  have hmem : d ∈ s.untrainedOf l := List.mem_filter.mpr ⟨hl, by simp [h0, mem_eq_true hd]⟩
  have hshown := fun t => State.forEach_leftUntrained_shown hmem t
  refine ⟨_, exec_trainingDeadline l hp hf, ?_, ?_, (hshown _).reachable, (hshown _).unreach, (hshown _).state⟩
  · rw [State.forEach_seq fun t e => t.leftUntrained_seq e]
    rfl
  · rw [State.forEach_seq fun t e => t.leftUntrained_seq e]
    exact List.mem_map_of_mem hmem

theorem exec_trainingDeadline_all {s : State} (hp : s.seq.phase = .rel 2600) (hf : s.seq.frozen = false) :
    RunsTo (.trainingDeadline []) s fun t => t.seq.phase = .rel 2850 ∧ t.seq.untrained = [] ∧ t.dies = s.dies ∧ t.regs = s.regs :=
  ⟨_, exec_trainingDeadline [] hp hf, rfl, rfl, rfl, rfl⟩

/-! ## Hash lanes and key units (R222, R324, R328) -/

/-- The key unit of die d fails its test. -/
def State.keyUnitFails (s : State) (d : Nat) : State :=
  (s.modKeys fun k => { k with bad := if mem d k.bad then k.bad else k.bad ++ [d] }).report 0 0x7002 d

theorem State.keyUnitFails_seq (s : State) (d : Nat) : (s.keyUnitFails d).seq = s.seq := State.report_seq _ _ _ _

theorem State.keyUnitFails_bad (s : State) (d : Nat) :
    (s.keyUnitFails d).keys.bad = if mem d s.keys.bad then s.keys.bad else s.keys.bad ++ [d] :=
  congrArg Keys.bad (State.report_keys _ _ _ _)

theorem State.mem_keyUnitFails (s : State) (d : Nat) : d ∈ (s.keyUnitFails d).keys.bad := by
  rw [State.keyUnitFails_bad]
  split
  case isTrue h => simpa [mem] using h
  case isFalse => exact List.mem_append_right _ (List.mem_singleton_self d)

theorem State.mem_keyUnitFails_of_mem {s : State} {d : Nat} (h : d ∈ s.keys.bad) (e : Nat) : d ∈ (s.keyUnitFails e).keys.bad := by
  rw [State.keyUnitFails_bad]
  split
  · exact h
  · exact List.mem_append_left _ h

theorem State.forEach_keyUnitFails_mem {l : List Nat} {d : Nat} (hd : d ∈ l) (s : State) :
    d ∈ (s.forEach l State.keyUnitFails).keys.bad :=
  foldl_establishes (inv := fun _ => True) (goal := fun t : State => d ∈ t.keys.bad) (f := State.keyUnitFails)
    (fun _ _ _ => trivial) (fun t _ => t.mem_keyUnitFails d) (fun _ e _ h => State.mem_keyUnitFails_of_mem h e) hd trivial

theorem State.agreeTransport_bad (s : State) (d : Nat) : (s.agreeTransport d).keys.bad = s.keys.bad := by
  rw [State.agreeTransport, State.modKeys_keys, State.draw_keys]

theorem State.forEach_agreeTransport_bad (l : List Nat) (s : State) :
    (s.forEach l State.agreeTransport).keys.bad = s.keys.bad :=
  State.forEach_rel (R := fun s t => t.keys.bad = s.keys.bad) (fun _ => rfl) (fun _ _ _ h1 h2 => h2.trans h1) _
    (fun t d => t.agreeTransport_bad d) l s

/-- The lanes of the dies in `ds` test themselves. -/
def State.lanesTested (s : State) (b : List (DieId × Fin 4)) (ds : List Nat) : State :=
  s.forEach ds fun s d => s.forEach (List.range 4) fun s k =>
    s.laneKat d k (!b.any fun x => decide (x.1.val = d) && decide (x.2.val = k))

theorem State.lanesTested_seq (s : State) (b : List (DieId × Fin 4)) (ds : List Nat) : (s.lanesTested b ds).seq = s.seq :=
  State.forEach_seq (fun t d => State.forEach_seq (fun u k => u.laneKat_seq d k _) (List.range 4) t) ds s

/-- The dies whose hash and crypto units are released. -/
def State.trainedDies (s : State) : List Nat := s.scopeDies.filter fun d => !mem d s.seq.untrained

/-- The tests of the lanes and of the key units have run; the units of `l` fail. -/
def State.unitsTested (s : State) (b : List (DieId × Fin 4)) (l : List DieId) : State :=
  ((s.toRow 2900).lanesTested b s.trainedDies).forEach ((l.map fun d => d.val).filter fun d => mem d s.trainedDies) State.keyUnitFails

theorem exec_releaseHashCrypto (b : List (DieId × Fin 4)) (l : List DieId) {s : State} (hp : s.seq.phase = .rel 2850)
    (hf : s.seq.frozen = false) : exec (.releaseHashCrypto b l) s =
      .next (if (s.unitsTested b l).seq.part then
          (s.unitsTested b l).forEach (s.trainedDies.filter fun d => decide (d ≠ 0)) State.agreeTransport
        else s.unitsTested b l) :=
  congrArg Host.Outcome.next (s.when_of _ _ (State.atRow_of_running hp hf))

theorem State.unitsTested_seq (s : State) (b : List (DieId × Fin 4)) (l : List DieId) :
    (s.unitsTested b l).seq = { s.seq with phase := .rel 2900 } := by
  rw [State.unitsTested, State.forEach_seq fun t d => t.keyUnitFails_seq d, State.lanesTested_seq]
  rfl

theorem exec_releaseHashCrypto_bad {b : List (DieId × Fin 4)} {l : List DieId} {d : DieId} {s : State}
    (hp : s.seq.phase = .rel 2850) (hf : s.seq.frozen = false) (hl : d ∈ l) (hd : d.val ∈ s.scopeDies)
    (hu : d.val ∉ s.seq.untrained) :
    RunsTo (.releaseHashCrypto b l) s fun t => t.seq.phase = .rel 2900 ∧ d.val ∈ t.keys.bad := by
  have hds : d.val ∈ s.trainedDies := List.mem_filter.mpr ⟨hd, by simp [mem_eq_false hu]⟩
  have hbad : d.val ∈ (s.unitsTested b l).keys.bad :=
    State.forEach_keyUnitFails_mem (List.mem_filter.mpr ⟨List.mem_map_of_mem hl, mem_eq_true hds⟩) _
  have hseq := s.unitsTested_seq b l
  refine ⟨_, exec_releaseHashCrypto b l hp hf, ?_⟩
  split
  · rw [State.forEach_seq fun t d => t.agreeTransport_seq d, hseq, State.forEach_agreeTransport_bad]
    exact ⟨rfl, hbad⟩
  · rw [hseq]
    exact ⟨rfl, hbad⟩

end Sys2Proof.Machine

namespace Sys2Proof.Machine

/-! ## Settling (R231, R240) -/

/-- From `s` to `t` the sequence may have ended; what waited beside it is deferred from then on. -/
structure Settled (s t : State) : Prop where
  rest : t = { s with seq := t.seq }
  cut : t.seq.cut = s.seq.cut
  pll : t.seq.pll = s.seq.pll
  hifReset : t.seq.hifReset = s.seq.hifReset
  rlvReset : t.seq.rlvReset = s.seq.rlvReset
  clk : s.seq.next = none → s.seq.clk = false → t.seq.clk = false
  wdt : s.seq.next = none → s.seq.wdt = [] → t.seq.wdt = []

theorem Settled.ite {s t : State} {c : Prop} [Decidable c] (h : Settled s t) : Settled s (if c then t else s) := by
  split
  · exact h
  · exact ⟨rfl, rfl, rfl, rfl, rfl, fun _ h => h, fun _ h => h⟩

/-- The sequence has ended. -/
def Seq.ended (q : Seq) : Seq :=
  let x := q.next.getD SeqScope.none
  { q.withScope { x with levels := q.levels ++ x.levels } with
    phase := if q.next.isSome then .deferred else .run, por := false, next := none }

theorem State.settle_settled (s : State) : Settled s s.settle := by
  have hended : Settled s (s.modSeq Seq.ended) := by
    refine ⟨rfl, rfl, rfl, rfl, rfl, fun hn _ => ?_, fun hn _ => ?_⟩ <;> rw [State.modSeq_seq, Seq.ended, hn] <;> rfl
  exact .ite hended

namespace Settled

variable {s t : State} (h : Settled s t)
include h

theorem core (d k : Nat) : t.core d k = s.core d k := by rw [h.rest]; rfl

theorem die (d : Nat) : t.die d = s.die d := by rw [h.rest]; rfl

theorem rd (n : RegName) (i : Nat) : t.rd n i = s.rd n i := by rw [h.rest]; rfl

end Settled

/-! ## The faults of the last sequence (R233, R239, R241, R242) -/

/-- From `s` to `t` faults have been reported. -/
structure Reported (s t : State) : Prop where
  seq : t.seq = s.seq
  core : ∀ d k, t.core d k = s.core d k
  rd : ∀ n i, n.counts = false → n ∉ faultRegs → t.rd n i = s.rd n i
  bits : ∀ n i b, n.counts = false → bitOf (s.rd n i).toNat b = true → bitOf (t.rd n i).toNat b = true

namespace Reported

variable {s t u : State}

theorem refl (s : State) : Reported s s := ⟨rfl, fun _ _ => rfl, fun _ _ _ _ => rfl, fun _ _ _ _ h => h⟩

theorem trans (h1 : Reported s t) (h2 : Reported t u) : Reported s u where
  seq := h2.seq.trans h1.seq
  core d k := (h2.core d k).trans (h1.core d k)
  rd n i hc hf := (h2.rd n i hc hf).trans (h1.rd n i hc hf)
  bits n i b hc hb := h2.bits n i b hc (h1.bits n i b hc hb)

theorem report (s : State) (d code source : Nat) : Reported s (s.report d code source) where
  seq := s.report_seq _ _ _
  core e k := by
    by_cases h : e = d
    · rw [h, State.core, State.report_die, State.core]
    · rw [State.core, State.report_die_other _ _ _ _ _ h, State.core]
  rd n i hc hf := s.report_rd_plain d code source n i hc hf
  bits n i b hc hb := s.report_keepsBits d code source n i b hc hb

theorem ite_report (s : State) (c : Prop) [Decidable c] (d code source : Nat) :
    Reported s (if c then s.report d code source else s) := by
  split
  · exact report s d code source
  · exact refl s

theorem forEach_report (s : State) (l : List Nat) (d code : Nat) : Reported s (s.forEach l fun s x => s.report d code x) :=
  State.forEach_rel (R := Reported) refl (fun _ _ _ => trans) _ (fun t x => report t d code x) l s

end Reported

/-- Nothing of the last sequence is left to report. -/
def Seq.reported (q : Seq) : Seq := { q with cut := false, pll := false, clk := false, wdt := [] }

/-- 0xA002 and 0xA003 of the last sequence, where it has them. -/
def State.cutAndPllFaults (s : State) : State :=
  let t := if s.seq.cut then s.report 0 0xA002 (openSource 0xA002) else s
  if s.seq.pll then t.report 0 0xA003 (openSource 0xA003) else t

/-- 0xA004 and 0xA005 of a sequence. -/
def State.clockAndWatchdogFaults (s : State) (q : Seq) : State :=
  (if q.clk then s.report 0 0xA004 (openSource 0xA004) else s).forEach q.wdt fun s x => s.report 0 0xA005 x

theorem State.sequenceFaults_eq (s : State) :
    s.sequenceFaults = (s.cutAndPllFaults.clockAndWatchdogFaults s.seq).modSeq Seq.reported := rfl

theorem State.cutAndPllFaults_reported (s : State) : Reported s s.cutAndPllFaults :=
  (Reported.ite_report s _ 0 0xA002 _).trans (.ite_report _ _ 0 0xA003 _)

theorem State.clockAndWatchdogFaults_reported (s : State) (q : Seq) : Reported s (s.clockAndWatchdogFaults q) :=
  (Reported.ite_report s _ 0 0xA004 _).trans (.forEach_report _ _ 0 0xA005)

theorem State.cutAndPllFaults_pll {s : State} (h : s.seq.pll = true) : bitOf (s.cutAndPllFaults.rd .RC_FAULT 0).toNat 2 = true := by
  unfold State.cutAndPllFaults
  dsimp only
  rw [if_pos h, State.report_bit _ 0 0xA003 _ .RC_FAULT 0 2 rfl rfl, bitOf, BitVec.toNat_or, Nat.testBit_or]
  exact Bool.or_true _

/-- The faults are reported, and the sequence may end. -/
structure FaultsTold (s t : State) : Prop where
  cut : t.seq.cut = false
  pll : t.seq.pll = false
  core : ∀ d k, t.core d k = s.core d k
  getF : ∀ f i, f.reg.counts = false → f.reg ∉ faultRegs → t.getF f i = s.getF f i
  pllBit : s.seq.pll = true → bitOf (t.rd .RC_FAULT 0).toNat 2 = true
  clk : s.seq.next = none → t.seq.clk = false
  wdt : s.seq.next = none → t.seq.wdt = []

theorem State.sequenceFaults_told (s : State) : FaultsTold s s.sequenceFaults.settle := by
  have hlast := s.cutAndPllFaults.clockAndWatchdogFaults_reported s.seq
  have hall : Reported s (s.cutAndPllFaults.clockAndWatchdogFaults s.seq) := s.cutAndPllFaults_reported.trans hlast
  have hset := s.sequenceFaults.settle_settled
  have hnext : s.sequenceFaults.seq.next = s.seq.next := by
    rw [State.sequenceFaults_eq, State.modSeq_seq, hall.seq]
    rfl
  exact {
    cut := hset.cut
    pll := hset.pll
    core := fun d k => (hset.core d k).trans (hall.core d k)
    getF := fun f i hc hf => congrArg (fun w : Word => bitsOf w.toNat f.lo f.width) ((hset.rd _ i).trans (hall.rd _ i hc hf))
    pllBit := fun h => by
      rw [hset.rd]
      exact hlast.bits _ _ _ rfl (State.cutAndPllFaults_pll h)
    clk := fun h => hset.clk (hnext.trans h) rfl
    wdt := fun h => hset.wdt (hnext.trans h) rfl }

/-! ## Count 3,000 (R232, R286, R287) -/

theorem State.core_modCore_same (s : State) (d k : Nat) (f : SentryCore → SentryCore) :
    (s.modCore d k f).core d k = f (s.core d k) := by
  rw [State.core, State.modCore, State.die_modDie_same, Tbl.get_set_same]
  rfl

/-- Core 0 of die 0 runs from a start address that the spec leaves free. -/
def State.romStarted (s : State) : State :=
  (s.coreRelease 0 0).fresh.2.modCore 0 0 fun c => { c with pc := (s.coreRelease 0 0).fresh.1 }

theorem State.romStarted_running (s : State) : (s.romStarted.core 0 0).running = true := by
  have hrel : ((s.coreRelease 0 0).core 0 0).running = true := by rw [State.coreRelease, State.core_modCore_same]
  rw [State.romStarted, State.core_modCore_same]
  exact hrel

theorem State.coreRelease_rd (s : State) (d k : Nat) {n : RegName} (hrel : n ≠ .SN_CORE_RELEASE) (hwdt : n ≠ .SN_WDT) (i : Nat) :
    (s.coreRelease d k).rd n i = s.rd n i := by
  unfold State.coreRelease
  dsimp only
  rw [State.modCore, State.modDie_rd]
  split
  · rw [State.rd_setF _ _ _ _ _ _ hrel, State.rd_setFlag _ _ _ _ _ _ hwdt, State.orR, State.rd_wr_name _ _ _ _ _ _ hrel]
  · rw [State.rd_setFlag _ _ _ _ _ _ hwdt, State.orR, State.rd_wr_name _ _ _ _ _ _ hrel]

theorem State.coreRelease_seq (s : State) (d k : Nat) : (s.coreRelease d k).seq = s.seq := by
  simp [State.coreRelease, State.modCore, apply_ite State.seq]

theorem State.romStarted_seq (s : State) : s.romStarted.seq = s.seq := s.coreRelease_seq 0 0

theorem State.romStarted_getF (s : State) : s.romStarted.getF Fld.RC_COUNT_PART 0 = s.getF Fld.RC_COUNT_PART 0 :=
  congrArg (fun w : Word => bitsOf w.toNat _ _) (s.coreRelease_rd 0 0 (n := .RC_COUNT) (by decide) (by decide) 0)

/-- A part sequence starts the mask ROM, and is counted where it is to be. -/
def State.partStarted (s : State) : State :=
  if s.romStarted.seq.counted then
    s.romStarted.setF Fld.RC_COUNT_PART 0 (min (s.romStarted.getF Fld.RC_COUNT_PART 0 + 1) 0xFFFF)
  else s.romStarted

theorem State.partStarted_running (s : State) : (s.partStarted.core 0 0).running = true := by
  unfold State.partStarted
  split <;> exact s.romStarted_running

theorem State.partStarted_seq (s : State) : s.partStarted.seq = s.seq := by
  unfold State.partStarted
  split <;> exact s.romStarted_seq

theorem State.partStarted_count (s : State) : s.partStarted.getF Fld.RC_COUNT_PART 0 =
    if s.seq.counted then min (s.getF Fld.RC_COUNT_PART 0 + 1) 0xFFFF else s.getF Fld.RC_COUNT_PART 0 := by
  unfold State.partStarted
  rw [State.romStarted_seq]
  split
  · rw [State.getF_setF_same _ _ _ _ (by decide), State.romStarted_getF]
    exact Nat.mod_eq_of_lt (Nat.lt_of_le_of_lt (Nat.min_le_right _ _) (by decide))
  · exact s.romStarted_getF

theorem exec_releaseSentry {s : State} (hp : s.seq.phase = .rel 2900) (hf : s.seq.frozen = false) : exec .releaseSentry s =
    .next ((if (s.toRow 3000).seq.part then (s.toRow 3000).partStarted else s.toRow 3000).sequenceFaults.settle) :=
  congrArg Host.Outcome.next (s.when_of _ _ (State.atRow_of_running hp hf))

theorem exec_releaseSentry_part {s : State} (hp : s.seq.phase = .rel 2900) (hf : s.seq.frozen = false)
    (hpart : s.seq.part = true) (hn : s.seq.next = none) :
    RunsTo .releaseSentry s fun t => (t.core 0 0).running = true ∧ t.seq.cut = false ∧ t.seq.pll = false ∧
      t.seq.clk = false ∧ t.seq.wdt = [] ∧
      t.getF Fld.RC_COUNT_PART 0 = (if s.seq.counted then min (s.getF Fld.RC_COUNT_PART 0 + 1) 0xFFFF
        else s.getF Fld.RC_COUNT_PART 0) := by
  refine ⟨_, exec_releaseSentry hp hf, ?_⟩
  rw [if_pos (show (s.toRow 3000).seq.part = true from hpart)]
  have htold := (s.toRow 3000).partStarted.sequenceFaults_told
  have hnext : (s.toRow 3000).partStarted.seq.next = none := by
    rw [State.partStarted_seq]
    exact hn
  refine ⟨?_, htold.cut, htold.pll, htold.clk hnext, htold.wdt hnext, ?_⟩
  · rw [htold.core]
    exact State.partStarted_running _
  · exact (htold.getF Fld.RC_COUNT_PART 0 rfl (by decide)).trans (State.partStarted_count _)

theorem exec_releaseSentry_dies {s : State} (hp : s.seq.phase = .rel 2900) (hf : s.seq.frozen = false)
    (hpart : s.seq.part = false) (hpll : s.seq.pll = true) :
    RunsTo .releaseSentry s fun t => t.core 0 0 = s.core 0 0 ∧ t.seq.pll = false ∧ bitOf (t.rd .RC_FAULT 0).toNat 2 = true ∧
      t.getF Fld.RC_COUNT_PART 0 = s.getF Fld.RC_COUNT_PART 0 := by
  refine ⟨_, exec_releaseSentry hp hf, ?_⟩
  rw [if_neg (show ¬ (s.toRow 3000).seq.part = true from Bool.eq_false_iff.mp hpart)]
  have htold := (s.toRow 3000).sequenceFaults_told
  exact ⟨htold.core 0 0, htold.pll, htold.pllBit hpll, htold.getF Fld.RC_COUNT_PART 0 rfl (by decide)⟩

/-! ## The dies, HIF and RLV (R24, R232, R234) -/

/-- The registers in which the key unit of die 0 shows its keys. -/
def RegName.keyUnit (n : RegName) (_ : Nat) : Bool :=
  match n with
  | .KU_STATUS | .KU_DEVID | .KU_DEVIDM => true
  | _ => false

theorem State.OnlyRegs.putBytes {s t : State} (h : s.OnlyRegs t RegName.keyUnit) {n : RegName} {i words : Nat} {b : List Byte}
    (hn : n.keyUnit 0 = true) : s.OnlyRegs (t.putBytes n i words b) RegName.keyUnit :=
  List.foldlRecOn (motive := fun u => s.OnlyRegs u RegName.keyUnit) _ _ h fun _ hu _ _ => hu.wr hn

theorem State.showKeys_onlyRegs (s : State) : s.OnlyRegs s.showKeys RegName.keyUnit := by
  have hflags : s.OnlyRegs ((s.setFlag Fld.KU_STATUS_IDENTITY 0 s.identity).setFlag Fld.KU_STATUS_STANDBY_OK 0 s.keys.holds1)
      RegName.keyUnit := ((State.OnlyRegs.refl s _).setFlag rfl).setFlag rfl
  unfold State.showKeys
  dsimp only
  split
  · split
    · exact (hflags.putBytes rfl).putBytes rfl
    · exact (hflags.putBytes rfl).putBytes rfl
  · exact (hflags.putBytes rfl).putBytes rfl

theorem State.showKeys_die (s : State) (d : Nat) : s.showKeys.die d = s.die d := by
  rw [s.showKeys_onlyRegs.1]
  rfl

theorem State.agreeTransport_die (s : State) (d e : Nat) : (s.agreeTransport d).die e = s.die e := by
  rw [State.agreeTransport, State.modKeys_die, State.draw_die]

theorem State.agreeTransport_rd (s : State) (d : Nat) (n : RegName) (i : Nat) : (s.agreeTransport d).rd n i = s.rd n i := by
  rw [State.agreeTransport, State.modKeys_rd, State.draw_rd]

theorem State.dieReturns_die (s : State) (d e : Nat) : (s.dieReturns d).die e = s.die e := by
  unfold State.dieReturns
  dsimp only
  split
  · exact State.agreeTransport_die _ d e
  · rw [State.showKeys_die, State.modKeys_die]
    exact State.agreeTransport_die _ d e

theorem State.dieReturns_dieState (s : State) (d : Nat) : (s.dieReturns d).rd .RC_DIE_STATE 0 = s.rd .RC_DIE_STATE 0 := by
  unfold State.dieReturns
  dsimp only
  split
  · exact State.agreeTransport_rd _ d _ 0
  · rw [(State.showKeys_onlyRegs _).2 .RC_DIE_STATE 0 rfl, State.modKeys_rd]
    exact State.agreeTransport_rd _ d _ 0

/-- Die d is back. -/
def State.dieBack (s : State) (d : Nat) : State :=
  (s.modDie d fun x => { x with inReset := false, reachable := true, lossSeen := false, lostGates := none }).dieState d 2

theorem exec_releaseDie {d : DieId} {s : State} (hd : d.val ∈ s.scopeDies) (hr : (s.die d.val).inReset = true)
    (hu : d.val ∉ s.seq.untrained) (hrow : s.pastRow 3000 = true) (hb : s.diesBefore d.val = true) : exec (.releaseDie d) s =
      .next (if (s.dieBack d.val).seq.part then s.dieBack d.val else (s.dieBack d.val).dieReturns d.val).settle :=
  congrArg Host.Outcome.next (s.when_of _ _ (by simp [mem_eq_true hd, hr, mem_eq_false hu, hrow, hb]))

theorem exec_releaseDie_back {d : DieId} {s : State} (hd : d.val ∈ s.scopeDies) (hr : (s.die d.val).inReset = true)
    (hu : d.val ∉ s.seq.untrained) (hrow : s.pastRow 3000 = true) (hb : s.diesBefore d.val = true) :
    RunsTo (.releaseDie d) s fun t => (t.die d.val).inReset = false ∧ (t.die d.val).reachable = true ∧
      bitsOf (t.rd .RC_DIE_STATE 0).toNat (2 * d.val) 2 = 2 := by
  refine ⟨_, exec_releaseDie hd hr hu hrow hb, ?_⟩
  have hset := (if (s.dieBack d.val).seq.part then s.dieBack d.val else (s.dieBack d.val).dieReturns d.val).settle_settled
  have hdie : (s.dieBack d.val).die d.val =
      { s.die d.val with inReset := false, reachable := true, lossSeen := false, lostGates := none } := by
    rw [State.dieBack, State.dieState, State.setF_die, State.die_modDie_same]
  have hstate : bitsOf ((s.dieBack d.val).rd .RC_DIE_STATE 0).toNat (2 * d.val) 2 = 2 := State.dieState_setF _ d (by decide)
  dsimp only
  rw [hset.die, hset.rd]
  split
  · rw [hdie]
    exact ⟨rfl, rfl, hstate⟩
  · rw [State.dieReturns_die, State.dieReturns_dieState, hdie]
    exact ⟨rfl, rfl, hstate⟩

theorem exec_releaseHif_out {s : State} (hr : s.seq.hifReset = true) (hrow : s.pastSentry = true) (hb : s.diesBefore s.nDies = true) :
    RunsTo .releaseHif s fun t => t.seq.hifReset = false ∧ t = { s with seq := t.seq } := by
  refine ⟨_, congrArg Host.Outcome.next (s.when_of _ _ (by rw [hr, hrow, hb]; rfl)), ?_⟩
  have hset := (s.modSeq fun q => { q with hifReset := false }).settle_settled
  exact ⟨hset.hifReset, hset.rest⟩

theorem exec_releaseRlv_out {s : State} (hr : s.seq.rlvReset = true) (hh : s.seq.hifReset = false) (hrow : s.pastRow 3000 = true) :
    RunsTo .releaseRlv s fun t => t.seq.rlvReset = false ∧ t = { s with seq := t.seq } := by
  refine ⟨_, congrArg Host.Outcome.next (s.when_of _ _ (by rw [hr, hrow, hh]; rfl)), ?_⟩
  have hset := (s.modSeq fun q => { q with rlvReset := false }).settle_settled
  exact ⟨hset.rlvReset, hset.rest⟩

theorem exec_pcieLinkUp_shown (a b : Nat) {s : State} (hl : s.hifLive = true) (hp : s.seq.perstN = false) :
    exec (.pcieLinkUp a b) s = .next (((s.setFlag Fld.HI_STATUS_LINK_UP 0 true).setF Fld.HI_STATUS_SPEED 0 a).setF
      Fld.HI_STATUS_WIDTH 0 b) :=
  congrArg Host.Outcome.next (s.when_of _ _ (by rw [hl, hp]; rfl))

/-- Settles O26: each row of Table 7.3 by the update of its own instruction, with what it leaves alone read off the lemmas on
the reset controller's state. -/
theorem releaseSequence : Obligations.ReleaseSequence := by
  unfold Obligations.ReleaseSequence
  exact ⟨fun s hp hf hl hb hc => exec_holdEnd_moves hp hf hl hb hc, fun s _ h => exec_holdEnd_waits h,
    fun d s hp hf hd => exec_pllRetry_one hp hf hd, fun s hp hf hpart => exec_releaseFuse_part hp hf hpart,
    fun s hp hf => exec_releaseFabric_trains hp hf, fun l d s hp hf hl h0 hd => exec_trainingDeadline_lost hp hf hl h0 hd,
    fun s hp hf => exec_trainingDeadline_all hp hf, fun b l d s hp hf hl hd hu => exec_releaseHashCrypto_bad hp hf hl hd hu,
    fun s hp hf hpart hn => exec_releaseSentry_part hp hf hpart hn,
    fun s hp hf hpart hpll => exec_releaseSentry_dies hp hf hpart hpll,
    fun d s hd hr hu hrow hb => exec_releaseDie_back hd hr hu hrow hb, fun s hr hrow hb => exec_releaseHif_out hr hrow hb,
    fun s hr hh hrow => exec_releaseRlv_out hr hh hrow, fun a b s hl hp => exec_pcieLinkUp_shown a b hl hp⟩

end Sys2Proof.Machine

namespace Sys2Proof.Machine

/-! # The sentry cores (R286 to R288) -/

/-! ## The release of a core (R286, R298) -/

/-- A released core waits for the copy of its die. -/
def State.corePends (s : State) (d k : Nat) : State :=
  s.setF Fld.SN_CORE_RELEASE_PENDING d (s.getF Fld.SN_CORE_RELEASE_PENDING d ||| 2 ^ k)

/-- The release of core k of die d is asked for: it starts, or it waits. -/
def State.releaseAsked (s : State) (d k : Nat) : State :=
  if bitOf (s.getF Fld.BT_STATUS_DIE_DONE 0) d then s.coreRelease d k else s.corePends d k

theorem State.writeCoreRelease_die0 {req : Requester} (h : fromDie0 req = true) (s : State) (d : Nat) (v : Word) :
    s.writeCoreRelease req d v =
      s.forEach (numsBelow 4 fun k => bitOf v.toNat k && !bitOf (s.getF Fld.SN_CORE_RELEASE_RELEASE d) k) fun t k =>
        t.releaseAsked d k := by
  rw [State.writeCoreRelease, h]
  rfl

theorem exec_snCoreReleaseWrite_refused {req : Requester} {d : DieId} {s : State} (v : Word) (h : s.DieOpen req d.val)
    (hreq : fromDie0 req = false) : exec (.snCoreReleaseWrite req d v) s = .next s.bootReject := by
  refine congrArg Host.Outcome.next ((State.dieAccess_open _ h).trans ?_)
  rw [State.writeCoreRelease, hreq]
  rfl

/-- A word of one bit, of a core that is not released, wants that core alone. -/
theorem wanted_of_twoPow (k : CoreId) {r : Nat} (hr : bitOf r k.val = false) :
    (numsBelow 4 fun j => bitOf (BitVec.ofNat 32 (2 ^ k.val)).toNat j && !bitOf r j) = [k.val] := by
  have hword : (BitVec.ofNat 32 (2 ^ k.val)).toNat = 2 ^ k.val :=
    Nat.mod_eq_of_lt (Nat.pow_lt_pow_right (by decide) (Nat.lt_trans k.isLt (by decide)))
  have hbit : ∀ j, (bitOf (2 ^ k.val) j && !bitOf r j) = decide (j = k.val) := by
    intro j
    by_cases hj : j = k.val
    · rw [hj, hr, bitOf, Nat.testBit_two_pow_self]
      exact (decide_eq_true rfl).symm
    · rw [bitOf, Nat.testBit_two_pow_of_ne (Ne.symm hj), decide_eq_false hj]
      rfl
  have honly : ∀ c : CoreId, (numsBelow 4 fun j => decide (j = c.val)) = [c.val] := by decide
  rw [hword, funext hbit, honly]

theorem exec_snCoreReleaseWrite_starts {req : Requester} {d : DieId} {k : CoreId} {s : State} (h : s.DieOpen req d.val)
    (hreq : fromDie0 req = true) (hdone : bitOf (s.getF Fld.BT_STATUS_DIE_DONE 0) d.val = true)
    (hr : bitOf (s.getF Fld.SN_CORE_RELEASE_RELEASE d.val) k.val = false) :
    exec (.snCoreReleaseWrite req d (BitVec.ofNat 32 (2 ^ k.val))) s = .next (s.coreRelease d.val k.val) := by
  refine congrArg Host.Outcome.next ((State.dieAccess_open _ h).trans ?_)
  rw [State.writeCoreRelease_die0 hreq, wanted_of_twoPow k hr]
  exact if_pos hdone

theorem State.corePends_pending (s : State) (d j : Nat) {k : Nat} (hk : k < 4) :
    bitOf ((s.corePends d j).getF Fld.SN_CORE_RELEASE_PENDING d) k =
      (bitOf (s.getF Fld.SN_CORE_RELEASE_PENDING d) k || bitOf (2 ^ j) k) := by
  rw [State.corePends, State.getF_setF_same _ _ _ _ (by decide), bitOf, Nat.testBit_mod_two_pow, Nat.testBit_or, decide_eq_true hk]
  exact Bool.true_and _

/-- From `s` to `t` cores of die d have come to wait for their release. -/
structure ReleasePends (d : Nat) (s t : State) : Prop where
  only : s.OnlyRegs t fun n i => decide (n = .SN_CORE_RELEASE) && decide (i = d)
  released : t.getF Fld.SN_CORE_RELEASE_RELEASE d = s.getF Fld.SN_CORE_RELEASE_RELEASE d

namespace ReleasePends

variable {d : Nat} {s t : State}

theorem corePends (h : ReleasePends d s t) (k : Nat) : ReleasePends d s (t.corePends d k) where
  only := h.only.setF (by simp)
  released := (State.getF_setF_apart _ _ _ _ _ _ (by decide) (by decide)).trans h.released

theorem releaseAsked_eq (h : ReleasePends d s t) (hdone : bitOf (s.getF Fld.BT_STATUS_DIE_DONE 0) d = false) (k : Nat) :
    t.releaseAsked d k = t.corePends d k := by
  rw [State.releaseAsked, State.getF_eq_of_rd (f := Fld.BT_STATUS_DIE_DONE) (h.only.2 .BT_STATUS 0 rfl), hdone]
  rfl

theorem releaseAsked (h : ReleasePends d s t) (hdone : bitOf (s.getF Fld.BT_STATUS_DIE_DONE 0) d = false) (k : Nat) :
    ReleasePends d s (t.releaseAsked d k) := by
  rw [h.releaseAsked_eq hdone]
  exact h.corePends k

end ReleasePends

theorem exec_snCoreReleaseWrite_waits {req : Requester} {d : DieId} {v : Word} {k : CoreId} {s : State} (h : s.DieOpen req d.val)
    (hreq : fromDie0 req = true) (hdone : bitOf (s.getF Fld.BT_STATUS_DIE_DONE 0) d.val = false) (hv : bitOf v.toNat k.val = true)
    (hr : bitOf (s.getF Fld.SN_CORE_RELEASE_RELEASE d.val) k.val = false) :
    RunsTo (.snCoreReleaseWrite req d v) s fun t => bitOf (t.getF Fld.SN_CORE_RELEASE_PENDING d.val) k.val = true ∧
      t.getF Fld.SN_CORE_RELEASE_RELEASE d.val = s.getF Fld.SN_CORE_RELEASE_RELEASE d.val ∧
      s.OnlyRegs t fun n i => decide (n = .SN_CORE_RELEASE) && decide (i = d.val) := by
  refine ⟨_, congrArg Host.Outcome.next ((State.dieAccess_open _ h).trans (State.writeCoreRelease_die0 hreq s _ _)), ?_⟩
  have hwant : k.val ∈ numsBelow 4 fun j => bitOf v.toNat j && !bitOf (s.getF Fld.SN_CORE_RELEASE_RELEASE d.val) j :=
    List.mem_filter.mpr ⟨List.mem_range.mpr k.isLt, by rw [hv, hr]; rfl⟩
  have hstart : ReleasePends d.val s s := ⟨.refl s _, rfl⟩
  have hall := fun l : List Nat => List.foldlRecOn (motive := ReleasePends d.val s) l (fun t j => t.releaseAsked d.val j) hstart
    fun t ht j _ => ht.releaseAsked hdone j
  refine ⟨?_, (hall _).released, (hall _).only⟩
  refine foldl_establishes (inv := ReleasePends d.val s)
    (goal := fun t : State => bitOf (t.getF Fld.SN_CORE_RELEASE_PENDING d.val) k.val = true)
    (fun t j ht => ht.releaseAsked hdone j) (fun t ht => ?_) (fun t j ht hp => ?_) hwant hstart
  · rw [ht.releaseAsked_eq hdone, State.corePends_pending _ _ _ k.isLt, bitOf, bitOf, Nat.testBit_two_pow_self]
    exact Bool.or_true _
  · rw [ht.releaseAsked_eq hdone, State.corePends_pending _ _ _ k.isLt, hp]
    rfl

/-! ## The kick (R276, R287) -/

theorem exec_wdtKick_restarts {e d : DieId} {j k : CoreId} {v : Word} {s : State} (h : s.DieOpen (.sentry e j) d.val)
    (hv : Fld.SN_WDT_KICK_KICK.of v = 0xA5) (hforce : ¬ (d.val = 0 ∧ k.val = 0 ∧ s.boot.force = true))
    (hrun : s.flag Fld.SN_WDT_RUNNING (4 * d.val + k.val) = true) :
    exec (.wdtKick (.sentry e j) d k v) s = .next ((s.modCore d.val k.val fun c =>
      { c with kickUs := s.us, period := s.getF Fld.SN_WDT_PERIOD_MS (4 * d.val + k.val) }).count d.val
        (0x3A0 + 0x10 * k.val + 11) 1) := by
  refine congrArg Host.Outcome.next ((State.dieAccess_open _ h).trans ?_)
  rw [State.writeKick]
  refine (if_neg Bool.false_ne_true).trans (if_neg ?_)
  rw [hv, hrun]
  simpa using hforce

theorem exec_wdtKick_ignored {e d : DieId} {j : CoreId} (k : CoreId) {v : Word} {s : State} (h : s.DieOpen (.sentry e j) d.val)
    (hv : Fld.SN_WDT_KICK_KICK.of v ≠ 0xA5) : exec (.wdtKick (.sentry e j) d k v) s = .next s := by
  refine congrArg Host.Outcome.next ((State.dieAccess_open _ h).trans ?_)
  rw [State.writeKick]
  exact (if_neg Bool.false_ne_true).trans (if_pos (.inl hv))

/-! ## What reporting a trap leaves alone (R279, R288) -/

theorem State.core_modCore (s : State) (d k e j : Nat) (f : SentryCore → SentryCore) :
    (s.modCore d k f).core e j = if e = d ∧ j = k then f (s.core e j) else s.core e j := by
  by_cases he : e = d
  · subst he
    by_cases hj : j = k
    · rw [if_pos ⟨rfl, hj⟩, hj, State.core_modCore_same]
    · rw [if_neg fun h => hj h.2, State.core, State.modCore, State.die_modDie_same, Tbl.get_set_other _ _ _ _ _ hj]
      rfl
  · rw [if_neg fun h => he h.1, State.core, State.modCore, State.modDie, State.die_setDie_other _ _ _ _ he]
    rfl

/-- From `s` to `t` faults and events have been told and watchdogs set: SRAM, what was sent out, the registers but those of
faults and counts, every bit of a fault register, and where the cores are, stay. -/
structure CoresKept (s t : State) : Prop where
  sram : t.sram = s.sram
  outputs : t.outputs = s.outputs
  core : ∀ d k, t.core d k = { s.core d k with kickUs := (t.core d k).kickUs, period := (t.core d k).period }
  rd : ∀ n i, n.counts = false → n ∉ faultRegs → t.rd n i = s.rd n i
  bits : ∀ n i b, n.counts = false → bitOf (s.rd n i).toNat b = true → bitOf (t.rd n i).toNat b = true

namespace CoresKept

variable {s t u : State}

theorem refl (s : State) : CoresKept s s := ⟨rfl, rfl, fun _ _ => rfl, fun _ _ _ _ => rfl, fun _ _ _ _ h => h⟩

theorem trans (h1 : CoresKept s t) (h2 : CoresKept t u) : CoresKept s u where
  sram := h2.sram.trans h1.sram
  outputs := h2.outputs.trans h1.outputs
  core d k := by rw [h2.core d k, h1.core d k]
  rd n i hc hf := (h2.rd n i hc hf).trans (h1.rd n i hc hf)
  bits n i b hc hb := h2.bits n i b hc (h1.bits n i b hc hb)

theorem report (s : State) (d code source : Nat) : CoresKept s (s.report d code source) :=
  have h := Reported.report s d code source
  ⟨s.report_sram _ _ _, s.report_outputs _ _ _, fun e k => by rw [h.core e k], h.rd, h.bits⟩

theorem count (s : State) (d e n : Nat) : CoresKept s (s.count d e n) := by
  obtain ⟨hrest, hrd, hother, hdie⟩ := s.count_counted d e n
  have hcore : ∀ x k, (s.count d e n).core x k = s.core x k := by
    intro x k
    by_cases hx : x = d
    · rw [hx, State.core, hdie, State.core]
    · rw [State.core, hother x hx, State.core]
  refine ⟨hrest.sram, hrest.outputs, fun x k => by rw [hcore], fun m i hm _ => hrd m i hm, fun m i b hm hb => ?_⟩
  rw [hrd m i hm]
  exact hb

theorem forceExpiry (s : State) : CoresKept s s.forceExpiry where
  sram := rfl
  outputs := rfl
  core d k := by
    rw [State.forceExpiry]
    dsimp only
    rw [State.core_modCore]
    split <;> rfl
  rd _ _ _ _ := rfl
  bits _ _ _ _ h := h

theorem forEach_report (s : State) (l : List Nat) (d code source : Nat) :
    CoresKept s (s.forEach l fun s _ => s.report d code source) :=
  State.forEach_rel (R := CoresKept) refl (fun _ _ _ => trans) _ (fun t _ => report t d code source) l s

end CoresKept

/-! ## A core takes a trap (R288) -/

/-- Core k of die d takes a trap: its cause and address are recorded, and it goes on at `pc`. -/
def State.trapTaken (s : State) (d k cause : Nat) (addr pc : Word) : State :=
  ((s.setF Fld.SN_TRAP_CAUSE (4 * d + k) cause).wr .SN_TRAP_ADDR (4 * d + k) addr).modCore d k fun c =>
    { c with pc := pc, inTrap := true, xipWait := none }

/-- The trap is counted and reported, and forces expiry where the ROM runs (R279). -/
def State.trapTold (s : State) (d k event code : Nat) : State :=
  let t := (s.count d (0x3A0 + 0x10 * k + event) 1).report d code (d + 8 * k)
  if d = 0 ∧ k = 0 ∧ t.inRom then t.forceExpiry else t

theorem State.report_coresKept_trapTold (s : State) (d k event code : Nat) :
    CoresKept ((s.count d (0x3A0 + 0x10 * k + event) 1).report d code (d + 8 * k)) (s.trapTold d k event code) := by
  unfold State.trapTold
  dsimp only
  split
  · exact .forceExpiry _
  · exact .refl _

theorem State.trapTold_coresKept (s : State) (d k event code : Nat) : CoresKept s (s.trapTold d k event code) :=
  ((CoresKept.count ..).trans (.report ..)).trans (s.report_coresKept_trapTold d k event code)

/-- A report marks its bit of a register that does not count. -/
theorem State.report_marks (s : State) {d code source i b : Nat} {n : RegName} (hn : n.counts = false) (hb : b < 32)
    (h : faultBit d code source = some (n, i, b)) : bitOf ((s.report d code source).rd n i).toNat b = true := by
  have hlt : 2 ^ b < 2 ^ 32 := Nat.pow_lt_pow_right (by decide) hb
  rw [State.report_bit _ _ _ _ _ _ _ hn h, bitOf, BitVec.toNat_or, Nat.testBit_or, BitVec.toNat_ofNat, Nat.mod_eq_of_lt hlt,
    Nat.testBit_two_pow_self, Bool.or_true]

/-- In `t`, which comes of `s`, core k of die d has taken a trap. -/
structure Trapped (s t : State) (d k cause : Nat) (addr pc : Word) (b : Nat) : Prop where
  cause : t.getF Fld.SN_TRAP_CAUSE (4 * d + k) = cause
  addr : t.rd .SN_TRAP_ADDR (4 * d + k) = addr
  pc : (t.core d k).pc = pc
  inTrap : (t.core d k).inTrap = true
  fault : bitOf (t.rd .SN_FAULT d).toNat b = true
  mck : t.flag Fld.SN_TRAP_MCK_ACTIVE (4 * d + k) = s.flag Fld.SN_TRAP_MCK_ACTIVE (4 * d + k)
  sram : t.sram = s.sram
  outputs : t.outputs = s.outputs

theorem State.trapTaken_trapTold (s : State) (d k event : Nat) (addr pc : Word) {cause code b : Nat} (hc : cause < 16) (hb : b < 32)
    (hf : faultBit d code (d + 8 * k) = some (.SN_FAULT, d, b)) :
    Trapped s ((s.trapTaken d k cause addr pc).trapTold d k event code) d k cause addr pc b := by
  have hkept := (s.trapTaken d k cause addr pc).trapTold_coresKept d k event code
  have htrap := hkept.rd .SN_TRAP (4 * d + k) rfl (by decide)
  have hcore := hkept.core d k
  rw [State.trapTaken, State.core_modCore_same] at hcore
  exact {
    cause := by
      rw [State.getF_eq_of_rd (f := Fld.SN_TRAP_CAUSE) htrap]
      refine (State.getF_wr_apart _ .SN_TRAP_ADDR _ _ _ _ (by decide)).trans ?_
      rw [State.getF_setF_same _ _ _ _ (by decide)]
      exact Nat.mod_eq_of_lt hc
    addr := (hkept.rd .SN_TRAP_ADDR _ rfl (by decide)).trans (State.rd_wr_same _ _ _ _)
    pc := congrArg SentryCore.pc hcore
    inTrap := congrArg SentryCore.inTrap hcore
    fault := (State.report_coresKept_trapTold _ d k event code).bits _ _ _ rfl (State.report_marks _ rfl hb hf)
    mck := by
      rw [State.flag_congr (f := Fld.SN_TRAP_MCK_ACTIVE) htrap]
      refine (State.flag_wr_apart _ .SN_TRAP_ADDR _ _ _ _ (by decide)).trans ?_
      exact State.flag_setF_apart _ _ _ _ _ _ (by decide) (by decide)
    sram := hkept.sram
    outputs := hkept.outputs }

/-! ## Bus errors -/

theorem trapCause_lt (kind : AccessKind) : trapCause kind < 16 := by
  cases kind <;> decide

theorem State.busErrorTrap_eq (s : State) (d k : Nat) (kind : AccessKind) (addr : Nat) : s.busErrorTrap d k kind addr =
    (s.trapTaken d k (trapCause kind) (BitVec.ofNat 32 addr) (s.rd .SN_TVEC (4 * d + k))).trapTold d k 9 0x6201 := by
  unfold State.busErrorTrap
  dsimp only
  rw [State.rd_wr_name _ _ _ _ _ _ (by decide), State.rd_setF _ _ _ _ _ _ (by decide)]
  rfl

theorem exec_busError_traps {d : DieId} (k : CoreId) (kind : AccessKind) (a : Word) {s : State} (h : s.live d.val = true) :
    RunsTo (.busError d k kind a) s fun t => Trapped s t d.val k.val (trapCause kind) a (s.rd .SN_TVEC (4 * d.val + k.val)) 0 := by
  refine ⟨_, congrArg Host.Outcome.next (s.when_of _ _ h), ?_⟩
  rw [State.busErrorTrap_eq, BitVec.ofNat_toNat, BitVec.setWidth_eq]
  exact State.trapTaken_trapTold s _ _ _ _ _ (trapCause_lt kind) (by decide) rfl

/-! ## Machine checks (R202) -/

/-- The detections at point 12 are reported. -/
def State.checkTold (s : State) (d : Nat) : State :=
  (s.forEach (List.range 3) fun s _ => s.report d 0x510C d).report d 0x520C d

theorem State.checkTold_coresKept (s : State) (d : Nat) : CoresKept s (s.checkTold d) :=
  (CoresKept.forEach_report ..).trans (.report ..)

theorem exec_machineCheck {d : DieId} (k : CoreId) (a : Word) {s : State} (h : s.live d.val = true) :
    exec (.machineCheck d k a) s = .next (
      if (s.checkTold d.val).flag Fld.SN_TRAP_MCK_ACTIVE (4 * d.val + k.val) then
        let t := (s.checkTold d.val).report d.val 0x6203 (d.val + 8 * k.val)
        if d.val = 0 ∧ k.val = 0 then t.forceExpiry else t.coreReset d.val k.val
      else (((s.checkTold d.val).setFlag Fld.SN_TRAP_MCK_ACTIVE (4 * d.val + k.val) true).trapTaken d.val k.val 4 a
        (s.rd .SN_TVEC (4 * d.val + k.val) + 0x40)).trapTold d.val k.val 10 0x6202) := by
  refine congrArg Host.Outcome.next ((s.when_of _ _ h).trans ?_)
  have htvec := (s.checkTold_coresKept d.val).rd .SN_TVEC (4 * d.val + k.val) rfl (by decide)
  rw [← htvec, ← State.rd_setFlag _ Fld.SN_TRAP_MCK_ACTIVE .SN_TVEC (4 * d.val + k.val) _ true (by decide),
    ← State.rd_setF _ Fld.SN_TRAP_CAUSE .SN_TVEC (4 * d.val + k.val) _ 4 (by decide),
    ← State.rd_wr_name _ .SN_TRAP_ADDR .SN_TVEC (4 * d.val + k.val) _ a (by decide)]
  rfl

theorem exec_machineCheck_traps {d : DieId} {k : CoreId} (a : Word) {s : State} (h : s.live d.val = true)
    (hm : s.flag Fld.SN_TRAP_MCK_ACTIVE (4 * d.val + k.val) = false) :
    RunsTo (.machineCheck d k a) s fun t => t.flag Fld.SN_TRAP_MCK_ACTIVE (4 * d.val + k.val) = true ∧
      t.getF Fld.SN_TRAP_CAUSE (4 * d.val + k.val) = 4 ∧ t.rd .SN_TRAP_ADDR (4 * d.val + k.val) = a ∧
      (t.core d.val k.val).pc = s.rd .SN_TVEC (4 * d.val + k.val) + 0x40 ∧
      bitOf (t.rd .SN_FAULT d.val).toNat 1 = true ∧ t.sram = s.sram := by
  have hkept := s.checkTold_coresKept d.val
  have hflag := State.flag_congr (f := Fld.SN_TRAP_MCK_ACTIVE) (hkept.rd .SN_TRAP (4 * d.val + k.val) rfl (by decide))
  refine ⟨_, exec_machineCheck k a h, ?_⟩
  rw [hflag, hm, if_neg Bool.false_ne_true]
  have ht := State.trapTaken_trapTold ((s.checkTold d.val).setFlag Fld.SN_TRAP_MCK_ACTIVE (4 * d.val + k.val) true) d.val k.val 10 a
    (s.rd .SN_TVEC (4 * d.val + k.val) + 0x40) (cause := 4) (code := 0x6202) (b := 1) (by decide) (by decide) rfl
  exact ⟨ht.mck.trans (State.flag_setFlag_same _ _ _ _ (by decide) (by decide)), ht.cause, ht.addr, ht.pc, ht.fault,
    ht.sram.trans hkept.sram⟩

/-! ## The reset of a core (R227, R286) -/

/-- Core k of die d is neither released nor waits for its release. -/
def State.coreWithdrawn (s : State) (d k : Nat) : State :=
  let v := s.getF Fld.SN_CORE_RELEASE_RELEASE d
  let p := s.getF Fld.SN_CORE_RELEASE_PENDING d
  let s := if bitOf v k then s.setF Fld.SN_CORE_RELEASE_RELEASE d (v - 2 ^ k) else s
  if bitOf p k then s.setF Fld.SN_CORE_RELEASE_PENDING d (p - 2 ^ k) else s

theorem State.coreWithdrawn_rd (s : State) (d k : Nat) {n : RegName} (i : Nat) (h : n ≠ .SN_CORE_RELEASE) :
    (s.coreWithdrawn d k).rd n i = s.rd n i := by
  have hset : ∀ (t : State) (f : Field) (x : Nat) (c : Bool), f.reg = .SN_CORE_RELEASE →
      (if c then t.setF f d x else t).rd n i = t.rd n i := by
    intro t f x c hf
    cases c
    · rfl
    · exact State.rd_setF _ _ _ _ _ _ (hf ▸ h)
  exact (hset _ _ _ _ rfl).trans (hset _ _ _ _ rfl)

/-- The trap registers of a core are as at reset. -/
def State.trapCleared (s : State) (i : Nat) : State :=
  (((s.setFlag Fld.SN_TRAP_MCK_ACTIVE i false).setF Fld.SN_TRAP_CAUSE i 0).wr .SN_TRAP_ADDR i 0).wr .SN_TVEC i 0

theorem State.trapCleared_mck (s : State) (i : Nat) : (s.trapCleared i).flag Fld.SN_TRAP_MCK_ACTIVE i = false := by
  rw [State.trapCleared, State.flag_wr_apart _ _ _ _ _ _ (by decide), State.flag_wr_apart _ _ _ _ _ _ (by decide),
    State.flag_setF_apart _ _ _ _ _ _ (by decide) (by decide), State.flag_setFlag_same _ _ _ _ (by decide) (by decide)]

theorem State.trapCleared_rd_fault (s : State) (i j : Nat) : (s.trapCleared i).rd .SN_FAULT j = s.rd .SN_FAULT j := by
  rw [State.trapCleared, State.rd_wr_name _ _ _ _ _ _ (by decide), State.rd_wr_name _ _ _ _ _ _ (by decide),
    State.rd_setF _ _ _ _ _ _ (by decide), State.rd_setFlag _ _ _ _ _ _ (by decide)]

/-- The window waits for a core no more. -/
def Xip.coreLeaves (x : Xip) (d k : Nat) : Xip :=
  let drop (l : List XipFill) : List XipFill := l.map fun f =>
    { f with waiters := f.waiters.filter fun w => !(decide (w.die = d) && decide (w.core = k)) }
  { x with fills := drop x.fills, queued := drop x.queued }

theorem State.coreReset_eq (s : State) (d k : Nat) : s.coreReset d k =
    (((((s.coreWithdrawn d k).trapCleared (4 * d + k)).modXip fun x => x.coreLeaves d k).modKeys fun x =>
      { x with nonce := none }).modGuard fun g => { g with nonce := none }).modCore d k fun _ =>
        { SentryCore.held with kickUs := (s.core d k).kickUs, period := (s.core d k).period } := rfl

theorem State.modXip_rd (s : State) (f : Xip → Xip) {n : RegName} (i : Nat) (h : n ≠ .XIP_STATUS) :
    (s.modXip f).rd n i = s.rd n i :=
  (State.rd_setFlag _ _ _ _ _ _ h).trans (State.rd_setF _ _ _ _ _ _ h)

/-- Beside XIP_STATUS, the registers that a core's reset changes are those of its release and of its traps. -/
theorem State.coreReset_rd (s : State) (d k : Nat) {n : RegName} (i : Nat) (h : n ≠ .XIP_STATUS) :
    (s.coreReset d k).rd n i = ((s.coreWithdrawn d k).trapCleared (4 * d + k)).rd n i := by
  rw [State.coreReset_eq, State.modCore, State.modDie_rd, State.modGuard_rd, State.modKeys_rd, State.modXip_rd _ _ _ h]

theorem State.coreReset_running (s : State) (d k : Nat) : ((s.coreReset d k).core d k).running = false := by
  rw [State.coreReset_eq, State.core_modCore_same]
  rfl

theorem State.coreReset_mck (s : State) (d k : Nat) : (s.coreReset d k).flag Fld.SN_TRAP_MCK_ACTIVE (4 * d + k) = false :=
  (State.flag_congr (f := Fld.SN_TRAP_MCK_ACTIVE) (s.coreReset_rd d k (n := .SN_TRAP) _ (by decide))).trans
    (State.trapCleared_mck _ _)

theorem State.coreReset_rd_fault (s : State) (d k j : Nat) : (s.coreReset d k).rd .SN_FAULT j = s.rd .SN_FAULT j := by
  rw [State.coreReset_rd _ _ _ _ (by decide), State.trapCleared_rd_fault, State.coreWithdrawn_rd _ _ _ _ (by decide)]

theorem exec_machineCheck_nested {d : DieId} {k : CoreId} (a : Word) {s : State} (h : s.live d.val = true)
    (h0 : ¬ (d.val = 0 ∧ k.val = 0)) (hm : s.flag Fld.SN_TRAP_MCK_ACTIVE (4 * d.val + k.val) = true) :
    RunsTo (.machineCheck d k a) s fun t => (t.core d.val k.val).running = false ∧
      t.flag Fld.SN_TRAP_MCK_ACTIVE (4 * d.val + k.val) = false ∧ bitOf (t.rd .SN_FAULT d.val).toNat 2 = true := by
  have hflag := State.flag_congr (f := Fld.SN_TRAP_MCK_ACTIVE)
    ((s.checkTold_coresKept d.val).rd .SN_TRAP (4 * d.val + k.val) rfl (by decide))
  refine ⟨_, exec_machineCheck k a h, ?_⟩
  rw [hflag, hm, if_pos rfl, if_neg h0]
  refine ⟨State.coreReset_running _ _ _, State.coreReset_mck _ _ _, ?_⟩
  rw [State.coreReset_rd_fault]
  exact State.report_marks _ rfl (by decide) rfl

/-- Settles O31: a release and a kick by the branch of the write that serves them; the two traps as one entry of the handlers,
which the reports after it leave alone; the nested machine check by what the core's reset clears. -/
theorem sentryCores : Obligations.SentryCores := by
  unfold Obligations.SentryCores
  refine ⟨fun req d v s h hreq => exec_snCoreReleaseWrite_refused v h hreq,
    fun req d k s h hreq hdone hr => exec_snCoreReleaseWrite_starts h hreq hdone hr,
    fun req d v k s h hreq hdone hv hr => exec_snCoreReleaseWrite_waits h hreq hdone hv hr,
    fun e d j k v s h hv hforce hrun => exec_wdtKick_restarts h hv hforce hrun,
    fun e d j k v s h hv => exec_wdtKick_ignored k h hv, fun d k kind a s h => ?_,
    fun d k a s h hm => exec_machineCheck_traps a h hm, fun d k a s h h0 hm => exec_machineCheck_nested a h h0 hm⟩
  obtain ⟨t, hexec, ht⟩ := exec_busError_traps k kind a h
  exact ⟨t, hexec, ht.cause, ht.addr, ht.pc, ht.inTrap, ht.fault, ht.sram, ht.outputs⟩

end Sys2Proof.Machine

namespace Sys2Proof.Machine

/-! # Registers that only die 0 writes (R310, R343, R402, R427) -/

/-- A write of a package register in RLV. -/
theorem exec_regWrite_rlv {req : Requester} {a : Nat} {r : Reg} {s : State} (v : Word) (h4 : a % 4 = 0)
    (ha : a < 0x100000) (hr : decodeAddr a = some r) (hd : r.name.dom = .rlv) (ho : s.RlvOpen req) :
    exec (.regWrite req a 32 v) s = .next (s.writeRvReg req r.name r.i v) := by
  rw [exec_regWrite_bar0 _ _ _ _ h4 (by omega), State.writeAt, hr]
  simp only [if_neg (not_bar2Base_le (a := a) (by omega)), hd]
  rw [State.rlvAccess_open _ ho]

section

variable {req : Requester} (s : State) {n : RegName} (i : Nat) (v : Word)

/-- R310: the fuse controller. -/
theorem State.writePlatReg_fuse_barred (h : fromDie0 req = false) (hn : n ∈ [RegName.FU_CMD, .FU_WDATA]) :
    s.writePlatReg req n i v = s.report 0 0x9006 (openSource 0x9006) := by
  simp only [List.mem_cons, List.not_mem_nil, or_false] at hn
  rcases hn with rfl | rfl <;>
    simp [State.writePlatReg, State.writeGuardReg, State.writeRootReg, State.writeFuCmd, State.writeFuWdata, h]

/-- R343: the key units. A barred KU_CMD reaches no vault device, so it draws no free outcome either. -/
theorem State.writePlatReg_key_barred (h : fromDie0 req = false) (hn : n ∈ [RegName.KU_CMD, .KU_CTRL, .KU_ARG]) :
    s.writePlatReg req n i v = s.report 0 0x7006 s.kuDie := by
  simp only [List.mem_cons, List.not_mem_nil, or_false] at hn
  rcases hn with rfl | rfl | rfl <;>
    simp [State.writePlatReg, State.writeGuardReg, State.writeRootReg, State.busKuCmd, State.writeKuCmd, State.writeKuCtrl,
      State.writeKuArg, State.kuReject, State.kuFault, h]

/-- R427: the guard and the folio. -/
theorem State.writePlatReg_guard_barred (h : fromDie0 req = false)
    (hn : n ∈ [RegName.GD_CTRL, .GD_SRC_CFG, .GD_CMD, .GD_ARG, .FO_BASE, .FO_SIZE, .FO_CTRL, .FO_CMD, .FO_ARG]) :
    s.writePlatReg req n i v = s.report 0 0xB005 0 := by
  simp only [List.mem_cons, List.not_mem_nil, or_false] at hn
  rcases hn with rfl | rfl | rfl | rfl | rfl | rfl | rfl | rfl | rfl <;>
    simp [State.writePlatReg, State.writeGuardReg, State.guardWrite, State.writeGdCmd, State.writeFoCmd, State.gdReject, h]

/-- R402: the ralver link. -/
theorem State.writeRvReg_barred (h : fromDie0 req = false)
    (hn : n ∈ [RegName.RV_CTRL, .RV_CMD, .RV_TXBASE, .RV_TXPTR, .RV_RXBASE, .RV_RXPTR]) :
    s.writeRvReg req n i v = s.report 0 0xC007 (openSource 0xC007) := by
  simp only [List.mem_cons, List.not_mem_nil, or_false] at hn
  rcases hn with rfl | rfl | rfl | rfl | rfl | rfl <;>
    simp [State.writeRvReg, State.ralverWrite, State.writeRvCmd, State.writeRvTxptr, State.rvReject, h]

end

theorem fuseRegs_plat : ∀ n ∈ [RegName.FU_CMD, .FU_WDATA], n.dom = .plat := by decide

theorem keyRegs_plat : ∀ n ∈ [RegName.KU_CMD, .KU_CTRL, .KU_ARG], n.dom = .plat := by decide

theorem guardRegs_plat : ∀ n ∈ [RegName.GD_CTRL, .GD_SRC_CFG, .GD_CMD, .GD_ARG, .FO_BASE, .FO_SIZE, .FO_CTRL, .FO_CMD, .FO_ARG],
    n.dom = .plat := by decide

theorem ralverRegs_rlv : ∀ n ∈ [RegName.RV_CTRL, .RV_CMD, .RV_TXBASE, .RV_TXPTR, .RV_RXBASE, .RV_RXPTR], n.dom = .rlv := by
  decide

/-- Settles O5: the write reaches its register in PLAT or RLV, whose own rule bars the requester and reports. -/
theorem onlyDieZeroWrites : Obligations.OnlyDieZeroWrites := by
  unfold Obligations.OnlyDieZeroWrites
  intro req a v r s hreq h4 ha hr
  refine ⟨fun hn ho => ?_, fun hn ho => ?_, fun hn ho => ?_, fun hn ho => ?_⟩
  · rw [exec_regWrite_plat v h4 ha hr (fuseRegs_plat _ hn) ho, s.writePlatReg_fuse_barred _ v hreq hn]
  · rw [exec_regWrite_plat v h4 ha hr (keyRegs_plat _ hn) ho, s.writePlatReg_key_barred _ v hreq hn]
  · rw [exec_regWrite_plat v h4 ha hr (guardRegs_plat _ hn) ho, s.writePlatReg_guard_barred _ v hreq hn]
  · rw [exec_regWrite_rlv v h4 ha hr (ralverRegs_rlv _ hn) ho, s.writeRvReg_barred _ v hreq hn]

end Sys2Proof.Machine

namespace Sys2Proof.Machine

/-! # Fuse reads (R300, R303, R310, R321, R322) -/

/-! ## The command word -/

theorem fuseWord_op {op : Nat} (v : Word) (h : op < 16) : Fld.FU_CMD_OP.of (fuseWord op v) = op :=
  (Field.of_put_same _ _ _ (by decide)).trans (Nat.mod_eq_of_lt h)

theorem fuseWord_die (op : Nat) (v : Word) : Fld.FU_CMD_DIE.of (fuseWord op v) = Fld.FU_CMD_DIE.of v :=
  Field.of_put_other _ _ _ _ (by decide) (by decide)

theorem fuseWord_row (op : Nat) (v : Word) : Fld.FU_CMD_ROW.of (fuseWord op v) = Fld.FU_CMD_ROW.of v :=
  Field.of_put_other _ _ _ _ (by decide) (by decide)

/-- The ten fuse commands over the bus. -/
def fuseCommands (req : Requester) (v : Word) : List Instr :=
  [.fuRead req v, .fuReadMargin req v, .fuProgram req v, .fuFinalise req v, .fuGenUds req v,
    .fuAdvanceRollback req v, .fuAdvanceTamper req v, .fuRevoke req v, .fuAdvanceLc req v, .fuMarginScan req v]

/-- Each of them is a write of FU_CMD under its own OP. -/
theorem exec_fuseCommands {req : Requester} {v : Word} {c : Instr} (hc : c ∈ fuseCommands req v) (s : State) :
    ∃ op, exec c s = .next (s.platAccess req fun s => s.writeFuCmd req (fuseWord op v)) := by
  simp only [fuseCommands, List.mem_cons, List.not_mem_nil, or_false] at hc
  rcases hc with rfl | rfl | rfl | rfl | rfl | rfl | rfl | rfl | rfl | rfl <;> exact ⟨_, rfl⟩

section

variable {s : State}

/-! ## When the controller takes a command (R305, R310) -/

theorem State.fuseTake_busy (v : Word) (core : Bool) (h : s.flag Fld.FU_STATUS_BUSY 0 = true) :
    s.fuseTake v core = s.report 0 0x9006 (openSource 0x9006) := if_pos h

theorem State.fuseTake_idle (v : Word) (core : Bool) (hbusy : s.flag Fld.FU_STATUS_BUSY 0 = false) (hrun : s.fuses.run = none) :
    s.fuseTake v core = s.fuseCommand v (s.rd .FU_WDATA 0).toNat core := by
  simp [State.fuseTake, hbusy, hrun]

/-- A command of a requester that is no sentry core of die 0, or under BUSY, is discarded and reported. -/
theorem State.writeFuCmd_discarded {req : Requester} (v : Word)
    (h : fromDie0 req = false ∨ s.flag Fld.FU_STATUS_BUSY 0 = true) :
    s.writeFuCmd req v = s.report 0 0x9006 (openSource 0x9006) := by
  unfold State.writeFuCmd
  split
  · rfl
  · rename_i hreq
    exact State.fuseTake_busy v true (h.resolve_left fun hn => hreq (by rw [hn]; rfl))

theorem State.writeFuCmd_open {req : Requester} (v : Word) (h : s.FuseOpen req) :
    s.writeFuCmd req v = s.fuseCommand v (s.rd .FU_WDATA 0).toNat true := by
  obtain ⟨-, hreq, hbusy, hrun⟩ := h
  rw [State.writeFuCmd, hreq, if_neg (by decide), State.fuseTake_idle v true hbusy hrun]

/-- READ and READ_MARGIN, as OP spells them. -/
theorem State.fuseCommand_read {v : Word} (data : Nat) (core margin : Bool) (hp : s.present (Fld.FU_CMD_DIE.of v) = true)
    (hop : Fld.FU_CMD_OP.of v = 1 + b2n margin) :
    s.fuseCommand v data core = s.fuseRead (Fld.FU_CMD_DIE.of v) (Fld.FU_CMD_ROW.of v) margin := by
  have hbits : bitsOf v.toNat 0 4 = 1 + b2n margin := hop
  unfold State.fuseCommand
  cases margin <;> simp [hp, hbits, b2n]

theorem State.fuseCommand_scan {v : Word} (data : Nat) (core : Bool) (hp : s.present (Fld.FU_CMD_DIE.of v) = true)
    (hop : Fld.FU_CMD_OP.of v = 10) : s.fuseCommand v data core = s.fuseScan := by
  have hbits : bitsOf v.toNat 0 4 = 10 := hop
  unfold State.fuseCommand
  simp [hp, hbits]

theorem State.writeFuCmd_read {req : Requester} {v : Word} {op : Nat} (margin : Bool) (h : s.FuseOpen req)
    (hp : s.present (Fld.FU_CMD_DIE.of v) = true) (hop : op = 1 + b2n margin) :
    s.platAccess req (fun s => s.writeFuCmd req (fuseWord op v)) =
      s.fuseRead (Fld.FU_CMD_DIE.of v) (Fld.FU_CMD_ROW.of v) margin := by
  have hlt : op < 16 := by cases margin <;> simp [hop, b2n]
  rw [State.platAccess_open _ h.1, State.writeFuCmd_open _ h, State.fuseCommand_read _ _ margin (by rwa [fuseWord_die])
    ((fuseWord_op v hlt).trans hop), fuseWord_die, fuseWord_row]

theorem exec_fuRead_open {req : Requester} {v : Word} (h : s.FuseOpen req) (hp : s.present (Fld.FU_CMD_DIE.of v) = true) :
    exec (.fuRead req v) s = .next (s.fuseRead (Fld.FU_CMD_DIE.of v) (Fld.FU_CMD_ROW.of v) false) :=
  congrArg Host.Outcome.next (State.writeFuCmd_read false h hp rfl)

theorem exec_fuReadMargin_open {req : Requester} {v : Word} (h : s.FuseOpen req) (hp : s.present (Fld.FU_CMD_DIE.of v) = true) :
    exec (.fuReadMargin req v) s = .next (s.fuseRead (Fld.FU_CMD_DIE.of v) (Fld.FU_CMD_ROW.of v) true) :=
  congrArg Host.Outcome.next (State.writeFuCmd_read true h hp rfl)

theorem exec_fuMarginScan_open {req : Requester} {v : Word} (h : s.FuseOpen req)
    (hp : s.present (Fld.FU_CMD_DIE.of v) = true) : exec (.fuMarginScan req v) s = .next s.fuseScan := by
  have hscan := State.fuseCommand_scan (s := s) (v := fuseWord 10 v) (s.rd .FU_WDATA 0).toNat true
    (by rwa [fuseWord_die]) (fuseWord_op v (by decide))
  exact congrArg Host.Outcome.next ((State.platAccess_open _ h.1).trans ((State.writeFuCmd_open _ h).trans hscan))

/-! ## How a command ends (Table 10.7) -/

theorem State.fuseDone_ended {t : State} {x : Nat} (hf : t.fuses = s.fuses) (hx : x < 16) : s.FuseEnded (t.fuseDone x) x := by
  refine ⟨hf, ?_, (State.getF_setF_same _ _ _ _ (by decide)).trans (Nat.mod_eq_of_lt hx)⟩
  exact (State.flag_setF_apart _ _ _ _ _ _ (by decide) (by decide)).trans (State.flag_setFlag_same _ _ _ _ (by decide) (by decide))

theorem State.fuseDone_rd (x : Nat) {n : RegName} (i : Nat) (h : n ≠ .FU_STATUS) : (s.fuseDone x).rd n i = s.rd n i :=
  (State.rd_setF _ _ _ _ _ _ h).trans (State.rd_setFlag _ _ _ _ _ _ h)

/-- DONE and RESULT are the low bits of FU_STATUS. -/
theorem State.fuseDone_flag (x : Nat) {f : Field} (i : Nat) (h : 6 ≤ f.lo) : (s.fuseDone x).flag f i = s.flag f i :=
  (State.flag_setF_apart _ Fld.FU_STATUS_RESULT _ _ _ _ (by decide) (.inr (.inr h))).trans
    (State.flag_setFlag_apart _ Fld.FU_STATUS_DONE _ _ _ _ (by decide) (.inr (.inr (Nat.le_trans (by decide) h))))

/-! ## READ and READ_MARGIN (R300, R303, R304) -/

/-- The row that a read senses: an unassigned row is blank. -/
def State.sensedRow (s : State) (d row : Nat) : FuseRow := if fuseAssigned d row then s.fuseRow d row else FuseRow.blank

/-- What a read of a row of the array shows before it is counted and ends. -/
def State.fuseShown (s : State) (d row : Nat) (margin : Bool) : State :=
  let t := (s.wr .FU_RDATA 0 (BitVec.ofNat 32 (if isUds d row then 0 else (s.sensedRow d row).nominal))).setFlag
    Fld.FU_STATUS_REDIRECTED 0 (s.fuseResolve d row).2
  if margin then t.setFlag Fld.FU_STATUS_MARGINAL 0 (s.sensedRow d row).marginal else t

section

variable (s) (d row : Nat) (margin : Bool)

theorem State.fuseShown_rest : SameRest s (s.fuseShown d row margin) := by
  cases margin <;> rfl

theorem State.fuseShown_die (e : Nat) : (s.fuseShown d row margin).die e = s.die e := by
  cases margin <;> rfl

theorem State.fuseShown_rd {n : RegName} (i : Nat) (hd : n ≠ .FU_RDATA) (hs : n ≠ .FU_STATUS) :
    (s.fuseShown d row margin).rd n i = s.rd n i := by
  cases margin
  · exact (State.rd_setFlag _ _ _ _ _ _ hs).trans (State.rd_wr_name _ _ _ _ _ _ hd)
  · exact (State.rd_setFlag _ _ _ _ _ _ hs).trans ((State.rd_setFlag _ _ _ _ _ _ hs).trans (State.rd_wr_name _ _ _ _ _ _ hd))

theorem State.fuseShown_rdata : (s.fuseShown d row margin).rd .FU_RDATA 0 =
    BitVec.ofNat 32 (if isUds d row then 0 else (s.sensedRow d row).nominal) := by
  have hread := (State.rd_setFlag _ Fld.FU_STATUS_REDIRECTED .FU_RDATA 0 0 (s.fuseResolve d row).2 (by decide)).trans
    (s.rd_wr_same .FU_RDATA 0 (BitVec.ofNat 32 (if isUds d row then 0 else (s.sensedRow d row).nominal)))
  cases margin
  · exact hread
  · exact (State.rd_setFlag _ _ _ _ _ _ (by decide)).trans hread

theorem State.fuseShown_redirected : (s.fuseShown d row margin).flag Fld.FU_STATUS_REDIRECTED 0 = (s.fuseResolve d row).2 := by
  have hflag : ∀ t : State, (t.setFlag Fld.FU_STATUS_REDIRECTED 0 (s.fuseResolve d row).2).flag Fld.FU_STATUS_REDIRECTED 0 =
      (s.fuseResolve d row).2 := fun t => State.flag_setFlag_same _ _ _ _ (by decide) (by decide)
  cases margin
  · exact hflag _
  · exact (State.flag_setFlag_apart _ _ _ _ _ _ (by decide) (by decide)).trans (hflag _)

theorem State.fuseShown_marginal : (s.fuseShown d row true).flag Fld.FU_STATUS_MARGINAL 0 = (s.sensedRow d row).marginal :=
  State.flag_setFlag_same _ _ _ _ (by decide) (by decide)

theorem State.fuseRead_beyond (h : fuseRows d ≤ row) : s.fuseRead d row margin = s.fuseDone 9 := if_pos h

theorem State.fuseRead_within (h : row < fuseRows d) :
    s.fuseRead d row margin = ((s.fuseShown d row margin).count 0 0x3F4 1).fuseDone 0 := if_neg (by omega)

variable {s d row}

theorem State.fuseRead_rest (h : row < fuseRows d) : SameRest s (s.fuseRead d row margin) := by
  rw [State.fuseRead_within _ _ _ _ h]
  exact ((State.fuseShown_rest s d row margin).trans (State.count_counted _ _ _ _).1).trans rfl

theorem State.fuseRead_ended (h : row < fuseRows d) : s.FuseEnded (s.fuseRead d row margin) 0 := by
  rw [State.fuseRead_within _ _ _ _ h]
  exact State.fuseDone_ended ((State.count_fuses _ _ _ _).trans (State.fuseShown_rest s d row margin).fuses) (by decide)

/-- Besides FU_RDATA and FU_STATUS a read changes what it counts. -/
theorem State.fuseRead_rd (h : row < fuseRows d) {n : RegName} (i : Nat) (hd : n ≠ .FU_RDATA) (hs : n ≠ .FU_STATUS)
    (hc : n.counts = false) : (s.fuseRead d row margin).rd n i = s.rd n i := by
  rw [State.fuseRead_within _ _ _ _ h, State.fuseDone_rd _ _ hs, State.count_rd _ _ _ _ _ _ hc, State.fuseShown_rd _ _ _ _ _ hd hs]

theorem State.fuseRead_sameSram (h : row < fuseRows d) : s.SameSram (s.fuseRead d row margin) := by
  refine State.sameSram_of (State.fuseRead_rest margin h).sram (fun e => ?_)
    (State.fuseRead_rd margin h 0 (by decide) (by decide) rfl)
  rw [State.fuseRead_within _ _ _ _ h, State.fuseDone, State.setF_die, State.setFlag_die, State.count_generation,
    State.fuseShown_die]

theorem State.fuseRead_rdata (h : row < fuseRows d) : (s.fuseRead d row margin).rd .FU_RDATA 0 =
    BitVec.ofNat 32 (if isUds d row then 0 else (s.sensedRow d row).nominal) := by
  rw [State.fuseRead_within _ _ _ _ h, State.fuseDone_rd _ _ (by decide), State.count_rd _ _ _ _ _ _ rfl, State.fuseShown_rdata]

theorem State.fuseRead_flag (h : row < fuseRows d) {f : Field} (hf : 6 ≤ f.lo) (hc : f.reg.counts = false) :
    (s.fuseRead d row margin).flag f 0 = (s.fuseShown d row margin).flag f 0 := by
  rw [State.fuseRead_within _ _ _ _ h, State.fuseDone_flag _ _ hf, State.flag_congr (State.count_rd _ _ _ _ _ _ hc)]

/-- The answer of a read: the UDS rows and unassigned rows as 0, any other row at the nominal reference. -/
theorem State.sensedRow_nominal (s : State) (d row : Nat) :
    BitVec.ofNat 32 (if isUds d row then 0 else (s.sensedRow d row).nominal) =
      (if isUds d row then 0#32 else if fuseAssigned d row then BitVec.ofNat 32 (s.fuseRow d row).nominal else 0#32) := by
  unfold State.sensedRow
  cases isUds d row <;> cases fuseAssigned d row <;> rfl

end

/-! ## MARGIN_SCAN (R321) -/

/-- The MARGINAL rows of the present arrays. -/
def State.marginalRows (s : State) : List (Nat × FuseRow) :=
  s.fuses.rows.filter fun p => decide (p.1 / 2048 < s.nDies) && p.2.marginal

theorem State.marginalRows_ne_nil : s.marginalRows ≠ [] ↔ ∃ p ∈ s.fuses.rows, p.1 / 2048 < s.nDies ∧ p.2.high ≠ p.2.low := by
  simp [State.marginalRows, List.filter_eq_nil_iff, FuseRow.marginal]

/-- Each of them is reported. -/
def State.marginalTold (s : State) : State :=
  s.marginalRows.foldl (fun t p => t.fuseFault 0x9002 (p.1 / 2048) (p.1 % 2048)) s

theorem State.marginalTold_fuses : s.marginalTold.fuses = s.fuses :=
  List.foldlRecOn (motive := fun t : State => t.fuses = s.fuses) _ _ rfl fun t ht _ _ => (t.report_fuses _ _ _).trans ht

theorem State.fuseScan_eq (s : State) : s.fuseScan =
    ((s.marginalTold.count 0 0x3F4 s.fuses.rows.length).setFlag Fld.FU_STATUS_SCAN_MARGINAL 0
      (decide (s.marginalRows ≠ []))).fuseDone 0 := rfl

theorem State.fuseScan_ended : s.FuseEnded s.fuseScan 0 :=
  State.fuseDone_ended ((State.count_fuses _ _ _ _).trans State.marginalTold_fuses) (by decide)

theorem State.fuseScan_marginal : s.fuseScan.flag Fld.FU_STATUS_SCAN_MARGINAL 0 = true ↔ s.marginalRows ≠ [] := by
  rw [State.fuseScan_eq, State.fuseDone_flag _ _ (by decide), State.flag_setFlag_same _ _ _ _ (by decide) (by decide),
    decide_eq_true_iff]

/-! ## The test access port (R319, R322) -/

theorem State.jtagFuses_iff : s.jtagFuses = true ↔ s.lc ≤ 2 := decide_eq_true_iff

/-- FUCMD's code in the instruction register, and its data in FU_WDATA. -/
def State.tapWdata (s : State) (w : Word) : State := ({ s with jtag := { s.jtag with ir := 0x40 } }).wr .FU_WDATA 0 w

theorem State.tapWdata_rd (w : Word) {n : RegName} (i : Nat) (h : n ≠ .FU_WDATA) : (s.tapWdata w).rd n i = s.rd n i :=
  State.rd_wr_name _ _ _ _ _ _ h

theorem exec_fucmd_bypass (w c : Word) (hl : s.platLive = true) (h : 2 < s.lc) :
    exec (.fucmd w c) s = .next { s with jtag := { s.jtag with ir := 0xFF } } := by
  have hj : s.jtagFuses = false := decide_eq_false (by omega)
  refine congrArg Host.Outcome.next ((s.when_of _ _ hl).trans ?_)
  simp [hj]

theorem exec_fucmd_open (w c : Word) (hl : s.platLive = true) (h : s.lc ≤ 2) :
    exec (.fucmd w c) s = .next ((s.tapWdata w).fuseTake c false) := by
  have hj := State.jtagFuses_iff.mpr h
  refine congrArg Host.Outcome.next ((s.when_of _ _ hl).trans ?_)
  simp [hj, State.tapWdata]

theorem exec_fustat_bypass (hl : s.platLive = true) (h : 2 < s.lc) :
    exec .fustat s = .next (({ s with jtag := { s.jtag with ir := 0xFF } }).emit (.tdo [false])) := by
  have hj : s.jtagFuses = false := decide_eq_false (by omega)
  refine congrArg Host.Outcome.next ((s.when_of _ _ hl).trans ?_)
  simp [hj]

theorem exec_fustat_open (hl : s.platLive = true) (h : s.lc ≤ 2) : exec .fustat s = .next
    (({ s with jtag := { s.jtag with ir := 0x41 } }).emit (.tdo (wordBits s.readFuStatus ++ wordBits (s.rd .FU_RDATA 0)))) := by
  have hj := State.jtagFuses_iff.mpr h
  refine congrArg Host.Outcome.next ((s.when_of _ _ hl).trans ?_)
  simp [hj]

/-- A READ through the port ends as one over the bus does, with FU_WDATA as the port wrote it. -/
theorem exec_fucmd_read (w : Word) {c : Word} (hl : s.platLive = true) (hlc : s.lc ≤ 2)
    (hbusy : s.flag Fld.FU_STATUS_BUSY 0 = false) (hrun : s.fuses.run = none)
    (hp : s.present (Fld.FU_CMD_DIE.of c) = true) (hop : Fld.FU_CMD_OP.of c = 1)
    (hrow : Fld.FU_CMD_ROW.of c < fuseRows (Fld.FU_CMD_DIE.of c)) :
    RunsTo (.fucmd w c) s fun t => t.jtag.ir = 0x40 ∧ t.rd .FU_WDATA 0 = w ∧ s.FuseEnded t 0 := by
  have hidle : (s.tapWdata w).flag Fld.FU_STATUS_BUSY 0 = false :=
    (State.flag_congr (State.tapWdata_rd _ _ (by decide))).trans hbusy
  have hexec := exec_fucmd_open w c hl hlc
  rw [State.fuseTake_idle c false hidle hrun, State.fuseCommand_read (s := s.tapWdata w) _ _ false hp hop] at hexec
  refine ⟨_, hexec, ?_, ?_, State.fuseRead_ended (s := s.tapWdata w) false hrow⟩
  · rw [(State.fuseRead_rest false hrow).jtag]
    rfl
  · exact (State.fuseRead_rd _ hrow _ (by decide) (by decide) rfl).trans (State.rd_wr_same _ _ _ _)

/-- Under BUSY a command through the port is discarded like any other. -/
theorem exec_fucmd_busy (w c : Word) (hl : s.platLive = true) (hlc : s.lc ≤ 2) (hbusy : s.flag Fld.FU_STATUS_BUSY 0 = true) :
    RunsTo (.fucmd w c) s fun t => t.fuses = s.fuses ∧ t.getF Fld.FU_STATUS_RESULT 0 = s.getF Fld.FU_STATUS_RESULT 0 ∧
      t.flag Fld.FU_STATUS_BUSY 0 = true := by
  have htap : (s.tapWdata w).rd .FU_STATUS 0 = s.rd .FU_STATUS 0 := State.tapWdata_rd _ _ (by decide)
  have hexec := exec_fucmd_open w c hl hlc
  rw [State.fuseTake_busy c false ((State.flag_congr htap).trans hbusy)] at hexec
  have hstatus := (State.report_rd_plain (s.tapWdata w) 0 0x9006 (openSource 0x9006) .FU_STATUS 0 rfl (by decide)).trans htap
  exact ⟨_, hexec, State.report_fuses _ _ _ _, State.getF_eq_of_rd hstatus, (State.flag_congr hstatus).trans hbusy⟩

end

/-- Settles O32: a read by what it shows, counts and ends with; the scan by the rows that it finds; a discarded command by the
write of FU_CMD that all ten are; the port by the state of the life cycle. -/
theorem fuseReads : Obligations.FuseReads := by
  unfold Obligations.FuseReads
  refine ⟨fun req v s ho hp hrow => ?_, fun req v s ho hp hrow ha => ?_, fun req v s ho hp hrow => ?_, fun req v s ho hp => ?_,
    fun req v s ho h c hc => ?_, fun w c s hl hlc => ⟨exec_fucmd_bypass w c hl hlc, exec_fustat_bypass hl hlc⟩,
    fun w c s hl hlc hbusy hrun hp hop hrow => exec_fucmd_read w hl hlc hbusy hrun hp hop hrow,
    fun w c s hl hlc hbusy => exec_fucmd_busy w c hl hlc hbusy, fun s hl hlc => ⟨_, exec_fustat_open hl hlc, rfl, rfl, rfl⟩⟩
  · refine ⟨_, exec_fuRead_open ho hp, State.fuseRead_ended _ hrow, State.fuseRead_sameSram _ hrow, ?_, ?_⟩
    · rw [State.fuseRead_flag _ hrow (by decide) rfl, State.fuseShown_redirected]
    · rw [State.fuseRead_rdata _ hrow, State.sensedRow_nominal]
  · refine ⟨_, exec_fuReadMargin_open ho hp, State.fuseRead_ended _ hrow, ?_⟩
    rw [State.fuseRead_flag _ hrow (by decide) rfl, State.fuseShown_marginal, State.sensedRow, if_pos ha, FuseRow.marginal,
      decide_eq_true_iff]
  · refine ⟨_, exec_fuRead_open ho hp, ?_⟩
    rw [State.fuseRead_beyond _ _ _ _ hrow]
    exact ⟨State.fuseDone_ended rfl (by decide), State.fuseDone_rd _ _ (by decide)⟩
  · exact ⟨_, exec_fuMarginScan_open ho hp, State.fuseScan_ended, State.fuseScan_marginal.trans State.marginalRows_ne_nil⟩
  · obtain ⟨op, hexec⟩ := exec_fuseCommands hc s
    rw [hexec, State.platAccess_open _ ho, State.writeFuCmd_discarded _ h]

end Sys2Proof.Machine

namespace Sys2Proof.Machine

/-! # The signing queue (R329, R337) -/

section

variable {s t : State}

/-- The registers say whether a snapshot may be taken (R337). -/
theorem State.snapBlocked_congr (hv : t.variant = s.variant) (he : ∀ i, t.rd .EPOCH_STATUS i = s.rd .EPOCH_STATUS i)
    (ht : ∀ i, t.rd .TD_STATE i = s.rd .TD_STATE i) : t.snapBlocked = s.snapBlocked := by
  unfold State.snapBlocked State.nDies State.flag State.getF
  simp only [hv, he, ht]

theorem State.signTake_empty (hq : s.keys.queue = []) : s.signTake = s := by
  simp only [State.signTake, hq]

/-- A request whose snapshot has been taken keeps it. -/
theorem State.signTake_taken {r : SignReq} {l : List SignReq} (hq : s.keys.queue = r :: l) (hr : r.snap.isSome = true) :
    s.signTake = s := by
  simp [State.signTake, hq, hr]

/-- The unit takes the request at the front once a snapshot may be taken. -/
theorem State.signTake_takes {r : SignReq} {l : List SignReq} (hq : s.keys.queue = r :: l) (hr : r.snap = none)
    (hb : s.snapBlocked = false) :
    s.signTake = s.modKeys fun k => { k with queue := { r with snap := some (s.snapshot r.kind) } :: l } := by
  simp [State.signTake, hq, hr, hb]

theorem State.signFull_of_empty (hq : s.keys.queue = []) : s.signFull = false := by
  simp [State.signFull, State.signWaiting, hq]

/-- A request that finds the queue empty is taken at once, if it has its snapshot or one may be taken. -/
theorem State.signPut_taken {k : SignKind} {x : Option (List Byte)} (hq : s.keys.queue = [])
    (hx : x.isSome = true ∨ s.snapBlocked = false) :
    ∃ p, s.signPut k x = s.modKeys fun y => { y with queue := [{ kind := k, snap := some p }] } := by
  have hput : (s.modKeys fun y => { y with queue := y.queue ++ [{ kind := k, snap := x }] }).keys.queue =
      [{ kind := k, snap := x }] := congrArg (· ++ _) hq
  cases x with
  | some p =>
    refine ⟨p, (State.signTake_taken hput rfl).trans ?_⟩
    simp only [State.modKeys, hq, List.nil_append]
  | none =>
    have hb : s.snapBlocked = false := hx.resolve_left (by decide)
    exact ⟨_, State.signTake_takes hput rfl hb⟩

end

/-! # SPDM (R333 to R337) -/

section

variable (s : State)

/-! ## An answer -/

@[simp] theorem State.spdmAnswer_keys (e : Byte) (r : SpdmAnswer) : (s.spdmAnswer e r).keys = s.keys := by
  unfold State.spdmAnswer
  dsimp only
  split
  · rfl
  · rfl
  · exact State.report_keys _ _ _ _
  · rfl

@[simp] theorem State.spdmAnswer_outputs (e : Byte) (r : SpdmAnswer) :
    (s.spdmAnswer e r).outputs = s.outputs ++ [.spdm e r] := by
  unfold State.spdmAnswer
  dsimp only
  split
  · rfl
  · rfl
  · exact State.report_outputs _ _ _ _
  · rfl

theorem State.conn_congr {s t : State} (h : t.keys = s.keys) (e : Byte) : t.conn e = s.conn e := by
  rw [State.conn, h, State.conn]

@[simp] theorem State.spdmAnswer_conn (e x : Byte) (r : SpdmAnswer) : (s.spdmAnswer e r).conn x = s.conn x :=
  State.conn_congr (s.spdmAnswer_keys e r) x

/-! ## A request is heard: event 0x3E9 -/

/-- The part has counted a request. -/
def State.spdmHeard : State := s.count 0 0x3E9 1

@[simp] theorem State.spdmHeard_keys : s.spdmHeard.keys = s.keys := s.count_keys 0 0x3E9 1
@[simp] theorem State.spdmHeard_outputs : s.spdmHeard.outputs = s.outputs := s.count_outputs 0 0x3E9 1
@[simp] theorem State.spdmHeard_conn (e : Byte) : s.spdmHeard.conn e = s.conn e := State.conn_congr s.spdmHeard_keys e

theorem State.spdmHeard_rd (n : RegName) (i : Nat) (h : n.counts = false) : s.spdmHeard.rd n i = s.rd n i :=
  s.count_rd 0 0x3E9 1 n i h

@[simp] theorem State.spdmHeard_enabled : s.spdmHeard.flag Fld.KU_CTRL_SPDM_EN 0 = s.flag Fld.KU_CTRL_SPDM_EN 0 :=
  State.flag_congr (s.spdmHeard_rd .KU_CTRL 0 rfl)

@[simp] theorem State.spdmHeard_identity : s.spdmHeard.identity = s.identity := by
  rw [State.identity, s.spdmHeard_keys, State.identity]

@[simp] theorem State.spdmHeard_snapBlocked : s.spdmHeard.snapBlocked = s.snapBlocked :=
  State.snapBlocked_congr (s.count_variant 0 0x3E9 1) (fun i => s.spdmHeard_rd _ i rfl) fun i => s.spdmHeard_rd _ i rfl

@[simp] theorem State.spdmHeard_blockIndexes : s.spdmHeard.blockIndexes = s.blockIndexes := by
  rw [State.blockIndexes, State.nDies, State.spdmHeard, State.count_variant]
  rfl

theorem State.count_sameSram (d e k : Nat) : s.SameSram (s.count d e k) :=
  State.sameSram_of (s.count_sram d e k) (s.count_generation d e k) (s.count_rd d e k .BT_LOCK 0 rfl)

/-- An unsigned answer sends what it sends and reports nothing, so core SRAM reads as before. -/
theorem State.spdmHeard_measurements_sameSram (e : Byte) (n : Nat) (l : List (Nat × Digest)) (g : Option (List Byte × List Byte)) :
    s.SameSram (s.spdmHeard.spdmAnswer e (.measurements n l g)) := s.count_sameSram 0 0x3E9 1

end

section

variable {s : State} {e : Byte}

/-! ## Connections -/

@[simp] theorem State.setConn_outputs (s : State) (c : SpdmConn) : (s.setConn c).outputs = s.outputs := rfl
@[simp] theorem State.setConn_queue (s : State) (c : SpdmConn) : (s.setConn c).keys.queue = s.keys.queue := rfl

theorem State.conn_eid {c : SpdmConn} (h : s.conn e = some c) : c.eid = e := by
  simpa using List.find?_some h

/-- The endpoint's connection is the one that replaced it. -/
theorem State.setConn_conn {c c' : SpdmConn} (h : s.conn e = some c) (he : c'.eid = e) : (s.setConn c').conn e = some c' := by
  have hsame : ((fun x : SpdmConn => decide (x.eid = e)) ∘ fun x => if x.eid = c'.eid then c' else x) =
      fun x => decide (x.eid = e) := by
    funext x
    by_cases hx : x.eid = e <;> simp [hx, he]
  have hfind : s.keys.conns.find? (fun x => decide (x.eid = e)) = some c := h
  refine List.find?_map.trans ?_
  rw [hsame, hfind, Option.map_some, if_pos ((State.conn_eid h).trans he.symm)]

/-- A connection that opens is the endpoint's. -/
theorem State.conn_opened (h : s.conn e = none) (c : SpdmConn) (he : c.eid = e) :
    (s.modKeys fun k => { k with conns := k.conns ++ [c] }).conn e = some c := by
  have hfind : s.keys.conns.find? (fun x => decide (x.eid = e)) = none := h
  refine List.find?_append.trans ?_
  rw [hfind]
  simp [he]

/-! ## GET_VERSION (R334) -/

/-- A connection at its start. -/
def freshConn (e : Byte) : SpdmConn := { eid := e, stage := 1, later := none }

/-- The endpoint's connection is open, from the start. -/
def State.connOpened (s : State) (e : Byte) : State :=
  if (s.conn e).isSome then s.setConn (freshConn e) else s.modKeys fun k => { k with conns := k.conns ++ [freshConn e] }

theorem State.connOpened_outputs (s : State) (e : Byte) : (s.connOpened e).outputs = s.outputs := by
  unfold State.connOpened
  split <;> rfl

theorem State.connOpened_conn (s : State) (e : Byte) : (s.connOpened e).conn e = some (freshConn e) := by
  unfold State.connOpened
  cases hc : s.conn e with
  | some c => exact State.setConn_conn hc rfl
  | none => exact State.conn_opened hc _ rfl

section

variable (hl : s.mctpLive = true) (hen : s.flag Fld.KU_CTRL_SPDM_EN 0 = true)
include hl hen

theorem exec_spdmGetVersion_opens (hroom : (s.conn e).isSome = true ∨ s.keys.conns.length < 4) :
    exec (.spdmGetVersion e) s = .next ((s.spdmHeard.connOpened e).spdmAnswer e .version) := by
  have hon : (s.count 0 0x3E9 1).flag Fld.KU_CTRL_SPDM_EN 0 = true := s.spdmHeard_enabled.trans hen
  refine congrArg Host.Outcome.next ((s.when_of _ _ hl).trans ((if_neg (by rw [hon]; decide)).trans ?_))
  unfold State.connOpened
  by_cases hsome : (s.conn e).isSome = true
  · have hsome' : (s.spdmHeard.conn e).isSome = true := by rwa [s.spdmHeard_conn]
    exact (if_pos hsome').trans (by rw [if_pos hsome']; rfl)
  · have hnone : ¬ (s.spdmHeard.conn e).isSome = true := by rwa [s.spdmHeard_conn]
    have hfew : ¬ 4 ≤ s.spdmHeard.keys.conns.length := by
      rw [s.spdmHeard_keys]
      exact Nat.not_le.mpr (hroom.resolve_left hsome)
    exact (if_neg hnone).trans ((if_neg hfew).trans (by rw [if_neg hnone]; rfl))

theorem exec_spdmGetVersion_busy (hc : s.conn e = none) (hfull : 4 ≤ s.keys.conns.length) :
    exec (.spdmGetVersion e) s = .next (s.spdmHeard.spdmAnswer e (.error .busy)) := by
  have hon : (s.count 0 0x3E9 1).flag Fld.KU_CTRL_SPDM_EN 0 = true := s.spdmHeard_enabled.trans hen
  have hnone : ¬ (s.spdmHeard.conn e).isSome = true := by simp [hc]
  have hfull' : 4 ≤ s.spdmHeard.keys.conns.length := by rwa [s.spdmHeard_keys]
  refine congrArg Host.Outcome.next ((s.when_of _ _ hl).trans ((if_neg (by rw [hon]; decide)).trans ?_))
  exact (if_neg hnone).trans (if_pos hfull')

end

/-! ## What every other request meets first (R333 to R335) -/

section

variable {inOrder : SpdmConn → Bool} {f : State → SpdmConn → State}

theorem State.spdmRequest_disabled (hen : s.flag Fld.KU_CTRL_SPDM_EN 0 = false) :
    s.spdmRequest e inOrder f = s.spdmHeard.spdmAnswer e (.error .unsupportedRequest) :=
  if_pos (congrArg Bool.not (s.spdmHeard_enabled.trans hen))

variable {c : SpdmConn} (hen : s.flag Fld.KU_CTRL_SPDM_EN 0 = true) (hc : s.conn e = some c)
include hen hc

theorem State.spdmRequest_connected : s.spdmRequest e inOrder f =
    if inOrder c then f s.spdmHeard c else s.spdmHeard.spdmAnswer e (.error .unexpectedRequest) := by
  have hon : (s.count 0 0x3E9 1).flag Fld.KU_CTRL_SPDM_EN 0 = true := s.spdmHeard_enabled.trans hen
  have hconn : (s.count 0 0x3E9 1).conn e = some c := (s.spdmHeard_conn e).trans hc
  simp [State.spdmRequest, hon, hconn, State.spdmHeard]

theorem State.spdmRequest_inOrder (ho : inOrder c = true) : s.spdmRequest e inOrder f = f s.spdmHeard c :=
  (State.spdmRequest_connected hen hc).trans (if_pos ho)

/-- GET_CAPABILITIES and NEGOTIATE_ALGORITHMS carry a connection from one stage to the next; out of their order they do not. -/
theorem State.spdmRequest_stage (a b : Nat) (r : SpdmAnswer) :
    let t := s.spdmRequest e (fun c => decide (c.stage = a)) fun s c => (s.setConn { c with stage := b }).spdmAnswer e r
    if c.stage = a then t.conn e = some { c with stage := b } ∧ t.outputs = s.outputs ++ [.spdm e r]
    else t.keys = s.keys ∧ t.outputs = s.outputs ++ [.spdm e (.error .unexpectedRequest)] := by
  dsimp only
  rw [State.spdmRequest_connected hen hc]
  have hc' : s.spdmHeard.conn e = some c := (s.spdmHeard_conn e).trans hc
  by_cases hs : c.stage = a
  · rw [if_pos hs, if_pos (decide_eq_true hs), State.spdmAnswer_conn, State.spdmAnswer_outputs]
    have heid : c.eid = e := State.conn_eid hc
    exact ⟨State.setConn_conn hc' heid, congrArg (· ++ _) s.spdmHeard_outputs⟩
  · rw [if_neg hs, if_neg (by simpa using hs), State.spdmAnswer_keys, State.spdmAnswer_outputs, s.spdmHeard_keys,
      s.spdmHeard_outputs]
    exact ⟨rfl, rfl⟩

end

/-- With SPDM_EN clear the part supports no request. -/
theorem exec_spdm_disabled (hl : s.mctpLive = true) (hen : s.flag Fld.KU_CTRL_SPDM_EN 0 = false) (x y : Byte) (g : Bool)
    (n : List Byte) : ∀ r ∈ [Instr.spdmGetVersion e, .spdmGetCapabilities e, .spdmNegotiateAlgorithms e, .spdmChallenge e x n,
      .spdmGetMeasurements e y g n, .spdmRespondIfReady e],
      exec r s = .next (s.spdmHeard.spdmAnswer e (.error .unsupportedRequest)) := by
  have hrequest {p : SpdmConn → Bool} {f : State → SpdmConn → State} : s.when s.mctpLive (fun s => s.spdmRequest e p f) =
      s.spdmHeard.spdmAnswer e (.error .unsupportedRequest) := (s.when_of _ _ hl).trans (State.spdmRequest_disabled hen)
  have hversion : exec (.spdmGetVersion e) s = .next (s.spdmHeard.spdmAnswer e (.error .unsupportedRequest)) :=
    congrArg Host.Outcome.next ((s.when_of _ _ hl).trans (if_pos (congrArg Bool.not (s.spdmHeard_enabled.trans hen))))
  simp only [List.forall_mem_cons]
  exact ⟨hversion, congrArg Host.Outcome.next hrequest, congrArg Host.Outcome.next hrequest,
    congrArg Host.Outcome.next hrequest, congrArg Host.Outcome.next hrequest, congrArg Host.Outcome.next hrequest,
    fun _ h => absurd h List.not_mem_nil⟩

/-! ## Requests that need a signature (R329, R335, R337) -/

section

variable {c : SpdmConn} {k : SignKind}

theorem State.spdmSigned_noIdentity (hid : s.identity = false) : s.spdmSigned e c k = s.spdmAnswer e (.error .unspecified) :=
  if_pos (by rw [hid]; rfl)

/-- The request waits for RESPOND_IF_READY. -/
theorem State.spdmSigned_later (hid : s.identity = true) (hb : s.snapBlocked = true) :
    s.spdmSigned e c k = (s.setConn { c with later := some k }).spdmAnswer e (.error (.responseNotReady 14)) :=
  (if_neg (by rw [hid]; decide)).trans (if_pos hb)

/-- The request waits for the signing unit, with its snapshot. -/
theorem State.spdmSigned_queued (hid : s.identity = true) (hb : s.snapBlocked = false) (hq : s.keys.queue = []) :
    ∃ p, s.spdmSigned e c k =
      (s.setConn { c with later := none }).modKeys fun y => { y with queue := [{ kind := k, snap := some p }] } := by
  obtain ⟨p, hput⟩ := State.signPut_taken (s := s.setConn { c with later := none }) (k := k)
    (x := some ((s.setConn { c with later := none }).snapshot k)) hq (Or.inl rfl)
  refine ⟨p, (if_neg (by rw [hid]; decide)).trans ((if_neg (by rw [hb]; decide)).trans ?_)⟩
  exact (if_neg (by rw [State.signFull_of_empty (by exact hq)]; decide)).trans hput

end

end

/-! ## Measurements (R336, R337) -/

/-- What measurements are taken from is as before: the registers that count no events, which bank a channel goes by, and what is
reached. -/
structure SameMeasured (s t : State) : Prop where
  variant : t.variant = s.variant
  rd : ∀ n i, n.counts = false → t.rd n i = s.rd n i
  ch : ∀ n, t.ch n = s.ch n
  reached : ∀ d, t.reached d = s.reached d

namespace SameMeasured

variable {s t : State} (h : SameMeasured s t)
include h

theorem getF {f : Field} (i : Nat) (hf : f.reg.counts = false) : t.getF f i = s.getF f i := State.getF_eq_of_rd (h.rd _ i hf)

theorem nDies : t.nDies = s.nDies := congrArg Variant.dies h.variant

theorem measuredWord (d w : Nat) : t.measuredWord d w = s.measuredWord d w := by
  rw [State.measuredWord, h.reached, State.measuredWord]

theorem bankBytes (d f : Nat) : t.bankBytes d f = s.bankBytes d f := by
  simp only [State.bankBytes, State.mirrorWord, h.measuredWord, h.rd .FM_ACT _ rfl]

theorem bindBytes (n : Nat) : t.bindBytes n = s.bindBytes n := by
  have hgov : t.govBind n 0 = s.govBind n 0 := by
    unfold State.govBind
    rw [h.ch]
    split <;> rw [h.rd _ _ rfl]
  rw [State.bindBytes, State.bindEffWord, hgov, h.rd .FM_QUOIN_EFF _ rfl, h.measuredWord, State.bindBytes, State.bindEffWord]

theorem treeBytes (d x : Nat) : t.treeBytes d x = s.treeBytes d x := by
  simp only [State.treeBytes, h.rd .TD_REGION _ rfl, h.rd .TD_VERSION _ rfl, h.rd .TD_ROOT _ rfl]

theorem rootedTrees (d : Nat) : t.rootedTrees d = s.rootedTrees d := by
  simp only [State.rootedTrees, h.reached, h.getF (f := Fld.TD_STATE_STATE) _ rfl]

theorem measured (i : Nat) : t.measured i = s.measured i := by
  unfold State.measured
  simp only [h.nDies, h.rd .FU_LC _ rfl, h.rd .FU_COUNTS _ rfl, h.rd .FU_POLICY _ rfl, h.rd .FU_REGIONS _ rfl,
    h.getF (f := Fld.EPOCH_CUR_CURRENT) _ rfl, h.bankBytes, h.bindBytes, h.treeBytes, h.rootedTrees,
    List.flatMap_cons, List.flatMap_nil]

theorem measurement (i : Nat) : t.measurement i = s.measurement i := by
  simp only [State.measurement, State.fwMeas, h.rd .KU_FWMEAS _ rfl, h.measured]

theorem blockIndexes : t.blockIndexes = s.blockIndexes := by
  rw [State.blockIndexes, h.nDies, State.blockIndexes]

theorem blocksFor (i : Nat) : t.blocksFor i = s.blocksFor i := by
  simp only [State.blocksFor, h.blockIndexes, h.measurement]

end SameMeasured

theorem State.count_sameMeasured (s : State) (d e k : Nat) : SameMeasured s (s.count d e k) where
  variant := s.count_variant d e k
  rd n i h := s.count_rd d e k n i h
  ch n := s.count_ch d e k n
  reached x := by
    obtain ⟨-, -, hother, hdie⟩ := s.count_counted d e k
    have hx : (s.count d e k).die x = { s.die x with due := ((s.count d e k).die x).due } := by
      by_cases h : x = d
      · rw [h, ← hdie]
      · rw [hother x h]
    exact State.reached_congr (s.count_variant d e k) (s.count_seq d e k) (by rw [hx]) (by rw [hx])

/-! ## CHALLENGE, GET_MEASUREMENTS and RESPOND_IF_READY of an endpoint that has agreed its algorithms -/

section

variable {s : State} {e : Byte} {c : SpdmConn} (hl : s.mctpLive = true) (hen : s.flag Fld.KU_CTRL_SPDM_EN 0 = true)
  (hc : s.conn e = some c)
include hl hen hc

/-- The measurement summary types are None, TCB and All (R335). -/
theorem exec_spdmChallenge_agreed (n : List Byte) {x : Byte} (hs : c.stage = 3) (hx : x = 0 ∨ x = 1 ∨ x = 0xFF) :
    exec (.spdmChallenge e x n) s = .next (s.spdmHeard.spdmSigned e c (.challenge e x.toNat (sliceB n 0 32))) := by
  have hkind : ¬ (x ≠ 0 ∧ x ≠ 1 ∧ x ≠ 0xFF) := by tauto
  refine congrArg Host.Outcome.next ((s.when_of _ _ hl).trans ?_)
  exact (State.spdmRequest_inOrder hen hc (decide_eq_true hs)).trans (if_neg hkind)

/-- The blocks are listed as before the request was heard. -/
theorem exec_spdmGetMeasurements_unsigned (n : List Byte) {y : Byte} (hs : c.stage = 3)
    (hy : y = 0 ∨ y = 0xFF ∨ y.toNat ∈ s.blockIndexes) : exec (.spdmGetMeasurements e y false n) s =
      .next (s.spdmHeard.spdmAnswer e (.measurements s.blockIndexes.length (s.blocksFor y.toNat) none)) := by
  have hsame := s.count_sameMeasured 0 0x3E9 1
  have hlisted : ¬ (y.toNat ≠ 0 ∧ y.toNat ≠ 0xFF ∧ (!mem y.toNat s.blockIndexes) = true) := by
    rintro ⟨h0, hff, hmem⟩
    rcases hy with rfl | rfl | hy
    · exact h0 rfl
    · exact hff rfl
    · rw [mem_eq_true hy] at hmem
      cases hmem
  refine congrArg Host.Outcome.next ((s.when_of _ _ hl).trans ?_)
  rw [State.spdmRequest_inOrder hen hc (decide_eq_true hs), State.spdmHeard]
  dsimp only
  rw [hsame.blockIndexes, hsame.blocksFor, if_neg hlisted, if_neg (by decide)]

/-- An index that the part does not list is refused. -/
theorem exec_spdmGetMeasurements_unlisted (g : Bool) (n : List Byte) {y : Byte} (hs : c.stage = 3) (h0 : y ≠ 0) (hff : y ≠ 0xFF)
    (hy : y.toNat ∉ s.blockIndexes) :
    exec (.spdmGetMeasurements e y g n) s = .next (s.spdmHeard.spdmAnswer e (.error .invalidRequest)) := by
  have hlisted : y.toNat ≠ 0 ∧ y.toNat ≠ 0xFF ∧ (!mem y.toNat s.spdmHeard.blockIndexes) = true := by
    refine ⟨fun h => h0 (BitVec.eq_of_toNat_eq h), fun h => hff (BitVec.eq_of_toNat_eq h), ?_⟩
    rw [s.spdmHeard_blockIndexes, mem_eq_false hy]
    rfl
  refine congrArg Host.Outcome.next ((s.when_of _ _ hl).trans ?_)
  exact (State.spdmRequest_inOrder hen hc (decide_eq_true hs)).trans (if_pos hlisted)

theorem exec_spdmRespondIfReady_waiting {k : SignKind} (hk : c.later = some k) :
    exec (.spdmRespondIfReady e) s = .next (s.spdmHeard.spdmSigned e c k) := by
  refine congrArg Host.Outcome.next ((s.when_of _ _ hl).trans ?_)
  rw [State.spdmRequest_inOrder hen hc (by rw [hk]; rfl)]
  simp only [hk]

end

/-- Settles O37: GET_VERSION by the connection that it opens; every other request by the connection that it meets, and a signed
one by what the signing unit does with it. -/
theorem spdmRequests : Obligations.SpdmRequests := by
  unfold Obligations.SpdmRequests
  refine ⟨fun e s hl hen hroom => ?_, fun e s hl hen hc hfull => ?_, fun e c s hl hen hc => ?_, fun e c s hl hen hc => ?_,
    fun e x y g n s hl hen r hr => ?_, fun e y n c s hl hen hc hs hy => ?_, fun e y n c s hl hen hc hs h0 hff hy => ?_,
    fun e x n c s hl hen hc hs hx hid hb hq => ?_, fun e x n c s hl hen hc hs hx hid hb => ?_,
    fun e x n c s hl hen hc hs hx hid => ?_, fun e c k s hl hen hc hk hid hb hq => ?_⟩
  · refine ⟨_, exec_spdmGetVersion_opens hl hen hroom, ?_, ?_⟩
    · rw [State.spdmAnswer_conn, State.connOpened_conn, freshConn]
    · rw [State.spdmAnswer_outputs, State.connOpened_outputs, State.spdmHeard_outputs]
  · exact ⟨_, exec_spdmGetVersion_busy hl hen hc hfull, by simp, by simp⟩
  · exact ⟨_, congrArg Host.Outcome.next (s.when_of _ _ hl), State.spdmRequest_stage hen hc 1 2 .capabilities⟩
  · exact ⟨_, congrArg Host.Outcome.next (s.when_of _ _ hl), State.spdmRequest_stage hen hc 2 3 .algorithms⟩
  · exact ⟨_, exec_spdm_disabled hl hen x y g n r hr, by simp, by simp⟩
  · exact ⟨_, exec_spdmGetMeasurements_unsigned hl hen hc n hs hy, by simp, s.spdmHeard_measurements_sameSram _ _ _ _, by simp⟩
  · exact ⟨_, exec_spdmGetMeasurements_unlisted hl hen hc true n hs h0 hff hy, by simp⟩
  · obtain ⟨p, hp⟩ := State.spdmSigned_queued (s := s.spdmHeard) (e := e) (c := c) (k := .challenge e x.toNat (sliceB n 0 32))
      (by simpa using hid) (by simpa using hb) (by simpa using hq)
    exact ⟨_, (exec_spdmChallenge_agreed hl hen hc n hs hx).trans (congrArg _ hp), s.spdmHeard_outputs, p, rfl⟩
  · refine ⟨_, (exec_spdmChallenge_agreed hl hen hc n hs hx).trans
      (congrArg _ (State.spdmSigned_later (by simpa using hid) (by simpa using hb))), ?_, ?_, ?_⟩
    · rw [State.spdmAnswer_outputs, State.setConn_outputs, State.spdmHeard_outputs]
    · have heid : c.eid = e := State.conn_eid hc
      rw [State.spdmAnswer_conn]
      exact State.setConn_conn ((s.spdmHeard_conn e).trans hc) heid
    · rw [State.spdmAnswer_keys, State.setConn_queue, State.spdmHeard_keys]
  · exact ⟨_, (exec_spdmChallenge_agreed hl hen hc n hs hx).trans
      (congrArg _ (State.spdmSigned_noIdentity (by simpa using hid))), by simp⟩
  · obtain ⟨p, hp⟩ := State.spdmSigned_queued (s := s.spdmHeard) (e := e) (c := c) (k := k)
      (by simpa using hid) (by simpa using hb) (by simpa using hq)
    have heid : c.eid = e := State.conn_eid hc
    refine ⟨_, (exec_spdmRespondIfReady_waiting hl hen hc hk).trans (congrArg _ hp), ?_, p, rfl⟩
    exact State.setConn_conn (c' := { c with later := none }) ((s.spdmHeard_conn e).trans hc) heid

end Sys2Proof.Machine

namespace Sys2Proof.Machine

/-! # MCTP control and the signing unit (R329, R333, R335, R337) -/

section

variable {s : State}

/-! ## MCTP control (R333) -/

section

variable (hl : s.mctpLive = true)
include hl

theorem exec_setEndpointId_kept {e : Byte} (h0 : e ≠ 0) (hff : e ≠ 0xFF) : exec (.setEndpointId e) s =
    .next ((s.modKeys fun k => { k with eid := e }).emit (.mctp 0x01 [0, 0, e, 0])) :=
  congrArg Host.Outcome.next ((s.when_of _ _ hl).trans (if_neg (not_or.mpr ⟨h0, hff⟩)))

theorem exec_setEndpointId_invalid {e : Byte} (h : e = 0 ∨ e = 0xFF) :
    exec (.setEndpointId e) s = .next (s.emit (.mctp 0x01 [2])) :=
  congrArg Host.Outcome.next ((s.when_of _ _ hl).trans (if_pos h))

theorem exec_getEndpointId_answers : exec .getEndpointId s = .next (s.emit (.mctp 0x02 [0, s.keys.eid, 0, 0])) :=
  congrArg Host.Outcome.next (s.when_of _ _ hl)

theorem exec_getMessageTypeSupport_answers : exec .getMessageTypeSupport s = .next (s.emit (.mctp 0x05 [0, 2, 0x00, 0x05])) :=
  congrArg Host.Outcome.next (s.when_of _ _ hl)

theorem exec_getMctpVersionSupport_answers :
    exec .getMctpVersionSupport s = .next (s.fresh.2.emit (.mctp 0x04 ([0, 1] ++ beBytes 4 s.fresh.1.toNat))) :=
  congrArg Host.Outcome.next (s.when_of _ _ hl)

end

/-! ## A signed response (R335, R337) -/

/-- An elliptic-curve signature has taken its random value, and is counted (event 0x3E6). -/
def State.signedE (s : State) : State := ({ s with free := s.free + 1 } : State).count 0 0x3E6 1

theorem State.signE_state (s : State) (c : Digest) (m : List Byte) : (s.signE c m).2 = s.signedE := rfl

theorem State.signedE_variant (s : State) : s.signedE.variant = s.variant := State.count_variant _ _ _ _
theorem State.signedE_seq (s : State) : s.signedE.seq = s.seq := State.count_seq _ _ _ _
@[simp] theorem State.signedE_keys (s : State) : s.signedE.keys = s.keys := State.count_keys _ _ _ _
@[simp] theorem State.signedE_outputs (s : State) : s.signedE.outputs = s.outputs := State.count_outputs _ _ _ _
theorem State.signedE_sameSram (s : State) : s.SameSram s.signedE := State.count_sameSram _ 0 0x3E6 1

/-- The signed answer goes to its connection, over the nonce drawn first; the signature is some string. -/
theorem State.spdmSign_answers {e : Byte} (c : Digest) (n p : List Byte) (b : Bool) (hc : (s.conn e).isSome = true)
    (hl : s.hifLive = true) : ∃ g, s.spdmSign c e n p b = s.draw.2.signedE.spdmAnswer e
      (if b then .challengeAuth (if p = [] then none else some p) (sliceB (digestOf s.draw.1) 0 32) g
        else .measurements s.blockIndexes.length (snapBlocks p) (some (sliceB (digestOf s.draw.1) 0 32, g))) := by
  have hlive : s.draw.2.signedE.hifLive = true := by
    rw [State.hifLive, State.stopped, State.signedE_seq]
    exact hl
  have hconn : (s.draw.2.signedE.conn e).isNone = false := by
    rw [State.conn_congr (State.signedE_keys _), ← Option.not_isSome]
    exact congrArg Bool.not hc
  have hblocks : s.draw.2.signedE.blockIndexes = s.blockIndexes := by
    rw [State.blockIndexes, State.nDies, State.signedE_variant]
    rfl
  refine ⟨(s.draw.2.signE c (Config.spdmTranscript (n ++ sliceB (digestOf s.draw.1) 0 32 ++ p))).1, ?_⟩
  unfold State.spdmSign
  dsimp only
  rw [State.signE_state, hblocks, hconn, hlive, if_neg (by decide)]
  cases b
  · rw [if_neg (by decide), if_neg (by decide)]
  · rw [if_pos rfl, if_pos rfl]

/-! ## The unit finishes the request at the front -/

/-- The front request has left the queue. -/
def State.signTaken (s : State) (l : List SignReq) : State := s.modKeys fun k => { k with queue := l }

/-- The SPDM request that a signature answers: its endpoint, its nonce, and whether it is CHALLENGE. -/
def SignKind.spdm (k : SignKind) : Option (Byte × List Byte × Bool) :=
  match k with
  | .challenge e _ n => some (e, n, true)
  | .measure e _ n => some (e, n, false)
  | .evidence .. => none

section

variable {m : MemAccess} {p : List Byte} (hl : s.platLive = true)
include hl

/-- Nothing waits for a signature. -/
theorem exec_signingComplete_empty (hq : s.keys.queue = []) : exec (.signingComplete m) s = .next s := by
  refine congrArg Host.Outcome.next ((s.when_of _ _ hl).trans ?_)
  simp only [State.signFinish, State.signTake_empty hq, hq]

/-- The one SPDM request of the queue is signed over its snapshot. -/
theorem exec_signingComplete_signs {k : SignKind} {e : Byte} {n : List Byte} {b : Bool} {c : Digest}
    (hk : k.spdm = some (e, n, b)) (hq : s.keys.queue = [{ kind := k, snap := some p }]) (hc : s.keys.cdi0 = some c)
    (hid : s.identity = true) :
    exec (.signingComplete m) s = .next ((s.signTaken []).spdmSign c e n p b).signTake := by
  have hid' : (s.modKeys fun k => { k with queue := [] }).identity = true := hid
  refine congrArg Host.Outcome.next ((s.when_of _ _ hl).trans ?_)
  cases k <;> cases hk <;>
    simp [State.signFinish, State.signTake_taken hq rfl, hq, hc, hid', State.signTaken]

/-- Without an identity it is answered Unspecified. -/
theorem exec_signingComplete_noIdentity {k : SignKind} {e : Byte} {n : List Byte} {b : Bool}
    (hk : k.spdm = some (e, n, b)) (hq : s.keys.queue = [{ kind := k, snap := some p }]) (hid : s.identity = false) :
    exec (.signingComplete m) s = .next ((s.signTaken []).spdmAnswer e (.error .unspecified)).signTake := by
  have hid' : (s.modKeys fun k => { k with queue := [] }).identity = false := hid
  refine congrArg Host.Outcome.next ((s.when_of _ _ hl).trans ?_)
  cases k <;> cases hk <;>
    simp [State.signFinish, State.signTake_taken hq rfl, hq, hid', State.signTaken]

end

/-! ## A signed SPDM answer (R337) -/

section

variable {m : MemAccess} {k : SignKind} {e : Byte} {n p : List Byte} {b : Bool} (hl : s.platLive = true)
  (hk : k.spdm = some (e, n, b)) (hq : s.keys.queue = [{ kind := k, snap := some p }])
include hl hk hq

/-- The one SPDM request of the queue is answered from its snapshot. -/
theorem exec_signingComplete_answers {c : Digest} (hh : s.hifLive = true) (hc : s.keys.cdi0 = some c) (hid : s.identity = true)
    (hconn : (s.conn e).isSome = true) :
    RunsTo (.signingComplete m) s fun t => t.keys = { s.keys with queue := [] } ∧
      ∃ g, t = (s.signTaken []).draw.2.signedE.spdmAnswer e
      (if b then .challengeAuth (if p = [] then none else some p) (sliceB (digestOf s.draw.1) 0 32) g
        else .measurements s.blockIndexes.length (snapBlocks p) (some (sliceB (digestOf s.draw.1) 0 32, g))) := by
  obtain ⟨g, hg⟩ := State.spdmSign_answers (s := s.signTaken []) c n p b hconn hh
  have hkeys : ((s.signTaken []).spdmSign c e n p b).keys = { s.keys with queue := [] } := by
    rw [hg, State.spdmAnswer_keys, State.signedE_keys]
    rfl
  have hexec := exec_signingComplete_signs (m := m) hl hk hq hc hid
  rw [State.signTake_empty (by rw [hkeys])] at hexec
  exact ⟨_, hexec, hkeys, g, hg⟩

end

end

/-- Settles O36, by what each control command answers and by what the unit does with the one request of its queue. -/
theorem mctpAndSigning : Obligations.MctpAndSigning := by
  unfold Obligations.MctpAndSigning
  refine ⟨fun e s hl h0 hff => ⟨_, exec_setEndpointId_kept hl h0 hff, rfl, rfl⟩,
    fun e s hl h => ⟨_, exec_setEndpointId_invalid hl h, rfl⟩, fun s hl => exec_getEndpointId_answers hl,
    fun s hl => exec_getMessageTypeSupport_answers hl, fun s hl => ⟨_, exec_getMctpVersionSupport_answers hl, rfl, _, rfl⟩,
    fun m s hl hq => exec_signingComplete_empty hl hq, fun a e i n p c s hl hh hq hc hid hconn => ?_,
    fun a e m n p c s hl hh hq hc hid hconn => ?_, fun a e m n p s hl hq hid => ?_⟩
  · obtain ⟨t, ht, hkeys, g, rfl⟩ := exec_signingComplete_answers (m := a) (k := .measure e i n) hl rfl hq hh hc hid hconn
    refine ⟨_, ht, hkeys, State.signedE_sameSram (s.signTaken []).draw.2, g, ?_⟩
    rw [State.spdmAnswer_outputs, State.signedE_outputs, if_neg (by decide)]
    rfl
  · obtain ⟨t, ht, hkeys, g, rfl⟩ := exec_signingComplete_answers (m := a) (k := .challenge e m n) hl rfl hq hh hc hid hconn
    refine ⟨_, ht, hkeys, g, ?_⟩
    rw [State.spdmAnswer_outputs, State.signedE_outputs, if_pos rfl]
    rfl
  · have hkeys : ((s.signTaken []).spdmAnswer e (.error .unspecified)).keys = { s.keys with queue := [] } :=
      State.spdmAnswer_keys _ _ _
    have hexec := exec_signingComplete_noIdentity (m := a) (k := .challenge e m n) hl rfl hq hid
    rw [State.signTake_empty (by rw [hkeys])] at hexec
    exact ⟨_, hexec, hkeys, State.spdmAnswer_outputs _ _ _⟩

end Sys2Proof.Machine

namespace Sys2Proof.Machine

/-! # Leases (R338 to R340, R368) -/

section

variable {f : FnId} {q : PairId} {n : Nat} {c : RingCmd} {s : State} (hh : s.hifLive = true) (hp : s.platLive = true)
include hh hp

/-! ## The key unit takes a ring command that may begin -/

theorem exec_leaseOpen_taken (hc : s.ringCmd f.val q.val n (fun op => decide (op = 0x09)) = some c) :
    exec (.leaseOpen f q n) s = .next (s.leaseStart (pairNo f.val q.val) c) := by
  refine congrArg Host.Outcome.next ((s.when_of _ _ (by rw [hh, hp]; rfl)).trans ?_)
  simp only [hc]

theorem exec_leaseClose_taken (hc : s.ringCmd f.val q.val n (fun op => decide (op = 0x0A)) = some c) :
    exec (.leaseClose f q n) s = .next (s.leaseEnd (pairNo f.val q.val) c) := by
  refine congrArg Host.Outcome.next ((s.when_of _ _ (by rw [hh, hp]; rfl)).trans ?_)
  simp only [hc]

theorem exec_leaseEvidence_taken (hc : s.ringCmd f.val q.val n (fun op => decide (op = 0x0B)) = some c) :
    exec (.leaseEvidence f q n) s = .next (s.leaseEvidence f.val q.val c) := by
  refine congrArg Host.Outcome.next ((s.when_of _ _ (by rw [hh, hp]; rfl)).trans ?_)
  simp only [hc]

end

section

variable {p f q g m : Nat} {c : RingCmd} {s : State}

/-! ## LEASE_OPEN (R338) -/

/-- A mask that names a channel of no present die is refused. -/
theorem State.leaseStart_beyond (h : 2 ^ (8 * s.nDies) ≤ subArg c.words 1 + 2 ^ 32 * subArg c.words 2) :
    s.leaseStart p c = s.ringEnd p c.serial 0 0 2 := if_pos (Or.inr (Or.inr h))

/-- LEASE_OPEN names function g, which may hold a lease, and channels of present dies. -/
structure State.LeaseNamed (s : State) (c : RingCmd) (g m : Nat) : Prop where
  fn : g = bitsOf (subArg c.words 0) 0 8
  mask : m = subArg c.words 1 + 2 ^ 32 * subArg c.words 2
  vf : g ≠ 0
  live : s.fnLive g = true
  present : m < 2 ^ (8 * s.nDies)

theorem State.LeaseNamed.not_refused (h : s.LeaseNamed c g m) : ¬ (bitsOf (subArg c.words 0) 0 8 = 0 ∨
    (!s.fnLive (bitsOf (subArg c.words 0) 0 8)) = true ∨
    2 ^ (8 * s.nDies) ≤ subArg c.words 1 + 2 ^ 32 * subArg c.words 2) := by
  rw [← h.fn, ← h.mask, h.live]
  simp [h.vf, h.present]

/-- A function has one lease at most. -/
theorem State.leaseStart_second (h : s.LeaseNamed c g m) (hl : (s.leaseOf g).isSome = true) :
    s.leaseStart p c = s.ringEnd p c.serial 2 0 7 := by
  rw [h.fn] at hl
  exact (if_neg h.not_refused).trans (if_pos hl)

/-- The lease that LEASE_OPEN opens for function g over the channels of a mask. -/
def State.newLease (s : State) (g m : Nat) : Lease :=
  { fn := g, id := s.keys.nextLease, mask := m, otOpen := s.ot, otMark := s.ot, marks := 0 }

/-- The lease is open, and the next LEASE_ID follows. -/
def State.leaseOpened (s : State) (g m : Nat) : State :=
  (s.modKeys fun k => { k with leases := k.leases ++ [s.newLease g m], nextLease := (s.keys.nextLease + 1) % 2 ^ 32 }).showLeases

theorem State.leaseStart_opens (h : s.LeaseNamed c g m) (hl : s.leaseOf g = none) :
    s.leaseStart p c = (s.leaseOpened g m).ringEnd p c.serial (BitVec.ofNat 32 s.keys.nextLease) 0 0 := by
  obtain ⟨rfl, rfl, -, -, -⟩ := id h
  exact (if_neg h.not_refused).trans (if_neg (by simp [hl]))

/-! ## LEASE_CLOSE (R338) -/

theorem State.ringEnd_leaseOf (s : State) (p k : Nat) (r0 r1 : Word) (st x : Nat) :
    (s.ringEnd p k r0 r1 st).leaseOf x = s.leaseOf x := rfl

theorem State.leaseEnd_none (hl : s.leaseOf (bitsOf (subArg c.words 0) 0 8) = none) :
    s.leaseEnd p c = s.ringEnd p c.serial 3 0 7 := if_pos (by rw [hl]; rfl)

/-- The lease of function g is closed; no evidence waits. -/
def State.leaseClosed (s : State) (g : Nat) : State :=
  (s.modKeys fun k => { k with leases := k.leases.filter fun l => decide (l.fn ≠ g), queue := [] }).showLeases

theorem State.leaseEnd_closes (hq : s.keys.queue = []) (hl : (s.leaseOf (bitsOf (subArg c.words 0) 0 8)).isSome = true) :
    s.leaseEnd p c = (s.leaseClosed (bitsOf (subArg c.words 0) 0 8)).ringEnd p c.serial 0 0 0 := by
  have hopen : ¬ (s.leaseOf (bitsOf (subArg c.words 0) 0 8)).isNone = true := by simpa using Option.isSome_iff_ne_none.mp hl
  refine (if_neg hopen).trans ?_
  simp only [hq, List.filter_nil, List.foldl_nil, State.leaseClosed, State.modKeys]

theorem State.leaseClosed_same : (s.leaseClosed g).leaseOf g = none :=
  List.find?_eq_none.mpr fun l hl => by simpa using (List.mem_filter.mp hl).2

theorem State.leaseClosed_other {x : Nat} (h : x ≠ g) : (s.leaseClosed g).leaseOf x = s.leaseOf x := by
  refine (List.find?_filter ..).trans (List.find?_congr fun l _ => ?_)
  by_cases hx : l.fn = x <;> simp [hx, h]

/-! ## LEASE_EVIDENCE (R340) -/

/-- A virtual function asks for evidence of its own lease, with room for the answer. -/
structure State.EvidenceAsked (s : State) (c : RingCmd) (f : Nat) : Prop where
  room : bufOk c.words 4992 = true
  vf : f ≠ 0
  lease : (s.leaseOf f).isSome = true

theorem State.EvidenceAsked.leased (h : s.EvidenceAsked c f) : (s.leaseOf f).isNone = false := by
  rw [← Option.not_isSome, h.lease]
  rfl

theorem State.leaseEvidence_refused (h : s.EvidenceAsked c f) (hid : s.identity = false) :
    s.leaseEvidence f q c = (s.report 0 0x7004 s.kuDie).ringEnd (pairNo f q) c.serial 1 0 7 := by
  simp [State.leaseEvidence, h.room, h.vf, h.leased, hid, State.evidenceRefuse, State.kuFault]

/-- The request for evidence that the signing unit gets. -/
def evidenceKind (f q : Nat) (c : RingCmd) : SignKind :=
  .evidence f q c.serial f ((List.range 8).flatMap fun k => leBytes 4 (subArg c.words (2 + k))) (bitsOf (subArg c.words 1) 0 2)

theorem State.leaseEvidence_queued (h : s.EvidenceAsked c f) (hid : s.identity = true)
    (hs : s.sigsBad (bitsOf (subArg c.words 1) 0 2) = false) (hfull : s.signFull = false) :
    s.leaseEvidence f q c = (s.ringBegin (pairNo f q) c.serial).signPut (evidenceKind f q c) none := by
  simp [State.leaseEvidence, h.room, h.vf, h.leased, hid, hs, hfull, evidenceKind]

theorem State.ringBegin_snapBlocked (s : State) (p serial : Nat) : (s.ringBegin p serial).snapBlocked = s.snapBlocked :=
  State.snapBlocked_congr rfl (fun i => State.rd_setF _ Fld.HI_STATUS_PAIRS _ 0 i _ (by decide))
    fun i => State.rd_setF _ Fld.HI_STATUS_PAIRS _ 0 i _ (by decide)

end

/-- Settles O38, by what each ring command of the key unit does once it is taken. -/
theorem leases : Obligations.Leases := by
  unfold Obligations.Leases
  refine ⟨fun f q n c g m s hh hp hc hg hm h0 hf hmask hl => ?_, fun f q n c s hh hp hc hf h0 hmask hl => ?_,
    fun f q n c s hh hp hc hmask => ?_, fun f q n c s hh hp hc hq hl => ?_, fun f q n c s hh hp hc hl => ?_,
    fun f q n c s hh hp hc hb h0 hl hid => ?_, fun f q n c s hh hp hc hb h0 hl hid hs hq hblock => ?_⟩
  · exact ⟨_, (exec_leaseOpen_taken hh hp hc).trans (congrArg _ (State.leaseStart_opens ⟨hg, hm, h0, hf, hmask⟩ hl)), rfl, rfl, rfl⟩
  · exact (exec_leaseOpen_taken hh hp hc).trans (congrArg _ (State.leaseStart_second ⟨rfl, rfl, h0, hf, hmask⟩ hl))
  · exact (exec_leaseOpen_taken hh hp hc).trans (congrArg _ (State.leaseStart_beyond hmask))
  · refine ⟨_, (exec_leaseClose_taken hh hp hc).trans (congrArg _ (State.leaseEnd_closes hq hl)), ?_, fun g hg => ?_, rfl⟩
    · rw [State.ringEnd_leaseOf, State.leaseClosed_same]
    · rw [State.ringEnd_leaseOf, State.leaseClosed_other hg]
  · exact (exec_leaseClose_taken hh hp hc).trans (congrArg _ (State.leaseEnd_none hl))
  · exact (exec_leaseEvidence_taken hh hp hc).trans (congrArg _ (State.leaseEvidence_refused ⟨hb, h0, hl⟩ hid))
  · obtain ⟨x, hput⟩ := State.signPut_taken (s := s.ringBegin (pairNo f.val q.val) c.serial)
      (k := evidenceKind f.val q.val c)
      (x := none) hq (Or.inr ((s.ringBegin_snapBlocked _ _).trans hblock))
    have hqueued := State.leaseEvidence_queued (q := q.val) ⟨hb, h0, hl⟩ hid hs (State.signFull_of_empty hq)
    exact ⟨_, (exec_leaseEvidence_taken hh hp hc).trans (congrArg _ (hqueued.trans hput)), rfl, x, rfl⟩

end Sys2Proof.Machine

namespace Sys2Proof.Machine

/-! # What a write of the vault leaves alone

Erases and programs of the vault, the maps and spares behind them, the health records and the folio touch neither the keys nor
core SRAM nor the directory, take back nothing that was sent out, and of the registers only a few. -/

/-- The keys, core SRAM, the directory and the registers outside `l` are as before, and what was sent out stays so. -/
structure VaultKept (l : List RegName) (s t : State) : Prop where
  variant : t.variant = s.variant
  sram : t.sram = s.sram
  keys : t.keys = s.keys
  directory : t.vault.directory = s.vault.directory
  outputs : s.outputs <+: t.outputs
  rd : ∀ n i, n.counts = false → n ∉ l → t.rd n i = s.rd n i

namespace VaultKept

variable {l : List RegName} {r s t : State}

theorem refl (s : State) : VaultKept l s s := ⟨rfl, rfl, rfl, rfl, List.prefix_rfl, fun _ _ _ _ => rfl⟩

theorem trans (h1 : VaultKept l r s) (h2 : VaultKept l s t) : VaultKept l r t where
  variant := h2.variant.trans h1.variant
  sram := h2.sram.trans h1.sram
  keys := h2.keys.trans h1.keys
  directory := h2.directory.trans h1.directory
  outputs := h1.outputs.trans h2.outputs
  rd n i hc hn := (h2.rd n i hc hn).trans (h1.rd n i hc hn)

theorem ite {c : Prop} [Decidable c] (h1 : VaultKept l r s) (h2 : VaultKept l r t) : VaultKept l r (if c then s else t) := by
  split
  · exact h1
  · exact h2

theorem getF (h : VaultKept l s t) {f : Field} (i : Nat) (hc : f.reg.counts = false) (hn : f.reg ∉ l) :
    t.getF f i = s.getF f i := State.getF_eq_of_rd (h.rd _ i hc hn)

theorem flag (h : VaultKept l s t) {f : Field} (i : Nat) (hc : f.reg.counts = false) (hn : f.reg ∉ l) :
    t.flag f i = s.flag f i := State.flag_congr (h.rd _ i hc hn)

theorem emit (h : VaultKept l r s) {o : Output} : VaultKept l r (s.emit o) :=
  h.trans ⟨rfl, rfl, rfl, rfl, List.prefix_append _ _, fun _ _ _ _ => rfl⟩

theorem modVault (h : VaultKept l r s) {f : Vault → Vault} (hf : ∀ x, (f x).directory = x.directory) :
    VaultKept l r (s.modVault f) :=
  h.trans ⟨rfl, rfl, rfl, hf _, List.prefix_rfl, fun _ _ _ _ => rfl⟩

theorem modDie (h : VaultKept l r s) {d : Nat} {f : Die → Die} : VaultKept l r (s.modDie d f) :=
  h.trans ⟨rfl, rfl, rfl, rfl, List.prefix_rfl, fun _ _ _ _ => rfl⟩

theorem modFolio (h : VaultKept l r s) {f : Folio → Folio} : VaultKept l r (s.modFolio f) :=
  h.trans ⟨rfl, rfl, rfl, rfl, List.prefix_rfl, fun _ _ _ _ => rfl⟩

theorem setF (h : VaultKept l r s) {f : Field} {i x : Nat} (hn : f.reg ∈ l) : VaultKept l r (s.setF f i x) :=
  h.trans ⟨rfl, rfl, rfl, rfl, List.prefix_rfl, fun n j _ hm => State.rd_setF s f n i j x fun he => hm (he ▸ hn)⟩

theorem forEach (h : VaultKept l r s) {f : State → Nat → State} {ns : List Nat}
    (hf : ∀ {s : State} k, VaultKept l r s → VaultKept l r (f s k)) : VaultKept l r (s.forEach ns f) :=
  List.foldlRecOn ns f h fun _ hs k _ => hf k hs

theorem makeRecords (h : VaultKept l r s) {d : Nat} : VaultKept l r (s.makeRecords d) := by
  refine h.forEach fun k hs => ?_
  split
  · exact hs.modDie
  · exact hs

theorem mapBlock (h : VaultKept l r s) {v j p : Nat} : VaultKept l r (s.mapBlock v j p) :=
  (h.modVault (by intro; rfl)).emit.emit

/-! ## Writes that may be reported -/

section

variable (hl : faultRegs ⊆ l)
include hl

theorem report (h : VaultKept l r s) {d code source : Nat} : VaultKept l r (s.report d code source) :=
  h.trans ⟨State.report_variant .., State.report_sram .., State.report_keys .., congrArg Vault.directory (State.report_vault ..),
    (State.report_outputs ..).symm ▸ List.prefix_rfl, fun n i hc hn => State.report_rd_plain _ _ _ _ n i hc fun hf => hn (hl hf)⟩

theorem takeSpare (h : VaultKept l r s) {d v p : Nat} : VaultKept l r (s.takeSpare d v p) := by
  have htaken : VaultKept l r (s.modVault fun x =>
      { x with freed := Tbl.set x.freed v ((Tbl.get x.freed v []).filter fun q => decide (q ≠ p)) []
               taken := Tbl.set x.taken v (Tbl.get x.taken v [] ++ [p]) [] }) := h.modVault (by intro; rfl)
  exact ite ((htaken.modVault (by intro; rfl)).report hl) htaken

theorem retireBlock (h : VaultKept l r s) {d v j : Nat} (ht : s.retireBlock d v j = some t) : VaultKept l r t := by
  unfold State.retireBlock at ht
  split at ht
  · cases ht
  · split at ht
    · cases ht
    · cases ht
      exact (mapBlock (h.takeSpare hl).emit).report hl

theorem vaultProgram {d v addr : Nat} {bytes : List Byte} (ws : List Bool) :
    ∀ {s : State}, VaultKept l r s → VaultKept l r (s.vaultProgram d v addr bytes ws).2.2 := by
  induction ws with
  | nil => exact fun h => h.emit
  | cons w ws ih =>
    intro s h
    cases w with
    | true => exact h.emit
    | false =>
      unfold State.vaultProgram
      split
      · exact h.emit.report hl
      · rename_i t ht
        exact ih (h.emit.retireBlock hl ht)

theorem eraseBlocks {d v : Nat} (ws : List Bool) :
    ∀ {js : List Nat} {s : State}, VaultKept l r s → VaultKept l r (s.eraseBlocks d v ws js).2.2 := by
  induction ws with
  | nil =>
    intro js s h
    rw [State.eraseBlocks]
    exact h
  | cons w ws ih =>
    intro js s h
    cases js with
    | nil =>
      rw [State.eraseBlocks]
      · exact h
      · exact List.cons_ne_nil _ _
    | cons j js =>
      cases w with
      | true => exact ih h
      | false =>
        unfold State.eraseBlocks
        split
        · exact h.report hl
        · rename_i t ht
          exact ih (h.retireBlock hl ht)

theorem eraseSpan (h : VaultKept l r s) {d v : Nat} {x : Nat × Nat} {ws : List Bool} :
    VaultKept l r (s.eraseSpan d v x ws).2.2 := eraseBlocks hl ws h.emit

theorem mapFactoryBad (h : VaultKept l r s) {bad : List (Fin 4 × Nat)} : VaultKept l r (s.mapFactoryBad bad) := by
  refine List.foldlRecOn _ _ h fun s hs x _ => ?_
  dsimp only
  refine ite hs (ite (hs.takeSpare hl) ?_)
  split
  · exact hs.report hl
  · exact (hs.takeSpare hl).mapBlock

/-- A record of the folio. -/
theorem append (hf : RegName.FO_STATUS ∈ l) (h : VaultKept l r s) {typ : Nat} {body : List Byte} :
    VaultKept l r (s.append typ body) :=
  State.append_keeps (P := VaultKept l r) (fun _ _ h => h.modFolio) (fun _ _ _ hr h => h.setF (hr ▸ hf))
    (fun _ h => h.report hl) h _ _

end

theorem eachDev {f : State → Nat → List Bool → Bool × List Bool × State} (h : VaultKept l r s) {devs : List Nat} {ws : List Bool}
    (hf : ∀ {s : State} v ws, VaultKept l r s → VaultKept l r (f s v ws).2.2) : VaultKept l r (s.eachDev devs ws f).2.2 :=
  List.foldlRecOn (motive := fun a : Bool × List Bool × State => VaultKept l r a.2.2) devs _ h fun _ ha v _ => hf v _ ha

theorem nextGen (h : VaultKept l r s) {d kind : Nat} : VaultKept l r (s.nextGen d kind).2 := by
  unfold State.nextGen
  dsimp only
  exact h.modDie

theorem vaultShows (hn : RegName.MC_STATUS ∈ l) (h : VaultKept l r s) {v : Nat} : VaultKept l r (s.vaultShows v) :=
  h.forEach fun _ hs => hs.setF hn

theorem healthAfresh (hm : RegName.MC_STATUS ∈ l) (hc : RegName.CR_STATE ∈ l) (h : VaultKept l r s) :
    VaultKept l r s.healthAfresh :=
  forEach (h.modVault (by intro; rfl)) fun _ hs => makeRecords (forEach (setF (hs.modDie) hm) fun _ hs => hs.setF hc)

theorem kuDone (hn : RegName.KU_CMD_STATUS ∈ l) (h : VaultKept l r s) {x : Nat} : VaultKept l r (s.kuDone x) :=
  setF (setF h hn) hn

end VaultKept

/-! # The key unit's registers (R328, R342, R343) -/

section

variable (s : State)

/-! ## How a command ends -/

theorem State.kuDone_rd (x : Nat) {n : RegName} (i : Nat) (h : n ≠ .KU_CMD_STATUS) : (s.kuDone x).rd n i = s.rd n i :=
  (State.rd_setF _ _ _ _ _ _ h).trans (State.rd_setFlag _ _ _ _ _ _ h)

theorem State.kuDone_result {x : Nat} (h : x < 16) : (s.kuDone x).getF Fld.KU_CMD_STATUS_RESULT 0 = x :=
  (State.getF_setF_same _ _ _ _ (by decide)).trans (Nat.mod_eq_of_lt h)

theorem State.kuDone_done (x : Nat) : (s.kuDone x).flag Fld.KU_CMD_STATUS_DONE 0 = true :=
  (State.flag_setF_apart _ _ _ _ _ _ (by decide) (by decide)).trans
    (State.flag_setFlag_same _ _ _ _ (by decide) (by decide))

/-! ## Bytes in word registers -/

theorem State.putBytes_regs (n : RegName) (i words : Nat) (b : List Byte) :
    ∃ f, s.putBytes n i words b = { s with regs := f } :=
  List.foldlRecOn (motive := fun t : State => ∃ f, t = { s with regs := f }) _ _ ⟨s.regs, rfl⟩ fun _ ⟨f, hf⟩ _ _ => by
    rw [hf]
    exact ⟨_, rfl⟩

theorem State.putBytes_rd_other {n m : RegName} (i words : Nat) (b : List Byte) (j : Nat) (h : m ≠ n) :
    (s.putBytes n i words b).rd m j = s.rd m j :=
  List.foldlRecOn (motive := fun t : State => t.rd m j = s.rd m j) _ _ rfl fun _ ht _ _ =>
    (State.rd_wr_name _ _ _ _ _ _ h).trans ht

/-- Word k holds bytes 4 k to 4 k + 3, the least significant first. -/
theorem State.putBytes_rd (n : RegName) (i : Nat) (b : List Byte) {words k : Nat} (h : k < words) :
    (s.putBytes n i words b).rd n (i + k) = BitVec.ofNat 32 (ofLe (sliceB b (4 * k) 4)) := by
  induction words with
  | zero => omega
  | succ w ih =>
    rw [State.putBytes, State.forEach, List.range_succ, List.foldl_append, List.foldl_cons, List.foldl_nil]
    by_cases hk : k = w
    · rw [hk, State.rd_wr_same]
    · rw [State.rd_wr_other _ _ _ _ _ _ (Or.inr (by omega))]
      exact ih (by omega)

/-! ## What the unit shows of its keys (R326, R343) -/

theorem State.showKeys_keys : s.showKeys.keys = s.keys := by rw [s.showKeys_onlyRegs.1]

/-- The key digests stand in registers of their own. -/
theorem State.showKeys_status : s.showKeys.rd .KU_STATUS 0 =
    ((s.setFlag Fld.KU_STATUS_IDENTITY 0 s.identity).setFlag Fld.KU_STATUS_STANDBY_OK 0 s.keys.holds1).rd .KU_STATUS 0 := by
  unfold State.showKeys
  dsimp only
  split
  · split
    · rw [State.putBytes_rd_other _ _ _ _ _ (by decide), State.putBytes_rd_other _ _ _ _ _ (by decide)]
    · rw [State.putBytes_rd_other _ _ _ _ _ (by decide), State.putBytes_rd_other _ _ _ _ _ (by decide)]
  · rw [State.putBytes_rd_other _ _ _ _ _ (by decide), State.putBytes_rd_other _ _ _ _ _ (by decide)]

theorem State.showKeys_identity : s.showKeys.flag Fld.KU_STATUS_IDENTITY 0 = s.identity :=
  (State.flag_congr s.showKeys_status).trans ((State.flag_setFlag_apart _ _ _ _ _ _ (by decide) (by decide)).trans
    (State.flag_setFlag_same _ _ _ _ (by decide) (by decide)))

theorem State.showKeys_standby : s.showKeys.flag Fld.KU_STATUS_STANDBY_OK 0 = s.keys.holds1 :=
  (State.flag_congr s.showKeys_status).trans (State.flag_setFlag_same _ _ _ _ (by decide) (by decide))

theorem State.showKeys_active : s.showKeys.flag Fld.KU_STATUS_ACTIVE_DIE 0 = s.flag Fld.KU_STATUS_ACTIVE_DIE 0 :=
  (State.flag_congr s.showKeys_status).trans ((State.flag_setFlag_apart _ _ _ _ _ _ (by decide) (by decide)).trans
    (State.flag_setFlag_apart _ _ _ _ _ _ (by decide) (by decide)))

end

/-! # The bind nonce (R331, R343) -/

/-- The first bytes of a slice are the list's own. -/
theorem sliceB_prefix (l : List Byte) {m n : Nat} (h : m ≤ n) : sliceB (sliceB l 0 n) 0 m = sliceB l 0 m := by
  have hlen : (l.take n ++ List.replicate (n - (l.take n).length) 0).length = n := by
    rw [List.length_append, List.length_replicate, List.length_take]
    omega
  have hfull : (List.take m (l.take n ++ List.replicate (n - (l.take n).length) 0)).length = m := by
    rw [List.length_take, hlen, Nat.min_eq_left h]
  simp only [sliceB, List.drop_zero]
  rw [hfull, Nat.sub_self, List.replicate_zero, List.append_nil, List.take_append, List.take_take, Nat.min_eq_left h,
    List.take_replicate, List.length_take, List.length_take]
  congr 2
  omega

/-- A fresh nonce has been captured. -/
def State.nonceDrawn (s : State) : State := s.draw.2.modKeys fun k => { k with nonce := some (sliceB (digestOf s.draw.1) 0 32) }

/-- The registers show it. -/
theorem State.readBindNonce_state (s : State) :
    s.readBindNonce.2 = s.nonceDrawn.putBytes .KU_BIND_NONCE 0 8 (sliceB (digestOf s.draw.1) 0 32) := rfl

theorem State.readBindNonce_rest (s : State) : ∃ f, s.readBindNonce.2 = { s.nonceDrawn with regs := f } :=
  State.putBytes_regs s.nonceDrawn _ _ _ _

theorem State.readBindNonce_keys (s : State) :
    s.readBindNonce.2.keys = { s.keys with nonce := some (sliceB (digestOf s.draw.1) 0 32) } := by
  obtain ⟨f, hf⟩ := s.readBindNonce_rest
  rw [hf]
  rfl

theorem State.readBindNonce_outputs (s : State) : s.readBindNonce.2.outputs = s.outputs := by
  obtain ⟨f, hf⟩ := s.readBindNonce_rest
  rw [hf]
  rfl

/-- The word at 0x8020 is the first of the nonce that the read captures. -/
theorem State.readBindNonce_word (s : State) :
    s.readBindNonce.1 = BitVec.ofNat 32 (ofLe (sliceB (digestOf s.draw.1) 0 4)) := by
  have hword := s.nonceDrawn.putBytes_rd .KU_BIND_NONCE 0 (sliceB (digestOf s.draw.1) 0 32) (words := 8) (k := 0) (by decide)
  rw [Nat.mul_zero, Nat.add_zero, sliceB_prefix _ (by decide)] at hword
  have hread : s.readBindNonce.1 = s.readBindNonce.2.rd .KU_BIND_NONCE 0 := by
    unfold State.readBindNonce
    dsimp only
  rw [hread, s.readBindNonce_state, hword]

theorem State.readBindNonce_sameSram (s : State) : s.SameSram s.readBindNonce.2 := by
  have hlock : s.readBindNonce.2.rd .BT_LOCK 0 = s.rd .BT_LOCK 0 := State.putBytes_rd_other _ 0 8 _ 0 (by decide)
  obtain ⟨f, hf⟩ := s.readBindNonce_rest
  exact State.sameSram_of (by rw [hf]; rfl) (fun d => by rw [hf]; rfl) hlock

theorem State.SameSram.emit {s t : State} (h : s.SameSram t) (o : Output) : s.SameSram (t.emit o) := h

theorem State.readBindNonce_answered (s : State) : s.SameSram (State.answer s.readBindNonce) :=
  s.readBindNonce_sameSram.emit _

theorem exec_bindNonceRead_open {req : Requester} {s : State} (h : s.PlatOpen req) :
    exec (.bindNonceRead req) s = .next (State.answer s.readBindNonce) :=
  congrArg Host.Outcome.next (State.platAccess_open _ h)

/-! # The key unit's commands (R330, R342, R343) -/

/-! ## Firmware's stores come first (R285) -/

/-- Stores change core SRAM and the stores that stall. -/
theorem State.stores_eq (s : State) (l : Stores) :
    s.stores l = { s with sram := (s.stores l).sram, boot := (s.stores l).boot } := by
  have hstores : ∃ m b, s.stores l = { s with sram := m, boot := b } :=
    List.foldlRecOn (motive := fun t : State => ∃ m b, t = { s with sram := m, boot := b }) _ _ ⟨s.sram, s.boot, rfl⟩
      fun t ⟨m, b, ht⟩ p _ => by
        rw [ht, State.sentryStore]
        split
        · exact ⟨_, _, rfl⟩
        · exact ⟨_, _, rfl⟩
  obtain ⟨m, b, h⟩ := hstores
  rw [h]

section

variable (s : State) (l : Stores)

theorem State.stores_keys : (s.stores l).keys = s.keys := by rw [State.stores_eq]
theorem State.stores_vault : (s.stores l).vault = s.vault := by rw [State.stores_eq]
theorem State.stores_variant : (s.stores l).variant = s.variant := by rw [State.stores_eq]

theorem State.stores_rd (n : RegName) (i : Nat) : (s.stores l).rd n i = s.rd n i :=
  State.rd_congr (by rw [State.stores_eq]) (s.stores_variant l) n i

theorem State.stores_getF (f : Field) (i : Nat) : (s.stores l).getF f i = s.getF f i :=
  State.getF_eq_of_rd (s.stores_rd l _ _)

theorem State.stores_identity : (s.stores l).identity = s.identity := by
  rw [State.identity, s.stores_keys, State.identity]

end

/-- A write of core SRAM changes nothing else. -/
theorem State.sramStore_eq (s : State) (d a : Nat) (l : List Byte) :
    s.sramStore d a l = { s with sram := (s.sramStore d a l).sram } := by
  have hstore : ∃ m, s.sramStore d a l = { s with sram := m } :=
    List.foldlRecOn (motive := fun t : State => ∃ m, t = { s with sram := m }) _ _ ⟨s.sram, rfl⟩
      fun t ⟨m, ht⟩ p _ => by
        rw [ht]
        exact ⟨_, rfl⟩
  obtain ⟨m, h⟩ := hstore
  rw [h]

/-! ## Who may command (R343) -/

section

variable {req : Requester} {s : State} (ho : s.PlatOpen req) (l : Stores)
include ho

theorem exec_kuDeriveFw_rejected (hreq : fromDie0 req = false) :
    exec (.kuDeriveFw req l) s = .next ((s.stores l).report 0 0x7006 (s.stores l).kuDie) := by
  refine congrArg Host.Outcome.next ((State.platAccess_open _ ho).trans (if_pos ?_))
  rw [hreq]
  rfl

theorem exec_kuBind_rejected (hreq : fromDie0 req = false) (e w : List Bool) (x : List (Fin 4 × Nat)) :
    exec (.kuBind req l e w x) s = .next ((s.stores l).report 0 0x7006 (s.stores l).kuDie) := by
  refine congrArg Host.Outcome.next ((State.platAccess_open _ ho).trans (if_pos ?_))
  rw [hreq]
  rfl

theorem exec_kuDeriveFw_open (hreq : fromDie0 req = true) : exec (.kuDeriveFw req l) s = .next (s.stores l).kuDeriveFw := by
  refine congrArg Host.Outcome.next ((State.platAccess_open _ ho).trans (if_neg ?_))
  rw [hreq]
  decide

theorem exec_kuBind_open (hreq : fromDie0 req = true) (e w : List Bool) (x : List (Fin 4 × Nat)) :
    exec (.kuBind req l e w x) s = .next ((s.stores l).kuBind e w x) := by
  refine congrArg Host.Outcome.next ((State.platAccess_open _ ho).trans (if_neg ?_))
  rw [hreq]
  decide

end

/-! ## DERIVE_FW (R342) -/

section

variable {s : State}

/-- The firmware key of a label (Table 11.1). -/
def State.firmwareKey (s : State) (c : Digest) : List Byte :=
  (hashOf (c ++ ascii "FWKEY" ++ s.sramBytes 0 (s.rd .KU_ARG 0).toNat 16)).take 32

theorem State.kuDeriveFw_derives {c : Digest} (hc : s.keys.cdi1 = some c) (hid : s.identity = true) : s.kuDeriveFw =
    ((s.sramStore 0 ((s.rd .KU_ARG 0).toNat + 0x10) (s.firmwareKey c)).setFlag Fld.KU_STATUS_CDI1 0 true).kuDone 0 := by
  simp only [State.kuDeriveFw, hc, hid, State.firmwareKey]

/-- The key stands behind its label, CDI1 says so, and the command has ended with RESULT 0. -/
structure FirmwareDerived (s t : State) (c : Digest) : Prop where
  cdi1 : t.flag Fld.KU_STATUS_CDI1 0 = true
  done : t.flag Fld.KU_CMD_STATUS_DONE 0 = true
  result : t.getF Fld.KU_CMD_STATUS_RESULT 0 = 0
  keys : t.keys = s.keys
  sram : t.sram = (s.sramStore 0 ((s.rd .KU_ARG 0).toNat + 0x10) (s.firmwareKey c)).sram

theorem State.kuDeriveFw_derived {c : Digest} (hc : s.keys.cdi1 = some c) (hid : s.identity = true) :
    FirmwareDerived s s.kuDeriveFw c := by
  rw [State.kuDeriveFw_derives hc hid]
  refine ⟨?_, State.kuDone_done _ _, State.kuDone_result _ (by decide), ?_, ?_⟩
  · exact (State.flag_congr (State.kuDone_rd _ _ _ (by decide))).trans (State.flag_setFlag_same _ _ _ _ (by decide) (by decide))
  · rw [State.kuDone, State.setF_keys, State.setFlag_keys, State.setFlag_keys, State.sramStore_eq]
  · rw [State.kuDone, State.setF_sram, State.setFlag_sram, State.setFlag_sram]

theorem State.kuDeriveFw_refused (h : s.keys.cdi1 = none ∨ s.identity = false) : s.kuDeriveFw = s.kuDone 1 := by
  unfold State.kuDeriveFw
  rcases h with h | h
  · simp only [h]
  · cases hc : s.keys.cdi1 <;> simp only [h]

end

/-! # A unit faults (R328) -/

section

variable {s : State} {d : Nat}

/-- A die's unit holds no keys any more. -/
def State.unitLost (s : State) (d : Nat) : State := s.modKeys fun k =>
  { k with bad := if mem d k.bad then k.bad else k.bad ++ [d]
           sealing := k.sealing.filter fun e => decide (e ≠ d)
           holds0 := k.holds0 && decide (d ≠ 0)
           holds1 := k.holds1 && decide (d ≠ 1) }

/-- Die 1 takes over, or the fault is told alone. -/
def State.unitTold (s : State) (d : Nat) : State :=
  if decide (d = 0) && s.keys.holds0 && (s.unitLost d).keys.holds1 then (s.unitLost d).keysMoved
  else (s.unitLost d).report d 0x7002 d

/-- The registers that a record of the folio and a report may write. -/
def recordRegs : List RegName := .FO_STATUS :: faultRegs

theorem State.append_kept (s : State) (typ : Nat) (body : List Byte) : VaultKept recordRegs s (s.append typ body) :=
  VaultKept.append (List.subset_cons_self _ _) List.mem_cons_self (VaultKept.refl s)

/-- Every lease is marked (Table 11.6). -/
def Keys.marked (k : Keys) (ot : Nat) : Keys :=
  { k with leases := k.leases.map fun l => { l with marks := min (l.marks + 1) 0xFFFFFFFF, otMark := ot } }

theorem State.keysMoved_keys (s : State) : ∃ ot, s.keysMoved.keys = s.keys.marked ot := by
  refine ⟨_, congrArg (Keys.marked · _) ?_⟩
  exact (State.append_kept _ _ _).keys.trans (State.report_keys _ _ _ _)

theorem State.keysMoved_active (s : State) : s.keysMoved.flag Fld.KU_STATUS_ACTIVE_DIE 0 = true := by
  refine ((State.append_kept _ _ _).flag 0 rfl (by decide)).trans ?_
  refine (State.flag_congr (State.report_rd_plain _ _ _ _ _ _ rfl (by decide))).trans ?_
  exact State.flag_setFlag_same _ _ _ _ (by decide) (by decide)

/-- The keys of a unit that has faulted: only the marks of the leases may have changed beside them. -/
theorem State.unitTold_keys (s : State) (d : Nat) :
    (s.unitTold d).keys = (s.unitLost d).keys ∨ ∃ ot, (s.unitTold d).keys = (s.unitLost d).keys.marked ot := by
  unfold State.unitTold
  split
  · exact Or.inr (State.keysMoved_keys _)
  · exact Or.inl (State.report_keys _ _ _ _)

/-- With both copies of the keys, die 1 takes over from die 0. -/
theorem State.unitTold_moved (h0 : s.keys.holds0 = true) (h1 : s.keys.holds1 = true) :
    s.unitTold 0 = (s.unitLost 0).keysMoved := by
  have hboth : (decide ((0 : Nat) = 0) && s.keys.holds0 && (s.unitLost 0).keys.holds1) = true := by
    simp [State.unitLost, h0, h1]
  exact if_pos hboth

theorem exec_keyUnitFault_taken {d : DieId} (hl : s.platLive = true) (hp : s.present d.val = true) (hb : d.val ∉ s.keys.bad) :
    exec (.keyUnitFault d) s = .next (s.unitTold d.val).showKeys :=
  congrArg Host.Outcome.next (s.when_of _ _ (by rw [hl, hp, mem_eq_false hb]; rfl))

/-- The marks aside, the keys are those of the unit that is lost. -/
theorem State.unitTold_shown {α : Type} (p : Keys → α) (hp : ∀ k ot, p (k.marked ot) = p k) (s : State) (d : Nat) :
    p (s.unitTold d).showKeys.keys = p (s.unitLost d).keys := by
  rw [State.showKeys_keys]
  rcases s.unitTold_keys d with h | ⟨ot, h⟩
  · rw [h]
  · rw [h, hp]

/-- A unit that has faulted holds no key, and KU_STATUS shows what the others hold. -/
structure UnitLost (s t : State) (d : Nat) : Prop where
  bad : d ∈ t.keys.bad
  sealing : d ∉ t.keys.sealing
  holds0 : t.keys.holds0 = (s.keys.holds0 && decide (d ≠ 0))
  holds1 : t.keys.holds1 = (s.keys.holds1 && decide (d ≠ 1))
  identity : t.flag Fld.KU_STATUS_IDENTITY 0 = t.identity
  standby : t.flag Fld.KU_STATUS_STANDBY_OK 0 = t.keys.holds1

theorem State.unitFault_lost (hb : d ∉ s.keys.bad) : UnitLost s (s.unitTold d).showKeys d where
  bad := by
    rw [State.unitTold_shown Keys.bad (fun _ _ => rfl), State.unitLost, State.modKeys_keys, mem_eq_false hb]
    simp
  sealing := by
    rw [State.unitTold_shown Keys.sealing (fun _ _ => rfl), State.unitLost, State.modKeys_keys]
    simp
  holds0 := State.unitTold_shown Keys.holds0 (fun _ _ => rfl) s d
  holds1 := State.unitTold_shown Keys.holds1 (fun _ _ => rfl) s d
  identity := by rw [State.showKeys_identity, State.identity, State.identity, State.showKeys_keys]
  standby := by rw [State.showKeys_standby, State.showKeys_keys]

/-- Die 1 signs from then on, and every lease has one more mark. -/
theorem State.unitFault_moves (h0 : s.keys.holds0 = true) (h1 : s.keys.holds1 = true) :
    (s.unitTold 0).showKeys.flag Fld.KU_STATUS_ACTIVE_DIE 0 = true ∧
      (s.unitTold 0).showKeys.keys.leases.map (fun x => x.marks) =
        s.keys.leases.map fun x => min (x.marks + 1) 0xFFFFFFFF := by
  obtain ⟨ot, hkeys⟩ := (s.unitLost 0).keysMoved_keys
  rw [State.showKeys_active, State.showKeys_keys, State.unitTold_moved h0 h1, hkeys]
  exact ⟨State.keysMoved_active _, List.map_map⟩

end

end Sys2Proof.Machine

namespace Sys2Proof.Machine

/-! # BIND (R330 to R332) -/

section

variable {s : State}

/-! ## Refusals (R330) -/

/-- The token that KU_ARG points to. -/
def State.bindToken (s : State) : List Byte := s.sramBytes 0 (s.rd .KU_ARG 0).toNat 8192

/-- The directory, behind the token. -/
def State.bindDir (s : State) : List Byte := s.sramBytes 0 ((s.rd .KU_ARG 0).toNat + 0x2000) 128

/-- The bind nonce is used up. -/
def State.nonceUsed (s : State) : State := s.modKeys fun k => { k with nonce := none }

/-- No token's signature is looked at: the part has no identity, or the vault is not foreign. -/
def State.NoToken (s : State) : Prop := s.identity = false ∨ s.getF Fld.MC_STATUS_VAULT 0 ≠ 2

theorem State.NoToken.unread (h : s.NoToken) {c : List Byte} :
    ¬ (s.identity = true ∧ s.getF Fld.MC_STATUS_VAULT 0 = 2 ∧ s.bindForm c = true) := by
  rintro ⟨hid, hv, -⟩
  exact h.elim (fun h => by rw [hid] at h; cases h) fun h => h hv

theorem State.kuBind_refused {r : Nat} (e w : List Bool) (x : List (Fin 4 × Nat)) (ht : s.NoToken)
    (h : s.bindRefusal s.bindToken s.bindDir = some r) : s.kuBind e w x = (s.nonceUsed.kuFault 0x7003).kuDone r := by
  unfold State.bindToken State.bindDir at h
  simp only [State.kuBind, h, if_neg ht.unread, State.nonceUsed]

theorem State.kuBind_taken (e w : List Bool) (x : List (Fin 4 × Nat)) (ht : s.NoToken)
    (h : s.bindRefusal s.bindToken s.bindDir = none) : s.kuBind e w x = s.nonceUsed.bindWrite s.bindDir e w x := by
  unfold State.bindToken State.bindDir at h
  simp only [State.kuBind, h, if_neg ht.unread, State.nonceUsed, State.bindDir]

theorem State.bindRefusal_noIdentity (c dir : List Byte) (h : s.identity = false) : s.bindRefusal c dir = some 1 :=
  if_pos (by rw [h]; rfl)

theorem State.bindRefusal_bound (c dir : List Byte) (h : s.identity = true)
    (hv : s.getF Fld.MC_STATUS_VAULT 0 = 0 ∨ s.getF Fld.MC_STATUS_VAULT 0 = 3) : s.bindRefusal c dir = some 2 :=
  (if_neg (by rw [h]; decide)).trans (if_pos hv)

/-- Over a blank vault the directory alone decides. -/
theorem State.bindRefusal_blank (c dir : List Byte) (h : s.identity = true) (hv : s.getF Fld.MC_STATUS_VAULT 0 = 1) :
    s.bindRefusal c dir = if s.directoryBad dir then some 4 else none := by
  simp [State.bindRefusal, h, hv]

/-! ## The geometry of a vault device stands in MC_VCFG (R169, R171) -/

section

variable {t : State} {v : Nat} (h : t.rd .MC_VCFG v = s.rd .MC_VCFG v)
include h

theorem State.vaultNand_congr : t.vaultNand v = s.vaultNand v := by
  rw [State.vaultNand, State.getF_eq_of_rd h, State.vaultNand]

theorem State.vaultBlockBytes_congr : t.vaultBlockBytes v = s.vaultBlockBytes v := by
  rw [State.vaultBlockBytes, State.vaultNand_congr h, State.getF_eq_of_rd h, State.flag_congr h, State.vaultBlockBytes]

theorem State.vaultSpace_congr : t.vaultSpace v = s.vaultSpace v := by
  rw [State.vaultSpace, State.vaultNand_congr h, State.vaultBlockBytes_congr h, State.vaultSpace]

end

theorem State.directoryBad_congr {t : State} (hv : t.variant = s.variant) (h : t.rd .MC_VCFG 0 = s.rd .MC_VCFG 0)
    (dir : List Byte) : t.directoryBad dir = s.directoryBad dir := by
  have hareas : t.directoryAreas dir = s.directoryAreas dir := by
    rw [State.directoryAreas, State.nDies, hv, State.directoryAreas, State.nDies]
  simp only [State.directoryBad, hareas, State.vaultBlockBytes_congr h, State.vaultSpace_congr h]

/-! ## The steps of a bind over a blank vault (R332) -/

/-- The devices that hold the directory. -/
def State.bindDevs (s : State) : List Nat := if s.flag Fld.MC_VCFG_MIRROR 0 then [0, 2] else [0]

/-- A span is erased on each device. -/
def State.bindErase (s : State) (devs : List Nat) (x : Nat × Nat) (ws : List Bool) : Bool × List Bool × State :=
  s.eachDev devs ws fun s v ws => s.eraseSpan 0 v x ws

/-- The areas that the directory names are erased, one after another. -/
def State.bindAreas (s : State) (devs : List Nat) (dir : List Byte) (ws : List Bool) : Bool × List Bool × State :=
  (s.directoryAreas dir).foldl (fun (a : Bool × List Bool × State) x => if a.1 then a.2.2.bindErase devs x a.2.1 else a)
    (true, ws, s)

/-- The sealed directory is programmed on each device. -/
def State.bindProgram (s : State) (devs : List Nat) (key dir : List Byte) (ws : List Bool) : Bool × List Bool × State :=
  (s.nextGen 0 1).2.eachDev devs ws fun t v ws => t.vaultProgram 0 v 0 (sealUnit key 0 1 (s.nextGen 0 1).1 0 0 dir) ws

/-- The part is bound to its vault. -/
def State.bindDone (s : State) (dir : List Byte) : State :=
  let t := ((s.modVault fun x => { x with directory := dir }).healthAfresh).vaultShows 3
  (t.append 0x0B t.deviceId).kuDone 0

/-- Steps 1 to 4 of R332, once the factory-bad blocks are mapped; a write that fails ends the command. -/
def State.bindSteps (s : State) (key dir : List Byte) (erases writes : List Bool) : State :=
  let u := s.bindErase s.bindDevs (0, s.vaultBlockBytes 0) erases
  if !u.1 then u.2.2.kuDone 5
  else
    let a := (u.2.2.vaultShows 1).bindAreas s.bindDevs dir u.2.1
    if !a.1 then a.2.2.kuDone 5
    else
      let p := a.2.2.bindProgram s.bindDevs key dir writes
      if !p.1 then p.2.2.kuDone 5 else p.2.2.bindDone dir

theorem State.bindWrite_blank {key : List Byte} (dir : List Byte) (e w : List Bool) (x : List (Fin 4 × Nat))
    (hk : s.sealKey 0 = some key) (hv : s.getF Fld.MC_STATUS_VAULT 0 = 1) :
    s.bindWrite dir e w x = (s.mapFactoryBad x).bindSteps key dir e w := by
  unfold State.bindWrite
  rw [hk]
  dsimp only
  rw [if_pos hv]
  rfl

/-- The directory's block is erased, and no erase failed. -/
def State.bindErased (s : State) : State := (s.bindErase s.bindDevs (0, s.vaultBlockBytes 0) []).2.2

/-- The vault reads BLANK, and the areas that the directory names are erased too. -/
def State.bindCleared (s : State) (dir : List Byte) : State := ((s.bindErased.vaultShows 1).bindAreas s.bindDevs dir []).2.2

/-- The sealed directory is programmed. -/
def State.bindWritten (s : State) (key dir : List Byte) : State := ((s.bindCleared dir).bindProgram s.bindDevs key dir []).2.2

theorem State.bindErase_good (s : State) (devs : List Nat) (x : Nat × Nat) : WroteWell 0 s (s.bindErase devs x []) :=
  WroteWell.eachDev s devs fun s v => WroteWell.eraseSpan s 0 v x

theorem State.bindAreas_good (s : State) (devs : List Nat) (dir : List Byte) : WroteWell 0 s (s.bindAreas devs dir []) := by
  refine List.foldlRecOn (motive := WroteWell 0 s) _ _ (WroteWell.refl 0 s) fun a ha x _ => ?_
  rw [if_pos ha.ok, ha.used]
  exact ha.trans (State.bindErase_good _ devs x)

theorem State.bindProgram_good (s : State) (devs : List Nat) (key dir : List Byte) :
    (s.bindProgram devs key dir []).1 = true :=
  (WroteWell.eachDev (d := 0) _ devs fun t v => WroteWell.vaultProgram t 0 v 0 _).ok

/-- A vault that takes every write is bound. -/
theorem State.bindSteps_good (s : State) (key dir : List Byte) : s.bindSteps key dir [] [] = (s.bindWritten key dir).bindDone dir := by
  have herase := s.bindErase_good s.bindDevs (0, s.vaultBlockBytes 0)
  have hareas := (s.bindErased.vaultShows 1).bindAreas_good s.bindDevs dir
  have hprog := (s.bindCleared dir).bindProgram_good s.bindDevs key dir
  unfold State.bindCleared at hprog
  unfold State.bindErased at hareas hprog
  unfold State.bindSteps State.bindWritten State.bindCleared State.bindErased
  dsimp only
  rw [herase.ok, herase.used, if_neg (by decide), hareas.ok, if_neg (by decide), hprog, if_neg (by decide)]

/-- A first span that is not erased ends the bind with RESULT 5. -/
theorem State.bindSteps_unerased {key dir : List Byte} {e w : List Bool}
    (h : (s.bindErase s.bindDevs (0, s.vaultBlockBytes 0) e).1 = false) :
    s.bindSteps key dir e w = (s.bindErase s.bindDevs (0, s.vaultBlockBytes 0) e).2.2.kuDone 5 := by
  unfold State.bindSteps
  dsimp only
  rw [h, if_pos (by decide)]

theorem State.kuBind_blank {key : List Byte} (e w : List Bool) (x : List (Fin 4 × Nat)) (hid : s.identity = true)
    (hv : s.getF Fld.MC_STATUS_VAULT 0 = 1) (hd : s.directoryBad s.bindDir = false) (hk : s.sealKey 0 = some key) :
    s.kuBind e w x = (s.nonceUsed.mapFactoryBad x).bindSteps key s.bindDir e w := by
  have hnone : s.bindRefusal s.bindToken s.bindDir = none := by
    rw [State.bindRefusal_blank _ _ hid hv, hd, if_neg (by decide)]
  have hk' : s.nonceUsed.sealKey 0 = some key := hk
  rw [State.kuBind_taken e w x (Or.inr (by omega)) hnone, State.bindWrite_blank _ _ _ _ hk' hv]

/-! ## What is sent to the devices -/

theorem State.eachDev_emits {f : State → Nat → List Bool → Bool × List Bool × State} {o : Output} {devs : List Nat} {v : Nat}
    (s : State) (ws : List Bool) (hv : v ∈ devs) (hf : ∀ t ws, o ∈ (f t v ws).2.2.outputs)
    (hk : ∀ (t : State) w ws, t.outputs <+: (f t w ws).2.2.outputs) : o ∈ (s.eachDev devs ws f).2.2.outputs := by
  unfold State.eachDev
  refine foldl_establishes (inv := fun _ => True) (goal := fun a : Bool × List Bool × State => o ∈ a.2.2.outputs)
    (fun _ _ _ => trivial) (fun a _ => ?_) (fun a w _ ha => ?_) hv trivial
  · exact hf a.2.2 a.2.1
  · exact (hk a.2.2 w a.2.1).subset ha

theorem State.eachDev_fails {f : State → Nat → List Bool → Bool × List Bool × State} {devs : List Nat} {v : Nat} {ws : List Bool}
    (h : (f s v ws).1 = false) : (s.eachDev (v :: devs) ws f).1 = false := by
  refine List.foldlRecOn (motive := fun a : Bool × List Bool × State => a.1 = false) devs _ h fun a ha w _ => ?_
  dsimp only
  rw [ha, Bool.false_and]

theorem State.eraseSpan_emits (s : State) (d v : Nat) (x : Nat × Nat) (ws : List Bool) :
    .vaultErase v x.1 x.2 ∈ (s.eraseSpan d v x ws).2.2.outputs :=
  (VaultKept.eraseBlocks (List.Subset.refl faultRegs) ws (VaultKept.refl (s.emit _))).outputs.subset (s.mem_emit_outputs _)

theorem State.vaultProgram_emits (s : State) (d v addr : Nat) (bytes : List Byte) (ws : List Bool) :
    .vaultWrite v addr bytes ∈ (s.vaultProgram d v addr bytes ws).2.2.outputs := by
  have hsent := s.mem_emit_outputs (.vaultWrite v addr bytes)
  have hkept := VaultKept.refl (l := faultRegs) (s.emit (.vaultWrite v addr bytes))
  rcases ws with _ | ⟨_ | _, ws⟩
  · exact hsent
  · unfold State.vaultProgram
    split
    · exact (hkept.report (List.Subset.refl _)).outputs.subset hsent
    · rename_i t ht
      exact ((hkept.retireBlock (List.Subset.refl _) ht).vaultProgram (List.Subset.refl _) ws).outputs.subset hsent
  · exact hsent

/-- The first failed erase of a NOR device, which has no spare, fails for good (R171). -/
theorem State.eraseSpan_nor_fails {d v : Nat} (ws : List Bool) (hn : s.vaultNand v = false) :
    (s.eraseSpan d v (0, s.vaultBlockBytes v) (false :: ws)).1 = false := by
  have hsector : s.vaultBlockBytes v = 4096 := by rw [State.vaultBlockBytes, hn, if_neg (by decide)]
  have hretire (o : Output) : (s.emit o).retireBlock d v 0 = none := by
    have hn' : (s.emit o).vaultNand v = false := hn
    rw [State.retireBlock, hn', if_pos (by decide)]
  unfold State.eraseSpan
  simp [hsector, State.eraseBlocks, hretire]

theorem State.bindDevs_first (s : State) : ∃ l, s.bindDevs = 0 :: l := by
  unfold State.bindDevs
  split
  · exact ⟨_, rfl⟩
  · exact ⟨_, rfl⟩

/-! ## What the steps leave alone -/

/-- The registers that a bind writes: VAULT and the tally, the regions' states, the folio's status, the command's own, and
those of faults. -/
def bindRegs : List RegName := [.MC_STATUS, .CR_STATE, .FO_STATUS, .KU_CMD_STATUS] ++ faultRegs

theorem State.bindErase_kept {l : List RegName} (hl : faultRegs ⊆ l) (s : State) (devs : List Nat) (x : Nat × Nat)
    (ws : List Bool) : VaultKept l s (s.bindErase devs x ws).2.2 :=
  VaultKept.eachDev (VaultKept.refl s) fun _ _ h => h.eraseSpan hl

theorem faultRegs_subset_bindRegs : faultRegs ⊆ bindRegs := List.subset_append_right _ _

theorem State.bindErased_kept (s : State) : VaultKept bindRegs s s.bindErased :=
  State.bindErase_kept faultRegs_subset_bindRegs s _ _ _

theorem State.bindCleared_kept (s : State) (dir : List Byte) : VaultKept bindRegs s.bindErased (s.bindCleared dir) := by
  refine List.foldlRecOn (motive := fun a : Bool × List Bool × State => VaultKept bindRegs s.bindErased a.2.2) _ _ ?_
    fun a ha x _ => ?_
  · exact VaultKept.vaultShows (by decide) (VaultKept.refl _)
  · split
    · exact ha.trans (State.bindErase_kept faultRegs_subset_bindRegs _ _ _ _)
    · exact ha

theorem State.bindProgram_kept (s : State) (devs : List Nat) (key dir : List Byte) (ws : List Bool) :
    VaultKept bindRegs s (s.bindProgram devs key dir ws).2.2 :=
  VaultKept.eachDev (VaultKept.nextGen (VaultKept.refl s)) fun _ ws h => VaultKept.vaultProgram faultRegs_subset_bindRegs ws h

theorem State.bindWritten_kept (s : State) (key dir : List Byte) : VaultKept bindRegs s (s.bindWritten key dir) :=
  (s.bindErased_kept.trans (s.bindCleared_kept dir)).trans (State.bindProgram_kept _ _ _ _ _)

/-- The erase of the directory's block is sent. -/
theorem State.bindWritten_erases (s : State) (key dir : List Byte) :
    .vaultErase 0 0 (s.vaultBlockBytes 0) ∈ (s.bindWritten key dir).outputs := by
  obtain ⟨l, hl⟩ := s.bindDevs_first
  have herase : .vaultErase 0 0 (s.vaultBlockBytes 0) ∈ s.bindErased.outputs :=
    State.eachDev_emits s _ (hl ▸ List.mem_cons_self) (fun t ws => t.eraseSpan_emits 0 0 (0, s.vaultBlockBytes 0) ws)
      fun t v ws => ((VaultKept.refl t).eraseSpan (List.Subset.refl _)).outputs
  exact ((s.bindCleared_kept dir).trans (State.bindProgram_kept _ _ _ _ _)).outputs.subset herase

/-- And the sealed directory is. -/
theorem State.bindWritten_writes (s : State) (key dir : List Byte) :
    ∃ w, .vaultWrite 0 0 w ∈ (s.bindWritten key dir).outputs := by
  obtain ⟨l, hl⟩ := s.bindDevs_first
  exact ⟨_, State.eachDev_emits _ _ (hl ▸ List.mem_cons_self) (fun t ws => t.vaultProgram_emits 0 0 0 _ ws)
    fun t v ws => (VaultKept.vaultProgram (List.Subset.refl _) ws (VaultKept.refl t)).outputs⟩

/-! ## The part is bound -/

theorem State.vaultShows_getF (s : State) (v : Nat) {d : Nat} (hd : s.present d = true) :
    (s.vaultShows v).getF Fld.MC_STATUS_VAULT d = v % 4 := by
  refine foldl_establishes (inv := fun _ => True) (goal := fun t : State => t.getF Fld.MC_STATUS_VAULT d = v % 4) (x := d)
    (fun _ _ _ => trivial) (fun t _ => State.getF_setF_same t _ _ _ (by decide)) (fun t e _ ht => ?_)
    (List.mem_range.mpr (of_decide_eq_true hd)) trivial
  by_cases he : e = d
  · rw [he]
    exact State.getF_setF_same t _ _ _ (by decide)
  · exact (State.getF_setF_other t _ _ _ _ _ (by decide) (by simp [Ne.symm he])).trans ht

theorem State.bindDone_kept (s : State) (dir : List Byte) :
    VaultKept bindRegs (s.modVault fun x => { x with directory := dir }) (s.bindDone dir) := by
  have hafresh := VaultKept.healthAfresh (l := bindRegs) (by decide) (by decide)
    (VaultKept.refl (s.modVault fun x => { x with directory := dir }))
  exact VaultKept.kuDone (by decide) (VaultKept.append faultRegs_subset_bindRegs (by decide)
    (VaultKept.vaultShows (by decide) hafresh))

theorem State.bindDone_vault (s : State) (dir : List Byte) {d : Nat} (hd : s.present d = true) :
    (s.bindDone dir).getF Fld.MC_STATUS_VAULT d = 3 := by
  have hafresh := VaultKept.healthAfresh (l := bindRegs) (by decide) (by decide)
    (VaultKept.refl (s.modVault fun x => { x with directory := dir }))
  have hd' : ((s.modVault fun x => { x with directory := dir }).healthAfresh).present d = true := by
    rw [State.present, State.nDies, hafresh.variant]
    exact hd
  refine (State.getF_eq_of_rd (State.kuDone_rd _ _ _ (by decide))).trans ?_
  exact ((State.append_kept _ _ _).getF d rfl (by decide)).trans (State.vaultShows_getF _ 3 hd')

end

section

variable {req : Requester} {l : Stores} {s : State}

/-- The state of the directory, the vault and the keys is the same behind the stores. -/
theorem State.stores_sealKey (s : State) (l : Stores) (d : Nat) : (s.stores l).sealKey d = s.sealKey d := by
  rw [State.sealKey, s.stores_keys, State.sealKey]

theorem State.stores_bindDir (s : State) (l : Stores) :
    (s.stores l).bindDir = (s.stores l).sramBytes 0 ((s.rd .KU_ARG 0).toNat + 0x2000) 128 := by
  rw [State.bindDir, s.stores_rd]

theorem State.stores_directoryBad (s : State) (l : Stores) (dir : List Byte) :
    (s.stores l).directoryBad dir = s.directoryBad dir :=
  State.directoryBad_congr (s.stores_variant l) (s.stores_rd l .MC_VCFG 0) dir

/-- BIND is refused: the nonce is used up, 0x7003 is reported, and RESULT says why. -/
theorem exec_kuBind_refused {r : Nat} (ho : s.PlatOpen req) (hreq : fromDie0 req = true) (e w : List Bool)
    (x : List (Fin 4 × Nat)) (ht : (s.stores l).NoToken)
    (h : (s.stores l).bindRefusal (s.stores l).bindToken (s.stores l).bindDir = some r) :
    exec (.kuBind req l e w x) s = .next (((s.stores l).nonceUsed.kuFault 0x7003).kuDone r) :=
  (exec_kuBind_open ho l hreq e w x).trans (congrArg _ (State.kuBind_refused e w x ht h))

end

section

variable (x : List (Fin 4 × Nat))

/-- What a bind that goes well leaves behind. -/
structure Bound (s t : State) (dir : List Byte) : Prop where
  nonce : t.keys.nonce = none
  directory : t.vault.directory = dir
  vault : ∀ d, s.present d = true → t.getF Fld.MC_STATUS_VAULT d = 3
  result : t.getF Fld.KU_CMD_STATUS_RESULT 0 = 0
  done : t.flag Fld.KU_CMD_STATUS_DONE 0 = true
  sram : t.sram = s.sram
  erased : .vaultErase 0 0 (s.vaultBlockBytes 0) ∈ t.outputs
  written : ∃ w, .vaultWrite 0 0 w ∈ t.outputs

theorem State.bindSteps_bound (s : State) (key dir : List Byte) :
    Bound s ((s.nonceUsed.mapFactoryBad x).bindSteps key dir [] []) dir := by
  have hmapped : VaultKept bindRegs s.nonceUsed (s.nonceUsed.mapFactoryBad x) :=
    (VaultKept.refl _).mapFactoryBad faultRegs_subset_bindRegs
  have hwritten := hmapped.trans ((s.nonceUsed.mapFactoryBad x).bindWritten_kept key dir)
  have hdone := State.bindDone_kept ((s.nonceUsed.mapFactoryBad x).bindWritten key dir) dir
  have hblock : (s.nonceUsed.mapFactoryBad x).vaultBlockBytes 0 = s.vaultBlockBytes 0 :=
    State.vaultBlockBytes_congr (hmapped.rd .MC_VCFG 0 rfl (by decide))
  have herased := (s.nonceUsed.mapFactoryBad x).bindWritten_erases key dir
  obtain ⟨w, hw⟩ := (s.nonceUsed.mapFactoryBad x).bindWritten_writes key dir
  rw [hblock] at herased
  rw [State.bindSteps_good]
  refine ⟨?_, hdone.directory, fun d hd => State.bindDone_vault _ _ ?_, State.kuDone_result _ (by decide), State.kuDone_done _ _,
    hdone.sram.trans hwritten.sram, hdone.outputs.subset herased, w, hdone.outputs.subset hw⟩
  · rw [hdone.keys]
    exact congrArg Keys.nonce hwritten.keys
  · rw [State.present, State.nDies, hwritten.variant]
    exact hd

/-- A bind whose first erase fails on a NOR device ends with RESULT 5; the vault reads as before. -/
structure Unbound (s t : State) : Prop where
  vault : t.getF Fld.MC_STATUS_VAULT 0 = s.getF Fld.MC_STATUS_VAULT 0
  result : t.getF Fld.KU_CMD_STATUS_RESULT 0 = 5
  directory : t.vault.directory = s.vault.directory

theorem State.bindSteps_unbound (s : State) (key dir : List Byte) (hn : s.vaultNand 0 = false) :
    Unbound s ((s.nonceUsed.mapFactoryBad x).bindSteps key dir [false] []) := by
  have hmapped : VaultKept faultRegs s.nonceUsed (s.nonceUsed.mapFactoryBad x) :=
    (VaultKept.refl _).mapFactoryBad (List.Subset.refl _)
  have hn' : (s.nonceUsed.mapFactoryBad x).vaultNand 0 = false :=
    (State.vaultNand_congr (hmapped.rd .MC_VCFG 0 rfl (by decide))).trans hn
  have hfails : ((s.nonceUsed.mapFactoryBad x).bindErase (s.nonceUsed.mapFactoryBad x).bindDevs
      (0, (s.nonceUsed.mapFactoryBad x).vaultBlockBytes 0) [false]).1 = false := by
    obtain ⟨l, hl⟩ := (s.nonceUsed.mapFactoryBad x).bindDevs_first
    rw [hl]
    exact State.eachDev_fails (State.eraseSpan_nor_fails [] hn')
  have hkept := hmapped.trans (State.bindErase_kept (List.Subset.refl _) _ (s.nonceUsed.mapFactoryBad x).bindDevs
    (0, (s.nonceUsed.mapFactoryBad x).vaultBlockBytes 0) [false])
  rw [State.bindSteps_unerased hfails]
  refine ⟨?_, State.kuDone_result _ (by decide), hkept.directory⟩
  exact (State.getF_eq_of_rd (State.kuDone_rd _ _ _ (by decide))).trans (hkept.getF 0 rfl (by decide))

end

/-- Settles O35: the nonce by the read that captures it, DERIVE_FW and the rejected commands by what they end with, a fault by
the unit that is lost, and BIND by its refusals and by the steps of R332. -/
theorem keyUnit : Obligations.KeyUnit := by
  unfold Obligations.KeyUnit
  refine ⟨fun req s ho => ?_, fun req l c s u ho hreq hu hc hid => ?_, fun req l s ho hreq h => ?_,
    fun req l e w x s ho hreq => ⟨exec_kuDeriveFw_rejected ho l hreq, exec_kuBind_rejected ho l hreq e w x⟩,
    fun d s hl hp hb => ?_, fun req l e w x s ho hreq hid => ?_, fun req l e w x s ho hreq hid hv => ?_,
    fun req l x dir key s u ho hreq hu hdir hid hv hd hk => ?_, fun req l x dir key s u ho hreq hu hdir hid hv hd hk hn => ?_,
    fun req l e w x s u ho hreq hu hid hv hd => ?_⟩
  · refine ⟨_, exec_bindNonceRead_open ho, ?_, s.readBindNonce_answered, ?_⟩
    · rw [State.answer, State.emit_keys, s.readBindNonce_keys]
    · rw [State.answer, State.emit_outputs, s.readBindNonce_outputs, s.readBindNonce_word]
  · subst hu
    have hd := State.kuDeriveFw_derived ((congrArg Keys.cdi1 (s.stores_keys l)).trans hc) ((s.stores_identity l).trans hid)
    have hsram := hd.sram
    rw [State.firmwareKey, s.stores_rd] at hsram
    exact ⟨_, exec_kuDeriveFw_open ho l hreq, hd.cdi1, hd.done, hd.result, hd.keys.trans (s.stores_keys l), hsram⟩
  · refine ⟨_, (exec_kuDeriveFw_open ho l hreq).trans (congrArg _ (State.kuDeriveFw_refused ?_)),
      State.kuDone_result _ (by decide), rfl, ?_⟩
    · rwa [s.stores_keys, s.stores_identity]
    · rw [State.kuDone_rd _ _ _ (by decide), s.stores_rd]
  · have hlost := State.unitFault_lost hb
    refine ⟨_, exec_keyUnitFault_taken hl hp hb, hlost.bad, hlost.sealing, hlost.holds0, hlost.holds1, hlost.identity,
      hlost.standby, fun h0 hh0 hh1 => ?_⟩
    rw [h0]
    exact State.unitFault_moves hh0 hh1
  · exact exec_kuBind_refused ho hreq e w x (Or.inl ((s.stores_identity l).trans hid))
      (State.bindRefusal_noIdentity _ _ ((s.stores_identity l).trans hid))
  · have hv' : (s.stores l).getF Fld.MC_STATUS_VAULT 0 = 0 ∨ (s.stores l).getF Fld.MC_STATUS_VAULT 0 = 3 := by
      rwa [s.stores_getF]
    exact exec_kuBind_refused ho hreq e w x (Or.inr (by omega))
      (State.bindRefusal_bound _ _ ((s.stores_identity l).trans hid) hv')
  · subst hu
    rw [← s.stores_bindDir] at hdir
    subst hdir
    have hb := State.bindSteps_bound x (s.stores l) key (s.stores l).bindDir
    have hbind := State.kuBind_blank [] [] x ((s.stores_identity l).trans hid) ((s.stores_getF l _ _).trans hv)
      ((s.stores_directoryBad l _).trans hd) ((s.stores_sealKey l 0).trans hk)
    have herased := hb.erased
    rw [State.vaultBlockBytes_congr (s.stores_rd l .MC_VCFG 0)] at herased
    refine ⟨_, (exec_kuBind_open ho l hreq [] [] x).trans (congrArg _ hbind), hb.nonce, hb.directory, fun d hd => hb.vault d ?_,
      hb.result, hb.done, hb.sram, herased, hb.written⟩
    rwa [State.present, State.nDies, s.stores_variant]
  · subst hu
    rw [← s.stores_bindDir] at hdir
    subst hdir
    have hn' : (s.stores l).vaultNand 0 = false := (State.vaultNand_congr (s.stores_rd l .MC_VCFG 0)).trans hn
    have hu := State.bindSteps_unbound x (s.stores l) key (s.stores l).bindDir hn'
    have hbind := State.kuBind_blank [false] [] x ((s.stores_identity l).trans hid) ((s.stores_getF l _ _).trans hv)
      ((s.stores_directoryBad l _).trans hd) ((s.stores_sealKey l 0).trans hk)
    exact ⟨_, (exec_kuBind_open ho l hreq [false] [] x).trans (congrArg _ hbind), hu.vault.trans ((s.stores_getF l _ _).trans hv),
      hu.result, hu.directory.trans (congrArg Vault.directory (s.stores_vault l))⟩
  · subst hu
    rw [← s.stores_bindDir, ← s.stores_directoryBad l] at hd
    have hv' : (s.stores l).getF Fld.MC_STATUS_VAULT 0 = 1 := (s.stores_getF l _ _).trans hv
    refine exec_kuBind_refused ho hreq e w x (Or.inr (by omega)) ?_
    rw [State.bindRefusal_blank _ _ ((s.stores_identity l).trans hid) hv', hd, if_pos rfl]

end Sys2Proof.Machine

namespace Sys2Proof.Machine

/-! # Counters of events (R432, R434) -/

/-- A register has the bit that it was given. -/
theorem bitOf_or_twoPow (w : Word) {b : Nat} (hb : b < 32) : bitOf (w ||| BitVec.ofNat 32 (2 ^ b)).toNat b = true := by
  rw [bitOf, BitVec.toNat_or, Nat.testBit_or, BitVec.toNat_ofNat, Nat.testBit_mod_two_pow, Nat.testBit_two_pow_self,
    decide_eq_true hb, Bool.true_and, Bool.or_true]

section

variable {s : State} {d e n : Nat}

/-- An assigned event that occurs is added to its counter and to the watch slots. -/
theorem State.count_assigned (ha : obAssigned d e = true) (hn : n ≠ 0) :
    s.count d e n = (s.obCounter d e n).obWatch d e n := if_neg (by simp [hn, ha])

/-- The counter of an event that no pair holds adds, or saturates. -/
theorem State.obCounter_unpaired (h : s.obPaired d (e - e % 2) = false) : s.obCounter d e n =
    if 0xFFFFF ≤ s.getF Fld.OB_CNT_COUNT (d * 1024 + e) + n then
      (s.setF Fld.OB_CNT_COUNT (d * 1024 + e) 0xFFFFF).obSat d e
    else s.setF Fld.OB_CNT_COUNT (d * 1024 + e) (s.getF Fld.OB_CNT_COUNT (d * 1024 + e) + n) := by
  simp only [State.obCounter, h, Bool.false_eq_true, if_false]

/-- R432: a counter that saturates sets its bit of OB_SAT. -/
theorem State.count_saturated (ha : obAssigned d e = true) (hn : n ≠ 0) (h : s.obPaired d (e - e % 2) = false)
    (hv : 0xFFFFF ≤ s.getF Fld.OB_CNT_COUNT (d * 1024 + e) + n) :
    bitOf ((s.count d e n).rd .OB_SAT (d * 32 + e / 32)).toNat (e % 32) = true := by
  rw [State.count_assigned ha hn, State.obWatch_rd _ _ _ _ _ (by decide), State.obCounter_unpaired h, if_pos hv,
    State.obSat, State.orR, State.rd_wr_same]
  exact bitOf_or_twoPow _ (Nat.mod_lt _ (by decide))

/-- No counter but the event's own changes. -/
theorem State.count_cntRd_other (ha : obAssigned d e = true) (hn : n ≠ 0) (h : s.obPaired d (e - e % 2) = false) {i : Nat}
    (hi : i ≠ d * 1024 + e) : (s.count d e n).rd .OB_CNT i = s.rd .OB_CNT i := by
  rw [State.count_assigned ha hn, State.obWatch_rd _ _ _ _ _ (by decide), State.obCounter_unpaired h]
  split
  · rw [State.obSat_rd _ _ _ _ (by decide)]
    exact State.rd_wr_other _ _ _ _ _ _ (.inr hi)
  · exact State.rd_wr_other _ _ _ _ _ _ (.inr hi)

/-- What the two counters of a pair show as one number of 40 bits (R434). -/
def State.pairCount (s : State) (d e : Nat) : Nat :=
  s.getF Fld.OB_CNT_COUNT (d * 1024 + e + 1) * 2 ^ 20 + s.getF Fld.OB_CNT_COUNT (d * 1024 + e)

/-- The halves of a pair are written as one number. -/
theorem State.pairCount_setF (s : State) (d e lo hi : Nat) :
    ((s.setF Fld.OB_CNT_COUNT (d * 1024 + e) lo).setF Fld.OB_CNT_COUNT (d * 1024 + e + 1) hi).pairCount d e =
      hi % 2 ^ 20 * 2 ^ 20 + lo % 2 ^ 20 := by
  rw [State.pairCount, State.getF_setF_same _ _ _ _ (by decide),
    State.getF_setF_other _ _ _ _ _ _ (by decide) (.inr (.inl (by omega))), State.getF_setF_same _ _ _ _ (by decide)]

theorem State.pairCount_of_rd {s t : State} (h : ∀ i, t.rd .OB_CNT i = s.rd .OB_CNT i) (d e : Nat) :
    t.pairCount d e = s.pairCount d e := by
  unfold State.pairCount
  have hcount := fun i => State.getF_eq_of_rd (f := Fld.OB_CNT_COUNT) (h i)
  rw [hcount, hcount]

/-- The low half of a pair counts for both. -/
theorem State.obCounter_lowHalf (he : e % 2 = 0) (h : s.obPaired d e = true) : s.obCounter d e n =
    if 2 ^ 40 - 1 ≤ s.pairCount d e + n then
      ((s.setF Fld.OB_CNT_COUNT (d * 1024 + e) 0xFFFFF).setF Fld.OB_CNT_COUNT (d * 1024 + e + 1) 0xFFFFF).obSat d e
    else (s.setF Fld.OB_CNT_COUNT (d * 1024 + e) (s.pairCount d e + n)).setF Fld.OB_CNT_COUNT (d * 1024 + e + 1)
      ((s.pairCount d e + n) / 2 ^ 20) := by
  unfold State.obCounter State.pairCount
  dsimp only
  rw [he, Nat.sub_zero, h, if_pos rfl, if_neg (by decide)]

theorem State.obCounter_paired (he : e % 2 = 0) (h : s.obPaired d e = true) :
    (s.obCounter d e n).pairCount d e = min (s.pairCount d e + n) (2 ^ 40 - 1) := by
  rw [State.obCounter_lowHalf he h]
  split
  · rename_i hfull
    rw [State.pairCount_of_rd (fun i => State.obSat_rd _ d e i (by decide)), State.pairCount_setF, Nat.min_eq_right hfull]
    rfl
  · rename_i hroom
    have hlt := Nat.not_le.mp hroom
    rw [State.pairCount_setF, Nat.min_eq_left (Nat.le_of_lt hlt)]
    omega

theorem State.count_paired (ha : obAssigned d e = true) (hn : n ≠ 0) (he : e % 2 = 0) (h : s.obPaired d e = true) :
    (s.count d e n).pairCount d e = min (s.pairCount d e + n) (2 ^ 40 - 1) := by
  rw [State.count_assigned ha hn, State.pairCount_of_rd (fun i => State.obWatch_rd _ _ _ _ i (by decide)),
    State.obCounter_paired he h]

/-- The high half of a pair does not count by itself. -/
theorem State.count_highHalf (n : Nat) (he : e % 2 = 1) (h : s.obPaired d (e - 1) = true) (i : Nat) :
    (s.count d e n).rd .OB_CNT i = s.rd .OB_CNT i := by
  unfold State.count
  split
  · rfl
  · rw [State.obWatch_rd _ _ _ _ _ (by decide)]
    simp only [State.obCounter, he, h, if_true]

end

/-- Settles O55: a single counter adds, saturates or is left alone; a pair adds as one number, and by its low half only. -/
theorem countersSaturate : Obligations.CountersSaturate := by
  unfold Obligations.CountersSaturate
  exact ⟨fun d e n s _ _ ha hn h => ⟨State.count_single ha hn h, State.count_saturated ha hn h,
      fun _ hi => State.count_cntRd_other ha hn h hi⟩,
    fun d e n s _ _ ha hn he h => State.count_paired ha hn he h, fun d e n s _ _ he h => State.count_highHalf n he h⟩

end Sys2Proof.Machine

namespace Sys2Proof.Machine

/-! # Watch slots that are due (R436 to R441) -/

section

variable {s : State} {d : Nat} {x : Due} {l : List Due}

/-- What is left due on a die. -/
def State.dueLeft (s : State) (d : Nat) (l : List Due) : State := s.modDie d fun y => { y with due := l }

theorem State.dueLeft_die (s : State) (d : Nat) (l : List Due) : (s.dueLeft d l).die d = { s.die d with due := l } :=
  State.die_modDie_same _ _ _

theorem State.dueLeft_rd (s : State) (d : Nat) (l : List Due) (n : RegName) (i : Nat) : (s.dueLeft d l).rd n i = s.rd n i := rfl

/-- The first due slot acts, where it waits for no open frame. -/
theorem exec_watchFire_first {d : DieId} {k : Fin 16} (pc w y z : Word) (hl : s.live d.val = true)
    (hd : (s.die d.val).due = x :: l) (hw : s.dueWaits d.val x = false) (hk : x.slot = k.val) :
    exec (.watchFire d k pc w y z) s = .next ((s.dueLeft d.val l).slotActs d.val x pc w y z) := by
  refine congrArg Host.Outcome.next ((s.when_of _ _ hl).trans ?_)
  have hleft : (s.modDie d.val fun y => { y with due := y.due.eraseIdx 0 }) = s.dueLeft d.val l := by
    rw [State.modDie, hd]
    rfl
  simp only [hd, List.zipIdx_cons, List.find?_cons, hw, Bool.not_false, hk, ne_eq, not_true_eq_false, if_false, hleft]

theorem exec_watchFire_none {d : DieId} (k : Fin 16) (pc w y z : Word) (hd : (s.die d.val).due = []) :
    exec (.watchFire d k pc w y z) s = .next s := by
  refine congrArg Host.Outcome.next ?_
  obtain ⟨-, h⟩ | ⟨-, h⟩ := s.when_cases (s.live d.val) fun s =>
    match (s.die d.val).due.zipIdx.find? fun x => !s.dueWaits d.val x.1 with
    | none => s
    | some (x, i) =>
      if x.slot ≠ k.val then s
      else (s.modDie d.val fun y => { y with due := y.due.eraseIdx i }).slotActs d.val x pc w y z
  · refine h.trans ?_
    simp only [hd, List.zipIdx_nil, List.find?_nil]
  · exact h

/-! ## INTERRUPT (R437) -/

theorem State.slotActs_interrupt (pc w y z : Word) (ha : Fld.OB_WATCH_CFG_ACTION.of x.cfg = 1) :
    s.slotActs d x pc w y z =
      ((if bitOf (s.rd .OB_STATUS d).toNat x.slot = true then s.orR .OB_STATUS d (2 ^ (16 + x.slot)) else s).orR .OB_STATUS d
        (2 ^ x.slot)).emit (.irq d (Fld.OB_WATCH_CFG_CORE.of x.cfg) x.slot) := by
  unfold State.slotActs
  rw [ha]
  rfl

/-- The slot's status bit is set, and its missed bit where the status bit still stood; no other register changes. -/
theorem State.slotActs_interrupt_spec (pc w y z : Word) (ha : Fld.OB_WATCH_CFG_ACTION.of x.cfg = 1) (hx : x.slot < 16) :
    bitOf ((s.slotActs d x pc w y z).rd .OB_STATUS d).toNat x.slot = true ∧
      (bitOf (s.rd .OB_STATUS d).toNat x.slot = true →
        bitOf ((s.slotActs d x pc w y z).rd .OB_STATUS d).toNat (16 + x.slot) = true) ∧
      (∀ n i, n ≠ .OB_STATUS → (s.slotActs d x pc w y z).rd n i = s.rd n i) ∧
      (s.slotActs d x pc w y z).outputs = s.outputs ++ [.irq d (Fld.OB_WATCH_CFG_CORE.of x.cfg) x.slot] ∧
      (s.slotActs d x pc w y z).die d = s.die d := by
  rw [State.slotActs_interrupt pc w y z ha, State.emit_rd, State.orR, State.rd_wr_same]
  refine ⟨bitOf_or_twoPow _ (by omega), fun hwas => ?_, fun n i hn => ?_, ?_, ?_⟩
  · rw [if_pos hwas, State.orR, State.rd_wr_same]
    exact bitOf_or_of_left (bitOf_or_twoPow _ (by omega))
  · rw [State.emit_rd, State.rd_wr_name _ _ _ _ _ _ hn]
    split
    · exact State.rd_wr_name _ _ _ _ _ _ hn
    · rfl
  · split <;> rfl
  · split <;> rfl

/-! ## PRECISE, for an event of a core (R439 to R441) -/

/-- A core event belongs to no channel, so its record waits for no frame. -/
theorem State.dueWaits_core (s : State) (d : Nat) (he : 0x3A0 ≤ Fld.OB_WATCH_CFG_EVENT.of x.cfg) : s.dueWaits d x = false := by
  have hch : eventCh (Fld.OB_WATCH_CFG_EVENT.of x.cfg) = none := (if_neg (by omega)).trans (if_neg (by omega))
  rw [State.dueWaits, hch, Bool.and_false]

theorem State.slotActs_core (pc w y z : Word) (ha : Fld.OB_WATCH_CFG_ACTION.of x.cfg = 3)
    (he : 0x3A0 ≤ Fld.OB_WATCH_CFG_EVENT.of x.cfg) :
    s.slotActs d x pc w y z = s.putRecord d (s.coreRecord d x pc w y z) := by
  unfold State.slotActs
  rw [ha]
  exact (if_pos rfl).trans (if_pos he)

/-- Words that go to registers one after another are there; nothing but registers of the name changes. -/
theorem State.forEach_wr_rd (s : State) (n : RegName) (i : Nat) (g : Nat → Word) {m j : Nat} (h : j < m) :
    (s.forEach (List.range m) fun s k => s.wr n (i + k) (g k)).rd n (i + j) = g j := by
  induction m with
  | zero => omega
  | succ m ih =>
    rw [State.forEach, List.range_succ, List.foldl_append, List.foldl_cons, List.foldl_nil]
    by_cases hj : j = m
    · rw [hj, State.rd_wr_same]
    · rw [State.rd_wr_other _ _ _ _ _ _ (.inr (by omega))]
      exact ih (by omega)

theorem State.forEach_wr_rest (s : State) (n : RegName) (i : Nat) (g : Nat → Word) (l : List Nat) :
    s.OnlyRegs (s.forEach l fun s k => s.wr n (i + k) (g k)) fun m _ => decide (m = n) :=
  List.foldlRecOn (motive := fun t => s.OnlyRegs t fun m _ => decide (m = n)) l _ (.refl s _) fun _ ht _ _ =>
    ht.wr (decide_eq_true rfl)

/-- The eight words of a record stand at WRITE. -/
def State.recordStored (s : State) (d : Nat) (words : List Word) : State :=
  s.forEach (List.range 8) fun t k =>
    t.wr .OB_PREC_REC (d * 2048 + 8 * s.getF Fld.OB_PREC_PTR_WRITE d + k) (words.getD k 0)

/-- The record is written, WRITE has moved past it, and one more waits to be read. -/
def State.recordPut (s : State) (d : Nat) (words : List Word) : State :=
  ((s.recordStored d words).setF Fld.OB_PREC_PTR_WRITE d ((s.getF Fld.OB_PREC_PTR_WRITE d + 1) % 256)).modDie d fun x =>
    { x with unread := x.unread + 1 }

theorem State.recordPut_die (s : State) (d : Nat) (words : List Word) :
    (s.recordPut d words).die d = { s.die d with unread := (s.die d).unread + 1 } := by
  have hdie : (s.recordStored d words).die d = s.die d := by
    rw [State.recordStored, State.die, (State.forEach_wr_rest _ _ _ _ _).1, State.die]
  rw [State.recordPut, State.die_modDie_same, State.setF_die, hdie]

theorem State.recordPut_write (s : State) (d : Nat) (words : List Word) :
    (s.recordPut d words).getF Fld.OB_PREC_PTR_WRITE d = (s.getF Fld.OB_PREC_PTR_WRITE d + 1) % 256 := by
  rw [State.recordPut, State.modDie_getF, State.getF_setF_same _ _ _ _ (by decide)]
  exact Nat.mod_mod _ _

theorem State.recordPut_word (s : State) (d : Nat) (words : List Word) {k : Nat} (hk : k < 8) :
    (s.recordPut d words).rd .OB_PREC_REC (d * 2048 + 8 * s.getF Fld.OB_PREC_PTR_WRITE d + k) = words.getD k 0 := by
  rw [State.recordPut, State.modDie_rd, State.rd_setF _ _ _ _ _ _ (by decide), State.recordStored,
    State.forEach_wr_rd _ _ _ (fun k => words.getD k 0) hk]

/-- A ring with room takes the record, and interrupts at its threshold. -/
theorem State.putRecord_room {words : List Word} (h : (s.die d).unread < 255) : s.putRecord d words =
    if (s.recordPut d words).getF Fld.OB_PREC_CTRL_THRESH d = ((s.recordPut d words).die d).unread then
      (s.recordPut d words).emit (.irq d ((s.recordPut d words).getF Fld.OB_PREC_CTRL_CORE d) 16)
    else s.recordPut d words := by
  have hroom : decide (256 ≤ (s.die d).unread) = false := decide_eq_false (by omega)
  have hunread : ((s.recordPut d words).die d).unread ≠ 256 := by rw [State.recordPut_die]; simp only; omega
  have hfull : (if ((s.recordPut d words).die d).unread = 256 ∧ (!s.flag Fld.OB_PREC_CTRL_WRAP d) = true then
      (s.recordPut d words).setFlag Fld.OB_PREC_PTR_FULL d true else s.recordPut d words) = s.recordPut d words :=
    if_neg fun h => hunread h.1
  unfold State.putRecord
  dsimp only
  rw [hroom, Bool.false_and, if_neg Bool.false_ne_true, if_neg Bool.false_ne_true]
  exact congrArg (fun t : State =>
    if t.getF Fld.OB_PREC_CTRL_THRESH d = ((s.recordPut d words).die d).unread then
      t.emit (.irq d (t.getF Fld.OB_PREC_CTRL_CORE d) 16)
    else t) hfull

theorem State.putRecord_room_rd (words : List Word) (h : (s.die d).unread < 255) (n : RegName) (i : Nat) :
    (s.putRecord d words).rd n i = (s.recordPut d words).rd n i := by
  rw [State.putRecord_room h]
  split <;> rfl

theorem State.putRecord_room_die (words : List Word) (h : (s.die d).unread < 255) :
    (s.putRecord d words).die d = { s.die d with unread := (s.die d).unread + 1 } := by
  rw [State.putRecord_room h, ← State.recordPut_die s d words]
  split <;> rfl

/-- A full ring that does not wrap loses the record. -/
theorem State.putRecord_lost (words : List Word) (h : 256 ≤ (s.die d).unread) (hw : s.flag Fld.OB_PREC_CTRL_WRAP d = false) :
    s.putRecord d words = (s.setFlag Fld.OB_PREC_PTR_FULL d true).precLost d :=
  if_pos (by rw [decide_eq_true h, hw]; rfl)

theorem State.precLost_count (s : State) (d : Nat) :
    ((s.precLost d).rd .OB_PREC_LOST d).toNat = min ((s.rd .OB_PREC_LOST d).toNat + 1) 0xFFFFFFFF := by
  rw [State.precLost, State.rd_wr_same, BitVec.toNat_ofNat]
  exact Nat.mod_eq_of_lt (by omega)

end

/-! ## READ moves (R441) -/

/-- The records before READ are off the ring. -/
def State.recordsTaken (s : State) (d r : Nat) : State :=
  ((s.setF Fld.OB_PREC_PTR_READ d r).setFlag Fld.OB_PREC_PTR_FULL d false).modDie d fun x =>
    { x with unread := (s.getF Fld.OB_PREC_PTR_WRITE d + 256 - r) % 256 }

theorem exec_obPrecPtrWrite_moves {req : Requester} {d : DieId} {v : Word} {s : State} (ho : s.DieOpen req d.val)
    (h : Fld.OB_PREC_PTR_READ.of v ≠ s.getF Fld.OB_PREC_PTR_READ d.val) :
    exec (.obPrecPtrWrite req d v) s = .next (s.recordsTaken d.val (Fld.OB_PREC_PTR_READ.of v)) :=
  congrArg Host.Outcome.next ((State.dieAccess_open _ ho).trans (if_neg h))

theorem State.recordsTaken_spec (s : State) (d r : Nat) (hr : r < 256) :
    (s.recordsTaken d r).getF Fld.OB_PREC_PTR_READ d = r ∧ (s.recordsTaken d r).flag Fld.OB_PREC_PTR_FULL d = false ∧
      (s.recordsTaken d r).getF Fld.OB_PREC_PTR_WRITE d = s.getF Fld.OB_PREC_PTR_WRITE d ∧
      ((s.recordsTaken d r).die d).unread = (s.getF Fld.OB_PREC_PTR_WRITE d + 256 - r) % 256 := by
  unfold State.recordsTaken
  refine ⟨?_, ?_, ?_, ?_⟩
  · rw [State.modDie_getF, State.getF_setFlag_apart _ _ _ _ _ _ (by decide) (by decide),
      State.getF_setF_same _ _ _ _ (by decide)]
    exact Nat.mod_eq_of_lt hr
  · rw [State.modDie_flag, State.flag_setFlag_same _ _ _ _ (by decide) (by decide)]
  · rw [State.modDie_getF, State.getF_setFlag_apart _ _ _ _ _ _ (by decide) (by decide),
      State.getF_setF_apart _ _ _ _ _ _ (by decide) (by decide)]
  · rw [State.die_modDie_same]

/-- Settles O54: an interrupt by the bits it sets, a precise record by the words it puts at WRITE or by what a full ring counts,
and a write of READ by what it leaves unread. -/
theorem watchSlots : Obligations.WatchSlots := by
  unfold Obligations.WatchSlots
  refine ⟨fun d k pc w y z x l s hl hd hw hk ha => ?_, fun d k pc w y z x l s hl hd hk ha he _ hu => ?_,
    fun d k pc w y z x l s hl hd hk ha he _ hu hwrap => ?_, fun d k pc w y z s hd => exec_watchFire_none k pc w y z hd,
    fun req d v s ho hr => ⟨_, exec_obPrecPtrWrite_moves ho hr, s.recordsTaken_spec _ _ (bitsOf_lt v.toNat 8 8)⟩⟩
  · obtain ⟨hset, hmissed, hother, hout, hdie⟩ := (s.dueLeft d.val l).slotActs_interrupt_spec (d := d.val) pc w y z ha
      (hk ▸ k.isLt)
    rw [hk] at hset hmissed hout
    refine ⟨_, exec_watchFire_first pc w y z hl hd hw hk, ?_, hset, hmissed, hother, hout⟩
    rw [hdie, State.dueLeft_die]
  · have hroom : ((s.dueLeft d.val l).die d.val).unread < 255 := by rwa [State.dueLeft_die]
    have hdie := State.putRecord_room_die ((s.dueLeft d.val l).coreRecord d.val x pc w y z) hroom
    have hrd := State.putRecord_room_rd ((s.dueLeft d.val l).coreRecord d.val x pc w y z) hroom
    have hword := fun {j : Nat} (hj : j < 8) => (hrd _ _).trans (State.recordPut_word _ _ _ hj)
    rw [State.dueLeft_die] at hdie
    refine ⟨_, exec_watchFire_first pc w y z hl hd (s.dueWaits_core _ he) hk, ?_⟩
    rw [State.slotActs_core pc w y z ha he]
    exact ⟨by rw [hdie], by rw [hdie], (State.getF_eq_of_rd (hrd _ _)).trans (State.recordPut_write _ _ _),
      hword (j := 1) (by decide), hword (j := 2) (by decide), hword (j := 3) (by decide)⟩
  · have hfull : 256 ≤ ((s.dueLeft d.val l).die d.val).unread := by rwa [State.dueLeft_die]
    refine ⟨_, exec_watchFire_first pc w y z hl hd (s.dueWaits_core _ he) hk, ?_⟩
    rw [State.slotActs_core pc w y z ha he, State.putRecord_lost _ hfull hwrap]
    refine ⟨?_, ?_, fun i => ?_, by rw [State.precLost, State.wr_outputs, State.setFlag_outputs, State.dueLeft, State.modDie_outputs]⟩
    · rw [State.precLost, State.flag_wr_apart _ _ _ _ _ _ (by decide), State.flag_setFlag_same _ _ _ _ (by decide) (by decide)]
    · rw [State.precLost_count, State.rd_setFlag _ _ _ _ _ _ (by decide), State.dueLeft_rd]
    · rw [State.precLost, State.rd_wr_name _ _ _ _ _ _ (by decide), State.rd_setFlag _ _ _ _ _ _ (by decide),
        State.dueLeft_rd]

end Sys2Proof.Machine

namespace Sys2Proof.Machine

/-! # IDCODE (R470) -/

/-- The 32 bits that IDCODE shifts out. -/
def State.idcodeNumber (s : State) : Nat :=
  s.getF Fld.PART_INFO_STEPPING 0 * 2 ^ 28 + s.getF Fld.PART_INFO_PART_CODE 0 * 2 ^ 12 + Config.jep106.toNat * 2 + 1

theorem exec_idcode_open {s : State} (h : s.seq.aonHeld = false) : exec .idcode s =
    .next ((s.modJtag fun j => { j with ir := 0x01 }).emit (.tdo (wordBits (BitVec.ofNat 32 s.idcodeNumber)))) :=
  congrArg Host.Outcome.next (s.when_of _ _ (by rw [h]; rfl))

/-- The fields of the number are what R470 names. -/
theorem State.idcodeNumber_fields (s : State) : s.idcodeNumber < 2 ^ 32 ∧
    bitsOf s.idcodeNumber 28 4 = s.getF Fld.PART_INFO_STEPPING 0 ∧
    bitsOf s.idcodeNumber 12 16 = s.getF Fld.PART_INFO_PART_CODE 0 ∧
    bitsOf s.idcodeNumber 1 11 = Config.jep106.toNat ∧ bitOf s.idcodeNumber 0 = true := by
  have hstep : s.getF Fld.PART_INFO_STEPPING 0 < 2 ^ 4 := s.getF_lt _ _
  have hcode : s.getF Fld.PART_INFO_PART_CODE 0 < 2 ^ 16 := s.getF_lt _ _
  have hjep : Config.jep106.toNat < 2 ^ 11 := Config.jep106.isLt
  unfold State.idcodeNumber bitsOf bitOf
  rw [Nat.testBit_zero, decide_eq_true_eq]
  omega

theorem State.idcodeNumber_reset : State.reset.idcodeNumber = 0x06408001 + 2 * Config.jep106.toNat := by
  have hstep : State.reset.getF Fld.PART_INFO_STEPPING 0 = 0 := by decide
  have hcode : State.reset.getF Fld.PART_INFO_PART_CODE 0 = 0x6408 := by decide
  rw [State.idcodeNumber, hstep, hcode]
  omega

/-- Settles O57: the number by its fields, and by the part's own values after reset. -/
theorem idcodeReads : Obligations.IdcodeReads := by
  unfold Obligations.IdcodeReads
  refine ⟨fun s h => ⟨_, exec_idcode_open h, _, rfl, ?_⟩, _, exec_idcode_open rfl, ?_⟩
  · obtain ⟨hlt, hfields⟩ := s.idcodeNumber_fields
    rwa [BitVec.toNat_ofNat, Nat.mod_eq_of_lt hlt]
  · rw [State.idcodeNumber_reset]
    rfl

end Sys2Proof.Machine

namespace Sys2Proof.Machine

/-! # The host interface's operations (R348 to R360)

What the operations of the host interface leave alone is said once, by `HifKept`; what they do to a pair's context is said by
one lemma per operation. -/

theorem State.SameSram.refl (s : State) : s.SameSram s := fun _ _ => rfl

/-- From `s` to `t` the host interface may have moved, faults may have been reported, events counted and words sent out. -/
structure HifKept (s t : State) : Prop where
  rest : t = { s with regs := t.regs, dies := t.dies, hif := t.hif, outputs := t.outputs }
  generation : ∀ d, (t.die d).generation = (s.die d).generation
  rd : ∀ n i, n.counts = false → n ∉ faultRegs → n ≠ .HI_STATUS → n ≠ .FN_ACTRL → t.rd n i = s.rd n i

namespace HifKept

variable {r s t : State}

theorem refl (s : State) : HifKept s s := ⟨rfl, fun _ => rfl, fun _ _ _ _ _ _ => rfl⟩

theorem trans (h1 : HifKept r s) (h2 : HifKept s t) : HifKept r t where
  rest := h2.rest.trans (by rw [h1.rest])
  generation d := (h2.generation d).trans (h1.generation d)
  rd n i hc hf hs ha := (h2.rd n i hc hf hs ha).trans (h1.rd n i hc hf hs ha)

theorem report (h : HifKept r s) {d code source : Nat} : HifKept r (s.report d code source) :=
  h.trans ⟨by rw [s.report_rest d code source], s.report_generation d code source,
    fun n i hc hf _ _ => s.report_rd_plain d code source n i hc hf⟩

theorem count (h : HifKept r s) {d e n : Nat} : HifKept r (s.count d e n) := by
  obtain ⟨hrest, hbut, hother, hdie⟩ := s.count_counted d e n
  refine h.trans ⟨by rw [hrest], fun x => ?_, fun n i hc _ _ _ => hbut n i hc⟩
  by_cases hx : x = d
  · rw [hx, hdie]
  · rw [hother x hx]

theorem modHif (h : HifKept r s) {f : Hif → Hif} : HifKept r (s.modHif f) :=
  h.trans ⟨rfl, fun _ => rfl, fun _ _ _ _ hs _ => State.rd_setF _ _ _ _ _ _ hs⟩

theorem modPair (h : HifKept r s) {p : Nat} {f : Pair → Pair} : HifKept r (s.modPair p f) := h.modHif

theorem setFlag (h : HifKept r s) {f : Field} {i : Nat} {b : Bool} (hf : f.reg = .FN_ACTRL) : HifKept r (s.setFlag f i b) :=
  h.trans ⟨rfl, fun _ => rfl, fun _ _ _ _ _ ha => State.rd_setF _ _ _ _ _ _ (hf ▸ ha)⟩

theorem emit (h : HifKept r s) {o : Output} : HifKept r (s.emit o) := h.trans ⟨rfl, fun _ => rfl, fun _ _ _ _ _ _ => rfl⟩

theorem ite {c : Prop} [Decidable c] (h1 : HifKept r s) (h2 : HifKept r t) : HifKept r (if c then s else t) := by
  split
  · exact h1
  · exact h2

theorem pairError (h : HifKept r s) {p code : Nat} : HifKept r (s.pairError p code) :=
  ite (setFlag (report h.modPair) rfl) (report h.modPair)

theorem hostAccess (h : HifKept r s) (m : MemAccess) : HifKept r (s.hostAccess m).2 := by
  have hfails : HifKept r (s.forEach (List.range (runFails m.runs)) fun s _ => s.report 0 0x510D 0) :=
    List.foldlRecOn _ _ h fun _ hs _ _ => hs.report
  exact ite hfails.report hfails

theorem sameSram (h : HifKept s t) : s.SameSram t :=
  State.sameSram_of (by rw [h.rest]) h.generation
    (h.rd .BT_LOCK 0 rfl (by decide) (by decide) (by decide))

theorem getF (h : HifKept s t) {f : Field} (i : Nat) (hc : f.reg.counts = false) (hf : f.reg ∉ faultRegs)
    (hs : f.reg ≠ .HI_STATUS) (ha : f.reg ≠ .FN_ACTRL) : t.getF f i = s.getF f i :=
  State.getF_eq_of_rd (h.rd _ i hc hf hs ha)

theorem flag (h : HifKept s t) {f : Field} (i : Nat) (hc : f.reg.counts = false) (hf : f.reg ∉ faultRegs)
    (hs : f.reg ≠ .HI_STATUS) (ha : f.reg ≠ .FN_ACTRL) : t.flag f i = s.flag f i := by
  rw [State.flag, h.getF i hc hf hs ha, State.flag]

end HifKept

/-! ## Host memory (R202, R360) -/

/-- A property that reports keep, an access to host memory keeps. -/
theorem State.hostAccess_keeps {P : State → Prop} (hreport : ∀ s code, P s → P (s.report 0 code 0)) {s : State} (h : P s)
    (m : MemAccess) : P (s.hostAccess m).2 := by
  have hfails : P (s.forEach (List.range (runFails m.runs)) fun s _ => s.report 0 0x510D 0) :=
    List.foldlRecOn _ _ h fun t ht _ _ => hreport t _ ht
  unfold State.hostAccess
  dsimp only
  split
  · exact hreport _ _ hfails
  · exact hfails

@[simp] theorem State.hostAccess_hif (s : State) (m : MemAccess) : (s.hostAccess m).2.hif = s.hif :=
  State.hostAccess_keeps (P := fun t => t.hif = s.hif) (fun t _ h => (t.report_hif _ _ _).trans h) rfl m

@[simp] theorem State.hostAccess_outputs (s : State) (m : MemAccess) : (s.hostAccess m).2.outputs = s.outputs :=
  State.hostAccess_keeps (P := fun t => t.outputs = s.outputs) (fun t _ h => (t.report_outputs _ _ _).trans h) rfl m

/-! ## A pair's context -/

section

variable {s t : State} {p k : Nat} {x : Pair}

@[simp] theorem State.modHif_hif (s : State) (f : Hif → Hif) : (s.modHif f).hif = f s.hif := rfl

theorem State.pair_congr (h : t.hif = s.hif) (p : Nat) : t.pair p = s.pair p := by rw [State.pair, h, State.pair]

theorem State.pairOn_congr (h : t.hif = s.hif) (p : Nat) : t.pairOn p = s.pairOn p := by rw [State.pairOn, h, State.pairOn]

theorem State.pairOn_iff (s : State) (p : Nat) : s.pairOn p = true ↔ p ∈ s.hif.enabled := by simp [State.pairOn, mem]

theorem State.pairOn_eq_false (s : State) (p : Nat) : s.pairOn p = false ↔ p ∉ s.hif.enabled := by
  rw [← s.pairOn_iff p, Bool.not_eq_true]

theorem State.pair_modPair_same (f : Pair → Pair) (h : s.pair p = some x) : (s.modPair p f).pair p = some (f x) := by
  obtain ⟨⟨q, y⟩, hfind, rfl⟩ := Option.map_eq_some_iff.mp h
  have hcomp : ((fun z : Nat × Pair => decide (z.1 = p)) ∘ fun z => if z.1 = p then (z.1, f z.2) else z) =
      fun z : Nat × Pair => decide (z.1 = p) := by
    funext z
    by_cases hz : z.1 = p <;> simp [hz]
  have hq : q = p := by simpa using List.find?_some hfind
  rw [State.pair, State.modPair, State.modHif_hif, List.find?_map, hcomp, hfind]
  simp [hq]

theorem State.pair_modPair_other (f : Pair → Pair) (h : k ≠ p) : (s.modPair p f).pair k = s.pair k := by
  have hcomp : ((fun z : Nat × Pair => decide (z.1 = k)) ∘ fun z => if z.1 = p then (z.1, f z.2) else z) =
      fun z : Nat × Pair => decide (z.1 = k) := by
    funext z
    by_cases hz : z.1 = p <;> simp [hz]
  rw [State.pair, State.modPair, State.modHif_hif, List.find?_map, hcomp, State.pair]
  cases hfind : s.hif.cache.find? fun z => decide (z.1 = k) with
  | none => rfl
  | some z =>
    have hz : z.1 = k := by simpa using List.find?_some hfind
    simp [hz, h]

theorem State.pair_ctxPut_same (s : State) (p : Nat) (x : Pair) : (s.ctxPut p x).pair p = some x := by
  rw [State.pair, State.ctxPut, State.modHif_hif, List.find?_cons_of_pos (by simp)]
  rfl

theorem State.pair_ctxPut_other (x : Pair) (h : k ≠ p) : (s.ctxPut p x).pair k = s.pair k := by
  rw [State.pair, State.ctxPut, State.modHif_hif, List.find?_cons_of_neg (by simpa using h.symm), List.find?_filter, State.pair]
  refine congrArg _ (List.find?_congr fun z _ => ?_)
  by_cases hz : z.1 = k <;> simp [hz, h]

@[simp] theorem State.modPair_enabled (s : State) (p : Nat) (f : Pair → Pair) :
    (s.modPair p f).hif.enabled = s.hif.enabled := rfl

theorem State.modPair_pairOn (s : State) (p : Nat) (f : Pair → Pair) (k : Nat) : (s.modPair p f).pairOn k = s.pairOn k := rfl

/-! ## ERROR (R356) -/

/-- In ERROR the report and FN_ACTRL say so, and the context does. -/
theorem State.pairError_hif (s : State) (p code : Nat) :
    (s.pairError p code).hif = (s.modPair p fun x => { x with error := true, fetched := none }).hif := by
  unfold State.pairError State.hiFault
  dsimp only
  split
  · exact State.report_hif _ _ _ _
  · exact State.report_hif _ _ _ _

theorem State.pairError_pair (code : Nat) (h : s.pair p = some x) :
    (s.pairError p code).pair p = some { x with error := true, fetched := none } := by
  rw [State.pair_congr (s.pairError_hif p code), State.pair_modPair_same _ h]

theorem State.pairError_pair_other (code : Nat) (h : k ≠ p) : (s.pairError p code).pair k = s.pair k := by
  rw [State.pair_congr (s.pairError_hif p code), State.pair_modPair_other _ h]

theorem State.pairError_outputs (s : State) (p code : Nat) : (s.pairError p code).outputs = s.outputs := by
  unfold State.pairError State.hiFault
  dsimp only
  split
  · exact State.report_outputs _ _ _ _
  · exact State.report_outputs _ _ _ _

/-- A host interface fault below 0x8005 sets its bit of HI_FAULT (Table 6.7). -/
theorem State.hiFault_bit (s : State) (p : Nat) {b : Nat} (hb : b < 4) :
    bitOf ((s.hiFault p (0x8001 + b)).rd .HI_FAULT 0).toNat b = true := by
  have hbit : faultBit 0 (0x8001 + b) (p / 128 + 256 * (p % 128)) = some (.HI_FAULT, 0, b) := by
    obtain rfl | rfl | rfl | rfl : b = 0 ∨ b = 1 ∨ b = 2 ∨ b = 3 := by omega
    all_goals rfl
  rw [State.hiFault, State.report_bit _ _ _ _ .HI_FAULT 0 b rfl hbit]
  exact bitOf_or_twoPow _ (by omega)

theorem State.pairError_bit (s : State) (p : Nat) {b : Nat} (hb : b < 4) :
    bitOf ((s.pairError p (0x8001 + b)).rd .HI_FAULT 0).toNat b = true := by
  unfold State.pairError
  dsimp only
  split
  · rw [State.rd_setFlag _ _ _ _ _ _ (by decide)]
    exact State.hiFault_bit _ p hb
  · exact State.hiFault_bit _ p hb

/-! ## Numbers of pairs -/

theorem pairNo_div (f : Nat) {q : Nat} (h : q < 128) : pairNo f q / 128 = f := by unfold pairNo; omega

theorem pairNo_mod (f : Nat) {q : Nat} (h : q < 128) : pairNo f q % 128 = q := by unfold pairNo; omega

theorem pairNo_ne {f q k : Nat} (h : k ≠ q) : pairNo f k ≠ pairNo f q := by unfold pairNo; omega

/-! ## A started command ends (R353) -/

theorem State.ringHeld_congr {q : Nat} (h : t.pair p = s.pair p) : t.ringHeld p q = s.ringHeld p q := by
  rw [State.ringHeld, h, State.ringHeld]

/-- A command that may begin stands among the started ones of its pair. -/
theorem State.ringCmd_held {f q n : Nat} {ok : Nat → Bool} {c : RingCmd} (h : s.ringCmd f q n ok = some c) :
    s.ringHeld (pairNo f q) c.serial = true := by
  unfold State.ringCmd at h
  split at h
  · cases h
  · rename_i x hx
    split at h
    · cases h
    · rename_i y hy
      dsimp only at h
      split at h
      · cases h
        rw [State.ringHeld, hx, List.any_eq_true]
        exact ⟨_, List.mem_of_getElem? hy, decide_eq_true rfl⟩
      · cases h

theorem State.ringEnd_done {serial : Nat} (h : s.ringHeld p serial = true) (r0 r1 : Word) (st : Nat) :
    (s.ringEnd p serial r0 r1 st).RingDone p serial r0 r1 st := by
  unfold State.ringHeld at h
  split at h
  · rename_i x hx
    obtain ⟨c, hc, hser⟩ := List.any_eq_true.mp h
    refine ⟨_, _, State.pair_modPair_same _ hx, List.mem_map_of_mem hc, ?_⟩
    rw [if_pos (by simpa using hser)]
    exact ⟨by simpa using hser, rfl, rfl⟩
  · cases h

theorem State.RingDone.of_pair {serial st : Nat} {r0 r1 : Word} (h : s.RingDone p serial r0 r1 st) (ht : t.pair p = s.pair p) :
    t.RingDone p serial r0 r1 st := by
  rw [State.RingDone, ht]
  exact h

end

end Sys2Proof.Machine

namespace Sys2Proof.Machine

/-! # Doorbells (R354, R356, R358) -/

section

variable {s : State} {p f q : Nat} {x : Pair}

theorem exec_sqTail_live (f : FnId) (q : PairId) (v : Word) (h : s.hifLive = true) :
    exec (.sqTail f q v) s = .next (s.writeBell f.val q.val false v) := congrArg Host.Outcome.next (s.when_of _ _ h)

theorem exec_cqHead_live (f : FnId) (q : PairId) (v : Word) (h : s.hifLive = true) :
    exec (.cqHead f q v) s = .next (s.writeBell f.val q.val true v) := congrArg Host.Outcome.next (s.when_of _ _ h)

/-- A doorbell that reaches the part is counted. -/
def State.bellCounted (s : State) : State := s.count 0 0x3E2 1

@[simp] theorem State.bellCounted_hif (s : State) : s.bellCounted.hif = s.hif := State.count_hif _ _ _ _

theorem State.bellCounted_pair (s : State) (p : Nat) : s.bellCounted.pair p = s.pair p := State.pair_congr s.bellCounted_hif p

theorem State.bellCounted_pairOn (s : State) (p : Nat) : s.bellCounted.pairOn p = s.pairOn p :=
  State.pairOn_congr s.bellCounted_hif p

theorem State.bellCounted_kept (s : State) : HifKept s s.bellCounted := (HifKept.refl s).count

/-- What a doorbell of function f does: nothing for a function that is absent; beyond the count, nothing for a pair that is not
enabled; a cached pair takes it, and for another the last value is kept. -/
theorem State.writeBell_eq (s : State) (f q : Nat) (cq : Bool) (v : Word) : s.writeBell f q cq v =
    if !s.fnLive f then s
    else if !s.pairOn (pairNo f q) then s.bellCounted
    else if (s.pair (pairNo f q)).isSome then
      (if cq then s.bellCounted.ringHead (pairNo f q) (bitsOf v.toNat 0 16)
        else s.bellCounted.ringTail (pairNo f q) (bitsOf v.toNat 0 16))
    else s.bellCounted.setBell (pairNo f q)
      (if cq then ((s.bellCounted.bell (pairNo f q)).1, some (bitsOf v.toNat 0 16))
        else (some (bitsOf v.toNat 0 16), (s.bellCounted.bell (pairNo f q)).2)) := by
  rw [← s.bellCounted_pairOn, ← s.bellCounted_pair]
  rfl

theorem State.writeBell_disabled (cq : Bool) (v : Word) (hp : s.pairOn (pairNo f q) = false) :
    (s.writeBell f q cq v).hif = s.hif := by
  rw [State.writeBell_eq, hp]
  split
  · rfl
  · exact s.bellCounted_hif

theorem State.writeBell_cached (cq : Bool) (v : Word) (hf : s.fnLive f = true) (hp : s.pairOn (pairNo f q) = true)
    (hx : s.pair (pairNo f q) = some x) : s.writeBell f q cq v =
      if cq then s.bellCounted.ringHead (pairNo f q) (bitsOf v.toNat 0 16)
      else s.bellCounted.ringTail (pairNo f q) (bitsOf v.toNat 0 16) := by
  simp [State.writeBell_eq, hf, hp, hx]

theorem State.bell_setBell (s : State) (p : Nat) (b : Option Nat × Option Nat) : (s.setBell p b).bell p = b :=
  Tbl.get_set_same _ _ _ _

theorem State.writeBell_kept (cq : Bool) (v : Word) (hf : s.fnLive f = true) (hp : s.pairOn (pairNo f q) = true)
    (hx : s.pair (pairNo f q) = none) : (s.writeBell f q cq v).bell (pairNo f q) =
      if cq then ((s.bellCounted.bell (pairNo f q)).1, some (bitsOf v.toNat 0 16))
      else (some (bitsOf v.toNat 0 16), (s.bellCounted.bell (pairNo f q)).2) := by
  rw [State.writeBell_eq, hf, hp, hx]
  exact State.bell_setBell _ _ _

/-- A tail within the ring makes the entries before it ready; one beyond it is the pair's ERROR. -/
theorem State.ringTail_open {tail : Nat} (hx : s.pair p = some x) (he : x.error = false) (hd : x.deleting = none) :
    s.ringTail p tail =
      if tail < ringLen x.sqSize then s.modPair p fun x => { x with sqTail := tail } else s.pairError p 0x8001 := by
  rw [← ite_not]
  simp [State.ringTail, hx, he, hd]

/-- A head among the entries that the part wrote frees them; any other is the pair's ERROR. -/
theorem State.ringHead_open {n h : Nat} (hn : n = ringLen x.cqSize) (hx : s.pair p = some x) (he : x.error = false) :
    s.ringHead p h = if h < n ∧ (h + n - x.cqHead) % n ≤ (x.cqTail + n - x.cqHead) % n then
      s.modPair p fun x => { x with cqHead := h, irqArmed := true } else s.pairError p 0x8001 := by
  subst hn
  rw [← ite_not]
  simp only [State.ringHead, hx, he, Bool.false_eq_true, if_false, not_and_or, Nat.not_lt, Nat.not_le]

/-- What a doorbell leaves of its pair's context: the new one where it is taken, and else ERROR. -/
theorem State.bell_spec {c : Prop} [Decidable c] {g : Pair → Pair} (hx : s.pair p = some x) :
    HifKept s (if c then s.modPair p g else s.pairError p 0x8001) ∧
      (if c then s.modPair p g else s.pairError p 0x8001).outputs = s.outputs ∧
      (if c then s.modPair p g else s.pairError p 0x8001).pair p =
        some (if c then g x else { x with error := true, fetched := none }) ∧
      ∀ k, k ≠ p → (if c then s.modPair p g else s.pairError p 0x8001).pair k = s.pair k := by
  split
  · exact ⟨(HifKept.refl s).modPair, rfl, State.pair_modPair_same g hx, fun k hk => State.pair_modPair_other g hk⟩
  · exact ⟨(HifKept.refl s).pairError, s.pairError_outputs p _, State.pairError_pair _ hx,
      fun k hk => State.pairError_pair_other _ hk⟩

end

/-! # Completions (R353, R357, R358, R360) -/

section

variable {s : State} {f q : Nat} {m : MemAccess} {x : Pair} {c : RingCmd} {l : List RingCmd} {r : Word × Word × Nat}

theorem exec_completionWrite_live (f : FnId) (q : PairId) (m : MemAccess) (h : s.hifLive = true) :
    exec (.completionWrite f q m) s = .next (s.completionWrite f.val q.val m) := congrArg Host.Outcome.next (s.when_of _ _ h)

theorem State.deleteDone_none {p : Nat} (hx : s.pair p = some x) (hd : x.deleting = none) : s.deleteDone p = s := by
  simp only [State.deleteDone, hx, hd]

/-- The oldest command leaves the pair's started ones. -/
def State.startedLeft (s : State) (p : Nat) (l : List RingCmd) : State := s.modPair p fun x => { x with started := l }

/-- The completion has been written: the next one goes behind it, and its phase turns at the end of the ring. -/
def State.completed (s : State) (f q : Nat) (x : Pair) (c : RingCmd) (l : List RingCmd) (r : Word × Word × Nat) : State :=
  ((s.emit (.completion f q (completionWords x c r))).count 0 0x3E1 1).modPair (pairNo f q) fun y =>
    { y with
      started := l, cqTail := (y.cqTail + 1) % ringLen x.cqSize, phase := y.phase != decide (x.cqTail + 1 = ringLen x.cqSize)
      irqArmed := y.irqArmed && !(x.irqEn && x.irqArmed) }

/-- The oldest command of a pair has ended or has not; the queue has room or has none; the write goes well or fails. -/
theorem State.completionWrite_eq (hx : s.pair (pairNo f q) = some x) (hs : x.started = c :: l) : s.completionWrite f q m =
    match c.done with
    | none => s
    | some r =>
      if x.error then (s.startedLeft (pairNo f q) l).deleteDone (pairNo f q)
      else if (x.cqTail + 1) % ringLen x.cqSize = x.cqHead then s
      else if !(s.hostAccess m).1 then
        (((s.hostAccess m).2.startedLeft (pairNo f q) l).pairError (pairNo f q) 0x8003).deleteDone (pairNo f q)
      else
        (if x.irqEn && x.irqArmed then ((s.hostAccess m).2.completed f q x c l r).msixSend f x.vector
          else (s.hostAccess m).2.completed f q x c l r).deleteDone (pairNo f q) := by
  unfold State.completionWrite
  simp only [hx, hs]
  cases c.done <;> rfl

/-- The interrupt message of a vector goes out, unless the vector is masked. -/
theorem State.msixSend_unmasked {v : Nat} (h : bitOf (s.msixWord f (4 * v + 3)) 0 = false) :
    s.msixSend f v = (s.emit (.msix f v)).count 0 0x3E3 1 := if_neg (by simp [h])

theorem State.msixSend_pair (s : State) (f v p : Nat) : (s.msixSend f v).pair p = s.pair p := by
  unfold State.msixSend
  split
  · rfl
  · rw [State.pair_congr (State.count_hif _ _ _ _)]
    rfl

theorem State.msixSend_keeps_output {o : Output} (f v : Nat) (h : o ∈ s.outputs) : o ∈ (s.msixSend f v).outputs := by
  unfold State.msixSend
  split
  · exact h
  · rw [State.count_outputs]
    exact List.mem_append_left _ h

theorem State.completed_outputs (s : State) (f q : Nat) (x : Pair) (c : RingCmd) (l : List RingCmd) (r : Word × Word × Nat) :
    (s.completed f q x c l r).outputs = s.outputs ++ [.completion f q (completionWords x c r)] :=
  State.count_outputs _ _ _ _

theorem State.completed_pair (hx : s.pair (pairNo f q) = some x) :
    (s.completed f q x c l r).pair (pairNo f q) = some { x with
      started := l, cqTail := (x.cqTail + 1) % ringLen x.cqSize
      phase := x.phase != decide (x.cqTail + 1 = ringLen x.cqSize), irqArmed := x.irqArmed && !x.irqEn } := by
  have hx' : ((s.emit (.completion f q (completionWords x c r))).count 0 0x3E1 1).pair (pairNo f q) = some x :=
    (State.pair_congr (State.count_hif _ _ _ _) _).trans hx
  rw [State.completed, State.pair_modPair_same _ hx']
  cases x.irqArmed <;> cases x.irqEn <;> rfl

theorem State.completed_msixWord (s : State) (f q : Nat) (x : Pair) (c : RingCmd) (l : List RingCmd) (r : Word × Word × Nat)
    (g w : Nat) : (s.completed f q x c l r).msixWord g w = s.msixWord g w := by
  have hhif : ((s.emit (.completion f q (completionWords x c r))).count 0 0x3E1 1).hif = s.hif := State.count_hif _ _ _ _
  unfold State.msixWord State.completed State.modPair
  rw [State.modHif_hif, hhif]

end

/-- Settles O39: a doorbell by what a cached pair does with it, and a completion by the branches of its write. -/
theorem doorbellsAndCompletions : Obligations.DoorbellsAndCompletions := by
  unfold Obligations.DoorbellsAndCompletions
  refine ⟨fun f q v x s hh hf hp hx he hd => ⟨_, exec_sqTail_live f q v hh, ?_⟩,
    fun f q v x n h s hh hf hp hx he hn hv => ⟨_, exec_cqHead_live f q v hh, ?_⟩,
    fun f q v s hh hp => ⟨⟨_, exec_sqTail_live f q v hh, State.writeBell_disabled _ v hp⟩,
      _, exec_cqHead_live f q v hh, State.writeBell_disabled _ v hp⟩,
    fun f q v s hh hf hp hx => ⟨⟨_, exec_sqTail_live f q v hh, ?_⟩, _, exec_cqHead_live f q v hh, ?_⟩,
    fun f q m x c l r s hh hm hx hs hr he hd hroom => ⟨_, exec_completionWrite_live f q m hh, ?_⟩,
    fun f q m x c l s hh hx hs he hwait => (exec_completionWrite_live f q m hh).trans (congrArg _ ?_),
    fun f q m x c l r s hh hm hx hs hr he hd hroom => ⟨_, exec_completionWrite_live f q m hh, ?_⟩,
    fun f q m x c l r s hh hx hs hr he hd => ⟨_, exec_completionWrite_live f q m hh, ?_⟩⟩
  · have hx' := (s.bellCounted_pair (pairNo f.val q.val)).trans hx
    rw [State.writeBell_cached _ v hf hp hx, if_neg Bool.false_ne_true, State.ringTail_open hx' he hd]
    obtain ⟨hkept, hout, hpair, hother⟩ := State.bell_spec (c := bitsOf v.toNat 0 16 < ringLen x.sqSize)
      (g := fun x => { x with sqTail := bitsOf v.toNat 0 16 }) hx'
    exact ⟨(s.bellCounted_kept.trans hkept).sameSram, hout.trans (State.count_outputs _ _ _ _), hpair,
      fun k hk => (hother k hk).trans (s.bellCounted_pair k)⟩
  · have hx' := (s.bellCounted_pair (pairNo f.val q.val)).trans hx
    rw [State.writeBell_cached _ v hf hp hx, if_pos rfl, ← hv, State.ringHead_open hn hx' he]
    obtain ⟨hkept, hout, hpair, -⟩ := State.bell_spec
      (c := h < n ∧ (h + n - x.cqHead) % n ≤ (x.cqTail + n - x.cqHead) % n)
      (g := fun x => { x with cqHead := h, irqArmed := true }) hx'
    exact ⟨(s.bellCounted_kept.trans hkept).sameSram, hout.trans (State.count_outputs _ _ _ _), hpair⟩
  · exact congrArg Prod.fst (State.writeBell_kept _ v hf hp hx)
  · exact congrArg Prod.snd (State.writeBell_kept _ v hf hp hx)
  · have hx' := (State.pair_congr (s.hostAccess_hif m) _).trans hx
    have hpair := State.completed_pair (c := c) (l := l) (r := r) hx'
    have hout := (s.hostAccess m).2.completed_outputs f.val q.val x c l r
    rw [State.completionWrite_eq hx hs, hr, hm]
    dsimp only
    rw [if_neg (Bool.eq_false_iff.mp he), if_neg hroom, Bool.not_true, if_neg Bool.false_ne_true]
    split
    · rw [State.deleteDone_none ((State.msixSend_pair _ _ _ _).trans hpair) hd]
      refine ⟨State.msixSend_keeps_output _ _ (by simp [hout]), fun _ _ hmask => ?_,
        (State.msixSend_pair _ _ _ _).trans hpair⟩
      have hword : (s.hostAccess m).2.msixWord f.val (4 * x.vector + 3) = s.msixWord f.val (4 * x.vector + 3) := by
        rw [State.msixWord, s.hostAccess_hif, State.msixWord]
      rw [State.msixSend_unmasked (by rwa [State.completed_msixWord, hword]), State.count_outputs]
      exact List.mem_append_right _ List.mem_cons_self
    · rename_i hquiet
      rw [State.deleteDone_none hpair hd]
      exact ⟨by simp [hout], fun hen harm => absurd (by rw [hen, harm]; rfl) hquiet, hpair⟩
  · rw [State.completionWrite_eq hx hs]
    cases hr : c.done with
    | none => rfl
    | some r =>
      obtain hnone | hfull := hwait
      · rw [hr] at hnone
        cases hnone
      · dsimp only
        rw [he, if_neg Bool.false_ne_true, if_pos hfull]
  · have hx' := (State.pair_congr (s.hostAccess_hif m) _).trans hx
    have hpair := State.pairError_pair 0x8003 (State.pair_modPair_same (fun x => { x with started := l }) hx')
    rw [State.completionWrite_eq hx hs, hr, hm]
    dsimp only
    rw [if_neg (Bool.eq_false_iff.mp he), if_neg hroom, Bool.not_false, if_pos rfl, State.startedLeft,
      State.deleteDone_none hpair hd]
    exact ⟨(State.pairError_outputs _ _ _).trans (s.hostAccess_outputs m), State.pairError_bit _ _ (b := 2) (by decide), hpair⟩
  · have hpair := State.pair_modPair_same (fun x => { x with started := l }) hx
    rw [State.completionWrite_eq hx hs, hr]
    dsimp only
    rw [if_pos he, State.startedLeft, State.deleteDone_none hpair hd]
    exact ⟨rfl, hpair⟩

end Sys2Proof.Machine

namespace Sys2Proof.Machine

/-! # Fetching and starting (R359 to R361) -/

section

variable {s : State} {f q : Nat} {x : Pair} {m : MemAccess} {w : List Word}

/-- Pair q of function f is enabled and cached, with an entry to fetch and room to start it. -/
structure State.Fetches (s : State) (f q : Nat) (x : Pair) : Prop where
  live : s.hifLive = true
  enabled : s.pairOn (pairNo f q) = true
  area : s.flag Fld.HI_CTX_CTRL_EN 0 = true
  pair : s.pair (pairNo f q) = some x
  error : x.error = false
  deleting : x.deleting = none
  fetched : x.fetched = none
  room : x.started.length < 16
  ready : x.sqHead ≠ x.sqTail

/-- The pair whose turn it is moves to the front of the cache. -/
def State.entryTurn (s : State) (f q : Nat) (x : Pair) : State := s.ctxPut (pairNo f q) x

/-- The entry at the head has been read. -/
def State.entryRead (s : State) (f q : Nat) (x : Pair) (m : MemAccess) : State :=
  (((s.entryTurn f q x).hostAccess m).2.count 0 0x3E0 1).modPair (pairNo f q) fun x =>
    { x with sqHead := (x.sqHead + 1) % ringLen x.sqSize }

theorem exec_commandStart_live (f : FnId) (q : PairId) (k w : List Word) (a m : MemAccess)
    (h : (s.hifLive && s.pairOn (pairNo f.val q.val) && s.flag Fld.HI_CTX_CTRL_EN 0) = true)
    (hx : s.pair (pairNo f.val q.val) = some x) :
    exec (.commandStart f q k a w m) s = .next ((s.entryTurn f.val q.val x).commandStart f.val q.val w m) := by
  refine congrArg Host.Outcome.next ((s.when_of _ _ h).trans ?_)
  simp [hx, State.entryTurn]

theorem exec_commandStart_disabled (f : FnId) (q : PairId) (k w : List Word) (a m : MemAccess)
    (h : s.pairOn (pairNo f.val q.val) = false) : exec (.commandStart f q k a w m) s = .next s := by
  refine congrArg Host.Outcome.next (if_neg ?_)
  simp [h]

theorem State.hostAccess_verdict (s t : State) (m : MemAccess) : (s.hostAccess m).1 = (t.hostAccess m).1 := rfl

/-- An entry that cannot be read puts its pair into ERROR; one that waits stands fetched; any other starts. -/
theorem State.Fetches.exec_commandStart {f : FnId} {q : PairId} (h : s.Fetches f.val q.val x) (k w : List Word) (a m : MemAccess) :
    exec (.commandStart f q k a w m) s = .next
      (if !(s.hostAccess m).1 then ((s.entryTurn f.val q.val x).hostAccess m).2.pairError (pairNo f.val q.val) 0x8003
      else if subWaits w ∧ x.started ≠ [] then
        (s.entryRead f.val q.val x m).modPair (pairNo f.val q.val) fun x => { x with fetched := some w }
      else (s.entryRead f.val q.val x m).startEntry f.val q.val w) := by
  rw [exec_commandStart_live f q k w a m (by rw [h.live, h.enabled, h.area]; rfl) h.pair, State.commandStart]
  have hpair : (s.entryTurn f.val q.val x).pair (pairNo f.val q.val) = some x := s.pair_ctxPut_same _ x
  have hopen : ¬ (x.error ∨ x.deleting.isSome ∨ 16 ≤ x.started.length) := by
    simp [h.error, h.deleting, h.room]
  dsimp only
  rw [hpair]
  dsimp only
  rw [if_neg hopen, h.fetched]
  dsimp only
  rw [if_neg h.ready, State.hostAccess_verdict _ s]
  rfl

theorem State.entryRead_pair (s : State) (f q : Nat) (x : Pair) (m : MemAccess) : (s.entryRead f q x m).pair (pairNo f q) =
    some { x with sqHead := (x.sqHead + 1) % ringLen x.sqSize } := by
  refine State.pair_modPair_same _ ?_
  rw [State.pair_congr (State.count_hif _ _ _ _), State.pair_congr (State.hostAccess_hif _ _)]
  exact s.pair_ctxPut_same _ x

theorem State.entryRead_kept (s : State) (f q : Nat) (x : Pair) (m : MemAccess) : HifKept s (s.entryRead f q x m) := by
  unfold State.entryRead State.entryTurn State.ctxPut
  exact ((HifKept.refl s).modHif.hostAccess m).count.modPair

theorem State.entryRead_nextSerial (s : State) (f q : Nat) (x : Pair) (m : MemAccess) :
    (s.entryRead f q x m).hif.nextSerial = s.hif.nextSerial := by
  rw [State.entryRead, State.modPair, State.modHif_hif, State.count_hif, State.hostAccess_hif]
  rfl

/-- What a command that starts stands as: one that is not listed or not allowed has ended already (R361). -/
def State.startedCmd (s : State) (f q : Nat) (w : List Word) : RingCmd :=
  let st := if (opExecutor (subOp w)).isNone then some 1 else if s.opAllowed f q (subOp w) then none else some 3
  { serial := s.hif.nextSerial, words := w, begun := st.isSome, done := st.map fun x => (0, 0, x) }

theorem State.startedCmd_eq (s : State) (f q : Nat) (w : List Word) : s.startedCmd f q w =
    { serial := s.hif.nextSerial, words := w
      begun := (opExecutor (subOp w)).isNone || !s.opAllowed f q (subOp w)
      done := if (opExecutor (subOp w)).isNone then some (0, 0, 1)
        else if s.opAllowed f q (subOp w) then none else some (0, 0, 3) } := by
  unfold State.startedCmd
  cases (opExecutor (subOp w)).isNone <;> cases s.opAllowed f q (subOp w) <;> rfl

theorem HifKept.opAllowed {t : State} (h : HifKept s t) (f q op : Nat) : t.opAllowed f q op = s.opAllowed f q op := by
  unfold State.opAllowed
  rw [h.flag f (by decide) (by decide) (by decide) (by decide), h.flag f (by decide) (by decide) (by decide) (by decide)]

theorem State.startEntry_pair (w : List Word) (hx : s.pair (pairNo f q) = some x) :
    (s.startEntry f q w).pair (pairNo f q) =
      some { x with started := x.started ++ [s.startedCmd f q w], fetched := none } :=
  State.pair_modPair_same _ hx

theorem State.startEntry_kept (s : State) (f q : Nat) (w : List Word) : HifKept s (s.startEntry f q w) := by
  unfold State.startEntry
  exact (HifKept.refl s).modHif.modPair

theorem State.entryRead_startedCmd (s : State) (f q : Nat) (x : Pair) (m : MemAccess) (w : List Word) :
    (s.entryRead f q x m).startedCmd f q w = s.startedCmd f q w := by
  rw [State.startedCmd, s.entryRead_nextSerial, (s.entryRead_kept f q x m).opAllowed, State.startedCmd]

/-- An entry under FENCE stands fetched while earlier commands of its pair run. -/
theorem State.Fetches.waits {f : FnId} {q : PairId} (h : s.Fetches f.val q.val x) (k : List Word) (a : MemAccess)
    (hm : (s.hostAccess m).1 = true) (hs : x.started ≠ []) (hw : subWaits w = true) :
    RunsTo (.commandStart f q k a w m) s fun t => t.pair (pairNo f.val q.val) =
      some { x with sqHead := (x.sqHead + 1) % ringLen x.sqSize, fetched := some w } := by
  refine ⟨_, h.exec_commandStart k w a m, ?_⟩
  rw [hm, Bool.not_true, if_neg Bool.false_ne_true, if_pos ⟨hw, hs⟩]
  exact State.pair_modPair_same _ (s.entryRead_pair _ _ _ _)

end

/-! # The registers that set the rings up (R349, R363) -/

section

variable {s : State} {f : Nat} {v : Word}

theorem exec_hiCtxCtrlWrite_open {req : Requester} (h : s.HifOpen req) (v : Word) :
    exec (.hiCtxCtrlWrite req v) s = .next (s.writeCtxCtrl v) := congrArg Host.Outcome.next (State.hifAccess_open _ h)

theorem exec_fnActrlWrite_live (f : FnId) (v : Word) (h : s.hifLive = true) :
    exec (.fnActrlWrite f v) s = .next (s.writeActrl f.val v) := congrArg Host.Outcome.next (s.when_of _ _ h)

theorem State.swWrite_actrl_en (s : State) (f : Nat) (v : Word) :
    (s.swWrite .FN_ACTRL f v).getF Fld.FN_ACTRL_EN f = Fld.FN_ACTRL_EN.of v :=
  State.swWrite_getF (f := Fld.FN_ACTRL_EN) (by decide) (by decide) (by decide) (by decide) s f v

theorem State.swWrite_actrl_vector (s : State) (f : Nat) (v : Word) :
    (s.swWrite .FN_ACTRL f v).getF Fld.FN_ACTRL_VECTOR f = Fld.FN_ACTRL_VECTOR.of v :=
  State.swWrite_getF (f := Fld.FN_ACTRL_VECTOR) (by decide) (by decide) (by decide) (by decide) s f v

theorem State.swWrite_actrl_irqEn (s : State) (f : Nat) (v : Word) :
    (s.swWrite .FN_ACTRL f v).flag Fld.FN_ACTRL_IRQ_EN f = decide (Fld.FN_ACTRL_IRQ_EN.of v = 1) := by
  have hlt : Fld.FN_ACTRL_IRQ_EN.of v < 2 := bitsOf_lt _ _ _
  have hof := State.swWrite_getF (f := Fld.FN_ACTRL_IRQ_EN) (by decide) (by decide) (by decide) (by decide) s f v
  rw [State.flag, hof]
  exact decide_eq_decide.mpr (by omega)

/-- 1 in EN over 0: pair 0 is created from the function's registers, or REFUSED is set. -/
theorem State.writeActrl_enable (hf : s.fnLive f = true) (he : s.flag Fld.FN_ACTRL_EN f = false) (hv : Fld.FN_ACTRL_EN.of v = 1) :
    s.writeActrl f v =
      if s.flag Fld.HI_CTX_CTRL_EN 0 = false ∨ s.getF Fld.FN_ASIZE_SQ_SIZE f = 1 ∨ s.getF Fld.FN_ASIZE_CQ_SIZE f = 1 then
        ((s.swWrite .FN_ACTRL f v).setFlag Fld.FN_ACTRL_EN f false).setFlag Fld.FN_ACTRL_REFUSED f true
      else ((s.swWrite .FN_ACTRL f v).setFlag Fld.FN_ACTRL_REFUSED f false).pairCreate (pairNo f 0)
        (Pair.fresh ((s.rd .FN_ASQ_LO f).toNat + 2 ^ 32 * (s.rd .FN_ASQ_HI f).toNat)
          ((s.rd .FN_ACQ_LO f).toNat + 2 ^ 32 * (s.rd .FN_ACQ_HI f).toNat) (s.getF Fld.FN_ASIZE_SQ_SIZE f)
          (s.getF Fld.FN_ASIZE_CQ_SIZE f) (Fld.FN_ACTRL_VECTOR.of v) (decide (Fld.FN_ACTRL_IRQ_EN.of v = 1))) := by
  have hrd (n : RegName) (hn : n ≠ .FN_ACTRL) (i : Nat) : (s.swWrite .FN_ACTRL f v).rd n i = s.rd n i :=
    s.rd_wr_name _ _ _ _ _ hn
  have hgetF (g : Field) (hn : g.reg ≠ .FN_ACTRL) (i : Nat) : (s.swWrite .FN_ACTRL f v).getF g i = s.getF g i :=
    State.getF_eq_of_rd (hrd _ hn i)
  have hflag (g : Field) (hn : g.reg ≠ .FN_ACTRL) (i : Nat) : (s.swWrite .FN_ACTRL f v).flag g i = s.flag g i :=
    State.flag_congr (hrd _ hn i)
  unfold State.writeActrl
  dsimp only
  rw [hf, he, hv, State.swWrite_actrl_irqEn, State.swWrite_actrl_vector, hgetF _ (by decide), hgetF _ (by decide), hflag _ (by decide), hrd _ (by decide), hrd _ (by decide),
    hrd _ (by decide), hrd _ (by decide), if_neg (by decide), if_neg (by decide)]
  simp

theorem State.modHif_rd (s : State) (g : Hif → Hif) {n : RegName} (hn : n ≠ .HI_STATUS) (i : Nat) :
    (s.modHif g).rd n i = s.rd n i := State.rd_setF _ _ _ _ _ _ hn

theorem State.ctxRoom_free (h : s.hif.cache.length < 2048) : s.ctxRoom = some s := if_pos h

/-- A pair that finds room in the cache is created there. -/
theorem State.pairCreate_cached (p : Nat) (x : Pair) (h : s.hif.cache.length < 2048) :
    s.pairCreate p x = (s.ctxPut p x).modHif fun h => { h with enabled := p :: h.enabled } := by
  rw [State.pairCreate, State.ctxRoom_free h]

theorem State.pairCreate_pairOn (p : Nat) (x : Pair) (h : s.hif.cache.length < 2048) : (s.pairCreate p x).pairOn p = true := by
  rw [State.pairCreate_cached p x h, State.pairOn_iff]
  exact List.mem_cons_self

theorem State.pairCreate_pair (p : Nat) (x : Pair) (h : s.hif.cache.length < 2048) : (s.pairCreate p x).pair p = some x := by
  rw [State.pairCreate_cached p x h]
  exact s.pair_ctxPut_same p x

theorem State.pairCreate_flag (p : Nat) (x : Pair) (h : s.hif.cache.length < 2048) {g : Field} (hg : g.reg ≠ .HI_STATUS) (i : Nat) :
    (s.pairCreate p x).flag g i = s.flag g i := by
  refine State.flag_congr ?_
  rw [State.pairCreate_cached p x h, State.modHif_rd _ _ hg, State.ctxPut, State.modHif_rd _ _ hg]

end

/-! # Virtual functions (R374) -/

section

variable {s t : State}

/-- A reset of function f takes its pairs away. -/
theorem State.fnReset_hif (s : State) (f : Nat) : (s.fnReset f).hif.enabled = s.hif.enabled.filter fun p => !decide (p / 128 = f) :=
  rfl

theorem State.fnResets_enabled (l : List Nat) (s : State) (p : Nat) :
    p ∈ (s.forEach l fun s f => s.fnReset f).hif.enabled ↔ p ∈ s.hif.enabled ∧ p / 128 ∉ l := by
  induction l generalizing s with
  | nil => simp [State.forEach]
  | cons f l ih =>
    refine (ih (s.fnReset f)).trans ?_
    rw [State.fnReset_hif]
    simp [and_assoc]

theorem exec_vfEnable_live (n : Nat) (e : Bool) (h : s.hifLive = true) :
    exec (.vfEnable n e) s = .next (s.writeVfEnable n e) := congrArg Host.Outcome.next (s.when_of _ _ h)

end

/-- Settles O40: a fetch by `State.Fetches.exec_commandStart`, and each register's write by its branches. -/
theorem ringSetupAndStart : Obligations.RingSetupAndStart := by
  unfold Obligations.RingSetupAndStart
  refine ⟨fun f q k w a m x s hh hp hc hx he hd hf hl hne hm hw => ?_,
    fun f q k w a m x s hh hp hc hx he hd hf hl hne hm hs hw =>
      State.Fetches.waits ⟨hh, hp, hc, hx, he, hd, hf, hl, hne⟩ k a hm hs hw,
    fun f q k w a m x s hh hp hc hx he hd hf hl hne hm => ?_,
    fun f q k w a m s hp => exec_commandStart_disabled f q k w a m hp,
    fun req v s ho he hv => ?_,
    fun req v s ho hv => ⟨_, exec_hiCtxCtrlWrite_open ho v, ?_⟩,
    fun f v s hh hf he hv hc hsq hcq hroom => ⟨_, exec_fnActrlWrite_live f v hh, ?_⟩,
    fun f v s hh hf he hv hno => ⟨_, exec_fnActrlWrite_live f v hh, ?_⟩,
    fun n e s hh hv => ⟨_, exec_vfEnable_live n e hh, ?_⟩,
    fun n s hh hv => ⟨_, exec_vfEnable_live n false hh, ?_⟩⟩
  · have h : s.Fetches f.val q.val x := ⟨hh, hp, hc, hx, he, hd, hf, hl, hne⟩
    refine ⟨_, h.exec_commandStart k w a m, ?_⟩
    have hgo : ¬ (subWaits w = true ∧ x.started ≠ []) := by
      rintro ⟨hw1, hs1⟩
      rcases hw with hw | hw
      · exact hs1 hw
      · rw [hw] at hw1
        cases hw1
    rw [hm, Bool.not_true, if_neg Bool.false_ne_true, if_neg hgo]
    beta_reduce
    rw [ State.startEntry_pair _ (s.entryRead_pair _ _ _ _), State.entryRead_startedCmd,
      State.startedCmd_eq]
    refine ⟨((s.entryRead_kept _ _ _ _).trans (State.startEntry_kept _ _ _ _)).sameSram, ?_, by rw [← hf]⟩
    exact congrArg (· + 1) (s.entryRead_nextSerial _ _ _ _)
  · have h : s.Fetches f.val q.val x := ⟨hh, hp, hc, hx, he, hd, hf, hl, hne⟩
    refine ⟨_, h.exec_commandStart k w a m, ?_⟩
    have hpair : ((s.entryTurn f.val q.val x).hostAccess m).2.pair (pairNo f.val q.val) = some x :=
      (State.pair_congr (State.hostAccess_hif _ _) _).trans (s.pair_ctxPut_same _ x)
    rw [hm, Bool.not_false, if_pos rfl]
    beta_reduce
    rw [State.pairError_pair _ hpair, ← hf]
  · rw [exec_hiCtxCtrlWrite_open ho, State.writeCtxCtrl, if_pos ⟨hv, he⟩]
  · have hkeep : ¬ (Fld.HI_CTX_CTRL_EN.of v = 0 ∧ s.hif.enabled ≠ []) := by
      rintro ⟨h0, hne⟩
      rcases hv with hv | hv
      · exact hne hv
      · omega
    rw [State.writeCtxCtrl, if_neg hkeep]
    exact ⟨State.swWrite_getF (f := Fld.HI_CTX_CTRL_EN) (by decide) (by decide) (by decide) (by decide) s 0 v,
      (State.OnlyRegs.refl s _).wr rfl⟩
  · rw [State.writeActrl_enable hf he hv, if_neg (by simp [hc, hsq, hcq])]
    have hroom' : ((s.swWrite .FN_ACTRL f.val v).setFlag Fld.FN_ACTRL_REFUSED f.val false).hif.cache.length < 2048 := hroom
    refine ⟨?_, ?_, State.pairCreate_pairOn _ _ hroom', State.pairCreate_pair _ _ hroom'⟩
    · rw [State.pairCreate_flag _ _ hroom' (by decide), State.flag_setFlag_apart _ _ _ _ _ _ (by decide) (by decide), State.flag,
        State.swWrite_actrl_en, hv]
      rfl
    · rw [State.pairCreate_flag _ _ hroom' (by decide), State.flag_setFlag_same _ _ _ _ (by decide) (by decide)]
  · rw [State.writeActrl_enable hf he hv, if_pos (hno.imp_right Or.inl)]
    refine ⟨?_, State.flag_setFlag_same _ _ _ _ (by decide) (by decide), rfl⟩
    rw [State.flag_setFlag_apart _ _ _ _ _ _ (by decide) (by decide), State.flag_setFlag_same _ _ _ _ (by decide) (by decide)]
  · rw [State.writeVfEnable, if_neg (by simp [hv])]
    exact ⟨rfl, ((HifKept.refl s).modHif).sameSram⟩
  · rw [State.writeVfEnable, if_pos hv, if_neg (by decide)]
    refine ⟨rfl, fun p => (State.fnResets_enabled _ s p).trans (and_congr_right fun _ => ?_)⟩
    simp only [List.mem_map, List.mem_range, not_exists, not_and]
    refine ⟨fun h => ?_, fun h k hk he => by omega⟩
    by_contra hno
    exact h (p / 128 - 1) (by omega) (by omega)

end Sys2Proof.Machine

namespace Sys2Proof.Machine

/-! # RESET_HIF (R366) -/

section

variable {s : State}

theorem exec_resetHif_taken {f : FnId} {q : PairId} {n : Nat} {c : RingCmd} (h : s.hifLive = true)
    (hc : s.ringCmd f.val q.val n (fun op => decide (op = 0x04)) = some c) : exec (.resetHif f q n) s = .next
      (if subArg c.words 0 = 0x48494652 then (s.ringBegin (pairNo f.val q.val) c.serial).recognise .hifCmd 0 []
      else s.ringEnd (pairNo f.val q.val) c.serial 0 0 2) := by
  refine congrArg Host.Outcome.next ((s.when_of _ _ h).trans ?_)
  rw [hc]

theorem State.scopeOf_hifCmd (s : State) : s.scopeOf .hifCmd [] = { SeqScope.none with hif := true } := by
  simp [State.scopeOf, srcDie, srcHif, SeqScope.none]

/-- A reset of scope HIF waits for no frame (R238). -/
theorem State.mustWait_hif (s : State) : s.mustWait { SeqScope.none with hif := true } = false := by
  simp [State.mustWait, SeqScope.none, mem]

/-- RESET_HIF joins a reset controller that runs no reset, and takes hold at its next edge. -/
theorem State.recognise_hifCmd_run (hf : s.seq.frozen = false) (hr : s.seq.phase = .run) : (s.recognise .hifCmd 0 []).seq =
    { s.seq.withScope (s.seq.scope.join { SeqScope.none with hif := true }) with
      phase := .deferred, causes := s.seq.causes ||| 2 ^ 11 } := by
  have hwait (t : State) : t.mustWait (s.scopeOf .hifCmd []) = false := by rw [State.scopeOf_hifCmd, State.mustWait_hif]
  have hrun (n : Nat) : (s.modSeq fun q => { q with causes := q.causes ||| n }).seq.phase = .run := hr
  unfold State.recognise
  simp only [srcDie, hf, hrun, hwait, Bool.false_eq_true, false_or, false_and, if_false]
  rw [s.scopeOf_hifCmd]
  rfl

/-- A sequence of no scope takes the scope HIF. -/
theorem Seq.join_hif {q : Seq} (hd : q.dies = []) :
    q.withScope (q.scope.join { SeqScope.none with hif := true }) = { q with hif := true } := by
  simp [Seq.withScope, Seq.scope, SeqScope.join, SeqScope.none, hd]

end

/-- Settles O58: the entry waits as one under FENCE does, and with the key the reset is recognised with scope HIF. -/
theorem resetHifIsFenced : Obligations.ResetHifIsFenced := by
  unfold Obligations.ResetHifIsFenced
  refine ⟨fun f q k w a m x s hh hp hc hx he hd hf hl hne hm hs hop =>
      State.Fetches.waits ⟨hh, hp, hc, hx, he, hd, hf, hl, hne⟩ k a hm hs (by simp [subWaits, hop]),
    fun f q n c s hh hf hc hkey hr hpart hdies => ⟨_, exec_resetHif_taken hh hc, ?_⟩,
    fun f q n c s hh hc hkey => ⟨_, exec_resetHif_taken hh hc, ?_⟩⟩
  · rw [if_pos hkey]
    have hseq := State.recognise_hifCmd_run (s := s.ringBegin (pairNo f.val q.val) c.serial) hf hr
    rw [Seq.join_hif (q := (s.ringBegin (pairNo f.val q.val) c.serial).seq) hdies] at hseq
    exact hseq.trans (by rw [hseq]; rfl)
  · rw [if_neg hkey]
    exact ⟨State.ringEnd_done (State.ringCmd_held hc) 0 0 2, rfl⟩

end Sys2Proof.Machine

namespace Sys2Proof.Machine

/-! # Commands that write to their buffer (R360, R367) -/

section

variable {s : State} {p : Nat} {c : RingCmd} {b : List Byte} {m : MemAccess} {r : Word}

@[simp] theorem State.ringEnd_outputs (s : State) (p n : Nat) (r0 r1 : Word) (st : Nat) :
    (s.ringEnd p n r0 r1 st).outputs = s.outputs := rfl

@[simp] theorem State.ringEnd_enabled (s : State) (p n : Nat) (r0 r1 : Word) (st : Nat) :
    (s.ringEnd p n r0 r1 st).hif.enabled = s.hif.enabled := rfl

/-- A buffer that can be written holds the bytes, and the command ends with STATUS 0. -/
theorem State.ringWrite_written (hm : (s.hostAccess m).1 = true) :
    s.ringWrite p c b m r = ((s.hostAccess m).2.emit (.hostWrite (subBuf c.words) b)).ringEnd p c.serial r 0 0 := by
  unfold State.ringWrite
  dsimp only
  rw [if_pos hm]

theorem State.ringWrite_done (hc : s.ringHeld p c.serial = true) (hm : (s.hostAccess m).1 = true) :
    (s.ringWrite p c b m r).RingDone p c.serial r 0 0 ∧
      (s.ringWrite p c b m r).outputs = s.outputs ++ [.hostWrite (subBuf c.words) b] := by
  rw [State.ringWrite_written hm]
  refine ⟨State.ringEnd_done ((State.ringHeld_congr ?_).trans hc) r 0 0, ?_⟩
  · exact (State.pair_congr (s.hostAccess_hif m) p : _)
  · rw [State.ringEnd_outputs]
    exact congrArg (· ++ _) (s.hostAccess_outputs m)

/-- A buffer that cannot be reached ends the command with STATUS 5. -/
theorem State.ringWrite_failed (hc : s.ringHeld p c.serial = true) (hm : (s.hostAccess m).1 = false) :
    (s.ringWrite p c b m r).RingDone p c.serial 0 0 5 ∧ (s.ringWrite p c b m r).outputs = s.outputs := by
  have heq : s.ringWrite p c b m r = (s.hostAccess m).2.ringMemFail p c.serial := by
    unfold State.ringWrite
    dsimp only
    rw [hm, if_neg Bool.false_ne_true]
  rw [heq, State.ringMemFail, State.hiFault]
  refine ⟨State.ringEnd_done ((State.ringHeld_congr ?_).trans hc) 0 0 5, ?_⟩
  · exact State.pair_congr ((State.report_hif _ _ _ _).trans (s.hostAccess_hif m)) p
  · rw [State.ringEnd_outputs, State.report_outputs, State.hostAccess_outputs]

end

/-! # GET_PUBKEYS (R367) -/

section

variable {s : State} {c : RingCmd} {k : Digest}

theorem exec_getPubkeys_taken {f : FnId} {q : PairId} {n : Nat} {a : MemAccess} (hh : s.hifLive = true) (hp : s.platLive = true)
    (hc : s.ringCmd f.val q.val n (fun op => decide (op = 0x08)) = some c) :
    exec (.getPubkeys f q n a) s = .next (s.getPubkeys (pairNo f.val q.val) c a) := by
  refine congrArg Host.Outcome.next ((s.when_of _ _ (by rw [hh, hp]; rfl)).trans ?_)
  rw [hc]

/-- The two public keys, the second at 0x080. -/
def pubkeyBytes (k : Digest) : List Byte :=
  sliceB (Config.ecdsaPublic (didE k)) 0 97 ++ List.replicate 31 0 ++ sliceB (Config.mldsaPublic (didM k)) 0 2592

theorem sliceB_length (l : List Byte) (o n : Nat) : (sliceB l o n).length = n := by
  unfold sliceB
  rw [List.length_append, List.length_replicate, List.length_take]
  omega

/-- A slice of a list that holds a block at its place is the block. -/
theorem sliceB_middle {a b c : List Byte} {o n : Nat} (ho : a.length = o) (hn : b.length = n) : sliceB (a ++ b ++ c) o n = b := by
  subst ho hn
  simp [sliceB, List.append_assoc]

theorem pubkeyBytes_ecdsa (k : Digest) : sliceB (pubkeyBytes k) 0 97 = sliceB (Config.ecdsaPublic (didE k)) 0 97 := by
  have h := sliceB_middle (a := []) (c := List.replicate 31 0 ++ sliceB (Config.mldsaPublic (didM k)) 0 2592) rfl
    (sliceB_length (Config.ecdsaPublic (didE k)) 0 97)
  rwa [List.nil_append, ← List.append_assoc] at h

theorem pubkeyBytes_gap (k : Digest) : sliceB (pubkeyBytes k) 97 31 = List.replicate 31 0 :=
  sliceB_middle (sliceB_length _ _ _) List.length_replicate

theorem pubkeyBytes_mldsa (k : Digest) : sliceB (pubkeyBytes k) 0x80 2592 = sliceB (Config.mldsaPublic (didM k)) 0 2592 := by
  have h := sliceB_middle (a := sliceB (Config.ecdsaPublic (didE k)) 0 97 ++ List.replicate 31 0) (c := []) (o := 0x80)
    (by rw [List.length_append, sliceB_length, List.length_replicate]) (sliceB_length (Config.mldsaPublic (didM k)) 0 2592)
  rwa [List.append_nil] at h

theorem pubkeyBytes_length (k : Digest) : (pubkeyBytes k).length = 0x80 + 2592 := by
  rw [pubkeyBytes, List.length_append, List.length_append, sliceB_length, sliceB_length, List.length_replicate]

theorem State.getPubkeys_identity {p : Nat} {a : MemAccess} (hb : bufOk c.words 2720 = true) (hk : s.keys.cdi0 = some k)
    (hi : s.identity = true) : s.getPubkeys p c a = s.ringWrite p c (pubkeyBytes k) a 0 := by
  simp [State.getPubkeys, hb, hk, hi, pubkeyBytes]

theorem State.getPubkeys_none {p : Nat} {a : MemAccess} (hb : bufOk c.words 2720 = true) (hi : s.identity = false) :
    s.getPubkeys p c a = s.ringEnd p c.serial 1 0 7 := by
  simp [State.getPubkeys, hb, hi]

end

/-- Settles O59: the two keys' bytes stand at their offsets of the buffer. -/
theorem publicKeyLayout : Obligations.PublicKeyLayout := by
  unfold Obligations.PublicKeyLayout
  refine ⟨fun f q n a c k s hh hp hc hb hk hi hm => ⟨_, exec_getPubkeys_taken hh hp hc, ?_⟩,
    fun f q n a c s hh hp hc hb hi => ⟨_, exec_getPubkeys_taken hh hp hc, ?_⟩⟩
  · rw [State.getPubkeys_identity hb hk hi]
    obtain ⟨hdone, hout⟩ := State.ringWrite_done (b := pubkeyBytes k) (r := 0) (State.ringCmd_held hc) hm
    exact ⟨hdone, _, hout, pubkeyBytes_length k, pubkeyBytes_ecdsa k, pubkeyBytes_gap k, pubkeyBytes_mldsa k⟩
  · rw [State.getPubkeys_none hb hi]
    exact ⟨State.ringEnd_done (State.ringCmd_held hc) 1 0 7, rfl⟩

end Sys2Proof.Machine

namespace Sys2Proof.Machine

/-! # The host interface's own commands (R361 to R365) -/

section

variable {s : State} {f : FnId} {q : PairId} {n : Nat} {c : RingCmd} {m : MemAccess} (hh : s.hifLive = true)
include hh

theorem exec_ringNop_taken (hc : s.ringCmd f.val q.val n (fun op => decide (op = 0x00)) = some c) :
    exec (.ringNop f q n) s = .next (s.ringEnd (pairNo f.val q.val) c.serial 0 0 0) := by
  refine congrArg Host.Outcome.next ((s.when_of _ _ hh).trans ?_)
  rw [hc]

theorem exec_createPair_taken (hc : s.ringCmd f.val q.val n (fun op => decide (op = 0x01)) = some c) :
    exec (.createPair f q n) s = .next (s.createPair f.val q.val c) := by
  refine congrArg Host.Outcome.next ((s.when_of _ _ hh).trans ?_)
  rw [hc]

theorem exec_deletePair_taken (hc : s.ringCmd f.val q.val n (fun op => decide (op = 0x02)) = some c) :
    exec (.deletePair f q n) s = .next (s.deletePair f.val q.val c) := by
  refine congrArg Host.Outcome.next ((s.when_of _ _ hh).trans ?_)
  rw [hc]

theorem exec_identify_taken (hc : s.ringCmd f.val q.val n (fun op => decide (op = 0x03)) = some c) :
    exec (.identify f q n m) s = .next (if !bufOk c.words 4096 then s.ringEnd (pairNo f.val q.val) c.serial 0 0 2
      else s.ringWrite (pairNo f.val q.val) c (s.identifyBytes f.val) m 0) := by
  refine congrArg Host.Outcome.next ((s.when_of _ _ hh).trans ?_)
  rw [hc]

theorem exec_counterRead_taken (hc : s.ringCmd f.val q.val n (fun op => decide (op = 0x10)) = some c) :
    exec (.counterRead f q n m) s = .next (s.counterRead f.val q.val c m) := by
  refine congrArg Host.Outcome.next ((s.when_of _ _ hh).trans ?_)
  rw [hc]

end

section

variable {s : State} {f q p k : Nat} {c : RingCmd} {x : Pair}

theorem State.ringEnd_pairOn (s : State) (p n : Nat) (r0 r1 : Word) (st k : Nat) :
    (s.ringEnd p n r0 r1 st).pairOn k = s.pairOn k := s.modPair_pairOn _ _ _

theorem State.ringEnd_pair_other (s : State) (n : Nat) (r0 r1 : Word) (st : Nat) (h : k ≠ p) :
    (s.ringEnd p n r0 r1 st).pair k = s.pair k := State.pair_modPair_other _ h

theorem State.ringEnd_rd (s : State) (p m : Nat) (r0 r1 : Word) (st : Nat) {n : RegName} (hn : n ≠ .HI_STATUS) (i : Nat) :
    (s.ringEnd p m r0 r1 st).rd n i = s.rd n i := by
  rw [State.ringEnd, State.modPair, State.modHif_rd _ _ hn]

/-! ## CREATE_PAIR (R363) -/

theorem State.pair_modHif {g : Hif → Hif} (h : (g s.hif).cache = s.hif.cache) (p : Nat) : (s.modHif g).pair p = s.pair p := by
  rw [State.pair, State.modHif_hif, h, State.pair]

theorem State.pairCreate_pair_other (x : Pair) (h : s.hif.cache.length < 2048) (hk : k ≠ p) :
    (s.pairCreate p x).pair k = s.pair k := by
  rw [State.pairCreate_cached p x h, State.pair_modHif rfl, State.pair_ctxPut_other x hk]

/-- CREATE_PAIR names pair k, which its function may use and which is not enabled, and rings that can be. -/
structure State.PairNamed (s : State) (f : Nat) (c : RingCmd) (k : Nat) : Prop where
  pair : k = bitsOf (subArg c.words 0) 0 7
  extra : k ≠ 0
  may : k < s.qpMax f
  off : s.pairOn (pairNo f k) = false
  sqSize : bitsOf (subArg c.words 5) 0 16 ≠ 1
  cqSize : bitsOf (subArg c.words 5) 16 16 ≠ 1
  sqBase : (subArg c.words 1 + 2 ^ 32 * subArg c.words 2) % 4096 = 0
  cqBase : (subArg c.words 3 + 2 ^ 32 * subArg c.words 4) % 4096 = 0

/-- The context that CREATE_PAIR gives its pair. -/
def createdPair (c : RingCmd) : Pair :=
  Pair.fresh (subArg c.words 1 + 2 ^ 32 * subArg c.words 2) (subArg c.words 3 + 2 ^ 32 * subArg c.words 4)
    (bitsOf (subArg c.words 5) 0 16) (bitsOf (subArg c.words 5) 16 16) (bitsOf (subArg c.words 6) 0 5) (bitOf (subArg c.words 6) 5)

theorem State.PairNamed.createPair (h : s.PairNamed f c k) :
    s.createPair f q c = (s.pairCreate (pairNo f k) (createdPair c)).ringEnd (pairNo f q) c.serial 0 0 0 := by
  obtain ⟨rfl, hextra, hmay, hoff, hsn, hcn, hsq, hcq⟩ := h
  refine if_neg ?_
  rw [hoff, hsq, hcq]
  simp [hextra, hmay, hsn, hcn]

theorem State.createPair_refused (hk : k = bitsOf (subArg c.words 0) 0 7) (h : k = 0 ∨ s.qpMax f ≤ k ∨
    s.pairOn (pairNo f k) = true ∨ bitsOf (subArg c.words 5) 0 16 = 1) :
    s.createPair f q c = s.ringEnd (pairNo f q) c.serial 0 0 2 := by
  subst hk
  exact if_pos (h.imp_right fun h => h.imp_right fun h => h.imp_right Or.inl)

/-! ## DELETE_PAIR (R364) -/

theorem State.ringBegin_held (s : State) (p n m : Nat) : (s.ringBegin p n).ringHeld p m = s.ringHeld p m := by
  unfold State.ringHeld State.ringBegin
  cases hx : s.pair p with
  | none =>
    have hnone : (s.modPair p fun x => { x with started := x.started.map fun c =>
        if c.serial = n then { c with begun := true } else c }).pair p = none := by
      simp only [State.pair, Option.map_eq_none_iff, List.find?_eq_none] at hx ⊢
      intro y hy
      obtain ⟨z, hz, rfl⟩ := List.mem_map.mp hy
      have := hx z hz
      split <;> exact this
    rw [hnone]
  | some x =>
    rw [State.pair_modPair_same _ hx]
    dsimp only
    rw [List.any_map]
    congr 1
    funext c
    by_cases hc : c.serial = n <;> simp [hc]

/-- A pair is disabled: its context is gone and its doorbells are. -/
def State.pairGone (s : State) (p : Nat) : State :=
  (s.modHif fun h => { h with enabled := h.enabled.filter (fun y => decide (y ≠ p)),
                              cache := h.cache.filter (fun y => decide (y.1 ≠ p)) }).setBell p (none, none)

theorem State.pairGone_pairOn (s : State) (p : Nat) : (s.pairGone p).pairOn p = false := by
  rw [State.pairOn_eq_false, State.pairGone, State.setBell, State.modHif_hif, State.modHif_hif]
  simp

theorem State.pairGone_pair (s : State) (p : Nat) : (s.pairGone p).pair p = none := by
  rw [State.pair, State.pairGone, State.setBell, State.modHif_hif, State.modHif_hif]
  simp

theorem State.pairGone_pair_other (s : State) (h : k ≠ p) : (s.pairGone p).pair k = s.pair k := by
  rw [State.pair, State.pairGone, State.setBell, State.modHif_hif, State.modHif_hif, List.find?_filter, State.pair]
  refine congrArg _ (List.find?_congr fun z _ => ?_)
  by_cases hz : z.1 = k <;> simp [hz, h]

/-- A pair to be deleted that has no command left is disabled, and the DELETE_PAIR ends. -/
theorem State.deleteDone_idle {d : Nat} (hx : s.pair p = some x) (hd : x.deleting = some d) (hs : x.started = [])
    (hf : x.fetched = none) : s.deleteDone p = (s.pairGone p).ringEnd (p - p % 128) d 0 0 0 := by
  simp [State.deleteDone, hx, hd, hs, hf, State.pairGone]

theorem State.deleteDone_busy (hx : s.pair p = some x) (hs : x.started ≠ []) : s.deleteDone p = s := by
  cases hd : x.deleting <;> simp [State.deleteDone, hx, hd, hs]

/-- DELETE_PAIR stops the ready entries of a cached pair. -/
def State.pairStopped (s : State) (f q p n : Nat) : State :=
  ((s.ringBegin (pairNo f q) n).modHif fun h => { h with nextSerial := (s.ringBegin (pairNo f q) n).hif.nextSerial + 1 }).modPair p
    fun x => { x with started := x.started ++ [], fetched := none, sqTail := x.sqHead, deleting := some n }

/-- A pair that has no entry waiting is stopped, and disabled once no command is left. -/
theorem State.deletePair_stops (hk : k = bitsOf (subArg c.words 0) 0 7) (h0 : k ≠ 0) (hq : k ≠ q)
    (hon : s.pairOn (pairNo f k) = true) (hx : s.pair (pairNo f k) = some x) (hf : x.fetched = none) (hd : x.deleting = none) :
    s.deletePair f q c = (s.pairStopped f q (pairNo f k) c.serial).deleteDone (pairNo f k) := by
  subst hk
  have hx' : (s.ringBegin (pairNo f q) c.serial).pair (pairNo f (bitsOf (subArg c.words 0) 0 7)) = some x :=
    (State.pair_modPair_other _ (pairNo_ne hq)).trans hx
  refine (if_neg (by simp [h0, hon, hx, hd])).trans ?_
  simp only [hx', hf]
  rfl

theorem State.pairStopped_pair (hq : k ≠ q) (hx : s.pair (pairNo f k) = some x) (n : Nat) :
    (s.pairStopped f q (pairNo f k) n).pair (pairNo f k) =
      some { x with started := x.started, fetched := none, sqTail := x.sqHead, deleting := some n } := by
  have hx' : (s.ringBegin (pairNo f q) n).pair (pairNo f k) = some x := (State.pair_modPair_other _ (pairNo_ne hq)).trans hx
  rw [State.pairStopped, State.pair_modPair_same _ ((State.pair_modHif rfl _).trans hx'), List.append_nil]

theorem State.pairStopped_held (hq : q ≠ k) (n m : Nat) :
    (s.pairStopped f q (pairNo f k) n).ringHeld (pairNo f q) m = s.ringHeld (pairNo f q) m := by
  rw [State.pairStopped, State.ringHeld_congr (State.pair_modPair_other _ (pairNo_ne hq)),
    State.ringHeld_congr (State.pair_modHif rfl _), State.ringBegin_held]

theorem State.deletePair_refused (hk : k = bitsOf (subArg c.words 0) 0 7) (h : k = 0 ∨ s.pairOn (pairNo f k) = false) :
    s.deletePair f q c = s.ringEnd (pairNo f q) c.serial 0 0 2 := by
  subst hk
  exact if_pos (h.imp_right fun h => Or.inl (by rw [h]; rfl))

/-! ## COUNTER_READ (R442) -/

/-- COUNTER_READ names m events of a present die from event e, and a buffer that holds them. -/
structure State.CountersNamed (s : State) (c : RingCmd) (e m : Nat) : Prop where
  present : s.present (bitsOf (subArg c.words 0) 0 3) = true
  first : e = bitsOf (subArg c.words 1) 0 10
  number : m = bitsOf (subArg c.words 2) 0 11
  some : m ≠ 0
  within : e + m ≤ 1024
  room : bufOk c.words (8 * m) = true

theorem State.CountersNamed.not_refused {e m : Nat} (h : s.CountersNamed c e m) :
    ¬ ((!s.present (bitsOf (subArg c.words 0) 0 3)) = true ∨ bitsOf (subArg c.words 2) 0 11 = 0 ∨
      1024 < bitsOf (subArg c.words 2) 0 11 ∨ 1024 < bitsOf (subArg c.words 1) 0 10 + bitsOf (subArg c.words 2) 0 11 ∨
      (!bufOk c.words (8 * bitsOf (subArg c.words 2) 0 11)) = true) := by
  obtain ⟨hd, rfl, rfl, h0, hle, hroom⟩ := h
  have hm : bitsOf (subArg c.words 2) 0 11 ≤ 1024 := by omega
  simp [hd, h0, hle, hroom, hm]

theorem State.CountersNamed.counterRead_pf {e m : Nat} {a : MemAccess} (h : s.CountersNamed c e m) (hf : f = 0) :
    s.counterRead f q c a = s.ringWrite (pairNo f q) c
      ((List.range m).flatMap fun k => s.counterBytes (bitsOf (subArg c.words 0) 0 3) (e + k)) a (BitVec.ofNat 32 m) := by
  refine (if_neg h.not_refused).trans ((if_neg ?_).trans ?_)
  · simp [hf]
  · rw [h.first, h.number]

theorem State.CountersNamed.counterRead_vf {e m : Nat} {a : MemAccess} (h : s.CountersNamed c e m) (hf : f ≠ 0)
    (hl : s.leaseOf f = none) : s.counterRead f q c a = s.ringEnd (pairNo f q) c.serial 0 0 3 :=
  (if_neg h.not_refused).trans (if_pos (by simp [hf, hl]))

end

/-- Settles O41: a command that may begin is taken, and ends as its executor's branches say. -/
theorem ringCommands : Obligations.RingCommands := by
  unfold Obligations.RingCommands
  refine ⟨fun f q n c s hh hc => ⟨_, exec_ringNop_taken hh hc, ?_⟩,
    fun f q n k c s hh hq hc hk h0 hmay hoff hsn hcn hsq hcq hroom => ⟨_, exec_createPair_taken hh hc, ?_⟩,
    fun f q n k c s hh hc hk hno => ⟨_, exec_createPair_taken hh hc, ?_⟩,
    fun f q n k c x s hh hq hc hk h0 hon hx hs hf hd => ⟨_, exec_deletePair_taken hh hc, ?_⟩,
    fun f q n k c x s hh hq hc hk h0 hon hx hs hf hd => ⟨_, exec_deletePair_taken hh hc, ?_⟩,
    fun f q n k c s hh hc hk hno => ⟨_, exec_deletePair_taken hh hc, ?_⟩,
    fun f q n m c s hh hc => ⟨_, exec_identify_taken hh hc, ?_⟩,
    fun f q n d e m a c s hh hf hc hd he hm hpres h0 hle hbuf ha => ⟨_, exec_counterRead_taken hh hc, ?_⟩,
    fun f q n m a c s hh hf hc hpres hm h0 hle hbuf hl => ⟨_, exec_counterRead_taken hh hc, ?_⟩⟩
  · exact ⟨State.ringEnd_done (State.ringCmd_held hc) 0 0 0, rfl, (HifKept.refl s).modPair.sameSram, rfl⟩
  · have hheld := State.ringCmd_held hc
    rw [State.PairNamed.createPair ⟨hk, h0, hmay, hoff, hsn, hcn, hsq, hcq⟩]
    rw [hq] at hheld ⊢
    have hother := State.pairCreate_pair_other (createdPair c) hroom (pairNo_ne (f := f.val) h0.symm)
    exact ⟨State.ringEnd_done ((State.ringHeld_congr hother).trans hheld) 0 0 0,
      (State.ringEnd_pairOn _ _ _ _ _ _ _).trans (State.pairCreate_pairOn _ _ hroom),
      (State.ringEnd_pair_other _ _ _ _ _ (pairNo_ne h0)).trans (State.pairCreate_pair _ _ hroom)⟩
  · rw [State.createPair_refused hk hno]
    exact ⟨State.ringEnd_done (State.ringCmd_held hc) 0 0 2, rfl⟩
  · have hheld := State.ringCmd_held hc
    rw [hq] at hheld
    have hkq : k ≠ q.val := by omega
    have hnum : pairNo f.val k - pairNo f.val k % 128 = pairNo f.val 0 := by
      have hlt : k < 128 := hk ▸ bitsOf_lt _ _ _
      unfold pairNo
      omega
    rw [State.deletePair_stops hk h0 hkq hon hx hf hd,
      State.deleteDone_idle (State.pairStopped_pair hkq hx c.serial) rfl hs rfl, hnum]
    rw [hq]
    refine ⟨State.ringEnd_done ?_ 0 0 0, (State.ringEnd_pairOn _ _ _ _ _ _ _).trans (State.pairGone_pairOn _ _),
      (State.ringEnd_pair_other _ _ _ _ _ (pairNo_ne h0)).trans (State.pairGone_pair _ _)⟩
    rw [State.ringHeld_congr (State.pairGone_pair_other _ (pairNo_ne h0.symm)), State.pairStopped_held h0.symm, hheld]
  · have hkq : k ≠ q.val := by omega
    have hpair := State.pairStopped_pair hkq hx c.serial
    rw [State.deletePair_stops hk h0 hkq hon hx hf hd, State.deleteDone_busy hpair hs]
    exact ⟨hon, by rw [hpair, ← hf]⟩
  · rw [State.deletePair_refused hk hno]
    exact ⟨State.ringEnd_done (State.ringCmd_held hc) 0 0 2, rfl⟩
  · have hheld := State.ringCmd_held hc
    cases hb : bufOk c.words 4096 with
    | false => exact State.ringEnd_done hheld 0 0 2
    | true =>
      cases hm : (s.hostAccess m).1 with
      | true => exact State.ringWrite_done hheld hm
      | false => exact State.ringWrite_failed hheld hm
  · subst hd
    have hnamed : s.CountersNamed c e m := ⟨hpres, he, hm, h0, hle, hbuf⟩
    rw [hnamed.counterRead_pf hf]
    obtain ⟨hdone, hout⟩ := State.ringWrite_done (b := (List.range m).flatMap fun k =>
      s.counterBytes (bitsOf (subArg c.words 0) 0 3) (e + k)) (r := BitVec.ofNat 32 m) (State.ringCmd_held hc) ha
    refine ⟨hdone, hout, fun i => ?_⟩
    rw [State.ringWrite_written ha, State.ringEnd_rd _ _ _ _ _ _ (by decide)]
    rfl
  · have hnamed : s.CountersNamed c (bitsOf (subArg c.words 1) 0 10) m := ⟨hpres, rfl, hm, h0, hle, hbuf⟩
    rw [hnamed.counterRead_vf hf hl]
    exact ⟨State.ringEnd_done (State.ringCmd_held hc) 0 0 3, rfl⟩

end Sys2Proof.Machine

namespace Sys2Proof.Machine

/-! # Bytes stored in core SRAM -/

theorem State.sramStore_concat (s : State) (d a : Nat) (l : List Byte) (b : Byte) :
    s.sramStore d a (l ++ [b]) = (s.sramStore d a l).sramWrite d (a + l.length) b := by
  simp [State.sramStore, List.zipIdx_append, List.foldl_append]

theorem sramKey_ne {d a o k : Nat} (ho : o < 2 ^ 22) (hk : k < 2 ^ 22) (h : o ≠ k) : sramKey d (a + o) ≠ sramKey d (a + k) := by
  unfold sramKey
  omega

/-- A byte of a run that was stored reads back. -/
theorem State.sramRead_store (s : State) (d a : Nat) (l : List Byte) (hl : l.length ≤ 2 ^ 22) {o : Nat} (ho : o < l.length) :
    (s.sramStore d a l).sramRead d (a + o) = byteAt l o := by
  induction l using List.reverseRecOn with
  | nil => cases ho
  | append_singleton l b ih =>
    rw [List.length_append, List.length_singleton] at hl ho
    rw [State.sramStore_concat, byteAt]
    by_cases hlast : o = l.length
    · rw [hlast, State.sramRead_write_same, List.getD_append_right _ _ _ _ le_rfl, Nat.sub_self]
      rfl
    · have hlt : o < l.length := by omega
      rw [State.sramRead_write_other _ _ _ _ _ _ (sramKey_ne (by omega) (by omega) hlast), ih (by omega) hlt,
        List.getD_append _ _ _ _ hlt, byteAt]

/-- What is beyond the end of a slice's list reads zero in both. -/
theorem byteAt_sliceB (l : List Byte) {n o : Nat} (h : o < n) : byteAt (sliceB l 0 n) o = byteAt l o := by
  unfold byteAt sliceB
  rw [List.drop_zero]
  by_cases ho : o < l.length
  · have hlt : o < (l.take n).length := by rw [List.length_take]; omega
    rw [List.getD_append _ _ _ _ hlt, List.getD_eq_getElem _ _ hlt, List.getD_eq_getElem _ _ ho, List.getElem_take]
  · have hle : (l.take n).length ≤ o := by rw [List.length_take]; omega
    rw [List.getD_append_right _ _ _ _ hle, List.getD_eq_default _ _ (Nat.le_of_not_lt ho),
      List.getD_eq_getElem?_getD, List.getElem?_replicate]
    split <;> rfl

/-! # The firmware inbox (R370 to R373) -/

section

variable {s : State} {f q k p : Nat} {c : RingCmd} {x : InSlot} {v : Word} {req : Requester}

@[simp] theorem State.modInbox_inbox (s : State) (g : Inbox → Inbox) : (s.modInbox g).inbox = g s.inbox := rfl
@[simp] theorem State.modInbox_hif (s : State) (g : Inbox → Inbox) : (s.modInbox g).hif = s.hif := rfl
@[simp] theorem State.modInbox_outputs (s : State) (g : Inbox → Inbox) : (s.modInbox g).outputs = s.outputs := rfl

theorem State.modInbox_sameSram (s : State) (g : Inbox → Inbox) : s.SameSram (s.modInbox g) :=
  State.sameSram_of rfl (fun _ => rfl) (State.rd_setF _ _ _ _ _ _ (by decide))

/-! ## FIRMWARE_COMMAND (R370) -/

theorem exec_firmwareCommand_taken {f : FnId} {q : PairId} {n : Nat} {l : List Byte} {m : MemAccess} (hh : s.hifLive = true)
    (hp : s.platLive = true) (hr : s.reached 0 = true) (hc : s.ringCmd f.val q.val n (fun op => decide (0x40 ≤ op)) = some c) :
    exec (.firmwareCommand f q n l m) s = .next (s.firmwareCommand f.val q.val c l m) := by
  refine congrArg Host.Outcome.next ((s.when_of _ _ (by rw [hh, hp, hr]; rfl)).trans ?_)
  rw [hc]

/-- A command with no buffer waits for a slot, and takes the lowest that is free. -/
theorem State.firmwareCommand_waits {l : List Byte} {m : MemAccess} (hi : subIn c.words = false) (ho : subOut c.words = false)
    (hk : s.inbox.freeSlot = none) : s.firmwareCommand f q c l m = s := by
  simp [State.firmwareCommand, hi, ho, hk]

theorem State.firmwareCommand_takes {l : List Byte} {m : MemAccess} (hi : subIn c.words = false) (ho : subOut c.words = false)
    (hk : s.inbox.freeSlot = some k) : s.firmwareCommand f q c l m = s.firmwareTake f q c k [] := by
  simp [State.firmwareCommand, hi, ho, hk]

/-- A slot's 64 bytes: the entry, with the function and the pair in its second word. -/
def slotHeader (f q : Nat) (c : RingCmd) : List Byte :=
  ((c.words.take 1) ++ [BitVec.ofNat 32 (f + 256 * q)] ++ (c.words.drop 2)).flatMap fun x => leBytes 4 x.toNat

/-- The slot's entry stands in core SRAM. -/
def State.slotStored (s : State) (f q : Nat) (c : RingCmd) (k : Nat) : State :=
  s.sramStore 0 (s.inboxAddr k) (sliceB (slotHeader f q c) 0 64)

/-- What slot k holds of a command. -/
def State.slotOf (s : State) (f q : Nat) (c : RingCmd) (k : Nat) : InSlot :=
  { tag := Tbl.get s.inbox.tags k 0, pair := pairNo f q, serial := c.serial, words := c.words, us := s.us }

/-- The inbox with a command in slot k, at the end of the queue. -/
def Inbox.slotTaken (k : Nat) (y : InSlot) (x : Inbox) : Inbox :=
  { x with slots := x.slots ++ [(k, y)], tags := Tbl.set x.tags k ((y.tag + 1) % 256) 0, queue := x.queue ++ [k] }

theorem State.firmwareTake_bare (s : State) (f q : Nat) (c : RingCmd) (k : Nat) : s.firmwareTake f q c k [] =
    (((s.slotStored f q c k).modInbox (Inbox.slotTaken k (s.slotOf f q c k))).ringBegin (pairNo f q) c.serial).count 0 0x3E5 1 :=
  rfl

/-- The command in slot k has its entry in core SRAM and its place in the queue, and has begun. -/
theorem State.firmwareTake_bare_spec (s : State) (f q : Nat) (c : RingCmd) (k : Nat) :
    (s.firmwareTake f q c k []).inbox = s.inbox.slotTaken k (s.slotOf f q c k) ∧
      (s.firmwareTake f q c k []).hif = (s.ringBegin (pairNo f q) c.serial).hif ∧
      ∀ o, o < 64 → (s.firmwareTake f q c k []).sramRead 0 (s.inboxAddr k + o) = byteAt (slotHeader f q c) o := by
  have hinbox : (s.slotStored f q c k).inbox = s.inbox := by rw [State.slotStored, State.sramStore_eq]
  have hhif : (s.slotStored f q c k).hif = s.hif := by rw [State.slotStored, State.sramStore_eq]
  rw [State.firmwareTake_bare]
  refine ⟨(State.count_inbox _ _ _ _).trans (congrArg (Inbox.slotTaken k (s.slotOf f q c k)) hinbox),
    (State.count_hif _ _ _ _).trans ?_, fun o ho => ?_⟩
  · rw [State.ringBegin, State.modPair, State.modHif_hif, State.modInbox_hif, hhif]
    rfl
  · refine ((HifKept.refl _).modPair.count.sameSram 0 _).trans ?_
    rw [State.modInbox_sameSram, State.slotStored, State.sramRead_store _ _ _ _ (by rw [sliceB_length]; decide)
      (by rwa [sliceB_length]), byteAt_sliceB _ ho]

/-! ## HI_FW_TAKE (R371) -/

theorem exec_hiFwTakeRead_open (h : s.PlatOpen req) : exec (.hiFwTakeRead req) s = .next (State.answer (s.readTake req)) :=
  congrArg Host.Outcome.next (State.platAccess_open _ h)

theorem State.readTake_none (h : s.inbox.queue = []) : s.readTake req = (0, s) := by
  simp [State.readTake, h]

theorem State.readTake_oldest {l : List Nat} (hd : fromDie0 req = true) (h : s.inbox.queue = k :: l)
    (hx : (s.inbox.slots.find? fun y => decide (y.1 = k)) = some (k, x)) : s.readTake req =
      (BitVec.ofNat 32 (k + 2 ^ 8 * x.tag + 2 ^ 31), s.modInbox fun x => { x with queue := l }) := by
  simp [State.readTake, hd, h, hx]

/-! ## HI_FW_DONE (R371, R372) -/

theorem exec_hiFwDone_open {l : Stores} {m : MemAccess} (h : s.PlatOpen req) :
    exec (.hiFwDone req v l m) s = .next ((s.stores l).writeFwDone req v m) :=
  congrArg Host.Outcome.next (State.platAccess_open _ h)

theorem State.inboxFree_slots (s : State) (k : Nat) : ∀ y ∈ (s.inboxFree k).inbox.slots, y.1 ≠ k := by
  intro y hy
  simpa using (List.mem_filter.mp hy).2

@[simp] theorem State.ringEnd_inbox (s : State) (p n : Nat) (r0 r1 : Word) (st : Nat) :
    (s.ringEnd p n r0 r1 st).inbox = s.inbox := rfl

theorem State.inboxFree_held (s : State) (k p n : Nat) : (s.inboxFree k).ringHeld p n = s.ringHeld p n :=
  State.ringHeld_congr (State.pair_congr (s.modInbox_hif _) p)

/-- Another TAG is not the slot's command. -/
theorem State.writeFwDone_stale {m : MemAccess} (hx : (s.inbox.slots.find? fun y => decide (y.1 = Fld.HI_FW_DONE_SLOT.of v)) =
    some (Fld.HI_FW_DONE_SLOT.of v, x)) (ht : x.tag ≠ Fld.HI_FW_DONE_TAG.of v) : s.writeFwDone req v m = s := by
  simp [State.writeFwDone, hx, ht]

/-- The slot's command, with no data for its buffer, completes with firmware's results. -/
theorem State.writeFwDone_bare {m : MemAccess} (hd : fromDie0 req = true) (hh : s.hifLive = true)
    (hx : (s.inbox.slots.find? fun y => decide (y.1 = Fld.HI_FW_DONE_SLOT.of v)) = some (Fld.HI_FW_DONE_SLOT.of v, x))
    (ht : x.tag = Fld.HI_FW_DONE_TAG.of v) (ho : subOut x.words = false) (hr : s.ringHeld x.pair x.serial = true) :
    s.writeFwDone req v m = (s.inboxFree (Fld.HI_FW_DONE_SLOT.of v)).ringEnd x.pair x.serial (s.rd .HI_FW_RES0 0) (s.rd .HI_FW_RES1 0)
      (Fld.HI_FW_DONE_STATUS.of v) := by
  have hheld := (s.inboxFree_held (Fld.HI_FW_DONE_SLOT.of v) x.pair x.serial).trans hr
  have hlive : (s.inboxFree (Fld.HI_FW_DONE_SLOT.of v)).hifLive = true := hh
  unfold State.writeFwDone
  simp [hd, hx, ht, ho, hheld, hlive]

/-! ## A command that firmware does not answer (R372) -/

/-- The first element that meets a condition is the first that meets it and another, where it meets the other too. -/
theorem find?_and {α : Type} {p q : α → Bool} {l : List α} {a : α} (h : l.find? p = some a) (hq : q a = true) :
    l.find? (fun y => p y && q y) = some a := by
  obtain ⟨hp, l1, l2, rfl, hno⟩ := List.find?_eq_some_iff_append.mp h
  refine List.find?_eq_some_iff_append.mpr ⟨by rw [hp, hq]; rfl, l1, l2, rfl, fun y hy => ?_⟩
  have := hno y hy
  simp only [Bool.not_eq_true'] at this
  simp [this]

theorem exec_fwTimeout_due {k : Fin 16} (hp : s.platLive = true)
    (hx : (s.inbox.slots.find? fun y => decide (y.1 = k.val)) = some (k.val, x))
    (ht : 1000 * max 1 (s.getF Fld.HI_CTRL_FW_TIMEOUT_MS 0) ≤ s.usSince x.us) :
    exec (.fwTimeout k) s = .next (((s.inboxFree k.val).hiFault x.pair 0x8004).ringEnd x.pair x.serial 0 0 8) := by
  refine congrArg Host.Outcome.next ((s.when_of _ _ hp).trans ?_)
  rw [find?_and hx (decide_eq_true ht)]

end

/-- Settles O42: what a slot holds from the command that takes it to the write, or the time, that frees it. -/
theorem firmwareInbox : Obligations.FirmwareInbox := by
  unfold Obligations.FirmwareInbox
  refine ⟨fun f q n k c x m s hh hp hr hc hi ho hk => ⟨_, exec_firmwareCommand_taken hh hp hr hc, ?_⟩,
    fun f q n c x m s hh hp hr hc hi ho hk =>
      (exec_firmwareCommand_taken hh hp hr hc).trans (congrArg _ (State.firmwareCommand_waits hi ho hk)),
    fun req k l x s ho hd hq hx => ⟨_, exec_hiFwTakeRead_open ho, ?_⟩,
    fun req s ho hq => (exec_hiFwTakeRead_open ho).trans (by rw [State.readTake_none hq]; rfl),
    fun req v l m k x s ho hd hh hk hx ht hout hr => ⟨_, exec_hiFwDone_open ho, ?_⟩,
    fun req v l m x s ho hx ht => (exec_hiFwDone_open ho).trans (congrArg _ (State.writeFwDone_stale ?_ ht)),
    fun k x s hp hx ht hr => ⟨_, exec_fwTimeout_due hp hx ht, ?_⟩⟩
  · rw [State.firmwareCommand_takes hi ho hk]
    obtain ⟨hinbox, hhif, hbytes⟩ := s.firmwareTake_bare_spec f.val q.val c k
    exact ⟨congrArg Inbox.slots hinbox, congrArg Inbox.queue hinbox, hhif, hbytes⟩
  · rw [State.readTake_oldest hd hq hx]
    exact ⟨rfl, (s.modInbox_sameSram fun x => { x with queue := l }).emit _, rfl⟩
  · subst hk
    have hinbox : (s.stores l).inbox = s.inbox := by rw [State.stores_eq]
    have hhif : (s.stores l).hif = s.hif := by rw [State.stores_eq]
    have hlive : (s.stores l).hifLive = true := by rw [State.hifLive, State.stores_eq]; exact hh
    have hheld := (State.ringHeld_congr (State.pair_congr hhif x.pair)).trans hr
    rw [State.writeFwDone_bare hd hlive (by rw [hinbox, hx]) ht hout hheld, State.stores_rd, State.stores_rd]
    refine ⟨State.ringEnd_done ((State.inboxFree_held _ _ _ _).trans hheld) _ _ _, fun y hy => ?_, ?_⟩
    · rw [State.ringEnd_inbox] at hy
      exact State.inboxFree_slots _ _ y hy
    · rw [State.ringEnd_outputs, State.stores_eq]
      rfl
  · rw [State.stores_eq]
    exact hx
  · have hheld : ((s.inboxFree k.val).hiFault x.pair 0x8004).ringHeld x.pair x.serial = true :=
      (State.ringHeld_congr (State.pair_congr (State.report_hif _ _ _ _) _)).trans hr
    refine ⟨State.ringEnd_done hheld 0 0 8, fun y hy => ?_, ?_⟩
    · have hinbox : ((s.inboxFree k.val).hiFault x.pair 0x8004).inbox = (s.inboxFree k.val).inbox := State.report_inbox _ _ _ _
      rw [State.ringEnd_inbox, hinbox] at hy
      exact s.inboxFree_slots k.val y hy
    · rw [State.ringEnd_rd _ _ _ _ _ _ (by decide)]
      exact State.hiFault_bit _ _ (b := 3) (by decide)

end Sys2Proof.Machine

namespace Sys2Proof.Machine

/-! # The mailbox port (R376 to R379, R382) -/

section

variable {s : State}

/-- A frame has shifted the status byte out. -/
def State.mbAnswered (s : State) : State := s.mbSend s.mbStatus []

theorem State.mbSend_kept (s : State) (n : Nat) (l : List Byte) : HifKept s (s.mbSend n l) := (HifKept.refl s).emit.count

@[simp] theorem State.mbSend_mbx (s : State) (n : Nat) (l : List Byte) : (s.mbSend n l).mbx = s.mbx := State.count_mbx _ _ _ _

@[simp] theorem State.mbSend_outputs (s : State) (n : Nat) (l : List Byte) :
    (s.mbSend n l).outputs = s.outputs ++ [.mailbox (BitVec.ofNat 8 n :: l)] := State.count_outputs _ _ _ _

@[simp] theorem State.mbAnswered_mbx (s : State) : s.mbAnswered.mbx = s.mbx := s.mbSend_mbx _ _

theorem State.mbAnswered_outputs (s : State) : s.mbAnswered.outputs = s.outputs ++ [.mailbox [BitVec.ofNat 8 s.mbStatus]] :=
  s.mbSend_outputs _ _

theorem State.mbAnswered_wrEn (s : State) : s.mbAnswered.flag Fld.MB_CTRL_WR_EN 0 = s.flag Fld.MB_CTRL_WR_EN 0 :=
  (s.mbSend_kept _ _).flag 0 rfl (by decide) (by decide) (by decide)

theorem State.mbFrame_live (h : s.platLive = true) (f : State → State) : s.mbFrame f = f s.mbAnswered := s.when_of _ _ h

/-- A report beside ERR or OVERRUN leaves the port and core SRAM as they are. -/
theorem State.modMbx_report_mbx (s : State) (g : Mbx → Mbx) (d code source : Nat) :
    ((s.modMbx g).report d code source).mbx = g s.mbx := State.report_mbx _ _ _ _

theorem State.modMbx_report_sameSram (s : State) (g : Mbx → Mbx) (d code source : Nat) :
    s.SameSram ((s.modMbx g).report d code source) := (HifKept.refl (s.modMbx g)).report.sameSram

theorem State.mbRefuse_outputs (s : State) (n : Nat) : (s.mbRefuse n).outputs = s.outputs := State.report_outputs _ _ _ _

/-! ## WRITE (R378) -/

/-- A WRITE that the port takes whole, of words that lie in one page. -/
theorem exec_mbWrite_taken {a : Word} {l : List Word} (hp : s.platLive = true) (hb : s.mbx.busy = false)
    (hw : s.flag Fld.MB_CTRL_WR_EN 0 = true) (hl : l.length ≤ 64)
    (hpage : l.length ≤ (0x1000 - a.toNat / 4 * 4 % 0x1000) / 4) :
    exec (.mbWrite a l false) s = .next (s.mbAnswered.mbApply (a.toNat / 4 * 4) l) := by
  have hk : pageWords (a.toNat / 4 * 4) l.length = l.length := Nat.min_eq_left hpage
  refine congrArg Host.Outcome.next ((State.mbFrame_live hp _).trans ?_)
  dsimp only
  rw [State.mbAnswered_mbx, State.mbAnswered_wrEn, hb, hw, List.take_of_length_le hl, hk, List.take_length, if_neg (by decide),
    if_neg (Nat.lt_irrefl _), if_neg Bool.false_ne_true]

theorem exec_mbWrite_refused {a : Word} {l : List Word} {cut : Bool} (hp : s.platLive = true)
    (h : s.mbx.busy = true ∨ s.flag Fld.MB_CTRL_WR_EN 0 = false) :
    exec (.mbWrite a l cut) s = .next (s.mbAnswered.mbRefuse 0x01) := by
  refine congrArg Host.Outcome.next ((State.mbFrame_live hp _).trans (if_pos ?_))
  rw [State.mbAnswered_mbx, State.mbAnswered_wrEn]
  exact h.imp_right fun h => by rw [h]; rfl

/-! ## READ_REQ and READ_DATA (R379) -/

theorem exec_mbReadReq_taken {a : Word} {n : Byte} (hp : s.platLive = true) (hb : s.mbx.busy = false) :
    exec (.mbReadReq a n false) s = .next (s.mbAnswered.modMbx fun m => { m with
      busy := true, ready := false, words := []
      req := some (a.toNat / 4 * 4, if n = 0 then 64 else min n.toNat 64) }) := by
  refine congrArg Host.Outcome.next ((State.mbFrame_live hp _).trans ((if_neg ?_).trans (if_neg Bool.false_ne_true)))
  simp [hb]

theorem State.mbFetch_length (a : Nat) (b : Bool) (n : Nat) : (s.mbFetch a b n).1.length = n := by
  induction n generalizing s a with
  | zero => rfl
  | succ n ih => exact congrArg (· + 1) (ih (a + 4))

/-- The words of the request are in the buffer. -/
theorem exec_mbReadBufferReady_fetched {a n : Nat} {b : Bool} (hp : s.platLive = true) (hr : s.mbx.req = some (a, n)) :
    RunsTo (.mbReadBufferReady b) s fun t => t.mbx.busy = false ∧ t.mbx.ready = true ∧ t.mbx.req = none ∧
      t.mbx.words = (s.mbFetch a b (pageWords a n)).1 ++ List.replicate (n - pageWords a n) 0xFFFFFFFF := by
  refine ⟨_, congrArg Host.Outcome.next (s.when_of _ _ hp), ?_⟩
  rw [hr]
  exact ⟨rfl, rfl, rfl, rfl⟩

theorem State.mbClocked_within (s : State) {l : List Byte} {n : Nat} (h : n ≤ l.length) : s.mbClocked l n = l.take n := by
  simp [State.mbClocked, Nat.sub_eq_zero_of_le h]

theorem exec_mbReadData_ready {n : Nat} (hp : s.platLive = true) (hr : s.mbx.ready = true) (hn : n ≤ (beWords s.mbx.words).length) :
    exec (.mbReadData n) s = .next (s.mbSend s.mbStatus ((beWords s.mbx.words).take n)) := by
  refine congrArg Host.Outcome.next ((s.when_of _ _ hp).trans ((if_pos hr).trans ?_))
  dsimp only
  rw [s.mbClocked_within hn, Nat.sub_eq_zero_of_le hn, Nat.add_zero,
    (s.mbSend_kept s.mbStatus ((beWords s.mbx.words).take n)).rest]

theorem exec_mbReadData_empty {n : Nat} (hp : s.platLive = true) (hr : s.mbx.ready = false) :
    exec (.mbReadData n) s = .next (s.mbSend s.mbStatus (List.replicate n 0xFF)) :=
  congrArg Host.Outcome.next ((s.when_of _ _ hp).trans (if_neg (by simp [hr])))

end

/-- Settles O43: each frame by its branches after the status byte. -/
theorem mailboxReadsAndWrites : Obligations.MailboxReadsAndWrites := by
  unfold Obligations.MailboxReadsAndWrites
  refine ⟨fun a l s hp hb hw hl hpage => exec_mbWrite_taken hp hb hw hl hpage,
    fun a l b s hp h => ⟨_, exec_mbWrite_refused hp h, ?_⟩,
    fun a n s hp hb => ⟨_, exec_mbReadReq_taken hp hb, ?_, s.mbAnswered_outputs⟩,
    fun b a n s hp hr => ?_,
    fun b s hr => ?_,
    fun n s hp hr hn => ⟨_, exec_mbReadData_ready hp hr hn, s.mbSend_mbx _ _, s.mbSend_outputs _ _⟩,
    fun n s hp hr => ⟨_, exec_mbReadData_empty hp hr, s.mbSend_mbx _ _, s.mbSend_outputs _ _⟩,
    fun s hp => ⟨_, congrArg Host.Outcome.next (s.when_of _ _ hp), s.modMbx_report_mbx _ _ _ _, s.modMbx_report_sameSram _ _ _ _⟩⟩
  · refine ⟨?_, fun d x => ?_, (State.mbRefuse_outputs _ _).trans s.mbAnswered_outputs⟩
    · rw [State.mbRefuse, State.modMbx_report_mbx, State.mbAnswered_mbx]
    · rw [State.mbRefuse, State.modMbx_report_sameSram]
      exact (s.mbSend_kept _ _).sameSram d x
  · rw [State.modMbx, s.mbAnswered_mbx]
  · obtain ⟨t, ht, hbusy, hready, hreq, hwords⟩ := exec_mbReadBufferReady_fetched (b := b) hp hr
    refine ⟨t, ht, hbusy, hready, hreq, ?_, hwords⟩
    rw [hwords, List.length_append, State.mbFetch_length, List.length_replicate]
    exact Nat.add_sub_cancel' (Nat.min_le_left _ _)
  · refine congrArg Host.Outcome.next ?_
    unfold State.when
    split
    · beta_reduce
      rw [hr]
    · rfl

end Sys2Proof.Machine

namespace Sys2Proof.Machine

/-! # The Ralver engine's operations (R387 to R394)

What the operations of the Ralver engine leave alone is said once, by `RvKept`; what they do to a port is said by one lemma per
operation. -/

/-- From `s` to `t` the Ralver engine may have moved, RV_STATUS with it, faults may have been reported, events counted and parcels
sent. -/
structure RvKept (s t : State) : Prop where
  rest : t = { s with regs := t.regs, dies := t.dies, rv := t.rv, outputs := t.outputs }
  generation : ∀ d, (t.die d).generation = (s.die d).generation
  rd : ∀ n i, n.counts = false → n ∉ faultRegs → n ≠ .RV_STATUS → t.rd n i = s.rd n i

namespace RvKept

variable {r s t : State}

theorem refl (s : State) : RvKept s s := ⟨rfl, fun _ => rfl, fun _ _ _ _ _ => rfl⟩

theorem trans (h1 : RvKept r s) (h2 : RvKept s t) : RvKept r t where
  rest := h2.rest.trans (by rw [h1.rest])
  generation d := (h2.generation d).trans (h1.generation d)
  rd n i hc hf hs := (h2.rd n i hc hf hs).trans (h1.rd n i hc hf hs)

theorem report (h : RvKept r s) {d code source : Nat} : RvKept r (s.report d code source) :=
  h.trans ⟨by rw [s.report_rest d code source], s.report_generation d code source,
    fun n i hc hf _ => s.report_rd_plain d code source n i hc hf⟩

theorem count (h : RvKept r s) {d e n : Nat} : RvKept r (s.count d e n) := by
  obtain ⟨hrest, hbut, hother, hdie⟩ := s.count_counted d e n
  refine h.trans ⟨by rw [hrest], fun x => ?_, fun n i hc _ _ => hbut n i hc⟩
  by_cases hx : x = d
  · rw [hx, hdie]
  · rw [hother x hx]

theorem modRv (h : RvKept r s) {f : Rv → Rv} : RvKept r (s.modRv f) := h.trans ⟨rfl, fun _ => rfl, fun _ _ _ _ _ => rfl⟩

theorem modRvPort (h : RvKept r s) {p : Bool} {f : RvPort → RvPort} : RvKept r (s.modRvPort p f) := h.modRv

theorem emit (h : RvKept r s) {o : Output} : RvKept r (s.emit o) := h.trans ⟨rfl, fun _ => rfl, fun _ _ _ _ _ => rfl⟩

theorem setF (h : RvKept r s) {f : Field} {i x : Nat} (hf : f.reg = .RV_STATUS) : RvKept r (s.setF f i x) :=
  h.trans ⟨rfl, fun _ => rfl, fun _ _ _ _ hs => State.rd_setF _ _ _ _ _ _ (hf ▸ hs)⟩

theorem setFlag (h : RvKept r s) {f : Field} {i : Nat} {b : Bool} (hf : f.reg = .RV_STATUS) : RvKept r (s.setFlag f i b) := h.setF hf

theorem rvSend (h : RvKept r s) (p : Bool) (x : Parcel) : RvKept r (s.rvSend p x) := by
  unfold State.rvSend
  dsimp only
  split
  · exact h
  · exact h.modRvPort.emit.count

theorem sendIdent (h : RvKept r s) (p : Bool) : RvKept r (s.sendIdent p) := h.rvSend p _

theorem sameSram (h : RvKept s t) : s.SameSram t :=
  State.sameSram_of (by rw [h.rest]) h.generation (h.rd .BT_LOCK 0 rfl (by decide) (by decide))

theorem getF (h : RvKept s t) {f : Field} (i : Nat) (hc : f.reg.counts = false) (hf : f.reg ∉ faultRegs)
    (hs : f.reg ≠ .RV_STATUS) : t.getF f i = s.getF f i := State.getF_eq_of_rd (h.rd _ i hc hf hs)

theorem flag (h : RvKept s t) {f : Field} (i : Nat) (hc : f.reg.counts = false) (hf : f.reg ∉ faultRegs)
    (hs : f.reg ≠ .RV_STATUS) : t.flag f i = s.flag f i := State.flag_congr (h.rd _ i hc hf hs)

theorem us (h : RvKept s t) : t.us = s.us := h.rd .FAULT_US 0 rfl (by decide) (by decide)

theorem deviceId (h : RvKept s t) : t.deviceId = s.deviceId := by
  unfold State.deviceId
  congr 1
  funext k
  rw [h.rd .KU_DEVID k rfl (by decide) (by decide)]

end RvKept

/-! ## Ports -/

section

variable {s t : State} {p q : Bool} {x : Parcel}

theorem State.rvPort_congr (h : t.rv = s.rv) (p : Bool) : t.rvPort p = s.rvPort p := by rw [State.rvPort, h, State.rvPort]

@[simp] theorem State.modRvPort_same (s : State) (p : Bool) (f : RvPort → RvPort) : (s.modRvPort p f).rvPort p = f (s.rvPort p) := by
  cases p <;> rfl

@[simp] theorem State.modRvPort_other (s : State) (p : Bool) (f : RvPort → RvPort) :
    (s.modRvPort p f).rvPort (!p) = s.rvPort (!p) := by cases p <;> rfl

theorem State.modRvPort_rv (s : State) (p : Bool) (f : RvPort → RvPort) :
    (s.modRvPort p f).rv = { s.rv with portUp := (s.modRvPort p f).rv.portUp, portDn := (s.modRvPort p f).rv.portDn } := by
  cases p <;> rfl

/-! ## Sending (R389, R391) -/

/-- A parcel as a port sends it: under the port's next LSEQ. -/
def RvPort.numbered (r : RvPort) (x : Parcel) : Parcel := { x with lseq := BitVec.ofNat 8 r.tx }

/-- A port that has sent a parcel keeps it. -/
def RvPort.sent (r : RvPort) (x : Parcel) (us : Word) : RvPort :=
  { r.keep ((r.kept ++ [r.numbered x]).drop ((r.kept ++ [r.numbered x]).length - 16)) (if r.kept = [] then us else r.since) with
    tx := (r.tx + 1) % 256 }

theorem State.rvSend_down (x : Parcel) (h : (s.rvPort p).up = false) : s.rvSend p x = s := if_pos (by rw [h]; rfl)

theorem State.rvSend_eq (x : Parcel) (h : (s.rvPort p).up = true) : s.rvSend p x =
    (((s.modRvPort p fun r => r.sent x s.us).emit (.parcel p ((s.rvPort p).numbered x))).count 0 (0x3EC + b2n p) 1) := by
  refine (if_neg (by rw [h]; decide)).trans ?_
  have hport : (s.modRvPort p fun r => r.sent x s.us) = s.modRvPort p fun _ => (s.rvPort p).sent x s.us := by cases p <;> rfl
  rw [hport]
  cases p <;> rfl

theorem State.rvSend_rv (s : State) (p : Bool) (x : Parcel) :
    (s.rvSend p x).rv = { s.rv with portUp := (s.rvSend p x).rv.portUp, portDn := (s.rvSend p x).rv.portDn } := by
  cases h : (s.rvPort p).up
  · rw [State.rvSend_down x h]
  · rw [State.rvSend_eq x h, State.count_rv, State.emit_rv]
    exact s.modRvPort_rv p _

theorem State.rvSend_same (x : Parcel) (h : (s.rvPort p).up = true) :
    (s.rvSend p x).rvPort p = (s.rvPort p).sent x s.us := by
  rw [State.rvSend_eq x h, State.rvPort_congr ((State.count_rv _ _ _ _).trans (State.emit_rv _ _)), State.modRvPort_same]

@[simp] theorem State.rvSend_other (s : State) (p : Bool) (x : Parcel) : (s.rvSend p x).rvPort (!p) = s.rvPort (!p) := by
  cases h : (s.rvPort p).up
  · rw [State.rvSend_down x h]
  · rw [State.rvSend_eq x h, State.rvPort_congr ((State.count_rv _ _ _ _).trans (State.emit_rv _ _)), State.modRvPort_other]

@[simp] theorem State.rvSend_up (s : State) (p : Bool) (x : Parcel) (q : Bool) :
    ((s.rvSend p x).rvPort q).up = (s.rvPort q).up := by
  cases h : (s.rvPort p).up
  · rw [State.rvSend_down x h]
  · obtain rfl | rfl : q = p ∨ q = !p := by cases p <;> cases q <;> simp
    · rw [State.rvSend_same x h]
      rfl
    · rw [State.rvSend_other]

/-- Sending changes no register but the counters. -/
theorem State.rvSend_rd (s : State) (p : Bool) (x : Parcel) (n : RegName) (i : Nat) (hc : n.counts = false) :
    (s.rvSend p x).rd n i = s.rd n i := by
  cases h : (s.rvPort p).up
  · rw [State.rvSend_down x h]
  · rw [State.rvSend_eq x h, (State.count_counted _ _ _ _).2.1 n i hc]
    rfl

theorem State.rvSend_getF (s : State) (p : Bool) (x : Parcel) (f : Field) (i : Nat) (hc : f.reg.counts = false) :
    (s.rvSend p x).getF f i = s.getF f i := State.getF_eq_of_rd (s.rvSend_rd p x _ i hc)

theorem State.rvSend_flag (s : State) (p : Bool) (x : Parcel) (f : Field) (i : Nat) (hc : f.reg.counts = false) :
    (s.rvSend p x).flag f i = s.flag f i := State.flag_congr (s.rvSend_rd p x _ i hc)

theorem State.rvSend_outputs (x : Parcel) (h : (s.rvPort p).up = true) :
    (s.rvSend p x).outputs = s.outputs ++ [.parcel p ((s.rvPort p).numbered x)] := by
  rw [State.rvSend_eq x h, State.count_outputs]
  rfl

/-- What goes out of the ports from s to t is parcels of one type. -/
def State.Sends (s t : State) (typ : Byte) : Prop :=
  ∃ l, t.outputs = s.outputs ++ l ∧ ∀ z ∈ l, ∃ q y, z = Output.parcel q y ∧ y.type = typ

theorem State.Sends.refl (s : State) (typ : Byte) : s.Sends s typ := ⟨[], (List.append_nil _).symm, fun _ h => nomatch h⟩

theorem State.Sends.rvSend {typ : Byte} (h : s.Sends t typ) (p : Bool) {x : Parcel} (hx : x.type = typ) :
    s.Sends (t.rvSend p x) typ := by
  cases hup : (t.rvPort p).up
  · rwa [State.rvSend_down x hup]
  · obtain ⟨l, hl, hall⟩ := h
    refine ⟨l ++ [.parcel p ((t.rvPort p).numbered x)], by rw [State.rvSend_outputs x hup, hl, List.append_assoc], fun z hz => ?_⟩
    rcases List.mem_append.mp hz with hz | hz
    · exact hall z hz
    · exact ⟨p, _, List.mem_singleton.mp hz, hx⟩

/-- A port's first parcel is the one it keeps. -/
theorem RvPort.sent_kept {r : RvPort} (h : r.kept = []) (x : Parcel) (us : Word) : (r.sent x us).kept = [r.numbered x] := by
  rw [RvPort.sent, h]
  rfl

/-- A fault of the Ralver engine sets its bit of RV_FAULT (Table 6.7). -/
theorem State.rvFault_bit (s : State) {b source : Nat} (hb : b < 8) :
    bitOf ((s.report 0 (0xC001 + b) source).rd .RV_FAULT 0).toNat b = true := by
  have hbit : faultBit 0 (0xC001 + b) source = some (.RV_FAULT, 0, b) := by
    obtain rfl | rfl | rfl | rfl | rfl | rfl | rfl | rfl : b = 0 ∨ b = 1 ∨ b = 2 ∨ b = 3 ∨ b = 4 ∨ b = 5 ∨ b = 6 ∨ b = 7 := by omega
    all_goals rfl
  rw [State.report_bit _ _ _ _ .RV_FAULT 0 b rfl hbit]
  exact bitOf_or_twoPow _ (by omega)

end

end Sys2Proof.Machine

namespace Sys2Proof.Machine

/-! # The Ralver link (R387 to R392, R394) -/

section

variable {s : State} {p c : Bool} {x : Parcel} {l : List Parcel}

/-! ## A port comes up -/

/-- A port that has come up, with its bit of RV_STATUS. -/
def State.linkUp (s : State) (p : Bool) : State := (s.modRvPort p fun _ => { RvPort.reset with up := true }).showLink p true

theorem exec_portUp_down (hr : s.rlvLive = true) (hp : (s.rvPort p).up = false) :
    exec (.portUp p) s = .next ((s.linkUp p).sendIdent p) :=
  congrArg Host.Outcome.next (s.when_of _ _ (by rw [hr, hp]; rfl))

theorem State.showLink_rv (s : State) (p b : Bool) : (s.showLink p b).rv = s.rv := rfl

theorem State.linkUp_same (s : State) (p : Bool) : (s.linkUp p).rvPort p = { RvPort.reset with up := true } := by
  rw [State.linkUp, State.rvPort_congr (State.showLink_rv _ _ _), State.modRvPort_same]

theorem State.linkUp_other (s : State) (p : Bool) : (s.linkUp p).rvPort (!p) = s.rvPort (!p) := by
  rw [State.linkUp, State.rvPort_congr (State.showLink_rv _ _ _), State.modRvPort_other]

/-- The RV_STATUS bit of port p. -/
def linkBit (p : Bool) : Field := if p then Fld.RV_STATUS_DN_LINK else Fld.RV_STATUS_UP_LINK

theorem linkBit_reg (p : Bool) : (linkBit p).reg = .RV_STATUS := by cases p <;> rfl

theorem State.showLink_flag (s : State) (p b : Bool) : (s.showLink p b).flag (linkBit p) 0 = b := by
  cases p <;> exact State.flag_setFlag_same _ _ _ _ (by decide) (by decide)

theorem State.showLink_loop (s : State) (p b : Bool) :
    (s.showLink p b).flag Fld.RV_STATUS_LOOP 0 = s.flag Fld.RV_STATUS_LOOP 0 := by
  cases p <;> exact State.flag_setFlag_apart _ _ _ _ _ _ (by decide) (by decide)

/-! ## A port goes down -/

/-- A port that has gone down: its parcels are lost, and 0xC001 reports it. -/
def State.linkLost (s : State) (p : Bool) : State := ((s.modRvPort p fun _ => RvPort.reset).showLink p false).report 0 0xC001 (b2n p)

/-- BREAK for the chain on the far side of port p. -/
def State.breakParcel (s : State) (p : Bool) : Parcel :=
  s.ownParcel 0x04 0 0 (beBytes 2 s.rvPos ++ [BitVec.ofNat 8 (b2n p), 0])

theorem exec_portDown_up (hr : s.rlvLive = true) (hp : (s.rvPort p).up = true) :
    exec (.portDown p) s = .next (s.portDown p) := congrArg Host.Outcome.next (s.when_of _ _ (by rw [hr, hp]; rfl))

theorem State.linkLost_rv (s : State) (p : Bool) : (s.linkLost p).rv = (s.modRvPort p fun _ => RvPort.reset).rv := State.report_rv _ _ _ _

theorem State.linkLost_same (s : State) (p : Bool) : (s.linkLost p).rvPort p = RvPort.reset := by
  rw [State.rvPort_congr (s.linkLost_rv p), State.modRvPort_same]

theorem State.linkLost_other (s : State) (p : Bool) : (s.linkLost p).rvPort (!p) = s.rvPort (!p) := by
  rw [State.rvPort_congr (s.linkLost_rv p), State.modRvPort_other]

theorem State.linkLost_outputs (s : State) (p : Bool) : (s.linkLost p).outputs = s.outputs := State.report_outputs _ _ _ _

theorem State.linkLost_flag (s : State) (p : Bool) : (s.linkLost p).flag (linkBit p) 0 = false := by
  refine (State.flag_congr (State.report_rd_plain _ _ _ _ _ _ ?_ ?_)).trans (State.showLink_flag _ p false)
  · rw [linkBit_reg]
    rfl
  · rw [linkBit_reg]
    decide

theorem State.linkLost_loop (s : State) (p : Bool) : (s.linkLost p).flag Fld.RV_STATUS_LOOP 0 = s.flag Fld.RV_STATUS_LOOP 0 :=
  (State.flag_congr (State.report_rd_plain _ _ _ _ _ _ rfl (by decide))).trans (State.showLink_loop _ p false)

/-- In a loop the other port tells the chain. -/
theorem State.portDown_eq (s : State) (p : Bool) : s.portDown p =
    if s.flag Fld.RV_STATUS_LOOP 0 then (s.linkLost p).rvSend (!p) ((s.linkLost p).breakParcel p) else s.linkLost p := by
  rw [← s.linkLost_loop p]
  rfl

/-- A property that sending keeps, a port that has gone down has where it was lost. -/
theorem State.portDown_keeps {P : State → Prop} (hsend : ∀ t q y, P t → P (t.rvSend q y)) (h : P (s.linkLost p)) :
    P (s.portDown p) := by
  rw [State.portDown_eq]
  split
  · exact hsend _ _ _ h
  · exact h

theorem State.portDown_same (s : State) (p : Bool) : (s.portDown p).rvPort p = RvPort.reset := by
  rw [State.portDown_eq]
  split
  · have hother := (s.linkLost p).rvSend_other (!p) ((s.linkLost p).breakParcel p)
    rw [Bool.not_not] at hother
    rw [hother, State.linkLost_same]
  · exact s.linkLost_same p

theorem State.portDown_flag (s : State) (p : Bool) : (s.portDown p).flag (linkBit p) 0 = false :=
  State.portDown_keeps (P := fun t => t.flag (linkBit p) 0 = false)
    (fun t q y h => (t.rvSend_flag q y _ 0 (by rw [linkBit_reg]; rfl)).trans h) (s.linkLost_flag p)

theorem State.portDown_fault (s : State) (p : Bool) : bitOf ((s.portDown p).rd .RV_FAULT 0).toNat 0 = true :=
  State.portDown_keeps (P := fun t => bitOf (t.rd .RV_FAULT 0).toNat 0 = true)
    (fun t q y h => by rwa [t.rvSend_rd q y _ 0 rfl]) (State.rvFault_bit _ (b := 0) (by decide))

/-! ## A parcel arrives (R389, R391) -/

theorem exec_parcelReceive_up (hr : s.rlvLive = true) (hp : (s.rvPort p).up = true) : exec (.parcelReceive p x c) s = .next
    (if !c ∨ x.lseq.toNat ≠ (s.rvPort p).rx then
      if (s.rvPort p).discard then s
      else ((s.modRvPort p fun r => { r with discard := true }).report 0 0xC002 (b2n p)).emit
        (.linkAck p true (BitVec.ofNat 8 (s.rvPort p).rx))
    else
      let s := s.modRvPort p fun r => { r with rx := (r.rx + 1) % 256, discard := false }
      let s := (s.emit (.linkAck p false x.lseq)).count 0 (0x3EE + b2n p) 1
      if s.rvStale x then s
      else if rvKnown x.type.toNat then s.modRv fun r => { r with inq := r.inq ++ [(p, x)] }
      else if pBcast x || !s.isHere x.dst then s.rvPass (some p) x
      else s) :=
  congrArg Host.Outcome.next (s.when_of _ _ (by rw [hr, hp]; rfl))

/-- A parcel in sequence has been acknowledged. -/
def State.parcelAcked (s : State) (p : Bool) (x : Parcel) : State :=
  ((s.modRvPort p fun r => { r with rx := (r.rx + 1) % 256, discard := false }).emit (.linkAck p false x.lseq)).count 0 (0x3EE + b2n p) 1

theorem State.parcelAcked_kept (s : State) (p : Bool) (x : Parcel) : RvKept s (s.parcelAcked p x) :=
  (RvKept.refl s).modRvPort.emit.count

theorem State.parcelAcked_rv (s : State) (p : Bool) (x : Parcel) : (s.parcelAcked p x).rv =
    (s.modRvPort p fun r => { r with rx := (r.rx + 1) % 256, discard := false }).rv := State.count_rv _ _ _ _

theorem State.parcelAcked_inq (s : State) (p : Bool) (x : Parcel) : (s.parcelAcked p x).rv.inq = s.rv.inq := by
  rw [State.parcelAcked_rv, State.modRvPort_rv]

theorem State.parcelAcked_outputs (s : State) (p : Bool) (x : Parcel) :
    (s.parcelAcked p x).outputs = s.outputs ++ [.linkAck p false x.lseq] := State.count_outputs _ _ _ _

theorem State.parcelAcked_stale (s : State) (p : Bool) (x y : Parcel) : (s.parcelAcked p x).rvStale y = s.rvStale y := by
  have hstatus : (s.parcelAcked p x).rd .RV_STATUS 0 = s.rd .RV_STATUS 0 := (State.count_counted _ _ _ _).2.1 .RV_STATUS 0 rfl
  unfold State.rvStale State.isHere State.rvPos
  rw [State.flag_congr (f := Fld.RV_STATUS_POS_VALID) hstatus, State.getF_eq_of_rd (f := Fld.RV_STATUS_POSITION) hstatus]

theorem exec_parcelReceive_taken (hr : s.rlvLive = true) (hp : (s.rvPort p).up = true) (hx : x.lseq.toNat = (s.rvPort p).rx)
    (hs : s.rvStale x = false) (hk : rvKnown x.type.toNat = true) : exec (.parcelReceive p x true) s =
      .next ((s.parcelAcked p x).modRv fun r => { r with inq := r.inq ++ [(p, x)] }) := by
  rw [exec_parcelReceive_up hr hp, if_neg (by simp [hx])]
  refine congrArg Host.Outcome.next ((if_neg ?_).trans (if_pos hk))
  exact Bool.eq_false_iff.mp ((s.parcelAcked_stale p x x).trans hs)

theorem exec_parcelReceive_stale (hr : s.rlvLive = true) (hp : (s.rvPort p).up = true) (hx : x.lseq.toNat = (s.rvPort p).rx)
    (hs : s.rvStale x = true) : exec (.parcelReceive p x true) s = .next (s.parcelAcked p x) := by
  rw [exec_parcelReceive_up hr hp, if_neg (by simp [hx])]
  exact congrArg Host.Outcome.next (if_pos ((s.parcelAcked_stale p x x).trans hs))

/-! ## Resending (R389) -/

theorem exec_linkAck_up {nak : Bool} (hr : s.rlvLive = true) (hp : (s.rvPort p).up = true) (hk : (s.rvPort p).kept = x :: l) :
    exec (.linkAck p nak x.lseq) s = .next
      (if nak then s.resend p (x :: l) else s.modRvPort p fun r => r.keep l s.us) := by
  refine congrArg Host.Outcome.next ((s.when_of _ _ (by rw [hr, hp]; rfl)).trans ?_)
  rw [hk]
  dsimp only
  rw [List.dropWhile_cons_of_neg (by simp), if_neg (List.cons_ne_nil x l), List.drop_one, List.tail_cons]

theorem exec_resendTimeout_due (hr : s.rlvLive = true) (hp : (s.rvPort p).up = true) (hk : (s.rvPort p).kept = x :: l)
    (ht : 100 ≤ s.usSince (s.rvPort p).since) :
    exec (.resendTimeout p) s = .next ((s.report 0 0xC002 (b2n p)).resend p (x :: l)) := by
  refine congrArg Host.Outcome.next ((s.when_of _ _ ?_).trans ?_)
  · simp [hr, hp, hk, ht]
  · rw [hk]

/-- The parcels have gone out again. -/
def State.resentOut (s : State) (p : Bool) (l : List Parcel) : State :=
  l.foldl (fun (s : State) x => s.emit (.parcel p x)) s

theorem State.resentOut_eq (s : State) (p : Bool) (l : List Parcel) :
    s.resentOut p l = { s with outputs := s.outputs ++ l.map fun x => .parcel p x } := by
  induction l generalizing s with
  | nil => simp [State.resentOut]
  | cons x l ih =>
    refine (ih (s.emit (.parcel p x))).trans ?_
    rw [State.emit_outputs, List.append_assoc]
    rfl

/-- The parcels have gone out again, and each has one resend more. -/
def State.resentAll (s : State) (p : Bool) (l : List Parcel) : State :=
  (s.resentOut p l).modRvPort p fun r => r.resent l s.us

theorem State.resentOut_rvPort (s : State) (p q : Bool) (l : List Parcel) : (s.resentOut p l).rvPort q = s.rvPort q :=
  State.rvPort_congr (by rw [State.resentOut_eq]) q

theorem State.resentAll_same (s : State) (p : Bool) (l : List Parcel) :
    (s.resentAll p l).rvPort p = (s.rvPort p).resent l s.us := by
  rw [State.resentAll, State.modRvPort_same, State.resentOut_rvPort]

theorem State.resentAll_outputs (s : State) (p : Bool) (l : List Parcel) :
    (s.resentAll p l).outputs = s.outputs ++ l.map fun x => .parcel p x := by
  change (s.resentOut p l).outputs = _
  rw [State.resentOut_eq]

theorem State.resentAll_rd (s : State) (p : Bool) (l : List Parcel) (n : RegName) (i : Nat) :
    (s.resentAll p l).rd n i = s.rd n i := by
  change (s.resentOut p l).rd n i = _
  rw [State.resentOut_eq]
  rfl

/-- The third resend of a parcel takes the port down. -/
theorem State.resend_eq (s : State) (p : Bool) (x : Parcel) (l : List Parcel) : s.resend p (x :: l) =
    if ((s.rvPort p).resent (x :: l) s.us).spent (x :: l) then (s.resentAll p (x :: l)).portDown p
    else s.resentAll p (x :: l) := by
  have hus : (s.resentOut p (x :: l)).us = s.us := by rw [State.resentOut_eq]; rfl
  rw [← State.resentAll_same, State.resentAll, ← hus]
  exact if_neg (List.cons_ne_nil x l)

end

/-- Settles O45: a port's course by the branches of what arrives on it. -/
theorem ralverLink : Obligations.RalverLink := by
  unfold Obligations.RalverLink
  refine ⟨fun p s hr hp => ⟨_, exec_portUp_down hr hp, ?_⟩,
    fun p s hr hp => ⟨_, exec_portDown_up hr hp, s.portDown_same p, s.portDown_fault p, s.portDown_flag p, fun hloop => ?_,
      fun hloop hup => ?_⟩,
    fun p x s hr hp hx hs hk => ⟨_, exec_parcelReceive_taken hr hp hx hs hk, ?_⟩,
    fun p x s hr hp hx hs => ⟨_, exec_parcelReceive_stale hr hp hx hs, s.parcelAcked_inq p x, s.parcelAcked_outputs p x⟩,
    fun p c x s hr hp hbad hd => ⟨_, exec_parcelReceive_up hr hp, ?_⟩,
    fun p c x s hr hp hbad hd => (exec_parcelReceive_up hr hp).trans (congrArg _ ?_),
    fun p x l s hr hp hk => ⟨_, exec_linkAck_up hr hp hk, ?_⟩,
    fun p x l s hr hp hk hs => ⟨⟨_, exec_linkAck_up hr hp hk, ?_⟩, fun ht => ⟨_, exec_resendTimeout_due hr hp hk ht, ?_⟩⟩,
    fun p x l s hr hp hk hs => ⟨⟨_, exec_linkAck_up hr hp hk, ?_⟩, fun ht => ⟨_, exec_resendTimeout_due hr hp hk ht, ?_⟩⟩⟩
  · have hup : ((s.linkUp p).rvPort p).up = true := by rw [State.linkUp_same]
    rw [State.sendIdent]
    refine ⟨by rw [State.rvSend_up, hup], ?_, ?_, ?_, by rw [State.rvSend_other, State.linkUp_other], ?_⟩
    · rw [State.rvSend_same _ hup, State.linkUp_same]
      rfl
    · rw [State.rvSend_same _ hup, State.linkUp_same]
      rfl
    · exact (State.rvSend_flag _ _ _ (linkBit p) _ (by rw [linkBit_reg]; rfl)).trans (State.showLink_flag _ _ _)
    · refine ⟨_, rfl, ?_, State.rvSend_outputs _ hup⟩
      rw [State.rvSend_same _ hup, RvPort.sent_kept (by rw [State.linkUp_same]; rfl)]
  · rw [State.portDown_eq, if_neg (by simp [hloop]), State.linkLost_outputs]
  · have hup' : ((s.linkLost p).rvPort !p).up = true := by rw [State.linkLost_other, hup]
    refine ⟨((s.linkLost p).rvPort !p).numbered ((s.linkLost p).breakParcel p), rfl, ?_⟩
    rw [State.portDown_eq, if_pos hloop, State.rvSend_outputs _ hup', State.linkLost_outputs]
  · refine ⟨congrArg (· ++ [(p, x)]) (s.parcelAcked_inq p x), ?_, (s.parcelAcked_kept p x).modRv.sameSram, s.parcelAcked_outputs p x⟩
    have hport := State.rvPort_congr (s.parcelAcked_rv p x) p
    rw [State.modRvPort_same] at hport
    rw [← hport]
    cases p <;> rfl
  · rw [if_pos (hbad.imp_left fun h => by rw [h]; rfl), if_neg (by simp [hd])]
    refine ⟨?_, ?_, ?_, ?_⟩
    · rw [State.emit_rv, State.report_rv, State.modRvPort_rv]
    · rw [State.rvPort_congr ((State.emit_rv _ _).trans (State.report_rv _ _ _ _)), State.modRvPort_same]
    · exact State.rvFault_bit _ (b := 1) (source := b2n p) (by decide)
    · rw [State.emit_outputs, State.report_outputs]
      rfl
  · rw [if_pos (hbad.imp_left fun h => by rw [h]; rfl), if_pos hd]
  · rw [if_neg Bool.false_ne_true]
    exact ⟨s.modRvPort_same p _, rfl, s.modRvPort_other p _⟩
  · rw [if_pos rfl, State.resend_eq, if_neg (by simp [hs])]
    exact ⟨s.resentAll_outputs p _, s.resentAll_same p _⟩
  · have hport : (s.report 0 0xC002 (b2n p)).rvPort p = s.rvPort p := State.rvPort_congr (State.report_rv _ _ _ _) p
    have hus : (s.report 0 0xC002 (b2n p)).us = s.us := (RvKept.refl s).report.us
    rw [State.resend_eq, hport, hus, if_neg (by simp [hs])]
    refine ⟨?_, ?_, ?_⟩
    · rw [State.resentAll_outputs, State.report_outputs]
    · rw [State.resentAll_rd]
      exact State.rvFault_bit _ (b := 1) (by decide)
    · rw [State.resentAll_same, hport, hus]
  · rw [if_pos rfl, State.resend_eq, if_pos hs]
    exact ⟨State.portDown_same _ _, State.portDown_fault _ _⟩
  · have hport : (s.report 0 0xC002 (b2n p)).rvPort p = s.rvPort p := State.rvPort_congr (State.report_rv _ _ _ _) p
    have hus : (s.report 0 0xC002 (b2n p)).us = s.us := (RvKept.refl s).report.us
    rw [State.resend_eq, hport, hus, if_pos hs]
    exact State.portDown_same _ _

end Sys2Proof.Machine

namespace Sys2Proof.Machine

/-! # The roll call (R393, R394) -/

section

variable {s : State} {p : Bool} {x : Parcel} {l : List (Bool × Parcel)}

/-! ## The head of the input -/

/-- The parcel at the head of the input has been taken. -/
def State.inqLeft (s : State) (l : List (Bool × Parcel)) : State := s.modRv fun r => { r with inq := l }

theorem State.rvTake_head {typ : Nat} (hr : s.rlvLive = true) (hq : s.rv.inq = (p, x) :: l) (ht : x.type.toNat = typ)
    (f : State → Bool → Parcel → State) : s.rvTake typ f = f (s.inqLeft l) p x := by
  have hhead : s.rvHead typ = some ((p, x), s.inqLeft l) := by
    simp [State.rvHead, hq, ht, hr, State.inqLeft]
  rw [State.rvTake, hhead]

theorem State.inqLeft_kept (s : State) (l : List (Bool × Parcel)) : RvKept s (s.inqLeft l) := (RvKept.refl s).modRv

theorem State.inqLeft_rvPort (s : State) (l : List (Bool × Parcel)) (p : Bool) : (s.inqLeft l).rvPort p = s.rvPort p := rfl

theorem State.rvSend_inq (s : State) (p : Bool) (x : Parcel) : (s.rvSend p x).rv.inq = s.rv.inq := by rw [State.rvSend_rv]

/-! ## IDENT, and a position taken -/

theorem State.rollBegin_sent (s : State) : s.Sends s.rollBegin 0x01 :=
  ((State.Sends.refl (s.setFlag Fld.RV_STATUS_BROKEN 0 false) 0x01).rvSend false rfl).rvSend true rfl

theorem State.rollBegin_kept (s : State) : RvKept s s.rollBegin := ((RvKept.refl s).setFlag rfl).sendIdent false |>.sendIdent true

theorem State.rollBegin_rd (s : State) (n : RegName) (i : Nat) (hc : n.counts = false) :
    s.rollBegin.rd n i = (s.setFlag Fld.RV_STATUS_BROKEN 0 false).rd n i := by
  rw [State.rollBegin, State.sendIdent, State.rvSend_rd _ _ _ _ _ hc, State.sendIdent, State.rvSend_rd _ _ _ _ _ hc]

theorem State.rollBegin_broken (s : State) : s.rollBegin.flag Fld.RV_STATUS_BROKEN 0 = false :=
  (State.flag_congr (s.rollBegin_rd _ 0 rfl)).trans (State.flag_setFlag_same _ _ _ _ (by decide) (by decide))

theorem State.rollBegin_getF (s : State) {f : Field} (hc : f.reg.counts = false) (h : f.lo + f.width ≤ 4 ∨ 5 ≤ f.lo) :
    s.rollBegin.getF f 0 = s.getF f 0 :=
  (State.getF_eq_of_rd (s.rollBegin_rd _ 0 hc)).trans (State.getF_setFlag_apart _ _ _ _ _ _ (by decide) (.inr h))

theorem State.rollBegin_flag (s : State) {f : Field} (hc : f.reg.counts = false) (h : f.lo + f.width ≤ 4 ∨ 5 ≤ f.lo) :
    s.rollBegin.flag f 0 = s.flag f 0 := by rw [State.flag, s.rollBegin_getF hc h, State.flag]

theorem State.rollBegin_up (s : State) (q : Bool) : (s.rollBegin.rvPort q).up = (s.rvPort q).up := by
  rw [State.rollBegin, State.sendIdent, State.rvSend_up, State.sendIdent, State.rvSend_up]
  rfl

theorem State.rollBegin_inq (s : State) : s.rollBegin.rv.inq = s.rv.inq := by
  rw [State.rollBegin, State.sendIdent, State.rvSend_inq, State.sendIdent, State.rvSend_inq]
  rfl

theorem State.rollBegin_silent (hu : (s.rvPort false).up = false) (hd : (s.rvPort true).up = false) :
    s.rollBegin = s.setFlag Fld.RV_STATUS_BROKEN 0 false := by
  have hu' : ((s.setFlag Fld.RV_STATUS_BROKEN 0 false).rvPort false).up = false := hu
  have hd' : ((s.setFlag Fld.RV_STATUS_BROKEN 0 false).rvPort true).up = false := hd
  rw [State.rollBegin, State.sendIdent, State.sendIdent, State.rvSend_down _ hu', State.rvSend_down _ hd']

/-- The part holds a position. -/
def State.placed (s : State) (pos : Nat) : State := (s.setF Fld.RV_STATUS_POSITION 0 pos).setFlag Fld.RV_STATUS_POS_VALID 0 true

theorem State.rollTake_eq (s : State) (pos : Nat) : s.rollTake pos = (s.placed pos).rollBegin := rfl

theorem State.rollTake_sent (s : State) (pos : Nat) : s.Sends (s.rollTake pos) 0x01 := (s.placed pos).rollBegin_sent

theorem State.rollTake_position (s : State) {pos : Nat} (h : pos < 1024) : (s.rollTake pos).getF Fld.RV_STATUS_POSITION 0 = pos := by
  rw [State.rollTake_eq, State.rollBegin_getF _ rfl (.inr (by decide)), State.placed,
    State.getF_setFlag_apart _ _ _ _ _ _ (by decide) (by decide), State.getF_setF_same _ _ _ _ (by decide)]
  exact Nat.mod_eq_of_lt h

theorem State.rollTake_valid (s : State) (pos : Nat) : (s.rollTake pos).flag Fld.RV_STATUS_POS_VALID 0 = true := by
  rw [State.rollTake_eq, State.rollBegin_flag _ rfl (.inl (by decide)), State.placed,
    State.flag_setFlag_same _ _ _ _ (by decide) (by decide)]

theorem State.rollTake_kept (s : State) (pos : Nat) : RvKept s (s.rollTake pos) :=
  (((RvKept.refl s).setF rfl).setFlag rfl).trans (State.rollBegin_kept _)

theorem State.rollTake_up (s : State) (pos : Nat) (q : Bool) : ((s.rollTake pos).rvPort q).up = (s.rvPort q).up :=
  (State.rollBegin_up _ q).trans rfl

theorem State.rollTake_inq (s : State) (pos : Nat) : (s.rollTake pos).rv.inq = s.rv.inq := (State.rollBegin_inq _).trans rfl

/-! ## RV_CMD ROLLCALL -/

theorem exec_rollcall_open {req : Requester} {v : Word} (ho : s.RlvOpen req) (hd : fromDie0 req = true) :
    exec (.rollcall req v) s = .next s.rollCall := by
  have hop : Fld.RV_CMD_OP.of (Fld.RV_CMD_OP.put v 1) = 1 := Field.of_put_same _ _ _ (by decide)
  refine congrArg Host.Outcome.next ((State.rlvAccess_open _ ho).trans ?_)
  rw [State.writeRvCmd, hd, hop]
  rfl

theorem State.rollCall_head (h : (s.rvPort false).up = false ∨ s.flag Fld.RV_CTRL_HEAD 0 = true) : s.rollCall =
    if (s.rvPort true).up then
      (s.rollTake 0).rvSend true ((s.rollTake 0).ownParcel 0x02 0 0 (rollPayload 1 s.deviceId))
    else ((s.rollTake 0).setF Fld.RV_STATUS_COUNT 0 1).setFlag Fld.RV_STATUS_LOOP 0 false := by
  have hhead : ¬ ((s.rvPort false).up = true ∧ (!s.flag Fld.RV_CTRL_HEAD 0) = true) := by
    rcases h with h | h <;> simp [h]
  rw [State.rollCall, if_neg hhead, ← State.rollTake_up s 0 true, ← (s.rollTake_kept 0).deviceId]

/-! ## ROLLDONE -/

/-- The chain's length, and whether it is a loop, are recorded. -/
def State.lengthShown (s : State) (n : Nat) (loop : Bool) : State :=
  (s.setF Fld.RV_STATUS_COUNT 0 n).setFlag Fld.RV_STATUS_LOOP 0 loop

theorem State.rollDone_eq (s : State) (p : Bool) (n : Nat) (loop : Bool) : s.rollDone p n loop =
    (s.lengthShown n loop).rvSend p ((s.lengthShown n loop).ownParcel 0x03 0 0 (beBytes 2 n ++ [BitVec.ofNat 8 (b2n loop), 0])) :=
  rfl

theorem State.lengthShown_rv (s : State) (n : Nat) (loop : Bool) : (s.lengthShown n loop).rv = s.rv :=
  (State.setFlag_rv _ _ _ _).trans (s.setF_rv _ _ _)

theorem State.lengthShown_outputs (s : State) (n : Nat) (loop : Bool) : (s.lengthShown n loop).outputs = s.outputs :=
  (State.setFlag_outputs _ _ _ _).trans (s.setF_outputs _ _ _)

theorem State.lengthShown_rvPort (s : State) (n : Nat) (loop q : Bool) : (s.lengthShown n loop).rvPort q = s.rvPort q :=
  State.rvPort_congr (s.lengthShown_rv n loop) q

theorem State.lengthShown_count (s : State) (n : Nat) (loop : Bool) :
    (s.lengthShown n loop).getF Fld.RV_STATUS_COUNT 0 = n % 2048 := by
  rw [State.lengthShown, State.getF_setFlag_apart _ _ _ _ _ _ (by decide) (by decide), State.getF_setF_same _ _ _ _ (by decide)]
  rfl

theorem State.lengthShown_loop (s : State) (n : Nat) (loop : Bool) :
    (s.lengthShown n loop).flag Fld.RV_STATUS_LOOP 0 = loop := State.flag_setFlag_same _ _ _ _ (by decide) (by decide)

theorem State.lengthShown_getF (s : State) (n : Nat) (loop : Bool) {f : Field}
    (h : f.lo + f.width ≤ 3 ∨ 4 ≤ f.lo ∧ f.lo + f.width ≤ 18) : (s.lengthShown n loop).getF f 0 = s.getF f 0 := by
  rw [State.lengthShown, State.getF_setFlag_apart _ _ _ _ _ _ (by decide) (.inr (h.imp_right And.left)),
    State.getF_setF_apart _ _ _ _ _ _ (by decide) (.inr (.inl (h.elim (fun h => h.trans (by decide)) And.right)))]

theorem State.lengthShown_flag (s : State) (n : Nat) (loop : Bool) {f : Field}
    (h : f.lo + f.width ≤ 3 ∨ 4 ≤ f.lo ∧ f.lo + f.width ≤ 18) : (s.lengthShown n loop).flag f 0 = s.flag f 0 := by
  rw [State.flag, s.lengthShown_getF n loop h, State.flag]

/-! ## The parcels of a roll call -/

theorem exec_rollcallParcel_taken (hr : s.rlvLive = true) (hq : s.rv.inq = (false, x) :: l) (ht : x.type = 0x02) :
    exec .rollcallParcel s = .next
      (if s.flag Fld.RV_CTRL_HEAD 0 = true ∧ sliceB x.payload 4 48 = s.deviceId then
        (s.inqLeft l).rollDone true (ofBe (sliceB x.payload 0 2)) true
      else if 1024 ≤ ofBe (sliceB x.payload 0 2) then
        ((s.inqLeft l).rollBegin.setFlag Fld.RV_STATUS_POS_VALID 0 false).report 0 0xC004 (b2n false)
      else if (s.rvPort true).up then
        ((s.inqLeft l).rollTake (ofBe (sliceB x.payload 0 2))).rvPass (some false)
          { x with payload := rollPayload (ofBe (sliceB x.payload 0 2) + 1) (sliceB x.payload 4 48) }
      else ((s.inqLeft l).rollTake (ofBe (sliceB x.payload 0 2))).rollDone false (ofBe (sliceB x.payload 0 2) + 1) false) := by
  refine congrArg Host.Outcome.next ((State.rvTake_head hr hq (by rw [ht]; rfl) _).trans ((if_neg Bool.false_ne_true).trans ?_))
  rw [← s.inqLeft_rvPort l, ← State.rollTake_up (s.inqLeft l) (ofBe (sliceB x.payload 0 2)) true,
    ← (s.inqLeft_kept l).flag 0 rfl (by decide) (by decide), ← (s.inqLeft_kept l).deviceId]

theorem exec_rolldone_taken (hr : s.rlvLive = true) (hq : s.rv.inq = (p, x) :: l) (ht : x.type = 0x03) :
    exec .rolldone s = .next (((s.inqLeft l).lengthShown (ofBe (sliceB x.payload 0 2)) (bitOf (byteAt x.payload 2).toNat 0)).rvSend (!p)
      { x with hops := x.hops + 1 }) :=
  congrArg Host.Outcome.next (State.rvTake_head hr hq (by rw [ht]; rfl) _)

theorem exec_rvBreak_taken (hr : s.rlvLive = true) (hq : s.rv.inq = (p, x) :: l) (ht : x.type = 0x04) :
    exec .rvBreak s = .next (((s.inqLeft l).setFlag Fld.RV_STATUS_BROKEN 0 true).rvSend (!p) { x with hops := x.hops + 1 }) :=
  congrArg Host.Outcome.next (State.rvTake_head hr hq (by rw [ht]; rfl) _)

end

/-- Settles O46: the head's command and each parcel by its branches; IDENTs go out before. -/
theorem rollCall : Obligations.RollCall := by
  unfold Obligations.RollCall
  refine ⟨fun req v s ho hd hh hup => ⟨_, exec_rollcall_open ho hd, ?_⟩,
    fun req v s ho hd hu hdn => ⟨_, exec_rollcall_open ho hd, ?_⟩,
    fun req v s ho hd hu hh => (exec_rollcall_open ho hd).trans (congrArg _ (if_pos ⟨hu, by rw [hh]; rfl⟩)),
    fun x l n s hr hq ht hh hn hlt => ⟨_, exec_rollcallParcel_taken hr hq ht, ?_⟩,
    fun x l s hr hq ht hh hge => ⟨_, exec_rollcallParcel_taken hr hq ht, ?_⟩,
    fun x l n s hr hq ht hh hid hn => ⟨_, exec_rollcallParcel_taken hr hq ht, ?_⟩,
    fun p x l s hr hq ht => ⟨_, exec_rolldone_taken hr hq ht, ?_⟩,
    fun p x l s hr hq ht => ⟨_, exec_rvBreak_taken hr hq ht, ?_⟩⟩
  · rw [State.rollCall_head hh, if_pos hup]
    have hup' : ((s.rollTake 0).rvPort true).up = true := (s.rollTake_up 0 true).trans hup
    obtain ⟨o, hout, -⟩ := s.rollTake_sent 0
    refine ⟨?_, ?_, ((s.rollTake 0).rvPort true).numbered ((s.rollTake 0).ownParcel 0x02 0 0 (rollPayload 1 s.deviceId)), o, ?_,
      rfl, rfl⟩
    · rw [State.rvSend_getF _ _ _ _ _ rfl, s.rollTake_position (by decide)]
    · rw [State.rvSend_flag _ _ _ _ _ rfl, State.rollTake_valid]
    · rw [State.rvSend_outputs _ hup', hout]
  · rw [State.rollCall_head (.inl hu), if_neg (by rw [hdn]; decide)]
    refine ⟨(State.lengthShown_getF _ 1 false (.inr (by decide))).trans (s.rollTake_position (by decide)),
      State.lengthShown_count _ 1 false, ?_⟩
    rw [State.rollTake_eq, State.rollBegin_silent (s := s.placed 0) hu hdn, State.setFlag_outputs, State.setF_outputs,
      State.setFlag_outputs, State.placed, State.setFlag_outputs, State.setF_outputs]
  · rw [if_neg (by rw [hh]; exact fun h => Bool.false_ne_true h.1), ← hn, if_neg (Nat.not_le.mpr hlt)]
    cases hup : (s.rvPort true).up with
    | true =>
      rw [if_pos rfl, State.rvPass]
      refine ⟨?_, ?_, ?_, ?_, fun h => by cases h⟩
      · rw [State.rvSend_getF _ _ _ _ _ rfl, State.rollTake_position _ hlt]
      · rw [State.rvSend_flag _ _ _ _ _ rfl, State.rollTake_valid]
      · rw [State.rvSend_flag _ _ _ _ _ rfl, State.rollTake_eq, State.rollBegin_broken]
      · rw [State.rvSend_inq, State.rollTake_inq]
        rfl
    | false =>
      rw [if_neg Bool.false_ne_true, State.rollDone_eq]
      refine ⟨?_, ?_, ?_, ?_, fun _ => ⟨?_, ?_⟩⟩
      · rw [State.rvSend_getF _ _ _ _ _ rfl, State.lengthShown_getF _ _ _ (.inr (by decide)), State.rollTake_position _ hlt]
      · rw [State.rvSend_flag _ _ _ _ _ rfl, State.lengthShown_flag _ _ _ (.inl (by decide)), State.rollTake_valid]
      · rw [State.rvSend_flag _ _ _ _ _ rfl, State.lengthShown_flag _ _ _ (.inr (by decide)), State.rollTake_eq,
          State.rollBegin_broken]
      · rw [State.rvSend_inq, State.lengthShown_rv, State.rollTake_inq]
        rfl
      · rw [State.rvSend_getF _ _ _ _ _ rfl, State.lengthShown_count, Nat.mod_eq_of_lt (by omega)]
      · rw [State.rvSend_flag _ _ _ _ _ rfl, State.lengthShown_loop]
  · rw [if_neg (by rw [hh]; exact fun h => Bool.false_ne_true h.1), if_pos hge]
    refine ⟨?_, ?_, State.rvFault_bit _ (b := 3) (source := b2n false) (by decide), ?_⟩
    · rw [State.flag_congr (State.report_rd_plain _ _ _ _ _ _ rfl (by decide)),
        State.flag_setFlag_same _ _ _ _ (by decide) (by decide)]
    · rw [State.flag_congr (State.report_rd_plain _ _ _ _ _ _ rfl (by decide)),
        State.flag_setFlag_apart _ _ _ _ _ _ (by decide) (by decide), State.rollBegin_broken]
    · obtain ⟨o, ho, hall⟩ := (s.inqLeft l).rollBegin_sent
      exact ⟨o, (State.report_outputs _ _ _ _).trans ho, hall⟩
  · rw [if_pos ⟨hh, hid⟩, ← hn, State.rollDone_eq]
    refine ⟨?_, ?_, ?_, fun hup => ?_⟩
    · rw [State.rvSend_getF _ _ _ _ _ rfl, State.lengthShown_count]
    · rw [State.rvSend_flag _ _ _ _ _ rfl, State.lengthShown_loop]
    · rw [State.rvSend_inq, State.lengthShown_rv]
      rfl
    · refine ⟨_, (State.rvSend_outputs _ ?_).trans (by rw [State.lengthShown_outputs]; rfl), rfl, rfl⟩
      rw [State.lengthShown_rvPort]
      exact hup
  · refine ⟨?_, ?_, ?_, fun hup => ?_⟩
    · rw [State.rvSend_getF _ _ _ _ _ rfl, State.lengthShown_count]
    · rw [State.rvSend_inq, State.lengthShown_rv]
      rfl
    · rw [State.rvSend_flag _ _ _ _ _ rfl, State.lengthShown_loop]
    · have hport := (s.inqLeft l).lengthShown_rvPort (ofBe (sliceB x.payload 0 2)) (bitOf (byteAt x.payload 2).toNat 0) (!p)
      rw [State.rvSend_outputs _ (by rw [hport]; exact hup), hport, State.lengthShown_outputs]
      rfl
  · refine ⟨?_, (State.rvSend_inq _ _ _).trans rfl, fun hup => State.rvSend_outputs _ hup⟩
    rw [State.rvSend_flag _ _ _ _ _ rfl, State.flag_setFlag_same _ _ _ _ (by decide) (by decide)]

end Sys2Proof.Machine

namespace Sys2Proof.Machine

/-! # What fuses and records leave of the guard (R317, R410, R418)

A tamper burn, a folio record, a report and the reading of a key slot move the fuse controller, the folio writer and their
registers; of the guard's own state they move the burn alone. `FuseKept` says so once. -/

/-- The registers of the fuse controller and of the folio writer that a burn, a key read and a record may move. -/
def burnRegs : List RegName := [.FO_STATUS, .FU_REGIONS, .FU_COUNTS, .FU_POLICY, .FU_STATUS, .FU_LC]

/-- A tamper burn of the guard moves, and nothing else of its state. -/
def Guard.BurnOnly (g h : Guard) : Prop := h = { g with burn := h.burn }

theorem Guard.BurnOnly.refl (g : Guard) : g.BurnOnly g := rfl

theorem Guard.BurnOnly.of_eq {g h : Guard} (e : h = g) : g.BurnOnly h := by
  rw [e]
  exact .refl g

theorem Guard.BurnOnly.trans {f g h : Guard} (h1 : f.BurnOnly g) (h2 : g.BurnOnly h) : f.BurnOnly h :=
  Eq.trans h2 (by rw [Guard.BurnOnly] at h1; rw [h1])

/-- From `s` to `t` fuses have been read or burnt, records taken, faults reported and events counted. -/
structure FuseKept (s t : State) : Prop where
  rest : t = { s with regs := t.regs, dies := t.dies, fuses := t.fuses, folio := t.folio, guard := t.guard }
  guard : s.guard.BurnOnly t.guard
  generation : ∀ d, (t.die d).generation = (s.die d).generation
  rd : ∀ n i, n.counts = false → n ∉ faultRegs → n ∉ burnRegs → n ≠ .GD_STATUS → t.rd n i = s.rd n i
  status : ∀ f : Field, f.reg = .GD_STATUS → f.lo + f.width ≤ 1 ∨ 2 ≤ f.lo → t.getF f 0 = s.getF f 0
  faults : ∀ b, bitOf (s.rd .GD_FAULT 0).toNat b = true → bitOf (t.rd .GD_FAULT 0).toNat b = true

namespace FuseKept

variable {r s t : State}

theorem refl (s : State) : FuseKept s s :=
  ⟨rfl, rfl, fun _ => rfl, fun _ _ _ _ _ _ => rfl, fun _ _ _ => rfl, fun _ h => h⟩

theorem trans (h1 : FuseKept r s) (h2 : FuseKept s t) : FuseKept r t where
  rest := h2.rest.trans (by rw [h1.rest])
  guard := h1.guard.trans h2.guard
  generation d := (h2.generation d).trans (h1.generation d)
  rd n i hc hf hb hg := (h2.rd n i hc hf hb hg).trans (h1.rd n i hc hf hb hg)
  status f hf hlo := (h2.status f hf hlo).trans (h1.status f hf hlo)
  faults b h := h2.faults b (h1.faults b h)

/-- A step that leaves the registers alone. -/
theorem same (h : FuseKept r s) (hrest : t = { s with fuses := t.fuses, folio := t.folio, guard := t.guard })
    (hg : s.guard.BurnOnly t.guard) : FuseKept r t := by
  have hrd : ∀ n i, t.rd n i = s.rd n i := State.rd_congr (by rw [hrest]) (by rw [hrest])
  exact h.trans ⟨hrest.trans (by rw [hrest]), hg, fun d => by rw [hrest]; rfl, fun n i _ _ _ _ => hrd n i,
    fun f _ _ => State.getF_eq_of_rd (hrd _ _), fun b hb => by rwa [hrd]⟩

theorem modFuses (h : FuseKept r s) {f : Fuses → Fuses} : FuseKept r (s.modFuses f) := h.same rfl rfl

theorem modFolio (h : FuseKept r s) {f : Folio → Folio} : FuseKept r (s.modFolio f) := h.same rfl rfl

theorem burn (h : FuseKept r s) {b : Option (Nat × Nat)} : FuseKept r (s.modGuard fun g => { g with burn := b }) := h.same rfl rfl

/-- A write of a register that a burn may move. -/
theorem wr (h : FuseKept r s) {n : RegName} {i : Nat} {v : Word} (hn : n ∈ burnRegs) : FuseKept r (s.wr n i v) := by
  have hne : ∀ {m : RegName}, m ∉ burnRegs → m ≠ n := fun hm he => hm (he ▸ hn)
  exact h.trans ⟨rfl, rfl, fun _ => rfl, fun m j _ _ hb _ => s.rd_wr_name _ _ _ _ _ (hne hb),
    fun f hf _ => State.getF_wr_apart _ _ _ _ _ _ (hne (by rw [hf]; decide)),
    fun b hb => by rwa [s.rd_wr_name _ _ _ _ _ (hne (by decide))]⟩

theorem setF (h : FuseKept r s) {f : Field} {i x : Nat} (hf : f.reg ∈ burnRegs) : FuseKept r (s.setF f i x) := h.wr hf

theorem setFlag (h : FuseKept r s) {f : Field} {i : Nat} {b : Bool} (hf : f.reg ∈ burnRegs) : FuseKept r (s.setFlag f i b) := h.wr hf

theorem report (h : FuseKept r s) {d code source : Nat} : FuseKept r (s.report d code source) :=
  h.trans ⟨by rw [s.report_rest d code source], Guard.BurnOnly.of_eq (s.report_guard d code source),
    s.report_generation d code source, fun n i hc hf _ _ => s.report_rd_plain d code source n i hc hf,
    fun f hf _ => State.getF_eq_of_rd (s.report_rd_plain d code source _ 0 (by rw [hf]; rfl) (by rw [hf]; decide)),
    fun b hb => s.report_keepsBits d code source _ 0 b rfl hb⟩

theorem count (h : FuseKept r s) {d e n : Nat} : FuseKept r (s.count d e n) := by
  obtain ⟨hrest, hbut, hother, hdie⟩ := s.count_counted d e n
  refine h.trans ⟨by rw [hrest], Guard.BurnOnly.of_eq (s.count_guard d e n), fun x => ?_, fun n i hc _ _ _ => hbut n i hc,
    fun f hf _ => State.getF_eq_of_rd (hbut _ 0 (by rw [hf]; rfl)), fun b hb => by rwa [hbut _ 0 rfl]⟩
  by_cases hx : x = d
  · rw [hx, hdie]
  · rw [hother x hx]

theorem ite {c : Prop} [Decidable c] (h1 : FuseKept r s) (h2 : FuseKept r t) : FuseKept r (if c then s else t) := by
  split
  · exact h1
  · exact h2

theorem append (h : FuseKept r s) {typ : Nat} {body : List Byte} : FuseKept r (s.append typ body) :=
  State.append_keeps (P := FuseKept r) (fun _ _ h => h.modFolio) (fun _ _ _ hf h => h.setF (by rw [hf]; decide))
    (fun _ h => h.report) h typ body

/-- EPOCH_DONE sets. -/
theorem epochDone (h : FuseKept r s) {b : Bool} : FuseKept r (s.setFlag Fld.GD_STATUS_EPOCH_DONE 0 b) :=
  h.trans ⟨rfl, rfl, fun _ => rfl, fun _ _ _ _ _ hg => State.rd_setFlag _ _ _ _ _ _ hg,
    fun _ _ hlo => State.getF_setFlag_apart _ _ _ _ _ _ (by decide) (.inr hlo),
    fun b hb => by rwa [State.rd_setFlag _ _ _ _ _ _ (by decide)]⟩

/-! ## Fuse runs (R317) -/

theorem setRegion (h : FuseKept r s) {k v : Nat} : FuseKept r (s.setRegion k v) := h.wr (by decide)

theorem degrade (h : FuseKept r s) {k : Nat} {c : Bool} : FuseKept r (s.degrade k c) := ite h.setRegion h

theorem fuseFault (h : FuseKept r s) {code d row : Nat} : FuseKept r (s.fuseFault code d row) := h.report

theorem voteFaults (h : FuseKept r s) {v : Vote} {row : Nat} : FuseKept r (s.voteFaults v row) :=
  ite (fuseFault (ite h.fuseFault h)) (ite h.fuseFault h)

theorem loadRevoked (h : FuseKept r s) : FuseKept r s.loadRevoked := (h.voteFaults.setF (by decide)).degrade

theorem loadRollback (h : FuseKept r s) : FuseKept r s.loadRollback := (h.voteFaults.setF (by decide)).degrade

theorem loadTamper (h : FuseKept r s) : FuseKept r s.loadTamper := (h.voteFaults.setF (by decide)).degrade

theorem showSpares (h : FuseKept r s) : FuseKept r s.showSpares := (h.setF (by decide)).setFlag (by decide)

theorem burnEnds (h : FuseKept r s) {kind : Nat} : FuseKept r (s.burnEnds kind) := by
  unfold State.burnEnds
  split
  · exact h
  · exact ite (append (epochDone h.burn)) (report (append h.burn))

theorem fuseEnds (h : FuseKept r s) {result : Nat} : FuseKept r (s.fuseEnds result) := by
  unfold State.fuseEnds
  split
  · exact h
  · exact ite h.modFuses.burnEnds (((h.modFuses.setFlag (by decide)).setFlag (by decide)).setF (by decide))

theorem fuseFinish (h : FuseKept r s) {x : FuseRun} : FuseKept r (s.fuseFinish x) := by
  unfold State.fuseFinish
  split
  · exact ite h.setRegion h
  · exact h.loadRollback
  · exact h.loadTamper
  · exact h.loadRevoked
  · exact h.setF (by decide)
  · exact h

theorem fuseGo (h : FuseKept r s) : FuseKept r s.fuseGo := by
  unfold State.fuseGo
  split
  · exact h
  · refine ite (showSpares (fuseEnds (fuseFinish ?done))) (ite (fuseEnds (fuseFault ?done)) (modFuses ?done))
    exact List.foldlRecOn _ _ h fun _ hs _ _ => hs.fuseFault

theorem fuseStartRun (h : FuseKept r s) {x : FuseRun} : FuseKept r (s.fuseStartRun x) :=
  fuseGo (ite h.modFuses (h.modFuses.setFlag (by decide)))

theorem tamperGo (h : FuseKept r s) : FuseKept r s.tamperGo := by
  unfold State.tamperGo
  split
  · exact ite h.modFuses.burnEnds (ite h.modFuses.fuseFault.burnEnds (ite h.modFuses.burnEnds h.modFuses.fuseStartRun))
  · exact h

theorem tamperStart (h : FuseKept r s) {k : Nat} : FuseKept r (s.tamperStart k) := ite h h.burn.modFuses.tamperGo

theorem guardRecord (h : FuseKept r s) {k merged : Nat} : FuseKept r (s.guardRecord k merged) := h.append

/-! ## Reading the keys of a token (R304) -/

theorem keySlotRead (h : FuseKept r s) {k : Nat} : FuseKept r (s.keySlotRead k) := ite h.count.fuseFault.degrade h.count

theorem revokedRead (h : FuseKept r s) : FuseKept r s.revokedRead := by
  unfold State.revokedRead State.demandRead
  dsimp only
  split
  · exact h.count.fuseFault.degrade
  · exact h.count

theorem sigReads (h : FuseKept r s) {c : List Byte} {mfg : Bool} : FuseKept r (s.sigReads c mfg) := by
  unfold State.sigReads
  split
  · exact h
  · refine ite ?read (count ?read)
    refine ite (revokedRead ?slots) ?slots
    refine ite (keySlotRead ?first) ?first
    exact ite h.keySlotRead h

/-! ## What it says of the guard -/

theorem sameSram (h : FuseKept s t) : s.SameSram t :=
  State.sameSram_of (by rw [h.rest]) h.generation (h.rd .BT_LOCK 0 rfl (by decide) (by decide) (by decide))

theorem getF (h : FuseKept s t) {f : Field} (i : Nat) (hc : f.reg.counts = false) (hf : f.reg ∉ faultRegs) (hb : f.reg ∉ burnRegs)
    (hg : f.reg ≠ .GD_STATUS) : t.getF f i = s.getF f i := State.getF_eq_of_rd (h.rd _ i hc hf hb hg)

theorem flag (h : FuseKept s t) {f : Field} (i : Nat) (hc : f.reg.counts = false) (hf : f.reg ∉ faultRegs) (hb : f.reg ∉ burnRegs)
    (hg : f.reg ≠ .GD_STATUS) : t.flag f i = s.flag f i := State.flag_congr (h.rd _ i hc hf hb hg)

theorem locked (h : FuseKept s t) : t.flag Fld.GD_STATUS_LOCKED 0 = s.flag Fld.GD_STATUS_LOCKED 0 := by
  rw [State.flag, h.status _ rfl (.inl (by decide)), State.flag]

theorem outputs (h : FuseKept s t) : t.outputs = s.outputs := by rw [h.rest]
theorem keys (h : FuseKept s t) : t.keys = s.keys := by rw [h.rest]
theorem sram (h : FuseKept s t) : t.sram = s.sram := by rw [h.rest]
theorem latched (h : FuseKept s t) : t.guard.latched = s.guard.latched := by rw [h.guard]
theorem windows (h : FuseKept s t) : t.guard.windows = s.guard.windows := by rw [h.guard]
theorem nonce (h : FuseKept s t) : t.guard.nonce = s.guard.nonce := by rw [h.guard]
theorem resetDue (h : FuseKept s t) : t.guard.resetDue = s.guard.resetDue := by rw [h.guard]

end FuseKept

/-- A fault of the guard sets its bit of GD_FAULT (Table 6.7). -/
theorem State.guardFault_bit (s : State) {b source : Nat} (hb : b < 9) :
    bitOf ((s.report 0 (0xB001 + b) source).rd .GD_FAULT 0).toNat b = true := by
  have hbit : faultBit 0 (0xB001 + b) source = some (.GD_FAULT, 0, b) := by
    obtain rfl | rfl | rfl | rfl | rfl | rfl | rfl | rfl | rfl :
      b = 0 ∨ b = 1 ∨ b = 2 ∨ b = 3 ∨ b = 4 ∨ b = 5 ∨ b = 6 ∨ b = 7 ∨ b = 8 := by omega
    all_goals rfl
  rw [State.report_bit _ _ _ _ .GD_FAULT 0 b rfl hbit]
  exact bitOf_or_twoPow _ (by omega)

/-! # HOLD and lockdown (R412) -/

/-- HOLD has been set on every line. -/
def State.linesHeld (s : State) : State := s.forEach (List.range 32) fun s k => s.setFlag Fld.RP_LINE_HOLD k true

theorem State.linesHeld_hold (s : State) {j : Nat} (hj : j < 32) : s.linesHeld.flag Fld.RP_LINE_HOLD j = true := by
  refine foldl_establishes (inv := fun _ => True) (goal := fun t : State => t.flag Fld.RP_LINE_HOLD j = true) (x := j)
    (fun _ _ _ => trivial) ?_ ?_ (List.mem_range.mpr hj) trivial
  · exact fun t _ => State.flag_setFlag_same _ _ _ _ (by decide) (by decide)
  · intro t k _ h
    by_cases hk : k = j
    · rw [hk]
      exact State.flag_setFlag_same _ _ _ _ (by decide) (by decide)
    · rw [State.flag, State.setFlag, State.getF_setF_other _ _ _ _ _ _ (by decide) (.inr (.inl (Ne.symm hk)))]
      exact h

theorem State.linesHeld_onlyRegs (s : State) : s.OnlyRegs s.linesHeld fun n _ => decide (n = .RP_LINE) :=
  List.foldlRecOn (motive := fun t : State => s.OnlyRegs t fun n _ => decide (n = .RP_LINE)) _ _ (State.OnlyRegs.refl s _)
    fun _ h _ _ => h.setFlag rfl

/-- A lockdown of a part that is not locked: LOCKED, a record, the record's SEQ and a report. -/
theorem State.lockdown_open {s : State} (h : s.flag Fld.GD_STATUS_LOCKED 0 = false) (cause : Nat) : s.lockdown cause =
    ((((s.setFlag Fld.GD_STATUS_LOCKED 0 true).append 0x07 (padTo 16 [BitVec.ofNat 8 cause])).modFolio
      fun f => { f with lockSeq := s.folio.next }).report 0 0xB004 0) := if_neg (by simp [h])

/-- Beside LOCKED, a lockdown takes a record and reports. -/
theorem State.lockdown_kept (s : State) (cause : Nat) : FuseKept (s.setFlag Fld.GD_STATUS_LOCKED 0 true) (s.lockdown cause) ∨
    s.flag Fld.GD_STATUS_LOCKED 0 = true ∧ s.lockdown cause = s := by
  cases h : s.flag Fld.GD_STATUS_LOCKED 0 with
  | false =>
    rw [State.lockdown_open h]
    exact .inl (FuseKept.refl _).append.modFolio.report
  | true => exact .inr ⟨rfl, if_pos h⟩

theorem State.lockdown_locked (s : State) (cause : Nat) : (s.lockdown cause).flag Fld.GD_STATUS_LOCKED 0 = true := by
  rcases s.lockdown_kept cause with h | ⟨h, he⟩
  · rw [h.locked, State.flag_setFlag_same _ _ _ _ (by decide) (by decide)]
  · rw [he, h]

end Sys2Proof.Machine

namespace Sys2Proof.Machine

/-! # Lockdown and unlock (R412 to R414) -/

section

variable {s t : State} {req : Requester} {v : Word} {l : Stores}

/-! ## GD_CMD -/

theorem exec_gdLock_open (h : s.PlatOpen req) (hd : fromDie0 req = true) : exec (.gdLock req v) s = .next s.gdLock := by
  have hop : Fld.GD_CMD_OP.of (Fld.GD_CMD_OP.put v 2) = 2 := Field.of_put_same _ _ _ (by decide)
  refine congrArg Host.Outcome.next ((State.platAccess_open _ h).trans ?_)
  rw [State.writeGdCmd, hd, hop]
  rfl

theorem exec_gdUnlock_open (h : s.PlatOpen req) (hd : fromDie0 req = true) :
    exec (.gdUnlock req v l) s = .next (s.stores l).gdUnlock := by
  have hop : Fld.GD_CMD_OP.of (Fld.GD_CMD_OP.put v 1) = 1 := Field.of_put_same _ _ _ (by decide)
  refine congrArg Host.Outcome.next ((State.platAccess_open _ h).trans ?_)
  rw [State.writeGdCmd, hd, hop]
  rfl

theorem State.gdDone_done (s : State) (r : Nat) : (s.gdDone r).flag Fld.GD_CMD_STATUS_DONE 0 = true := by
  rw [State.gdDone, State.flag_setF_apart _ _ _ _ _ _ (by decide) (by decide), State.flag_setFlag_same _ _ _ _ (by decide) (by decide)]

theorem State.gdDone_result (s : State) (r : Nat) : (s.gdDone r).getF Fld.GD_CMD_STATUS_RESULT 0 = r % 16 :=
  State.getF_setF_same _ _ _ _ (by decide)

theorem State.gdDone_onlyRegs (s : State) (r : Nat) : s.OnlyRegs (s.gdDone r) fun n _ => decide (n = .GD_CMD_STATUS) :=
  ((State.OnlyRegs.refl s _).setFlag rfl).setF rfl

theorem State.gdDone_flag (s : State) (r : Nat) (f : Field) (i : Nat) (h : f.reg ≠ .GD_CMD_STATUS) :
    (s.gdDone r).flag f i = s.flag f i := State.flag_congr ((s.gdDone_onlyRegs r).2 _ i (decide_eq_false h))

/-- Registers other than BT_LOCK's do not tell of core SRAM. -/
theorem State.OnlyRegs.sameSram {p : RegName → Nat → Bool} (h : s.OnlyRegs t p) (hp : p .BT_LOCK 0 = false) : s.SameSram t :=
  State.sameSram_of (by rw [h.1]) (fun d => by rw [h.1]; rfl) (h.2 _ _ hp)

theorem State.SameSram.trans {u : State} (h1 : s.SameSram t) (h2 : t.SameSram u) : s.SameSram u := fun d a =>
  (h2 d a).trans (h1 d a)

/-! ## LOCK -/

/-- The leases whose plans name a line have been marked, and LOCKED set. -/
def State.lockShown (s : State) : State := (s.mark (s.lineChannels 0xFFFFFFFF)).setFlag Fld.GD_STATUS_LOCKED 0 true

/-- The lockdown of a LOCK command. -/
theorem State.gdLock_open (h : s.flag Fld.GD_STATUS_LOCKED 0 = false) : s.gdLock =
    (((s.lockShown.append 0x07 (padTo 16 [BitVec.ofNat 8 0x80])).modFolio fun f => { f with lockSeq := s.folio.next }).report 0
      0xB004 0).gdDone 0 := by
  have hmark : (s.mark (s.lineChannels 0xFFFFFFFF)).flag Fld.GD_STATUS_LOCKED 0 = false := h
  rw [State.gdLock, if_neg (by simp [h]), State.lockdown_open hmark]
  rfl

theorem State.lockShown_locked (s : State) : s.lockShown.flag Fld.GD_STATUS_LOCKED 0 = true :=
  State.flag_setFlag_same _ _ _ _ (by decide) (by decide)

theorem State.lockShown_sameSram (s : State) : s.SameSram s.lockShown :=
  ((State.OnlyRegs.refl (s.mark (s.lineChannels 0xFFFFFFFF)) fun n _ => decide (n = .GD_STATUS)).setFlag rfl).sameSram rfl

/-! ## UNLOCK -/

/-- The token at GD_ARG. -/
def State.unlockToken (s : State) : List Byte := s.sramBytes 0 (s.rd .GD_ARG 0).toNat 8192

/-- The token's keys have been read where the check comes to them, and the nonce is void. -/
def State.tokenRead (s : State) : State :=
  (if s.identity ∧ s.flag Fld.GD_STATUS_LOCKED 0 ∧ s.unlockRefusal s.unlockToken ≠ some 3 then s.sigReads s.unlockToken false
    else s).modGuard fun g => { g with nonce := none }

theorem State.gdUnlock_refused {x : Nat} (h : s.unlockRefusal s.unlockToken = some x) :
    s.gdUnlock = s.tokenRead.gdReject.gdDone x := by
  rw [State.unlockToken] at h
  unfold State.gdUnlock State.tokenRead State.unlockToken
  dsimp only
  rw [h]

/-- The part has left lockdown, with every line's HOLD set. -/
def State.unlocked (s : State) : State := s.tokenRead.linesHeld.setFlag Fld.GD_STATUS_LOCKED 0 false

theorem State.gdUnlock_taken (h : s.unlockRefusal s.unlockToken = none) :
    ∃ b, s.gdUnlock = (s.unlocked.append 0x08 b).gdDone 0 := by
  refine ⟨hashOf s.unlockToken ++ beBytes 4 s.tokenRead.folio.lockSeq ++ List.replicate 12 0, ?_⟩
  rw [State.unlockToken] at h
  unfold State.gdUnlock State.unlocked State.tokenRead State.unlockToken
  dsimp only
  rw [h]
  rfl

theorem State.tokenRead_nonce (s : State) : s.tokenRead.guard.nonce = none := rfl

theorem State.tokenRead_sram (s : State) : s.tokenRead.sram = s.sram := by
  have hreads : FuseKept s (if s.identity ∧ s.flag Fld.GD_STATUS_LOCKED 0 ∧ s.unlockRefusal s.unlockToken ≠ some 3 then
      s.sigReads s.unlockToken false else s) := (FuseKept.refl s).sigReads.ite (FuseKept.refl s)
  exact hreads.sram

theorem State.tokenRead_locked (s : State) :
    s.tokenRead.flag Fld.GD_STATUS_LOCKED 0 = s.flag Fld.GD_STATUS_LOCKED 0 := by
  have hreads : FuseKept s (if s.identity ∧ s.flag Fld.GD_STATUS_LOCKED 0 ∧ s.unlockRefusal s.unlockToken ≠ some 3 then
      s.sigReads s.unlockToken false else s) := (FuseKept.refl s).sigReads.ite (FuseKept.refl s)
  exact hreads.locked

theorem State.unlocked_sram (s : State) : s.unlocked.sram = s.sram := by
  have hheld : s.tokenRead.linesHeld.sram = s.tokenRead.sram := by rw [s.tokenRead.linesHeld_onlyRegs.1]
  rw [State.unlocked, State.setFlag_sram, hheld, State.tokenRead_sram]

theorem State.unlocked_nonce (s : State) : s.unlocked.guard.nonce = none := by
  have hheld : s.tokenRead.linesHeld.guard = s.tokenRead.guard := by rw [s.tokenRead.linesHeld_onlyRegs.1]
  rw [State.unlocked, State.setFlag_guard, hheld, State.tokenRead_nonce]

theorem State.unlocked_hold (s : State) {j : Nat} (hj : j < 32) : s.unlocked.flag Fld.RP_LINE_HOLD j = true := by
  rw [State.unlocked, State.flag_setFlag_apart _ _ _ _ _ _ (by decide) (by decide), State.linesHeld_hold _ hj]

/-- UNLOCK leaves lockdown exactly where its token passes. -/
theorem State.gdUnlock_spec (s : State) : s.gdUnlock.guard.nonce = none ∧ s.gdUnlock.sram = s.sram ∧
    s.gdUnlock.flag Fld.GD_CMD_STATUS_DONE 0 = true ∧
    s.gdUnlock.getF Fld.GD_CMD_STATUS_RESULT 0 = (s.unlockRefusal s.unlockToken).getD 0 % 16 ∧
    s.gdUnlock.flag Fld.GD_STATUS_LOCKED 0 = (s.flag Fld.GD_STATUS_LOCKED 0 && (s.unlockRefusal s.unlockToken).isSome) ∧
    (s.unlockRefusal s.unlockToken = none → ∀ j, j < 32 → s.gdUnlock.flag Fld.RP_LINE_HOLD j = true) := by
  cases h : s.unlockRefusal s.unlockToken with
  | some x =>
    rw [State.gdUnlock_refused h]
    refine ⟨?_, ?_, State.gdDone_done _ _, State.gdDone_result _ _, ?_, fun h => nomatch h⟩
    · rw [(State.gdDone_onlyRegs _ _).1]
      exact (congrArg Guard.nonce (State.report_guard _ _ _ _)).trans s.tokenRead_nonce
    · rw [(State.gdDone_onlyRegs _ _).1]
      exact (State.report_sram _ _ _ _).trans s.tokenRead_sram
    · rw [State.gdDone_flag _ _ _ _ (by decide), State.gdReject, (FuseKept.refl s.tokenRead).report.locked, State.tokenRead_locked]
      exact (Bool.and_true _).symm
  | none =>
    obtain ⟨b, he⟩ := State.gdUnlock_taken h
    have happ : FuseKept s.unlocked (s.unlocked.append 0x08 b) := (FuseKept.refl _).append
    rw [he]
    refine ⟨?_, ?_, State.gdDone_done _ _, State.gdDone_result _ _, ?_, fun _ j hj => ?_⟩
    · rw [(State.gdDone_onlyRegs _ _).1]
      exact happ.nonce.trans s.unlocked_nonce
    · rw [(State.gdDone_onlyRegs _ _).1]
      exact happ.sram.trans s.unlocked_sram
    · rw [State.gdDone_flag _ _ _ _ (by decide), happ.locked, State.unlocked, State.flag_setFlag_same _ _ _ _ (by decide) (by decide)]
      exact (Bool.and_false _).symm
    · rw [State.gdDone_flag _ _ _ _ (by decide), happ.flag _ rfl (by decide) (by decide) (by decide), State.unlocked_hold _ hj]

theorem State.unlockRefusal_noIdentity {c : List Byte} (h : s.identity = false) : s.unlockRefusal c = some 1 := by
  simp [State.unlockRefusal, h]

theorem State.unlockRefusal_notLocked {c : List Byte} (h : s.identity = true) (hl : s.flag Fld.GD_STATUS_LOCKED 0 = false) :
    s.unlockRefusal c = some 2 := by
  simp [State.unlockRefusal, h, hl]

/-! ## The nonce -/

/-- A nonce has been captured. -/
def State.unlockNonceDrawn (s : State) : State :=
  s.draw.2.modGuard fun g => { g with nonce := some (sliceB (digestOf s.draw.1) 0 32) }

theorem exec_unlockNonceRead_open (h : s.PlatOpen req) : exec (.unlockNonceRead req) s = .next (State.answer s.readUnlockNonce) :=
  congrArg Host.Outcome.next (State.platAccess_open _ h)

theorem State.readUnlockNonce_state (s : State) : s.readUnlockNonce.2 =
    s.unlockNonceDrawn.putBytes .GD_UNLOCK_NONCE 0 8 (sliceB (digestOf s.draw.1) 0 32) := rfl

theorem State.readUnlockNonce_rest (s : State) : ∃ f, s.readUnlockNonce.2 = { s.unlockNonceDrawn with regs := f } :=
  State.putBytes_regs s.unlockNonceDrawn _ _ _ _

theorem State.readUnlockNonce_guard (s : State) :
    s.readUnlockNonce.2.guard = { s.guard with nonce := some (sliceB (digestOf s.draw.1) 0 32) } := by
  obtain ⟨f, hf⟩ := s.readUnlockNonce_rest
  rw [hf]
  rfl

theorem State.readUnlockNonce_outputs (s : State) : s.readUnlockNonce.2.outputs = s.outputs := by
  obtain ⟨f, hf⟩ := s.readUnlockNonce_rest
  rw [hf]
  rfl

theorem State.readUnlockNonce_word (s : State) :
    s.readUnlockNonce.1 = BitVec.ofNat 32 (ofLe (sliceB (digestOf s.draw.1) 0 4)) := by
  have hword := s.unlockNonceDrawn.putBytes_rd .GD_UNLOCK_NONCE 0 (sliceB (digestOf s.draw.1) 0 32) (words := 8) (k := 0) (by decide)
  rw [Nat.mul_zero, Nat.add_zero, sliceB_prefix _ (by decide)] at hword
  have hread : s.readUnlockNonce.1 = s.readUnlockNonce.2.rd .GD_UNLOCK_NONCE 0 := by
    unfold State.readUnlockNonce
    dsimp only
  rw [hread, s.readUnlockNonce_state, hword]

theorem State.readUnlockNonce_sameSram (s : State) : s.SameSram s.readUnlockNonce.2 := by
  have hlock : s.readUnlockNonce.2.rd .BT_LOCK 0 = s.rd .BT_LOCK 0 := State.putBytes_rd_other _ 0 8 _ 0 (by decide)
  obtain ⟨f, hf⟩ := s.readUnlockNonce_rest
  exact State.sameSram_of (by rw [hf]; rfl) (fun d => by rw [hf]; rfl) hlock

end

/-- Settles O50: LOCK by the lockdown it makes, UNLOCK by its token's refusal. -/
theorem lockdown : Obligations.Lockdown := by
  unfold Obligations.Lockdown
  refine ⟨fun req v s ho hd hl => ⟨_, exec_gdLock_open ho hd, ?_⟩,
    fun req v s ho hd hl => (exec_gdLock_open ho hd).trans (congrArg _ (if_pos hl)),
    fun req v l s ho hd => ⟨_, exec_gdUnlock_open ho hd, ?_⟩,
    fun req v l s ho hd => ⟨fun hid => ⟨_, exec_gdUnlock_open ho hd, ?_⟩, fun hid hl => ⟨_, exec_gdUnlock_open ho hd, ?_⟩⟩,
    fun req s ho => ⟨_, exec_unlockNonceRead_open ho, ?_⟩,
    fun req v l s ho hd => ⟨?_, ?_, ?_, ?_⟩⟩
  · have hkept : FuseKept s.lockShown (((s.lockShown.append 0x07 (padTo 16 [BitVec.ofNat 8 0x80])).modFolio
        fun f => { f with lockSeq := s.folio.next }).report 0 0xB004 0) := (FuseKept.refl _).append.modFolio.report
    rw [State.gdLock_open hl]
    refine ⟨?_, ?_, ?_, State.gdDone_done _ _, State.gdDone_result _ _, ?_, ?_⟩
    · rw [State.gdDone_flag _ _ _ _ (by decide), hkept.locked, State.lockShown_locked]
    · rw [(State.gdDone_onlyRegs _ _).2 .GD_FAULT 0 rfl]
      exact State.guardFault_bit _ (b := 3) (source := 0) (by decide)
    · rw [(State.gdDone_onlyRegs _ _).1]
      exact congrArg Folio.lockSeq (State.report_folio _ _ _ _)
    · exact (s.lockShown_sameSram.trans hkept.sameSram).trans ((State.gdDone_onlyRegs _ _).sameSram rfl)
    · have hdone : ∀ (t : State) (r : Nat), (t.gdDone r).outputs = t.outputs := fun _ _ => rfl
      rw [hdone, hkept.outputs]
      rfl
  · have hspec := (s.stores l).gdUnlock_spec
    rw [State.unlockToken, State.stores_rd, State.flag_congr (f := Fld.GD_STATUS_LOCKED) (s.stores_rd l .GD_STATUS 0)] at hspec
    exact hspec
  · obtain ⟨-, -, -, hres, hlock, -⟩ := (s.stores l).gdUnlock_spec
    rw [State.unlockRefusal_noIdentity ((s.stores_identity l).trans hid)] at hres hlock
    exact ⟨hres, hlock.trans ((Bool.and_true _).trans (State.flag_congr (s.stores_rd l .GD_STATUS 0)))⟩
  · obtain ⟨-, -, -, hres, -, -⟩ := (s.stores l).gdUnlock_spec
    rwa [State.unlockRefusal_notLocked ((s.stores_identity l).trans hid)
      ((State.flag_congr (s.stores_rd l .GD_STATUS 0)).trans hl)] at hres
  · refine ⟨?_, s.readUnlockNonce_sameSram.emit _, ?_⟩
    · rw [State.answer, State.emit_guard, s.readUnlockNonce_guard]
    · rw [State.answer, State.emit_outputs, s.readUnlockNonce_outputs, s.readUnlockNonce_word]
  all_goals
    refine congrArg Host.Outcome.next ((State.platAccess_open _ ho).trans (if_pos ?_))
    rw [hd]
    rfl

end Sys2Proof.Machine

namespace Sys2Proof.Machine

/-! # The latch of a source (R404 to R406, R409) -/

section

variable {s t : State} {k : Nat}

theorem State.mem_iff {x : Nat} {l : List Nat} : mem x l = true ↔ x ∈ l := by simp [mem]

/-- The latch takes another event. -/
def State.latch (s : State) (k : Nat) : State := { s with guard := { s.guard with latched := s.guard.latched ++ [k] } }

theorem State.fire_latches (hp : s.sourcePresent k = true) (ha : s.seq.aonHeld = false)
    (h : s.takable k = true ∨ k ∉ s.guard.latched) : s.fire k = s.latch k := by
  refine if_pos ⟨hp, by rw [ha]; rfl, h.imp_right fun h => ?_⟩
  rw [Bool.eq_false_iff.mpr fun hm => h (State.mem_iff.mp hm)]
  rfl

theorem State.fire_again (hl : k ∈ s.guard.latched) (ht : s.takable k = false) : s.fire k = s := by
  refine if_neg ?_
  rw [ht, State.mem_iff.mpr hl]
  simp

/-! ## A PSNS level (R406) -/

/-- The filtered level of line p, and the raw one, have changed. -/
def State.psnsShown (s : State) (p : Nat) (b : Bool) : State :=
  (s.setF Fld.GD_PSNS_FILTERED 0 (setBits (s.getF Fld.GD_PSNS_FILTERED 0) p 1 (b2n b))).setF Fld.GD_PSNS_RAW 0
    (setBits (s.getF Fld.GD_PSNS_RAW 0) p 1 (b2n b))

theorem exec_psnsChange_same {p : Fin 16} {b : Bool} (h : bitOf (s.getF Fld.GD_PSNS_FILTERED 0) p.val = b) :
    exec (.psnsChange p b) s = .next s :=
  congrArg Host.Outcome.next (State.when_off (by rw [h, bne_self_eq_false]))

/-- The gates that watch a level arm. -/
def State.levelsArm (s : State) : State := s.when s.platLive fun s => s.forEach (List.range 32) fun s g => s.gateArm g

/-- The source of line p fires at its active level. -/
def State.levelFires (s : State) (p : Nat) (b : Bool) : State :=
  if b = s.flag Fld.GD_SRC_CFG_ACT_LVL (72 + p) ∧ s.flag Fld.GD_SRC_CFG_ENABLE (72 + p) then s.fire (72 + p) else s

theorem State.psnsShown_rd {n : RegName} (s : State) (p : Nat) (b : Bool) (i : Nat) (hn : n ≠ .GD_PSNS) :
    (s.psnsShown p b).rd n i = s.rd n i := by
  rw [State.psnsShown, State.rd_setF _ _ _ _ _ _ hn, State.rd_setF _ _ _ _ _ _ hn]

theorem State.psnsShown_guard (s : State) (p : Nat) (b : Bool) : (s.psnsShown p b).guard = s.guard :=
  (State.setF_guard _ _ _ _).trans (s.setF_guard _ _ _)

theorem State.psnsShown_seq (s : State) (p : Nat) (b : Bool) : (s.psnsShown p b).seq = s.seq :=
  (State.setF_seq _ _ _ _).trans (s.setF_seq _ _ _)

theorem exec_psnsChange_other {p : Fin 16} {b : Bool} (h : bitOf (s.getF Fld.GD_PSNS_FILTERED 0) p.val ≠ b) :
    exec (.psnsChange p b) s = .next ((s.psnsShown p.val b).levelFires p.val b).levelsArm := by
  exact congrArg Host.Outcome.next (s.when_of _ _ (bne_iff_ne.mpr h))

theorem State.levelsArm_onlyRegs (s : State) : s.OnlyRegs s.levelsArm fun n _ => decide (n = .PG_STATUS) := by
  unfold State.levelsArm State.when
  split
  · refine List.foldlRecOn (motive := fun t : State => s.OnlyRegs t fun n _ => decide (n = .PG_STATUS)) _ _ (.refl s _) ?_
    intro t h g _
    unfold State.gateArm
    split
    · exact h.setFlag rfl
    · exact h
  · exact .refl s _

theorem State.levelsArm_guard (s : State) : s.levelsArm.guard = s.guard := by rw [s.levelsArm_onlyRegs.1]

/-- A fired source changes the latch alone. -/
theorem State.fire_rd (s : State) (k : Nat) (n : RegName) (i : Nat) : (s.fire k).rd n i = s.rd n i := by
  unfold State.fire
  split <;> rfl

theorem State.levelFires_rd (s : State) (p : Nat) (b : Bool) (n : RegName) (i : Nat) : (s.levelFires p b).rd n i = s.rd n i := by
  unfold State.levelFires
  split
  · exact s.fire_rd _ _ _
  · rfl

/-- Only the changed line's filtered level moves. -/
theorem State.psnsShown_level (s : State) (p : Fin 16) (b : Bool) {j : Nat} (hj : j < 16) :
    bitOf ((s.psnsShown p b).getF Fld.GD_PSNS_FILTERED 0) j = if j = p.val then b else bitOf (s.getF Fld.GD_PSNS_FILTERED 0) j := by
  rw [State.psnsShown, State.getF_setF_apart _ _ _ _ _ _ (by decide) (by decide), State.getF_setF_same _ _ _ _ (by decide)]
  change (setBits _ _ _ _ % 2 ^ 16).testBit j = _
  rw [Nat.testBit_mod_two_pow, testBit_setBits, decide_eq_true hj, Bool.true_and]
  by_cases h : j = p.val
  · rw [if_pos (by omega), if_pos h, h, Nat.sub_self]
    cases b <;> rfl
  · rw [if_neg (by omega), if_neg h]
    rfl

theorem sourceDie_package (h : 64 ≤ k) : sourceDie k = none := if_neg (by omega)

theorem State.sourcePresent_package (s : State) (h : 64 ≤ k) (hk : k ≤ 88) : s.sourcePresent k = true := by
  unfold State.sourcePresent
  rw [sourceDie_package h]
  exact decide_eq_true hk

/-- A line that was not latched is latched by its active level alone. -/
theorem State.levelFires_latched {p : Fin 16} {b : Bool} (ha : s.seq.aonHeld = false) (h : 72 + p.val ∉ s.guard.latched) :
    72 + p.val ∈ (s.levelFires p b).guard.latched ↔
      s.flag Fld.GD_SRC_CFG_ACT_LVL (72 + p) = b ∧ s.flag Fld.GD_SRC_CFG_ENABLE (72 + p) = true := by
  unfold State.levelFires
  split
  next hc =>
    rw [State.fire_latches (s.sourcePresent_package (by omega) (by omega)) ha (.inr h)]
    exact iff_of_true (List.mem_append_right _ (List.mem_singleton.mpr rfl)) ⟨hc.1.symm, hc.2⟩
  next hc => exact iff_of_false h fun hl => hc ⟨hl.1.symm, hl.2⟩

end

/-! # Taking a source (R407) -/

section

variable {r s t : State} {k m n : Nat}

/-- A firing is counted and named. -/
def State.sourceCounted (s : State) (k : Nat) : State :=
  ((s.setF Fld.GD_SRC_CNT_COUNT k (min (s.getF Fld.GD_SRC_CNT_COUNT k + 1) 0xFFFF)).setF Fld.GD_STATUS_LAST_SOURCE 0 k).count
    0 0x3F5 1

/-- A firing inside its source's window. -/
def State.sourceMerged (s : State) (k : Nat) : State :=
  (s.sourceCounted k).modGuard fun g => { g with windows := Tbl.set g.windows k (Tbl.get g.windows k 0 + 1) 0 }

/-- A firing opens its source's window. -/
def State.sourceOpened (s : State) (k : Nat) : State :=
  let us := (s.sourceCounted k).us
  (s.sourceCounted k).modGuard fun g => { g with windows := Tbl.set g.windows k 1 0, windowUs := Tbl.set g.windowUs k us 0 }

/-- The record, the report and the tamper burn of a firing that opened a window. -/
def State.sourceAnswered (s : State) (k : Nat) : State :=
  let s := (s.guardRecord k 0).report 0 0xB001 k
  if s.flag Fld.GD_SRC_CFG_TAMPER k then s.tamperStart k else s

theorem State.sourceTake_disabled (h : s.flag Fld.GD_SRC_CFG_ENABLE k = false) : s.sourceTake k = (s, 0) := if_pos (by simp [h])

theorem State.sourceCounted_guard (s : State) (k : Nat) : (s.sourceCounted k).guard = s.guard := by
  rw [State.sourceCounted, State.count_guard, State.setF_guard, State.setF_guard]

theorem State.sourceTake_merged (he : s.flag Fld.GD_SRC_CFG_ENABLE k = true) (hw : Tbl.get s.guard.windows k 0 ≠ 0) :
    s.sourceTake k = (s.sourceMerged k, 0) := by
  refine (if_neg (by simp [he])).trans ((if_pos ?_).trans rfl)
  change Tbl.get (s.sourceCounted k).guard.windows k 0 ≠ 0
  rwa [s.sourceCounted_guard]

theorem State.sourceTake_opened (he : s.flag Fld.GD_SRC_CFG_ENABLE k = true) (hw : Tbl.get s.guard.windows k 0 = 0)
    (hr : s.getF Fld.GD_SRC_CFG_RESP k ≠ 0) :
    s.sourceTake k = ((s.sourceOpened k).sourceAnswered k, s.getF Fld.GD_SRC_CFG_RESP k) := by
  refine (if_neg (by simp [he])).trans ((if_neg ?_).trans ((if_neg hr).trans rfl))
  change ¬ Tbl.get (s.sourceCounted k).guard.windows k 0 ≠ 0
  rwa [s.sourceCounted_guard, not_not]

theorem State.sourceAnswered_kept (s : State) (k : Nat) : FuseKept s (s.sourceAnswered k) := by
  unfold State.sourceAnswered
  exact .ite (FuseKept.refl s).guardRecord.report.tamperStart (FuseKept.refl s).guardRecord.report

/-- The report of a firing that opened a window is 0xB001. -/
theorem State.sourceAnswered_fault (s : State) (k : Nat) : bitOf ((s.sourceAnswered k).rd .GD_FAULT 0).toNat 0 = true := by
  have hbit := (s.guardRecord k 0).guardFault_bit (b := 0) (source := k) (by decide)
  unfold State.sourceAnswered
  dsimp only
  split
  · exact (FuseKept.refl _).tamperStart.faults 0 hbit
  · exact hbit

/-! ## Counted firings -/

/-- From `s` to `t` m firings of source k have been counted. -/
structure SourceCounted (k m : Nat) (s t : State) : Prop where
  rest : t = { s with
    regs := t.regs, dies := t.dies, guard := { s.guard with windows := t.guard.windows, windowUs := t.guard.windowUs } }
  rd : ∀ n i, n.counts = false → n ≠ .GD_SRC_CNT → n ≠ .GD_STATUS → t.rd n i = s.rd n i
  locked : t.flag Fld.GD_STATUS_LOCKED 0 = s.flag Fld.GD_STATUS_LOCKED 0
  windows : Tbl.get t.guard.windows k 0 = Tbl.get s.guard.windows k 0 + m
  count : t.getF Fld.GD_SRC_CNT_COUNT k = min (s.getF Fld.GD_SRC_CNT_COUNT k + m) 0xFFFF
  last : s.getF Fld.GD_STATUS_LAST_SOURCE 0 = k ∨ m ≠ 0 → t.getF Fld.GD_STATUS_LAST_SOURCE 0 = k

namespace SourceCounted

theorem refl (k : Nat) (s : State) : SourceCounted k 0 s s where
  rest := rfl
  rd _ _ _ _ _ := rfl
  locked := rfl
  windows := rfl
  count := (Nat.min_eq_left (Nat.le_pred_of_lt (s.getF_lt Fld.GD_SRC_CNT_COUNT k))).symm
  last h := h.resolve_right (not_not.mpr rfl)

theorem outputs (h : SourceCounted k m s t) : t.outputs = s.outputs := by rw [h.rest]
theorem keys (h : SourceCounted k m s t) : t.keys = s.keys := by rw [h.rest]
theorem folio (h : SourceCounted k m s t) : t.folio = s.folio := by rw [h.rest]
theorem latched (h : SourceCounted k m s t) : t.guard.latched = s.guard.latched := by rw [h.rest]
theorem resetDue (h : SourceCounted k m s t) : t.guard.resetDue = s.guard.resetDue := by rw [h.rest]

/-- One more firing, whose window counts it. -/
theorem step (h : SourceCounted k m s t) (hk : k < 128) {f : Guard → Guard}
    (hf : ∀ g, f g = { g with windows := (f g).windows, windowUs := (f g).windowUs })
    (hw : Tbl.get (f t.guard).windows k 0 = Tbl.get t.guard.windows k 0 + 1) :
    SourceCounted k (m + 1) s ((t.sourceCounted k).modGuard f) := by
  obtain ⟨hrest, hbut, _, _⟩ := ((t.setF Fld.GD_SRC_CNT_COUNT k (min (t.getF Fld.GD_SRC_CNT_COUNT k + 1) 0xFFFF)).setF
    Fld.GD_STATUS_LAST_SOURCE 0 k).count_counted 0 0x3F5 1
  have hguard : ((t.sourceCounted k).modGuard f).guard = f t.guard := by rw [State.modGuard_guard, t.sourceCounted_guard]
  refine ⟨?_, fun n i hc hn hg => ?_, ?_, ?_, ?_, fun _ => ?_⟩
  · rw [State.modGuard, t.sourceCounted_guard, hf, State.sourceCounted, hrest, h.rest]
    rfl
  · exact (hbut n i hc).trans ((State.rd_setF _ _ _ _ _ _ hg).trans ((State.rd_setF _ _ _ _ _ _ hn).trans (h.rd n i hc hn hg)))
  · exact (State.flag_congr (hbut _ 0 rfl)).trans ((State.flag_setF_apart _ _ _ _ _ _ (by decide) (by decide)).trans
      ((State.flag_setF_apart _ _ _ _ _ _ (by decide) (by decide)).trans h.locked))
  · rw [hguard, hw, h.windows]
    rfl
  · refine (State.getF_eq_of_rd (hbut _ k rfl)).trans ((State.getF_setF_apart _ _ _ _ _ _ (by decide) (by decide)).trans ?_)
    rw [State.getF_setF_same _ _ _ _ (by decide), h.count]
    change min (min _ 0xFFFF + 1) 0xFFFF % 65536 = _
    omega
  · refine (State.getF_eq_of_rd (hbut _ 0 rfl)).trans ((State.getF_setF_same _ _ _ _ (by decide)).trans ?_)
    exact Nat.mod_eq_of_lt hk

theorem merged (h : SourceCounted k m s t) (hk : k < 128) : SourceCounted k (m + 1) s (t.sourceMerged k) :=
  h.step hk (fun _ => rfl) (by rw [Tbl.get_set_same])

theorem opened (hk : k < 128) (hw : Tbl.get s.guard.windows k 0 = 0) : SourceCounted k 1 s (s.sourceOpened k) :=
  (refl k s).step hk (f := fun g => { g with
      windows := Tbl.set g.windows k 1 0, windowUs := Tbl.set g.windowUs k (s.sourceCounted k).us 0 })
    (fun _ => rfl) (by rw [Tbl.get_set_same, hw])

end SourceCounted

/-! ## Sources taken together (R408) -/

/-- One source of a taken list, with the most restrictive response so far. -/
def State.takeOne (a : State × Nat × Nat) (k : Nat) : State × Nat × Nat :=
  ((a.1.sourceTake k).1, if a.2.2 < (a.1.sourceTake k).2 then (k, (a.1.sourceTake k).2) else a.2)

theorem State.guardTake_eq (s : State) (l : List Nat) : s.guardTake l =
    (l.foldl takeOne (s, 0, 0)).1.guardRespond (l.foldl takeOne (s, 0, 0)).2.1 (l.foldl takeOne (s, 0, 0)).2.2 := rfl

/-- Inside its window a source only counts, however often it fires. -/
theorem State.takeOne_replicate (hk : k < 128) (he : s.flag Fld.GD_SRC_CFG_ENABLE k = true)
    (hw : Tbl.get s.guard.windows k 0 ≠ 0) (m : Nat) (p : Nat × Nat) :
    ∃ t, SourceCounted k m s t ∧ (List.replicate m k).foldl State.takeOne (s, p) = (t, p) := by
  induction m with
  | zero => exact ⟨s, .refl k s, rfl⟩
  | succ m ih =>
    obtain ⟨t, ht, hfold⟩ := ih
    refine ⟨t.sourceMerged k, ht.merged hk, ?_⟩
    rw [List.replicate_succ', List.foldl_append, hfold]
    change State.takeOne (t, p) k = _
    rw [State.takeOne, State.sourceTake_merged ((State.flag_congr (ht.rd _ _ rfl (by decide) (by decide))).trans he)
      (by rw [ht.windows]; omega)]
    exact Prod.ext rfl (if_neg (Nat.not_lt_zero p.2) : (if p.2 < 0 then (k, 0) else p) = p)

theorem State.takeOne_disabled (he : s.flag Fld.GD_SRC_CFG_ENABLE k = false) (m : Nat) :
    (List.replicate m k).foldl State.takeOne (s, 0, 0) = (s, 0, 0) := by
  induction m with
  | zero => rfl
  | succ m ih =>
    rw [List.replicate_succ, List.foldl_cons, State.takeOne, State.sourceTake_disabled he]
    exact ih

/-- A firing that opens a window gives the response. -/
theorem State.takeOne_opened (he : s.flag Fld.GD_SRC_CFG_ENABLE k = true) (hw : Tbl.get s.guard.windows k 0 = 0)
    (hr : s.getF Fld.GD_SRC_CFG_RESP k ≠ 0) : State.takeOne (s, 0, 0) k =
      ((s.sourceOpened k).sourceAnswered k, k, s.getF Fld.GD_SRC_CFG_RESP k) := by
  rw [State.takeOne, State.sourceTake_opened he hw hr]
  exact Prod.ext rfl (if_pos (Nat.pos_of_ne_zero hr))

/-! ## One source's latched events -/

/-- The latch no longer holds source k. -/
def State.unlatched (s : State) (k : Nat) : State :=
  s.modGuard fun g => { g with latched := g.latched.filter fun j => decide (j ≠ k) }

theorem State.unlatched_latched (s : State) (k : Nat) : k ∉ (s.unlatched k).guard.latched := fun h =>
  of_decide_eq_true (List.mem_filter.mp h).2 rfl

theorem numsBelow_singleton (hk : k < n) : numsBelow n (fun j => mem j [k]) = [k] := by
  have hm : (fun j => mem j [k]) = fun j => j == k := by
    funext j
    simp [mem, eq_comm, beq_eq_decide]
  rw [numsBelow, hm, List.filter_beq, List.count_eq_one_of_mem List.nodup_range (List.mem_range.mpr hk)]
  rfl

/-- A latched event of source k is taken as often as it was latched. -/
theorem State.takeLatched_singleton (s : State) (hk : k < 89) :
    s.takeLatched [k] = (s.unlatched k).guardTake (List.replicate (s.guard.latched.count k) k) := by
  have hnow : ((numsBelow 89 fun j => mem j [k]).flatMap fun k => s.guard.latched.filter fun j => decide (j = k)) =
      List.replicate (s.guard.latched.count k) k := by
    rw [numsBelow_singleton hk, List.flatMap_singleton, List.filter_eq]
  unfold State.takeLatched
  rw [hnow]
  refine congrArg (State.guardTake · _) (congrArg (fun l => s.modGuard fun g => { g with latched := l }) ?_)
  refine List.filter_congr fun j hj => ?_
  by_cases h : j = k
  · subst h
    simp [mem, List.count_eq_zero, hj]
  · simp [mem, h, Ne.symm h]

theorem exec_guardEvent {k : SourceId} (hp : s.platLive = true) (ht : s.takable k = true) :
    exec (.guardEvent [k]) s = .next ((s.unlatched k).guardTake (List.replicate (s.guard.latched.count k.val) k)) := by
  refine congrArg Host.Outcome.next ((s.when_of _ _ hp).trans ?_)
  rw [← s.takeLatched_singleton k.isLt, List.map_singleton, List.filter_singleton, ht]
  rfl

/-! # Responses (R408) -/

/-- What no response undoes, and what none touches: the latch, the windows and the counts of the sources. -/
structure Responded (s t : State) : Prop where
  latched : t.guard.latched = s.guard.latched
  windows : t.guard.windows = s.guard.windows
  counts : ∀ i, t.rd .GD_SRC_CNT i = s.rd .GD_SRC_CNT i
  ctrl : t.rd .GD_CTRL 0 = s.rd .GD_CTRL 0
  last : t.getF Fld.GD_STATUS_LAST_SOURCE 0 = s.getF Fld.GD_STATUS_LAST_SOURCE 0
  faults : ∀ b, bitOf (s.rd .GD_FAULT 0).toNat b = true → bitOf (t.rd .GD_FAULT 0).toNat b = true
  outputs : s.outputs ⊆ t.outputs
  hold : ∀ j, j < 32 → s.flag Fld.RP_LINE_HOLD j = true → t.flag Fld.RP_LINE_HOLD j = true
  locked : s.flag Fld.GD_STATUS_LOCKED 0 = true → t.flag Fld.GD_STATUS_LOCKED 0 = true
  resetDue : s.guard.resetDue = true → t.guard.resetDue = true
  identity : s.identity = false → t.identity = false

namespace Responded

theorem refl (s : State) : Responded s s where
  latched := rfl
  windows := rfl
  counts _ := rfl
  ctrl := rfl
  last := rfl
  faults _ h := h
  outputs _ h := h
  hold _ _ h := h
  locked h := h
  resetDue h := h
  identity h := h

theorem trans (h1 : Responded r s) (h2 : Responded s t) : Responded r t where
  latched := h2.latched.trans h1.latched
  windows := h2.windows.trans h1.windows
  counts i := (h2.counts i).trans (h1.counts i)
  ctrl := h2.ctrl.trans h1.ctrl
  last := h2.last.trans h1.last
  faults b h := h2.faults b (h1.faults b h)
  outputs := fun _ h => h2.outputs (h1.outputs h)
  hold j hj h := h2.hold j hj (h1.hold j hj h)
  locked h := h2.locked (h1.locked h)
  resetDue h := h2.resetDue (h1.resetDue h)
  identity h := h2.identity (h1.identity h)

theorem fuse (h : FuseKept s t) : Responded s t where
  latched := h.latched
  windows := h.windows
  counts i := h.rd _ i rfl (by decide) (by decide) (by decide)
  ctrl := h.rd _ 0 rfl (by decide) (by decide) (by decide)
  last := h.status _ rfl (.inr (by decide))
  faults := h.faults
  outputs := by rw [h.outputs]; exact fun _ h => h
  hold j _ hj := (h.flag j rfl (by decide) (by decide) (by decide)).trans hj
  locked hl := h.locked.trans hl
  resetDue hd := h.resetDue.trans hd
  identity hi := by rwa [State.identity, h.keys]

/-- A step that leaves the registers alone. -/
theorem same (hregs : t.regs = s.regs) (hvar : t.variant = s.variant) (hlat : t.guard.latched = s.guard.latched)
    (hwin : t.guard.windows = s.guard.windows) (hdue : s.guard.resetDue = true → t.guard.resetDue = true)
    (hout : s.outputs ⊆ t.outputs) (hid : s.identity = false → t.identity = false) : Responded s t := by
  have hrd := State.rd_congr hregs hvar
  exact ⟨hlat, hwin, fun _ => hrd _ _, hrd _ _, State.getF_eq_of_rd (hrd _ _), fun b h => by rwa [hrd], hout,
    fun _ _ h => (State.flag_congr (hrd _ _)).trans h, fun h => (State.flag_congr (hrd _ _)).trans h, hdue, hid⟩

/-- A write of registers of neither the guard nor a line. -/
theorem regs {p : RegName → Nat → Bool} (h : s.OnlyRegs t p)
    (hp : ∀ n ∈ [RegName.GD_SRC_CNT, .GD_CTRL, .GD_STATUS, .GD_FAULT, .RP_LINE], ∀ i, p n i = false)
    (hout : t.outputs = s.outputs) : Responded s t := by
  obtain ⟨hrest, hrd⟩ := h
  have hrd : ∀ n ∈ [RegName.GD_SRC_CNT, .GD_CTRL, .GD_STATUS, .GD_FAULT, .RP_LINE], ∀ i, t.rd n i = s.rd n i :=
    fun n hn i => hrd n i (hp n hn i)
  exact ⟨by rw [hrest], by rw [hrest], hrd _ (by decide), hrd _ (by decide) 0, State.getF_eq_of_rd (hrd _ (by decide) 0),
    fun b h => by rwa [hrd _ (by decide)], by rw [hout]; exact fun _ h => h,
    fun j _ h => (State.flag_congr (hrd _ (by decide) j)).trans h, fun h => (State.flag_congr (hrd _ (by decide) 0)).trans h,
    fun h => by rwa [hrest], fun h => by rwa [hrest]⟩

end Responded

/-! ## The parts of a response -/

/-- ALARM: the interrupt. -/
def State.alarmGiven (s : State) (r : Nat) : State := if 2 ≤ r then (s.emit (.faultIrq 0)).markAll else s

/-- HOLD: every line. -/
def State.holdGiven (s : State) (r : Nat) : State := if 3 ≤ r then s.holdAll else s

/-- HOLD with lockdown. -/
def State.lockGiven (s : State) (k r : Nat) : State := if 3 ≤ r ∧ s.flag Fld.GD_CTRL_LOCKDOWN 0 then s.lockdown k else s

/-- ZEROISE. -/
def State.zeroiseGiven (s : State) (r : Nat) : State := if 5 ≤ r then s.zeroise else s

/-- RESET falls due. -/
def State.resetGiven (s : State) (r : Nat) : State :=
  let us := s.us
  if 4 ≤ r ∧ !s.guard.resetDue then s.modGuard fun g => { g with resetDue := true, resetUs := us } else s

theorem State.guardRespond_eq (s : State) (k r : Nat) :
    s.guardRespond k r = ((((s.alarmGiven r).holdGiven r).lockGiven k r).zeroiseGiven r).resetGiven r := rfl

theorem State.alarmGiven_responded (s : State) (r : Nat) : Responded s (s.alarmGiven r) := by
  unfold State.alarmGiven
  split
  · exact .same rfl rfl rfl rfl id (List.subset_append_left _ _) id
  · exact .refl s

theorem State.alarmGiven_irq (s : State) {r : Nat} (h : 2 ≤ r) : Output.faultIrq 0 ∈ (s.alarmGiven r).outputs := by
  rw [State.alarmGiven, if_pos h]
  exact List.mem_append_right _ (List.mem_singleton.mpr rfl)

theorem State.linesHeld_outputs (s : State) : s.linesHeld.outputs = s.outputs :=
  List.foldlRecOn (motive := fun t : State => t.outputs = s.outputs) _ _ rfl fun _ h _ _ => h

theorem State.linesHeld_responded (s : State) : Responded s s.linesHeld := by
  obtain ⟨hrest, hrd⟩ := s.linesHeld_onlyRegs
  have hrd : ∀ n ≠ RegName.RP_LINE, ∀ i, s.linesHeld.rd n i = s.rd n i := fun n hn i => hrd n i (decide_eq_false hn)
  have hguard : s.linesHeld.guard = s.guard := by rw [hrest]
  have hkeys : s.linesHeld.keys = s.keys := by rw [hrest]
  refine ⟨by rw [hguard], by rw [hguard], hrd _ (by decide), hrd _ (by decide) 0, State.getF_eq_of_rd (hrd _ (by decide) 0),
    fun b h => by rwa [hrd _ (by decide)], ?_, fun j hj _ => s.linesHeld_hold hj,
    fun h => (State.flag_congr (hrd _ (by decide) 0)).trans h, fun h => by rwa [hguard],
    fun h => by rwa [State.identity, hkeys]⟩
  rw [s.linesHeld_outputs]
  exact fun _ h => h

theorem State.mark_responded (s : State) (mask : Nat) : Responded s (s.mark mask) := .same rfl rfl rfl rfl id (fun _ h => h) id

theorem State.holdGiven_responded (s : State) (r : Nat) : Responded s (s.holdGiven r) := by
  unfold State.holdGiven State.holdAll
  split
  · exact s.linesHeld_responded.trans (State.mark_responded _ _)
  · exact .refl s

theorem State.holdGiven_hold (s : State) {r j : Nat} (h : 3 ≤ r) (hj : j < 32) :
    (s.holdGiven r).flag Fld.RP_LINE_HOLD j = true := by
  rw [State.holdGiven, if_pos h]
  exact (State.mark_responded s.linesHeld _).hold j hj (s.linesHeld_hold hj)

theorem State.lockSet_responded (s : State) : Responded s (s.setFlag Fld.GD_STATUS_LOCKED 0 true) where
  latched := rfl
  windows := rfl
  counts _ := State.rd_setFlag _ _ _ _ _ _ (by decide)
  ctrl := State.rd_setFlag _ _ _ _ _ _ (by decide)
  last := State.getF_setFlag_apart _ _ _ _ _ _ (by decide) (by decide)
  faults _ h := by rwa [State.rd_setFlag _ _ _ _ _ _ (by decide)]
  outputs _ h := h
  hold _ _ h := (State.flag_setFlag_apart _ _ _ _ _ _ (by decide) (by decide)).trans h
  locked _ := State.flag_setFlag_same _ _ _ _ (by decide) (by decide)
  resetDue h := h
  identity h := h

theorem State.lockdown_responded (s : State) (k : Nat) : Responded s (s.lockdown k) := by
  rcases s.lockdown_kept k with h | ⟨_, he⟩
  · exact s.lockSet_responded.trans (.fuse h)
  · rw [he]
    exact .refl s

theorem State.lockGiven_responded (s : State) (k r : Nat) : Responded s (s.lockGiven k r) := by
  unfold State.lockGiven
  split
  · exact s.lockdown_responded k
  · exact .refl s

theorem State.lockGiven_locked (s : State) (k : Nat) {r : Nat} (h : 3 ≤ r) (hc : s.flag Fld.GD_CTRL_LOCKDOWN 0 = true) :
    (s.lockGiven k r).flag Fld.GD_STATUS_LOCKED 0 = true := by
  rw [State.lockGiven, if_pos ⟨h, hc⟩]
  exact s.lockdown_locked k

theorem State.showKeys_outputs (s : State) : s.showKeys.outputs = s.outputs := by
  have hput : ∀ (t : State) (n : RegName) (i words : Nat) (b : List Byte), (t.putBytes n i words b).outputs = t.outputs := by
    intro t n i words b
    obtain ⟨f, hf⟩ := t.putBytes_regs n i words b
    rw [hf]
  unfold State.showKeys
  dsimp only
  split
  · split
    · rw [hput, hput]
      rfl
    · rw [hput, hput]
      rfl
  · rw [hput, hput]
    rfl

theorem State.zeroise_identity (s : State) : s.zeroise.identity = false := by
  rw [State.identity, State.zeroise, State.showKeys_keys]
  rfl

theorem State.zeroise_responded (s : State) : Responded s s.zeroise := by
  have hkeys : Responded s (s.modKeys fun k =>
      { k with cdi0 := none, cdi1 := none, holds0 := false, holds1 := false, sealing := [] }) :=
    .same rfl rfl rfl rfl id (fun _ h => h) fun _ => rfl
  refine hkeys.trans (.regs (State.showKeys_onlyRegs _) ?_ (State.showKeys_outputs _))
  intro n hn i
  fin_cases hn <;> rfl

theorem State.zeroiseGiven_responded (s : State) (r : Nat) : Responded s (s.zeroiseGiven r) := by
  unfold State.zeroiseGiven
  split
  · exact s.zeroise_responded
  · exact .refl s

theorem State.zeroiseGiven_identity (s : State) {r : Nat} (h : 5 ≤ r) : (s.zeroiseGiven r).identity = false := by
  rw [State.zeroiseGiven, if_pos h]
  exact s.zeroise_identity

theorem State.resetGiven_responded (s : State) (r : Nat) : Responded s (s.resetGiven r) := by
  unfold State.resetGiven
  dsimp only
  split
  · exact .same rfl rfl rfl rfl (fun _ => rfl) (fun _ h => h) id
  · exact .refl s

theorem State.resetGiven_due (s : State) {r : Nat} (h : 4 ≤ r) : (s.resetGiven r).guard.resetDue = true := by
  unfold State.resetGiven
  dsimp only
  split
  next => rfl
  next hc => simpa [h] using hc

/-- A source's holdoff window closes. -/
def State.windowClosed (s : State) (k : Nat) : State :=
  s.modGuard fun g => { g with windows := Tbl.set g.windows k 0 0, windowUs := Tbl.set g.windowUs k 0 0 }

/-- No response. -/
theorem State.guardRespond_zero (s : State) (k : Nat) : s.guardRespond k 0 = s := by
  simp [State.guardRespond]

/-- A response keeps what no response undoes, and brings what Table 14.3 lists at its level and above it. -/
theorem State.guardRespond_spec (s : State) (k r : Nat) : Responded s (s.guardRespond k r) ∧
    (2 ≤ r → Output.faultIrq 0 ∈ (s.guardRespond k r).outputs) ∧
    (3 ≤ r → ∀ j, j < 32 → (s.guardRespond k r).flag Fld.RP_LINE_HOLD j = true) ∧
    (3 ≤ r → s.flag Fld.GD_CTRL_LOCKDOWN 0 = true → (s.guardRespond k r).flag Fld.GD_STATUS_LOCKED 0 = true) ∧
    (4 ≤ r → (s.guardRespond k r).guard.resetDue = true) ∧ (5 ≤ r → (s.guardRespond k r).identity = false) := by
  rw [State.guardRespond_eq]
  have halarm := s.alarmGiven_responded r
  have hhold := (s.alarmGiven r).holdGiven_responded r
  have hlock := ((s.alarmGiven r).holdGiven r).lockGiven_responded k r
  have hzero := (((s.alarmGiven r).holdGiven r).lockGiven k r).zeroiseGiven_responded r
  have hreset := ((((s.alarmGiven r).holdGiven r).lockGiven k r).zeroiseGiven r).resetGiven_responded r
  refine ⟨halarm.trans (hhold.trans (hlock.trans (hzero.trans hreset))), fun h => ?_, fun h j hj => ?_, fun h hc => ?_,
    fun h => State.resetGiven_due _ h, fun h => hreset.identity (State.zeroiseGiven_identity _ h)⟩
  · exact (hhold.trans (hlock.trans (hzero.trans hreset))).outputs (s.alarmGiven_irq h)
  · exact (hlock.trans (hzero.trans hreset)).hold j hj (State.holdGiven_hold _ h hj)
  · exact (hzero.trans hreset).locked
      (State.lockGiven_locked _ k h ((State.flag_congr (halarm.trans hhold).ctrl).trans hc))

/-! # The guard's instructions -/

/-- Firings of source k that opened its window have been taken, before their response. -/
structure SourceFired (k m : Nat) (s t : State) : Prop where
  latched : t.guard.latched = s.guard.latched
  windows : Tbl.get t.guard.windows k 0 = m
  count : t.getF Fld.GD_SRC_CNT_COUNT k = min (s.getF Fld.GD_SRC_CNT_COUNT k + m) 0xFFFF
  last : t.getF Fld.GD_STATUS_LAST_SOURCE 0 = k
  fault : bitOf (t.rd .GD_FAULT 0).toNat 0 = true
  ctrl : t.rd .GD_CTRL 0 = s.rd .GD_CTRL 0

/-- The first firing opens the window, reports and answers; the others of the same list only count. -/
theorem State.guardTake_opened (hk : k < 128) (he : s.flag Fld.GD_SRC_CFG_ENABLE k = true)
    (hw : Tbl.get s.guard.windows k 0 = 0) (hr : s.getF Fld.GD_SRC_CFG_RESP k ≠ 0) (m : Nat) :
    ∃ t, SourceFired k (m + 1) s t ∧
      s.guardTake (List.replicate (m + 1) k) = t.guardRespond k (s.getF Fld.GD_SRC_CFG_RESP k) := by
  have hopen : SourceCounted k 1 s (s.sourceOpened k) := .opened hk hw
  have hkept := (s.sourceOpened k).sourceAnswered_kept k
  have hwin : Tbl.get ((s.sourceOpened k).sourceAnswered k).guard.windows k 0 = 1 := by rw [hkept.windows, hopen.windows, hw]
  have hon : ((s.sourceOpened k).sourceAnswered k).flag Fld.GD_SRC_CFG_ENABLE k = true :=
    (hkept.flag k rfl (by decide) (by decide) (by decide)).trans
      ((State.flag_congr (hopen.rd _ k rfl (by decide) (by decide))).trans he)
  obtain ⟨t, ht, hfold⟩ := State.takeOne_replicate hk hon (by rw [hwin]; decide) m (k, s.getF Fld.GD_SRC_CFG_RESP k)
  refine ⟨t, ⟨?_, ?_, ?_, ?_, ?_, ?_⟩, ?_⟩
  · rw [ht.latched, hkept.latched, hopen.latched]
  · rw [ht.windows, hwin, Nat.add_comm]
  · rw [ht.count, hkept.getF k rfl (by decide) (by decide) (by decide), hopen.count]
    omega
  · exact ht.last (.inl ((hkept.status _ rfl (.inr (by decide))).trans (hopen.last (.inr (by decide)))))
  · rw [ht.rd _ 0 rfl (by decide) (by decide)]
    exact State.sourceAnswered_fault _ k
  · exact (ht.rd _ 0 rfl (by decide) (by decide)).trans
      ((hkept.rd _ 0 rfl (by decide) (by decide) (by decide)).trans (hopen.rd _ 0 rfl (by decide) (by decide)))
  · rw [State.guardTake_eq, List.replicate_succ, List.foldl_cons, State.takeOne_opened he hw hr, hfold]

/-- Inside its window a source only counts. -/
theorem State.guardTake_merged (hk : k < 128) (he : s.flag Fld.GD_SRC_CFG_ENABLE k = true)
    (hw : Tbl.get s.guard.windows k 0 ≠ 0) (m : Nat) : SourceCounted k m s (s.guardTake (List.replicate m k)) := by
  obtain ⟨t, ht, hfold⟩ := State.takeOne_replicate hk he hw m (0, 0)
  rw [State.guardTake_eq, hfold, State.guardRespond_zero]
  exact ht

theorem State.guardTake_disabled (he : s.flag Fld.GD_SRC_CFG_ENABLE k = false) (m : Nat) :
    s.guardTake (List.replicate m k) = s := by
  rw [State.guardTake_eq, State.takeOne_disabled he, State.guardRespond_zero]

theorem guardEvent_opened {k : SourceId} (hp : s.platLive = true) (ht : s.takable k = true)
    (hn : s.guard.latched.count k.val ≠ 0) (he : s.flag Fld.GD_SRC_CFG_ENABLE k = true)
    (hw : Tbl.get s.guard.windows k 0 = 0) (hr : s.getF Fld.GD_SRC_CFG_RESP k ≠ 0) :
    ∃ t, SourceFired k (s.guard.latched.count k.val) (s.unlatched k) t ∧
      exec (.guardEvent [k]) s = .next (t.guardRespond k (s.getF Fld.GD_SRC_CFG_RESP k)) := by
  obtain ⟨m, hm⟩ := Nat.exists_eq_succ_of_ne_zero hn
  obtain ⟨t, hfired, htake⟩ := State.guardTake_opened (s := s.unlatched k) (Nat.lt_trans k.isLt (by decide)) he hw hr m
  rw [exec_guardEvent hp ht, hm]
  exact ⟨t, hfired, congrArg Host.Outcome.next htake⟩

end

/-- The end of a holdoff window, with the record of its merged firings. -/
theorem exec_holdoffExpire {k : SourceId} {s : State} (hp : s.platLive = true) (hw : Tbl.get s.guard.windows k.val 0 ≠ 0)
    (hus : 1000 * max 1 (s.getF Fld.GD_CTRL_HOLDOFF_MS 0) ≤ s.usSince (Tbl.get s.guard.windowUs k.val 0)) :
    exec (.holdoffExpire k) s = .next (if 1 < Tbl.get s.guard.windows k.val 0 then
      (s.windowClosed k).guardRecord k.val (min (Tbl.get s.guard.windows k.val 0 - 1) 0xFFFF) else s.windowClosed k) :=
  congrArg Host.Outcome.next (s.when_of _ _ (by rw [hp, decide_eq_true hw, decide_eq_true hus]; rfl))

theorem exec_holdoffExpire_kept {k : SourceId} {s : State} (hp : s.platLive = true) (hw : Tbl.get s.guard.windows k.val 0 ≠ 0)
    (hus : 1000 * max 1 (s.getF Fld.GD_CTRL_HOLDOFF_MS 0) ≤ s.usSince (Tbl.get s.guard.windowUs k.val 0)) :
    RunsTo (.holdoffExpire k) s fun t => FuseKept (s.windowClosed k) t ∧
      (Tbl.get s.guard.windows k.val 0 = 1 → t = s.windowClosed k) :=
  ⟨_, exec_holdoffExpire hp hw hus, .ite (FuseKept.refl _).guardRecord (.refl _), fun h => if_neg (by omega)⟩

/-- Settles O49: what is latched goes to die 0 once, which counts it and answers the first firing of a window. -/
theorem guardSources : Obligations.GuardSources := by
  unfold Obligations.GuardSources
  refine ⟨fun k s hk hp ha h => ⟨fun hpar => ?_, fun hpar => ?_⟩, fun k s hl ht => ⟨?_, ?_⟩, fun p b s ha h => ?_,
    fun p b s h => exec_psnsChange_same h, fun k r n s hp ht hcount hn he hw hr hr0 => ?_,
    fun k n s hp ht hcount he hw => ?_, fun k s hp ht _ he => ?_, fun k s hp hw hus => ?_, fun req k s ho => ?_⟩
  · exact congrArg Host.Outcome.next ((s.when_of _ _ (by simp [hk, hpar])).trans (State.fire_latches hp ha h))
  · exact congrArg Host.Outcome.next ((s.when_of _ _ (by simp [hk, hpar])).trans (State.fire_latches hp ha h))
  · exact congrArg Host.Outcome.next (State.when_same _ (State.fire_again hl ht))
  · exact congrArg Host.Outcome.next (State.when_same _ (State.fire_again hl ht))
  · refine ⟨_, exec_psnsChange_other h, fun j hj => ?_, fun hl => ?_⟩
    · rw [State.getF_eq_of_rd ((State.levelsArm_onlyRegs _).2 _ 0 rfl), State.getF_eq_of_rd (State.levelFires_rd _ _ _ _ 0)]
      exact s.psnsShown_level p b hj
    · rw [State.levelsArm_guard]
      exact (State.levelFires_latched (by rwa [State.psnsShown_seq]) (by rwa [State.psnsShown_guard])).trans (and_congr
        (iff_of_eq (congrArg (· = b) (State.flag_congr (s.psnsShown_rd _ _ _ (by decide)))))
        (iff_of_eq (congrArg (· = true) (State.flag_congr (s.psnsShown_rd _ _ _ (by decide))))))
  · obtain ⟨t, hf, hexec⟩ := guardEvent_opened hp ht (hcount ▸ hn) he hw (hr ▸ hr0)
    rw [← hr] at hexec
    obtain ⟨hresp, h2, h3, hlock, h4, h5⟩ := t.guardRespond_spec k r
    refine ⟨_, hexec, ?_, ?_, ?_, hresp.last.trans hf.last, hresp.faults 0 hf.fault, h2, h3, fun h hc => ?_, h4, h5⟩
    · rw [hresp.latched, hf.latched]
      exact s.unlatched_latched k
    · rw [hresp.windows, hf.windows, hcount]
    · rw [State.getF_eq_of_rd (hresp.counts k), hf.count, hcount]
      rfl
    · exact hlock h ((State.flag_congr hf.ctrl).trans hc)
  · have hm := State.guardTake_merged (s := s.unlatched k) (Nat.lt_trans k.isLt (by decide)) he hw n
    refine ⟨_, by rw [exec_guardEvent hp ht, ← hcount], ?_, hm.outputs, hm.keys, hm.windows, fun _ => hm.count, hm.folio,
      fun j => hm.rd _ j rfl (by decide) (by decide)⟩
    rw [hm.latched]
    exact s.unlatched_latched k
  · exact ⟨_, (exec_guardEvent hp ht).trans (congrArg _ (State.guardTake_disabled (s := s.unlatched k) he _)),
      s.unlatched_latched k, rfl, fun _ _ => rfl⟩
  · obtain ⟨t, hexec, hkept, hone⟩ := exec_holdoffExpire_kept hp hw hus
    refine ⟨t, hexec, ?_, fun h => (congrArg State.folio (hone h)).trans (s.modGuard_folio _),
      hkept.rd _ _ rfl (by decide) (by decide) (by decide)⟩
    rw [hkept.windows, State.windowClosed, State.modGuard_guard, Tbl.get_set_same]
  · refine ⟨_, congrArg Host.Outcome.next (State.platAccess_open _ ho), rfl, ?_, ?_⟩
    · rw [State.answer, State.emit_rd, State.readSrcCnt, State.rd_wr_same]
    · exact ((State.OnlyRegs.refl s _).wr (by simp)).emit _

end Sys2Proof.Machine

namespace Sys2Proof.Machine

/-! # A reset leaves the last accepted CSEQ alone (R227, R400)

RV_CSEQ stands in AON. What a reset ends on its way (open frames, with all that the witness engine and the fabric do for a frame's
close, and the reports of a lost die) never touches it: one lemma per operation, in the order of the model. -/

theorem State.forEach_cseq {f : State → Nat → State} (hf : ∀ s k, (f s k).cseq = s.cseq) (l : List Nat) (s : State) :
    (s.forEach l f).cseq = s.cseq :=
  List.foldlRecOn (motive := fun t : State => t.cseq = s.cseq) l f rfl fun t ht k _ => (hf t k).trans ht

theorem State.foldl_cseq {α : Type} {f : State → α → State} (hf : ∀ s a, (f s a).cseq = s.cseq) (l : List α) (s : State) :
    (l.foldl f s).cseq = s.cseq :=
  List.foldlRecOn (motive := fun t : State => t.cseq = s.cseq) l f rfl fun t ht a _ => (hf t a).trans ht

theorem State.forEach_setFlag_cseq (f : Field) (b : Bool) (l : List Nat) (s : State) :
    (s.forEach l fun s k => s.setFlag f k b).cseq = s.cseq := State.forEach_cseq (fun t k => t.setFlag_cseq f k b) l s

section

variable (s : State)

/-! ## Channels, lines and marks -/

@[simp] theorem State.countCh_cseq (c k n : Nat) : (s.countCh c k n).cseq = s.cseq := s.count_cseq _ _ _
@[simp] theorem State.chFault_cseq (c code : Nat) : (s.chFault c code).cseq = s.cseq := s.report_cseq _ _ _
@[simp] theorem State.fmFault_cseq (c f code : Nat) : (s.fmFault c f code).cseq = s.cseq := s.report_cseq _ _ _
@[simp] theorem State.witFault_cseq (d t c code : Nat) : (s.witFault d t c code).cseq = s.cseq := s.report_cseq _ _ _
@[simp] theorem State.mcFault_cseq (d r c code : Nat) : (s.mcFault d r c code).cseq = s.cseq := s.report_cseq _ _ _
@[simp] theorem State.mark_cseq (mask : Nat) : (s.mark mask).cseq = s.cseq := rfl
@[simp] theorem State.markCh_cseq (c : Nat) : (s.markCh c).cseq = s.cseq := rfl
@[simp] theorem State.hostOut_cseq (n e launch : Nat) (l : List (Source × List Byte)) :
    (s.hostOut n e launch l).cseq = s.cseq := rfl
@[simp] theorem State.modCare_cseq (d : Nat) (f : Care → Care) : (s.modCare d f).cseq = s.cseq := rfl
@[simp] theorem State.setSlots_cseq (d : Nat) (l : List Slot) : (s.setSlots d l).cseq = s.cseq := rfl
@[simp] theorem State.putSlot_cseq (x : Slot) : (s.putSlot x).cseq = s.cseq := rfl
@[simp] theorem State.freeSlot_cseq (n g : Nat) : (s.freeSlot n g).cseq = s.cseq := rfl
@[simp] theorem State.dropJob_cseq (n g : Nat) : (s.dropJob n g).cseq = s.cseq := rfl
@[simp] theorem State.setVerdicts_cseq (n g : Nat) (b : Bool) (v : WVerdict) : (s.setVerdicts n g b v).cseq = s.cseq := rfl
@[simp] theorem State.awaitStuck_cseq (n g : Nat) : (s.awaitStuck n g).cseq = s.cseq := rfl
@[simp] theorem State.modQueue_cseq (d : Nat) (f : FaultQueue → FaultQueue) : (s.modQueue d f).cseq = s.cseq := rfl

@[simp] theorem State.flashSide_cseq (n : Nat) (o : OpenFrame) (opened : Bool) (l : List FPhase) (fe : FEnd) (data : List Byte) :
    (s.flashSide n o opened l fe data).cseq = s.cseq := by simp [State.flashSide, apply_ite State.cseq]

@[simp] theorem State.holdLines_cseq (n : Nat) : (s.holdLines n).cseq = s.cseq := by
  rw [State.holdLines, State.mark_cseq, State.forEach_setFlag_cseq]

@[simp] theorem State.lateFault_cseq (n code : Nat) : (s.lateFault n code).cseq = s.cseq := by
  simp [State.lateFault, State.holdRequest, apply_ite State.cseq]

@[simp] theorem State.lockstep_cseq (n f : Nat) (v : Verdict) : (s.lockstep n f v).cseq = s.cseq := by
  unfold State.lockstep
  dsimp only
  split
  · rfl
  · rw [State.setF_cseq]
    split
    · exact s.fmFault_cseq _ _ _
    · rw [State.setF_cseq, State.setF_cseq, State.setF_cseq, State.setF_cseq, State.fmFault_cseq]

@[simp] theorem State.point10_cseq (n : Nat) (bad : List (Bool × Nat)) : (s.point10 n bad).cseq = s.cseq := by
  have hreport : ∀ (code : Nat) (t : State) (_ : Bool × Nat), (t.report (n / 8) code (n / 8)).cseq = t.cseq :=
    fun _ t _ => t.report_cseq _ _ _
  exact (State.foldl_cseq (hreport 0x520A) _ _).trans (State.foldl_cseq (hreport 0x510A) _ _)

@[simp] theorem State.shadowArm_cseq (n c : Nat) (fail : Bool) : (s.shadowArm n c fail).cseq = s.cseq := by
  simp [State.shadowArm, apply_ite State.cseq]

@[simp] theorem State.protoChanges_cseq (n e : Nat) : (s.protoChanges n e).cseq = s.cseq := by
  unfold State.protoChanges
  split <;> simp [apply_ite State.cseq]

/-! ## Gates, restarts and responses -/

@[simp] theorem State.gateArm_cseq (g : Nat) : (s.gateArm g).cseq = s.cseq := by simp [State.gateArm, apply_ite State.cseq]

@[simp] theorem State.gateLeaves_cseq (g : Nat) : (s.gateLeaves g).cseq = s.cseq := by
  unfold State.gateLeaves
  split
  · exact State.forEach_cseq (fun t k => (State.setFlag_cseq _ _ _ _).trans (t.modDie_cseq _ _)) _ s
  · rfl

@[simp] theorem State.gateFail_cseq (g : Nat) : (s.gateFail g).cseq = s.cseq := by simp [State.gateFail, apply_ite State.cseq]

@[simp] theorem State.gateClose_cseq (g : Nat) : (s.gateClose g).cseq = s.cseq := by simp [State.gateClose, apply_ite State.cseq]

@[simp] theorem State.gateLost_cseq (g : Nat) : (s.gateLost g).cseq = s.cseq := by simp [State.gateLost, apply_ite State.cseq]

@[simp] theorem State.treeReport_cseq (d t : Nat) : (s.treeReport d t).cseq = s.cseq := by
  simp [State.treeReport, apply_ite State.cseq]

@[simp] theorem State.chReports_cseq (n : Nat) : (s.chReports n).cseq = s.cseq :=
  State.forEach_cseq (fun t _ => t.treeReport_cseq _ _) _ s

@[simp] theorem State.respHold_cseq (n : Nat) : (s.respHold n).cseq = s.cseq := by
  simp [State.respHold, State.forEach_cseq]

@[simp] theorem State.respRestart_cseq (n : Nat) (l : List Await) : (s.respRestart n l).cseq = s.cseq := by
  simp [State.respRestart, State.forEach_cseq, State.forEach_setFlag_cseq]

@[simp] theorem State.respond_cseq (n code : Nat) (l : List Await) : (s.respond n code l).cseq = s.cseq := by
  unfold State.respond
  split <;> simp

/-! ## Health and care -/

@[simp] theorem State.failedOpen_cseq (n g : Nat) : (s.failedOpen n g).cseq = s.cseq :=
  State.forEach_cseq (fun t r => t.setFlag_cseq _ r _) _ s

@[simp] theorem State.putHealth_cseq (n g : Nat) (h : Health) : (s.putHealth n g h).cseq = s.cseq := by
  unfold State.putHealth
  dsimp only
  split
  · rw [State.report_cseq, State.setFlag_cseq]
  · rw [State.failedOpen_cseq, State.setF_cseq, State.modCare_cseq]

@[simp] theorem State.queueUnit_cseq (d : Nat) (u : CareUnit) : (s.queueUnit d u).cseq = s.cseq := by
  unfold State.queueUnit
  dsimp only
  split
  · rw [State.modCare_cseq]
  · split
    · rw [State.modCare_cseq, State.mcFault_cseq, State.setFlag_cseq]
    · rw [State.modCare_cseq]

@[simp] theorem State.makeDue_cseq (r n g : Nat) : (s.makeDue r n g).cseq = s.cseq := by simp [State.makeDue, apply_ite State.cseq]

@[simp] theorem State.touch_cseq (n g : Nat) (f : Health → Health) : (s.touch n g f).cseq = s.cseq := by
  unfold State.touch
  dsimp only
  split
  · rfl
  · split <;> split <;> simp [apply_ite State.cseq]

theorem State.healthReads_cseq (n : Nat) (l : List Nat) : (s.healthReads n l).cseq = s.cseq :=
  State.forEach_cseq (fun t _ => t.touch_cseq _ _ _) _ s

/-! ## The hash pool -/

@[simp] theorem State.bump_cseq (n : RegName) (i : Nat) : (s.bump n i).cseq = s.cseq := by
  simp [State.bump, apply_ite State.cseq]

@[simp] theorem State.newGen_cseq (d : Nat) : (s.newGen d).cseq = s.cseq := by
  unfold State.newGen
  split
  · split
    · rfl
    · rw [State.report_cseq, State.setFlag_cseq]
  · rw [State.setF_cseq, State.count_cseq, State.bump_cseq]

@[simp] theorem State.sendFence_cseq (d e : Nat) : (s.sendFence d e).cseq = s.cseq := by
  simp [State.sendFence, apply_ite State.cseq]

@[simp] theorem State.placeJob_cseq (d n g gen : Nat) : (s.placeJob d n g gen).2.2.cseq = s.cseq := by
  unfold State.placeJob
  dsimp only
  split
  · rfl
  · simp

@[simp] theorem State.addJob_cseq (n g : Nat) (x : Option Slot) : (s.addJob n g x).cseq = s.cseq :=
  (State.modDie_cseq _ _ _).trans (s.placeJob_cseq _ _ _ _)

@[simp] theorem State.replaceJob_cseq (j : Job) : (s.replaceJob j).cseq = s.cseq := by
  simp [State.replaceJob, State.setJob, apply_ite State.cseq]

@[simp] theorem State.replaceAll_cseq (l : List Job) : (s.replaceAll l).cseq = s.cseq :=
  State.foldl_cseq (fun t j => t.replaceJob_cseq j) l s

@[simp] theorem State.toHash_cseq (n g : Nat) : (s.toHash n g).cseq = s.cseq := by
  unfold State.toHash
  split <;> simp

theorem State.takeSlot_cseq {t : State} {d : Nat} (h : s.takeSlot d = some t) : t.cseq = s.cseq := by
  unfold State.takeSlot at h
  split at h
  · cases h
    rw [State.count_cseq]
  · split at h
    · cases h
      rw [State.count_cseq, State.count_cseq, State.setSlots_cseq]
    · cases h

@[simp] theorem State.takeSlot_getD_cseq (d : Nat) : ((s.takeSlot d).getD s).cseq = s.cseq := by
  cases h : s.takeSlot d with
  | none => rfl
  | some t => exact s.takeSlot_cseq h

/-! ## Consumptions and taints -/

@[simp] theorem State.openCons_cseq (n g t : Nat) (v : Option WVerdict) : (s.openCons n g t v).1.cseq = s.cseq := by
  rw [State.openCons, State.modCh_cseq, State.modDie_cseq, State.countCh_cseq, State.wr_cseq]

@[simp] theorem State.awaitReread_cseq (n g t : Nat) (seq : Word) : (s.awaitReread n g t seq).2.cseq = s.cseq := by
  rw [State.awaitReread, State.markCh_cseq, State.witFault_cseq, State.setFlag_cseq, State.modCh_cseq]

theorem State.taintMark_cseq (n g t : Nat) : (s.taintMark n g t).2.cseq = s.cseq :=
  (State.awaitReread_cseq _ _ _ _ _).trans (s.openCons_cseq _ _ _ _)

theorem State.taintGranules_cseq (n : Nat) (l : List (Nat × Nat)) : (s.taintGranules n l).cseq = s.cseq :=
  (State.respond_cseq _ _ _ _).trans (List.foldlRecOn (motive := fun a : List Await × State => a.2.cseq = s.cseq) l _ rfl
    fun a ha _ _ => (a.2.taintMark_cseq _ _ _).trans ha)

@[simp] theorem State.taintFrame_cseq (n : Nat) (acted : Option (List Nat)) (l : List (Nat × Nat × Bool)) :
    (s.taintFrame n acted l).cseq = s.cseq := by
  have hfold : ∀ (m : List (Nat × Nat × Bool)) (t : State),
      (m.foldl (fun t p => t.taintGranules n [(p.1, p.2.1)]) t).cseq = t.cseq :=
    fun m t => State.foldl_cseq (fun t _ => t.taintGranules_cseq n _) m t
  unfold State.taintFrame
  dsimp only
  split
  · split <;> simp
  · rw [hfold, State.taintGranules_cseq]
    simp [apply_ite State.cseq]

@[simp] theorem State.convict_cseq (n g t : Nat) : (s.convict n g t).cseq = s.cseq := by
  unfold State.convict
  dsimp only
  split <;> simp [apply_ite State.cseq]

/-! ## What a passed frame changes -/

theorem State.voidGranule_cseq (n g : Nat) : (s.voidGranule n g).2.cseq = s.cseq := by
  unfold State.voidGranule
  split
  · rfl
  · dsimp only
    split
    · simp
    · split <;> simp

theorem State.voidGranules_cseq (n : Nat) (l : List Nat) : (s.voidGranules n l).cseq = s.cseq :=
  (State.respond_cseq _ _ _ _).trans (List.foldlRecOn (motive := fun a : Nat × State => a.2.cseq = s.cseq) l _ rfl
    fun a ha g _ => (a.2.voidGranule_cseq n g).trans ha)

@[simp] theorem State.voidWhere_cseq (n : Nat) (p : Nat → Bool) : (s.voidWhere n p).cseq = s.cseq := s.voidGranules_cseq _ _

@[simp] theorem State.healthProgram_cseq (n g : Nat) : (s.healthProgram n g).cseq = s.cseq := s.touch_cseq _ _ _

@[simp] theorem State.healthErase_cseq (n : Nat) (l : List Nat) : (s.healthErase n l).cseq = s.cseq :=
  State.forEach_cseq (fun t _ => t.touch_cseq _ _ _) _ s

@[simp] theorem State.passedEffects_cseq (n e cls a : Nat) : (s.passedEffects n e cls a).cseq = s.cseq := by
  unfold State.passedEffects
  dsimp only
  rw [State.protoChanges_cseq]
  split <;> simp [apply_ite State.cseq]

end

end Sys2Proof.Machine

namespace Sys2Proof.Machine

/-! # The close of a frame leaves the last accepted CSEQ alone -/

section

variable (v : Serve) (c : Ctx) (p : Span)

/-! ## What a granule of a read is served from -/

@[simp] theorem Serve.fill_cseq : (v.fill c p).s.cseq = v.s.cseq := State.countCh_cseq _ _ _ _

@[simp] theorem Serve.touch_cseq (t : Nat) : (v.touch c p t).s.cseq = v.s.cseq := rfl

@[simp] theorem Serve.forward_cseq : (v.forward c p).s.cseq = v.s.cseq := State.countCh_cseq _ _ _ _

@[simp] theorem Serve.judge_cseq (w : Verdict) : (v.judge c w).1.s.cseq = v.s.cseq := by
  simp [Serve.judge, apply_ite State.cseq]

@[simp] theorem Serve.galley_cseq (x : Slot) (b : Bool) : (v.galley c p x b).s.cseq = v.s.cseq := by
  unfold Serve.galley
  dsimp only
  split
  · simp
  · split <;> simp

@[simp] theorem Serve.refuse_cseq (t idx : Nat) : (v.refuse c p t idx).s.cseq = v.s.cseq :=
  (State.witFault_cseq _ _ _ _ _).trans (v.fill_cseq c p)

@[simp] theorem Serve.proven_cseq (x : Slot) (t idx : Nat) : (v.proven c p x t idx).s.cseq = v.s.cseq := by
  unfold Serve.proven
  split <;> simp

@[simp] theorem Serve.witness_cseq (t leaf : Nat) : (v.witness c p t leaf).s.cseq = v.s.cseq := by
  unfold Serve.witness
  dsimp only
  split
  · simp
  · split
    · split
      · split <;> simp
      · split <;> simp [apply_ite State.cseq]
    · simp [apply_ite State.cseq]

@[simp] theorem Serve.take_cseq (t leaf idx : Nat) : (v.take c p t leaf idx).s.cseq = v.s.cseq := by
  unfold Serve.take
  split <;> simp

@[simp] theorem Serve.substitute_cseq (code : Nat) (leaf : Option (Nat × Nat)) (idx : Nat) :
    (v.substitute c p code leaf idx).s.cseq = v.s.cseq := by
  unfold Serve.substitute
  split
  · simp
  · split
    · simp
    · split <;> simp
    · simp
    · simp

/-! ## A read's granules, one after another -/

@[simp] theorem Serve.next_cseq (idx : Nat) : (v.next c p idx).s.cseq = v.s.cseq := by
  unfold Serve.next
  dsimp only
  split
  · simp
  · split
    · simp
    · split
      · split <;> simp
      · simp

theorem serveRest_cseq (c : Ctx) (l : List Span) (idx : Nat) (v : Serve) : (serveRest c l idx v).s.cseq = v.s.cseq := by
  induction l generalizing idx v with
  | nil => rfl
  | cons p l ih => exact (ih _ _).trans (v.next_cseq c p idx)

theorem serveLate_cseq (c : Ctx) (l : List Span) (v : Serve) : (serveLate c l v).s.cseq = v.s.cseq := by
  cases l with
  | nil => rfl
  | cons p l => exact (serveRest_cseq _ _ _ _).trans (v.fill_cseq c p)

@[simp] theorem State.requestBlock_cseq (s : State) (n g t leaf : Nat) : (s.requestBlock n g t leaf).cseq = s.cseq := by
  unfold State.requestBlock
  split
  · rfl
  · split
    · rfl
    next h => exact (State.putSlot_cseq _ _).trans (s.takeSlot_cseq h)

@[simp] theorem Serve.legacy_cseq (leaf cover : Option (Nat × Nat)) : (v.legacy c p leaf cover).s.cseq = v.s.cseq := by
  unfold Serve.legacy
  refine (apply_ite (fun u : Serve => u.s.cseq) _ _ _).trans ((if_congr Iff.rfl (v.refuse_cseq c p _ 0) ?_).trans (ite_self _))
  split
  · simp
  · dsimp only
    split <;> simp

@[simp] theorem Serve.start_cseq (w : Verdict) : (v.start c p w).s.cseq = v.s.cseq := by
  unfold Serve.start
  dsimp only
  split
  · simp
  · split
    · simp
    · split
      · split <;> simp
      · split <;> simp
      · split
        · simp
        · split <;> simp
      · simp

theorem serveRead_cseq (c : Ctx) (l : List Span) (a : Nat) (v : Serve) (w : Verdict) : (serveRead c l a v w).s.cseq = v.s.cseq := by
  cases l with
  | nil => exact v.start_cseq c _ w
  | cons p l => exact (serveRest_cseq _ _ _ _).trans (v.start_cseq c p w)

@[simp] theorem Serve.whole_cseq (w : Verdict) (status answers : Bool) : (v.whole c p w status answers).s.cseq = v.s.cseq := by
  unfold Serve.whole
  dsimp only
  split
  · split <;> simp
  · split
    · simp
    · split
      · simp
      · split
        · split <;> simp [apply_ite State.cseq]
        · simp

end

/-! ## The frame -/

section

variable (s : State) (n : Nat) (o : OpenFrame)

@[simp] theorem State.runIsolated_cseq : (s.runIsolated n o).1.cseq = s.cseq := by
  simp [State.runIsolated, apply_ite State.cseq]

@[simp] theorem State.runUnknown_cseq (k : FrameKind) (cls : Nat) (cut : Bool) : (s.runUnknown n o k cls cut).1.cseq = s.cseq := by
  unfold State.runUnknown
  dsimp only
  rw [State.flashSide_cseq]
  split <;> split <;> simp [apply_ite State.cseq]

@[simp] theorem State.applyOther_cseq (f : HostFrame) (w : Verdict) (late : Bool) : (s.applyOther n f w late).s.cseq = s.cseq := by
  unfold State.applyOther
  dsimp only
  split
  · simp
  · split
    · simp
    · split <;> simp [apply_ite State.cseq]

@[simp] theorem State.runOther_cseq (w : Verdict) (late cut : Bool) : (s.runOther n o w late cut).1.cseq = s.cseq := by
  unfold State.runOther
  dsimp only
  rw [State.flashSide_cseq, apply_ite State.cseq, State.passedEffects_cseq, ite_self]
  split <;> simp [apply_ite State.cseq]

@[simp] theorem State.runRead_cseq (w : Verdict) (late cut present : Bool) :
    (s.runRead n o w late cut present).1.cseq = s.cseq := by
  simp [State.runRead, apply_ite State.cseq, apply_ite Serve.s, serveLate_cseq, serveRead_cseq, State.healthReads_cseq]

theorem State.runFrame_cseq (cut : Bool) : (s.runFrame n o cut).1.cseq = s.cseq := by
  simp [State.runFrame, apply_ite Prod.fst, apply_ite State.cseq]

@[simp] theorem State.endFrame_cseq : (s.endFrame n).cseq = s.cseq := by
  unfold State.endFrame
  split
  · rfl
  next o _ =>
    split
    · rfl
    · exact (State.modCh_cseq _ _ _).trans (s.runFrame_cseq n o true)

@[simp] theorem State.ownStop_cseq : (s.ownStop n).cseq = s.cseq := by
  unfold State.ownStop
  split
  · rfl
  · rw [State.emit_cseq, State.setFlag_cseq, State.modCh_cseq]

end

end Sys2Proof.Machine

namespace Sys2Proof.Machine

/-! # A reset that takes hold leaves the last accepted CSEQ alone -/

section

variable (s : State)

/-! ## Reports of a lost die -/

@[simp] theorem State.append_cseq (typ : Nat) (body : List Byte) : (s.append typ body).cseq = s.cseq :=
  State.append_keeps (P := fun t => t.cseq = s.cseq) (fun _ _ h => h) (fun _ _ _ _ h => h)
    (fun t h => (t.report_cseq _ _ _).trans h) rfl typ body

@[simp] theorem State.faultRecord_cseq (d kind : Nat) (e : FaultEntry) : (s.faultRecord d kind e).cseq = s.cseq := s.append_cseq _ _

@[simp] theorem State.createEntry_cseq (d kind : Nat) (e : FaultEntry) : (s.createEntry d kind e).cseq = s.cseq :=
  (State.faultRecord_cseq _ _ _ _).trans (s.modQueue_cseq _ _)

@[simp] theorem State.mergeInto_cseq (d code source : Nat) (us : Word) : (s.mergeInto d code source us).cseq = s.cseq := rfl

@[simp] theorem State.newEntry_cseq (d : Nat) (r : Report) : (s.newEntry d r).cseq = s.cseq := by
  simp [State.newEntry, apply_ite State.cseq]

@[simp] theorem State.bumpStorm_cseq (d kind dseq : Nat) (us : Word) : (s.bumpStorm d kind dseq us).cseq = s.cseq := by
  simp [State.bumpStorm, apply_ite State.cseq]

@[simp] theorem State.raiseFault_cseq (d : Nat) : (s.raiseFault d).cseq = s.cseq := by
  simp [State.raiseFault, apply_ite State.cseq]

@[simp] theorem State.stormBegins_cseq (d : Nat) (r : Report) : (s.stormBegins d r).cseq = s.cseq := by
  unfold State.stormBegins
  dsimp only
  rw [apply_ite State.cseq, State.forEach_cseq fun t n => t.holdLines_cseq n, ite_self]
  split
  · split <;> simp
  · simp

@[simp] theorem State.placeReport_cseq (d : Nat) (r : Report) : (s.placeReport d r).cseq = s.cseq := by
  simp [State.placeReport, apply_ite State.cseq]

theorem State.placeRest_cseq (d k : Nat) : (s.placeRest d k).cseq = s.cseq := by
  induction k generalizing s with
  | zero => rfl
  | succ k ih =>
    unfold State.placeRest
    split
    · rfl
    · exact (ih _).trans ((State.placeReport_cseq _ _ _).trans (s.modQueue_cseq _ _))

theorem State.loseDie_cseq (d : Nat) : (s.loseDie d).cseq = s.cseq := by
  have hgates : ∀ (l : List Nat) (t : State), (t.forEach l fun t g => (t.gateLost g).report 0 0x300A g).cseq = t.cseq :=
    State.forEach_cseq fun t g => (State.report_cseq _ _ _ _).trans (t.gateLost_cseq g)
  unfold State.loseDie
  rw [State.replaceAll_cseq, State.forEach_cseq, hgates, State.mark_cseq, State.placeRest_cseq, State.modDie_cseq]
  intro t o
  dsimp only
  split
  · exact (State.setFlag_cseq _ _ _ _).trans (t.modDie_cseq _ _)
  · exact t.modDie_cseq _ _

/-! ## Domains enter reset -/

@[simp] theorem State.cutDie_cseq (d : Nat) : (s.cutDie d).cseq = s.cseq :=
  State.forEach_cseq (fun t _ => (State.ownStop_cseq _ _).trans (t.endFrame_cseq _)) _ s

@[simp] theorem State.cutPort_cseq (p : Nat) : (s.cutPort p).cseq = s.cseq := by
  unfold State.cutPort
  split
  · rfl
  · rw [State.emit_cseq, State.setFlag_cseq, State.modPort_cseq]

@[simp] theorem State.dieState_cseq (d v : Nat) : (s.dieState d v).cseq = s.cseq := s.setF_cseq _ _ _

@[simp] theorem State.inboxFlush_cseq : s.inboxFlush.cseq = s.cseq := by
  rw [State.inboxFlush, State.setFlag_cseq, State.modInbox, State.setF_cseq]

@[simp] theorem State.holdHif_cseq : s.holdHif.cseq = s.cseq := by
  rw [State.holdHif, State.emit_cseq, State.modSeq_cseq, State.setF_cseq, State.inboxFlush_cseq, State.modKeys_cseq]

/-- The channels' frames end, the die is lost and its own vault port ends: the first half of a die's reset. -/
def State.dieCut (s : State) (d : Nat) : State :=
  let s := s.cutDie d
  let s := if s.reached d then s.loseDie d else s
  let s := if d = 1 then (s.cutPort 2).modPort 2 fun _ => Port.reset else s
  (s.emit (.floated (.die 1) d)).sramForget d

theorem State.dieCut_cseq (d : Nat) : (s.dieCut d).cseq = s.cseq := by
  unfold State.dieCut State.sramForget
  rw [State.modDie_cseq]
  simp [apply_ite State.cseq, State.loseDie_cseq]

theorem State.holdDie_cseq (d : Nat) : (s.holdDie d).cseq = s.cseq := by
  refine Eq.trans ?_ (s.dieCut_cseq d)
  unfold State.holdDie
  rw [State.dieState_cseq, State.modXip_cseq, State.modBoot_cseq, apply_ite State.cseq, State.setF_cseq, ite_self,
    State.modKeys_cseq, State.modDie_cseq]
  dsimp only
  split
  · split
    · exact State.clrR_cseq _ _ _ _
    · exact State.clrR_cseq _ _ _ _
  · rfl

/-- The frames of every die and of the master ports end ahead of a part's reset. -/
def State.framesCut (s : State) (cut : Bool) : State :=
  let ds := List.range s.nDies
  let s := if cut then s.forEach ds fun s d => if (s.die d).inReset then s else s.cutDie d else s
  if cut then s.forEach [0, 1, 2] fun s p => s.cutPort p else s

theorem State.framesCut_cseq (cut : Bool) : (s.framesCut cut).cseq = s.cseq := by
  simp [State.framesCut, apply_ite State.cseq, State.forEach_cseq]

theorem State.holdPart_cseq (cut : Bool) : (s.holdPart cut).cseq = s.cseq := by
  unfold State.holdPart
  rw [apply_ite State.cseq, State.setFlag_cseq, ite_self, State.emit_cseq, State.emit_cseq, State.emit_cseq, State.emit_cseq,
    State.modSeq_cseq, State.forEach_cseq, State.wr_cseq]
  · exact s.framesCut_cseq cut
  · exact fun t k => (State.emit_cseq _ _).trans ((State.dieState_cseq _ _ _).trans (t.modDie_cseq _ _))

theorem State.fire_cseq (k : Nat) : (s.fire k).cseq = s.cseq := by simp [State.fire, apply_ite State.cseq]

theorem State.beginWait_cseq : s.beginWait.cseq = s.cseq := by
  rw [State.beginWait, State.modSeq_cseq, State.setFlag_cseq, State.setFlag_cseq]

theorem State.endWait_cseq (rc : Nat) : (s.endWait rc).cseq = s.cseq := by
  simp [State.endWait, apply_ite State.cseq]

theorem State.seqConverts_cseq : s.seqConverts.cseq = s.cseq := by simp [State.seqConverts, apply_ite State.cseq]

theorem State.takeHold_cseq (cut : Bool) (rc : Nat) : (s.takeHold cut rc).cseq = s.cseq := by
  unfold State.takeHold
  simp [apply_ite State.cseq, State.holdPart_cseq, State.forEach_cseq, State.holdDie_cseq, State.endWait_cseq,
    State.seqConverts_cseq]

/-- A source that is recognised leaves it alone too. -/
theorem State.recognise_cseq (src : ResetSource) (rc : Nat) (wdt : List Nat) : (s.recognise src rc wdt).cseq = s.cseq := by
  unfold State.recognise
  refine (apply_ite State.cseq _ _ _).trans ((if_congr Iff.rfl rfl ?_).trans (ite_self _))
  dsimp only
  split
  · simp [apply_ite State.cseq, State.fire_cseq, State.beginWait_cseq]
  · simp [apply_ite State.cseq, State.fire_cseq, State.beginWait_cseq, State.endWait_cseq]
  · simp [apply_ite State.cseq, State.fire_cseq, State.beginWait_cseq, State.takeHold_cseq]

end

end Sys2Proof.Machine

namespace Sys2Proof.Machine

/-! # Parcels for firmware (R391, R392, R400 to R402) -/

section

variable {s t : State} {p : Bool} {x : Parcel} {l : List (Bool × Parcel)}

/-! ## The receive ring -/

/-- The instructions that handle parcels for firmware, with the type each one takes (Table 13.3). -/
theorem exec_firmwareParcel {c : Instr} (hr : s.rlvLive = true) (hq : s.rv.inq = (p, x) :: l)
    (hc : (c, x.type) ∈ [(Instr.resendReq, 0x15#8), (.rvBusy, 0x16#8), (.rvReply, 0x21#8), (.rvMessage, 0x30#8)]) :
    exec c s = .next ((s.inqLeft l).rvFirmware p x) := by
  simp only [List.mem_cons, Prod.mk.injEq, List.not_mem_nil, or_false] at hc
  obtain ⟨rfl, ht⟩ | ⟨rfl, ht⟩ | ⟨rfl, ht⟩ | ⟨rfl, ht⟩ := hc
  all_goals exact congrArg Host.Outcome.next (State.rvTake_head hr hq (congrArg BitVec.toNat ht) _)

theorem State.rvFirmware_here (hb : pBcast x = false) (hh : s.isHere x.dst = true) : s.rvFirmware p x = s.rvDeliver (some p) x := by
  simp [State.rvFirmware, hb, hh]

theorem State.rvFirmware_away (hb : pBcast x = false) (hh : s.isHere x.dst = false) :
    s.rvFirmware p x = s.rvSend (!p) { x with hops := x.hops + 1 } := by
  simp [State.rvFirmware, State.rvPass, hb, hh]

/-- Entries of the receive ring are told apart by nine bits. -/
theorem State.rvRxSize_le (s : State) : s.rvRxSize ≤ 512 := Nat.pow_le_pow_right (by decide) (Nat.min_le_left 9 _)

theorem pHeader_length (x : Parcel) : (pHeader x).length = 16 := by simp [pHeader, beBytes]

/-- An entry of the receive ring is written. -/
def State.rvStored (s : State) (x : Parcel) : State :=
  s.sramStore 0 ((s.rd .RV_RXBASE 0).toNat + rvEntry * (s.getF Fld.RV_RXPTR_TAIL 0 % s.rvRxSize)) (pHeader x ++ x.payload)

theorem State.rvStored_eq (s : State) (x : Parcel) : s.rvStored x = { s with sram := (s.rvStored x).sram } := s.sramStore_eq _ _ _

theorem State.rvDeliver_room {o : Option Bool} (h : (s.getF Fld.RV_RXPTR_TAIL 0 % s.rvRxSize + 1) % s.rvRxSize ≠
      s.getF Fld.RV_RXPTR_HEAD 0 % s.rvRxSize) :
    s.rvDeliver o x = (s.rvStored x).setF Fld.RV_RXPTR_TAIL 0 ((s.getF Fld.RV_RXPTR_TAIL 0 % s.rvRxSize + 1) % s.rvRxSize) :=
  if_neg h

theorem State.rvDeliver_full (h : (s.getF Fld.RV_RXPTR_TAIL 0 % s.rvRxSize + 1) % s.rvRxSize =
      s.getF Fld.RV_RXPTR_HEAD 0 % s.rvRxSize) : s.rvDeliver (some p) x = s.report 0 0xC008 (b2n p) := if_pos h

theorem State.rvStored_read (hx : x.payload.length ≤ 4096) {o : Nat} (ho : o < 16 + x.payload.length) :
    (s.rvStored x).sramRead 0 ((s.rd .RV_RXBASE 0).toNat + 0x1020 * (s.getF Fld.RV_RXPTR_TAIL 0 % s.rvRxSize) + o) =
      byteAt (pHeader x ++ x.payload) o := by
  have hlen : (pHeader x ++ x.payload).length = 16 + x.payload.length := by rw [List.length_append, pHeader_length]
  exact s.sramRead_store 0 _ _ (by rw [hlen]; omega) (by rw [hlen]; exact ho)

/-! ## The transmit ring -/

theorem State.txParcel_congr (hsram : s.SameSram t) (hbase : t.rd .RV_TXBASE 0 = s.rd .RV_TXBASE 0) (hpos : t.rvPos = s.rvPos)
    (i : Nat) : t.txParcel i = s.txParcel i := by
  have hbytes : ∀ d a n, t.sramBytes d a n = s.sramBytes d a n := fun d a n => List.map_congr_left fun k _ => hsram d (a + k)
  simp only [State.txParcel, hbase, hpos, hbytes]

/-- The engine takes an entry of the transmit ring that is addressed to one part and belongs to no session. -/
theorem State.txNext_message (h : (s.txParcel (s.getF Fld.RV_TXPTR_HEAD 0)).type = 0x30)
    (hb : pBcast (s.txParcel (s.getF Fld.RV_TXPTR_HEAD 0)) = false) :
    s.txNext = (s.setF Fld.RV_TXPTR_HEAD 0 ((s.getF Fld.RV_TXPTR_HEAD 0 + 1) % 32)).rvSend
      (decide (s.rvPos < (s.txParcel (s.getF Fld.RV_TXPTR_HEAD 0)).dst)) (s.txParcel (s.getF Fld.RV_TXPTR_HEAD 0)) := by
  refine (if_neg (by rw [h]; decide)).trans ((if_neg (by rw [hb]; decide)).trans ?_)
  rw [State.rvPos, State.getF_setF_apart _ _ _ _ _ _ (by decide) (by decide), State.rvPos]

/-- The engine has been told of one more entry. -/
def State.tailShown (s : State) (h : Nat) : State := s.setF Fld.RV_TXPTR_TAIL 0 ((h + 1) % 32)

theorem State.tailShown_rv (s : State) (h : Nat) : (s.tailShown h).rv = s.rv := s.setF_rv _ _ _
theorem State.tailShown_sram (s : State) (h : Nat) : (s.tailShown h).sram = s.sram := s.setF_sram _ _ _
theorem State.tailShown_outputs (s : State) (h : Nat) : (s.tailShown h).outputs = s.outputs := s.setF_outputs _ _ _

theorem State.writeRvTxptr_one {req : Requester} {v : Word} (h0 : fromDie0 req = true)
    (hv : Fld.RV_TXPTR_TAIL.of v = (s.getF Fld.RV_TXPTR_HEAD 0 + 1) % 32) :
    s.writeRvTxptr req v = (s.tailShown (s.getF Fld.RV_TXPTR_HEAD 0)).txNext := by
  have hhead : s.getF Fld.RV_TXPTR_HEAD 0 < 2 ^ 5 := s.getF_lt Fld.RV_TXPTR_HEAD 0
  have htail : (s.tailShown (s.getF Fld.RV_TXPTR_HEAD 0)).getF Fld.RV_TXPTR_TAIL 0 = (s.getF Fld.RV_TXPTR_HEAD 0 + 1) % 32 :=
    (State.getF_setF_same _ _ _ _ (by decide)).trans (Nat.mod_mod _ _)
  have hsame : (s.tailShown (s.getF Fld.RV_TXPTR_HEAD 0)).getF Fld.RV_TXPTR_HEAD 0 = s.getF Fld.RV_TXPTR_HEAD 0 :=
    State.getF_setF_apart _ _ _ _ _ _ (by decide) (by decide)
  have hn : ((s.getF Fld.RV_TXPTR_HEAD 0 + 1) % 32 + 32 - s.getF Fld.RV_TXPTR_HEAD 0) % 32 = 1 := by omega
  unfold State.writeRvTxptr
  rw [hv, if_neg (by rw [h0]; decide)]
  change (s.tailShown _).forEach (List.range (((s.tailShown _).getF _ 0 + 32 - (s.tailShown _).getF _ 0) % 32)) _ = _
  rw [htail, hsame, hn]
  rfl

/-! ## IDENT -/

theorem exec_rvIdent_closed (hr : s.rlvLive = true) (hq : s.rv.inq = (p, x) :: l) (ht : x.type = 0x01)
    (hf : s.folio.opened = false) :
    RunsTo .rvIdent s fun t => t.rv.inq = l ∧ t.rv.early = s.rv.early ++ [(p, sliceB x.payload 0 48)] ∧
      ∀ k, k < 12 → t.rd .RV_NBR (12 * b2n p + k) = BitVec.ofNat 32 (ofLe (sliceB (sliceB x.payload 0 48) (4 * k) 4)) := by
  obtain ⟨f, hregs⟩ := (s.inqLeft l).putBytes_regs .RV_NBR (12 * b2n p) 12 (sliceB x.payload 0 48)
  have hclosed : ¬ ((s.inqLeft l).putBytes .RV_NBR (12 * b2n p) 12 (sliceB x.payload 0 48)).folio.opened = true := by
    rw [hregs]
    exact Bool.eq_false_iff.mp hf
  refine ⟨_, congrArg Host.Outcome.next ((State.rvTake_head hr hq (congrArg BitVec.toNat ht) _).trans (if_neg hclosed)), ?_, ?_,
    fun k hk => (State.modRv_rd _ _ _ _).trans (State.putBytes_rd _ _ _ _ hk)⟩
  · rw [State.modRv_rv, hregs]
    rfl
  · rw [State.modRv_rv, hregs]
    rfl

/-! ## Signed commands -/

/-- Both halves of a command have come. -/
def State.halvesTaken (s : State) (l : List (Bool × Parcel)) (x : Parcel) : State :=
  (s.inqLeft l).modRv fun r => { r with halves := s.rv.halves.filter fun h => decide (h.src ≠ x.src) }

/-- The answer to a command. -/
def State.commandReply (s : State) (src r : Nat) (c : List Byte) : Parcel :=
  s.ownParcel 0x21 0 src (beBytes 8 (ofBe (sliceB c 0x48 8)) ++ [BitVec.ofNat 8 r, 0, 0, 0])

theorem exec_rvCommand_first (hr : s.rlvLive = true) (hq : s.rv.inq = (p, x) :: l) (ht : x.type = 0x20) (hb : pBcast x = false)
    (hh : s.isHere x.dst = true) (hx : x.seq = 0) : exec .rvCommand s = .next { s with
      rv := { s.rv with inq := l, halves := (s.rv.halves.filter fun h => decide (h.src ≠ x.src)) ++ [x] } } := by
  refine congrArg Host.Outcome.next ((State.rvTake_head hr hq (congrArg BitVec.toNat ht) _).trans ?_)
  have hh' : (s.inqLeft l).isHere x.dst = true := hh
  simp only [hb, hh', hx, Bool.false_or, Bool.not_true, Bool.false_eq_true, if_false, if_true]
  rfl

theorem exec_rvCommand_second {h : Parcel} {c : List Byte} (hr : s.rlvLive = true) (hq : s.rv.inq = (p, x) :: l)
    (ht : x.type = 0x20) (hb : pBcast x = false) (hh : s.isHere x.dst = true) (hx : x.seq = 1)
    (hf : (s.rv.halves.find? fun h => decide (h.src = x.src)) = some h) (hc : c = h.payload ++ x.payload)
    (hlen : c.length = 8192) (hid : sliceB c 0x10 48 = s.deviceId) :
    exec .rvCommand s = .next ((s.halvesTaken l x).command p x.src c) := by
  refine congrArg Host.Outcome.next ((State.rvTake_head hr hq (congrArg BitVec.toNat ht) _).trans ?_)
  have hh' : (s.inqLeft l).isHere x.dst = true := hh
  have hf' : ((s.inqLeft l).rv.halves.find? fun h => decide (h.src = x.src)) = some h := hf
  have hid' : sliceB (h.payload ++ x.payload) 0x10 48 = (s.halvesTaken l x).deviceId := hc ▸ hid
  simp only [hb, hh', hx, hf', Bool.false_or, Bool.not_true, Bool.false_eq_true, if_false, Nat.one_ne_zero]
  rw [hc] at hlen ⊢
  exact if_pos ⟨trivial, hlen, hid'⟩

theorem State.halvesTaken_result (s : State) (l : List (Bool × Parcel)) (x : Parcel) (c : List Byte) :
    (s.halvesTaken l x).commandResult c = s.commandResult c := rfl

/-- A refused command is reported and answered, and that is all. -/
theorem State.command_refused {src r : Nat} {c : List Byte} (hr : s.commandResult c = r) (h : r = 1 ∨ r = 2) :
    s.command p src c = (s.report 0 0xC007 (b2n p)).rvSend p ((s.report 0 0xC007 (b2n p)).commandReply src r c) := by
  unfold State.command
  rw [hr]
  obtain rfl | rfl := h
  · rfl
  · rfl

/-- Only an accepted command moves CSEQ. -/
theorem State.command_cseq (s : State) (p : Bool) (src : Nat) (c : List Byte) :
    (s.command p src c).cseq = if s.commandResult c = 0 then ofBe (sliceB c 0x48 8) else s.cseq := by
  have hsend : ∀ (t : State) (y : Parcel), (t.rvSend p y).cseq = t.cseq := fun t y => by rw [((RvKept.refl t).rvSend p y).rest]
  have hreads : ∀ b : Prop, [Decidable b] → (if b then s.sigReads c false else s).cseq = s.cseq := fun b _ => by
    rw [apply_ite State.cseq, (FuseKept.refl s).sigReads.rest, ite_self]
  unfold State.command
  dsimp only
  by_cases hr : s.commandResult c = 0
  · simp only [hr, ne_eq, not_true, if_false, if_true, apply_ite State.cseq, State.recognise_cseq, ite_self, hsend]
  · simp only [hr, ne_eq, not_false_eq_true, if_false, if_true, hsend, State.report_cseq, hreads]

/-- What a refused command leaves: CSEQ, the reset controller and the other halves. -/
theorem exec_rvCommand_refused {h : Parcel} {c : List Byte} {r : Nat} (hr : s.rlvLive = true) (hq : s.rv.inq = (p, x) :: l)
    (ht : x.type = 0x20) (hb : pBcast x = false) (hh : s.isHere x.dst = true) (hx : x.seq = 1)
    (hf : (s.rv.halves.find? fun h => decide (h.src = x.src)) = some h) (hc : c = h.payload ++ x.payload)
    (hlen : c.length = 8192) (hid : sliceB c 0x10 48 = s.deviceId) (hres : s.commandResult c = r) (h12 : r = 1 ∨ r = 2)
    (hup : (s.rvPort p).up = true) :
    RunsTo .rvCommand s fun t => t.cseq = s.cseq ∧ t.rv.halves = s.rv.halves.filter (fun h => decide (h.src ≠ x.src)) ∧
      t.seq = s.seq ∧ ∃ z, t.outputs = s.outputs ++ [.parcel p z] ∧ z.type = 0x21 ∧ z.dst = x.src ∧
        z.payload = beBytes 8 (ofBe (sliceB c 0x48 8)) ++ [BitVec.ofNat 8 r, 0, 0, 0] := by
  have hkept : RvKept (s.halvesTaken l x) ((s.halvesTaken l x).report 0 0xC007 (b2n p)) := (RvKept.refl _).report
  have hup' : (((s.halvesTaken l x).report 0 0xC007 (b2n p)).rvPort p).up = true := by
    rw [State.rvPort_congr (State.report_rv _ _ _ _)]
    exact hup
  refine ⟨_, (exec_rvCommand_second hr hq ht hb hh hx hf hc hlen hid).trans (congrArg Host.Outcome.next
    (State.command_refused ((s.halvesTaken_result l x c).trans hres) h12)), ?_, ?_, ?_, _,
    (State.rvSend_outputs _ hup').trans (by rw [State.report_outputs]; rfl), rfl, rfl, rfl⟩
  · rw [(hkept.rvSend p _).rest]
    rfl
  · rw [State.rvSend_rv, State.report_rv]
    rfl
  · rw [(hkept.rvSend p _).rest]
    rfl

/-- A write of RV_TXPTR that adds one entry sends it. -/
theorem transmitParcel_message {req : Requester} {v : Word} {l : Stores} {h : Nat} {u : State} (ho : s.RlvOpen req)
    (h0 : fromDie0 req = true) (hu : u = s.stores l) (hh : h = s.getF Fld.RV_TXPTR_HEAD 0)
    (hv : Fld.RV_TXPTR_TAIL.of v = (h + 1) % 32) (hx : x = u.txParcel h) (ht : x.type = 0x30) (hb : pBcast x = false)
    (hp : p = decide (s.rvPos < x.dst)) (hup : (s.rvPort p).up = true) :
    RunsTo (.transmitParcel req v l) s fun t => t.getF Fld.RV_TXPTR_HEAD 0 = (h + 1) % 32 ∧
      t.getF Fld.RV_TXPTR_TAIL 0 = (h + 1) % 32 ∧ t.sram = u.sram ∧
      t.outputs = s.outputs ++ [.parcel p { x with lseq := BitVec.ofNat 8 (s.rvPort p).tx }] := by
  have hhead : u.getF Fld.RV_TXPTR_HEAD 0 = h := by rw [hu, State.stores_getF, hh]
  have hpos : u.rvPos = s.rvPos := by rw [hu, State.rvPos, State.stores_getF, State.rvPos]
  have hports : ∀ q, u.rvPort q = s.rvPort q := State.rvPort_congr (by rw [hu, State.stores_eq])
  have houtputs : u.outputs = s.outputs := by rw [hu, State.stores_eq]
  have hshown : u.OnlyRegs (u.tailShown h) fun n _ => decide (n = .RV_TXPTR) := (State.OnlyRegs.refl u _).setF rfl
  have hentry : (u.tailShown h).txParcel h = x := by
    rw [hx]
    exact State.txParcel_congr (hshown.sameSram rfl) (hshown.2 _ _ rfl) (State.getF_eq_of_rd (hshown.2 _ _ rfl)) h
  have hnext : (u.tailShown h).getF Fld.RV_TXPTR_HEAD 0 = h :=
    (State.getF_setF_apart _ _ _ _ _ _ (by decide) (by decide)).trans hhead
  have hsent : (u.tailShown h).txNext = ((u.tailShown h).setF Fld.RV_TXPTR_HEAD 0 ((h + 1) % 32)).rvSend p x := by
    have hplace : (u.tailShown h).rvPos = s.rvPos := (State.getF_eq_of_rd (hshown.2 _ _ rfl)).trans hpos
    rw [State.txNext_message (by rw [hnext, hentry, ht]) (by rw [hnext, hentry, hb]), hnext, hentry, hplace, hp]
  have hwrite : (s.stores l).writeRvTxptr req v = ((u.tailShown h).setF Fld.RV_TXPTR_HEAD 0 ((h + 1) % 32)).rvSend p x := by
    rw [← hu, State.writeRvTxptr_one h0 (by rw [hhead, hv]), hhead, hsent]
  have hport : ((u.tailShown h).setF Fld.RV_TXPTR_HEAD 0 ((h + 1) % 32)).rvPort p = s.rvPort p := by
    rw [State.rvPort_congr ((State.setF_rv _ _ _ _).trans (u.tailShown_rv h)), hports]
  have hup' : (((u.tailShown h).setF Fld.RV_TXPTR_HEAD 0 ((h + 1) % 32)).rvPort p).up = true := by rw [hport, hup]
  refine ⟨_, congrArg Host.Outcome.next ((State.rlvAccess_open _ ho).trans hwrite), ?_, ?_, ?_, ?_⟩
  · rw [State.rvSend_getF _ _ _ _ _ rfl, State.getF_setF_same _ _ _ _ (by decide)]
    exact Nat.mod_mod _ _
  · rw [State.rvSend_getF _ _ _ _ _ rfl, State.getF_setF_apart _ _ _ _ _ _ (by decide) (by decide), State.tailShown,
      State.getF_setF_same _ _ _ _ (by decide)]
    exact Nat.mod_mod _ _
  · rw [((RvKept.refl _).rvSend p x).rest, State.setF_sram, State.tailShown_sram]
  · rw [State.rvSend_outputs x hup', State.setF_outputs, State.tailShown_outputs, houtputs, hport]
    rfl

end

/-- Settles O47: parcels for firmware go through the rings, and a signed command through its two halves. -/
theorem firmwareParcels : Obligations.FirmwareParcels := by
  unfold Obligations.FirmwareParcels
  refine ⟨fun p x l n a c s hr hq hlen hb hh hn ha hroom hc => ?_, fun p x l n c s hr hq hb hh hn hfull hc => ?_,
    fun p x l c s hr hq hb hh hup hc => ?_, fun p x l s hr hq ht hf => ?_,
    fun req v l x h p s u ho h0 hu hh hv hx ht hb hp hup => ?_,
    fun req v l s ho h0 => ?_, fun p x l s => exec_rvCommand_first,
    fun p x h c l s hr hq ht hb hh hx hf hc hlen hid hoff hup => ?_,
    fun p x h c l s hr hq ht hb hh hx hf hc hlen hid hi hce hre hold hup => ?_,
    fun p x h c l s hr hq ht hb hh hx hf hc hlen hid => ?_, fun req s hf => ?_⟩
  · subst hn ha
    have hdeliver := State.rvDeliver_room (s := s.inqLeft l) (x := x) (o := some p) hroom
    refine ⟨_, (exec_firmwareParcel hr hq hc).trans (congrArg Host.Outcome.next
      ((State.rvFirmware_here (s := s.inqLeft l) hb hh).trans hdeliver)),
      ?_, ?_, ?_, fun o ho => ?_⟩
    · rw [State.setF_rv, State.rvStored_eq]
      rfl
    · rw [State.getF_setF_same _ _ _ _ (by decide)]
      exact Nat.mod_eq_of_lt (Nat.lt_of_lt_of_le (Nat.mod_lt _ (Nat.two_pow_pos _)) s.rvRxSize_le)
    · rw [State.setF_outputs, State.rvStored_eq]
      rfl
    · rw [((State.OnlyRegs.refl _ fun n _ => decide (n = .RV_RXPTR)).setF rfl).sameSram rfl]
      exact (s.inqLeft l).rvStored_read hlen ho
  · subst hn
    have hkept : RvKept s ((s.inqLeft l).report 0 0xC008 (b2n p)) := (s.inqLeft_kept l).report
    have hdeliver := State.rvDeliver_full (s := s.inqLeft l) (x := x) (p := p) hfull
    refine ⟨_, (exec_firmwareParcel hr hq hc).trans (congrArg Host.Outcome.next
      ((State.rvFirmware_here (s := s.inqLeft l) hb hh).trans hdeliver)),
      ?_, hkept.sameSram, hkept.rd _ 0 rfl (by decide) (by decide), State.rvFault_bit _ (b := 7) (by decide)⟩
    rw [State.report_rv]
    rfl
  · refine ⟨_, (exec_firmwareParcel hr hq hc).trans (congrArg Host.Outcome.next
      (State.rvFirmware_away (s := s.inqLeft l) hb hh)), ?_,
      ((s.inqLeft_kept l).rvSend _ _).sameSram, State.rvSend_outputs _ hup⟩
    rw [State.rvSend_inq]
    rfl
  · exact exec_rvIdent_closed hr hq ht hf
  · exact transmitParcel_message ho h0 hu hh hv hx ht hb hp hup
  · exact congrArg Host.Outcome.next ((State.rlvAccess_open _ ho).trans (if_pos (by rw [h0]; rfl)))
  · have hres : s.commandResult c = 1 := if_pos (by simpa using hoff.imp id .inl)
    exact exec_rvCommand_refused hr hq ht hb hh hx hf hc hlen hid hres (.inl rfl) hup
  · have hres : s.commandResult c = 2 := (if_neg (by simp [hi, hce, hre])).trans (if_pos hold)
    obtain ⟨t, hexec, hcseq, hhalves, hseq, z, hout, htype, _, hpay⟩ :=
      exec_rvCommand_refused hr hq ht hb hh hx hf hc hlen hid hres (.inr rfl) hup
    exact ⟨t, hexec, hcseq, hhalves, hseq, z, hout, htype, hpay⟩
  · exact ⟨_, exec_rvCommand_second hr hq ht hb hh hx hf hc hlen hid, State.command_cseq _ p x.src c⟩
  · refine ⟨_, congrArg Host.Outcome.next (State.aonAccess_open _ hf), rfl, ?_, ?_, rfl⟩
    · rw [State.answer, State.emit_rd, State.readCseq, State.rd_wr_other _ _ _ _ _ _ (.inr (by decide)), State.rd_wr_same]
    · rw [State.answer, State.emit_rd, State.readCseq, State.rd_wr_same]

end Sys2Proof.Machine
